-- ==== Sys2Proof/Word.lean ====
section
/-! DEFINITION. The plainest types of the model: a byte, a list of bytes, and a sparse map held as plain data.
A `Sparse α` lists (key, value) pairs with strictly rising keys and no value equal to what an unlisted key
reads as; `Machine/Sparse.lean` reads and writes it, and `Laws/Sparse.lean` proves that every write keeps that form. -/

namespace Sys2Proof

/-- One byte (R35: every multi-byte value is little-endian bytes). -/
abbrev Byte := BitVec 8

/-- A byte string on a wire or in a DOMAIN object. -/
abbrev Bytes := List Byte

/-- A map from Nat to α in canonical form: rising keys, default values left out. -/
abbrev Sparse (α : Type) := List (Nat × α)

end Sys2Proof
end

