-- ==== Sys2Proof/Commands.lean ====
section
/-! DEFINITION. The operand records that several commands of `Instr` share: who sent a datagram, the head of a FOP request, a whole FOP request, and the frames and samples that reach the block from outside. -/

namespace Sys2Proof

/-- A network peer: source address and UDP source port (R50: the key of a client-table entry).
An IPv4 address stands in the low 32 bits. -/
structure Peer where
  v6   : Bool
  addr : BitVec 128
  port : BitVec 16
  deriving DecidableEq, Repr

/-- The part of a FOP request (R48) that does not name its object: the sender, Version, Transaction ID. Flags carry no meaning for the device (R48, R11). -/
structure FopHead where
  peer    : Peer
  version : BitVec 8
  tid     : BitVec 16
  deriving DecidableEq, Repr

/-- A FOP request with a sound magic, length and CRC (R49 step 1): head, object, payload. -/
structure FopMsg where
  head    : FopHead
  index   : BitVec 16
  sub     : BitVec 8
  payload : Bytes
  deriving DecidableEq, Repr

/-- What a checked read found (R339, R344): nothing wrong, an error restored from the class's recovery source, an error it could not restore. -/
inductive Restored | clean | corrected | lost
  deriving DecidableEq, Repr

/-- Parity errors that readout finds when it fetches a slice (R203): none, in the dose, in the trailer. -/
inductive ReadFault | clean | dose | trailer
  deriving DecidableEq, Repr

/-- A word that is reloaded from its backing copy: a byte of SC code and data from flash (table 0, by its offset; R28, R345), or a table word (R189): table 1 tone, 2 gain and offset, 3 jet map, 4 darning, 5 screen; entry; of the retained generation. -/
structure TableWord where
  table : Fin 6
  entry : BitVec 32
  retained : Bool
  deriving DecidableEq, Repr

/-- Where a placed request meets a parity error (R116, R345): the host receive buffers (M0), the ring memory (M7), the session buffers (M11). -/
inductive LostAt | receive | ring | session
  deriving DecidableEq, Repr

/-- A rising edge of TCK (R464): TMS, TDI, TRST_N, and the levels that the boundary cells see. -/
structure TapClock where
  tms   : Bool
  tdi   : Bool
  trstN : Bool
  cells : List Bool
  deriving DecidableEq, Repr

/-- What the pins bring at a release of POR_N (R408, R461, R464): the boot straps, the edges of TCK that came while POR_N was low, and those that follow while it is high. -/
structure ResetPins where
  straps : Fin 8
  low    : List TapClock
  high   : List TapClock
  deriving DecidableEq, Repr

/-- A head port takes the next descriptor of its command ring (R263), which reads with a parity error or not (R71). -/
structure PortTake where
  port : Fin 16
  bad  : Bool
  deriving DecidableEq, Repr

/-- A DMA channel takes the next descriptor of its ring (R360), which reads with a parity error or not (R71). -/
structure ChannelTake where
  channel : Fin 32
  bad     : Bool
  deriving DecidableEq, Repr

/-- A decoder that waits for input (R155), with the words of its block that are there. -/
structure InputStall where
  decoder : Fin 16
  words   : BitVec 32
  deriving DecidableEq, Repr

/-- A decoder that waits for room (R156), with the samples that the cache has taken and the words of its block that are there. -/
structure OutputStall where
  decoder : Fin 16
  samples : BitVec 32
  words   : BitVec 32
  deriving DecidableEq, Repr

/-- Sync headers that arrive on a link (R246). -/
structure LinkHeaders where
  link    : Fin 20
  headers : List (BitVec 2)
  deriving DecidableEq, Repr

/-- A CAPS block as it arrives (R251): its sync header, and its payload. -/
structure CapsBlock where
  control : Bool
  body    : BitVec 64
  deriving DecidableEq, Repr

/-- A datagram that reaches a host port (R103, R104): port, sender, UDP destination port, whether it is an IP fragment, its payload.
`lost`: the requests in which a parity error is found once they are placed, by number, with the storage class it is found in (R116). -/
structure MspPacket where
  he       : Fin 2
  peer     : Peer
  dstPort  : BitVec 16
  fragment : Bool
  payload  : Bytes
  lost     : List (BitVec 32 × LostAt)
  deriving DecidableEq, Repr

/-- A request that a client hands to a DRAM subchannel (R324): burst address, bank (rank and bank), row, real-time, write, data. -/
structure Arrival where
  addr  : BitVec 40
  bank  : BitVec 6
  row   : BitVec 18
  real  : Bool
  write : Bool
  data  : Bytes
  deriving DecidableEq, Repr

/-- Outcome of the training stages of a subchannel (R330, R331): its stages before the margin check passed, worst margins, load occupancy, oscillator value. -/
structure TrainResult where
  good  : Bool
  delay : BitVec 16
  ref   : BitVec 16
  load  : BitVec 8
  osc   : BitVec 32
  deriving DecidableEq, Repr

/-- What reaches a position source (R214, R216): the levels at the A and B pins of an encoder, or a moment at which due counts are looked at. -/
inductive CountIn
  | levels (e : Fin 2) (a b : Bool)
  | source
  deriving DecidableEq, Repr

/-- Head of a PTP message (R300): port it came in on, transport, domain number, source port identity, sequence, correctionField. -/
structure PtpHead where
  fn        : Fin 2
  transport : Fin 3
  domain    : BitVec 8
  src       : BitVec 80
  seq       : BitVec 16
  corr      : BitVec 64
  deriving DecidableEq, Repr

/-- Body of a Sync: two-step, logSyncInterval, origin timestamp (48 bits of seconds, 32 of nanoseconds). -/
structure SyncBody where
  twoStep : Bool
  logInterval : BitVec 8
  origin  : BitVec 80
  deriving DecidableEq, Repr

/-- Body of an Announce (R301): the data set of its grandmaster. -/
structure AnnounceBody where
  priority1 : BitVec 8
  cls       : BitVec 8
  accuracy  : BitVec 8
  variance  : BitVec 16
  priority2 : BitVec 8
  identity  : BitVec 64
  deriving DecidableEq, Repr

/-- Byte 1 of a seam block (R433): origin, hops, VALID. -/
structure SeamHead where
  origin : Fin 8
  hops   : Fin 8
  valid  : Bool
  deriving DecidableEq, Repr

/-- An SMSG frame (R433) but its kind: lane, sequence, target, byte count, data, whether its CRC is right. -/
structure SeamMsg where
  lane   : Fin 4
  seq    : BitVec 8
  target : BitVec 8
  count  : BitVec 8
  body   : Bytes
  good   : Bool
  deriving DecidableEq, Repr

/-- A self-test of bring-up (R414): the codec, a raster cluster. -/
inductive SelfTest
  | codec
  | cluster (c : Fin 4)
  deriving DecidableEq, Repr

/-- A frame of the recovery UART (R427) but its type: body, whether its length and CRC are right. -/
structure UartFrame where
  body : Bytes
  good : Bool
  deriving DecidableEq, Repr

end Sys2Proof
end

