-- ==== Sys2Proof/Syntax.lean ====
section
/-! DEFINITION. The commands of the block: one constructor per row of the opcode table, in its order. -/

namespace Sys2Proof

/-- A command: a request, an arrival, an edge, or an event that the device itself brings about (R13). -/
inductive Instr
  /-- READ (R51): FOP READ request: the device checks the datagram under R49 and returns the object's value. -/
  | read (m : FopMsg)
  /-- WRITE (R36): FOP WRITE of an object that has no row of its own: the value takes effect in one step before the reply. -/
  | write (m : FopMsg)
  /-- SEG_READ_INIT (R56): Opens a segmented read of a DOMAIN object and returns a handle and the total size. -/
  | segReadInit (m : FopMsg)
  /-- SEG_READ_DATA (R56): Reads one segment of an open segmented read at the given offset. -/
  | segReadData (m : FopMsg)
  /-- SEG_WRITE_INIT (R55): Opens a segmented write with a shadow copy and locks the object. -/
  | segWriteInit (m : FopMsg)
  /-- SEG_WRITE_DATA (R54): Places a segment into the shadow if it is at the next expected offset, answers a repeat with OK, or answers SEQUENCE. -/
  | segWriteData (m : FopMsg) (behind : BitVec 8)
  /-- SEG_END (R54): Ends a segmented transfer: for a write it checks the CRC and idle condition and commits the shadow; for a read it returns the CRC or CHANGED. -/
  | segEnd (m : FopMsg)
  /-- SEG_ABORT (R55): Aborts a segmented transfer, discarding its shadow and releasing its lock. -/
  | segAbort (m : FopMsg)
  /-- SUBSCRIBE (R58): Takes or releases a notification slot for the requesting client. -/
  | subscribe (m : FopMsg)
  /-- RANGE_READ (R57): Reads 1 to 1,024 bytes at an offset of a ranged DOMAIN object. -/
  | rangeRead (m : FopMsg)
  /-- RANGE_WRITE (R57): Writes 1 to 1,024 bytes at an offset of a ranged DOMAIN object, with no shadow. -/
  | rangeWrite (m : FopMsg)
  /-- NOTIFY_ACKNOWLEDGEMENT (R51): A client's 0xC0 reply acknowledges an outstanding NOTIFY; one that matches none is ignored. -/
  | notifyAck (peer : Peer) (tid : BitVec 16)
  /-- FOP_DATAGRAM_DROPPED (R49): A datagram that fails the magic, length or CRC check, or the allow list, is dropped without reply and counted. -/
  | fopDatagramDropped (src : Peer) (bytes : Bytes)
  /-- CLIENT_ENTRY_RELEASE (R50): A client-table entry with no message for 60 s, no open transfer and no subscription is released. -/
  | clientEntryRelease (src : Peer)
  /-- REPLY_CACHE_EXPIRY (R50): A cached reply is discarded after 5 s. -/
  | replyCacheExpiry (src : Peer) (tid : BitVec 16)
  /-- SEG_TRANSFER_TIMEOUT (R55): A segmented transfer with no message for 2,000 ms is aborted. -/
  | segTransferTimeout (handle : BitVec 16)
  /-- NOTIFY_SEND (R58): A waiting notification is sent as NOTIFY once fewer than 8 are unacknowledged. -/
  | notifySend (slot : Fin 4)
  /-- NOTIFY_RESEND (R58): An unacknowledged NOTIFY is resent after 100 ms, or is dropped after its fourth send, raising E254. -/
  | notifyResend (slot : Fin 4) (tid : BitVec 16)
  /-- EVENT_CLEAR (R61): The Clear command of an event source clears Pending. -/
  | eventClear (h : FopHead) (n : BitVec 8)
  /-- SETTINGS_SAVE (R38): Settings command 1 starts writing all S objects to the settings copy that does not hold the newest valid set. -/
  | settingsSave (h : FopHead)
  /-- SETTINGS_ERASE (R39): Settings command 2 starts erasing both settings copies. -/
  | settingsErase (h : FopHead)
  /-- SETTINGS_OPERATION_COMPLETE (R39): A save or erase finishes, setting the settings state to idle or to failed. -/
  | settingsOperationComplete (good : Bool)
  /-- QUEUE_ALLOCATE (R72): Queue command 1 allocates the queue with the size in :01, or is refused. -/
  | queueAllocate (h : FopHead) (q : BitVec 8)
  /-- QUEUE_RELEASE (R72): Queue command 2 releases an empty allocated queue, or is refused. -/
  | queueRelease (h : FopHead) (q : BitVec 8)
  /-- PRODUCER_INDEX_WRITE (R69): A software write of PI is accepted or refused with RANGE and E252 cause 4. -/
  | producerIndexWrite (h : FopHead) (q : BitVec 8) (v : BitVec 32)
  /-- CONSUMER_INDEX_WRITE (R69): A software write of CI is accepted or refused when it moves backward or past PI. -/
  | consumerIndexWrite (h : FopHead) (q : BitVec 8) (v : BitVec 32)
  /-- UNIT_TAKE_OUT (R31): Unit command 1 moves the selected unit to DRAINING and starts its drain, or is refused. -/
  | unitTakeOut (h : FopHead)
  /-- UNIT_RETURN (R31): Unit command 2 moves an OUT unit to RETURNING and starts its bring-up, or is refused. -/
  | unitReturn (h : FopHead)
  /-- DRAIN_COMPLETE (R32): The drain of a unit finishes and the unit enters OUT. -/
  | drainComplete (unit : BitVec 16)
  /-- BRING_UP_PASSES (R31): A RETURNING unit passes its bring-up and returns to IN_SERVICE. -/
  | bringUpPasses (unit : BitVec 16)
  /-- BRING_UP_FAILS (R31): A RETURNING unit fails or times out in its bring-up and goes back to OUT with result 4. -/
  | bringUpFails (unit : BitVec 16)
  /-- POWER_REQUEST_DEEP (R388): A request for DEEP is accepted and runs the entry sequence, or is refused. -/
  | powerRequestDeep (h : FopHead)
  /-- POWER_REQUEST_KEEP (R388): A request for KEEP is accepted and runs the entry sequence, or is refused. -/
  | powerRequestKeep (h : FopHead)
  /-- POWER_REQUEST_IDLE (R388): A request for IDLE moves RUN to IDLE unless a page is RELEASED or PRINTING. -/
  | powerRequestIdle (h : FopHead)
  /-- POWER_REQUEST_RUN (R388): A request for RUN moves IDLE to RUN. -/
  | powerRequestRun (h : FopHead)
  /-- WAKE_N (R390): WAKE_N held low for at least t_WK wakes the device from KEEP or DEEP. -/
  | wakeN
  /-- RTC_ALARM (R390): The AON counter reaches the alarm and wakes the device. -/
  | rtcAlarm
  /-- WAKE_FRAME (R390): A FOP WRITE of 3 to 0x0030:01 received in KEEP wakes the device without a reply. -/
  | wakeFrame (h : FopHead)
  /-- OBJECT_CREATE (R124): Creates a stash object with its attributes and charges the stash quota. -/
  | objectCreate (n : Fin 64)
  /-- OBJECT_DATA (R125): Writes tile bytes into a stash object; a completed tile is decoded or encoded before its REPLY. -/
  | objectData (n : Fin 64)
  /-- OBJECT_DATA_REPAIR (R126): OBJECT_DATA with REPAIR set restores a lost tile. -/
  | objectDataRepair (n : Fin 64)
  /-- OBJECT_DELETE (R125): Frees an unpinned object and returns its charge, or is refused with PINNED. -/
  | objectDelete (n : Fin 64)
  /-- GROUP_DEFINE (R87): Defines or redefines a group after checking its own fields. -/
  | groupDefine (n : Fin 64)
  /-- PAGE_DEFINE (R87): Checks a page definition as a whole, then creates a DEFINED page with a page number and pins, or replies with the reason. -/
  | pageDefine (n : Fin 64)
  /-- RENDER (R127): After the quota, size and completion-slot checks, appends a DEFINED page to the print queue as WAITING. -/
  | render (n : Fin 64)
  /-- FROG (R91): A session's frog request cancels its page as the page state allows. -/
  | frog (n : Fin 64)
  /-- QUERY (R123): Returns the page number and state of a page. -/
  | query (n : Fin 64)
  /-- READBACK (R128): Reads dose lines of one port from a held page and returns them as QTC blocks, then the REPLY. -/
  | readback (n : Fin 64)
  /-- CLOSE_REQ (R131): Host request to close the session, answered by a REPLY and a CLOSE with reason HOST. -/
  | closeReq (n : Fin 64)
  /-- MSP_PACKET (R111): A host packet is validated, handled by its PSN against the window, its Ack, SACK and Credit limit are taken in, and its records are placed. -/
  | mspPacket (pk : MspPacket)
  /-- OPEN (R119): An OPEN record is checked and answered by CHALLENGE with a new pending entry, or by REJECT. -/
  | open_ (pk : MspPacket)
  /-- PROOF (R120): A PROOF record is checked, and the session is allocated and answered by ACCEPT, or the PROOF is answered by REJECT. -/
  | proof (pk : MspPacket)
  /-- ACK_TIMER (R112): 50 µs after an accepted packet, the device sends its acknowledgement, as an ack-only packet if it has nothing else to send. -/
  | ackTimer (n : Fin 64)
  /-- RETRANSMIT_TIMEOUT (R112): An unacknowledged packet is retransmitted with the timeout doubled, or the session is closed UNREACHABLE at the retransmit limit. -/
  | retransmitTimeout (n : Fin 64) (psn : BitVec 32)
  /-- KEEP_ALIVE_TIMEOUT (R130): No valid packet from the host for T closes the session with reason TIMEOUT. -/
  | keepAliveTimeout (n : Fin 64)
  /-- IDLE_ACK_SEND (R130): After T/4 without sending, the device sends an ack-only packet. -/
  | idleAckSend (n : Fin 64)
  /-- PENDING_ENTRY_EXPIRY (R118): A pending open entry expires 1,000 ms after CHALLENGE or ACCEPT; an unused accepted session closes with TIMEOUT. -/
  | pendingEntryExpiry (handle : BitVec 32)
  /-- SLOT_LOCK_EXPIRY (R120): A credential slot locked after eight AUTH failures is unlocked after 10 s. -/
  | slotLockExpiry (slot : Fin 16)
  /-- SESSION_CLOSE_COMMAND (R131): Press control closes a session with reason PRESS_CONTROL. -/
  | sessionCloseCommand (h : FopHead) (n : Fin 64)
  /-- CREDENTIAL_ENABLE_WRITE (R134): A write of Enable 0 to a credential slot closes the slot's sessions with reason CREDENTIAL. -/
  | credentialEnableWrite (h : FopHead) (slot : Fin 16) (v : BitVec 8)
  /-- CLOSE_RESEND (R131): The unsequenced CLOSE notice is sent three times at 1 ms intervals. -/
  | closeResend (n : Fin 64)
  /-- COMPLETION_SEND (R114): A completion held in the ring is sent once the host's Credit limit and free unreserved slots allow it. -/
  | completionSend (n : Fin 64)
  /-- HOST_MODE_WRITE (R102): A write of a host port mode restarts that port at once. -/
  | hostModeWrite (h : FopHead) (he : Fin 2) (v : BitVec 8)
  /-- HOST_LINK_CHANGE (R102): A host port link comes up or goes down, raising E072 or E073. -/
  | hostLinkChange (he : Fin 2) (link : BitVec 8)
  /-- ARP_REQUEST (R103): The device answers ARP on IPv4. -/
  | arpRequest (port : Fin 3) (mac : BitVec 48) (ip : BitVec 32) (target : BitVec 32)
  /-- NEIGHBOUR_DISCOVERY (R103): The device answers IPv6 neighbour discovery. -/
  | neighbourDiscovery (he : Fin 2) (mac : BitVec 48) (src : BitVec 128) (target : BitVec 128)
  /-- FIELD_LINK_CHANGE (R46): An FN0 or FN1 PHY link comes up or goes down, or is refused as half duplex. -/
  | fieldLinkChange (fn : Fin 2) (link : BitVec 8)
  /-- PASS_THROUGH_FORWARD (R46): A frame not addressed to the device, or broadcast or multicast, is forwarded to the other FN port. -/
  | passThroughForward (fn : Fin 2) (dst : BitVec 48) (frame : Bytes)
  /-- TILE_CODEC_COMPLETE (R125): The upload decode or encode of a completed tile ends, and the REPLY to its last record follows. -/
  | tileCodecComplete (n : Fin 64)
  /-- DECODE_COMPLETE (R151): A decoder finishes a block: valid samples are kept, or an error is raised under R151. -/
  | decodeComplete (d : Fin 16) (bad : Bool)
  /-- INPUT_STALL_RESUME (R155): A decoder stalled for input resumes when stash words arrive. -/
  | inputStallResume (d : InputStall)
  /-- OUTPUT_STALL_RESUME (R156): A decoder stalled on output resumes from its kept state when cache space is granted. -/
  | outputStallResume (d : OutputStall)
  /-- ENCODE_BLOCK_COMPLETE (R159): An encoder finishes a block for a raw tile or a readback. -/
  | encodeBlockComplete (e : Fin 4)
  /-- RENDER_START (R22): The next WAITING page whose line slots are free, with no swap pending, enters RENDERING and binds the active generation. -/
  | renderStart
  /-- WALKER_LINE (R167): The chart walker broadcasts the spans of one line once it is within 64 lines of the slowest pipeline. -/
  | walkerLine (chart : Restored)
  /-- PIPELINE_LINE (R163): A pipeline completes one line of its strip through every stage, stalling for tiles or reloads. -/
  | pipelineLine (k : Fin 32) (waited : BitVec 32) (cache : Restored)
  /-- LAST_STRIP_WRITTEN (R91): The last strip of a page render is written and the page becomes RENDERED. -/
  | lastStripWritten
  /-- VERIFY_PASS_END (R201): The verify pass ends, and the page becomes VERIFIED, is re-rendered or fails. -/
  | verifyPassEnd (bad : List Nat)
  /-- PAGE_RELEASE (R23): A VERIFIED page that meets the release conditions becomes RELEASED with its start position fixed. -/
  | pageRelease
  /-- QUEUE_FROG (R97): Press-control command 1 frogs the target page. -/
  | queueFrog (h : FopHead)
  /-- QUEUE_MOVE_BEFORE (R97): Press-control command 2 moves the target page before the reference page. -/
  | queueMoveBefore (h : FopHead)
  /-- QUEUE_MOVE_TO_TAIL (R97): Press-control command 3 moves the target page to the queue tail. -/
  | queueMoveToTail (h : FopHead)
  /-- PAGE_STORE_SIZE_WRITE (R197): A write of the page-store size fails every WAITING page that no longer fits. -/
  | pageStoreSizeWrite (h : FopHead) (v : BitVec 32)
  /-- BUILD_CLONE (R185): Build command 1 gives up the retained generation and copies the active tables into the build. -/
  | buildClone (h : FopHead)
  /-- BUILD_COMMIT (R185): Build command 2 starts the commit checks. -/
  | buildCommit (h : FopHead)
  /-- BUILD_DISCARD (R185): Build command 3 empties the build. -/
  | buildDiscard (h : FopHead)
  /-- CLONE_COMPLETE (R185): The clone copy ends and the build becomes BUILDING. -/
  | cloneComplete
  /-- COMMIT_CHECKS_COMPLETE (R186): The commit checks end: the build returns to BUILDING with E181, or becomes PENDING after the backing copy. -/
  | commitChecksComplete
  /-- GENERATION_SWAP (R187): At a page-render boundary a pending build becomes the active generation, and the old active becomes retained. -/
  | generationSwap
  /-- DEVICE_BUILD (R188): Once the build is EMPTY, the device builds for a port drain, a port return or dropped stitches. -/
  | deviceBuild
  /-- CLEAR_PENDING (R190): Command to 0x4020:08 clears the pending map and list. -/
  | clearPending (h : FopHead)
  /-- TABLE_RELOAD_COMPLETE (R189): A table or screen word with a parity error is reloaded from its backing copy, or is found uncorrectable and marks the generation invalid. -/
  | tableReloadComplete (w : TableWord) (good : Bool)
  /-- NOT_HIDDEN_HOLD_END (R192): A held page's slack falls to the margin, and the page renders marked jet not hidden with E184. -/
  | notHiddenHoldEnd
  /-- SLICE_FETCH (R25): Readout fetches a module's slice into its FIFO quarter and computes the slice CRC. -/
  | sliceFetch (p : Fin 16) (k : Fin 4) (fault : ReadFault)
  /-- IN_PRINT_REPAIR_START (R204): A waiting in-print repair of one line starts when its turn comes and its time condition holds, or is dropped. -/
  | inPrintRepairStart
  /-- IN_PRINT_REPAIR_COMPLETE (R204): A repair writes the line with REPAIRED set, readout refetches and proves it, and E190 is raised. -/
  | inPrintRepairComplete
  /-- SLICE_SEND (R254): A head port starts sending a module's LINE frame once the slice is in the FIFO, earlier lines are sent and a slot is free. -/
  | sliceSend (p : Fin 16) (k : Fin 4) (bad : Bool)
  /-- SEND_DEADLINE (R203): At the send deadline a missing slice is sent blank, spoiling the instance with FIFO_UNDERRUN. -/
  | sendDeadline (p : Fin 16) (k : Fin 4)
  /-- ECHO (R260): An uplink ECHO is matched and compared, leading to a match, a retransmission, a spoil, a late echo or a stray echo. -/
  | echo (p : Fin 16) (k : Fin 4) (tag : BitVec 16) (crc : BitVec 32)
  /-- WITHDRAWN_SLICE_FREE (R254): For a sent line that will not fire, a FIRE block with all segments disabled frees its far-end slot. -/
  | withdrawnSliceFree (p : Fin 16) (k : Fin 4)
  /-- FIRE_INSTANT (R226): At t_out a module sends its FIRE marker, and overspeed, spoils, missing echoes and cast-on and bind-off are settled for the line. -/
  | fireInstant (p : Fin 16) (k : Fin 4)
  /-- REVERIFY_LINE (R211): After a line has fired on every module, the verify engine re-checks it before the next instance needs it. -/
  | reverifyLine (page : BitVec 32) (line : BitVec 32) (bad : Bool)
  /-- SPOIL_N_LOW (R209): SPOIL_N goes low when the row counter reaches the window start, or at once for a late decision. -/
  | spoilNLow
  /-- SPOIL_N_HIGH (R209): SPOIL_N returns high at the end of the window in row-counter lines. -/
  | spoilNHigh
  /-- SPOIL_N_PULSE_END (R209): A SPOIL_N pulse ends after the pulse width in device time. -/
  | spoilNPulseEnd
  /-- POSITION_COUNT (R219): A count from the position source is tracked as a new high, an excursion or a reversal, and advances the line clock. -/
  | positionCount (i : CountIn)
  /-- ENCODER_INDEX (R217): A gated rising Z edge latches the count and time, raises E196 and writes a capture descriptor. -/
  | encoderIndex (e : Fin 2)
  /-- SUB_TICK_REACHED (R223): With interpolation on, the estimated position reaches a sub-tick between counts. -/
  | subTickReached
  /-- POSITION_SOURCE_WRITE (R214): A change of position source or source axis re-anchors the tracker. -/
  | positionSourceWrite (h : FopHead) (axis : Bool) (v : BitVec 8)
  /-- SET_ROW_COUNTER (R221): The set command moves the line-clock origin so that the written line begins at H, or is refused. -/
  | setRowCounter (h : FopHead)
  /-- LINE_PITCH_WRITE (R224): A change of line pitch keeps the present sub-tick position by moving the origin. -/
  | linePitchWrite (h : FopHead) (v : BitVec 32)
  /-- PRINT_MODE_WRITE (R2): A change between single-pass and shuttle mode is refused while pages are active, and otherwise sets the sequencer IDLE. -/
  | printModeWrite (h : FopHead) (v : BitVec 8)
  /-- TENSION_COMMIT (R232): The tension commit checks the build tables and replaces the active set between fire decisions. -/
  | tensionCommit (h : FopHead)
  /-- TEMP (R257): An uplink TEMP block updates the segment temperatures. -/
  | temp (p : Fin 16) (k : Fin 4) (t : BitVec 48)
  /-- TEMPERATURE_REPORT_STALE (R231): A segment without a report for the stale time uses its table's stale count, raising E199. -/
  | temperatureReportStale (seg : BitVec 8)
  /-- SEQUENCER_ARM (R235): Sequencer command 1 arms pass 0 in shuttle mode. -/
  | sequencerArm (h : FopHead)
  /-- SEQUENCER_STOP (R235): Sequencer command 2 returns it to IDLE when no page is active. -/
  | sequencerStop (h : FopHead)
  /-- FEED_COMPLETE (R236): The feed move ends, or ENC1 reaches the feed within tolerance. -/
  | feedComplete
  /-- LINE_RATE_MEASURE (R224): The line rate is updated from the lines completed in the last 10 ms. -/
  | lineRateMeasure
  /-- LINK_START (R249): The start condition of a head or seam link is met, and the link enters LOCK or DETECT. -/
  | linkStart (l : Fin 20)
  /-- RXCK_DETECTED (R249): HPn_RXCK within ±100 ppm over 10 µs moves DETECT to TRAIN. -/
  | rxckDetected (l : Fin 20)
  /-- DETECT_TIMER_EXPIRY (R249): The 100 ms DETECT timer expires, entering WAIT with cause CLOCK. -/
  | detectTimerExpiry (l : Fin 20)
  /-- TRAIN (R250): An uplink TRAIN block with DONE and every fitted lane locked moves TRAIN to LOCK. -/
  | train (l : Fin 20) (status : BitVec 8) (presets : BitVec 32)
  /-- PRESET_STEP (R250): Each 100 µs the training sweep moves to the next transmit preset. -/
  | presetStep (l : Fin 20)
  /-- TRAIN_TIMER_EXPIRY (R249): The 20 ms TRAIN timer expires, entering WAIT with cause TRAIN. -/
  | trainTimerExpiry (l : Fin 20)
  /-- POLARITY_TRIAL_SWITCH (R248): Each 1 ms without block lock, the receive polarity trial switches. -/
  | polarityTrialSwitch (l : Fin 20)
  /-- UPLINK_BLOCK_LOCK (R246): Uplink block lock in LOCK moves the link to CAPS, to ACTIVE or to WAIT after the checks.
  `headers`: the sync headers that arrive, in order, H0 in bit 0. -/
  | uplinkBlockLock (l : LinkHeaders)
  /-- LOCK_TIMER_EXPIRY (R249): The LOCK timer expires, entering WAIT with cause LOCK. -/
  | lockTimerExpiry (l : Fin 20)
  /-- CAPS (R251): An uplink CAPS received in CAPS is checked, and the link enters ACTIVE or WAIT.
  `control`, `body`: the block that arrived, by its header and its descrambled payload; one that is no CAPS block is what R247 says of it. -/
  | caps (l : Fin 20) (body : CapsBlock)
  /-- CAPS_SEND (R249): In CAPS, a downlink CAPS is sent every 10 µs. -/
  | capsSend (l : Fin 20)
  /-- CAPS_TIMER_EXPIRY (R249): The CAPS timer expires, entering WAIT with cause CAPS_TIMEOUT. -/
  | capsTimerExpiry (l : Fin 20)
  /-- LINK_LOST (R261): An ACTIVE link loses RXCK or block lock, enters WAIT and its slices are discarded. -/
  | linkLost (l : Fin 20)
  /-- WAIT_TIMER_EXPIRY (R249): After 100 ms in WAIT the link restarts or goes OFF, and a RETURNING port fails its return. -/
  | waitTimerExpiry (l : Fin 20)
  /-- NOP (R264): A NOP command descriptor is sent as a CMD block. -/
  | nop (p : PortTake)
  /-- WAVE_WRITE (R264): A WAVE_WRITE command sends one waveform word and checks the RESP CRC. -/
  | waveWrite (p : PortTake)
  /-- RAW_COMMAND (R264): A RAW command is sent with its data block, uninterpreted. -/
  | rawCommand (p : PortTake)
  /-- RESP (R264): A RESP block completes the outstanding command and a type 0x31 descriptor is written. -/
  | resp (p : Fin 16) (addr : BitVec 8) (seq : BitVec 8) (status : BitVec 8) (value : BitVec 32)
  /-- COMMAND_TIMEOUT (R264): No RESP within 1 ms gives status TIMEOUT. -/
  | commandTimeout (p : Fin 16)
  /-- MEASURE (R265): Measure command 1 starts a heater measurement, or leaves state 3. -/
  | measure (h : FopHead) (p : Fin 16)
  /-- MEASURE_AND_CAPTURE_BASELINE (R268): Measure command 2 measures the port and captures the baseline. -/
  | measureAndCaptureBaseline (h : FopHead) (p : Fin 16)
  /-- AUTOMATIC_MEASUREMENT (R265): The automatic interval passes and a measurement starts once its conditions hold. -/
  | automaticMeasurement (p : Fin 16)
  /-- MEAS_FRAME (R266): A MEAS frame is checked, its readings are judged against the baseline and the next segment is measured. -/
  | measFrame (p : Fin 16) (addr : BitVec 8) (seq : BitVec 8) (status : BitVec 8) (crc : BitVec 32) (data : Bytes)
  /-- MEAS_TIMEOUT (R266): No MEAS frame within 50 ms: it is requested once more or the segment fails. -/
  | measTimeout (p : Fin 16)
  /-- JET_WINDOW_CLOSE (R267): A jet's counting window closes with fewer than N readings and is counted transient. -/
  | jetWindowClose (p : Fin 16) (j : BitVec 14)
  /-- LOOPBACK_START (R269): Loopback command 1 starts the selected loopback on an OUT port, or is refused. -/
  | loopbackStart (h : FopHead) (p : Fin 16)
  /-- LOOPBACK_STOP (R269): Loopback command 2 stops a running loopback. -/
  | loopbackStop (h : FopHead) (p : Fin 16)
  /-- SERVO_TICK (R274): At each servo tick set-points are computed for every axis, gears and ramps advance, and the set-point frame is sent. -/
  | servoTick
  /-- ENABLE (R275): Axis command 1 enables a powered drive into STANDSTILL. -/
  | enable (h : FopHead) (a : Fin 4)
  /-- DISABLE (R275): Axis command 2 disables an axis at standstill. -/
  | disable (h : FopHead) (a : Fin 4)
  /-- START_MOVE (R276): Axis command 3 checks and starts a point-to-point or interpolated move. -/
  | startMove (h : FopHead) (a : Fin 4)
  /-- STOP (R283): Axis command 4 starts the stop ramp. -/
  | stop (h : FopHead) (a : Fin 4)
  /-- START_GEARING (R284): Axis command 5 anchors the gear to ENC1. -/
  | startGearing (h : FopHead) (a : Fin 4)
  /-- SET_POSITION (R275): Axis command 6 sets the commanded position and marks the axis referenced. -/
  | setPosition (h : FopHead) (a : Fin 4)
  /-- CLEAR_FAULT (R275): Axis command 7 moves FAULT to DISABLED when the drive and MOT allow it. -/
  | clearFault (h : FopHead) (a : Fin 4)
  /-- GEAR_QUEUE_APPEND (R285): Queue command 1 appends a ratio change entry. -/
  | gearQueueAppend (h : FopHead) (a : Fin 4)
  /-- GEAR_QUEUE_FLUSH (R285): Queue command 2 empties the ratio queue. -/
  | gearQueueFlush (h : FopHead) (a : Fin 4)
  /-- STATUS_FRAME (R289): A drive status frame is checked, and its entries update actual position and drive status. -/
  | statusFrame (src : Peer) (frame : Bytes)
  /-- DRIVE_LOSS (R289): No accepted entry for the loss limit, or POWERED clear, loses the drive and sends the axis to RETAINED or FAULT. -/
  | driveLoss (a : Fin 4)
  /-- SYNC (R301): A PTP Sync updates the domain offset and rate, lock state, steering and rebase pending. -/
  | sync (t : PtpHead) (body : SyncBody)
  /-- FOLLOW_UP (R300): A two-step Follow_Up completes the timestamp of its Sync. -/
  | followUp (t : PtpHead) (origin : BitVec 80)
  /-- ANNOUNCE (R301): An Announce takes part in parent selection and quality switching. -/
  | announce (t : PtpHead) (body : AnnounceBody)
  /-- DELAY_RESP (R300): A Delay_Resp completes the end-to-end delay measurement. -/
  | delayResp (t : PtpHead) (rx : BitVec 80)
  /-- PDELAY_REQ (R302): A Pdelay_Req is answered with Pdelay_Resp. -/
  | pdelayReq (t : PtpHead)
  /-- PDELAY_RESP (R300): A Pdelay_Resp completes the peer delay measurement. -/
  | pdelayResp (t : PtpHead) (rx : BitVec 80) (tx : BitVec 80)
  /-- TRANSPARENT_CLOCK_FORWARD (R302): A PTP event message is forwarded between FN0 and FN1 with its residence time added. -/
  | transparentClockForward (fn : Fin 2) (transport : Fin 3) (msg : Bytes) (residence : BitVec 32)
  /-- SYNC_LOSS_TIMEOUT (R301): No Sync for N intervals takes a LOCKED domain to LISTENING. -/
  | syncLossTimeout (b : Bool)
  /-- DOMAIN_ENABLE_WRITE (R301): Setting or clearing a domain's Enable moves it to LISTENING or DISABLED. -/
  | domainEnableWrite (h : FopHead) (b : Bool) (v : BitVec 8)
  /-- REBASE_COMMAND (R307): The rebase command starts a new epoch with a new alignment, cancels one-shots and re-phases periodic triggers. -/
  | rebaseCommand (h : FopHead)
  /-- INITIAL_REBASE (R308): In epoch 0 the device rebases itself once rebase pending is set. -/
  | initialRebase
  /-- TRIGGER_ARM (R309): Trigger command 1 arms a one-shot or periodic trigger, or is refused. -/
  | triggerArm (h : FopHead) (t : Fin 4)
  /-- TRIGGER_DISARM (R309): Trigger command 2 stops edges due after the command. -/
  | triggerDisarm (h : FopHead) (t : Fin 4)
  /-- TRIGGER_EDGE (R309): A trigger's leading edge falls due, counted with E216 + t. -/
  | triggerEdge (t : Fin 4)
  /-- TRIGGER_PULSE_END (R309): A trigger pulse ends after its width. -/
  | triggerPulseEnd (t : Fin 4)
  /-- CAPTURE_EDGE (R311): An accepted capture edge is stamped, raises E220 + c and writes a capture descriptor. -/
  | captureEdge (c : Fin 4) (rising : Bool)
  /-- DRAM_TEMPERATURE_READ (R326): Every 16 ms component temperatures are read and refresh bands updated. -/
  | dramTemperatureRead (temps : List (List Int))
  /-- REFRESH_DUE (R328): A refresh interval falls due, and the refresh is issued, postponed or forced. -/
  | refreshDue (i : Fin 8) (rank : Fin 2)
  /-- DRAM_COMMAND_ISSUE (R324): A subchannel controller issues its next command by the scheduling rules. -/
  | dramCommandIssue (i : Fin 8) (arrivals : List Arrival)
  /-- REFRESH_WINDOW_CLEAR (R329): At each 32 ms refresh window start, activate-count tables clear. -/
  | refreshWindowClear (i : Fin 8)
  /-- STARTUP_TRAINING_COMPLETE (R330): Start-up training of the subchannels ends, setting DRAM ready or retiring failing pairs. -/
  | startupTrainingComplete (answer : Bool) (rfm : Bool) (results : List TrainResult)
  /-- RETRAIN_ALL (R332): Training command 1 schedules retraining of all subchannels. -/
  | retrainAll (h : FopHead)
  /-- RETRAIN_SUBCHANNEL (R332): Training command 2 schedules retraining of the selected subchannel. -/
  | retrainSubchannel (h : FopHead)
  /-- DRIFT_SAMPLE (R332): The DQS oscillator is sampled and excessive drift schedules retraining. -/
  | driftSample (i : Fin 8) (drift : BitVec 16)
  /-- RETRAINING_START (R333): Scheduled retraining runs at the next gap, holding release. -/
  | retrainingStart (i : Fin 8)
  /-- RETRAINING_COMPLETE (R334): Retraining ends as applied, kept or failed. -/
  | retrainingComplete (i : Fin 8) (result : TrainResult) (oldPasses : Bool)
  /-- LEAK_INSTANT (R347): At each leak period a bucket level above 0 drops by 1. -/
  | leakInstant (cl : Fin 12)
  /-- TEST_WINDOW_OPEN (R349): Checker command 1 opens a test window on the selected array, or is refused. -/
  | testWindowOpen (h : FopHead)
  /-- TEST_WINDOW_CLOSE (R349): Checker command 2 closes the test window with the array's close action. -/
  | testWindowClose (h : FopHead)
  /-- WINDOW_DATA_WRITE (R350): Writes data bytes in the test window, keeping their parity bits. -/
  | windowDataWrite (h : FopHead) (off : BitVec 32) (data : Bytes)
  /-- WINDOW_PARITY_WRITE (R350): Writes parity bits in the test window, keeping the data. -/
  | windowParityWrite (h : FopHead) (off : BitVec 32) (data : Bytes)
  /-- CRC_RESET (R354): CRC command 1 latches the configuration and loads the initial value. -/
  | crcReset (h : FopHead) (u : Fin 8)
  /-- CRC_COMPARE (R356): CRC command 2 compares the result with the expected value. -/
  | crcCompare (h : FopHead) (u : Fin 8)
  /-- CRC_FEED (R355): A write to a feed object feeds its bytes into the CRC. -/
  | crcFeed (h : FopHead) (u : Fin 8) (w : Fin 4) (v : BitVec 64)
  /-- RUNNING_VALUE_WRITE (R356): A write of the running value resumes a saved CRC. -/
  | runningValueWrite (h : FopHead) (u : Fin 8) (v : BitVec 32)
  /-- DMA_START (R364): Channel command 1 starts consuming the descriptor ring. -/
  | dmaStart (h : FopHead) (n : Fin 32)
  /-- DMA_STOP (R364): Channel command 2 stops after the element in progress. -/
  | dmaStop (h : FopHead) (n : Fin 32)
  /-- DMA_RESUME (R364): Channel command 3 resumes a halted channel. -/
  | dmaResume (h : FopHead) (n : Fin 32)
  /-- DMA_CLAIM (R364): The SC claims the highest-numbered idle channel once one is idle. -/
  | dmaClaim
  /-- DMA_RELEASE (R364): The SC releases its claimed channel. -/
  | dmaRelease (n : Fin 32)
  /-- DMA_DESCRIPTOR (R360): A channel takes its next descriptor and checks it before the first element. -/
  | dmaDescriptor (n : ChannelTake)
  /-- DMA_ELEMENT (R363): A channel moves one element, raising half and done events or halting on an error. -/
  | dmaElement (n : Fin 32) (read : Restored)
  /-- COUNTING_WINDOW_CLOSE (R373): A source's counting window closes at t0 + W, counted transient if below N. -/
  | countingWindowClose (n : BitVec 8)
  /-- WINDOW_CONFIGURATION_WRITE (R374): A write to N or W closes the open window without counting it. -/
  | windowConfigurationWrite (h : FopHead) (n : BitVec 8) (width : Bool) (v : BitVec 32)
  /-- FAULT_CLEAR (R379): Collector command 1 empties the records and leaves the safe state, or is refused. -/
  | faultClear (h : FopHead)
  /-- ENTER_SAFE_STATE (R381): Collector command 2 enters the safe state with cause 3. -/
  | enterSafeState (h : FopHead)
  /-- SENSOR_SAMPLE (R395): Every 10 ms all sensors are sampled, checked for exclusion, rate of rise and critical limit. -/
  | sensorSample (readings : List Int) (selfCause : Fin 6)
  /-- THROTTLE_HOLD_EXPIRY (R398): After the throttle hold below the warn rate, the thermal factor restore begins. -/
  | throttleHoldExpiry
  /-- DROOP_DETECTION (R394): A VDD droop sets the droop factor to 12. -/
  | droopDetection
  /-- RESTORE_INTERVAL (R394): Each restore interval at a good rail raises the clock factor by one. -/
  | restoreInterval
  /-- CALIBRATION_RUN (R401): The scheduler starts a SerDes or tension calibration when its trigger holds. -/
  | calibrationRun (unit : Fin 28)
  /-- CALIBRATION_COMPLETE (R402): A calibration run ends, its result applied or discarded. -/
  | calibrationComplete (unit : Fin 28) (margin : BitVec 16) (load : BitVec 8)
  /-- RAIL_UNDERVOLTAGE (R457): A rail below its monitor threshold for 5 µs resets the device. -/
  | railUndervoltage
  /-- POR_N_RELEASE (R413): Release of POR_N starts the ROM boot with strap sampling and slot choice. -/
  | porNRelease (straps : ResetPins) (testEn : Bool)
  /-- WATCHDOG_EXPIRY (R405): An unserved SC watchdog resets the device with cause 3. -/
  | watchdogExpiry
  /-- BOOT_RETRY (R413): After no image verifies, the ROM waits 1 s and restarts the boot. -/
  | bootRetry
  /-- BOOT_COMPLETE (R414): The SC has started every function's bring-up, raising E000 and clearing the failed-boot count. -/
  | bootComplete
  /-- BOOT_TIMEOUT (R415): No E000 within 20 s lets the watchdog reset the device. -/
  | bootTimeout
  /-- RESET_COMMAND (R407): Reset command 1 resets the device within 10 ms, or is refused. -/
  | resetCommand (h : FopHead)
  /-- UPDATE_VERIFY (R419): Update command 1 starts the container checks. -/
  | updateVerify (h : FopHead)
  /-- UPDATE_CHECKS_COMPLETE (R418): Verify ends: the update is VERIFIED or returns IDLE with a code. -/
  | updateChecksComplete
  /-- UPDATE_INSTALL (R418): Update command 2 writes the image into the inactive slot. -/
  | updateInstall (h : FopHead)
  /-- INSTALL_READBACK_COMPLETE (R418): The installed slot reads back matching and becomes VALID, or fails with FLASH. -/
  | installReadbackComplete (good : Bool)
  /-- UPDATE_ACTIVATE (R418): Update command 3 activates the installed slot, by reset for the SC. -/
  | updateActivate (h : FopHead)
  /-- ACTIVATION_BOUNDARY (R421): The component's boundary is reached and the new image switches in as TRIAL. -/
  | activationBoundary
  /-- TRIAL_SELF_CHECK (R418): Within 1 s the trial image is confirmed, or switched back and rejected. -/
  | trialSelfCheck (good : Bool)
  /-- UPDATE_REVERT (R424): Update command 4 activates the other slot of the revert component, or is refused. -/
  | updateRevert (h : FopHead)
  /-- UPDATE_ABORT (R418): Update command 5 returns to IDLE and empties an installed slot. -/
  | updateAbort (h : FopHead)
  /-- TFTP_WRQ (R426): ROM recovery accepts or refuses a TFTP write request. -/
  | tftpWrq (src : Peer) (name : Bytes) (octet : Bool) (readReq : Bool)
  /-- TFTP_DATA (R426): ROM recovery receives a TFTP data block, checking and writing the container at its end. -/
  | tftpData (src : Peer) (block : BitVec 16) (data : Bytes)
  /-- TFTP_RETRANSMIT (R426): ROM recovery retransmits after 1 s, up to 5 times. -/
  | tftpRetransmit
  /-- UART_OPEN (R427): Recovery UART OPEN frame starts a file transfer. -/
  | uartOpen (f : UartFrame)
  /-- UART_DATA (R427): Recovery UART DATA frame is accepted in offset order. -/
  | uartData (f : UartFrame)
  /-- UART_CLOSE (R427): Recovery UART CLOSE frame ends the transfer and checks the container. -/
  | uartClose (f : UartFrame)
  /-- UART_RESET (R425): A RESET request or reset file ends ROM recovery with reset cause 6. -/
  | uartReset (f : UartFrame)
  /-- SURGENT (R447): A received SURGENT block applies a peer's safe state or its clearing. -/
  | surgent (k : Fin 4) (o : SeamHead)
  /-- SURGENT_SEND (R447): Every 1 µs a member sends SURGENT on all ring lanes. -/
  | surgentSend
  /-- MISSING_MEMBER (R448): No SURGENT from a member for 100 µs marks it missing with E071. -/
  | missingMember (d : Fin 8)
  /-- SPOS (R439): A follower takes an SPOS block and presents its counts to the tracker. -/
  | spos (k : Fin 4) (o : SeamHead) (count : BitVec 24) (at_ : BitVec 24)
  /-- SPOS_SEND (R438): The master sends SPOS every 16 blocks. -/
  | sposSend
  /-- POS_FULL (R439): A follower takes POS_FULL for its extreme and origin. -/
  | posFull (k : Fin 4) (o : SeamHead) (g : SeamMsg)
  /-- POS_FULL_SEND (R438): The master sends POS_FULL every 1 ms. -/
  | posFullSend
  /-- STIME (R436): A follower steers board time from an STIME block. -/
  | stime (k : Fin 4) (o : SeamHead) (at_ : BitVec 48)
  /-- STIME_SEND (R437): The master sends STIME every 64 blocks. -/
  | stimeSend
  /-- STIME_LOSS (R436): No STIME for 10 µs loses time lock with E070. -/
  | stimeLoss
  /-- BARRIER_START (R443): The master opens a barrier for its next page, sending BARRIER_OPEN. -/
  | barrierStart
  /-- BARRIER_OPEN (R443): A follower receives BARRIER_OPEN and votes or waits for its page. -/
  | barrierOpen (k : Fin 4) (o : SeamHead) (g : SeamMsg)
  /-- VOTE (R443): The master counts a vote, releasing on n yes or closing on a no. -/
  | vote (k : Fin 4) (o : SeamHead) (g : SeamMsg)
  /-- BARRIER_TIMEOUT (R443): The barrier timeout passes without n votes, raising E068. -/
  | barrierTimeout
  /-- BARRIER_REOPEN_DELAY (R443): 1 ms after a failed barrier the master opens a new one. -/
  | barrierReopenDelay
  /-- RELEASE (R444): A follower receiving RELEASE releases its page with start S or sends SPOIL. -/
  | release (k : Fin 4) (o : SeamHead) (g : SeamMsg)
  /-- FROG_MESSAGE (R445): A member applies the master's FROG to the page with the key. -/
  | frogMessage (k : Fin 4) (o : SeamHead) (g : SeamMsg)
  /-- SPOIL (R446): A member receiving SPOIL spoils the instance with BOARD_PEER or adds bit 13. -/
  | spoil (k : Fin 4) (o : SeamHead) (g : SeamMsg)
  /-- REBASE (R437): A member receives REBASE and schedules it at T_r. -/
  | rebase (k : Fin 4) (o : SeamHead) (g : SeamMsg)
  /-- REBASE_APPLY (R437): At board time T_r every member applies the rebase. -/
  | rebaseApply
  /-- USER (R451): A received USER message is written to Q200 + origin or dropped whole. -/
  | user (k : Fin 4) (o : SeamHead) (g : SeamMsg)
  /-- USER_SEND (R450): The user send command sends the user data as a USER message. -/
  | userSend (h : FopHead) (n : BitVec 8)
  /-- POR_N_LOW (R461): POR_N is driven low, which resets every function outside the AON domain and puts the pins into their reset states. -/
  | porNLow
  /-- VBAT_RISE (R459): VBAT rises above its monitor threshold, so the AON raises PWR_KEEP_EN within 1 ms and the failed-boot count is set to 0. -/
  | vbatRise
  /-- INTERNAL_RESET_RELEASE (R457): The internal reset is released once POR_N is high and every rail monitor has seen its rail above threshold for 1 ms. -/
  | internalResetRelease
  /-- SPOS_GAP (R440): Eight SPOS intervals pass without an SPOS, so the follower leaves position lock, raises E070 with cause 1 and applies R215. -/
  | sposGap
  /-- FUNCTION_SELF_TEST_PASSED (R414): The codec decoder self-test or a render cluster self-test passes, and the function sets its ready bit in 0x0020. -/
  | functionSelfTestPassed (fn : SelfTest)
  /-- TEST_WINDOW_CLOSE_COMPLETE (R349): The close of a checker test window completes its close action, which is a FIFO rewrite, a chart or screen reload, or the TEST trailers being written, and the state goes from CLOSING to CLOSED. -/
  | testWindowCloseComplete
  deriving DecidableEq, Repr

end Sys2Proof
end

