-- ==== Sys2Proof/Decode.lean ====
section
/-! DEFINITION. Words of the opcode table. -/

namespace Sys2Proof

/-- The command that a word of the opcode table spells: none, since no row of the table has bits. Commands reach the block in the messages, edges and timers of the spec, which the machine's own operations read. -/
def decodeTableWord (_nbits _w : Nat) : Option Instr := none

end Sys2Proof
end

