-- ==== Sys2Proof/Machine/Bits.lean ====
section
/-! DEFINITION. Bit fields, byte order, signed readings and saturating counts. Little-endian everywhere (00_scope.md, Notation; R35). -/

namespace Sys2Proof.Machine

/-- The field of `w` bits of `v` from bit `lo` up. -/
def field (v lo w : Nat) : Nat := v / 2 ^ lo % 2 ^ w

/-- Bit `i` of `v`. -/
def bit (v i : Nat) : Bool := v / 2 ^ i % 2 == 1

/-- `v` with bit `i` put to `b`. -/
def setBit (v i : Nat) (b : Bool) : Nat :=
  if bit v i = b then v else if b then v + 2 ^ i else v - 2 ^ i

/-- A Bool as 0 or 1 (R35, BOOL). -/
def b2n (b : Bool) : Nat := if b then 1 else 0

/-- The `n` little-endian bytes of a value (R35). -/
def leBytes : Nat → Nat → Bytes
  | 0, _ => []
  | n + 1, v => BitVec.ofNat 8 v :: leBytes n (v / 256)

/-- The value of little-endian bytes (R35). -/
def leVal : Bytes → Nat
  | [] => 0
  | b :: bs => b.toNat + 256 * leVal bs

/-- The `n` bytes at an offset of a byte string, short if the string ends. -/
def slice (bs : Bytes) (off n : Nat) : Bytes := (bs.drop off).take n

/-- The little-endian value of the `n` bytes at an offset. -/
def leAt (bs : Bytes) (off n : Nat) : Nat := leVal (slice bs off n)

/-- `n` zero bytes. -/
def zeros (n : Nat) : Bytes := List.replicate n 0

/-- A byte string cut or filled with zeros to exactly `n` bytes. -/
def fit (n : Nat) (bs : Bytes) : Bytes := (bs ++ zeros n).take n

/-- The signed reading of a `w`-bit value (two's complement, R35). -/
def toSigned (w v : Nat) : Int := if v % 2 ^ w < 2 ^ (w - 1) then (v % 2 ^ w : Nat) else (v % 2 ^ w : Nat) - (2 ^ w : Nat)

/-- A whole number as a `w`-bit two's-complement value. -/
def ofSigned (w : Nat) (i : Int) : Nat := (i % (2 ^ w : Nat)).toNat

/-- A count of `w` bits that saturates. -/
def satAdd (w v n : Nat) : Nat := min (v + n) (2 ^ w - 1)

/-- A count of `w` bits that wraps. -/
def wrapAdd (w v n : Nat) : Nat := (v + n) % 2 ^ w

/-- a / b rounded up. -/
def ceilDiv (a b : Nat) : Nat := (a + b - 1) / b

/-- The value clamped to lo .. hi. -/
def clampInt (lo hi i : Int) : Int := max lo (min hi i)

/-- Keeps the low bytes of a 32-bit number. -/
def u32 (v : Nat) : Nat := v % 2 ^ 32

end Sys2Proof.Machine
end

