-- ==== Sys2Proof/Machine/Crypto.lean ====
section
/-! DEFINITION. The published algorithms the spec calls for: SHA-256 (FIPS 180-4), HMAC-SHA-256 (RFC 2104) and ECDSA P-256 verification (FIPS 186-5), named in R15, R120 and R412.
The spec gives their names and not their text: each is written from its standard (log entry 3, PRESUMED). -/

namespace Sys2Proof.Machine

/-- Big-endian bytes of a value. -/
def beBytes (n v : Nat) : Bytes := (leBytes n v).reverse
/-- Value of big-endian bytes. -/
def beVal (bs : Bytes) : Nat := leVal bs.reverse

namespace Sha

/-- Integer cube or square root by bisection: the largest r with r^k ≤ n. -/
def root (k n : Nat) : Nat :=
  (List.range 48).foldl (fun r i => let c := r + 2 ^ (47 - i); if c ^ k ≤ n then c else r) 0

/-- The first 64 primes (FIPS 180-4, 4.2.2 and 5.3.3 derive the constants from them). -/
def primes : List Nat :=
  [2, 3, 5, 7, 11, 13, 17, 19, 23, 29, 31, 37, 41, 43, 47, 53, 59, 61, 67, 71, 73, 79, 83, 89, 97, 101, 103, 107, 109, 113, 127, 131,
   137, 139, 149, 151, 157, 163, 167, 173, 179, 181, 191, 193, 197, 199, 211, 223, 227, 229, 233, 239, 241, 251, 257, 263, 269, 271,
   277, 281, 283, 293, 307, 311]

/-- Round constants: 32 bits of the fraction of each prime's cube root. -/
def k : List Nat := primes.map fun p => root 3 (p * 2 ^ 96) % 2 ^ 32
/-- Initial hash value: 32 bits of the fraction of the square roots of the first eight primes. -/
def h0 : List Nat := (primes.take 8).map fun p => root 2 (p * 2 ^ 64) % 2 ^ 32

/-- Rotation right of a 32-bit word. -/
def rotr (n x : Nat) : Nat := x / 2 ^ n + x % 2 ^ n * 2 ^ (32 - n)

/-- Next word of the message schedule from the last 16, newest first. -/
def schedule (w : List Nat) : Nat :=
  let w2 := w.getD 1 0
  let w7 := w.getD 6 0
  let w15 := w.getD 14 0
  let w16 := w.getD 15 0
  u32 ((rotr 17 w2 ^^^ rotr 19 w2 ^^^ w2 / 2 ^ 10) + w7 + (rotr 7 w15 ^^^ rotr 18 w15 ^^^ w15 / 2 ^ 3) + w16)

/-- The 64 schedule words of a block. -/
def words (block : Bytes) : List Nat :=
  let first := (List.range 16).map fun i => beVal (slice block (4 * i) 4)
  ((List.range 48).foldl (fun w _ => schedule w :: w) first.reverse).reverse

/-- One round over (a, …, h). -/
def round (st : List Nat) (kw : Nat × Nat) : List Nat :=
  match st with
  | [a, b, c, d, e, f, g, h] =>
    let t1 := h + (rotr 6 e ^^^ rotr 11 e ^^^ rotr 25 e) + ((e &&& f) ^^^ ((2 ^ 32 - 1 - e) &&& g)) + kw.1 + kw.2
    let t2 := (rotr 2 a ^^^ rotr 13 a ^^^ rotr 22 a) + ((a &&& b) ^^^ (a &&& c) ^^^ (b &&& c))
    [u32 (t1 + t2), a, b, c, u32 (d + t1), e, f, g]
  | st => st

/-- The hash value after one block of 64 bytes. -/
def block (h : List Nat) (b : Bytes) : List Nat :=
  List.zipWith (fun x y => u32 (x + y)) h ((List.zip k (words b)).foldl round h)

/-- The message with its padding. -/
def padded (m : Bytes) : Bytes :=
  m ++ [0x80] ++ zeros ((119 - m.length % 64) % 64) ++ beBytes 8 (8 * m.length)

/-- Hash value after n blocks. -/
def run : Nat → List Nat → Bytes → List Nat
  | 0, h, _ => h
  | n + 1, h, m => run n (block h (m.take 64)) (m.drop 64)

end Sha

/-- SHA-256 of a byte string. -/
def sha256 (m : Bytes) : Bytes :=
  let p := Sha.padded m
  (Sha.run (p.length / 64) Sha.h0 p).flatMap fun w => beBytes 4 w

/-- HMAC-SHA-256 with a key of at most 64 bytes. -/
def hmac (key m : Bytes) : Bytes :=
  let k := fit 64 key
  sha256 (k.map (· ^^^ 0x5C) ++ sha256 (k.map (· ^^^ 0x36) ++ m))

namespace P256
/-- Field prime, order and curve constants of P-256. -/
def p : Nat := 0xFFFFFFFF00000001000000000000000000000000FFFFFFFFFFFFFFFFFFFFFFFF
/-- Order of the base point. -/
def n : Nat := 0xFFFFFFFF00000000FFFFFFFFFFFFFFFFBCE6FAADA7179E84F3B9CAC2FC632551
/-- Curve constant b. -/
def b : Nat := 0x5AC635D8AA3A93E7B3EBBD55769886BC651D06B0CC53B0F63BCE3C3E27D2604B
/-- Base point. -/
def g : Nat × Nat :=
  (0x6B17D1F2E12C4247F8BCE6E563A440F277037D812DEB33A0F4A13945D898C296,
   0x4FE342E2FE1A7F9B8EE7EB4A7C0F9E162BCE33576B315ECECBB6406837BF51F5)

/-- x^e mod m by squaring over the 256 bits of e. -/
def powMod (m x e : Nat) : Nat :=
  (List.range 256).foldl (fun acc i => let a := acc * acc % m; if bit e (255 - i) then a * x % m else a) 1

/-- Inverse modulo a prime. -/
def inv (m x : Nat) : Nat := powMod m x (m - 2)

/-- Point addition; `none` is the point at infinity. -/
def add : Option (Nat × Nat) → Option (Nat × Nat) → Option (Nat × Nat)
  | none, q => q
  | q, none => q
  | some (x1, y1), some (x2, y2) =>
    if x1 = x2 ∧ (y1 + y2) % p = 0 then none
    else
      let l := if x1 = x2 then (3 * x1 * x1 + p - 3) * inv p (2 * y1) % p
        else (y2 + p - y1) * inv p (x2 + p - x1) % p
      let x3 := (l * l + 2 * p - x1 - x2) % p
      some (x3, (l * (x1 + p - x3) + p - y1) % p)

/-- Scalar multiple of a point. -/
def mul (e : Nat) (q : Nat × Nat) : Option (Nat × Nat) :=
  (List.range 256).foldl (fun acc i => let d := add acc acc; if bit e (255 - i) then add d (some q) else d) none

/-- ECDSA verification of a hash under a public key. -/
def verify (qx qy r s : Nat) (hash : Bytes) : Bool :=
  let onCurve := decide (qx < p) && decide (qy < p) && decide (qy * qy % p = (qx * qx * qx + (p - 3) * qx + b) % p)
  if onCurve && decide (0 < r) && decide (r < n) && decide (0 < s) && decide (s < n) then
    let w := inv n s
    match add (mul (beVal hash * w % n) g) (mul (r * w % n) (qx, qy)) with
    | none => false
    | some (x, _) => x % n == r
  else false
end P256

end Sys2Proof.Machine
end

