-- ==== Sys2Proof/Machine/Crc.lean ====
section
/-! DEFINITION. The CRC of R354 (shift model, any width of 8, 16 or 32) and CRC-32C of R138, its reflected form of polynomial 0x1EDC_6F41. -/

namespace Sys2Proof.Machine

/-- The low `w` bits of `v` in reverse order. -/
def reflect (w v : Nat) : Nat :=
  (List.range w).foldl (fun acc i => acc + (v / 2 ^ i % 2) * 2 ^ (w - 1 - i)) 0

/-- One bit step of the shift model: the register moves toward its most significant bit (R354). -/
def crcShift (w poly reg : Nat) : Nat :=
  if reg / 2 ^ (w - 1) % 2 = 1 then (reg * 2 % 2 ^ w) ^^^ poly else reg * 2 % 2 ^ w

/-- One byte enters from the top, reflected first if reflect-in is set (R354). -/
def crcByte (w poly : Nat) (refIn : Bool) (reg : Nat) (b : Byte) : Nat :=
  let v := if refIn then reflect 8 b.toNat else b.toNat
  (List.range 8).foldl (fun r _ => crcShift w poly r) (reg ^^^ (v * 2 ^ (w - 8)))

/-- The running value after a byte string (R354). -/
def crcRun (w poly : Nat) (refIn : Bool) (reg : Nat) (bs : Bytes) : Nat :=
  bs.foldl (crcByte w poly refIn) reg

/-- The result of a running value: reflected if reflect-out is set, XOR the final value, masked (R354). -/
def crcResult (w : Nat) (refOut : Bool) (final reg : Nat) : Nat :=
  ((if refOut then reflect w reg else reg) ^^^ final) % 2 ^ w

/-- CRC-32C as a shift register: the reflected polynomial, one byte (R138). -/
def crc32cByte (c : Nat) (b : Byte) : Nat :=
  (List.range 8).foldl (fun r _ => if r % 2 = 1 then (r / 2) ^^^ 0x82F63B78 else r / 2) (c ^^^ b.toNat)

/-- CRC-32C of a byte string (R138). -/
def crc32c (bs : Bytes) : Nat := (bs.foldl crc32cByte 0xFFFFFFFF) ^^^ 0xFFFFFFFF

end Sys2Proof.Machine
end

