-- ==== Sys2Proof/Config.lean ====
section
/-! DEFINITION. What an implementation fixes, and the values the spec leaves open.
Every `opaque` constant here has no body: nothing can be proved of it, and a statement about it holds whatever it is.
The counter `free` of State is the argument of those that give a fresh value each time (log entry 2). -/

namespace Sys2Proof.Config

/-- A value drawn from the on-die random source (R118, R122): nonces, tokens. -/
opaque random : Nat → Nat
/-- A choice the spec leaves to the device: which handle, transaction ID or chunk number it uses (R196, R50, R56). -/
opaque choice : Nat → Nat
/-- A byte of storage that nothing has written reads as this (R342: power-up contents are random). -/
opaque unwrittenByte : Nat → Byte
/-- Whether a byte that nothing has written reads with a parity error (R342: the read may find one). -/
opaque unwrittenBad : Nat → Bool
/-- The offset that the PTP servo of a domain predicts from its history (R301 states no prediction rule). -/
opaque servoPredict : List (Nat × Int) → Int
/-- The steering that the servo asks for, before the limit of R303, in ppb. -/
opaque servoRate : Nat → Int
/-- The rate ratio measured from a domain's history of offsets, in ppb (R301). -/
opaque servoRatio : List (Nat × Int) → Int
/-- The firmware's migration of settings from one schema to another (R423); none: the migration fails. -/
opaque migrates : Nat → Nat → Bool
/-- The value a migration from one schema to another gives an object, by its key and its old value (R423). -/
opaque migrated : Nat → Nat → Nat → Nat → Nat
/-- The same of a byte of a DOMAIN object, by its address. -/
opaque migratedByte : Nat → Nat → Nat → Byte → Byte

/-- Serial number, 0x0000:04: fused, at most 16 bytes (R41). -/
opaque serial : Bytes
/-- MAC address of the field network, 0x1801, fused (R47). -/
opaque macFn : BitVec 48
/-- MAC addresses of HE0 and HE1, fused (R103, R134). -/
opaque macHe : Nat → BitVec 48
/-- SHA-256 of the signing key, fused: 0x8000:01, 32 bytes (R412, R428). -/
opaque keyHash : Nat → Byte
/-- Where the DRAM map puts the dose area and the trailer area, in blocks of 48 MiB (R320: block boundaries; 0x4800:03, :04). -/
opaque doseBlock : BitVec 12
/-- See `doseBlock`. -/
opaque trailerBlock : BitVec 12
/-- Whether the DRAM map puts the system area into a block of 48 MiB (R319, R321). -/
opaque systemBlock : Nat → Bool
/-- Bits of the instruction register of the test access port (R464 gives no length). -/
opaque tapLength : Nat
/-- What a code of that register selects, but for all ones: 1 EXTEST, 2 EXTEST_PULSE, 3 EXTEST_TRAIN, 4 PRELOAD, anything else BYPASS (R464 gives no codes). -/
opaque tapCode : Nat → Nat
/-- The size exponent of a ring that the page manager or SC firmware allocates for itself (R66: Q208 to Q255); 4 to 14, anything else for a ring that it does not use. -/
opaque firmwareRing : Nat → Nat
/-- Errors that run k of a loopback has found among its first c bits (R269). -/
opaque loopErrors : Nat → Nat → Nat
/-- What the last four bytes of a PAGE_EVENT hold where its last spoil was late: R209 sets LATE in the PAGE_EVENT, R128 gives LATE no place there and calls these bytes reserved. -/
opaque lateMark : BitVec 32
end Sys2Proof.Config
end

