-- ==== Sys2Proof/Machine/Objects.lean ====
section
/-! DEFINITION. The object dictionary: one row for each object of the chapters' object tables (R34 to R40): its range of indices and subindices, type, size in bytes, access code, persistence, ranged access, default and range. -/

namespace Sys2Proof.Machine

/-- Value types (R35): unsigned and signed integers, Booleans, strings, DOMAIN byte arrays. -/
inductive Ty | u | i | b | str | dom
  deriving DecidableEq, Repr

/-- Access codes (R10). -/
inductive Acc | ro | rw | rwi | wo | cmd
  deriving DecidableEq, Repr

/-- The Range/unit column of a writable object: anything, lo to hi, one of a list, or a bit mask whose other bits are reserved (R11). -/
inductive Rng
  | any
  | span (lo hi : Nat)
  | oneOf (l : List Nat)
  | bits (m : Nat)
  deriving DecidableEq, Repr

/-- A row of the dictionary: `count` objects at base, base + stride, …, each with subindices sub .. sub + subs − 1. -/
structure Obj where
  base    : Nat
  stride  : Nat
  count   : Nat
  sub     : Nat
  subs    : Nat
  ty      : Ty
  size    : Nat
  acc     : Acc
  persist : Bool
  ranged  : Bool
  dflt    : Nat
  rng     : Rng
  deriving DecidableEq, Repr

/-- Objects 0x0000 to 0x0060. -/
def objects0 : List Obj := [
  ⟨0x0000, 1, 1, 1, 1, .str, 16, .ro, false, false, 0, .any⟩,
  ⟨0x0000, 1, 1, 2, 1, .str, 16, .ro, false, false, 0, .any⟩,
  ⟨0x0000, 1, 1, 3, 1, .str, 4, .ro, false, false, 0, .any⟩,
  ⟨0x0000, 1, 1, 4, 1, .str, 16, .ro, false, false, 0, .any⟩,
  ⟨0x0000, 1, 1, 5, 1, .u, 4, .ro, false, false, 0, .any⟩,
  ⟨0x0020, 1, 1, 0, 1, .u, 8, .ro, false, false, 0, .any⟩,
  ⟨0x0022, 1, 1, 0, 1, .u, 8, .rw, true, false, 193, .bits 0x3FFFFFFFFF⟩,
  ⟨0x0028, 1, 1, 1, 1, .u, 2, .rw, false, false, 0, .oneOf [0x100, 0x101, 0x102, 0x103, 0x104, 0x105, 0x106, 0x107, 0x108, 0x109, 0x10A, 0x10B, 0x10C, 0x10D, 0x10E, 0x10F, 0x200, 0x201, 0x202, 0x203, 0x300, 0x301, 0x302, 0x303]⟩,
  ⟨0x0028, 1, 1, 2, 1, .u, 1, .cmd, false, false, 0, .oneOf [1, 2]⟩,
  ⟨0x0028, 1, 1, 3, 1, .u, 1, .ro, false, false, 0, .any⟩,
  ⟨0x0028, 1, 1, 4, 1, .u, 1, .ro, false, false, 0, .any⟩,
  ⟨0x0028, 1, 1, 5, 1, .u, 1, .rw, true, false, 0, .span 0 1⟩,
  ⟨0x0029, 1, 1, 0, 1, .u, 4, .ro, false, false, 0, .any⟩,
  ⟨0x0030, 1, 1, 1, 1, .u, 1, .cmd, false, false, 0, .span 1 4⟩,
  ⟨0x0030, 1, 1, 2, 1, .u, 1, .ro, false, false, 3, .any⟩,
  ⟨0x0030, 1, 1, 3, 1, .u, 1, .ro, false, false, 0, .any⟩,
  ⟨0x0030, 1, 1, 4, 1, .u, 1, .ro, false, false, 0, .any⟩,
  ⟨0x0031, 1, 1, 1, 1, .u, 1, .rw, true, false, 7, .bits 0x07⟩,
  ⟨0x0031, 1, 1, 2, 1, .u, 8, .rw, false, false, 0, .any⟩,
  ⟨0x0031, 1, 1, 3, 1, .u, 8, .ro, false, false, 0, .any⟩,
  ⟨0x0031, 1, 1, 4, 1, .u, 1, .ro, false, false, 0, .any⟩,
  ⟨0x0031, 1, 1, 5, 1, .u, 2, .rw, true, false, 5, .span 1 100⟩,
  ⟨0x0032, 1, 1, 0, 1, .dom, 64, .ro, false, false, 0, .any⟩,
  ⟨0x0040, 1, 1, 1, 1, .u, 1, .cmd, false, false, 0, .oneOf [1, 2]⟩,
  ⟨0x0040, 1, 1, 2, 1, .u, 1, .ro, false, false, 0, .any⟩,
  ⟨0x0040, 1, 1, 3, 1, .u, 4, .ro, false, false, 0, .any⟩,
  ⟨0x0040, 1, 1, 4, 1, .u, 4, .ro, false, false, 0, .any⟩,
  ⟨0x0050, 1, 1, 1, 1, .u, 2, .rw, true, false, 690, .span 650 720⟩,
  ⟨0x0050, 1, 1, 2, 1, .u, 2, .rw, true, false, 2, .span 1 1000⟩,
  ⟨0x0050, 1, 1, 3, 1, .u, 1, .ro, false, false, 16, .any⟩,
  ⟨0x0050, 1, 1, 4, 1, .u, 4, .ro, false, false, 0, .any⟩,
  ⟨0x0060, 1, 1, 1, 1, .u, 2, .rw, true, false, 32, .span 8 160⟩,
  ⟨0x0060, 1, 1, 2, 1, .u, 2, .rw, true, false, 80, .span 16 320⟩,
  ⟨0x0060, 1, 1, 3, 1, .u, 2, .rw, true, false, 1000, .span 100 60000⟩,
  ⟨0x0060, 1, 1, 4, 1, .u, 2, .rw, true, false, 128, .span 32 320⟩,
  ⟨0x0060, 1, 1, 5, 1, .u, 4, .ro, false, false, 0, .any⟩,
  ⟨0x0060, 1, 1, 6, 1, .u, 2, .ro, false, false, 1760, .any⟩,
  ⟨0x0060, 1, 1, 7, 1, .i, 2, .ro, false, false, 0, .any⟩,
  ⟨0x0060, 1, 1, 8, 1, .dom, 48, .ro, false, false, 0, .any⟩,
  ⟨0x0060, 1, 1, 9, 1, .u, 1, .ro, false, false, 16, .any⟩]

/-- Objects 0x0061 to 0x1010. -/
def objects1 : List Obj := [
  ⟨0x0061, 1, 1, 0, 1, .dom, 48, .ro, false, false, 0, .any⟩,
  ⟨0x0070, 1, 1, 1, 1, .u, 2, .rw, true, false, 128, .span 16 800⟩,
  ⟨0x0070, 1, 1, 2, 1, .b, 1, .rw, true, false, 1, .any⟩,
  ⟨0x0070, 1, 1, 3, 1, .u, 2, .rw, true, false, 16, .span 1 65535⟩,
  ⟨0x0070, 1, 1, 4, 1, .u, 1, .rw, true, false, 0, .any⟩,
  ⟨0x0070, 1, 1, 5, 1, .u, 2, .rw, true, false, 60, .span 10 3600⟩,
  ⟨0x0070, 1, 1, 6, 1, .u, 2, .rw, true, false, 256, .span 16 1600⟩,
  ⟨0x0070, 1, 1, 7, 1, .dom, 16, .rw, true, false, 0, .any⟩,
  ⟨0x0070, 1, 1, 8, 1, .u, 4, .ro, false, false, 0, .any⟩,
  ⟨0x0070, 1, 1, 9, 1, .u, 4, .ro, false, false, 0, .any⟩,
  ⟨0x0070, 1, 1, 10, 1, .u, 2, .rw, true, false, 20, .span 5 50⟩,
  ⟨0x0071, 1, 1, 0, 1, .dom, 448, .ro, false, false, 0, .any⟩,
  ⟨0x1000, 1, 1, 1, 1, .u, 8, .ro, false, false, 0, .any⟩,
  ⟨0x1000, 1, 1, 2, 1, .u, 2, .ro, false, false, 0, .any⟩,
  ⟨0x1000, 1, 1, 3, 1, .i, 8, .ro, false, false, 0, .any⟩,
  ⟨0x1000, 1, 1, 4, 1, .i, 4, .ro, false, false, 0, .any⟩,
  ⟨0x1000, 1, 1, 5, 1, .u, 1, .rwi, true, false, 0, .span 0 2⟩,
  ⟨0x1000, 1, 1, 6, 1, .u, 4, .rw, true, false, 10000000, .span 1000 1000000000⟩,
  ⟨0x1000, 1, 1, 7, 1, .i, 8, .ro, false, false, 0, .any⟩,
  ⟨0x1000, 1, 1, 8, 1, .b, 1, .ro, false, false, 0, .any⟩,
  ⟨0x1000, 1, 1, 9, 1, .u, 1, .cmd, false, false, 0, .span 1 1⟩,
  ⟨0x1000, 1, 1, 10, 1, .u, 1, .ro, false, false, 0, .any⟩,
  ⟨0x1000, 1, 1, 11, 1, .u, 1, .ro, false, false, 255, .any⟩,
  ⟨0x1000, 1, 1, 12, 1, .u, 1, .ro, false, false, 0, .any⟩,
  ⟨0x1000, 1, 1, 13, 1, .b, 1, .rw, true, false, 1, .any⟩,
  ⟨0x1001, 1, 1, 0, 1, .dom, 384, .ro, false, false, 0, .any⟩,
  ⟨0x1002, 1, 1, 1, 1, .u, 8, .ro, false, false, 0, .any⟩,
  ⟨0x1002, 1, 1, 2, 1, .u, 4, .ro, false, false, 0, .any⟩,
  ⟨0x1002, 1, 1, 3, 1, .dom, 12, .ro, false, false, 0, .any⟩,
  ⟨0x1010, 1, 1, 1, 1, .u, 1, .rw, true, false, 0, .span 0 255⟩,
  ⟨0x1010, 1, 2, 2, 1, .u, 1, .rw, true, false, 0, .span 0 2⟩,
  ⟨0x1010, 1, 2, 3, 1, .u, 1, .rw, true, false, 0, .span 0 1⟩,
  ⟨0x1010, 1, 1, 4, 1, .b, 1, .rw, true, false, 1, .any⟩,
  ⟨0x1010, 1, 2, 5, 1, .u, 1, .ro, false, false, 0, .any⟩,
  ⟨0x1010, 1, 2, 6, 1, .i, 8, .ro, false, false, 0, .any⟩,
  ⟨0x1010, 1, 2, 7, 1, .u, 4, .ro, false, false, 0, .any⟩,
  ⟨0x1010, 1, 2, 8, 1, .i, 4, .ro, false, false, 0, .any⟩,
  ⟨0x1010, 1, 2, 9, 1, .u, 8, .ro, false, false, 0, .any⟩,
  ⟨0x1010, 1, 2, 10, 1, .dom, 8, .ro, false, false, 0, .any⟩,
  ⟨0x1010, 1, 2, 11, 1, .u, 1, .ro, false, false, 0, .any⟩]

/-- Objects 0x1010 to 0x1812. -/
def objects2 : List Obj := [
  ⟨0x1010, 1, 2, 12, 1, .u, 1, .rw, true, false, 3, .span 2 16⟩,
  ⟨0x1010, 1, 2, 13, 1, .u, 4, .rw, true, false, 1000, .span 10 1000000⟩,
  ⟨0x1010, 1, 2, 14, 1, .u, 4, .ro, false, false, 0, .any⟩,
  ⟨0x1011, 1, 1, 1, 1, .u, 1, .rw, true, false, 1, .span 0 255⟩,
  ⟨0x1011, 1, 1, 4, 1, .b, 1, .rw, true, false, 0, .any⟩,
  ⟨0x1020, 1, 1, 1, 1, .u, 1, .rw, true, false, 0, .span 0 1⟩,
  ⟨0x1020, 1, 1, 2, 1, .b, 1, .rw, true, false, 1, .any⟩,
  ⟨0x1020, 1, 1, 3, 1, .u, 4, .ro, false, false, 0, .any⟩,
  ⟨0x1030, 1, 4, 1, 1, .u, 1, .rw, true, false, 0, .span 0 2⟩,
  ⟨0x1030, 1, 4, 2, 1, .u, 8, .rw, false, false, 0, .any⟩,
  ⟨0x1030, 1, 4, 3, 1, .u, 4, .rw, true, false, 1000000, .span 1000 4294967295⟩,
  ⟨0x1030, 1, 4, 4, 1, .u, 4, .rw, true, false, 1000, .any⟩,
  ⟨0x1030, 1, 4, 5, 1, .u, 1, .rw, true, false, 1, .span 0 1⟩,
  ⟨0x1030, 1, 4, 6, 1, .u, 1, .cmd, false, false, 0, .oneOf [1, 2]⟩,
  ⟨0x1030, 1, 4, 7, 1, .u, 1, .ro, false, false, 0, .any⟩,
  ⟨0x1030, 1, 4, 8, 1, .u, 1, .ro, false, false, 0, .any⟩,
  ⟨0x1030, 1, 4, 9, 1, .u, 4, .ro, false, false, 0, .any⟩,
  ⟨0x1040, 1, 4, 1, 1, .u, 1, .rw, true, false, 0, .span 0 3⟩,
  ⟨0x1040, 1, 4, 2, 1, .u, 1, .rw, true, false, 2, .span 0 15⟩,
  ⟨0x1040, 1, 4, 3, 1, .u, 1, .rw, true, false, 255, .oneOf [192, 193, 194, 195, 196, 197, 198, 199, 255]⟩,
  ⟨0x1040, 1, 4, 4, 1, .u, 8, .ro, false, false, 0, .any⟩,
  ⟨0x1040, 1, 4, 5, 1, .u, 2, .ro, false, false, 0, .any⟩,
  ⟨0x1040, 1, 4, 6, 1, .u, 4, .ro, false, false, 0, .any⟩,
  ⟨0x1040, 1, 4, 7, 1, .u, 4, .ro, false, false, 0, .any⟩,
  ⟨0x1800, 1, 1, 1, 1, .u, 1, .ro, false, false, 0, .any⟩,
  ⟨0x1800, 1, 1, 2, 1, .u, 1, .ro, false, false, 0, .any⟩,
  ⟨0x1801, 1, 1, 0, 1, .u, 8, .ro, false, false, 0, .any⟩,
  ⟨0x1802, 1, 1, 1, 1, .u, 4, .rw, true, false, 0, .any⟩,
  ⟨0x1802, 1, 1, 2, 1, .u, 1, .rw, true, false, 24, .span 1 30⟩,
  ⟨0x1802, 1, 1, 3, 1, .u, 4, .rw, true, false, 0, .any⟩,
  ⟨0x1803, 1, 1, 1, 1, .dom, 16, .rw, true, false, 0, .any⟩,
  ⟨0x1803, 1, 1, 2, 1, .u, 1, .rw, true, false, 64, .span 1 127⟩,
  ⟨0x1804, 1, 1, 0, 1, .b, 1, .rw, true, false, 0, .any⟩,
  ⟨0x1810, 1, 1, 0, 1, .b, 1, .rw, true, false, 0, .any⟩,
  ⟨0x1811, 1, 1, 0, 1, .dom, 160, .rw, true, false, 0, .any⟩,
  ⟨0x1812, 1, 1, 1, 1, .u, 4, .ro, false, false, 0, .any⟩,
  ⟨0x1812, 1, 1, 2, 1, .u, 4, .ro, false, false, 0, .any⟩,
  ⟨0x1812, 1, 1, 3, 1, .u, 4, .ro, false, false, 0, .any⟩,
  ⟨0x1812, 1, 1, 4, 1, .u, 4, .ro, false, false, 0, .any⟩,
  ⟨0x1812, 1, 1, 5, 1, .u, 4, .ro, false, false, 0, .any⟩]

/-- Objects 0x1813 to 0x2800. -/
def objects3 : List Obj := [
  ⟨0x1813, 1, 1, 1, 4, .dom, 20, .ro, false, false, 0, .any⟩,
  ⟨0x2000, 1, 1, 1, 1, .u, 1, .rwi, true, false, 1, .span 0 3⟩,
  ⟨0x2000, 1, 1, 2, 1, .b, 1, .rw, true, false, 0, .any⟩,
  ⟨0x2000, 1, 1, 3, 1, .u, 1, .rwi, true, false, 0, .span 0 1⟩,
  ⟨0x2000, 1, 1, 4, 1, .dom, 16, .rw, true, false, 0, .any⟩,
  ⟨0x2000, 1, 1, 5, 1, .u, 1, .rw, true, false, 3, .span 1 16⟩,
  ⟨0x2000, 1, 1, 6, 1, .u, 8, .ro, false, false, 0, .any⟩,
  ⟨0x2000, 1, 1, 7, 1, .u, 8, .ro, false, false, 0, .any⟩,
  ⟨0x2000, 1, 1, 8, 1, .u, 4, .ro, false, false, 0, .any⟩,
  ⟨0x2000, 1, 1, 9, 1, .u, 4, .rw, true, false, 0, .any⟩,
  ⟨0x2100, 32, 4, 1, 1, .u, 1, .ro, false, false, 0, .any⟩,
  ⟨0x2100, 32, 4, 2, 1, .u, 1, .cmd, false, false, 0, .span 1 7⟩,
  ⟨0x2100, 32, 4, 3, 1, .u, 1, .ro, false, false, 0, .any⟩,
  ⟨0x2100, 32, 4, 4, 1, .u, 4, .rw, true, false, 0, .any⟩,
  ⟨0x2100, 32, 4, 5, 1, .u, 4, .rw, true, false, 10000, .span 1 2147483647⟩,
  ⟨0x2100, 32, 4, 6, 1, .u, 4, .rw, true, false, 0, .any⟩,
  ⟨0x2100, 32, 4, 7, 1, .u, 4, .rw, true, false, 100000, .span 1 4294967295⟩,
  ⟨0x2100, 32, 4, 8, 1, .u, 4, .rw, true, false, 100000, .span 1 4294967295⟩,
  ⟨0x2100, 32, 4, 9, 1, .u, 4, .rw, true, false, 100000, .span 1 4294967295⟩,
  ⟨0x2100, 32, 4, 10, 1, .u, 4, .rw, true, false, 1000000, .span 1 4294967295⟩,
  ⟨0x2100, 32, 4, 11, 1, .i, 8, .rw, false, false, 0, .any⟩,
  ⟨0x2100, 32, 4, 12, 1, .u, 1, .rw, false, false, 0, .span 0 1⟩,
  ⟨0x2100, 32, 4, 13, 1, .u, 1, .rw, false, false, 0, .bits 0x0F⟩,
  ⟨0x2100, 32, 4, 14, 1, .i, 4, .rw, true, false, 1, .span 1 4294967295⟩,
  ⟨0x2100, 32, 4, 15, 1, .u, 4, .rw, true, false, 1, .span 1 4294967295⟩,
  ⟨0x2100, 32, 4, 16, 1, .dom, 16, .rw, false, false, 0, .any⟩,
  ⟨0x2100, 32, 4, 17, 1, .u, 1, .cmd, false, false, 0, .oneOf [1, 2]⟩,
  ⟨0x2100, 32, 4, 18, 1, .u, 1, .ro, false, false, 0, .any⟩,
  ⟨0x2100, 32, 4, 19, 1, .i, 8, .rw, false, false, 0, .any⟩,
  ⟨0x2100, 32, 4, 20, 1, .i, 8, .ro, false, false, 0, .any⟩,
  ⟨0x2100, 32, 4, 21, 1, .i, 4, .ro, false, false, 0, .any⟩,
  ⟨0x2100, 32, 4, 22, 1, .b, 1, .ro, false, false, 0, .any⟩,
  ⟨0x2100, 32, 4, 23, 1, .b, 1, .rw, true, false, 0, .any⟩,
  ⟨0x2100, 32, 4, 24, 1, .u, 4, .rw, true, false, 16, .any⟩,
  ⟨0x2100, 32, 4, 25, 1, .dom, 16, .rw, true, false, 0, .any⟩,
  ⟨0x2100, 32, 4, 26, 1, .i, 8, .ro, false, false, 0, .any⟩,
  ⟨0x2100, 32, 4, 27, 1, .u, 2, .ro, false, false, 0, .any⟩,
  ⟨0x2100, 32, 4, 28, 1, .dom, 20, .ro, false, false, 0, .any⟩,
  ⟨0x2100, 32, 4, 29, 1, .u, 4, .ro, false, false, 0, .any⟩,
  ⟨0x2800, 1, 1, 1, 1, .u, 1, .rwi, true, false, 0, .span 0 1⟩]

/-- Objects 0x2800 to 0x2862. -/
def objects4 : List Obj := [
  ⟨0x2800, 1, 1, 2, 1, .u, 1, .rwi, true, false, 0, .span 0 3⟩,
  ⟨0x2800, 1, 1, 3, 1, .u, 1, .rwi, true, false, 0, .span 0 3⟩,
  ⟨0x2800, 1, 1, 4, 1, .u, 4, .rw, true, false, 0, .span 0 3276800⟩,
  ⟨0x2810, 1, 2, 1, 1, .u, 1, .rw, true, false, 4, .span 0 15⟩,
  ⟨0x2810, 1, 2, 2, 1, .b, 1, .rwi, true, false, 0, .any⟩,
  ⟨0x2810, 1, 2, 3, 1, .i, 8, .ro, false, false, 0, .any⟩,
  ⟨0x2810, 1, 2, 4, 1, .u, 4, .ro, false, false, 0, .any⟩,
  ⟨0x2810, 1, 2, 5, 1, .i, 8, .ro, false, false, 0, .any⟩,
  ⟨0x2810, 1, 2, 6, 1, .u, 8, .ro, false, false, 0, .any⟩,
  ⟨0x2810, 1, 2, 7, 1, .u, 1, .rw, true, false, 4, .span 0 4⟩,
  ⟨0x2810, 1, 2, 8, 1, .u, 1, .rw, true, false, 255, .oneOf [192, 193, 194, 195, 196, 197, 198, 199, 255]⟩,
  ⟨0x2810, 1, 2, 9, 1, .u, 4, .ro, false, false, 0, .any⟩,
  ⟨0x2820, 1, 1, 1, 1, .u, 4, .rwi, true, false, 65536, .span 65536 4294901760⟩,
  ⟨0x2820, 1, 1, 2, 1, .u, 1, .rw, true, false, 4, .span 0 255⟩,
  ⟨0x2820, 1, 1, 3, 1, .b, 1, .rw, true, false, 1, .any⟩,
  ⟨0x2820, 1, 1, 4, 1, .u, 1, .rw, true, false, 2, .span 0 4⟩,
  ⟨0x2820, 1, 1, 5, 1, .i, 8, .ro, false, false, 0, .any⟩,
  ⟨0x2820, 1, 1, 6, 1, .u, 8, .ro, false, false, 0, .any⟩,
  ⟨0x2820, 1, 1, 7, 1, .u, 8, .ro, false, false, 0, .any⟩,
  ⟨0x2820, 1, 1, 8, 1, .u, 4, .ro, false, false, 0, .any⟩,
  ⟨0x2820, 1, 1, 9, 1, .u, 4, .ro, false, false, 0, .any⟩,
  ⟨0x2820, 1, 1, 10, 1, .u, 4, .ro, false, false, 0, .any⟩,
  ⟨0x2820, 1, 1, 11, 1, .u, 8, .rw, false, false, 0, .any⟩,
  ⟨0x2820, 1, 1, 12, 1, .u, 1, .cmd, false, false, 0, .span 1 1⟩,
  ⟨0x2830, 1, 1, 1, 1, .u, 1, .rw, true, false, 16, .span 1 255⟩,
  ⟨0x2830, 1, 1, 2, 1, .u, 4, .ro, false, false, 0, .any⟩,
  ⟨0x2830, 1, 1, 3, 1, .b, 1, .ro, false, false, 0, .any⟩,
  ⟨0x2830, 1, 1, 4, 1, .u, 4, .ro, false, false, 0, .any⟩,
  ⟨0x2830, 1, 1, 5, 1, .u, 4, .ro, false, false, 80000, .any⟩,
  ⟨0x2830, 1, 1, 6, 1, .u, 4, .ro, false, false, 640, .any⟩,
  ⟨0x2831, 1, 1, 1, 16, .u, 4, .rwi, true, false, 80000, .span 1000 80000⟩,
  ⟨0x2840, 1, 16, 1, 4, .u, 4, .rwi, true, false, 0, .span 0 524287⟩,
  ⟨0x2840, 1, 16, 5, 4, .u, 2, .rw, true, false, 0, .span 0 4000⟩,
  ⟨0x2860, 1, 1, 1, 1, .u, 1, .cmd, false, false, 0, .span 1 1⟩,
  ⟨0x2860, 1, 1, 2, 1, .u, 1, .ro, false, false, 0, .any⟩,
  ⟨0x2860, 1, 1, 3, 1, .u, 2, .rw, true, false, 10, .span 1 1000⟩,
  ⟨0x2860, 1, 1, 4, 1, .u, 4, .ro, false, false, 0, .any⟩,
  ⟨0x2860, 1, 1, 5, 1, .u, 4, .ro, false, false, 0, .any⟩,
  ⟨0x2861, 1, 1, 0, 1, .dom, 640, .rw, false, false, 0, .any⟩,
  ⟨0x2862, 1, 1, 0, 1, .dom, 640, .ro, false, false, 0, .any⟩]

/-- Objects 0x2870 to 0x3002. -/
def objects5 : List Obj := [
  ⟨0x2870, 1, 1, 1, 1, .u, 4, .rwi, true, false, 1024, .span 64 524288⟩,
  ⟨0x2870, 1, 1, 2, 1, .i, 8, .rwi, true, false, 0, .any⟩,
  ⟨0x2870, 1, 1, 3, 1, .i, 8, .rwi, true, false, 0, .any⟩,
  ⟨0x2870, 1, 1, 4, 1, .u, 4, .rwi, true, false, 0, .span 0 524287⟩,
  ⟨0x2870, 1, 1, 5, 1, .u, 1, .rwi, true, false, 0, .span 0 2⟩,
  ⟨0x2870, 1, 1, 6, 1, .u, 1, .rwi, true, false, 1, .span 0 3⟩,
  ⟨0x2870, 1, 1, 7, 1, .u, 2, .rwi, true, false, 4, .any⟩,
  ⟨0x2870, 1, 1, 8, 1, .u, 1, .rwi, true, false, 1, .span 1 64⟩,
  ⟨0x2870, 1, 1, 9, 1, .u, 1, .rwi, true, false, 1, .span 1 16⟩,
  ⟨0x2870, 1, 1, 10, 1, .u, 1, .rwi, true, false, 1, .span 1 64⟩,
  ⟨0x2870, 1, 1, 11, 1, .u, 1, .cmd, false, false, 0, .oneOf [1, 2]⟩,
  ⟨0x2870, 1, 1, 12, 1, .u, 1, .ro, false, false, 0, .any⟩,
  ⟨0x2870, 1, 1, 13, 1, .u, 4, .ro, false, false, 0, .any⟩,
  ⟨0x2870, 1, 1, 14, 1, .u, 8, .ro, false, false, 0, .any⟩,
  ⟨0x2870, 1, 1, 15, 1, .u, 1, .ro, false, false, 0, .any⟩,
  ⟨0x2871, 1, 1, 0, 1, .dom, 512, .rwi, true, false, 0, .any⟩,
  ⟨0x2872, 1, 1, 0, 1, .dom, 32, .rw, true, false, 0, .any⟩,
  ⟨0x2873, 1, 1, 0, 1, .dom, 32768, .rwi, true, true, 0, .any⟩,
  ⟨0x3000, 256, 16, 1, 1, .u, 1, .rwi, true, false, 1, .span 0 1⟩,
  ⟨0x3000, 256, 16, 2, 1, .u, 1, .rwi, true, false, 3, .span 0 3⟩,
  ⟨0x3000, 256, 16, 3, 1, .b, 1, .rwi, true, false, 0, .any⟩,
  ⟨0x3000, 256, 16, 4, 1, .u, 1, .rwi, true, false, 0, .bits 0x1F⟩,
  ⟨0x3000, 256, 16, 5, 1, .u, 1, .rwi, true, false, 8, .span 3 32⟩,
  ⟨0x3000, 256, 16, 6, 1, .u, 1, .rwi, true, false, 15, .bits 0x0F⟩,
  ⟨0x3000, 256, 16, 7, 1, .u, 2, .rw, true, false, 20, .span 0 500⟩,
  ⟨0x3000, 256, 16, 8, 1, .b, 1, .rw, true, false, 1, .any⟩,
  ⟨0x3000, 256, 16, 9, 1, .u, 1, .rwi, true, false, 3, .span 0 7⟩,
  ⟨0x3001, 256, 16, 1, 1, .u, 1, .ro, false, false, 0, .any⟩,
  ⟨0x3001, 256, 16, 2, 1, .u, 1, .ro, false, false, 0, .any⟩,
  ⟨0x3001, 256, 16, 3, 1, .u, 4, .ro, false, false, 0, .any⟩,
  ⟨0x3001, 256, 16, 4, 1, .u, 1, .ro, false, false, 0, .any⟩,
  ⟨0x3001, 256, 16, 5, 1, .u, 4, .ro, false, false, 0, .any⟩,
  ⟨0x3001, 256, 16, 6, 1, .dom, 8, .ro, false, false, 0, .any⟩,
  ⟨0x3001, 256, 16, 7, 1, .u, 4, .ro, false, false, 0, .any⟩,
  ⟨0x3001, 256, 16, 8, 1, .u, 4, .ro, false, false, 0, .any⟩,
  ⟨0x3001, 256, 16, 9, 1, .u, 4, .ro, false, false, 80000, .any⟩,
  ⟨0x3002, 256, 16, 1, 1, .u, 8, .ro, false, false, 0, .any⟩,
  ⟨0x3002, 256, 16, 2, 1, .u, 8, .ro, false, false, 0, .any⟩,
  ⟨0x3002, 256, 16, 3, 1, .u, 4, .ro, false, false, 0, .any⟩,
  ⟨0x3002, 256, 16, 4, 1, .u, 4, .ro, false, false, 0, .any⟩]

/-- Objects 0x3002 to 0x401A. -/
def objects6 : List Obj := [
  ⟨0x3002, 256, 16, 5, 1, .u, 4, .ro, false, false, 0, .any⟩,
  ⟨0x3002, 256, 16, 6, 1, .u, 4, .ro, false, false, 0, .any⟩,
  ⟨0x3002, 256, 16, 7, 1, .u, 4, .ro, false, false, 0, .any⟩,
  ⟨0x3003, 256, 16, 1, 1, .dom, 32, .ro, false, false, 0, .any⟩,
  ⟨0x3003, 256, 16, 2, 1, .u, 2, .rw, true, false, 500, .span 100 1000⟩,
  ⟨0x3004, 256, 16, 0, 1, .u, 2, .rwi, true, false, 0, .any⟩,
  ⟨0x3010, 256, 16, 1, 1, .u, 1, .cmd, false, false, 0, .oneOf [1, 2]⟩,
  ⟨0x3010, 256, 16, 2, 1, .u, 1, .ro, false, false, 0, .any⟩,
  ⟨0x3010, 256, 16, 3, 1, .u, 8, .ro, false, false, 0, .any⟩,
  ⟨0x3010, 256, 16, 4, 1, .dom, 32768, .ro, false, true, 0, .any⟩,
  ⟨0x3010, 256, 16, 5, 1, .dom, 32768, .rw, true, true, 0, .any⟩,
  ⟨0x3010, 256, 16, 6, 1, .u, 2, .ro, false, false, 0, .any⟩,
  ⟨0x3010, 256, 16, 7, 1, .u, 2, .rw, true, false, 600, .span 10 5000⟩,
  ⟨0x3010, 256, 16, 8, 1, .u, 1, .rw, true, false, 3, .span 1 255⟩,
  ⟨0x3010, 256, 16, 9, 1, .u, 4, .rw, true, false, 600, .span 1 86400⟩,
  ⟨0x3010, 256, 16, 10, 1, .u, 4, .rw, true, false, 0, .span 0 86400⟩,
  ⟨0x3010, 256, 16, 11, 1, .u, 4, .ro, false, false, 0, .any⟩,
  ⟨0x4000, 1, 1, 1, 1, .u, 4, .ro, false, false, 0, .any⟩,
  ⟨0x4000, 1, 1, 2, 1, .u, 8, .ro, false, false, 0, .any⟩,
  ⟨0x4000, 1, 1, 3, 1, .u, 8, .ro, false, false, 0, .any⟩,
  ⟨0x4000, 1, 1, 4, 1, .u, 8, .ro, false, false, 0, .any⟩,
  ⟨0x4000, 1, 1, 5, 1, .u, 4, .ro, false, false, 0, .any⟩,
  ⟨0x4000, 1, 1, 6, 1, .u, 8, .ro, false, false, 0, .any⟩,
  ⟨0x4001, 1, 1, 2, 1, .b, 1, .rw, true, false, 1, .any⟩,
  ⟨0x4001, 1, 1, 3, 1, .i, 4, .rw, true, false, 0, .any⟩,
  ⟨0x4001, 1, 1, 4, 1, .u, 2, .rw, true, false, 1024, .span 64 8192⟩,
  ⟨0x4010, 1, 1, 1, 1, .u, 2, .ro, false, false, 1, .any⟩,
  ⟨0x4010, 1, 1, 2, 1, .u, 2, .ro, false, false, 0, .any⟩,
  ⟨0x4010, 1, 1, 3, 1, .u, 1, .cmd, false, false, 0, .span 1 3⟩,
  ⟨0x4010, 1, 1, 4, 1, .u, 1, .ro, false, false, 0, .any⟩,
  ⟨0x4010, 1, 1, 5, 1, .u, 1, .ro, false, false, 0, .any⟩,
  ⟨0x4010, 1, 1, 6, 1, .u, 4, .ro, false, false, 0, .any⟩,
  ⟨0x4010, 1, 1, 7, 1, .u, 2, .rw, false, false, 0, .span 0 32768⟩,
  ⟨0x4010, 1, 1, 8, 1, .u, 1, .ro, false, false, 0, .any⟩,
  ⟨0x4011, 1, 1, 0, 1, .dom, 2097152, .rw, false, true, 0, .any⟩,
  ⟨0x4012, 1, 1, 0, 1, .dom, 1048576, .rw, false, true, 0, .any⟩,
  ⟨0x4013, 1, 1, 0, 1, .dom, 2097152, .rw, false, true, 0, .any⟩,
  ⟨0x4014, 1, 1, 0, 1, .dom, 262144, .rw, false, true, 0, .any⟩,
  ⟨0x4019, 1, 1, 0, 1, .dom, 2097152, .ro, false, true, 0, .any⟩,
  ⟨0x401A, 1, 1, 0, 1, .dom, 1048576, .ro, false, true, 0, .any⟩]

/-- Objects 0x401B to 0x4813. -/
def objects7 : List Obj := [
  ⟨0x401B, 1, 1, 0, 1, .dom, 2097152, .ro, false, true, 0, .any⟩,
  ⟨0x401C, 1, 1, 0, 1, .dom, 262144, .ro, false, true, 0, .any⟩,
  ⟨0x401D, 1, 1, 0, 1, .u, 2, .ro, false, false, 0, .any⟩,
  ⟨0x4020, 1, 1, 1, 1, .u, 4, .ro, false, false, 0, .any⟩,
  ⟨0x4020, 1, 1, 2, 1, .dom, 1024, .ro, false, false, 0, .any⟩,
  ⟨0x4020, 1, 1, 3, 1, .u, 1, .rw, true, false, 0, .span 0 1⟩,
  ⟨0x4020, 1, 1, 4, 1, .u, 4, .rw, true, false, 20000, .span 1000 10000000⟩,
  ⟨0x4020, 1, 1, 5, 1, .b, 1, .rw, true, false, 1, .any⟩,
  ⟨0x4020, 1, 1, 6, 1, .b, 1, .rw, true, false, 1, .any⟩,
  ⟨0x4020, 1, 1, 7, 1, .u, 1, .rw, true, false, 4, .span 1 32⟩,
  ⟨0x4020, 1, 1, 8, 1, .u, 1, .cmd, false, false, 0, .span 1 1⟩,
  ⟨0x4020, 1, 1, 9, 1, .dom, 32768, .ro, false, true, 0, .any⟩,
  ⟨0x4030, 1, 8, 1, 1, .u, 1, .rwi, true, false, 0, .span 0 1⟩,
  ⟨0x4030, 1, 8, 2, 1, .u, 1, .rwi, true, false, 0, .span 0 2⟩,
  ⟨0x4030, 1, 8, 3, 1, .u, 2, .rwi, true, false, 256, .span 0 1024⟩,
  ⟨0x4030, 1, 8, 4, 1, .u, 4, .rwi, true, false, 0, .span 0 4194303⟩,
  ⟨0x4030, 1, 8, 5, 1, .u, 1, .rwi, true, false, 8, .span 3 11⟩,
  ⟨0x4030, 1, 8, 6, 1, .u, 1, .rwi, true, false, 8, .span 3 11⟩,
  ⟨0x4030, 1, 8, 7, 1, .u, 2, .rwi, true, false, 0, .span 0 2047⟩,
  ⟨0x4030, 1, 8, 8, 1, .u, 2, .rwi, true, false, 0, .span 0 2047⟩,
  ⟨0x4038, 1, 1, 0, 1, .dom, 8388608, .rwi, false, true, 0, .any⟩,
  ⟨0x4800, 1, 1, 1, 1, .u, 4, .rwi, true, false, 256, .span 16 4294967295⟩,
  ⟨0x4800, 1, 1, 2, 1, .u, 4, .ro, false, false, 256, .any⟩,
  ⟨0x4800, 1, 1, 3, 1, .u, 8, .ro, false, false, 0, .any⟩,
  ⟨0x4800, 1, 1, 4, 1, .u, 8, .ro, false, false, 0, .any⟩,
  ⟨0x4810, 1, 1, 1, 1, .b, 1, .rw, true, false, 1, .any⟩,
  ⟨0x4810, 1, 1, 2, 1, .u, 1, .rw, true, false, 2, .span 0 8⟩,
  ⟨0x4810, 1, 1, 3, 1, .b, 1, .rw, true, false, 1, .any⟩,
  ⟨0x4810, 1, 1, 4, 1, .b, 1, .rw, true, false, 1, .any⟩,
  ⟨0x4811, 1, 1, 1, 1, .u, 4, .rw, true, false, 1024, .span 128 1048575⟩,
  ⟨0x4811, 1, 1, 2, 1, .u, 1, .rwi, true, false, 4, .span 2 16⟩,
  ⟨0x4811, 1, 1, 3, 1, .u, 1, .rwi, true, false, 1, .span 0 1⟩,
  ⟨0x4812, 1, 1, 1, 1, .u, 1, .rw, true, false, 1, .span 0 2⟩,
  ⟨0x4812, 1, 1, 2, 1, .u, 4, .rw, true, false, 0, .span 0 16777215⟩,
  ⟨0x4812, 1, 1, 3, 1, .u, 2, .rw, true, false, 16, .span 0 65535⟩,
  ⟨0x4812, 1, 1, 4, 1, .u, 2, .rw, true, false, 16, .span 0 65535⟩,
  ⟨0x4812, 1, 1, 5, 1, .u, 4, .rw, true, false, 20000, .span 1 1000000⟩,
  ⟨0x4813, 1, 1, 1, 1, .u, 8, .ro, false, false, 0, .any⟩,
  ⟨0x4813, 1, 1, 2, 1, .u, 8, .ro, false, false, 0, .any⟩,
  ⟨0x4813, 1, 1, 3, 1, .u, 8, .ro, false, false, 0, .any⟩]

/-- Objects 0x4813 to 0x5030. -/
def objects8 : List Obj := [
  ⟨0x4813, 1, 1, 4, 1, .u, 4, .ro, false, false, 0, .any⟩,
  ⟨0x4813, 1, 1, 5, 1, .u, 4, .ro, false, false, 0, .any⟩,
  ⟨0x4813, 1, 1, 6, 1, .u, 4, .ro, false, false, 0, .any⟩,
  ⟨0x4813, 1, 1, 7, 1, .u, 4, .ro, false, false, 0, .any⟩,
  ⟨0x4813, 1, 1, 8, 1, .u, 4, .ro, false, false, 0, .any⟩,
  ⟨0x4814, 1, 1, 0, 1, .dom, 64, .ro, false, false, 0, .any⟩,
  ⟨0x4815, 1, 1, 0, 1, .dom, 32, .ro, false, false, 0, .any⟩,
  ⟨0x4880, 1, 1, 1, 1, .u, 2, .ro, false, false, 0, .any⟩,
  ⟨0x4880, 1, 1, 2, 1, .dom, 16384, .ro, false, true, 0, .any⟩,
  ⟨0x4881, 1, 1, 1, 1, .u, 4, .rw, false, false, 0, .any⟩,
  ⟨0x4881, 1, 1, 2, 1, .u, 4, .rw, false, false, 0, .any⟩,
  ⟨0x4881, 1, 1, 3, 1, .u, 1, .cmd, false, false, 0, .span 1 3⟩,
  ⟨0x4881, 1, 1, 4, 1, .u, 1, .ro, false, false, 0, .any⟩,
  ⟨0x4882, 1, 1, 0, 1, .b, 1, .rw, false, false, 0, .any⟩,
  ⟨0x4883, 1, 1, 0, 1, .u, 1, .rw, true, false, 0, .span 0 1⟩,
  ⟨0x5000, 1, 1, 1, 1, .u, 1, .rw, true, false, 1, .span 0 7⟩,
  ⟨0x5000, 1, 1, 2, 1, .u, 1, .rw, true, false, 1, .span 0 7⟩,
  ⟨0x5000, 1, 1, 3, 1, .u, 1, .ro, false, false, 0, .any⟩,
  ⟨0x5000, 1, 1, 4, 1, .u, 1, .ro, false, false, 0, .any⟩,
  ⟨0x5000, 1, 1, 5, 1, .u, 2, .rwi, true, false, 9000, .oneOf [1500, 9000]⟩,
  ⟨0x5001, 1, 1, 1, 1, .u, 8, .ro, false, false, 0, .any⟩,
  ⟨0x5001, 1, 1, 2, 1, .u, 8, .ro, false, false, 0, .any⟩,
  ⟨0x5002, 1, 1, 1, 1, .u, 4, .rw, true, false, 0, .any⟩,
  ⟨0x5002, 1, 1, 2, 1, .u, 1, .rw, true, false, 24, .span 1 30⟩,
  ⟨0x5002, 1, 1, 3, 1, .u, 4, .rw, true, false, 0, .any⟩,
  ⟨0x5002, 1, 1, 4, 1, .u, 1, .rw, true, false, 24, .span 1 30⟩,
  ⟨0x5003, 1, 1, 1, 1, .dom, 16, .rw, true, false, 0, .any⟩,
  ⟨0x5003, 1, 1, 2, 1, .dom, 16, .rw, true, false, 0, .any⟩,
  ⟨0x5010, 1, 16, 1, 1, .dom, 16, .wo, true, false, 0, .any⟩,
  ⟨0x5010, 1, 16, 2, 1, .b, 1, .rw, true, false, 0, .any⟩,
  ⟨0x5010, 1, 16, 3, 1, .u, 8, .rw, true, false, 4294967296, .any⟩,
  ⟨0x5010, 1, 16, 4, 1, .u, 4, .rw, true, false, 4194304, .any⟩,
  ⟨0x5010, 1, 16, 5, 1, .u, 1, .rw, true, false, 16, .span 1 64⟩,
  ⟨0x5010, 1, 16, 6, 1, .b, 1, .ro, false, false, 0, .any⟩,
  ⟨0x5020, 1, 1, 1, 1, .u, 4, .rw, true, false, 2000, .span 100 60000⟩,
  ⟨0x5020, 1, 1, 2, 1, .u, 1, .rw, true, false, 32, .span 4 32⟩,
  ⟨0x5020, 1, 1, 3, 1, .u, 1, .rw, true, false, 12, .span 4 32⟩,
  ⟨0x5030, 1, 64, 1, 1, .u, 1, .ro, false, false, 0, .any⟩,
  ⟨0x5030, 1, 64, 2, 1, .u, 1, .ro, false, false, 0, .any⟩,
  ⟨0x5030, 1, 64, 3, 1, .dom, 20, .ro, false, false, 0, .any⟩]

/-- Objects 0x5030 to 0x6002. -/
def objects9 : List Obj := [
  ⟨0x5030, 1, 64, 4, 1, .u, 8, .ro, false, false, 0, .any⟩,
  ⟨0x5030, 1, 64, 5, 1, .u, 4, .ro, false, false, 0, .any⟩,
  ⟨0x5030, 1, 64, 6, 1, .u, 2, .ro, false, false, 0, .any⟩,
  ⟨0x5030, 1, 64, 7, 1, .u, 4, .ro, false, false, 0, .any⟩,
  ⟨0x5030, 1, 64, 8, 1, .u, 1, .cmd, false, false, 0, .span 1 1⟩,
  ⟨0x5030, 1, 64, 9, 1, .u, 4, .ro, false, false, 0, .any⟩,
  ⟨0x5070, 1, 1, 1, 1, .u, 1, .ro, false, false, 0, .any⟩,
  ⟨0x5070, 1, 1, 2, 1, .u, 4, .ro, false, false, 0, .any⟩,
  ⟨0x5070, 1, 1, 3, 1, .u, 4, .ro, false, false, 0, .any⟩,
  ⟨0x5070, 1, 1, 4, 1, .u, 4, .ro, false, false, 0, .any⟩,
  ⟨0x5070, 1, 1, 5, 1, .u, 4, .ro, false, false, 25165824, .any⟩,
  ⟨0x5800, 1, 1, 1, 1, .u, 8, .ro, false, false, 0, .any⟩,
  ⟨0x5800, 1, 1, 2, 1, .u, 4, .ro, false, false, 0, .any⟩,
  ⟨0x5800, 1, 1, 3, 1, .u, 8, .ro, false, false, 0, .any⟩,
  ⟨0x5800, 1, 1, 4, 1, .u, 8, .ro, false, false, 0, .any⟩,
  ⟨0x5800, 1, 1, 5, 1, .u, 8, .ro, false, false, 0, .any⟩,
  ⟨0x5801, 1, 1, 1, 1, .u, 2, .rw, true, false, 3, .span 1 254⟩,
  ⟨0x5801, 1, 1, 2, 1, .u, 2, .rw, true, false, 15, .span 2 255⟩,
  ⟨0x5801, 1, 1, 3, 1, .u, 2, .rw, true, false, 768, .span 1 65534⟩,
  ⟨0x5801, 1, 1, 4, 1, .u, 2, .rw, true, false, 3840, .span 2 65535⟩,
  ⟨0x5801, 1, 1, 5, 1, .b, 1, .rw, true, false, 1, .any⟩,
  ⟨0x5801, 1, 1, 6, 1, .u, 2, .rw, true, false, 8, .span 2 2047⟩,
  ⟨0x5801, 1, 1, 7, 1, .b, 1, .rw, true, false, 1, .any⟩,
  ⟨0x5802, 1, 1, 1, 1, .u, 2, .rw, true, false, 1, .span 1 254⟩,
  ⟨0x5802, 1, 1, 2, 1, .u, 2, .rw, true, false, 4, .span 2 255⟩,
  ⟨0x5802, 1, 1, 3, 1, .b, 1, .rw, true, false, 1, .any⟩,
  ⟨0x5802, 1, 1, 4, 1, .u, 2, .rw, true, false, 8, .span 2 2047⟩,
  ⟨0x5802, 1, 1, 5, 1, .b, 1, .rw, true, false, 1, .any⟩,
  ⟨0x5803, 1, 1, 1, 1, .u, 8, .ro, false, false, 0, .any⟩,
  ⟨0x5803, 1, 1, 2, 1, .u, 8, .ro, false, false, 0, .any⟩,
  ⟨0x5803, 1, 1, 3, 1, .u, 8, .ro, false, false, 0, .any⟩,
  ⟨0x6000, 1, 1, 1, 1, .u, 1, .rw, true, false, 4, .oneOf [4, 8]⟩,
  ⟨0x6000, 1, 1, 2, 1, .u, 1, .rw, true, false, 1, .oneOf [1, 2]⟩,
  ⟨0x6000, 1, 1, 3, 1, .u, 1, .rw, true, false, 16, .oneOf [16, 32]⟩,
  ⟨0x6000, 1, 1, 4, 1, .u, 2, .rw, true, false, 6400, .oneOf [4800, 5200, 5600, 6000, 6400]⟩,
  ⟨0x6000, 1, 1, 5, 1, .u, 4, .ro, false, false, 0, .any⟩,
  ⟨0x6000, 1, 1, 6, 1, .u, 8, .ro, false, false, 0, .any⟩,
  ⟨0x6001, 1, 1, 1, 8, .u, 1, .ro, false, false, 0, .any⟩,
  ⟨0x6002, 1, 1, 1, 1, .u, 4, .ro, false, false, 10, .any⟩,
  ⟨0x6002, 1, 1, 2, 1, .u, 4, .ro, false, false, 0, .any⟩]

/-- Objects 0x6002 to 0x6820. -/
def objects10 : List Obj := [
  ⟨0x6002, 1, 1, 3, 1, .u, 4, .ro, false, false, 0, .any⟩,
  ⟨0x6002, 1, 1, 4, 1, .u, 4, .ro, false, false, 0, .any⟩,
  ⟨0x6002, 1, 1, 5, 1, .u, 8, .ro, false, false, 0, .any⟩,
  ⟨0x6003, 1, 1, 1, 1, .u, 4, .ro, false, false, 0, .any⟩,
  ⟨0x6003, 1, 1, 2, 1, .u, 4, .ro, false, false, 80000, .any⟩,
  ⟨0x6010, 1, 1, 1, 1, .u, 1, .rwi, true, false, 0, .span 0 1⟩,
  ⟨0x6010, 1, 1, 2, 1, .u, 1, .rw, true, false, 4, .span 0 4⟩,
  ⟨0x6010, 1, 1, 3, 1, .u, 1, .ro, false, false, 0, .any⟩,
  ⟨0x6010, 1, 1, 4, 1, .u, 8, .ro, false, false, 0, .any⟩,
  ⟨0x6010, 1, 1, 5, 1, .dom, 8, .ro, false, false, 0, .any⟩,
  ⟨0x6010, 1, 1, 6, 1, .i, 2, .ro, false, false, 0, .any⟩,
  ⟨0x6020, 1, 1, 1, 1, .u, 2, .rw, true, false, 4096, .span 512 32768⟩,
  ⟨0x6020, 1, 1, 2, 1, .u, 1, .rw, true, false, 0, .span 0 2⟩,
  ⟨0x6020, 1, 1, 3, 1, .u, 8, .ro, false, false, 0, .any⟩,
  ⟨0x6020, 1, 1, 4, 1, .b, 1, .ro, false, false, 0, .any⟩,
  ⟨0x6030, 1, 1, 1, 1, .u, 1, .cmd, false, false, 0, .oneOf [1, 2]⟩,
  ⟨0x6030, 1, 1, 2, 1, .u, 1, .rw, false, false, 0, .span 0 7⟩,
  ⟨0x6030, 1, 1, 3, 1, .u, 1, .ro, false, false, 0, .any⟩,
  ⟨0x6030, 1, 1, 4, 1, .u, 1, .ro, false, false, 0, .any⟩,
  ⟨0x6030, 1, 1, 5, 1, .u, 2, .rw, true, false, 100, .span 10 10000⟩,
  ⟨0x6030, 1, 1, 6, 1, .u, 2, .rw, true, false, 15, .span 2 100⟩,
  ⟨0x6030, 1, 1, 7, 1, .u, 2, .rw, true, false, 15, .span 5 50⟩,
  ⟨0x6030, 1, 1, 8, 1, .u, 2, .rw, true, false, 30, .span 10 100⟩,
  ⟨0x6030, 1, 1, 9, 1, .dom, 1024, .ro, false, false, 0, .any⟩,
  ⟨0x6040, 1, 1, 1, 1, .u, 8, .ro, false, false, 0, .any⟩,
  ⟨0x6040, 1, 1, 2, 1, .u, 8, .ro, false, false, 0, .any⟩,
  ⟨0x6040, 1, 1, 3, 1, .u, 4, .ro, false, false, 0, .any⟩,
  ⟨0x6800, 1, 12, 1, 1, .u, 2, .rw, true, false, 32, .span 1 65535⟩,
  ⟨0x6800, 1, 12, 2, 1, .u, 2, .rw, true, false, 1000, .span 1 65000⟩,
  ⟨0x6800, 1, 12, 3, 1, .u, 2, .ro, false, false, 0, .any⟩,
  ⟨0x6800, 1, 12, 4, 1, .u, 4, .ro, false, false, 0, .any⟩,
  ⟨0x6800, 1, 12, 5, 1, .u, 4, .ro, false, false, 0, .any⟩,
  ⟨0x6800, 1, 12, 6, 1, .u, 4, .ro, false, false, 0, .any⟩,
  ⟨0x6800, 1, 12, 7, 1, .dom, 32, .ro, false, false, 0, .any⟩,
  ⟨0x6810, 1, 1, 1, 1, .u, 4, .ro, false, false, 0, .any⟩,
  ⟨0x6820, 1, 8, 1, 1, .u, 1, .rw, false, false, 32, .oneOf [8, 16, 32]⟩,
  ⟨0x6820, 1, 8, 2, 1, .u, 4, .rw, false, false, 517762881, .any⟩,
  ⟨0x6820, 1, 8, 3, 1, .u, 4, .rw, false, false, 4294967295, .any⟩,
  ⟨0x6820, 1, 8, 4, 1, .u, 1, .rw, false, false, 3, .bits 0x03⟩,
  ⟨0x6820, 1, 8, 5, 1, .u, 4, .rw, false, false, 4294967295, .any⟩]

/-- Objects 0x6820 to 0x7900. -/
def objects11 : List Obj := [
  ⟨0x6820, 1, 8, 6, 1, .u, 1, .cmd, false, false, 0, .oneOf [1, 2]⟩,
  ⟨0x6820, 1, 8, 7, 1, .u, 4, .rw, false, false, 4294967295, .any⟩,
  ⟨0x6820, 1, 8, 8, 1, .u, 4, .ro, false, false, 0, .any⟩,
  ⟨0x6820, 1, 8, 9, 1, .u, 4, .rw, false, false, 0, .any⟩,
  ⟨0x6820, 1, 8, 10, 1, .u, 1, .ro, false, false, 0, .any⟩,
  ⟨0x6820, 1, 8, 11, 1, .u, 1, .wo, false, false, 0, .any⟩,
  ⟨0x6820, 1, 8, 12, 1, .u, 2, .wo, false, false, 0, .any⟩,
  ⟨0x6820, 1, 8, 13, 1, .u, 4, .wo, false, false, 0, .any⟩,
  ⟨0x6820, 1, 8, 14, 1, .u, 8, .wo, false, false, 0, .any⟩,
  ⟨0x6820, 1, 8, 15, 1, .u, 8, .ro, false, false, 0, .any⟩,
  ⟨0x6820, 1, 8, 16, 1, .u, 1, .ro, false, false, 0, .any⟩,
  ⟨0x7000, 32, 32, 1, 1, .u, 1, .rwi, false, false, 4, .span 0 4⟩,
  ⟨0x7000, 32, 32, 2, 1, .u, 1, .rwi, false, false, 0, .span 0 1⟩,
  ⟨0x7000, 32, 32, 3, 1, .u, 1, .rwi, false, false, 0, .span 0 1⟩,
  ⟨0x7000, 32, 32, 4, 1, .u, 1, .rw, false, false, 0, .span 0 3⟩,
  ⟨0x7000, 32, 32, 5, 1, .u, 1, .cmd, false, false, 0, .span 1 3⟩,
  ⟨0x7000, 32, 32, 6, 1, .u, 1, .ro, false, false, 0, .any⟩,
  ⟨0x7000, 32, 32, 7, 1, .u, 1, .ro, false, false, 0, .any⟩,
  ⟨0x7000, 32, 32, 8, 1, .u, 1, .ro, false, false, 0, .any⟩,
  ⟨0x7000, 32, 32, 9, 1, .u, 8, .ro, false, false, 0, .any⟩,
  ⟨0x7000, 32, 32, 10, 1, .u, 2, .ro, false, false, 0, .any⟩,
  ⟨0x7000, 32, 32, 11, 1, .u, 8, .ro, false, false, 0, .any⟩,
  ⟨0x7000, 32, 32, 12, 1, .u, 1, .ro, false, false, 0, .any⟩,
  ⟨0x7000, 32, 32, 13, 1, .dom, 64, .rw, false, false, 0, .any⟩,
  ⟨0x7000, 32, 32, 14, 1, .u, 8, .ro, false, false, 0, .any⟩,
  ⟨0x7800, 1, 1, 1, 1, .u, 4, .ro, false, false, 0, .any⟩,
  ⟨0x7800, 1, 1, 2, 1, .u, 1, .cmd, false, false, 0, .oneOf [1, 2]⟩,
  ⟨0x7800, 1, 1, 3, 1, .u, 1, .ro, false, false, 0, .any⟩,
  ⟨0x7800, 1, 1, 4, 1, .u, 4, .ro, false, false, 0, .any⟩,
  ⟨0x7800, 1, 1, 5, 1, .u, 1, .ro, false, false, 0, .any⟩,
  ⟨0x7800, 1, 1, 6, 1, .u, 4, .ro, false, false, 0, .any⟩,
  ⟨0x7800, 1, 1, 7, 1, .u, 4, .ro, false, false, 0, .any⟩,
  ⟨0x7800, 1, 1, 8, 1, .dom, 20, .ro, false, false, 0, .any⟩,
  ⟨0x7801, 1, 1, 0, 1, .dom, 32, .ro, false, false, 0, .any⟩,
  ⟨0x7802, 1, 1, 0, 1, .dom, 32, .ro, false, false, 0, .any⟩,
  ⟨0x7803, 1, 1, 1, 1, .u, 1, .ro, false, false, 0, .any⟩,
  ⟨0x7803, 1, 1, 2, 1, .u, 8, .ro, false, false, 0, .any⟩,
  ⟨0x7900, 1, 256, 1, 1, .u, 2, .rw, true, false, 3, .span 0 65535⟩,
  ⟨0x7900, 1, 256, 2, 1, .u, 4, .rw, true, false, 600000, .span 1 86400000⟩,
  ⟨0x7900, 1, 256, 3, 1, .u, 1, .rw, true, false, 0, .span 0 1⟩]

/-- Objects 0x7900 to 0x8010. -/
def objects12 : List Obj := [
  ⟨0x7900, 1, 256, 4, 1, .b, 1, .ro, false, false, 0, .any⟩,
  ⟨0x7900, 1, 256, 5, 1, .u, 8, .ro, false, false, 0, .any⟩,
  ⟨0x7900, 1, 256, 6, 1, .u, 2, .ro, false, false, 0, .any⟩,
  ⟨0x7900, 1, 256, 7, 1, .u, 4, .ro, false, false, 0, .any⟩,
  ⟨0x7900, 1, 256, 8, 1, .u, 4, .ro, false, false, 0, .any⟩,
  ⟨0x7A00, 1, 256, 1, 1, .b, 1, .rw, true, false, 0, .any⟩,
  ⟨0x7A00, 1, 256, 2, 1, .u, 2, .rw, true, false, 0, .bits 0x01FF⟩,
  ⟨0x7A00, 1, 256, 3, 1, .u, 1, .rw, true, false, 0, .any⟩,
  ⟨0x7A00, 1, 256, 4, 1, .b, 1, .ro, false, false, 0, .any⟩,
  ⟨0x7A00, 1, 256, 5, 1, .u, 1, .cmd, false, false, 0, .span 1 1⟩,
  ⟨0x7A00, 1, 256, 6, 1, .u, 4, .ro, false, false, 0, .any⟩,
  ⟨0x7A00, 1, 256, 7, 1, .dom, 32, .ro, false, false, 0, .any⟩,
  ⟨0x7A00, 1, 256, 8, 1, .u, 4, .ro, false, false, 0, .any⟩,
  ⟨0x7B00, 1, 4, 0, 1, .dom, 32, .ro, false, false, 0, .any⟩,
  ⟨0x7B04, 1, 1, 0, 1, .u, 1, .rw, true, false, 15, .bits 0x0F⟩,
  ⟨0x7C00, 1, 256, 1, 1, .u, 1, .rwi, false, false, 0, .span 4 14⟩,
  ⟨0x7C00, 1, 256, 2, 1, .u, 4, .rw, false, false, 0, .any⟩,
  ⟨0x7C00, 1, 256, 3, 1, .u, 4, .rw, false, false, 0, .any⟩,
  ⟨0x7C00, 1, 256, 4, 1, .u, 1, .ro, false, false, 0, .any⟩,
  ⟨0x7C00, 1, 256, 5, 1, .u, 1, .cmd, false, false, 0, .oneOf [1, 2]⟩,
  ⟨0x7C00, 1, 256, 6, 1, .u, 4, .ro, false, false, 0, .any⟩,
  ⟨0x7C00, 1, 256, 7, 1, .u, 4, .ro, false, false, 0, .any⟩,
  ⟨0x7C00, 1, 256, 8, 1, .dom, 32, .rw, false, true, 0, .any⟩,
  ⟨0x7C00, 1, 256, 9, 1, .u, 1, .ro, false, false, 0, .any⟩,
  ⟨0x7C00, 1, 256, 10, 1, .u, 1, .ro, false, false, 0, .any⟩,
  ⟨0x8000, 1, 1, 1, 1, .dom, 32, .ro, false, false, 0, .any⟩,
  ⟨0x8000, 1, 1, 2, 1, .u, 1, .ro, false, false, 0, .any⟩,
  ⟨0x8000, 1, 1, 3, 1, .u, 1, .ro, false, false, 0, .any⟩,
  ⟨0x8000, 1, 1, 4, 1, .u, 1, .ro, false, false, 0, .any⟩,
  ⟨0x8000, 1, 1, 5, 1, .u, 1, .cmd, false, false, 0, .span 1 1⟩,
  ⟨0x8000, 1, 1, 6, 1, .u, 1, .ro, false, false, 0, .any⟩,
  ⟨0x8000, 1, 1, 7, 1, .u, 1, .ro, false, false, 0, .any⟩,
  ⟨0x8001, 1, 1, 1, 4, .u, 4, .ro, false, false, 0, .any⟩,
  ⟨0x8002, 1, 1, 0, 1, .dom, 404, .ro, false, false, 0, .any⟩,
  ⟨0x8010, 1, 1, 1, 1, .u, 1, .cmd, false, false, 0, .span 1 5⟩,
  ⟨0x8010, 1, 1, 2, 1, .u, 4, .rwi, false, false, 0, .span 0 16777216⟩,
  ⟨0x8010, 1, 1, 3, 1, .u, 1, .ro, false, false, 0, .any⟩,
  ⟨0x8010, 1, 1, 4, 1, .u, 1, .ro, false, false, 0, .any⟩,
  ⟨0x8010, 1, 1, 5, 1, .u, 1, .ro, false, false, 0, .any⟩,
  ⟨0x8010, 1, 1, 6, 1, .u, 4, .ro, false, false, 0, .any⟩]

/-- Objects 0x8010 to 0xF001. -/
def objects13 : List Obj := [
  ⟨0x8010, 1, 1, 7, 1, .u, 4, .ro, false, false, 0, .any⟩,
  ⟨0x8010, 1, 1, 8, 1, .u, 1, .rw, false, false, 1, .span 1 4⟩,
  ⟨0x8010, 1, 1, 9, 1, .u, 8, .ro, false, false, 0, .any⟩,
  ⟨0x8020, 1, 1, 0, 1, .dom, 16777216, .rwi, false, true, 0, .any⟩,
  ⟨0x8800, 1, 1, 1, 1, .u, 1, .rwi, true, false, 0, .span 0 3⟩,
  ⟨0x8800, 1, 1, 2, 1, .u, 1, .rwi, true, false, 0, .span 0 7⟩,
  ⟨0x8800, 1, 1, 3, 1, .u, 1, .rwi, true, false, 1, .span 1 8⟩,
  ⟨0x8800, 1, 1, 4, 1, .u, 1, .rwi, true, false, 0, .span 0 7⟩,
  ⟨0x8800, 1, 1, 5, 1, .b, 1, .rwi, true, false, 0, .any⟩,
  ⟨0x8800, 1, 1, 6, 1, .b, 1, .rw, true, false, 1, .any⟩,
  ⟨0x8800, 1, 1, 7, 1, .u, 1, .ro, false, false, 0, .any⟩,
  ⟨0x8810, 1, 1, 1, 1, .u, 4, .rwi, true, false, 2000, .span 500 20000⟩,
  ⟨0x8810, 1, 1, 2, 1, .b, 1, .ro, false, false, 0, .any⟩,
  ⟨0x8810, 1, 1, 3, 1, .u, 4, .ro, false, false, 0, .any⟩,
  ⟨0x8810, 1, 1, 4, 1, .i, 8, .ro, false, false, 0, .any⟩,
  ⟨0x8810, 1, 1, 5, 1, .b, 1, .ro, false, false, 0, .any⟩,
  ⟨0x8820, 1, 4, 1, 1, .u, 1, .rwi, true, false, 1, .span 0 1⟩,
  ⟨0x8820, 1, 4, 2, 1, .u, 1, .rwi, true, false, 3, .span 0 3⟩,
  ⟨0x8820, 1, 4, 3, 1, .u, 1, .rwi, true, false, 0, .bits 0x1F⟩,
  ⟨0x8820, 1, 4, 4, 1, .u, 1, .rwi, true, false, 3, .span 0 7⟩,
  ⟨0x8820, 1, 4, 5, 1, .u, 2, .rw, true, false, 5, .span 0 500⟩,
  ⟨0x8820, 1, 4, 6, 1, .u, 1, .ro, false, false, 0, .any⟩,
  ⟨0x8820, 1, 4, 7, 1, .u, 4, .ro, false, false, 0, .any⟩,
  ⟨0x8820, 1, 4, 8, 1, .u, 1, .ro, false, false, 0, .any⟩,
  ⟨0x8830, 1, 1, 1, 1, .u, 4, .rw, true, false, 50, .span 1 10000⟩,
  ⟨0x8830, 1, 1, 2, 1, .u, 1, .ro, false, false, 0, .any⟩,
  ⟨0x8830, 1, 1, 3, 1, .u, 4, .ro, false, false, 0, .any⟩,
  ⟨0x8840, 1, 1, 1, 1, .u, 1, .rw, false, false, 255, .oneOf [0, 1, 2, 3, 4, 5, 6, 7, 255]⟩,
  ⟨0x8840, 1, 1, 2, 1, .dom, 64, .rw, false, false, 0, .any⟩,
  ⟨0x8840, 1, 1, 3, 1, .u, 1, .cmd, false, false, 0, .span 1 64⟩,
  ⟨0x8840, 1, 1, 4, 1, .u, 4, .ro, false, false, 0, .any⟩,
  ⟨0xF000, 1, 1, 1, 1, .u, 2, .rwi, false, false, 0, .any⟩,
  ⟨0xF000, 1, 1, 2, 1, .u, 4, .rwi, false, false, 0, .any⟩,
  ⟨0xF000, 1, 1, 3, 1, .u, 1, .cmd, false, false, 0, .oneOf [1, 2]⟩,
  ⟨0xF000, 1, 1, 4, 1, .u, 1, .ro, false, false, 0, .any⟩,
  ⟨0xF000, 1, 1, 5, 1, .u, 1, .ro, false, false, 0, .any⟩,
  ⟨0xF000, 1, 1, 6, 1, .u, 4, .ro, false, false, 0, .any⟩,
  ⟨0xF000, 1, 1, 7, 1, .u, 4, .ro, false, false, 4294967295, .any⟩,
  ⟨0xF000, 1, 1, 8, 1, .u, 4, .ro, false, false, 0, .any⟩,
  ⟨0xF001, 1, 1, 0, 1, .dom, 0, .rw, false, true, 0, .any⟩]

/-- Objects 0xF002 to 0xF100. -/
def objects14 : List Obj := [
  ⟨0xF002, 1, 1, 0, 1, .dom, 0, .rw, false, true, 0, .any⟩,
  ⟨0xF100, 1, 16, 1, 1, .u, 1, .rw, false, false, 0, .span 0 3⟩,
  ⟨0xF100, 1, 16, 2, 1, .u, 1, .cmd, false, false, 0, .oneOf [1, 2]⟩,
  ⟨0xF100, 1, 16, 3, 1, .u, 1, .ro, false, false, 0, .any⟩,
  ⟨0xF100, 1, 16, 4, 1, .u, 8, .ro, false, false, 0, .any⟩,
  ⟨0xF100, 1, 16, 5, 1, .u, 8, .ro, false, false, 0, .any⟩,
  ⟨0xF100, 1, 16, 6, 1, .u, 1, .rw, false, false, 0, .span 0 3⟩,
  ⟨0xF100, 1, 16, 7, 1, .u, 4, .rw, false, false, 10000, .span 1000 80000⟩]

/-- The row covers an index and a subindex. -/
def Obj.covers (o : Obj) (idx sub : Nat) : Bool :=
  decide (o.base ≤ idx) && decide (idx ≤ o.base + (o.count - 1) * o.stride) && decide ((idx - o.base) % o.stride = 0)
    && decide (o.sub ≤ sub) && decide (sub < o.sub + o.subs)

/-- The dictionary, in pieces, each with the highest index it holds rows from. -/
def objectPages : List (Nat × Nat × List Obj) := [
  (0x0000, 0x0060, objects0),
  (0x0061, 0x1011, objects1),
  (0x1010, 0x1812, objects2),
  (0x1813, 0x2800, objects3),
  (0x2800, 0x2862, objects4),
  (0x2870, 0x3F02, objects5),
  (0x3002, 0x401A, objects6),
  (0x401B, 0x4813, objects7),
  (0x4813, 0x506F, objects8),
  (0x5030, 0x6002, objects9),
  (0x6002, 0x6827, objects10),
  (0x6820, 0x79FF, objects11),
  (0x7900, 0x8010, objects12),
  (0x8010, 0xF001, objects13),
  (0xF002, 0xF10F, objects14)]

/-- The row of an object, if the dictionary has one (R40). -/
def lookup (idx sub : Nat) : Option Obj :=
  objectPages.findSome? fun p =>
    if p.1 ≤ idx ∧ idx ≤ p.2.1 then p.2.2.find? fun o => o.covers idx sub else none

/-- Some subindex of this index exists. -/
def indexExists (idx : Nat) : Bool :=
  objectPages.any fun p => decide (p.1 ≤ idx) && decide (idx ≤ p.2.1) &&
    p.2.2.any fun o => o.covers idx o.sub

/-- The highest subindex of an index (R34). -/
def highestSub (idx : Nat) : Nat :=
  objectPages.foldl (fun m p => if p.1 ≤ idx ∧ idx ≤ p.2.1 then
    p.2.2.foldl (fun m o => if o.covers idx o.sub then max m (o.sub + o.subs - 1) else m) m else m) 0

/-- The key of an object: index × 256 + subindex. -/
def obj (idx sub : Nat) : Nat := idx * 256 + sub

/-- Default value of a scalar object by its key (R12). -/
def dflt (key : Nat) : Nat := ((lookup (key / 256) (key % 256)).map (·.dflt)).getD 0

/-- Object-window address of a byte of a DOMAIN object (R358). -/
def objAddr (idx sub off : Nat) : Nat := 2 ^ 63 + idx * 2 ^ 32 + sub * 2 ^ 24 + off

/-- Default of a DOMAIN byte at its object-window address: 0 but for the objects whose default the table states otherwise
(0x4020:02 and 0x2873 all 0xFF, 0x2862 select codes 0xFF from byte 384, P + 0x03:01 0x8000 for each segment). -/
def dfltByte (a : Nat) : Byte :=
  let idx := a / 2 ^ 32 % 2 ^ 16
  let sub := a / 2 ^ 24 % 2 ^ 8
  let off := a % 2 ^ 24
  if idx = 0x4020 ∧ sub = 2 then 0xFF
  else if idx = 0x2873 then 0xFF
  else if idx = 0x2862 ∧ 384 ≤ off then 0xFF
  else if 0x3000 ≤ idx ∧ idx < 0x4000 ∧ idx % 256 = 3 ∧ sub = 1 then (if off % 2 = 1 then 0x80 else 0)
  else 0

end Sys2Proof.Machine
end

