-- ==== Sys2Proof/Machine/Sparse.lean ====
section
/-! DEFINITION. Reading and writing a `Sparse` map. `d` is what a key that is not listed reads as. -/

namespace Sys2Proof.Machine

/-- The value listed at a key, if any. -/
def sfind {α : Type} (k : Nat) : Sparse α → Option α
  | [] => none
  | (k', v) :: m => if k' = k then some v else sfind k m

/-- The value at a key: the listed one, or `d`. -/
def sget {α : Type} (d : α) (m : Sparse α) (k : Nat) : α := (sfind k m).getD d

/-- Takes a key out of the map. -/
def serase {α : Type} (k : Nat) : Sparse α → Sparse α
  | [] => []
  | (k', v) :: m => if k' = k then m else (k', v) :: serase k m

/-- Puts a value at a key, in key order, replacing the value that stood there. -/
def sinsert {α : Type} (k : Nat) (v : α) : Sparse α → Sparse α
  | [] => [(k, v)]
  | (k', v') :: m =>
    if k < k' then (k, v) :: (k', v') :: m
    else if k' = k then (k, v) :: m
    else (k', v') :: sinsert k v m

/-- Writes a value: writing what an unlisted key reads as takes the entry out. -/
def sset {α : Type} [DecidableEq α] (d : α) (m : Sparse α) (k : Nat) (v : α) : Sparse α :=
  if v = d then serase k m else sinsert k v m

/-- Changes the value at a key by a function. -/
def supd {α : Type} [DecidableEq α] (d : α) (m : Sparse α) (k : Nat) (f : α → α) : Sparse α :=
  sset d m k (f (sget d m k))

/-- The keys rise strictly, the first of them above `lo`. -/
def srising {α : Type} : Option Nat → Sparse α → Bool
  | _, [] => true
  | none, (k, _) :: m => srising (some k) m
  | some lo, (k, _) :: m => decide (lo < k) && srising (some k) m

/-- No listed value equals what an unlisted key reads as; `d` may depend on the key. -/
def sproper {α : Type} [DecidableEq α] (d : Nat → α) (m : Sparse α) : Bool :=
  m.all fun kv => decide (kv.2 ≠ d kv.1)

end Sys2Proof.Machine
end

