-- ==== Sys2Proof/Machine/Qtc.lean ====
section
/-! DEFINITION. Quaner tile coding (R136 to R160): block layout, decoder with its errors, encoder with its options. -/

namespace Sys2Proof.Machine.Qtc

/-- A decode error (R151, R153): code, row, column, channel; 0xFFFF and 0xFF where the error has no position. -/
structure Err where
  code : Nat
  row  : Nat
  col  : Nat
  ch   : Nat
  deriving DecidableEq, Repr

/-- An error without a position (codes 1–5, 12, 13). -/
def Err.plain (code : Nat) : Err := ⟨code, 0xFFFF, 0xFFFF, 0xFF⟩

/-- The error detail field (R153). -/
def Err.detail (e : Err) : Nat := e.code + e.ch * 2 ^ 8 + e.col * 2 ^ 16 + e.row * 2 ^ 32

/-- One plane in progress (R139, R144): its samples, newest first; contexts as (A, N); run index. -/
structure Plane where
  rev : List Nat
  ctx : Sparse (Nat × Nat)
  ri  : Nat
  deriving DecidableEq, Repr

/-- What stays fixed in a block: depth B, width w, thresholds. -/
structure Par where
  b  : Nat
  w  : Nat
  t1 : Nat
  t2 : Nat
  deriving DecidableEq, Repr

/-- Initial context (R144). -/
def ctx0 (b : Nat) : Nat × Nat := (max 2 ((2 ^ b + 32) / 64), 1)
/-- A plane at the start of a block. -/
def plane0 : Plane := ⟨[], [], 0⟩

/-- Neighbours a, b, c, d of the next sample of a plane at column x (R141); `first` is row 0. -/
def neighbours (p : Par) (x : Nat) (first : Bool) (pl : Plane) : Nat × Nat × Nat × Nat :=
  let at_ := fun i => pl.rev.getD i 0
  let mid := 2 ^ (p.b - 1)
  if first then
    if x = 0 then (mid, mid, mid, mid) else let a := at_ 0; (a, a, a, a)
  else
    let b := at_ (p.w - 1)
    let d := if x + 1 = p.w then b else at_ (p.w - 2)
    if x = 0 then (b, b, b, d) else (at_ 0, b, at_ p.w, d)

/-- Quantised gradient (R142). -/
def quant (p : Par) (g : Int) : Int :=
  let m := g.natAbs
  let q : Int := if m = 0 then 0 else if m ≤ p.t1 then 1 else if m ≤ p.t2 then 2 else 3
  if g < 0 then -q else q

/-- Context index and sign (R142). -/
def context (p : Par) (n : Nat × Nat × Nat × Nat) : Nat × Int :=
  let (a, b, c, d) := n
  let q : Int := 49 * quant p ((d : Int) - b) + 7 * quant p ((b : Int) - c) + quant p ((c : Int) - a)
  if q < 0 then (q.natAbs, -1) else (q.natAbs, 1)

/-- Median edge predictor (R143). -/
def predict (n : Nat × Nat × Nat × Nat) : Int :=
  let (a, b, c, _) := n
  if c ≥ max a b then (min a b : Nat) else if c ≤ min a b then (max a b : Nat) else (a : Int) + b - c

/-- Residual of a value, reduced to the signed range (R143). -/
def residual (p : Par) (v : Nat) (pr s : Int) : Int :=
  let e := s * ((v : Int) - pr)
  let half : Int := (2 ^ (p.b - 1) : Nat)
  if e < -half then e + 2 * half else if e ≥ half then e - 2 * half else e

/-- Mapped residual and its inverse (R143). -/
def mapRes (e : Int) : Nat := if e ≥ 0 then 2 * e.natAbs else 2 * e.natAbs - 1
/-- See `mapRes`. -/
def unmapRes (m : Nat) : Int := if m % 2 = 0 then (m / 2 : Nat) else -((m / 2 : Nat) + 1)

/-- Rice parameter: the smallest k with N × 2^k ≥ A, at most B − 1 (R144). -/
def rice (p : Par) (c : Nat × Nat) : Nat :=
  ((List.range (p.b - 1)).find? fun k => c.1 ≤ c.2 * 2 ^ k).getD (p.b - 1)

/-- Context update (R144). -/
def ctxUpdate (c : Nat × Nat) (e : Int) : Nat × Nat :=
  let a := c.1 + e.natAbs
  let n := c.2 + 1
  if n = 64 then (a / 2, 32) else (a, n)

/-- Writes a context of a plane. -/
def Plane.setCtx (pl : Plane) (p : Par) (q : Nat) (c : Nat × Nat) : Plane := { pl with ctx := sset (ctx0 p.b) pl.ctx q c }
/-- Appends samples. -/
def Plane.push (pl : Plane) (v : Nat) : Plane := { pl with rev := v :: pl.rev }
/-- Appends `n` copies of a sample. -/
def Plane.pushN (pl : Plane) (n v : Nat) : Plane := { pl with rev := List.replicate n v ++ pl.rev }
/-- Copies L samples from distance D, one at a time (R146). -/
def Plane.copy (pl : Plane) (dist : Nat) : Nat → Plane
  | 0 => pl
  | n + 1 => (pl.push (pl.rev.getD (dist - 1) 0)).copy dist n

/-- A sample value after a regular code or an escape, with the context update (R143, R144). -/
def Plane.coded (pl : Plane) (p : Par) (q v : Nat) (e : Int) : Plane :=
  (pl.push v).setCtx p q (ctxUpdate (sget (ctx0 p.b) pl.ctx q) e)

/-- Reads n bits, most significant first. -/
def readBits : Nat → Nat → List Bool → Option (Nat × List Bool)
  | 0, acc, bs => some (acc, bs)
  | _ + 1, _, [] => none
  | n + 1, acc, b :: bs => readBits n (2 * acc + b2n b) bs

/-- Unary prefix: zeros up to the first one bit. `Sum.inl` the error code: 7 at the 26th zero, 11 past the payload. -/
def readZeros : Nat → List Bool → Nat ⊕ (Nat × List Bool)
  | u, [] => if u ≥ 26 then .inl 7 else .inl 11
  | u, true :: bs => .inr (u, bs)
  | u, false :: bs => if u + 1 = 26 then .inl 7 else readZeros (u + 1) bs

/-- A block as its header describes it (R137): depth, size, channels, whether the payload is stored, payload and trailer CRC. -/
structure Block where
  par     : Par
  h       : Nat
  c       : Nat
  stored  : Bool
  payload : Bytes
  crc     : Nat
  deriving DecidableEq, Repr

/-- Where a decoder is between two samples (R156): a code word comes next, with an interruption pending or not; in a copy; in a run chunk of value a, after which another run bit follows or an interruption is pending. -/
inductive Mode
  | word (intr : Bool)
  | copy (left dist : Nat)
  | run (left a : Nat) (more : Bool)
  deriving DecidableEq, Repr

/-- The complete state of a decoder at a sample boundary (R156): bit position, position and plane, what it keeps of every plane (R139, R144), its mode, the running CRC-32C. -/
structure Walk where
  pos    : Nat
  y      : Nat
  x      : Nat
  ch     : Nat
  planes : Sparse Plane
  mode   : Mode
  crc    : Nat
  deriving DecidableEq, Repr

/-- A decoder at the first bit of a block. -/
def Walk.start : Walk := ⟨0, 0, 0, 0, [], .word false, 0xFFFFFFFF⟩
/-- The plane in hand. -/
def Walk.plane (w : Walk) : Plane := sget plane0 w.planes w.ch
/-- Changes the plane in hand. -/
def Walk.setPlane (w : Walk) (pl : Plane) : Walk := { w with planes := sset plane0 w.planes w.ch pl }
/-- Samples written so far; a block has h × w × c. -/
def Walk.written (w : Walk) (k : Block) : Nat := (w.y * k.c + w.ch) * k.par.w + w.x
/-- Samples of a block. -/
def Block.samples (k : Block) : Nat := k.h * k.c * k.par.w

/-- Bytes of a sample: one or two (R138). -/
def sampleBytes (b : Nat) (v : Nat) : Bytes := leBytes (b / 8) v

/-- Writes the sample v, whole (R156): the CRC goes on, and behind the last column comes the next channel of the row, then the next row (R139). -/
def Walk.emit (w : Walk) (k : Block) (pl : Plane) (v : Nat) (mode : Mode) : Walk :=
  let w1 := { w.setPlane pl with crc := (sampleBytes k.par.b v).foldl crc32cByte w.crc, mode := mode }
  if w.x + 1 < k.par.w then { w1 with x := w.x + 1 }
  else if w.ch + 1 < k.c then { w1 with x := 0, ch := w.ch + 1, mode := .word false }
  else { w1 with x := 0, ch := 0, y := w.y + 1, mode := .word false }

/-- A run bit (R147), with its kr bits if it is 0; or an error code. -/
def Walk.runBit (w : Walk) (k : Block) (a : Nat) (bs : List Bool) : Nat ⊕ (Walk × List Bool) :=
  let pl := w.plane
  let kr := pl.ri / 4
  let remaining := k.par.w - w.x
  match bs with
  | [] => .inl 11
  | true :: bs1 =>
    let m := min (2 ^ kr) remaining
    .inr ({ w.setPlane { pl with ri := if m = 2 ^ kr then min (pl.ri + 1) 43 else pl.ri } with mode := .run m a (decide (m < remaining)) }, bs1)
  | false :: bs1 =>
    match readBits kr 0 bs1 with
    | none => .inl 11
    | some (v, bs2) =>
      if v ≥ remaining then .inl 10
      else .inr ({ w.setPlane { pl with ri := pl.ri - 1 } with mode := if v = 0 then .word true else .run v a false }, bs2)

/-- The fields of a copy code (R146), read whole before they are checked (R150): distance and length, or an error code. -/
def readCopy (bs : List Bool) : Nat ⊕ (Nat × Nat × List Bool) :=
  match readBits 5 0 bs with
  | none => .inl 11
  | some (m, bs1) =>
    if m > 19 then .inl 8
    else match readBits m 0 bs1 with
    | none => .inl 11
    | some (v, bs2) => match readBits 4 0 bs2 with
      | none => .inl 11
      | some (j, bs3) =>
        if j > 10 then .inl 9
        else match readBits j 0 bs3 with
        | none => .inl 11
        | some (t, bs4) => .inr (2 ^ m + v, 2 ^ j + t, bs4)

/-- A regular code word, an escape or a copy code (R145, R146, R148); or an error code. -/
def Walk.regular (w : Walk) (k : Block) (q : Nat) (s pr : Int) (bs : List Bool) : Nat ⊕ (Walk × List Bool) :=
  let p := k.par
  let pl := w.plane
  match readZeros 0 bs with
  | .inl c => .inl c
  | .inr (u, bs1) =>
    if u = 25 then
      match readCopy bs1 with
      | .inl c => .inl c
      | .inr (d, l, bs2) =>
        if d > pl.rev.length then .inl 8 else if l > p.w - w.x then .inl 9 else .inr ({ w with mode := .copy l d }, bs2)
    else if u = 24 then
      match readBits p.b 0 bs1 with
      | none => .inl 11
      | some (v, bs2) => .inr (w.emit k (pl.coded p q v (residual p v pr s)) v (.word false), bs2)
    else
      let r := rice p (sget (ctx0 p.b) pl.ctx q)
      match readBits r 0 bs1 with
      | none => .inl 11
      | some (z, bs2) =>
        let e := unmapRes (u * 2 ^ r + z)
        let v := ofSigned p.b (pr + s * e)
        .inr (w.emit k (pl.coded p q v e) v (.word false), bs2)

/-- A sample of a stored payload (R140): its bytes, the low one first. -/
def Walk.stored (w : Walk) (k : Block) (bs : List Bool) : Nat ⊕ (Walk × List Bool) :=
  match readBits 8 0 bs with
  | none => .inl 11
  | some (lo, bs1) =>
    if k.par.b = 8 then .inr (w.emit k (w.plane.push lo) lo (.word false), bs1)
    else match readBits 8 0 bs1 with
      | none => .inl 11
      | some (hi, bs2) => let v := lo + 256 * hi; .inr (w.emit k (w.plane.push v) v (.word false), bs2)

/-- The next code word, whole (R150, R155). -/
def Walk.codeWord (w : Walk) (k : Block) (intr : Bool) (bs : List Bool) : Nat ⊕ (Walk × List Bool) :=
  if k.stored then w.stored k bs
  else
    let nb := neighbours k.par w.x (w.y == 0) w.plane
    let (q, s) := context k.par nb
    if q = 0 ∧ intr = false then w.runBit k nb.1 bs else w.regular k q s (predict nb) bs

/-- One sample of a copy or a run chunk, or one code word; `none` while the input view holds neither 64 bits nor all that is left (R155). `bs` is what it can read. -/
def Walk.step (w : Walk) (k : Block) (all : Bool) (bs : List Bool) : Option (Nat ⊕ (Walk × List Bool)) :=
  match w.mode with
  | .copy (n + 1) d =>
    let v := w.plane.rev.getD (d - 1) 0
    some (.inr (w.emit k (w.plane.push v) v (if n = 0 then .word false else .copy n d), bs))
  | .run (n + 1) a more =>
    some (.inr (w.emit k (w.plane.push a) a (if n > 0 then .run n a more else if more then .run 0 a true else .word true), bs))
  | .run 0 a _ => if all || !(bs.drop 63).isEmpty then some (w.runBit k a bs) else none
  | .copy 0 _ => if all || !(bs.drop 63).isEmpty then some (w.codeWord k false bs) else none
  | .word intr => if all || !(bs.drop 63).isEmpty then some (w.codeWord k intr bs) else none

/-- Decodes until `stop` samples are written, or the input view waits for words; an error tells where it was found (R153). -/
def Walk.go (k : Block) (all : Bool) (stop : Nat) : Nat → Walk → List Bool → Err ⊕ (Walk × List Bool)
  | 0, w, bs => .inr (w, bs)
  | n + 1, w, bs =>
    if stop ≤ w.written k then .inr (w, bs)
    else
      match w.step k all bs with
      | none => .inr (w, bs)
      | some (.inl c) => .inl ⟨c, w.y, w.x, w.ch⟩
      | some (.inr (w1, bs1)) => Walk.go k all stop n w1 bs1

/-- Bits of a byte string, most significant first (R139). -/
def bitsOf (bs : Bytes) : List Bool := bs.flatMap fun b => (List.range 8).map fun i => bit b.toNat (7 - i)

/-- Bytes of a bit string, padded with zero bits (R149). -/
def packBits : List Bool → Bytes
  | b0 :: b1 :: b2 :: b3 :: b4 :: b5 :: b6 :: b7 :: bs =>
    BitVec.ofNat 8 ([b0, b1, b2, b3, b4, b5, b6, b7].foldl (fun a b => 2 * a + b2n b) 0) :: packBits bs
  | [] => []
  | bs => [BitVec.ofNat 8 ((bs ++ List.replicate (8 - bs.length) false).foldl (fun a b => 2 * a + b2n b) 0)]

/-- Samples of all planes in decode order (R139). -/
def inOrder (w h : Nat) (planes : List (List Nat)) : List Nat :=
  (List.range h).flatMap fun y => planes.flatMap fun pl => (pl.drop (y * w)).take w

/-- Samples in decode order back into planes of w × h. -/
def planesOf (w h c : Nat) (vs : List Nat) : List (List Nat) :=
  (List.range c).map fun ch => (List.range h).flatMap fun y => (vs.drop ((y * c + ch) * w)).take w

/-- The samples of a serialised sample string. -/
def samplesOf (b : Nat) (n : Nat) (bs : Bytes) : List Nat :=
  (List.range n).map fun i => leAt bs (i * (b / 8)) (b / 8)

/-- Magic 0x5451, little-endian: bytes 51 54 (log entry 30: the worked example writes them 54 51). -/
def magic : Nat := 0x5451

/-- A block delivered for a tile of w × h samples, c channels, b bits: its header (R151, R152), or the first error. -/
def header (w h c b : Nat) (blk : Bytes) : Err ⊕ Block :=
  let fmt := leAt blk 3 1
  let bw := leAt blk 4 2
  let bh := leAt blk 6 2
  let t1 := leAt blk 8 2
  let t2 := leAt blk 10 2
  let pl := leAt blk 12 4
  let bb := if bit fmt 3 then 16 else 8
  let bc := fmt % 8 + 1
  let stored := bit fmt 4
  if blk.length < 16 then .inl (.plain 5)
  else if leAt blk 0 2 ≠ magic then .inl (.plain 1)
  else if leAt blk 2 1 ≠ 1 then .inl (.plain 2)
  else if fmt ≥ 32 ∨ bw = 0 ∨ bw > 1024 ∨ bh = 0 ∨ bh > 1024 ∨ t1 = 0 ∨ t1 ≥ t2 ∨ t2 ≥ 2 ^ bb ∨ pl = 0 ∨
      (stored = true ∧ pl ≠ bw * bh * bc * bb / 8) then .inl (.plain 3)
  else if bw ≠ w ∨ bh ≠ h ∨ bc ≠ c ∨ bb ≠ b then .inl (.plain 4)
  else if blk.length ≠ pl + 20 then .inl (.plain 5)
  else .inr ⟨⟨b, w, t1, t2⟩, h, c, stored, slice blk 16 pl, leAt blk (16 + pl) 4⟩

/-- Steps that reach every sample of a block: each takes at most a run bit, a copy code and the sample itself. -/
def Block.fuel (k : Block) : Nat := 3 * k.samples + 1

/-- A decoder goes on from a state with the first n bits of the payload at hand, until it has written `stop` samples (R155, R156). -/
def Block.resume (k : Block) (n stop : Nat) (w : Walk) : Err ⊕ Walk :=
  let bits := bitsOf k.payload
  let n := min n bits.length
  match Walk.go k (decide (n = bits.length)) stop k.fuel w ((bits.take n).drop w.pos) with
  | .inl e => .inl e
  | .inr (w1, bs) => .inr { w1 with pos := n - bs.length }

/-- The planes of a walk that has written every sample: what is left of the payload is padding (R149), and the CRC-32C of the samples is the trailer's (R138); or the error. -/
def Block.finish (k : Block) (w : Walk) : Err ⊕ List (List Nat) :=
  let rest := (bitsOf k.payload).drop w.pos
  if rest.length ≥ 8 ∨ rest.any (fun x => x) then .inl (.plain 12)
  else if w.crc ^^^ 0xFFFFFFFF = k.crc then .inr ((List.range k.c).map fun ch => (sget plane0 w.planes ch).rev.reverse)
  else .inl (.plain 13)

/-- Decodes a block delivered for a tile from a state on (R151, R156): the planes, or the first error. -/
def decodeFrom (w h c b : Nat) (blk : Bytes) (walk : Walk) : Err ⊕ List (List Nat) :=
  match header w h c b blk with
  | .inl e => .inl e
  | .inr k =>
    match k.resume (8 * k.payload.length) k.samples walk with
    | .inl e => .inl e
    | .inr w1 => k.finish w1

/-- Decodes a block from its first bit. -/
def decode (w h c b : Nat) (blk : Bytes) : Err ⊕ List (List Nat) := decodeFrom w h c b blk .start

/-- Encoder options (R159), latched at the start of a block. -/
structure Opt where
  t1     : Nat
  t2     : Nat
  copy   : Bool
  minLen : Nat
  stored : Bool
  deriving DecidableEq, Repr

/-- The n bits of a value, most significant first. -/
def bitsN (n v : Nat) : List Bool := (List.range n).map fun i => bit v (n - 1 - i)

/-- Bits of a run of r samples equal to a, out of `remaining` (R147, R159 step 2), and the run index after it. -/
def writeRun : Nat → Nat → Nat → Nat → List Bool × Nat
  | 0, _, _, ri => ([], ri)
  | fuel + 1, r, remaining, ri =>
    let kr := ri / 4
    if r = remaining then
      if remaining = 0 then ([], ri)
      else
        let m := min (2 ^ kr) remaining
        let (bs, ri1) := writeRun fuel (r - m) (remaining - m) (if m = 2 ^ kr then min (ri + 1) 43 else ri)
        (true :: bs, ri1)
    else if r ≥ 2 ^ kr then
      let (bs, ri1) := writeRun fuel (r - 2 ^ kr) (remaining - 2 ^ kr) (min (ri + 1) 43)
      (true :: bs, ri1)
    else (false :: bitsN kr r, ri - 1)

/-- Length of the match at distance d: samples to come that equal those d behind, at most `cap`. -/
def matchLen : Nat → List Nat → Nat → List Nat → Nat
  | 0, _, _, _ => 0
  | _, _, _, [] => 0
  | cap + 1, rev, d, v :: vs => if rev.getD (d - 1) 0 = v then 1 + matchLen cap (v :: rev) d vs else 0

/-- Highest power of two at or below n, as an exponent. -/
def log2 (n : Nat) : Nat := Nat.log2 n

/-- Code word of a copy (R146). -/
def writeCopy (d l : Nat) : List Bool :=
  let m := log2 d
  let j := log2 l
  List.replicate 25 false ++ [true] ++ bitsN 5 m ++ bitsN m (d - 2 ^ m) ++ bitsN 4 j ++ bitsN j (l - 2 ^ j)

/-- The copy the encoder takes at a position (R159 step 3): the longest match of the candidates, the earliest among equals. -/
def bestCopy (o : Opt) (w x last : Nat) (rev row : List Nat) : Option (Nat × Nat) :=
  if o.copy then
    let cands := ([w, last, 2 * w].filter fun d => decide (0 < d) && decide (d ≤ rev.length)).eraseDups
    let best := cands.foldl (fun (b : Nat × Nat) d =>
      let l := matchLen (min 2047 (w - x)) rev d row
      if l > b.2 then (d, l) else b) (0, 0)
    if best.2 ≥ o.minLen ∧ best.2 > 0 then some best else none
  else none

/-- Encodes one row of one plane: the plane, the last copy distance, the bits. -/
def writeRow (o : Opt) (p : Par) (first : Bool) : Nat → Nat → Bool → Plane → Nat → List Nat → Plane × Nat × List Bool
  | 0, _, _, pl, last, _ => (pl, last, [])
  | _, _, _, pl, last, [] => (pl, last, [])
  | fuel + 1, x, intr, pl, last, v :: vs =>
    let nb := neighbours p x first pl
    let (q, s) := context p nb
    if q = 0 ∧ intr = false then
      let r := ((v :: vs).takeWhile (· == nb.1)).length
      let (bs, ri) := writeRun (p.w + 2) r (p.w - x) pl.ri
      let (pl1, last1, bs1) := writeRow o p first fuel (x + r) true { pl.pushN r nb.1 with ri := ri } last ((v :: vs).drop r)
      (pl1, last1, bs ++ bs1)
    else
      match bestCopy o p.w x last pl.rev (v :: vs) with
      | some (d, l) =>
        let (pl1, last1, bs1) := writeRow o p first fuel (x + l) false (pl.copy d l) d ((v :: vs).drop l)
        (pl1, last1, writeCopy d l ++ bs1)
      | none =>
        let pr := predict nb
        let e := residual p v pr s
        let k := rice p (sget (ctx0 p.b) pl.ctx q)
        let m := mapRes e
        let bs := if m / 2 ^ k ≥ 24 then List.replicate 24 false ++ [true] ++ bitsN p.b v
          else List.replicate (m / 2 ^ k) false ++ [true] ++ bitsN k (m % 2 ^ k)
        let (pl1, last1, bs1) := writeRow o p first fuel (x + 1) false (pl.coded p q v e) last vs
        (pl1, last1, bs ++ bs1)

/-- Encodes the rows of all planes, line-interleaved. `st` holds for each plane its state, last distance and remaining samples. -/
def writeRows (o : Opt) (p : Par) : Nat → Nat → List (Plane × Nat × List Nat) → List Bool
  | 0, _, _ => []
  | n + 1, y, st =>
    let done := st.map fun (pl, last, vs) =>
      let (pl1, last1, bs) := writeRow o p (y == 0) (2 * p.w + 2) 0 false pl last (vs.take p.w)
      ((pl1, last1, vs.drop p.w), bs)
    (done.flatMap fun d => d.2) ++ writeRows o p n (y + 1) (done.map fun d => d.1)

/-- Encodes planes of w × h samples of b bits into a block (R159). -/
def encode (o : Opt) (w h b : Nat) (planes : List (List Nat)) : Bytes :=
  let c := planes.length
  let raw := (inOrder w h planes).flatMap (sampleBytes b)
  let coded := packBits (writeRows o ⟨b, w, o.t1, o.t2⟩ h 0 (planes.map fun pl => (plane0, 0, pl)))
  let stored := o.stored && decide (coded.length > w * h * c * b / 8)
  let payload := if stored then raw else coded
  leBytes 2 magic ++ leBytes 1 1 ++ leBytes 1 (c - 1 + (if b = 16 then 8 else 0) + (if stored then 16 else 0))
    ++ leBytes 2 w ++ leBytes 2 h ++ leBytes 2 o.t1 ++ leBytes 2 o.t2 ++ leBytes 4 payload.length ++ payload ++ leBytes 4 (crc32c raw)

end Sys2Proof.Machine.Qtc
end

