-- ==== Sys2Proof/Machine/State.lean ====
section
/-! DEFINITION. The state of the block, as plain data: one structure for each part of the spec, and `State` over them.
A `Sparse` field lists only what differs from its default (Machine/Sparse.lean); the default of a register is the object table's (Machine/Objects.lean). -/

namespace Sys2Proof.Machine

/-- Object values: scalars by object key (index × 256 + subindex), DOMAIN bytes by object-window address (R358). -/
structure Bank where
  regs  : Sparse Nat
  bytes : Sparse Byte
  deriving DecidableEq, Repr

/-- A ring slot (R68): 32 bytes, and which of them were written since the ring was allocated; [] for a slot never written. -/
structure Slot where
  bytes : Bytes
  good  : Nat
  deriving DecidableEq, Repr

/-- An occurrence of an event source raised in the present step (R61, R367): stamp, epoch, source, severity, detail field and what a fault record holds (R371).
`test` marks a test-origin error (R368); `lasting` marks an escalation (R377). -/
structure Occ where
  src     : Nat
  sev     : Nat
  detail  : Nat
  master  : Nat
  access  : Nat
  page    : Nat
  addr    : Nat
  lasting : Bool
  test    : Bool
  now     : Nat
  epoch   : Nat
  deriving DecidableEq, Repr

/-- A NOTIFY that waits for its acknowledgement (R58): transaction ID, descriptor, time and number of sends. -/
structure Notice where
  tid   : Nat
  desc  : Bytes
  sent  : Nat
  sends : Nat
  deriving DecidableEq, Repr

/-- A notification slot (R58): its target, the notifications that wait in order, those sent and not acknowledged. -/
structure NotifySlot where
  peer    : Option Peer
  waiting : List Bytes
  out     : List Notice
  deriving DecidableEq, Repr

/-- The event router, the rings and the fault collector (R58 to R72, R367 to R384).
`total` counts occurrences of each source, `mark` keeps that count at the last descriptor to each target (source × 512 + target), for the Occurrences field (R63).
`resv` is the number of free completion-ring slots held reserved for session s (R113, R114). `occ` holds the occurrences of the present step until the step's end takes them (R62, R371).
`started` says the collector runs, `early` that it must start in the safe state (R468). `entry` is the cause of a safe-state entry due in this step (0 none), `entrySrc` its source event, `lastSrc` the source event of the last entry (R384, E249). -/
structure Ev where
  bank     : Bank
  slots    : Sparse Slot
  notify   : Sparse NotifySlot
  ringFull : Sparse Bool
  total    : Sparse Nat
  mark     : Sparse Nat
  resv     : Sparse Nat
  occ      : List Occ
  started  : Bool
  early    : Bool
  entry    : Nat
  entrySrc : Nat
  lastSrc  : Nat
  deriving DecidableEq, Repr

/-! ## FOP (R48 to R59) -/

/-- A cached reply (R50): transaction ID, opcode, object key, time, bytes. -/
structure CachedReply where
  tid   : Nat
  op    : Nat
  key   : Nat
  sent  : Nat
  bytes : Bytes
  deriving DecidableEq, Repr

/-- A client-table entry (R50): key, time of its last message, its cached replies, newest first. -/
structure Client where
  peer  : Peer
  last  : Nat
  cache : List CachedReply
  deriving DecidableEq, Repr

/-- An open segmented transfer (R53 to R56): handle, owner, object key, direction, size, the shadow received so far (write)
or the contents as delivered (read), whether the function has modified them, time of the last message; `seen` is the contents of a read's object as they last stood. -/
structure Xfer where
  handle  : Nat
  owner   : Peer
  key     : Nat
  isWrite : Bool
  size    : Nat
  data    : Bytes
  changed : Bool
  last    : Nat
  seen    : Bytes
  deriving DecidableEq, Repr

/-- FOP: the client table and the open segmented transfers. -/
structure Fop where
  clients : List Client
  xfers   : List Xfer
  deriving DecidableEq, Repr

/-- A settings copy in flash (R38): valid CRC, order of saving, save count, schema, the S objects' values. -/
structure Settings where
  valid : Bool
  seq   : Nat
  count : Nat
  schema : Nat
  regs  : Sparse Nat
  bytes : Sparse Byte
  deriving DecidableEq, Repr

/-! ## Clocks and time (R295 to R315) -/

/-- Device time (ns), the remainder of its steering in billionths, the AON counter and the ns since its last period. -/
structure Clk where
  now   : Nat
  frac  : Nat
  lf    : Nat
  lfRem : Nat
  deriving DecidableEq, Repr

/-- A source of Announce messages (R301): port, clock identity, its data set. -/
structure Cand where
  fn       : Nat
  src      : Nat
  priority1 : Nat
  cls      : Nat
  accuracy : Nat
  variance : Nat
  priority2 : Nat
  identity : Nat
  deriving DecidableEq, Repr

/-- The servo of one PTP domain (R300, R301): known sources, the parent, runs of good and bad residuals, time of the last Sync,
history of (device time, offset), Announce messages in a row with a better parent, the two-step Sync that waits for its Follow_Up (sequence, ingress time, correction),
the Delay_Req that waits for its answer (sequence, egress time, Sync origin, Sync ingress), the Pdelay_Req of each port (sequence, egress time), measured link delay of each port. -/
structure Dom where
  cands   : List Cand
  parent  : Option Cand
  good    : Nat
  bad     : Nat
  last    : Nat
  hist    : List (Nat × Int)
  better  : Nat
  waiting : Option (Nat × Nat × Int)
  delayReq : Option (Nat × Nat × Int × Nat)
  pdelayReq : Sparse (Nat × Nat)
  linkDelay : Sparse Nat
  seq     : Nat
  deriving DecidableEq, Repr

/-- A trigger output (R309): device time of its next leading edge, end of the pulse in progress. -/
structure Trig where
  due : Option Nat
  off : Option Nat
  deriving DecidableEq, Repr

/-- The time unit: both domains, residences that wait for their Follow_Up (port, domain, source, sequence, ns), triggers, device time at which the first domain locked (R305). -/
structure TimeUnit where
  doms     : Sparse Dom
  forwarded : List (Nat × Nat × Nat × Nat × Nat)
  trigs    : Sparse Trig
  lockedAt : Option Nat
  deriving DecidableEq, Repr

/-! ## Power, temperature, calibration (R385 to R404) -/

/-- Enables of the board's regulators (R387) and the AON domain: VBAT held, backup store (R392), failed-boot count (R413). -/
structure Aon where
  vbat   : Bool
  keepEn : Bool
  mainEn : Bool
  backup : Bytes
  failed : Nat
  deriving DecidableEq, Repr

/-- Temperature monitor and clock factors (R393 to R401): samples newest first, consecutive samples beyond and within the deviation limit for each sensor,
E007 armed, device time of the last sample at or above the warn rate, thermal throttle engaged, thermal factor being restored, droop factor, lowest factor since the last E006,
die band of each sensor (R400), device time at which a page last ceased to be RELEASED or PRINTING (R401), device times from which the restore intervals of the droop and of the thermal factor run (R394, R398). -/
structure Therm where
  hist      : List (List Int)
  beyond    : Sparse Nat
  within    : Sparse Nat
  armed     : Bool
  lastWarm  : Nat
  throttled : Bool
  restoring : Bool
  droop     : Nat
  lowest    : Nat
  bands     : Sparse Nat
  pagesAt   : Nat
  droopAt   : Nat
  thermAt   : Nat
  deriving DecidableEq, Repr

/-- A calibration unit (R401, R402), 0–27 as in 0x0071: a run since reset, temperature and band of the last one, a run in progress,
for each band the eye margin of its stored setting + 1 (class 1), margin of the setting in use, times of the block errors of the last second. -/
structure Calib where
  ran     : Bool
  temp    : Int
  band    : Nat
  running : Bool
  stored  : Sparse Nat
  margin  : Nat
  errors  : List Nat
  deriving DecidableEq, Repr

/-! ## Boot, flash, update, recovery (R405 to R429) -/

/-- What the device as a whole is doing: held in reset; TEST_EN high at the release of POR_N (R454); the ROM waits 1 s after no image verified (R413); ROM recovery (R425);
the SC firmware runs before E000 (`boot`) or after it (`run`); KEEP; DEEP. -/
inductive Phase | held | testHold | romWait | recovery | boot | run | keep | deep
  deriving DecidableEq, Repr

/-- What falls due once the reply to a command is sent (R45, R407, R418): nothing, entry to DEEP (1) or KEEP (2), a reset with its cause. -/
inductive Due | none | sleep (st : Nat) | reset (cause : Nat)
  deriving DecidableEq, Repr

/-- The states of the test access port's controller (R464, IEEE 1149.1). -/
inductive TapSt
  | reset | idle | selectDr | captureDr | shiftDr | exit1Dr | pauseDr | exit2Dr | updateDr
  | selectIr | captureIr | shiftIr | exit1Ir | pauseIr | exit2Ir | updateIr
  deriving DecidableEq, Repr

/-- Instructions of the test access port (R464). -/
inductive TapInstr | bypass | extest | extestPulse | extestTrain | preload
  deriving DecidableEq, Repr

/-- The test access port (R464): controller state, instruction shift register, code in the instruction register (none: BYPASS, as the reset of the test logic leaves it), bypass bit, boundary-scan chain, its update latch, the bit last shifted out. -/
structure Tap where
  st    : TapSt
  shift : List Bool
  ir    : Option Nat
  byp   : Bool
  chain : List Bool
  latch : List Bool
  tdo   : Bool
  deriving DecidableEq, Repr

/-- Reset and boot: phase, POR_N pin, every rail seen above its threshold (R457), strap pins, TEST_EN, cause of the next release of reset (R405),
the other SC slot was booted on a count of 2 (R413), time at which the present phase began, what falls due at the end of the step, the test access port. -/
structure Boot where
  phase   : Phase
  porN    : Bool
  railsOk : Bool
  straps  : Nat
  testEn  : Bool
  cause   : Nat
  other   : Bool
  started : Nat
  due     : Due
  tap     : Tap
  deriving DecidableEq, Repr

/-- The update service (R418): header and signature of the verified container or of the slot reverted to, built target image, component and slot written or activated, time of the switch to TRIAL, the ready bits the component served then, and whether the trial has failed and waits for the boundary to switch back (R421). -/
structure Update where
  header : Bytes
  image  : Bytes
  comp   : Nat
  slot   : Nat
  trial  : Nat
  served : List Nat
  failing : Bool
  deriving DecidableEq, Repr

/-- ROM recovery (R426, R427): TFTP peer and component in transfer, bytes received, next block, time and number of sends of the last answer; the recovery UART's open transfer. -/
structure Recovery where
  peer   : Option Peer
  name   : Nat
  data   : Bytes
  block  : Nat
  sent   : Nat
  sends  : Nat
  uart   : Option Nat
  deriving DecidableEq, Repr

/-! ## Stash, groups, pages (R73 to R101) -/

/-- State of a tile (R125, R126): no bytes or some; all bytes and waiting for the codec; complete; lost. -/
inductive TileSt | empty | coding | complete | lost
  deriving DecidableEq, Repr

/-- A tile of a stash object (R125): its state, length given by its records, bytes received so far by offset, bytes of the complete QTC block, a repair in progress, where its block stands behind the object's base. -/
structure Tile where
  st     : TileSt
  length : Nat
  got    : Sparse Nat
  block  : Bytes
  repair : Bool
  place  : Nat
  deriving DecidableEq, Repr

/-- A stash object (R73, R123 to R126): namespace (one per open session), ID, attributes, quota charge, tiles by index, freed when its last pin goes (R132). `base` is where the device has put it (R321 leaves that to the device). -/
structure StashObj where
  ns     : Nat
  id     : Nat
  w      : Nat
  h      : Nat
  ch     : Nat
  depth  : Nat
  sx     : Nat
  sy     : Nat
  bilinear : Bool
  raw    : Bool
  tw     : Nat
  th     : Nat
  size   : Nat
  charge : Nat
  tiles  : Sparse Tile
  pairs  : Nat
  base   : Nat
  orphan : Bool
  deriving DecidableEq, Repr

/-- A placement entry (R78). -/
structure Placement where
  kind   : Nat
  orient : Nat
  mode   : Nat
  knock  : Nat
  x      : Int
  y      : Int
  ref    : Nat
  mask   : Nat
  map    : Nat
  stride : Nat
  deriving DecidableEq, Repr

/-- A group definition (R77) of a namespace. -/
structure Group where
  ns    : Nat
  id    : Nat
  nx    : Nat
  ny    : Nat
  dx    : Nat
  dy    : Nat
  items : List Placement
  orphan : Bool
  deriving DecidableEq, Repr

/-- Page states (R91), in the order of 0x4880:02. -/
inductive PageSt | defined | waiting | rendering | rendered | verified | released | printing | printed | spoiled | failed | frogged
  deriving DecidableEq, Repr

/-- A spoil record of an instance (R207, R212): line, port, LATE, first reason, reason mask, stamp, epoch; in shuttle mode the width in µs of the pulse at its bind-off as it stood at the decision, 0 for none (R209, R210). -/
structure Spoil where
  line   : Nat
  port   : Nat
  late   : Bool
  reason : Nat
  mask   : Nat
  now    : Nat
  epoch  : Nat
  pulse  : Nat
  deriving DecidableEq, Repr

/-- An instance in progress (R93): number, modules that have fired their last line, spoil record. -/
structure Inst where
  idx   : Nat
  done  : List Nat
  spoil : Option Spoil
  deriving DecidableEq, Repr

/-- A page record (R79, R90, R91, R96).
`insts` counts the instances to print; `cast` the instances cast on; `live` those in progress; `printed` … `cancelled` the totals and `sinceP`, `sinceS` the counts since the last PAGE_EVENT.
`start` is the start position once released, `late` marks a late page and `lateFrom` its provisional start; `floats` a start that rests on the earliest start (R96).
`fetched`, `sentN`, `fired` count, for module port × 4 + module, the slices n = instance × L + line that have gone through. `verify` is the set of lines a verify pass checks (none: all), `writ` the port-lines written of each line whose trailer is still to be written, as (port, CRC, poisoned), `peer` the instances a board peer spoiled before their cast-on (0xFFFFFFFF: all), `pairs` the DRAM pairs its blocks lie on, `castAt` the device time + 1 of the cast-on of instance 0 (R92), `thrashed` that E185 was raised for it (R169). -/
structure Page where
  num     : Nat
  id      : Nat
  ns      : Nat
  sess    : Nat
  orphan  : Bool
  len     : Nat
  startAt : Bool
  reps    : Nat
  start   : Nat
  gap     : Nat
  bg      : List Nat
  items   : List Placement
  binds   : List (Nat × Nat)
  st      : PageSt
  objs    : List Nat
  groups  : List Nat
  gen     : Nat
  segs    : Nat
  chunks  : List Nat
  notHidden : Bool
  held    : Bool
  rerenders : Nat
  relines : Option (List Nat)
  writ    : Sparse (List (Nat × Nat × Bool))
  verified : Bool
  pos     : Nat
  late    : Bool
  lateFrom : Nat
  ports   : Nat
  insts   : Nat
  cast    : Nat
  live    : List Inst
  printed : Nat
  spoiledN : Nat
  sinceP  : Nat
  sinceS  : Nat
  lastInst : Nat
  lastReason : Nat
  lastLate : Bool
  fetched : Sparse Nat
  sentN   : Sparse Nat
  fired   : Sparse Nat
  reverified : List (Nat × Nat)
  peer    : List Nat
  pairs   : Nat
  castAt  : Nat
  thrashed : Bool
  deriving DecidableEq, Repr

/-- Stash, groups, pages: page records, print queue (page numbers, head first, R95), next page number (R90), end of the last page printed since the row counter was set (R96). -/
structure Jobs where
  stash  : List StashObj
  groups : List Group
  pages  : List Page
  queue  : List Nat
  next   : Nat
  lastEnd : Option Nat
  deriving DecidableEq, Repr

/-! ## Sessions (R102 to R135) -/

/-- A request placed for execution (R113, R116, R117): number, type, body; too long, or lost to a parity error. -/
structure Req where
  num   : Nat
  ty    : Nat
  body  : Bytes
  large : Bool
  lost  : Option LostAt
  deriving DecidableEq, Repr

/-- A sequenced packet sent and not acknowledged (R112): PSN, its records, the ring index behind its last completion, time and number of sends, marks of higher PSNs in SACK. -/
structure Sent where
  psn    : Nat
  recs   : Bytes
  count  : Nat
  upto   : Nat
  sent   : Nat
  rto    : Nat
  resends : Nat
  marked : Bool
  fast   : Bool
  deriving DecidableEq, Repr

/-- A READBACK in progress (R128): request, page, port, first line, count, blocks done, the block being sent and its offset. -/
structure Readback where
  req    : Nat
  page   : Nat
  port   : Nat
  first  : Nat
  count  : Nat
  block  : Nat
  data   : Bytes
  off    : Nat
  ready  : Bool
  deriving DecidableEq, Repr

/-- Where packets to a host go: host port and peer (R130). -/
structure HostAddr where
  he   : Nat
  peer : Peer
  deriving DecidableEq, Repr

/-- An MSP session (R110 to R133). `rxNext` is Ack, `held` the packets accepted out of order as (PSN, records, parity errors in them), `chain` a request whose records still arrive,
`compSend` the ring index of the next completion to send, `codec` the tile whose completion the executing request waits for, `closing` the CLOSE notices left and when the next goes, `quiet` the time of the last sending. -/
structure Session where
  ns       : Nat
  st       : Nat
  slot     : Nat
  token    : Nat
  window   : Nat
  ring     : Nat
  keepMs   : Nat
  stashQuota : Nat
  pageQuota  : Nat
  charge   : Nat
  peer     : HostAddr
  rxNext   : Nat
  held     : List (Nat × Bytes × List (Nat × LostAt))
  accepted : Nat
  ackDue   : Option Nat
  lastRx   : Nat
  quiet    : Nat
  reqNext  : Nat
  credit   : Nat
  chain    : Option Req
  reqs     : List Req
  lastExec : Nat
  replies  : Nat
  txNext   : Nat
  hostCredit : Nat
  compSend : Nat
  bodies   : Sparse Bytes
  flight   : List Sent
  srtt     : Nat
  rttvar   : Nat
  measured : Bool
  waiting  : List (Nat × Bytes)
  codec    : Option (Nat × Nat × Nat)
  codecDone : Bool
  readback : Option Readback
  closing  : Nat
  closeAt  : Nat
  reason   : Nat
  deriving DecidableEq, Repr

/-- A pending open entry (R118): handle, source, the OPEN's fields, device nonce, CHALLENGE bytes; once accepted the PROOF, the ACCEPT bytes, the session. -/
structure Opening where
  handle : Nat
  src    : HostAddr
  slot   : Nat
  k      : Nat
  window : Nat
  hostNonce : Bytes
  devNonce  : Bytes
  at_    : Nat
  proof  : Option Bytes
  answer : Bytes
  sess   : Option Nat
  deriving DecidableEq, Repr

/-- MSP: sessions by number, pending entries, AUTH failure times and lock of each slot, next namespace, time of the last E079. -/
structure Msp where
  sessions : Sparse Session
  opening  : List Opening
  fails    : Sparse (List Nat)
  locked   : Sparse (Option Nat)
  nextNs   : Nat
  e079     : Option Nat
  deriving DecidableEq, Repr

/-! ## Codec, render, tables (R136 to R195) -/

/-- A tile: namespace, object, index. -/
structure TileRef where
  ns   : Nat
  obj  : Nat
  tile : Nat
  deriving DecidableEq, Repr

/-- A decoder at work for render (R155 to R157): its tile; as it was at its last stall: the 64-bit words that its input view has taken in, and its complete state. -/
structure Decoder where
  tile  : TileRef
  words : Nat
  walk  : Qtc.Walk
  deriving DecidableEq, Repr

/-- A job of an encoder (R159): a raw tile of a session or a readback block, with the options latched at its start. -/
structure Encoder where
  sess : Nat
  raw  : Option TileRef
  t1   : Nat
  t2   : Nat
  copy : Bool
  minLen : Nat
  stored : Bool
  deriving DecidableEq, Repr

/-- Work of the pipelines (R22, R163, R166, R201, R204): a page, the lines to write (none: all), the strips that compute every line from 0 for them (R166), the step each strip has come to, steps walked by the chart walker,
the cluster left out when it began (4: none), thrash mode, an in-print repair. -/
structure Job where
  page   : Nat
  lines  : Option (List Nat)
  whole  : List Nat
  next   : Sparse Nat
  walked : Nat
  out    : Nat
  thrash : Bool
  repair : Bool
  ended  : Bool
  deriving DecidableEq, Repr

/-- A resident tile of the tile cache (R168), least recently used first; `upto` is the last line it is pinned for. -/
structure Cached where
  tile  : TileRef
  page  : Nat
  upto  : Nat
  bytes : Nat
  deriving DecidableEq, Repr

/-- A table generation (R184): number, bytes of the four tables (table × 2^24 + offset), darning count, words found uncorrectable as (table, entry). -/
structure Gen where
  num   : Nat
  bytes : Sparse Byte
  darn  : Nat
  bad   : List (Nat × Nat)
  deriving DecidableEq, Repr

/-- States of the build generation (R185). -/
inductive BuildSt | empty | cloning | building | checking | pending
  deriving DecidableEq, Repr

/-- Why the device builds (R188): drain of a port, return of a port, dropped stitches. -/
inductive BuildWhy | drain (port : Nat) | back (port : Nat) | stitches
  deriving DecidableEq, Repr

/-- The render side: decoders by number, decodes that wait for one, encoders by number, encodes that wait, tile cache, work of the pipelines in order,
tables, build, device builds that wait, states that drains recorded (jet number to state + 1), jets whose darning entries a drain added, pending jets, screen words found uncorrectable, page held under R192. -/
structure Render where
  decoders : Sparse (Option Decoder)
  decQueue : List TileRef
  encoders : Sparse (Option Encoder)
  encQueue : List (Nat × Option TileRef)
  cache    : List Cached
  jobs     : List Job
  active   : Gen
  retained : Option Gen
  build    : Gen
  buildSt  : BuildSt
  device   : Option BuildWhy
  wanted   : List BuildWhy
  preDrain : Sparse Nat
  darned   : Sparse Nat
  pending  : List Nat
  badScreen : List Nat
  holdPage : Nat
  deriving DecidableEq, Repr

/-- An in-print repair (R204): page, line, first port-line that failed, all that failed (one bit each), predicted device time of its earliest send deadline, started, a deadline passed; for a repair that re-verification asks for, the instance whose first fetch bounds it (R211). -/
structure Repair where
  page : Nat
  line : Nat
  port : Nat
  ports : Nat
  deadline : Nat
  started : Bool
  late : Bool
  fetch : Option Nat
  deriving DecidableEq, Repr

/-- SPOIL_N (R209, R210): windows of row-counter lines [from, to) still to come or running, pulses still to come (start in row-counter lines, width in µs), end of the pulse in device time, pin driven low. -/
structure SpoilPin where
  windows : List (Int × Int)
  pulses  : List (Nat × Nat)
  until_  : Option Nat
  low     : Bool
  deriving DecidableEq, Repr

/-- The page store (R196 to R213): pages in the verify engine, repairs in order, SPOIL_N. -/
structure Store where
  repairs : List Repair
  spoil   : SpoilPin
  deriving DecidableEq, Repr

/-! ## Readout, head ports, firing (R25 to R27, R203 to R272) -/

/-- A slice of a line on its way from the page store to its fire instant (R25, R27, R203, R254, R260).
`data` is what stands in the FIFO, `crc` its CRC taken at the fetch (the expected echo), `proven` says that its port-line passed R26;
`poison` is the mask of spoil reasons it carries; `sent` the tag it holds a far-end slot with, `sentCrc` the CRC of what was sent, `sends` the number of sends, `sentAt` the end of the last one;
`echo` 0 none, 1 matched, 2 final mismatch; `refetch`: it must be fetched again. -/
structure Slice where
  page    : Nat
  inst    : Nat
  line    : Nat
  data    : Bytes
  crc     : Nat
  proven  : Bool
  poison  : Nat
  sent    : Option Nat
  sentCrc : Nat
  sends   : Nat
  sentAt  : Nat
  echo    : Nat
  refetch : Bool
  deriving DecidableEq, Repr

/-- One module's FIFO quarter and downlink lane: slices in fire order, next tag (R253), tags whose lines will not fire and that await a FIRE block (R254), the last tags that fired without an echo (R260). -/
structure Lane where
  slices  : List Slice
  nextTag : Nat
  gone    : List Nat
  missed  : List Nat
  deriving DecidableEq, Repr

/-- A port-line compare of an instance (R26): CRCs by module, a dose parity error among them, the trailer check failed, passed. A compare that passed stays while another port-line of the line may need its CRC (R203). -/
structure LineCmp where
  page : Nat
  inst : Nat
  line : Nat
  port : Nat
  crcs : Sparse Nat
  bad  : Bool
  trailer : Bool
  proven : Bool
  deriving DecidableEq, Repr

/-- A head or seam link (R249; 0–15 HPn, 16–19 SLk): the uplink block receiver (R246): consecutive valid headers at the present alignment, the last 64 headers while locked, newest first (true: invalid), the alignment; time the link entered its state, time of the last polarity trial, of the last sweep step and of the last CAPS sent, sweep position and count,
device receiver in block lock (R246), configuration latched at the start (mode, rate, reversal, polarity, depth, modules, preset, waveform selects), D and modules in use, receive polarity of a seam link. -/
structure Link where
  good   : Nat
  window : List Bool
  shift  : Nat
  since  : Nat
  trial  : Nat
  stepAt : Nat
  capsAt : Nat
  preset : Nat
  step   : Nat
  locked : Bool
  cfg    : List Nat
  depth  : Nat
  mods   : Nat
  pol    : Nat
  deriving DecidableEq, Repr

/-- The command outstanding on a port (R264): opcode, address byte, sequence, data block, request tag, time sent, sent by the device. -/
structure PortCmd where
  op   : Nat
  addr : Nat
  seq  : Nat
  data : Bytes
  tag  : Nat
  sent : Nat
  own  : Bool
  deriving DecidableEq, Repr

/-- A heater measurement (R265 to R268): segments still to measure, the one in progress with its sequence, tries and time sent, capture, a segment failed. -/
structure Meas where
  todo    : List Nat
  seg     : Nat
  seq     : Nat
  tries   : Nat
  sent    : Nat
  capture : Bool
  failed  : Bool
  deriving DecidableEq, Repr

/-- A head port beside its link and lanes: outstanding command, next sequence, device commands that wait for it (3 TEMP_PERIOD, 0x40 LOOP, 2 MEASURE), SAFE and RESUME commands without their RESP, measurement in progress, time of the last measurement,
jet counting windows (jet in port to (t0, count, declared dead)), loopback mode running (0 none), time since which it checks, number of its run. -/
structure Port where
  cmd     : Option PortCmd
  seq     : Nat
  due     : List Nat
  alls    : List PortCmd
  meas    : Option Meas
  measAt  : Nat
  windows : Sparse (Nat × Nat × Bool)
  loop    : Nat
  loopAt  : Option Nat
  loopRun : Nat
  deriving DecidableEq, Repr

/-- Position tracker and pass sequencer (R214 to R238).
`levels`: accepted A + 2·B of each encoder; `raw`: for signal 2·e (A) and 2·e + 1 (B) the level of the last sample and the device time since which it stands (R216); `illegal`: last E195 of each encoder + 1; `rates`: times of counts of the last 1 ms of each encoder; `src`: the count last presented;
`gen`: accumulator of the internal generator; `future`: counts that a board delay or SPOS still holds back (count, time); `org`: O; `lam`: Λ as last reached; `hist`: (Λ, time) of the advances, newest first;
`highs`: times of new highs since the interpolation history began, newest first; `lines`: times at which lines were completed; `atH`: q was last at H; `inBand`: q was within the band since the last reversal;
`posOk`: POS; `hold`: a reversal in single-pass mode holds the firing until q exceeds H (R220); `rev`: the tracker counts downward; `startAt`: time at which the carriage passed the starting point Q of the present pass (R233); `feedBase`, `feedDone`, `feedChecked`, `feedDue`: the feed of the pass, `feedPath` its move (R236); `align`: offsets latched at the pass start; `measured`: a line rate was measured since the last restart (R467); `badFeeds`: delivered lines of passes that began with their feed incomplete (R236). -/
structure Pos where
  levels   : Sparse Nat
  raw      : Sparse (Nat × Nat)
  illegal  : Sparse Nat
  rates    : Sparse (List Nat)
  src      : Int
  gen      : Nat
  future   : List (Int × Nat)
  org      : Int
  lam      : Nat
  hist     : List (Nat × Nat)
  highs    : List Nat
  lines    : List Nat
  atH      : Bool
  inBand   : Bool
  posOk    : Bool
  hold     : Bool
  rev      : Bool
  startAt  : Option Nat
  feedPath : Option Nat
  feedBase : Int
  feedDue  : Int
  feedDone : Bool
  feedChecked : Bool
  align    : Bytes
  measured : Bool
  badFeeds : List (Nat × Nat)
  deriving DecidableEq, Repr

/-- Fire scheduler (R225 to R231), module key port × 4 + module: last fire instant in half-ns, λ of the latest fire, changes of the fine delay, oldest first, as (bound, delay before the change): lines whose target sub-tick lies below the bound were reached before the change (R226);
by device segment: bin + 1, time of the last report + 1, E199 raised since. `slow` is SLOW_N low. -/
structure Fire where
  last   : Sparse Nat
  lag    : Sparse Nat
  fine   : Sparse (List (Nat × Nat))
  bins   : Sparse Nat
  report : Sparse Nat
  stale  : Sparse Bool
  slow   : Bool
  deriving DecidableEq, Repr

/-! ## Motion (R273 to R294) -/

/-- A binary64 value (R279): mant × 2^expo. -/
structure B64 where
  mant : Int
  expo : Int
  deriving DecidableEq, Repr

/-- A path (R277 to R283): members (axis, start in 2^-32 units, signed distance in units × 2^32), lead distance D in units × 2^32, start tick, profile v_s, v_max, v_e, a, d;
once stopping: path position and velocity at the ramp's start, deceleration, start tick. -/
structure Path where
  id      : Nat
  members : List (Nat × Int × Int)
  dist    : Int
  tick    : Nat
  vs      : B64
  vmax    : B64
  ve      : B64
  acc     : B64
  dec     : B64
  ramp    : Option (B64 × B64 × B64 × Nat)
  feed    : Bool
  deriving DecidableEq, Repr

/-- A gear (R284): p0 in 2^-32 units, e0, N, M; `fresh` until the tick that anchors it. -/
structure Gear where
  p0 : Int
  e0 : Int
  num : Int
  den : Nat
  fresh : Bool
  deriving DecidableEq, Repr

/-- A queued ratio change (R285): e_c, N, M. -/
structure Ratio where
  at_ : Int
  num : Int
  den : Nat
  deriving DecidableEq, Repr

/-- An axis beside its objects: commanded position in 2^-32 units, velocity in 2^-32 units/s, gear, ratio queue, side the ENC1 count stood on when the head entry became head,
latest entry that a tick used (actual position, status), ticks without one, path; `entry` is the latest entry accepted since the last tick (R289). -/
structure Axis where
  pos    : Int
  vel    : Int
  gear   : Option Gear
  queue  : List Ratio
  side   : Int
  actual : Option (Int × Nat)
  missed : Nat
  path   : Option Nat
  entry  : Option (Int × Nat)
  deriving DecidableEq, Repr

/-- An axis request that waits for its tick (R274, R275, R291). A stop carries the decelerations of the four axes as they stood when it was accepted (R283), a feed its distance. -/
inductive AxisAct
  | enable | disable | move | stop (decs : List Nat) | gear | set | clear | feed (dist : Int)
  deriving DecidableEq, Repr

/-- Motion: axes, paths, next path number, ENC1 count of the previous tick, cycles sent (R289), requests accepted since the last tick, in order, with their axes (R274). -/
structure Motion where
  axes   : Sparse Axis
  paths  : List Path
  nextId : Nat
  enc1   : Int
  sentCycles : List Nat
  acts   : List (Nat × AxisAct)
  deriving DecidableEq, Repr

/-! ## DRAM (R316 to R338) -/

/-- A DRAM request (R324, R325): burst address, bank, row, real-time, write, data, time of arrival. -/
structure DramReq where
  addr  : Nat
  bank  : Nat
  row   : Nat
  real  : Bool
  write : Bool
  data  : Bytes
  at_   : Nat
  deriving DecidableEq, Repr

/-- A subchannel (R324 to R334): component temperatures, consecutive readings in a lower band, band waiting for the refresh boundary (+1), refreshes owed by rank and bank address (key 4 rank + bank address), when each rank's next interval ends, read queue, write queue, rotating pointer,
open row + 1 by bank, activate table by bank (row, count), mitigations due (bank, row), oscillator value at training, retraining scheduled or running, overdue reported, the burst last answered from the write queue with its data (R325). -/
structure Sub where
  temps   : List Int
  lower   : Nat
  nextBand : Nat
  debt    : Sparse Nat
  refAt   : Sparse Nat
  reads   : List DramReq
  writes  : List DramReq
  drain   : Bool
  ptr     : Nat
  rows    : Sparse Nat
  acts    : Sparse (List (Nat × Nat))
  due     : List (Nat × Nat)
  osc     : Nat
  sched   : Bool
  run     : Bool
  overdue : Bool
  fwd     : Option (Nat × Bytes)
  deriving DecidableEq, Repr

/-- DRAM: subchannels, last E239 of kind 1 and 2 by subchannel, pairs of the two system copies, over-temperature hold, start-up training done, cap to apply at the next cast-on, configuration read at start-up. -/
structure Dram where
  subs    : Sparse Sub
  forced  : Sparse Nat
  mitig   : Sparse Nat
  copies  : List Nat
  hot     : Bool
  trained : Bool
  capNext : Option (Nat × List Nat)
  conf    : List Nat
  deriving DecidableEq, Repr

/-! ## Integrity, CRC units, DMA (R339 to R366) -/

/-- The transfer a DMA channel runs (R360): descriptor, ring index, bytes moved, half event raised. -/
structure DmaCur where
  src   : Nat
  dst   : Nat
  len   : Nat
  seq   : Nat
  index : Nat
  moved : Nat
  half  : Bool
  unit  : Option Nat
  deriving DecidableEq, Repr

/-- Leak base time of each bucket, a bucket overflowed since it was last below capacity, bytes and parity of the array under test by offset (byte + 256 if the parity is right), latched CRC configurations (width, polynomial, reflection, final XOR),
DMA transfers, the channel served last + 1, places of SC code and data lost and not yet reloaded (R378). -/
structure Integ where
  leak   : Sparse Nat
  spilt  : Sparse Bool
  window : Sparse Nat
  latch  : Sparse (Nat × Nat × Nat × Nat)
  dma    : Sparse (Option DmaCur)
  turn   : Nat
  scLost : List Nat
  deriving DecidableEq, Repr

/-! ## Board (R430 to R452) -/

/-- The open barrier or a follower's vote (R443, R444): key, L, R, g, S; page; members that voted yes; opened at; waiting for its page; voted yes. -/
structure Barrier where
  key    : Nat
  len    : Nat
  reps   : Nat
  gap    : Nat
  start  : Nat
  page   : Nat
  yes    : Nat
  opened : Nat
  deriving DecidableEq, Repr

/-- The board ring: SMSG sequence, (origin, sequence) of messages acted on (the last 64 of each origin, newest first), time + 1 of the last SURGENT of each origin, origins that report the safe state, origins missing,
time a barrier may reopen, barrier of the master, the follower's open vote (true: yes was cast), latest SPOS count and its stamp (on the master its own latest count), run of timely SPOS, time of the last one,
POS_FULL seen since the last loss of lock, pitch equal; STIME: run within 20 ns, last arrival and the master's time then, link it came by + 1 (0 none), link that SPOS comes by first + 1 (0 none), B fixed;
rebase to apply (epoch, alignment, T_r); safe state held only by E069; time + 1 of the last periodic send (0 SURGENT, 1 SPOS, 2 STIME, 3 POS_FULL). -/
structure Board where
  seq     : Nat
  seen    : List (Nat × Nat)
  heard   : Sparse Nat
  peerSafe : Nat
  missing : Nat
  reopen  : Option Nat
  barrier : Option Barrier
  vote    : Option (Barrier × Bool)
  spos    : Option (Int × Nat)
  sposRun : Nat
  sposAt  : Nat
  full    : Bool
  pitchOk : Bool
  stimes  : Nat
  stime   : Option (Nat × Nat)
  stimePort : Nat
  sposPort : Nat
  fixed   : Bool
  rebase  : Option (Nat × Int × Nat)
  peerOnly : Bool
  sent    : Sparse Nat
  deriving DecidableEq, Repr

/-! ## Units, pins, output -/

/-- The unit drain or return in progress (R31, R32): unit, pages that were RELEASED or PRINTING when the command was accepted, migration or build done. -/
structure Units where
  states : Sparse Nat
  since  : List Nat
  moved  : Bool
  deriving DecidableEq, Repr

/-- Where the device sends bytes: a UDP datagram of the field network, a packet of a host port, a frame of a field port, a set-point frame from UDP port 51,220 to port 51,220 of a destination (R288), a PTP message of a field port by its transport, a block run on a lane of a head or seam link, the recovery UART. -/
inductive Chan
  | fop (src : Nat) (dst : Peer)
  | host (he : Nat) (dst : Peer)
  | frame (fn : Nat)
  | hostFrame (he : Nat)
  | down (port lane : Nat)
  | seam (k lane : Nat)
  | motion (fn : Nat) (dst : Bytes)
  | ptp (fn transport : Nat)
  | tftp (dst : Peer)
  | uart
  deriving DecidableEq, Repr

/-- One thing sent. -/
structure Tx where
  chan  : Chan
  bytes : Bytes
  deriving DecidableEq, Repr

/-- What a downlink or seam lane sends (R244, R245, R255): the 58 payload bits last transmitted, the oldest in bit 0; its block time t_b and the time its next block begins, in 0.1 ns;
the blocks that are left of the frame in progress; and the frames that wait, as (class, blocks), the lowest class first, within a class in order of arrival. A block is the control flag and eight payload bytes. -/
structure LaneOut where
  sent : BitVec 58
  tb   : Nat
  next : Nat
  rest : List (Bool × Bytes)
  wait : List (Nat × List (Bool × Bytes))
  deriving DecidableEq, Repr

/-! ## The state -/

/-- The whole block.
`main` holds every object of the dictionary but those of the event router and collector (`ev.bank`). `mem` is the DRAM by logical address, `memBad` its bytes with wrong parity; `staging` the update staging of 0x8020; `flash` the image directory and slots; `copies` the two settings copies.
`wire` holds the link lanes (R245, R255); an unlisted one has nothing to send and a scrambler of all ones. `tx` is what the device has sent, newest first; the bytes of a link lane are its blocks on the wire (`Machine/Wire.lean`). `free` counts the free values taken (log entry 2), `idle` is the ns an idle step takes (log entry 4). `pending` is the queue of commands. -/
structure State where
  main    : Bank
  ev      : Ev
  mem     : Sparse Byte
  memBad  : Sparse Bool
  staging : Sparse Byte
  flash   : Sparse Byte
  copyA   : Settings
  copyB   : Settings
  fop     : Fop
  clk     : Clk
  time    : TimeUnit
  aon     : Aon
  therm   : Therm
  calib   : Sparse Calib
  boot    : Boot
  update  : Update
  recovery : Recovery
  jobs    : Jobs
  msp     : Msp
  render  : Render
  store   : Store
  lanes   : Sparse Lane
  cmps    : List LineCmp
  links   : Sparse Link
  ports   : Sparse Port
  pos     : Pos
  fire    : Fire
  motion  : Motion
  dram    : Dram
  integ   : Integ
  board   : Board
  units   : Units
  wire    : Sparse LaneOut
  tx      : List Tx
  free    : Nat
  idle    : Nat
  pending : List Instr
  deriving DecidableEq, Repr

/-- Why the block would stop for good. No rule of the spec stops it, so there is no constructor: a fault of the hardware is an event, a record and the safe state (R367 to R382), which are state. -/
inductive Fault
  deriving DecidableEq, Repr

/-- Why a command is turned away. -/
inductive Refusal
  /-- Raised by `exec` for a command that has no meaning yet, by its mnemonic; safe: nothing is computed. -/
  | notModelled (mnemonic : String)
  deriving DecidableEq, Repr

/-! ## Reset (R461, R468, R12) -/

/-- A bank with every object at its default. -/
def Bank.reset : Bank := ⟨[], []⟩

/-- The generation after reset (R184): number 1, every gain 16,384, every jet UNUSED. -/
def Gen.reset : Gen := ⟨1, [], 0, []⟩

/-- A flash settings copy that was never saved. -/
def Settings.none : Settings := ⟨false, 0, 0, 0, [], []⟩

/-- The right-after-reset state: POR_N low, every function outside the AON held in reset (R461), every object at its default (R12), no VBAT seen yet.
Memories list nothing. The queue is empty. -/
def State.reset : State where
  main := Bank.reset
  ev := { bank := Bank.reset, slots := [], notify := [], ringFull := [], total := [], mark := [], resv := [], occ := [],
          started := false, early := false, entry := 0, entrySrc := 0, lastSrc := 0xFF }
  mem := []
  memBad := []
  staging := []
  flash := []
  copyA := Settings.none
  copyB := Settings.none
  fop := ⟨[], []⟩
  clk := ⟨0, 0, 0, 0⟩
  time := { doms := [], forwarded := [], trigs := [], lockedAt := none }
  aon := { vbat := false, keepEn := false, mainEn := false, backup := [], failed := 0 }
  therm := { hist := [], beyond := [], within := [], armed := true, lastWarm := 0, throttled := false, restoring := false, droop := 16, lowest := 16, bands := [], pagesAt := 0, droopAt := 0, thermAt := 0 }
  calib := []
  boot := { phase := .held, porN := false, railsOk := false, straps := 0, testEn := false, cause := 0, other := false, started := 0, due := .none, tap := ⟨.reset, [], none, false, [], [], false⟩ }
  update := ⟨[], [], 0, 0, 0, [], false⟩
  recovery := ⟨none, 0, [], 0, 0, 0, none⟩
  jobs := { stash := [], groups := [], pages := [], queue := [], next := 1, lastEnd := none }
  msp := { sessions := [], opening := [], fails := [], locked := [], nextNs := 0, e079 := none }
  render := { decoders := [], decQueue := [], encoders := [], encQueue := [], cache := [], jobs := [], active := Gen.reset, retained := none,
              build := ⟨0, [], 0, []⟩, buildSt := .empty, device := none, wanted := [], preDrain := [], darned := [], pending := [], badScreen := [],
              holdPage := 0 }
  store := { repairs := [], spoil := ⟨[], [], none, false⟩ }
  lanes := []
  cmps := []
  links := []
  ports := []
  pos := { levels := [], raw := [], illegal := [], rates := [], src := 0, gen := 0, future := [], org := 0, lam := 0, hist := [], highs := [], lines := [],
           atH := true, inBand := true, posOk := true, hold := false, rev := false, startAt := none, feedPath := none, feedBase := 0, feedDue := 0, feedDone := true, feedChecked := true, align := [], measured := false, badFeeds := [] }
  fire := ⟨[], [], [], [], [], [], false⟩
  motion := ⟨[], [], 0, 0, [], []⟩
  dram := ⟨[], [], [], [], false, false, none, []⟩
  integ := ⟨[], [], [], [], [], 0, []⟩
  board := { seq := 0, seen := [], heard := [], peerSafe := 0, missing := 0, reopen := none, barrier := none, vote := none, spos := none, sposRun := 0, sposAt := 0,
             full := false, pitchOk := true, stimes := 0, stime := none, stimePort := 0, sposPort := 0, fixed := false, rebase := none, peerOnly := false, sent := [] }
  units := ⟨[], [], false⟩
  wire := []
  tx := []
  free := 0
  idle := 1
  pending := []

end Sys2Proof.Machine
end

