-- ==== Sys2Proof/Machine/Regs.lean ====
section
/-! DEFINITION. Reading and writing object values in a bank. A register that is not listed reads as its default (R12); a byte likewise. -/

namespace Sys2Proof.Machine

/-- Value of a scalar object. -/
def Bank.get (b : Bank) (key : Nat) : Nat := (sfind key b.regs).getD (dflt key)

/-- Sets a scalar object. -/
def Bank.put (b : Bank) (key v : Nat) : Bank :=
  { b with regs := if v = dflt key then serase key b.regs else sinsert key v b.regs }

/-- One byte of a DOMAIN object, by its object-window address. -/
def Bank.byte (b : Bank) (a : Nat) : Byte := (sfind a b.bytes).getD (dfltByte a)

/-- Writes one byte of a DOMAIN object. -/
def Bank.putByte (b : Bank) (a : Nat) (v : Byte) : Bank :=
  { b with bytes := if v = dfltByte a then serase a b.bytes else sinsert a v b.bytes }

/-- `n` bytes of a DOMAIN object from an object-window address up. -/
def Bank.read (b : Bank) (a n : Nat) : Bytes := (List.range n).map fun i => b.byte (a + i)

/-- Writes bytes of a DOMAIN object from an object-window address up. -/
def Bank.write (b : Bank) (a : Nat) : Bytes → Bank
  | [] => b
  | v :: vs => (b.putByte a v).write (a + 1) vs

/-- The bank's canonical form: rising keys, no default value listed. -/
def Bank.wf (b : Bank) : Bool :=
  srising none b.regs && sproper dflt b.regs && srising none b.bytes && sproper dfltByte b.bytes

/-- Indices whose objects the event router and the collector own, and the FOP notification counts (R40, R59): they stand in `Ev.bank`. -/
def inEv (idx : Nat) : Bool := decide (0x7800 ≤ idx) && decide (idx < 0x7D00) || decide (idx = 0x1812) || decide (idx = 0x1813)

end Sys2Proof.Machine
end

