-- ==== Sys2Proof/Machine/Flags.lean ====
section
/-! DEFINITION. The status side of every command: event occurrences and their delivery (R60 to R65), the rings (R66 to R72), and the fault collector (R367 to R384).
A command raises occurrences; at its end `Ev.takeAll` delivers them in ascending event number (R62) and gives them to the collector by severity, then number (R371). -/

namespace Sys2Proof.Machine

/-! ## Rings (R66 to R72) -/

/-- Object of queue `q`. -/
def qObj (q sub : Nat) : Nat := obj (0x7C00 + q) sub
/-- Object of event `n`. -/
def eObj (n sub : Nat) : Nat := obj (0x7A00 + n) sub
/-- Object of counting window `n`. -/
def wObj (n sub : Nat) : Nat := obj (0x7900 + n) sub

/-- Roles of a queue (R66): bit 0 the device produces, bit 1 the device consumes. -/
def roles (q : Nat) : Nat :=
  if q < 128 then 3 else if q < 176 then 2 else if q < 208 then 1 else 3

/-- A queue that a FOP client allocates itself (R66). -/
def clientQueue (q : Nat) : Bool := decide (128 ≤ q) && decide (q < 208)

namespace Ring
/-- Slots of a ring with size exponent in :01 (R67). -/
def size (ev : Ev) (q : Nat) : Nat := 2 ^ ev.bank.get (qObj q 1)
/-- The queue is allocated (R72, :04). -/
def active (ev : Ev) (q : Nat) : Bool := ev.bank.get (qObj q 4) == 1
/-- Descriptors held: PI − CI modulo 2^32 (R69). -/
def held (ev : Ev) (q : Nat) : Nat := (ev.bank.get (qObj q 2) + 2 ^ 32 - ev.bank.get (qObj q 3)) % 2 ^ 32
/-- Key of a slot: index i lives in slot i mod N (R69). -/
def slotKey (ev : Ev) (q i : Nat) : Nat := q * 2 ^ 14 + i % size ev q
end Ring

/-- A slot never written since allocation. -/
def Slot.never : Slot := ⟨[], 0⟩
/-- A slot holding a whole descriptor. -/
def Slot.full (d : Bytes) : Slot := ⟨fit 32 d, 2 ^ 32 - 1⟩

/-- Writes a descriptor into slot PI mod N and then advances PI (R69). -/
def Ev.ringStore (ev : Ev) (q : Nat) (d : Bytes) : Ev :=
  { ev with slots := sset Slot.never ev.slots (Ring.slotKey ev q (ev.bank.get (qObj q 2))) (Slot.full d)
            bank := ev.bank.put (qObj q 2) (wrapAdd 32 (ev.bank.get (qObj q 2)) 1)
            ringFull := sset false ev.ringFull q false }

/-- An occurrence with nothing but a source, a severity and a detail field. -/
def Occ.plain (src sev detail now epoch : Nat) : Occ := ⟨src, sev, detail, 0, 0, 0, 0, false, false, now, epoch⟩

/-- Puts an occurrence behind the ones the step has raised so far. -/
def Ev.raise (ev : Ev) (o : Occ) : Ev := { ev with occ := ev.occ ++ [o] }

/-- A device producer writes a descriptor `mk sequence` into ring `q` (R69, R70): a full ring drops it, counts the overflow and raises E253 unless the ring was full at the previous write.
The Bool says whether the descriptor was written. A queue that is not allocated takes nothing. -/
def Ev.ringPut (ev : Ev) (now epoch q : Nat) (mk : Nat → Bytes) : Ev × Bool :=
  if !Ring.active ev q then (ev, false)
  else if Ring.held ev q ≥ Ring.size ev q then
    let ev1 := { ev with bank := ev.bank.put (qObj q 6) (satAdd 32 (ev.bank.get (qObj q 6)) 1)
                         ringFull := sset false ev.ringFull q true }
    (if sget false ev.ringFull q then ev1 else ev1.raise (Occ.plain 253 2 q now epoch), false)
  else (ev.ringStore q (mk (ev.bank.get (qObj q 2))), true)

/-- Free slots of a completion ring that no reservation holds (R113, R114). -/
def Ring.unreserved (ev : Ev) (q : Nat) : Nat := Ring.size ev q - Ring.held ev q - sget 0 ev.resv (q - 64)

/-- The descriptor a device consumer reads at CI, with its check (R71): `none` for an empty or inactive ring, else the 32 bytes and the error cause (0 good, 1 parity, 2 queue field, 3 sequence field).
A slot with bytes never written fails on parity (its parity is undefined; R71 says that it fails). -/
def Ev.ringHead (ev : Ev) (q : Nat) : Option (Bytes × Nat) :=
  if !Ring.active ev q || Ring.held ev q == 0 then none
  else
    let ci := ev.bank.get (qObj q 3)
    let sl := sget Slot.never ev.slots (Ring.slotKey ev q ci)
    let cause := if sl.good ≠ 2 ^ 32 - 1 then 1 else if leAt sl.bytes 2 2 ≠ q then 2 else if leAt sl.bytes 4 4 ≠ ci then 3 else 0
    some (fit 32 sl.bytes, cause)

/-- Advances CI past the descriptor it reads (R69). -/
def Ev.ringPop (ev : Ev) (q : Nat) : Ev :=
  { ev with bank := ev.bank.put (qObj q 3) (wrapAdd 32 (ev.bank.get (qObj q 3)) 1) }

/-- A parity error comes to stand in the slot of an index (M7). -/
def Ev.slotSpoil (ev : Ev) (q i : Nat) : Ev :=
  { ev with slots := supd Slot.never ev.slots (Ring.slotKey ev q i) fun sl => { sl with good := 0 } }

/-- A parity error comes to stand in the descriptor that a consumer reads next (R71). -/
def Ev.ringSpoil (ev : Ev) (q : Nat) : Ev :=
  if !Ring.active ev q || Ring.held ev q == 0 then ev else ev.slotSpoil q (ev.bank.get (qObj q 3))

/-- RING_ERROR (R71): the descriptor is skipped, counted, and E252 raised with the cause. -/
def Ev.ringError (ev : Ev) (now epoch q cause : Nat) : Ev :=
  let ci := ev.bank.get (qObj q 3)
  let ev1 := { ev with bank := ev.bank.put (qObj q 7) (satAdd 32 (ev.bank.get (qObj q 7)) 1) }
  (ev1.ringPop q).raise (Occ.plain 252 2 (q + ci * 2 ^ 8 + cause * 2 ^ 40) now epoch)

/-- Descriptors that the ring memory holds (R67). -/
def ringMemory : Nat := 131072

/-- Ring slots that allocated queues take out of the 131,072 of the ring memory (R67). -/
def Ev.ringUsed (ev : Ev) : Nat :=
  (List.range 256).foldl (fun n q => if Ring.active ev q then n + Ring.size ev q else n) 0

/-- Allocates a ring of 2^k descriptors (R69: PI and CI 0; every slot not yet written). -/
def Ev.ringAllocate (ev : Ev) (q k : Nat) : Ev :=
  { ev with bank := ((((ev.bank.put (qObj q 1) k).put (qObj q 2) 0).put (qObj q 3) 0).put (qObj q 4) 1)
            slots := ev.slots.filter fun e => decide (e.1 / 2 ^ 14 ≠ q)
            ringFull := sset false ev.ringFull q false }

/-- Releases a ring (R72, command 2); the indices of a queue that is not allocated are 0 (R69). -/
def Ev.ringRelease (ev : Ev) (q : Nat) : Ev :=
  { ev with bank := ((ev.bank.put (qObj q 2) 0).put (qObj q 3) 0).put (qObj q 4) 0
            slots := ev.slots.filter fun e => decide (e.1 / 2 ^ 14 ≠ q) }

/-! ## Delivery (R60 to R63) -/

/-- Event descriptor of an occurrence for a target queue (R63). -/
def Occ.descriptor (o : Occ) (queue seq occurrences : Nat) : Bytes :=
  [0x02, 0x00] ++ leBytes 2 queue ++ leBytes 4 seq ++ leBytes 4 o.now ++ leBytes 2 o.epoch ++ leBytes 2 (o.now / 2 ^ 32)
    ++ leBytes 8 o.detail ++ leBytes 1 o.src ++ [0] ++ leBytes 2 occurrences ++ leBytes 2 o.sev ++ [0, 0]

/-- Occurrences since the previous descriptor written to a target, including this one; saturates (R63). -/
def Ev.since (ev : Ev) (src target : Nat) : Nat :=
  min (sget 0 ev.total src - sget 0 ev.mark (src * 512 + target)) 65535

/-- A descriptor was written to a target. -/
def Ev.marked (ev : Ev) (src target : Nat) : Ev :=
  { ev with mark := sset 0 ev.mark (src * 512 + target) (sget 0 ev.total src) }

/-- Counts a dropped delivery in :08 of the event (R60). -/
def Ev.lost (ev : Ev) (src : Nat) : Ev :=
  { ev with bank := ev.bank.put (eObj src 8) (satAdd 32 (ev.bank.get (eObj src 8)) 1) }

/-- The notification slot with nobody in it. -/
def NotifySlot.empty : NotifySlot := ⟨none, [], []⟩

/-- NOTIFICATION_DROPPED (R58): counted in 0x1812:04 and in :08 of the event; E254 with the slot unless the slot has no target. -/
def Ev.notifyDrop (ev : Ev) (o : Occ) (k : Nat) (hasTarget : Bool) : Ev :=
  let ev1 := ({ ev with bank := ev.bank.put (obj 0x1812 4) (wrapAdd 32 (ev.bank.get (obj 0x1812 4)) 1) }).lost o.src
  if hasTarget then ev1.raise (Occ.plain 254 0 k o.now o.epoch) else ev1

/-- Delivery to notification slot k: 8 unacknowledged and 64 waiting at most; E254 never goes to a slot (R58). -/
def Ev.toNotify (ev : Ev) (o : Occ) (k : Nat) : Ev :=
  let n := sget NotifySlot.empty ev.notify k
  if o.src = 254 then ev
  else if n.peer.isNone then ev.notifyDrop o k false
  else if n.waiting.length + n.out.length ≥ 72 then ev.notifyDrop o k true
  else
    let d := o.descriptor 0xFFFF 0 (ev.since o.src (256 + k))
    ({ ev with notify := sset NotifySlot.empty ev.notify k { n with waiting := n.waiting ++ [d] } }).marked o.src (256 + k)

/-- Delivery to the ring named in :03 (R62): a session completion ring gives only a free slot that nothing holds reserved, and its drop raises no E253.
SC firmware takes a descriptor out of its mailbox ring as it comes (Q224 up). A ring outside the ranges of R62, which :03 can name only by its default 0, is written like any other of them (log entry 81). -/
def Ev.toRing (ev : Ev) (o : Occ) : Ev :=
  let q := ev.bank.get (eObj o.src 3)
  let d := fun seq => o.descriptor q seq (ev.since o.src q)
  if 64 ≤ q ∧ q < 128 then
    if Ring.active ev q && decide (0 < Ring.unreserved ev q) then (ev.ringStore q (d (ev.bank.get (qObj q 2)))).marked o.src q
    else ev.lost o.src
  else
    let (ev1, ok) := ev.ringPut o.now o.epoch q d
    if ok then (if 224 ≤ q then ev1.ringPop q else ev1).marked o.src q else ev1.lost o.src

/-- Address of a DOMAIN object of the event router. -/
def eAddr (n sub : Nat) : Nat := objAddr (0x7A00 + n) sub 0

/-- EVENT_OCCURRENCE (R61): Count, Last record and, while Enable is 1, Pending and one descriptor to each target of Route. -/
def Ev.deliver (ev : Ev) (o : Occ) : Ev :=
  let ev1 := { ev with
    total := sset 0 ev.total o.src (sget 0 ev.total o.src + 1)
    bank := (ev.bank.put (eObj o.src 6) (satAdd 32 (ev.bank.get (eObj o.src 6)) 1)) }
  let ev2 := ({ ev1 with bank := ev1.bank.write (eAddr o.src 7) (o.descriptor 0xFFFF 0 (ev1.since o.src 511)) }).marked o.src 511
  if ev2.bank.get (eObj o.src 1) = 0 then ev2
  else
    let route := ev2.bank.get (eObj o.src 2)
    let ev3 := { ev2 with bank := ev2.bank.put (eObj o.src 4) 1 }
    let ev4 := [0, 1, 2, 3].foldl (fun e k => if bit route (4 + k) then e.toNotify o k else e) ev3
    if bit route 8 then ev4.toRing o else ev4

/-- IRQp is high: an event with Enable 1, Pending 1 and route bit p, and the pin enabled in 0x7B04 (R62, R64). -/
def Ev.irqCause (ev : Ev) (p n : Nat) : Bool :=
  ev.bank.get (eObj n 1) == 1 && ev.bank.get (eObj n 4) == 1 && bit (ev.bank.get (eObj n 2)) p

/-- The IRQp pin (R62, R64). -/
def Ev.irqPin (ev : Ev) (p : Nat) : Bool :=
  bit (ev.bank.get (obj 0x7B04 0)) p && (List.range 256).any fun n => ev.irqCause p n

/-! ## The fault collector (R367 to R384) -/

/-- Fault status bits that are stored (R383): SAFE 0, FATAL 1, PAGE_FATAL 2, DEGRADED 3, FER_VALID 8, SER_VALID 9, SELF 10, COMMANDED 11. CAUSE (7) is computed. -/
def Ev.fstat (ev : Ev) (i : Nat) : Bool := bit (ev.bank.get (obj 0x7800 1)) i

/-- Sets or clears a stored status bit. -/
def Ev.setFstat (ev : Ev) (i : Nat) (b : Bool) : Ev :=
  { ev with bank := ev.bank.put (obj 0x7800 1) (setBit (ev.bank.get (obj 0x7800 1)) i b) }

/-- The device is in the safe state (R375). -/
def Ev.safe (ev : Ev) : Bool := ev.fstat 0

/-- A fault record of 32 bytes (R371). -/
def Occ.record (o : Occ) (sameCycle : Bool) : Bytes :=
  leBytes 1 o.src ++ leBytes 1 (o.sev + (if sameCycle then 8 else 0) + (if o.lasting then 16 else 0) + 128)
    ++ leBytes 1 o.master ++ leBytes 1 o.access ++ leBytes 4 o.now ++ leBytes 2 o.epoch ++ leBytes 2 (o.now / 2 ^ 32)
    ++ leBytes 4 o.page ++ leBytes 8 o.addr ++ leBytes 8 o.detail

/-- A safe-state entry falls due in this step with a cause (0x7803:01) and a source event; the first cause of a step stands. -/
def Ev.dueSafe (ev : Ev) (cause src : Nat) : Ev :=
  if ev.entry ≠ 0 then ev else { ev with entry := cause, entrySrc := src }

/-- Adds to a saturating U32 counter object. -/
def Ev.bump (ev : Ev) (key : Nat) : Ev := { ev with bank := ev.bank.put key (satAdd 32 (ev.bank.get key) 1) }

/-- Severity count at offset 4 × sev of 0x7800:08 (R368, R383). -/
def Ev.countSev (ev : Ev) (sev : Nat) : Ev :=
  let a := objAddr 0x7800 8 (4 * sev)
  { ev with bank := ev.bank.write a (leBytes 4 (satAdd 32 (leVal (ev.bank.read a 4)) 1)) }

/-- Stamp, wrap, epoch and severity of a record held at an address. -/
def Ev.recSev (ev : Ev) (idx : Nat) : Nat := (ev.bank.byte (objAddr idx 0 1)).toNat % 8
/-- A record holds the stamp, wrap and epoch of this occurrence: it was taken in the same cycle (R371). -/
def Ev.recSameCycle (ev : Ev) (idx : Nat) (o : Occ) : Bool :=
  ev.bank.read (objAddr idx 0 4) 8 == leBytes 4 o.now ++ leBytes 2 o.epoch ++ leBytes 2 (o.now / 2 ^ 32)

/-- R370: the first-error record, the secondary record, or the unrecorded count. -/
def Ev.recordFault (ev : Ev) (o : Occ) : Ev :=
  if !ev.fstat 8 then
    (({ ev with bank := ev.bank.write (objAddr 0x7801 0 0) (o.record false) }).setFstat 8 true).raise
      (Occ.plain 248 0 (o.src + o.sev * 256) o.now o.epoch)
  else if !ev.fstat 9 then
    ({ ev with bank := ev.bank.write (objAddr 0x7802 0 0) (o.record (ev.recSameCycle 0x7801 o)) }).setFstat 9 true
  else if ev.recSev 0x7802 < o.sev then
    ({ ev with bank := ev.bank.write (objAddr 0x7802 0 0) (o.record (ev.recSameCycle 0x7801 o)) }).bump (obj 0x7800 7)
  else ev.bump (obj 0x7800 7)

/-- Length W of a counting window in ns. -/
def Ev.windowNs (ev : Ev) (n : Nat) : Nat := ev.bank.get (wObj n 2) * 1000000

/-- Closes the counting window of source n if it is open and its end has come: transient when below N (R372, R373). -/
def Ev.windowClose (ev : Ev) (n now : Nat) : Ev :=
  if ev.bank.get (wObj n 4) = 1 ∧ ev.bank.get (wObj n 5) + ev.windowNs n ≤ now then
    let ev1 := if ev.bank.get (wObj n 6) < ev.bank.get (wObj n 1) then ev.bump (wObj n 7) else ev
    { ev1 with bank := (ev1.bank.put (wObj n 4) 0).put (wObj n 6) 0 }
  else ev

/-- R372, R373, R377: counts a fault occurrence in its window; the N-th raises E251 and applies the lasting action. -/
def Ev.windowCount (ev : Ev) (o : Occ) : Ev :=
  let n := o.src
  if ev.bank.get (wObj n 1) = 0 ∨ o.lasting = true then ev
  else
    let ev1 := ev.windowClose n o.now
    let ev2 := if ev1.bank.get (wObj n 4) = 1 then ev1
      else { ev1 with bank := ((ev1.bank.put (wObj n 4) 1).put (wObj n 5) o.now).put (wObj n 6) 0 }
    let c := ev2.bank.get (wObj n 6)
    let ev3 := { ev2 with bank := ev2.bank.put (wObj n 6) (satAdd 16 c 1) }
    if c + 1 = ev3.bank.get (wObj n 1) then
      let esc := ev3.bank.get (wObj n 3)
      let ev4 := (ev3.bump (wObj n 8)).raise (Occ.plain 251 0 (n + (c + 1) * 256 + esc * 2 ^ 24) o.now o.epoch)
      if esc = 1 then ev4.raise { o with sev := 4, lasting := true } else ev4
    else ev3

/-- FAULT_OCCURRENCE (R368): what the collector does with an occurrence of each severity. Before the collector runs, a SEV4 fault makes it start in the safe state (R468);
with SELF set it records and counts nothing, and a SEV4 fault still holds the safe state (R382). -/
def Ev.collect (ev : Ev) (o : Occ) : Ev :=
  if o.test then ev
  else if !ev.started then (if o.sev = 4 then { ev with early := true, lastSrc := o.src } else ev)
  else if ev.fstat 10 then (if o.sev = 4 then ev.dueSafe (if o.lasting then 2 else 1) o.src else ev)
  else
    let ev1 := ev.countSev o.sev
    if o.sev = 0 then ev1
    else
      let ev2 := if o.sev ≥ 2 then (ev1.recordFault o).setFstat (if o.sev = 2 then 3 else if o.sev = 3 then 2 else 1) true else ev1
      let ev3 := ev2.windowCount o
      if o.sev = 4 then ev3.dueSafe (if o.lasting then 2 else 1) o.src else ev3

/-- Inserts an occurrence by a strict order, behind its equals. -/
def insertOcc (before : Occ → Occ → Bool) (o : Occ) : List Occ → List Occ
  | [] => [o]
  | p :: ps => if before o p then o :: p :: ps else p :: insertOcc before o ps

/-- Occurrences in order; equals stay in the order of raising. -/
def sortOcc (before : Occ → Occ → Bool) (l : List Occ) : List Occ := l.foldl (fun acc o => insertOcc before o acc) []

/-- R62: occurrences of one cycle are delivered in ascending event number. -/
def byNumber (a b : Occ) : Bool := decide (a.src < b.src)
/-- R371: the higher severity first, then the lower source number. -/
def bySeverity (a b : Occ) : Bool := decide (b.sev < a.sev) || decide (a.sev = b.sev) && decide (a.src < b.src)

/-- Takes the occurrences raised so far: delivery, then collection; what these raise is taken in the next round of the same cycle. -/
def Ev.takeRounds : Nat → Ev → Ev
  | 0, ev => ev
  | k + 1, ev =>
    match ev.occ with
    | [] => ev
    | l =>
      let ev1 := (sortOcc byNumber l).foldl Ev.deliver { ev with occ := [] }
      let ev2 := (sortOcc bySeverity l).foldl Ev.collect ev1
      ev2.takeRounds k

/-- Takes every occurrence of the step (the rounds die out: E248 to E254 raise at most one event each per cause). -/
def Ev.takeAll (ev : Ev) : Ev := ev.takeRounds 64

/-- SELF_FAULT (R382): latches the cause, sets SELF and enters the safe state directly; before the collector runs it starts in the safe state (R468). -/
def Ev.selfFault (ev : Ev) (cause : Nat) : Ev :=
  let ev1 := ({ ev with bank := ev.bank.put (obj 0x7800 5) cause }).setFstat 10 true
  if ev1.started then ev1.dueSafe 4 0xFF else { ev1 with early := true }

end Sys2Proof.Machine
end

