-- ==== Sys2Proof/Machine/Placements.lean ====
section
/-! DEFINITION. Group and page definitions (R77 to R79): reading them, expanding placements (R81 to R83), the definition checks (R87). -/

namespace Sys2Proof.Machine

/-- A placement entry of 32 bytes (R78). -/
def parsePlacement (b : Bytes) : Placement :=
  { kind := leAt b 0 1, orient := leAt b 1 1 % 8, mode := leAt b 2 1 % 4, knock := leAt b 3 1
    x := toSigned 32 (leAt b 4 4), y := toSigned 32 (leAt b 8 4), ref := leAt b 12 4, mask := leAt b 16 4
    map := leAt b 20 4, stride := leAt b 24 2 }

/-- The n placement entries from an offset of a body. -/
def parsePlacements (b : Bytes) (off n : Nat) : List Placement :=
  (List.range n).map fun i => parsePlacement (slice b (off + 32 * i) 32)

/-- A group reference without its reserved bits (R78). -/
def Placement.group (p : Placement) : Nat := p.ref % 1024
/-- A base slot without its reserved bits (R78). -/
def Placement.slot (p : Placement) : Nat := p.ref % 4096

/-- The stash object of a namespace with an ID. -/
def Jobs.obj (j : Jobs) (ns id : Nat) : Option StashObj := j.stash.find? fun o => o.ns == ns && o.id == id
/-- The group of a namespace with an ID. -/
def Jobs.group (j : Jobs) (ns id : Nat) : Option Group := j.groups.find? fun g => g.ns == ns && g.id == id
/-- The page record with a number. -/
def Jobs.page (j : Jobs) (num : Nat) : Option Page := j.pages.find? fun p => p.num == num
/-- The non-final or still recorded page of a namespace with an ID. -/
def Jobs.pageId (j : Jobs) (ns id : Nat) : Option Page := j.pages.find? fun p => p.ns == ns && p.id == id

/-- A tile with no bytes. -/
def Tile.none : Tile := ⟨.empty, 0, [], [], false, 0⟩
/-- Tiles across and along an object (R123). -/
def StashObj.tilesX (o : StashObj) : Nat := ceilDiv o.w o.tw
/-- See `tilesX`. -/
def StashObj.tilesY (o : StashObj) : Nat := ceilDiv o.h o.th
/-- Number of tiles. -/
def StashObj.tileCount (o : StashObj) : Nat := o.tilesX * o.tilesY
/-- Size of tile i (R152): width and height. -/
def StashObj.tileDim (o : StashObj) (i : Nat) : Nat × Nat :=
  (min o.tw (o.w - i % o.tilesX * o.tw), min o.th (o.h - i / o.tilesX * o.th))
/-- The object is complete (R125): every tile is; a lost tile is not (R126). -/
def StashObj.complete (o : StashObj) : Bool := (List.range o.tileCount).all fun i => (sget Tile.none o.tiles i).st == .complete

/-- Upscaled size W, H (R73). -/
def StashObj.dim (o : StashObj) : Nat × Nat := (o.w * o.sx, o.h * o.sy)

/-- A leaf instance (R75, R81): its placement, the object it draws, the place of its rectangle. -/
structure Leaf where
  pl  : Placement
  obj : Nat
  x   : Int
  y   : Int
  deriving DecidableEq, Repr

/-- Expansion of a placement list (R81, R83): depth-first, entry order, iy outside ix. `i` is the mixed-radix index of the enclosing repeats. -/
def expand (j : Jobs) (ns : Nat) (binds : List (Nat × Nat)) : Nat → Int → Int → Nat → List Placement → List Leaf
  | 0, _, _, _, _ => []
  | fuel + 1, ox, oy, i, items =>
    items.flatMap fun p =>
      if p.kind = 1 then [⟨p, p.ref, ox + p.x, oy + p.y⟩]
      else if p.kind = 2 then
        match binds.find? fun b => b.1 == p.slot + i * p.stride with
        | some b => [⟨p, b.2, ox + p.x, oy + p.y⟩]
        | none => []
      else
        match j.group ns p.group with
        | none => []
        | some g =>
          (List.range g.ny).flatMap fun iy => (List.range g.nx).flatMap fun ix =>
            expand j ns binds fuel (ox + p.x + ((ix * g.dx : Nat) : Int)) (oy + p.y + ((iy * g.dy : Nat) : Int)) (i * (g.nx * g.ny) + (iy * g.nx + ix)) g.items

/-- The leaf instances of a page in expansion order. -/
def Page.leaves (p : Page) (j : Jobs) : List Leaf := expand j p.ns p.binds 5 0 0 0 p.items

/-- Size of the placed rectangle (R82): odd orientations swap W and H. -/
def Leaf.dim (l : Leaf) (j : Jobs) (ns : Nat) : Int × Int :=
  match j.obj ns l.obj with
  | none => (0, 0)
  | some o => let (w, h) := o.dim; if l.pl.orient % 2 = 1 then (h, w) else (w, h)

/-- The leaf instance meets the page's columns (R86). -/
def Leaf.inColumns (l : Leaf) (j : Jobs) (ns : Nat) : Bool := decide (l.x < 262144) && decide (0 < l.x + (l.dim j ns).1)

/-- The leaf instance intersects line y after clipping (R86). -/
def Leaf.onLine (l : Leaf) (j : Jobs) (ns : Nat) (y : Int) : Bool :=
  l.inColumns j ns && decide (l.y ≤ y) && decide (y < l.y + (l.dim j ns).2)

/-- Cycles of the chart walker on line y (R167): one for each leaf instance on the line, and one for each group instance with one. The recursion is that of `expand`. -/
def walkerCycles (j : Jobs) (ns : Nat) (binds : List (Nat × Nat)) (y : Int) : Nat → Int → Int → Nat → List Placement → Nat
  | 0, _, _, _, _ => 0
  | fuel + 1, ox, oy, i, items =>
    items.foldl (fun n p =>
      if p.kind = 1 then n + (if Leaf.onLine ⟨p, p.ref, ox + p.x, oy + p.y⟩ j ns y then 1 else 0)
      else if p.kind = 2 then
        match binds.find? fun b => b.1 == p.slot + i * p.stride with
        | some b => n + (if Leaf.onLine ⟨p, b.2, ox + p.x, oy + p.y⟩ j ns y then 1 else 0)
        | none => n
      else
        match j.group ns p.group with
        | none => n
        | some g =>
          (List.range g.ny).foldl (fun n iy => (List.range g.nx).foldl (fun n ix =>
            let c := walkerCycles j ns binds y fuel (ox + p.x + ((ix * g.dx : Nat) : Int)) (oy + p.y + ((iy * g.dy : Nat) : Int)) (i * (g.nx * g.ny) + (iy * g.nx + ix)) g.items
            if c = 0 then n else n + c + 1) n) n) 0

/-- The walker's cycles on a line of a page. -/
def Page.walkerCycles (p : Page) (j : Jobs) (y : Nat) : Nat := Machine.walkerCycles j p.ns p.binds y 5 0 0 0 p.items

/-- Source position (a, b) of the rectangle's pixel (u, v) (R82). -/
def orientMap (code : Nat) (w h u v : Int) : Int × Int :=
  match code with
  | 0 => (u, v)
  | 1 => (v, h - 1 - u)
  | 2 => (w - 1 - u, h - 1 - v)
  | 3 => (w - 1 - v, u)
  | 4 => (w - 1 - u, v)
  | 5 => (v, u)
  | 6 => (u, h - 1 - v)
  | _ => (w - 1 - v, h - 1 - u)

/-- The plane that channel c goes to (R78), 15 for none. -/
def Placement.plane (p : Placement) (c : Nat) : Nat := field p.map (4 * c) 4
/-- The channel mapped to a plane. -/
def Placement.channel (p : Placement) (plane : Nat) : Option Nat := (List.range 8).find? fun c => p.plane c == plane

/-! ## Definition checks (R87) -/

/-- A placement reached by a page, with its body offset (0xFFFF_FFFF inside a group), its level and the instance count of its path. -/
structure Reached where
  pl    : Placement
  off   : Nat
  level : Nat
  count : Nat
  deriving DecidableEq, Repr

/-- All placements a page reaches, once per path through the groups. A group at level 4's own list is not entered; the entry itself is kept for the DEPTH check. -/
def reach (j : Jobs) (ns : Nat) : Nat → Nat → Nat → List (Placement × Nat) → List Reached
  | 0, _, _, _ => []
  | fuel + 1, level, count, items =>
    items.flatMap fun (p, off) =>
      ⟨p, off, level, count⟩ ::
        (if p.kind = 3 ∧ level < 4 then
          match j.group ns p.group with
          | none => []
          | some g => reach j ns fuel (level + 1) (count * (g.nx * g.ny)) (g.items.map fun q => (q, 0xFFFFFFFF))
        else [])

/-- The offset in its entry of a placement's first field out of range (R78, R87 code 7); a kind-3 entry is neutral. -/
def Placement.badField (p : Placement) : Option Nat :=
  if p.kind = 1 then none
  else if p.kind = 2 then (if p.stride ≤ 4095 then none else some 24)
  else if p.kind = 3 then
    [(1, p.orient == 0), (2, p.mode == 0), (3, p.knock == 0), (16, p.mask == 0xFFFFFFFF), (20, p.map == 0xFFFFFFFF)].findSome? fun (o, fits) => if fits then none else some o
  else some 0

/-- The nibbles of a plane map name one plane each, at least one, and none of 8 to 14; all within the object's channels (R87 code 8). -/
def Placement.mapOk (p : Placement) (ch : Nat) : Bool :=
  let used := (List.range 8).filter fun c => p.plane c != 15
  used.all (fun c => decide (p.plane c < 8) && decide (c < ch)) && !used.isEmpty && decide ((used.map p.plane).eraseDups.length = used.length)

/-- Slots that a slot placement uses over `n` instances (R83), as far as they are below 4,096, and whether one is not. -/
def Placement.slots (p : Placement) (n : Nat) : List Nat × Bool :=
  if p.stride = 0 then ([p.slot], false)
  else ((List.range (min n 4096)).filterMap fun i => if p.slot + i * p.stride < 4096 then some (p.slot + i * p.stride) else none,
    decide (p.slot + (n - 1) * p.stride ≥ 4096))

/-- Objects a placement draws on this page. -/
def Reached.objects (r : Reached) (binds : List (Nat × Nat)) : List Nat :=
  if r.pl.kind = 1 then [r.pl.ref]
  else if r.pl.kind = 2 then (r.pl.slots r.count).1.filterMap fun sl => (binds.find? fun b => b.1 == sl).map (·.2)
  else []

/-- Failure of a check: code and body offset (R87, R128). -/
abbrev CheckFail := Nat × Nat

/-- The failure of a code at the first of its failing fields (R128): the lowest body offset. -/
def failAt (code : Nat) (offs : List Nat) : Option CheckFail := offs.min?.map fun o => (code, o)

/-- The body offset of a field of a placement's entry; none applies inside a group (R128). -/
def Reached.field (r : Reached) (o : Nat) : Nat := if r.off = 0xFFFFFFFF then r.off else r.off + o

/-- The failing fields of a code that stand at one offset of their entries. -/
def badAt (code o : Nat) (l : List Reached) (ok : Reached → Bool) : Option CheckFail :=
  failAt code ((l.filter fun r => !ok r).map fun r => r.field o)

/-- A group definition's own checks (R87, codes 1 and 7): body offset of the failing field. `inUse` says a non-final page uses the group. -/
def checkGroup (b : Bytes) (inUse : Bool) : Option CheckFail :=
  let n := leAt b 2 2
  if inUse then some (1, 0)
  else if leAt b 0 2 > 1023 then some (7, 0)
  else if n = 0 ∨ n > 4096 ∨ b.length < 16 + 32 * n then some (7, 2)
  else if leAt b 4 2 = 0 then some (7, 4)
  else if leAt b 6 2 = 0 then some (7, 6)
  else if leAt b 8 4 > 262143 then some (7, 8)
  else if leAt b 12 4 > 262143 then some (7, 12)
  else failAt 7 ((List.range n).filterMap fun i => (parsePlacement (slice b (16 + 32 * i) 32)).badField.map fun o => 16 + 32 * i + o)

/-- The group a body defines. -/
def parseGroup (ns : Nat) (b : Bytes) : Group :=
  ⟨ns, leAt b 0 2, leAt b 4 2, leAt b 6 2, leAt b 8 4, leAt b 12 4, parsePlacements b 16 (leAt b 2 2), false⟩

/-- Slot bindings of a page body. -/
def parseBinds (b : Bytes) (n m : Nat) : List (Nat × Nat) :=
  (List.range m).map fun i => (leAt b (48 + 32 * n + 8 * i) 2, leAt b (48 + 32 * n + 8 * i + 4) 4)

/-- Most leaf instances on one line after clipping (R76, R86): the count at some instance's first line inside the page is the largest. -/
def worstLine (j : Jobs) (ns : Nat) (ls : List Leaf) (len : Nat) : Nat :=
  let spans := ls.filterMap fun l =>
    let y0 := max l.y 0
    let y1 := min (l.y + (l.dim j ns).2) (len : Int)
    if y0 < y1 ∧ l.inColumns j ns then some (y0, y1) else none
  spans.foldl (fun m sp => max m (spans.countP fun q => decide (q.1 ≤ sp.1) && decide (sp.1 < q.2))) 0

/-- Header fields of a page body out of range (R79, R87 code 7): their offsets. -/
def pageHeadBad (b : Bytes) : List Nat :=
  [(8, decide (leAt b 8 1 ≤ 1)), (10, decide (leAt b 10 2 ≤ 4096)), (12, leAt b 12 4 != 0), (16, leAt b 8 1 != 0 || decide (leAt b 16 8 ≤ 1048575)),
   (24, decide (leAt b 24 4 ≤ 1048575)), (28, decide (leAt b 28 2 ≤ 4096))].filterMap fun (o, fits) => if fits then none else some o

/-- The checks of a page definition, in the order of R87: the first that fails, at its first failing field (R128). A binding that no instance uses is ignored.
A body that ends before the entries its counts announce has a count out of range: FIELD, since there are no such entries to check. `idInUse` and `full` are codes 1 and 12. -/
def checkPage (j : Jobs) (ns : Nat) (b : Bytes) (idInUse full : Bool) : Option CheckFail :=
  let n := leAt b 10 2
  let m := leAt b 28 2
  let items := parsePlacements b 48 n
  let binds := parseBinds b n m
  let all := reach j ns 6 0 1 ((List.zip (List.range n) items).map fun (i, p) => (p, 48 + 32 * i))
  let leafs := all.filter fun r => r.pl.kind != 3
  let good := fun id => match j.obj ns id with | some o => o.complete && !o.orphan | none => false
  let objOf := fun (r : Reached) => (r.objects binds).filterMap fun id => j.obj ns id
  let maskOk := fun (r : Reached) => r.pl.mask == 0xFFFFFFFF ||
    match j.obj ns r.pl.mask with
    | none => false
    | some mo => mo.ch == 1 && (objOf r).all fun o => mo.dim == o.dim
  let total : Nat := leafs.foldl (fun t r => t + r.count) 0
  let bindOff := fun (i : Nat) => 48 + 32 * n + 8 * i
  let absent := leafs.flatMap fun r =>
    (if (r.objects binds).all good then []
     else if r.pl.kind = 1 then [r.field 12]
     else (r.pl.slots r.count).1.filterMap fun sl => (binds.findIdx? fun bd => bd.1 == sl && !good bd.2).map fun i => bindOff i + 4)
    ++ (if r.pl.mask == 0xFFFFFFFF || good r.pl.mask then [] else [r.field 16])
  if idInUse then some (1, 0)
  else if leAt b 4 4 = 0 ∨ leAt b 4 4 > 262144 then some (2, 4)
  else if b.length < 48 + 32 * n + 8 * m then failAt 7 (pageHeadBad b)
  else
    failAt 3 absent <|>
    (badAt 4 12 all fun r => r.pl.kind != 3 || (j.group ns r.pl.group).isSome) <|>
    (badAt 5 12 leafs fun r => r.pl.kind != 2 ||
      (!(r.pl.slots r.count).2 && (r.pl.slots r.count).1.all fun sl => binds.any fun bd => bd.1 == sl)) <|>
    (badAt 6 12 all fun r => r.pl.kind != 3 || decide (r.level < 4)) <|>
    failAt 7 (pageHeadBad b ++ ((all.filter fun r => r.off != 0xFFFFFFFF).filterMap fun r => r.pl.badField.map r.field)
      ++ ((List.range m).filter fun i => decide (leAt b (bindOff i) 2 ≥ 4096)).map bindOff) <|>
    (badAt 8 20 leafs fun r => (objOf r).all fun o => r.pl.mapOk o.ch) <|>
    (badAt 9 16 leafs maskOk) <|>
    (if total > 16777216 ∨ worstLine j ns (expand j ns binds 5 0 0 0 items) (leAt b 4 4) > 4096 then some (10, 0xFFFFFFFF) else none) <|>
    failAt 11 (((List.range m).filter fun i => ((binds.take i).map (·.1)).contains (leAt b (bindOff i) 2)).map bindOff) <|>
    (if full then some (12, 0xFFFFFFFF) else none)

end Sys2Proof.Machine
end

