-- ==== Sys2Proof/Machine/Wire.lean ====
section
/-! DEFINITION. Blocks of the head and seam links, the scrambler (R244, R245, R432) and the PRBS31 pattern (R269).
A lane's bits leave as whole 66-bit blocks: nine bytes each, the sync header (1 control, 2 data: H0 in bit 0, H1 in bit 1) and the eight scrambled payload bytes. -/

namespace Sys2Proof.Machine

/-! ## Scrambler (R245) -/

/-- The 58 payload bits last transmitted on a lane, the oldest in bit 0. -/
abbrev History := BitVec 58

/-- What every transmit scrambler holds at a bring-up start. -/
def History.seed : History := BitVec.allOnes 58

/-- The bits that x^58 + x^39 + 1 adds to the next eight: for the k-th of them those sent 58 and 39 bits before it. -/
def History.key (h : History) : Byte := h.extractLsb' 0 8 ^^^ h.extractLsb' 19 8

/-- The history after eight more transmitted bits. -/
def History.next (h : History) (o : Byte) : History := o ++ h.extractLsb' 8 50

/-- Scrambles payload bytes, least significant bit first: the history after them and what is transmitted. -/
def scramble (h : History) : Bytes → History × Bytes
  | [] => (h, [])
  | i :: rest =>
    let o := i ^^^ h.key
    let r := scramble (h.next o) rest
    (r.1, o :: r.2)

/-- Recovers payload bytes at a receiver. -/
def descramble (h : History) : Bytes → History × Bytes
  | [] => (h, [])
  | o :: rest =>
    let r := descramble (h.next o) rest
    (r.1, (o ^^^ h.key) :: r.2)

/-! ## Blocks (R244, R247, R253, R433) -/

/-- A block: control or data, and its payload. -/
abbrev Block := Bool × Bytes

/-- The blocks of a frame: the first is a control block, and so is the last of a LINE (0x33) or SMSG (0xD2) frame; the others are data. -/
def frameBlocks (bs : Bytes) : List Block :=
  let n := bs.length / 8
  let closed := leAt bs 0 1 == 0x33 || leAt bs 0 1 == 0xD2
  (List.range n).map fun i => (i == 0 || (closed && i + 1 == n), slice bs (8 * i) 8)

/-- A block as it leaves: the header unscrambled, the payload scrambled. -/
def wireBlock (h : History) (b : Block) : History × Bytes :=
  let a := scramble h b.2
  (a.1, (if b.1 then 1 else 2) :: a.2)

/-- Blocks as they leave. -/
def wireBlocks (h : History) : List Block → History × Bytes
  | [] => (h, [])
  | b :: rest =>
    let a := wireBlock h b
    let r := wireBlocks a.1 rest
    (r.1, a.2 ++ r.2)

/-- The lane that a channel is, among all lanes: port n lane m is 4·n + m, seam k lane m 64 + 4·k + m. -/
def Chan.lane : Chan → Option Nat
  | .down n m => some (4 * n + m)
  | .seam k m => some (64 + 4 * k + m)
  | _ => none

/-- The channel of a lane number. -/
def laneChan (lane : Nat) : Chan := if lane < 64 then .down (lane / 4) (lane % 4) else .seam ((lane - 64) / 4) (lane % 4)

/-! ## The order on a lane (R255, R434) -/

/-- Class of a frame, lower ones first: FIRE, SAFE and RESUME, SURGENT 0; SPOS and STIME 1; a retransmission 2; a new LINE 3; any other frame 4. -/
def frameClass (bs : Bytes) : Nat :=
  match leAt bs 0 1 with
  | 0x55 | 0xF0 => 0
  | 0x66 => if leAt bs 3 1 = 4 ∨ leAt bs 3 1 = 5 then 0 else 4
  | 0xC3 | 0xCC => 1
  | 0x33 => if bit (leAt bs 1 1) 2 then 2 else 3
  | _ => 4

/-- A lane with nothing to send, at a block time (R242). -/
def LaneOut.idle (tb : Nat) : LaneOut := ⟨History.seed, tb, 0, [], []⟩
/-- A lane that nothing has been sent on, at 5 Gb/s. -/
def LaneOut.fresh : LaneOut := .idle 132

/-- Blocks that a lane has still to send. -/
def LaneOut.left (l : LaneOut) : Nat := l.wait.foldl (fun n f => n + f.2.length) l.rest.length

/-- A frame comes to a lane at a time in 0.1 ns: behind those of its class and of lower ones. A lane with nothing to send is ready at once. -/
def LaneOut.add (l : LaneOut) (now cls : Nat) (blocks : List Block) : LaneOut :=
  { l with next := if l.left = 0 then max l.next now else l.next
           wait := l.wait.takeWhile (fun f => decide (f.1 ≤ cls)) ++ [(cls, blocks)] ++ l.wait.dropWhile fun f => decide (f.1 ≤ cls) }

/-- The next block: classes 0 and 1 stand between any two blocks, every other frame is sent whole. -/
def LaneOut.pick (l : LaneOut) : Option (Block × LaneOut) :=
  match l.wait, l.rest with
  | (c, b :: bs) :: fs, [] => some (b, { l with rest := bs, wait := fs })
  | (c, b :: bs) :: fs, r :: rs => if c ≤ 1 then some (b, { l with wait := if bs.isEmpty then fs else (c, bs) :: fs }) else some (r, { l with rest := rs })
  | (_, []) :: fs, rs => match rs with | r :: rs => some (r, { l with rest := rs, wait := fs }) | [] => none
  | [], r :: rs => some (r, { l with rest := rs })
  | [], [] => none

/-- Sends the blocks that begin by a time, one after the other, newest first in the list of what was sent. -/
def LaneOut.run (c : Chan) (now : Nat) : Nat → LaneOut → List Tx → LaneOut × List Tx
  | 0, l, tx => (l, tx)
  | n + 1, l, tx =>
    if now < l.next then (l, tx)
    else match l.pick with
      | none => (l, tx)
      | some (b, l1) =>
        let a := wireBlock l.sent b
        LaneOut.run c now n { l1 with sent := a.1, next := l.next + l.tb } (⟨c, a.2⟩ :: tx)

/-- What a lane sends up to a time in ns. -/
def LaneOut.upTo (l : LaneOut) (c : Chan) (ns : Nat) (tx : List Tx) : LaneOut × List Tx := LaneOut.run c (10 * ns) (l.left + 1) l tx

/-- Every lane sends what begins by a time in ns. -/
def runLanes (ns : Nat) (wire : Sparse LaneOut) (tx : List Tx) : Sparse LaneOut × List Tx :=
  wire.foldr (fun e a => let r := e.2.upTo (laneChan e.1) ns a.2; ((e.1, r.1) :: a.1, r.2)) ([], tx)

/-! ## PRBS31 (R269) -/

/-- Bits of x^31 + x^28 + 1, least significant first: `h` holds the last 31, the oldest in bit 0. -/
def prbs31 (h : BitVec 31) : Nat → List Bool
  | 0 => []
  | n + 1 =>
    let b := h.getLsbD 0 ^^ h.getLsbD 3
    b :: prbs31 (BitVec.ofBool b ++ h.extractLsb' 1 30) n

/-- A data block with a PRBS31 payload, from a generator in a given state. -/
def prbsPayload (h : BitVec 31) : Bytes :=
  let bits := prbs31 h 64
  (List.range 8).map fun k => BitVec.ofNat 8 ((List.range 8).foldl (fun v i => v + if bits.getD (8 * k + i) false then 2 ^ i else 0) 0)

end Sys2Proof.Machine
end

