-- ==== Sys2Proof/Machine/Ops.lean ====
section
/-! DEFINITION. Named operations over the state: object values, the ready map, raising an event, free values, sending, descriptors, time stamps. -/

namespace Sys2Proof.Machine

/-! ## Object values -/

/-- Value of a scalar object by key. -/
def State.get (s : State) (key : Nat) : Nat := if inEv (key / 256) then s.ev.bank.get key else s.main.get key

/-- Sets a scalar object by key (R36: in one step). -/
def State.put (s : State) (key v : Nat) : State :=
  if inEv (key / 256) then { s with ev := { s.ev with bank := s.ev.bank.put key v } } else { s with main := s.main.put key v }

/-- Value of a scalar object. -/
def State.reg (s : State) (idx sub : Nat) : Nat := s.get (obj idx sub)
/-- Sets a scalar object. -/
def State.set (s : State) (idx sub v : Nat) : State := s.put (obj idx sub) v
/-- A BOOL object. -/
def State.flag (s : State) (idx sub : Nat) : Bool := s.reg idx sub == 1
/-- An I64 object. -/
def State.i64 (s : State) (idx sub : Nat) : Int := toSigned 64 (s.reg idx sub)
/-- Sets an I64 object. -/
def State.setI64 (s : State) (idx sub : Nat) (v : Int) : State := s.set idx sub (ofSigned 64 v)
/-- An I32 object. -/
def State.i32 (s : State) (idx sub : Nat) : Int := toSigned 32 (s.reg idx sub)
/-- Adds to a count that saturates at 32 bits. -/
def State.bump (s : State) (idx sub : Nat) : State := s.set idx sub (satAdd 32 (s.reg idx sub) 1)
/-- Adds to a count that wraps at `w` bits. -/
def State.count (s : State) (idx sub w n : Nat) : State := s.set idx sub (wrapAdd w (s.reg idx sub) n)

/-- Bytes of a DOMAIN object. -/
def State.bytes (s : State) (idx sub off n : Nat) : Bytes :=
  if inEv idx then s.ev.bank.read (objAddr idx sub off) n else s.main.read (objAddr idx sub off) n

/-- Writes bytes of a DOMAIN object. -/
def State.setBytes (s : State) (idx sub off : Nat) (bs : Bytes) : State :=
  if inEv idx then { s with ev := { s.ev with bank := s.ev.bank.write (objAddr idx sub off) bs } }
  else { s with main := s.main.write (objAddr idx sub off) bs }

/-- Little-endian value of bytes of a DOMAIN object. -/
def State.le (s : State) (idx sub off n : Nat) : Nat := leVal (s.bytes idx sub off n)

/-! ## Time, events, output -/

/-- Time epoch in force (0x1000:02). -/
def State.epoch (s : State) : Nat := s.reg 0x1000 2

/-- The epoch of a stamp taken at t (R296): the one in force at the start of that cycle, since a rebase takes effect at the end of its own. -/
def State.epochAt (s : State) (t : Nat) : Nat := if s.epoch = 0 ∨ s.le 0x1001 0 8 8 < t then s.epoch else s.le 0x1001 0 24 2
/-- The epoch of a stamp taken now. -/
def State.stampEpoch (s : State) : Nat := s.epochAt s.clk.now

/-- Native stamp, epoch and wrap count as they stand in descriptors and records (R63): U32, U16, U16. -/
def State.stampOf (s : State) (t : Nat) : Bytes := leBytes 4 t ++ leBytes 2 (s.epochAt t) ++ leBytes 2 (t / 2 ^ 32)
/-- The stamp of the present time. -/
def State.stamp (s : State) : Bytes := s.stampOf s.clk.now

/-- An occurrence of an event source with a severity and a detail field (R61, R367). It is delivered and collected at the end of the step. -/
def State.raise (s : State) (src sev detail : Nat) : State :=
  { s with ev := s.ev.raise (Occ.plain src sev (detail % 2 ^ 64) s.clk.now s.stampEpoch) }

/-- An occurrence that says for its fault record who saw it, how, on which page and where (R371). -/
def State.raiseAt (s : State) (src sev detail master access page addr : Nat) : State :=
  { s with ev := s.ev.raise { Occ.plain src sev (detail % 2 ^ 64) s.clk.now s.stampEpoch with
      master := master, access := access, page := page, addr := addr } }

/-- Puts a stream of blocks out on a lane of a link that sends nothing else, scrambled in the lane's own scrambler (R244, R245). -/
def State.sendBlocks (s : State) (c : Chan) (lane : Nat) (blocks : List Block) : State :=
  let l := sget LaneOut.fresh s.wire lane
  let r := wireBlocks l.sent blocks
  { s with wire := sset LaneOut.fresh s.wire lane { l with sent := r.1, next := max l.next (10 * s.clk.now) + blocks.length * l.tb }, tx := ⟨c, r.2⟩ :: s.tx }

/-- Sends on a channel: a frame of the head and seam links comes to its lane, which sends what is due in the order of R255; anything else leaves as its bytes. -/
def State.send (s : State) (c : Chan) (bs : Bytes) : State :=
  match c.lane with
  | some lane =>
    let r := ((sget LaneOut.fresh s.wire lane).add (10 * s.clk.now) (frameClass bs) (frameBlocks bs)).upTo c s.clk.now s.tx
    { s with wire := sset LaneOut.fresh s.wire lane r.1, tx := r.2 }
  | none => { s with tx := ⟨c, bs⟩ :: s.tx }

/-- Takes the next free value's number (log entry 2). -/
def State.fresh (s : State) : Nat × State := (s.free, { s with free := s.free + 1 })

/-! ## Ready map (R42) -/

/-- A function is ready. -/
def State.ready (s : State) (i : Nat) : Bool := bit (s.reg 0x0020 0) i

/-- Sets or clears a bit of the ready map; a change raises E002 with the new map. -/
def State.setReady (s : State) (i : Nat) (b : Bool) : State :=
  if s.ready i = b then s
  else
    let m := setBit (s.reg 0x0020 0) i b
    (s.set 0x0020 0 m).raise 2 0 m

/-- FOP answers (R49). -/
def State.fopUp (s : State) : Bool := s.ready 0

/-! ## Descriptors and rings (R68 to R71) -/

/-- A descriptor of 32 bytes. -/
def descriptor (ty flags q seq p0 p1 p2 : Nat) : Bytes :=
  leBytes 1 ty ++ leBytes 1 flags ++ leBytes 2 q ++ leBytes 4 seq ++ leBytes 8 p0 ++ leBytes 8 p1 ++ leBytes 4 p2 ++ zeros 4

/-- A device producer writes a descriptor into ring q; the Bool says whether it was written (R69, R70). -/
def State.ringPut (s : State) (q ty p0 p1 p2 : Nat) : State × Bool :=
  let (ev, ok) := s.ev.ringPut s.clk.now s.stampEpoch q fun seq => descriptor ty 0 q seq p0 p1 p2
  ({ s with ev := ev }, ok)

/-- As `ringPut`, the outcome not used. -/
def State.ringWrite (s : State) (q ty p0 p1 p2 : Nat) : State := (s.ringPut q ty p0 p1 p2).1

/-! ## Lists -/

/-- Replaces the elements a test picks. -/
def updWhere {α : Type} (l : List α) (p : α → Bool) (f : α → α) : List α := l.map fun x => if p x then f x else x

/-- The numbers below n. -/
def upTo (n : Nat) : List Nat := List.range n

/-! ## The safe state and the board -/

/-- The safe state holds (R375). -/
def State.safe (s : State) : Bool := s.ev.safe
/-- The state of the device lets SC firmware work: running or booting. -/
def State.running (s : State) : Bool := s.boot.phase == .run
/-- SC firmware works, and component c of the firmware is loaded (R414). -/
def State.loaded (s : State) (c : Nat) : Bool := (s.boot.phase == .boot || s.boot.phase == .run) && s.reg 0x8001 c != 0
/-- Member count n of the board (R430). -/
def State.members (s : State) : Nat := s.reg 0x8800 3
/-- The device stands on a board of more than one member. -/
def State.onBoard (s : State) : Bool := decide (1 < s.members)
/-- The device is board master. -/
def State.isMaster (s : State) : Bool := s.reg 0x8800 2 == s.reg 0x8800 4
/-- The pins follow their functions (R461): not in reset, in ROM recovery, in KEEP or in DEEP. -/
def State.pinsLive (s : State) : Bool := s.boot.phase == .boot || s.boot.phase == .run
/-- FAULT_N is high (R461, R468). -/
def State.faultN (s : State) : Bool := s.pinsLive && s.ev.started && !s.safe

/-- READY pin (R42, R461): every bit of the mask set in the map; with a mask of 0, high once boot completed. -/
def State.readyPin (s : State) : Bool :=
  let m := s.reg 0x0022 0
  if !s.pinsLive then false
  else if m = 0 then s.running else (upTo 64).all fun i => !bit m i || s.ready i

/-- IRQp pin (R62, R64, R461). -/
def State.irqPin (s : State) (p : Nat) : Bool := s.pinsLive && s.ev.irqPin p
/-- SPOIL_N is high (R209, R461). -/
def State.spoilN (s : State) : Bool := !(s.pinsLive && s.store.spoil.low)
/-- SLOW_N is high (R229, R461). -/
def State.slowN (s : State) : Bool := !(s.pinsLive && s.fire.slow)
/-- FNp_PHYRST_N and DPp_RESET_N are high (R461): neither in reset, nor held by TEST_EN, nor without supply. -/
def State.phyRstN (s : State) : Bool := !(s.boot.phase == .held || s.boot.phase == .testHold || s.boot.phase == .deep)

end Sys2Proof.Machine
end

