-- ==== Sys2Proof/Machine/Msp.lean ====
section
/-! DEFINITION. MSP on the wire (R104 to R109), completions and credit (R113 to R116): packets, records, what stands in a completion ring. -/

namespace Sys2Proof.Machine

/-- Session number of an open (or closing) session. -/
def State.sess (s : State) (n : Nat) : Option Session := sfind n s.msp.sessions

/-- Changes a session. -/
def State.updSess (s : State) (n : Nat) (f : Session → Session) : State :=
  match s.sess n with
  | none => s
  | some x => { s with msp := { s.msp with sessions := sinsert n (f x) s.msp.sessions } }

/-- The open session that owns a namespace. -/
def State.sessOfNs (s : State) (ns : Nat) : Option (Nat × Session) :=
  s.msp.sessions.find? fun e => e.2.ns == ns && e.2.st == 1

/-- Largest packet (R104). -/
def State.pMax (s : State) : Nat := if s.reg 0x5000 5 = 9000 then 8952 else 1452

/-- Link state of a host port (0x5000:03, :04). -/
def State.heState (s : State) (he : Nat) : Nat := s.reg 0x5000 (3 + he)
/-- A host port is up. -/
def State.heUp (s : State) (he : Nat) : Bool := decide (3 ≤ s.heState he)

/-! ## Packets and records (R105, R106) -/

/-- Body padded with zeros to a multiple of 4. -/
def pad4 (b : Bytes) : Bytes := b ++ zeros ((4 - b.length % 4) % 4)

/-- A record (R106). -/
def mspRecord (ty num : Nat) (body : Bytes) : Bytes :=
  let b := pad4 body
  let r := leBytes 1 ty ++ [0] ++ leBytes 2 (20 + b.length) ++ leBytes 4 num ++ zeros 8 ++ b
  r ++ leBytes 4 (crc32c r)

/-- A packet (R105). -/
def mspPacket (flags sess count token psn ack sack credit : Nat) (recs : Bytes) : Bytes :=
  let h := leBytes 2 0x534D ++ [1] ++ leBytes 1 flags ++ leBytes 1 sess ++ leBytes 1 count ++ zeros 2 ++ leBytes 4 token
    ++ leBytes 4 psn ++ leBytes 4 ack ++ leBytes 4 sack ++ leBytes 4 credit ++ zeros 8
  h ++ leBytes 4 (crc32c h) ++ recs

/-- A record read off a packet. -/
structure MspRec where
  ty   : Nat
  more : Bool
  num  : Nat
  body : Bytes
  deriving DecidableEq, Repr

/-- The records that fill a payload exactly, each with a sound length and CRC; none if one does not (R106, R107). -/
def parseRecords : Nat → Bytes → Option (List MspRec)
  | 0, b => if b.isEmpty then some [] else none
  | fuel + 1, b =>
    if b.isEmpty then some []
    else
      let n := leAt b 2 2
      if n < 20 ∨ n % 4 ≠ 0 ∨ b.length < n then none
      else if crc32c (b.take (n - 4)) ≠ leAt b (n - 4) 4 then none
      else (parseRecords fuel (b.drop n)).map fun rs =>
        ⟨leAt b 0 1, bit (leAt b 1 1) 0, leAt b 4 4, slice b 16 (n - 20)⟩ :: rs

/-- SACK bits of a session: bit i is set when Ack + 1 + i was received (R105). -/
def Session.sack (x : Session) : Nat :=
  (upTo 32).foldl (fun m i => if x.held.any fun h => h.1 == wrapAdd 32 x.rxNext (1 + i) then m + 2 ^ i else m) 0

/-- Sends a packet to the host of a session, unless its host port is down (R130). Every packet carries Ack, SACK and Credit limit (R112). -/
def State.sendToHost (s : State) (n : Nat) (flags count psn : Nat) (recs : Bytes) : State :=
  match s.sess n with
  | none => s
  | some x =>
    if !s.heUp x.peer.he then s
    else
      (s.send (.host x.peer.he x.peer.peer) (mspPacket flags n count x.token psn x.rxNext x.sack x.credit recs)).updSess n fun y =>
        { y with accepted := 0, ackDue := none, quiet := s.clk.now }

/-- An ack-only packet: its PSN field holds the next PSN (R110). -/
def State.ackOnly (s : State) (n : Nat) : State :=
  match s.sess n with
  | none => s
  | some x => s.sendToHost n 0 0 x.txNext []

/-! ## Completions (R113 to R116) -/

/-- Completion-ring slots held reserved for session n. -/
def State.reserved (s : State) (n : Nat) : Nat := sget 0 s.ev.resv n
/-- Changes the number of reserved slots. -/
def State.setReserved (s : State) (n v : Nat) : State := { s with ev := { s.ev with resv := sset 0 s.ev.resv n v } }
/-- Free slots of session n's completion ring that nothing holds reserved. -/
def State.unreserved (s : State) (n : Nat) : Nat := Ring.unreserved s.ev (64 + n)

/-- Writes a completion into Q(64 + n); the caller has a slot. Its number is the ring index + 1; its body stays with the session until the host acknowledges it. -/
def State.putCompletion (s : State) (n ty : Nat) (body : Bytes) : State :=
  let q := 64 + n
  let i := s.ev.bank.get (qObj q 2)
  let (k, s1) := s.fresh
  let addr := Config.choice k
  let s2 := s1.ringWrite q 0x11 (wrapAdd 32 i 1 + ty * 2 ^ 32) addr body.length
  s2.updSess n fun x => { x with bodies := sinsert i body x.bodies }

/-- A completion that takes a reserved slot: REPLY, final PAGE_EVENT of a rendered page. -/
def State.completeReserved (s : State) (n ty : Nat) (body : Bytes) : State :=
  (s.setReserved n (s.reserved n - 1)).putCompletion n ty body

/-- A completion that takes a free unreserved slot, if there is one (R114). -/
def State.completeFree (s : State) (n ty : Nat) (body : Bytes) : State × Bool :=
  if Ring.active s.ev (64 + n) && decide (0 < s.unreserved n) then (s.putCompletion n ty body, true) else (s, false)

/-- REPLY body (R128). -/
def replyBody (num ty status detail : Nat) : Bytes :=
  leBytes 4 num ++ leBytes 1 ty ++ [0] ++ leBytes 2 status ++ leBytes 8 detail ++ zeros 8

/-- The REPLY of a request of session n: it also counts the request as executed. -/
def State.reply (s : State) (n : Nat) (r : Req) (status detail : Nat) : State :=
  (s.completeReserved n 0x40 (replyBody r.num r.ty status detail)).updSess n fun x =>
    { x with lastExec := r.num, replies := wrapAdd 32 x.replies 1 }

end Sys2Proof.Machine
end

