-- ==== Sys2Proof/Machine/RenderMath.lean ====
section
/-! DEFINITION. What render computes (R164): composition and resampling (R84, R85, R170, R171), tone (R172, R173), screen (R174 to R178), darning (R179, R180), seam (R181), packing and line check (R182, R183), cycles (R193). -/

namespace Sys2Proof.Machine

/-! ## Tables of a generation (R184) -/

/-- Tables by number: 0 tone curves, 1 gain and offset, 2 jet map, 3 darning. -/
def genAddr (t off : Nat) : Nat := t * 2 ^ 24 + off

/-- Bytes of generation 1 after reset (R184): every gain 16,384, every jet UNUSED, all else 0. -/
def dfltGenByte (a : Nat) : Byte :=
  let t := a / 2 ^ 24
  if t = 1 ∧ a % 4 = 1 then 0x40 else if t = 2 ∧ a % 8 = 3 then 0x03 else 0

/-- One byte of a table. -/
def Gen.byte (g : Gen) (a : Nat) : Byte := (sfind a g.bytes).getD (dfltGenByte a)
/-- Writes one byte of a table. -/
def Gen.setByte (g : Gen) (a : Nat) (v : Byte) : Gen :=
  { g with bytes := if v = dfltGenByte a then serase a g.bytes else sinsert a v g.bytes }
/-- Little-endian value of n bytes of a table. -/
def Gen.le (g : Gen) (t off n : Nat) : Nat := leVal ((List.range n).map fun i => g.byte (genAddr t (off + i)))
/-- Writes a little-endian value of n bytes. -/
def Gen.setLe (g : Gen) (t off n v : Nat) : Gen :=
  (List.zip (List.range n) (leBytes n v)).foldl (fun g (i, b) => g.setByte (genAddr t (off + i)) b) g

/-- Jet map entry of jet J. -/
def Gen.jet (g : Gen) (j : Nat) : Nat := g.le 2 (8 * j) 8
/-- State of a jet: 0 LIVE, 1 DEAD, 2 OUT, 3 UNUSED (R179). -/
def Gen.jetState (g : Gen) (j : Nat) : Nat := field (g.jet j) 24 2
/-- Plane of a jet. -/
def Gen.jetPlane (g : Gen) (j : Nat) : Nat := field (g.jet j) 18 3
/-- Column of a jet. -/
def Gen.jetCol (g : Gen) (j : Nat) : Nat := field (g.jet j) 0 18
/-- Darning entry i. -/
def Gen.darning (g : Gen) (i : Nat) : Nat := g.le 3 (8 * i) 8
/-- Darning entries in use. -/
def Gen.darnings (g : Gen) : List Nat := (List.range g.darn).map g.darning

/-- Jets of the device. -/
def allJets : List Nat := List.range 262144
/-- Jets of a strip (R8). -/
def stripJets (k : Nat) : List Nat := (List.range 8192).map fun i => 8192 * k + i

/-- Inserts a jet into a list ordered by column. -/
def insertCol (x : Nat × Nat) : List (Nat × Nat) → List (Nat × Nat)
  | [] => [x]
  | y :: ys => if x.1 < y.1 then x :: y :: ys else y :: insertCol x ys

/-- The jets of a plane, as (column, jet) in ascending column (R178). -/
def Gen.planeOrder (g : Gen) (plane : Nat) (jets : List Nat) : List (Nat × Nat) :=
  (jets.filter fun j => g.jetState j != 3 && g.jetPlane j == plane).foldl (fun acc j => insertCol (g.jetCol j, j) acc) []

/-- The pre-roll of a plane in a strip (R178): the Np jets of the plane just before the strip's first, in column order. -/
def Gen.preRoll (g : Gen) (plane np : Nat) (strip : Nat) : List (Nat × Nat) :=
  match g.planeOrder plane (stripJets strip) with
  | [] => []
  | first :: _ =>
    let before := (g.planeOrder plane allJets).filter fun q => decide (q.1 < first.1)
    before.drop (before.length - np)

/-! ## Composition (R84, R85, R170, R171) -/

/-- The planes of samples of a tile of an object, decoded from its block; none if it does not decode. -/
def StashObj.samples (o : StashObj) (i : Nat) : Option (List (List Nat)) :=
  let (w, h) := o.tileDim i
  match Qtc.decode w h o.ch o.depth (sget Tile.none o.tiles i).block with
  | .inl _ => none
  | .inr p => some p

/-- A sample scaled to 16 bits (R84). -/
def StashObj.sample (o : StashObj) (c i j : Nat) : Nat :=
  let t := j / o.th * o.tilesX + i / o.tw
  let v := match o.samples t with
    | none => 0
    | some pls => (pls.getD c []).getD (j % o.th * (o.tileDim t).1 + i % o.tw) 0
  if o.depth = 8 then v * 257 else v

/-- Position of a bilinear sample in one direction (R171): index, next index, fraction in eighths. -/
def eighths (a sx n : Nat) : Nat × Nat × Nat :=
  let q : Int := ((8 * a + 4) / sx : Nat) - 4
  let i := q / 8
  ((clampInt 0 (n - 1 : Nat) i).toNat, (clampInt 0 (n - 1 : Nat) (i + 1)).toNat, (q % 8).toNat)

/-- The upscaled sample of channel c at (a, b) (R171). -/
def StashObj.upscaled (o : StashObj) (c a b : Nat) : Nat :=
  if o.bilinear then
    let (i, i1, fx) := eighths a o.sx o.w
    let (j, j1, fy) := eighths b o.sy o.h
    ((8 - fx) * (8 - fy) * o.sample c i j + fx * (8 - fy) * o.sample c i1 j
      + (8 - fx) * fy * o.sample c i j1 + fx * fy * o.sample c i1 j1 + 32) / 64
  else o.sample c (a / o.sx) (b / o.sy)

/-- The mask lets (a, b) through (R85). -/
def maskOn (j : Jobs) (ns mask a b : Nat) : Bool :=
  mask == 0xFFFFFFFF ||
    match j.obj ns mask with
    | none => false
    | some m => decide (m.sample 0 (a / m.sx) (b / m.sy) ≥ (if m.depth = 8 then 0x80 * 257 else 0x8000))

/-- Composition of a sample (R84). -/
def compose (mode d s : Nat) : Nat :=
  match mode with
  | 0 => s
  | 1 => max d s
  | 2 => min d s
  | _ => min (d + s) 65535

/-- One leaf instance over the value of a plane at (x, y) (R85, R170). -/
def layer (j : Jobs) (ns plane : Nat) (x y : Int) (d : Nat) (l : Leaf) : Nat :=
  match j.obj ns l.obj with
  | none => d
  | some o =>
    let (rw, rh) := l.dim j ns
    let u := x - l.x
    let v := y - l.y
    if u < 0 ∨ v < 0 ∨ u ≥ rw ∨ v ≥ rh then d
    else
      let (w, h) := o.dim
      let (a, b) := orientMap l.pl.orient w h u v
      if maskOn j ns l.pl.mask a.toNat b.toNat then
        let d1 := if bit l.pl.knock plane then 0 else d
        match l.pl.channel plane with
        | some c => compose l.pl.mode d1 (o.upscaled c a.toNat b.toNat)
        | none => d1
      else d

/-- What render reads beside the generation (R164): page data, the screen and render objects. -/
structure Inputs where
  jobs   : Jobs
  ns     : Nat
  bg     : List Nat
  leaves : List Leaf
  gen    : Gen
  bank   : Bank
  deriving DecidableEq, Repr

/-- The composed value of a plane at (x, y) (R170). -/
def Inputs.value (r : Inputs) (plane x y : Nat) : Nat :=
  r.leaves.foldl (layer r.jobs r.ns plane x y) (r.bg.getD plane 0)

/-- Tone, gain and offset of a jet over a plane value (R172, R173). -/
def Inputs.tone (r : Inputs) (jet v : Nat) : Nat :=
  let cls := field (r.gen.jet jet) 32 12
  let p := fun i => r.gen.le 0 (512 * cls + 2 * min i 255) 2
  let i := v / 256
  let t : Int := (p i : Int) + (((p (i + 1) : Int) - p i) * ((v % 256 : Nat) : Int) + 128) / 256
  let g := r.gen.le 1 (4 * jet) 2
  let o := toSigned 16 (r.gen.le 1 (4 * jet + 2) 2)
  if r.bank.get (obj 0x4001 2) = 1 ∧ v = 0 then 0
  else (clampInt 0 4095 ((t * g + 8192) / 16384 + o)).toNat

/-- Ys of R174 for a jet on a line. -/
def Inputs.ys (r : Inputs) (jet col plane y : Nat) : Nat := r.tone jet (r.value plane col y) * 3841 / 256

/-- Screen object of a plane. -/
def Inputs.scr (r : Inputs) (plane sub : Nat) : Nat := r.bank.get (obj (0x4030 + plane) sub)

/-- Threshold method (R175). -/
def Inputs.threshold (r : Inputs) (plane x y ys : Nat) : Nat :=
  let base := ys / 4096
  let wt := 2 ^ r.scr plane 5
  let ht := 2 ^ r.scr plane 6
  let idx := r.scr plane 4 + (y + r.scr plane 8) % ht * wt + (x + r.scr plane 7) % wt
  let t := leVal (r.bank.read (objAddr 0x4038 0 (2 * idx)) 2) % 4096
  if base = 15 then 15 else if ys % 4096 > t then base + 1 else base

/-- Kernel positions other than (+1, 0), with weights (R177): (step, line step, weight). -/
def kernel (k : Nat) : List (Int × Nat × Nat) :=
  match k with
  | 0 => [(-1, 1, 3), (0, 1, 5), (1, 1, 1)]
  | 1 => [(2, 0, 2), (-2, 1, 1), (-1, 1, 2), (0, 1, 4), (1, 1, 2), (2, 1, 1)]
  | _ => [(0, 1, 8)]

/-- Adds to an entry of a list of errors; outside the list the share is discarded (R178). -/
def addErr (l : List Int) (i v : Int) : List Int :=
  if i < 0 then l else l.modify i.toNat (· + v)

/-- One jet of an error-diffusion line (R176): errors of this line, errors of the next, doses so far newest first, position. -/
def edJet (k : Nat) (st : List Int × List Int × List Nat × Nat) (ys : Nat) : List Int × List Int × List Nat × Nat :=
  let (cur, nxt, ds, i) := st
  let w : Int := ys + clampInt (-32768) 32767 (cur.getD i 0)
  let d := clampInt 0 15 ((w + 2048) / 4096)
  let err := w - 4096 * d
  let shares := (kernel k).map fun (dx, dy, wt) => (dx, dy, err * wt / 16)
  let rest := err - shares.foldl (fun t q => t + q.2.2) 0
  let cur1 := addErr cur (i + 1 : Nat) rest
  let (cur2, nxt2) := shares.foldl (fun (c, n) (dx, dy, v) =>
    if dy = 0 then (addErr c ((i : Int) + dx) v, n) else (c, addErr n ((i : Int) + dx) v)) (cur1, nxt)
  (cur2, nxt2, d.toNat :: ds, i + 1)

/-- One line of error diffusion: doses in order, errors of the next line. -/
def edLine (k : Nat) (errs : List Int) (ys : List Nat) : List Nat × List Int :=
  let (_, nxt, ds, _) := ys.foldl (edJet k) (errs, List.replicate ys.length 0, [], 0)
  (ds.reverse, nxt)

/-- Errors stored for line n of an error-diffusion plane in a strip, from line 0 on (R178). -/
def Inputs.edErrors (r : Inputs) (plane : Nat) (order : List (Nat × Nat)) : Nat → List Int
  | 0 => List.replicate order.length 0
  | n + 1 => (edLine (r.scr plane 2) (r.edErrors plane order n) (order.map fun (x, j) => r.ys j x plane n)).2

/-- Screened doses (R174 to R178) of a strip on line y, as (jet, dose), UNUSED jets left out. -/
def Inputs.screened (r : Inputs) (strip y : Nat) : List (Nat × Nat) :=
  (List.range 8).flatMap fun plane =>
    let own := r.gen.planeOrder plane (stripJets strip)
    if r.scr plane 1 = 0 then own.map fun (x, j) => (j, r.threshold plane x y (r.ys j x plane y))
    else
      let pre := r.gen.preRoll plane (r.scr plane 3) strip
      let order := pre ++ own
      let ds := (edLine (r.scr plane 2) (r.edErrors plane order y) (order.map fun (x, j) => r.ys j x plane y)).1
      (List.zip own (ds.drop pre.length)).map fun ((_, j), d) => (j, d)

/-- Screened dose of one jet. -/
def Inputs.screenedJet (r : Inputs) (y jet : Nat) : Nat :=
  ((r.screened (jet / 8192) y).find? fun q => q.1 == jet).elim 0 (·.2)

/-- Seam hash h (R181). -/
def seamHash (x y : Nat) : Nat :=
  let z0 := u32 (x * 0x9E3779B1 + y * 0x85EBCA77)
  let z1 := z0 ^^^ (z0 / 2 ^ 15)
  let z2 := u32 (z1 * 0x2C1B3C6D)
  let z3 := z2 ^^^ (z2 / 2 ^ 12)
  z3 / 2 ^ 24

/-- Seam weighting (R181). -/
def Inputs.seam (r : Inputs) (jet y d : Nat) : Nat :=
  let e := r.gen.jet jet
  let tau := field e 52 8
  let h := seamHash (u32 (field e 0 18 + r.bank.get (obj 0x4001 3))) y
  match field e 48 2 with
  | 1 => if h < tau then d else 0
  | 2 => if h ≥ tau then d else 0
  | _ => d

/-- Adds a jet receives from darning entries (R180). -/
def Inputs.adds (r : Inputs) (y jet : Nat) : Nat :=
  r.gen.darnings.foldl (fun t e =>
    let dd := r.screenedJet y (field e 0 18)
    let sh := (if field e 18 18 = jet then [field e 54 5] else []) ++ (if field e 36 18 = jet then [field e 59 5] else [])
    sh.foldl (fun t s => if s = 0 then t else t + (dd * s + 8) / 16) t) 0

/-- Final dose of a jet on a line (R179 to R181). -/
def Inputs.dose (r : Inputs) (y jet : Nat) : Nat :=
  if r.gen.jetState jet ≠ 0 then 0
  else r.seam jet y (min 15 (r.screenedJet y jet + r.adds y jet))

/-- Port-line n of line y, packed two jets a byte (R182). -/
def Inputs.portLine (r : Inputs) (n y : Nat) : Bytes :=
  (List.range 8192).map fun i =>
    BitVec.ofNat 8 (r.dose y (n * 16384 + 2 * i) + 16 * r.dose y (n * 16384 + 2 * i + 1))

/-- Strips whose screened doses a port-line needs (R180): its own two and those of the dead jets that its jets partner. -/
def Gen.feeders (g : Gen) (n : Nat) : List Nat :=
  [2 * n, 2 * n + 1] ++ (g.darnings.filterMap fun e =>
    if (field e 54 5 ≠ 0 ∧ field e 18 18 / 16384 = n) ∨ (field e 59 5 ≠ 0 ∧ field e 36 18 / 16384 = n)
    then some (field e 0 18 / 8192) else none)

/-- Darning adds that a strip sends to other strips on a line (R180, 0x4000:06). -/
def Gen.crossAdds (g : Gen) (strip : Nat) : Nat :=
  g.darnings.foldl (fun t e =>
    if field e 0 18 / 8192 = strip then
      t + (if field e 54 5 ≠ 0 ∧ field e 18 18 / 8192 ≠ strip then 1 else 0)
        + (if field e 59 5 ≠ 0 ∧ field e 36 18 / 8192 ≠ strip then 1 else 0)
    else t) 0

/-- A darning entry hands a dead jet's dose to a jet of port n. -/
def handsTo (e n : Nat) : Bool := (field e 54 5 != 0 && field e 18 18 / 16384 == n) || (field e 59 5 != 0 && field e 36 18 / 16384 == n)

/-- Jets whose doses port-line n is worked out from (R178, R180): its own, the pre-roll of its strips' error-diffusion planes, and the dead jets whose dose is handed to its own. -/
def Inputs.workedFrom (r : Inputs) (n : Nat) : List Nat :=
  ((List.range 16384).map fun i => n * 16384 + i)
    ++ ([2 * n, 2 * n + 1].flatMap fun k => (List.range 8).flatMap fun pl => if r.scr pl 1 = 1 then (r.gen.preRoll pl (r.scr pl 3) k).map (·.2) else [])
    ++ ((r.gen.darnings.filter fun e => handsTo e n).map fun e => field e 0 18)

/-- The value of a jet's plane on a line, none where zero hold makes its tone 0 unread (R173). -/
def Inputs.toned (r : Inputs) (y j : Nat) : Option Nat :=
  let v := r.value (r.gen.jetPlane j) (r.gen.jetCol j) y
  if r.bank.get (obj 0x4001 2) = 1 ∧ v = 0 then none else some v

/-- The evaluation of a jet on line y uses a word of the tone table (0, by point), of gain and offset (1) or of the jet map (2) (R172, R173, R184); an UNUSED jet uses its jet map word alone. -/
def Inputs.usesWord (r : Inputs) (y j : Nat) (w : Nat × Nat) : Bool :=
  if w.1 = 2 then w.2 == j
  else if r.gen.jetState j = 3 then false
  else if w.1 = 1 then w.2 == j && (r.toned y j).isSome
  else w.1 == 0 && w.2 / 256 == field (r.gen.jet j) 32 12 &&
    match r.toned y j with | some v => w.2 % 256 == v / 256 || w.2 % 256 == min 255 (v / 256 + 1) | none => false

/-- The evaluation of a jet on line y uses a threshold entry (R175): none at the top drop level. -/
def Inputs.usesScreen (r : Inputs) (y j e : Nat) : Bool :=
  let p := r.gen.jetPlane j
  let x := r.gen.jetCol j
  r.gen.jetState j != 3 && r.scr p 1 == 0 &&
    e == r.scr p 4 + (y + r.scr p 8) % 2 ^ r.scr p 6 * 2 ^ r.scr p 5 + (x + r.scr p 7) % 2 ^ r.scr p 5 && r.ys j x p y / 4096 != 15

/-- The port-line uses an uncorrectable table word or screen entry (R183, R189); a darning entry is used by the port-lines that it hands a dose to, and by that of its dead jet. -/
def Inputs.poisoned (r : Inputs) (badScreen : List Nat) (n y : Nat) : Bool :=
  (r.gen.bad.any fun w =>
    if w.1 = 3 then handsTo (r.gen.darning w.2) n || field (r.gen.darning w.2) 0 18 / 16384 == n
    else (r.workedFrom n).any fun j => r.usesWord y j w) ||
  badScreen.any fun e => (r.workedFrom n).any fun j => r.usesScreen y j e

/-- Cycles of one jet's layers (R193); a layer is a span that R170 lists, a knockout alone among them. -/
def Inputs.jetCycles (r : Inputs) (plane x y : Nat) : Nat :=
  let w := r.leaves.foldl (fun t l =>
    let (rw, rh) := l.dim r.jobs r.ns
    if l.x ≤ x ∧ (x : Int) < l.x + rw ∧ l.y ≤ y ∧ (y : Int) < l.y + rh ∧ ((l.pl.channel plane).isSome ∨ bit l.pl.knock plane) then
      t + (match r.jobs.obj r.ns l.obj with | some o => if o.bilinear then 2 else 1 | none => 0) + (if l.pl.mask = 0xFFFFFFFF then 0 else 1)
    else t) 0
  max 1 (ceilDiv w 4)

/-- Cycles of a strip on a line (R193), waits and the walker's shortfall left out. -/
def Inputs.stripCycles (r : Inputs) (strip y : Nat) : Nat :=
  (List.range 8).foldl (fun t plane =>
    let own := r.gen.planeOrder plane (stripJets strip)
    let pre := if r.scr plane 1 = 1 then r.gen.preRoll plane (r.scr plane 3) strip else []
    (pre ++ own).foldl (fun t (x, _) => t + r.jetCycles plane x y) t) (r.gen.crossAdds strip)

/-- Cycles of pipeline k on a line with cluster `out` out of service (4: none): its own strip, and a third of the further strip that it helps with (R165: one line in three). -/
def Inputs.pipeCycles (r : Inputs) (out k y : Nat) : Nat :=
  if k / 8 = out then 0 else r.stripCycles k y + if out < 4 then ceilDiv (r.stripCycles (8 * out + k % 8) y) 3 else 0

/-- Cmax (R192, R193): the largest per-line cycle count of any pipeline over the page, with the walker's shortfall and without waits. -/
def Inputs.cmax (r : Inputs) (p : Page) (out : Nat) : Nat :=
  (List.range p.len).foldl (fun m y => (List.range 32).foldl (fun m k => max m (r.pipeCycles out k y + (p.walkerCycles r.jobs y - 8192))) m) 0

/-- Segments that hold a jet not UNUSED (R21), one bit for each of the 256 segments. -/
def Gen.segments (g : Gen) : Nat :=
  (List.range 256).foldl (fun m s => if (List.range 1024).any fun i => g.jetState (1024 * s + i) != 3 then m + 2 ^ s else m) 0

/-- First line that a re-render of line y0 computes (R166): line 0 if the strip holds jets of an error-diffusion plane, else y0. -/
def Inputs.firstLine (r : Inputs) (strip y0 : Nat) : Nat :=
  if (stripJets strip).any fun j => r.gen.jetState j != 3 && r.scr (r.gen.jetPlane j) 1 == 1 then 0 else y0

/-- Strips that a re-render computes from line 0 (R166): those that hold jets of an error-diffusion plane. -/
def Inputs.wholeStrips (r : Inputs) : List Nat := (List.range 32).filter fun k => r.firstLine k 1 == 0

/-- Lines that a re-render of line y must compute at most (R204, N). -/
def Inputs.linesNeeded (r : Inputs) (y : Nat) : Nat :=
  (List.range 32).foldl (fun m k => max m (y + 1 - r.firstLine k y)) 1

end Sys2Proof.Machine
end

