-- ==== Sys2Proof/Machine/Pages.lean ====
section
/-! DEFINITION. Page records and the print queue (R88 to R99), starts (R96, R202), spoiling and SPOIL_N (R207 to R210), what leaves a FIFO when lines will not fire (R254), messages of the board ring (R433, R442). -/

namespace Sys2Proof.Machine

/-! ## Board ring output (R433, R434) -/

/-- State of seam link k. -/
def State.seamState (s : State) (k : Nat) : Nat := s.reg (0x8820 + k) 6
/-- Ring ports in use: SL0 and SL1, with ring 2 also SL2 and SL3 (R431). -/
def State.ringPorts (s : State) : List Nat := if s.flag 0x8800 5 then [0, 1, 2, 3] else [0, 1]
/-- Ring ports whose link is ACTIVE. -/
def State.seamsUp (s : State) : List Nat := s.ringPorts.filter fun k => s.seamState k == 5

/-- Present map (0x8800:07): members whose SURGENT came within 100 µs, and this device (R450). -/
def State.presentMap (s : State) : Nat :=
  (upTo 8).foldl (fun m d =>
    let h := sget 0 s.board.heard d
    if d = s.reg 0x8800 2 ∨ (d < s.members ∧ h ≠ 0 ∧ s.clk.now ≤ h - 1 + 100000) then m + 2 ^ d else m) 0

/-- Byte 1 of a seam block of this device: origin, no hops, VALID as given. -/
def State.seamByte (s : State) (valid : Bool) : Nat := s.reg 0x8800 2 % 8 + (if valid then 64 else 0)

/-- Sends a block on a lane of each ring port (R434). -/
def State.seamSend (s : State) (lanes : List Nat) (b : Bytes) : State :=
  s.seamsUp.foldl (fun s k => lanes.foldl (fun s l => s.send (.seam k l) b) s) s

/-- The three parts of an SMSG frame (R433). -/
def smsgFrame (byte1 seq kind target user : Nat) (body : Bytes) : Bytes :=
  let m := ceilDiv body.length 8
  let data := fit (8 * m) body
  let mid := leBytes 1 seq ++ leBytes 1 kind ++ leBytes 1 target ++ leBytes 1 m ++ leBytes 1 user
  leBytes 1 0xD2 ++ leBytes 1 byte1 ++ mid ++ [0] ++ data ++ leBytes 1 0xE1 ++ leBytes 1 byte1 ++ leBytes 1 seq ++ [0] ++ leBytes 4 (crc32c (data ++ mid))

/-- Originates an SMSG frame (R434); a board of one sends nothing. -/
def State.smsg (s : State) (kind target user : Nat) (body : Bytes) : State :=
  if !s.onBoard then s
  else
    let s1 := s.seamSend [1] (smsgFrame (s.seamByte false) s.board.seq kind target user body)
    { s1 with board := { s1.board with seq := wrapAdd 8 s1.board.seq 1 } }

/-! ## Page records -/

/-- The page record with a number. -/
def State.page (s : State) (num : Nat) : Option Page := s.jobs.page num

/-- Changes the page record with a number. -/
def State.updPage (s : State) (num : Nat) (f : Page → Page) : State :=
  { s with jobs := { s.jobs with pages := updWhere s.jobs.pages (fun p => p.num == num) f } }

/-- Final states (R89). -/
def PageSt.final : PageSt → Bool
  | .printed | .spoiled | .failed | .frogged => true
  | _ => false

/-- Code of a state in 0x4880:02 (R100). -/
def PageSt.code : PageSt → Nat
  | .defined => 0 | .waiting => 1 | .rendering => 2 | .rendered => 3 | .verified => 4 | .released => 5
  | .printing => 6 | .printed => 7 | .spoiled => 8 | .failed => 9 | .frogged => 10

/-- RELEASED or PRINTING. -/
def PageSt.active : PageSt → Bool
  | .released | .printing => true
  | _ => false

/-- A page is RELEASED or PRINTING: the idle condition of many objects. -/
def State.pagesActive (s : State) : Bool := s.jobs.pages.any fun p => p.st.active

/-- Pages of the queue, head first. -/
def State.queued (s : State) : List Page := s.jobs.queue.filterMap s.page

/-- Row counter: whole lines of Λ (R221). -/
def State.row (s : State) : Nat := s.pos.lam / 64
/-- Release margin (0x4811:01). -/
def State.margin (s : State) : Nat := s.reg 0x4811 1

/-- Instances remaining to print. -/
def Page.remaining (p : Page) : Nat := p.insts - p.printed - p.spoiledN

/-- Start of instance i (R96). -/
def Page.instStart (p : Page) (i : Nat) : Nat := p.pos + i * (p.len + p.gap)
/-- End E of a page (R96) from its start. -/
def Page.endFrom (p : Page) (start : Nat) : Nat := start + p.insts * p.len + (p.insts - 1) * p.gap

/-! ## Starts (R96, R202) -/

/-- Start of a page that is not late behind the end `e` of the page before it (R96), and whether it floats. -/
def Page.startAfter (p : Page) (e : Nat) (floats : Bool) : Nat × Bool :=
  if p.startAt then (max p.start e, floats && decide (p.start ≤ e)) else (e + p.start, floats)

/-- Starts of the queue's pages in order: (page, start, it rests on the earliest start R23 allows). A late page starts at the first position R23 allows that is not ahead of the pages before it (R24, R202). -/
def startsFrom (row margin : Nat) : Nat → Bool → List Page → List (Page × Nat × Bool)
  | _, _, [] => []
  | e, floats, p :: ps =>
    let (st, fl) :=
      if p.st.active then (p.pos, false)
      else if p.late ∧ (p.startAfter e floats).1 < row + margin then (row + margin, true)
      else p.startAfter e floats
    (p, st, fl) :: startsFrom row margin (p.endFrom st) fl ps

/-- Starts of the whole queue: with no page before it the first rests on the end of the last page printed, or on the row counter plus the release margin (R96). -/
def State.starts (s : State) : List (Page × Nat × Bool) :=
  match s.jobs.lastEnd with
  | some e => startsFrom s.row s.margin e false s.queued
  | none => startsFrom s.row s.margin (s.row + s.margin) true s.queued

/-- Provisional or fixed start of a page, and whether it floats. -/
def State.startOf (s : State) (num : Nat) : Nat × Bool :=
  match s.starts.find? fun e => e.1.num == num with
  | some (_, st, fl) => (st, fl)
  | none => (0, false)

/-- R202: pages that are late in this cycle: E188, and from now on R24. -/
def State.checkLate (s : State) : State :=
  s.starts.foldl (fun s (p, st, fl) =>
    if !p.st.active && !p.late && !fl && decide (st ≤ s.row + s.margin) then
      (s.updPage p.num fun q => { q with late := true, lateFrom := st }).raiseAt 188 2 (p.num + st % 2 ^ 32 * 2 ^ 32) 0 0 p.num 0
    else s) s

/-! ## Units (R29 to R31) -/

/-- State of a unit by its code: 0 IN_SERVICE, 1 DRAINING, 2 OUT, 3 RETURNING. -/
def State.unit (s : State) (u : Nat) : Nat := sget 0 s.units.states u
/-- Code of head port n. -/
def portUnit (n : Nat) : Nat := 0x0100 + n
/-- A head port is in service. -/
def State.portIn (s : State) (n : Nat) : Bool := s.unit (portUnit n) == 0
/-- Head ports in service, one bit each. -/
def State.portsIn (s : State) : Nat := (upTo 16).foldl (fun m n => if s.portIn n then m + 2 ^ n else m) 0

/-! ## Slices that will not fire (R254) -/

/-- The lane of module key port × 4 + module with nothing in it. -/
def Lane.empty : Lane := ⟨[], 0, [], []⟩
/-- A module's lane. -/
def State.lane (s : State) (mk : Nat) : Lane := sget Lane.empty s.lanes mk
/-- Changes a module's lane. -/
def State.updLane (s : State) (mk : Nat) (f : Lane → Lane) : State := { s with lanes := sset Lane.empty s.lanes mk (f (s.lane mk)) }

/-- Takes slices out of a lane: those that hold a far-end slot wait for a FIRE block with all segments disabled (R254). -/
def Lane.drop (l : Lane) (p : Slice → Bool) : Lane :=
  { l with slices := l.slices.filter fun x => !p x, gone := l.gone ++ (l.slices.filter p).filterMap (·.sent) }

/-- Takes the compares of an instance off the list. -/
def State.dropCmpsOf (s : State) (num inst : Nat) : State := { s with cmps := s.cmps.filter fun c => !(c.page == num && c.inst == inst) }

/-- Takes slices out of every lane, and their pending compares. -/
def State.dropSlices (s : State) (num fromInst : Nat) : State :=
  let s1 := (upTo 64).foldl (fun s mk => s.updLane mk fun l => l.drop fun x => x.page == num && decide (fromInst ≤ x.inst)) s
  { s1 with cmps := s1.cmps.filter fun c => !(c.page == num && decide (fromInst ≤ c.inst)) }

/-! ## Pins and slots (R88, R94, R132) -/

/-- Groups a page uses, directly and through groups (R88). -/
def usedGroups (j : Jobs) (ns : Nat) (items : List Placement) : List Nat :=
  ((reach j ns 6 0 1 (items.map fun p => (p, 0))).filter fun r => r.pl.kind == 3).map (·.pl.group) |>.eraseDups

/-- Objects a page pins: placed objects, masks, bound objects that it uses (R88). -/
def usedObjects (j : Jobs) (ns : Nat) (items : List Placement) (binds : List (Nat × Nat)) : List Nat :=
  let rs := reach j ns 6 0 1 (items.map fun p => (p, 0))
  ((rs.flatMap fun r => r.objects binds)
    ++ (rs.filterMap fun r => if r.pl.kind ≠ 3 ∧ r.pl.mask ≠ 0xFFFFFFFF then some r.pl.mask else none)).eraseDups

/-- An object is pinned by a non-final page (R88). -/
def Jobs.pinned (j : Jobs) (ns id : Nat) : Bool := j.pages.any fun p => p.ns == ns && !p.st.final && p.objs.contains id
/-- A group is used by a non-final page. -/
def Jobs.groupUsed (j : Jobs) (ns id : Nat) : Bool := j.pages.any fun p => p.ns == ns && !p.st.final && p.groups.contains id

/-- Frees items of closed sessions whose last pin is gone (R132). -/
def Jobs.freeOrphans (j : Jobs) : Jobs :=
  { j with stash := j.stash.filter fun o => !o.orphan || j.pinned o.ns o.id
           groups := j.groups.filter fun g => !g.orphan || j.groupUsed g.ns g.id }

/-! ## PAGE_EVENT and final states (R94, R114, R128) -/

/-- PAGE_EVENT body (R128). R209 sets LATE in it, R128 gives LATE no place: the reserved bytes carry a free value then (log 89). -/
def Page.event (p : Page) (final : Bool) : Bytes :=
  leBytes 4 p.num ++ leBytes 4 p.id ++ leBytes 1 (if final then 2 else 1) ++ leBytes 1 p.st.code ++ leBytes 2 p.lastReason
    ++ leBytes 4 p.sinceP ++ leBytes 4 p.sinceS ++ leBytes 4 (if final then p.reps - p.printed - p.spoiledN else 0) ++ leBytes 4 p.lastInst ++ if p.lastLate then leBytes 4 Config.lateMark.toNat else zeros 4

/-- The page's RENDER was accepted, so a completion slot is reserved for its final PAGE_EVENT (R114). -/
def Page.reserves (p : Page) : Bool := p.st != .defined

/-- E190 (R213): outcome 0 corrected in time, 1 completed after a deadline, 2 dropped. -/
def State.repairEvent (s : State) (r : Repair) (outcome : Nat) : State :=
  s.raiseAt 190 (if outcome = 0 then 1 else 2) (r.page + r.line * 2 ^ 32 + r.port * 2 ^ 50 + outcome * 2 ^ 54) 8 6 r.page 0

/-- The repairs of a page that reaches a final state are abandoned (R204): each is reported as dropped. -/
def State.abandonRepairs (s : State) (num : Nat) : State :=
  let s1 := (s.store.repairs.filter fun r => r.page == num).foldl (fun s r => s.repairEvent r 2) s
  { s1 with store := { s1.store with repairs := s1.store.repairs.filter fun r => r.page != num } }

/-- Retires a page record (R94). -/
def State.retire (s : State) (num : Nat) : State :=
  { s with jobs := ({ s.jobs with pages := s.jobs.pages.filter fun p => p.num != num }).freeOrphans }

/-- Brings a page to a final state (R91, R94): slots and pins freed, out of the queue and the pipelines, the final PAGE_EVENT sent; the record is retired once that is written, or at once for a closed session.
`reserved`: the page holds a reserved slot. -/
def State.finish (s : State) (num : Nat) (st : PageSt) : State :=
  match s.page num with
  | none => s
  | some p =>
    let s1 := ((s.abandonRepairs num).dropSlices num 0).updPage num fun q => { q with st := st, chunks := [], live := [], objs := [], groups := [], writ := [] }
    let s2 := { s1 with
      jobs := { s1.jobs with queue := s1.jobs.queue.filter fun n => n != num
                             lastEnd := if p.st.active then some (max (p.endFrom p.pos) (s1.jobs.lastEnd.getD 0)) else s1.jobs.lastEnd }
      render := { s1.render with jobs := s1.render.jobs.filter fun j => j.page != num
                                 holdPage := if s1.render.holdPage = num then 0 else s1.render.holdPage }
      therm := { s1.therm with pagesAt := if p.st.active then s1.clk.now else s1.therm.pagesAt } }
    match s2.page num, s2.sessOfNs p.ns with
    | some q, some (n, _) =>
      if p.orphan then s2.retire num
      else if p.reserves then (s2.completeReserved n 0x41 (q.event true)).retire num
      else
        let (s3, ok) := s2.completeFree n 0x41 (q.event true)
        if ok then s3.retire num else s3
    | _, _ => s2.retire num

/-- Sends final PAGE_EVENTs and progress that found no slot, now that one may be free (R114). -/
def State.flushEvents (s : State) (n : Nat) : State :=
  match s.sess n with
  | none => s
  | some x =>
    s.jobs.pages.foldl (fun s p =>
      if p.ns = x.ns ∧ p.orphan = false ∧ (p.st.final = true ∨ (p.st.active = true ∧ p.sinceP + p.sinceS > 0)) then
        let (s1, ok) := s.completeFree n 0x41 (p.event p.st.final)
        if !ok then s1
        else if p.st.final then s1.retire p.num
        else s1.updPage p.num fun q => { q with sinceP := 0, sinceS := 0 }
      else s) s

/-- E178 and FAILED (R91, R101): reason 1 tile or mask data, 2 chart data, 3 verify, 4 too long. -/
def State.fail (s : State) (num reason : Nat) : State :=
  match s.page num with
  | none => s
  | some p => (s.raiseAt 178 3 (num + reason * 2 ^ 32 + p.sess % 64 * 2 ^ 40) 8 5 num 0).finish num .failed

/-- E179 and FROGGED (R91, R101): origin 1 session, 2 press control, 3 session closed. -/
def State.froggedBy (s : State) (num origin : Nat) : State :=
  match s.page num with
  | none => s
  | some p => (s.raise 179 0 (num + origin * 2 ^ 32 + p.sess % 64 * 2 ^ 40)).finish num .frogged

/-- Sends a page back to WAITING to be rendered again (R32, R335, R91): its slots are freed. -/
def State.rerender (s : State) (num : Nat) : State :=
  let s1 := s.updPage num fun q => { q with st := .waiting, chunks := [], writ := [], verified := false, rerenders := 0, relines := none, notHidden := false }
  { s1 with render := { s1.render with jobs := s1.render.jobs.filter fun j => j.page != num } }

/-- Only the first n instances are printed, and those cast on: slices of later ones will not fire (R91, R93). With none in progress the page ends here (DESIGN CHOICE, log 92). -/
def State.endAfter (s : State) (num n : Nat) : State :=
  match s.page num with
  | none => s
  | some p =>
    let n := max (max p.cast 1) n
    let s1 := (s.dropSlices num n).updPage num fun q => { q with insts := min q.insts n }
    match s1.page num with
    | none => s1
    | some q => if q.live.isEmpty ∧ q.st = .printing ∧ q.cast ≥ q.insts then s1.finish num (if q.spoiledN = 0 then .printed else .spoiled) else s1

/-- The latest instance cast on becomes the last (R91, R93, R99). -/
def State.endCurrent (s : State) (num : Nat) : State := s.endAfter num 0

/-! ## SPOIL_N (R209, R210) -/

/-- Shuttle mode (0x2800:01). -/
def State.shuttle (s : State) : Bool := s.flag 0x2800 1

/-- A pulse of a width in µs begins now (R209); one that runs longer is not cut short. -/
def SpoilPin.pulse (pin : SpoilPin) (now width : Nat) : SpoilPin :=
  { pin with until_ := some (max (now + width * 1000) (pin.until_.getD 0)), low := true }

/-- SPOIL_N for an instance that starts at row-counter line `st` (R209): the new pin state, and whether the decision is late. -/
def State.spoilPin (s : State) (st len : Nat) : SpoilPin × Bool :=
  let pin := s.store.spoil
  let gate := s.reg 0x4812 2
  let from_ : Int := (st + gate : Nat) - (s.reg 0x4812 3 : Int)
  let to_ : Int := (st + len + gate + s.reg 0x4812 4 : Nat)
  let lam : Int := s.pos.lam
  match s.reg 0x4812 1 with
  | 0 => (pin, false)
  | 1 =>
    if s.shuttle then (pin, false)
    else if (s.row : Int) ≥ to_ then (pin, true)
    else ({ pin with windows := pin.windows ++ [(from_, to_)], low := pin.low || decide (lam > 64 * from_) }, decide (lam > 64 * from_))
  | _ =>
    if s.shuttle then (pin, false)
    else if lam > 64 * (st + gate : Nat) then (pin.pulse s.clk.now (s.reg 0x4812 5), true)
    else ({ pin with pulses := pin.pulses ++ [(st + gate, s.reg 0x4812 5)] }, false)

/-- Width of the pulse that a spoil decided now gives at the instance's bind-off: in shuttle mode, in either mode but OFF (R210). -/
def State.shuttlePulse (s : State) : Nat := if s.shuttle && s.reg 0x4812 1 != 0 then s.reg 0x4812 5 else 0

/-- The pulse of an instance that binds off, or that the safe state ends (R210). -/
def State.spoilPulse (s : State) (i : Inst) : State :=
  match i.spoil with
  | some sp => if sp.pulse = 0 then s else { s with store := { s.store with spoil := s.store.spoil.pulse s.clk.now sp.pulse } }
  | none => s

/-! ## Spoiling (R207, R208, R446) -/

/-- The last spoil record (R212). -/
def spoilRecord (num idx : Nat) (sp : Spoil) : Bytes :=
  leBytes 4 num ++ leBytes 4 idx ++ leBytes 4 sp.line ++ leBytes 1 sp.port ++ leBytes 1 (b2n sp.late) ++ leBytes 2 sp.reason
    ++ leBytes 4 sp.mask ++ leBytes 4 sp.now ++ leBytes 2 sp.epoch ++ leBytes 2 (sp.now / 2 ^ 32) ++ zeros 4

/-- Changes an instance in progress of a page. -/
def State.updInst (s : State) (num idx : Nat) (f : Inst → Inst) : State :=
  s.updPage num fun p => { p with live := updWhere p.live (fun i => i.idx == idx) f }

/-- Spoils an instance in progress with a reason, at a line (0xFFFF_FFFF: before cast-on) and port (0xFF: none). The first cause makes the record; a later one is added to its mask (R207), also where 0x4815 shows the record.
A cause of this device crosses the board (R446) unless it is BOARD_PEER. -/
def State.spoil (s : State) (num idx reason line port : Nat) : State :=
  match s.page num with
  | none => s
  | some p =>
    match p.live.find? fun i => i.idx == idx with
    | none => s
    | some i =>
      match i.spoil with
      | some sp =>
        if bit sp.mask reason then s
        else
          let s1 := s.updInst num idx fun i => { i with spoil := some { sp with mask := sp.mask + 2 ^ reason } }
          if s.le 0x4815 0 0 4 = num ∧ s.le 0x4815 0 4 4 = idx then s1.setBytes 0x4815 0 16 (leBytes 4 (sp.mask + 2 ^ reason)) else s1
      | none =>
        let (pin, late) := s.spoilPin (p.instStart idx) p.len
        let sp : Spoil := ⟨line, port, late, reason, 2 ^ reason, s.clk.now, s.stampEpoch, s.shuttlePulse⟩
        let s1 := ({ s with store := { s.store with spoil := pin } }).updInst num idx fun i => { i with spoil := some sp }
        let s2 := s1.updPage num fun q => { q with lastReason := reason, lastInst := idx, lastLate := late }
        let s3 := (s2.setBytes 0x4815 0 0 (spoilRecord num idx sp)).count 0x4813 2 64 1
        let s4 := s3.setBytes 0x4814 0 (4 * reason) (leBytes 4 (satAdd 32 (s3.le 0x4814 0 (4 * reason) 4) 1))
        let s5 := if late then s4.bump 0x4813 7 else s4
        let s6 := s5.raiseAt 189 3 (num + reason * 2 ^ 32 + port % 256 * 2 ^ 48 + b2n late * 2 ^ 56) 9 5 num 0
        if reason = 13 then s6 else s6.smsg 6 0xFF 0 (leBytes 4 p.id ++ leBytes 4 idx ++ leBytes 2 reason)

/-- Adds a spoil reason to every instance in progress of a page ("the current instance", R93), at the line its least advanced module fires next. -/
def State.spoilCurrent (s : State) (num reason : Nat) : State :=
  match s.page num with
  | none => s
  | some p => p.live.foldl (fun s i => s.spoil num i.idx reason
      (((upTo 64).foldl (fun m mk => max m (sget 0 p.fired mk)) 0 - 1) % p.len) 0xFF) s

/-- Spoils the current instance of every PRINTING page. -/
def State.spoilPrinting (s : State) (reason : Nat) : State :=
  s.jobs.pages.foldl (fun s p => if p.st = .printing then s.spoilCurrent p.num reason else s) s

/-- R369: a SEV3 occurrence about a page, whose chapter gives no spoil reason, spoils its current instance with OTHER_SEV3. -/
def State.spoilOther (s : State) (num : Nat) : State :=
  match s.page num with
  | some p => if p.st = .printing then s.spoilCurrent num 15 else s
  | none => s

/-! ## Cast-on and bind-off (R91, R93) -/

/-- Number of the pass that delivers a row-counter line (R233), counted from the present pass; while the sequencer is IDLE as if it were armed now. -/
def State.passOf (s : State) (line : Nat) : Int :=
  if s.reg 0x2870 0x0C = 0 then ((line : Int) - s.row) / (s.reg 0x2870 1 : Int)
  else s.reg 0x2870 0x0D + ((line : Int) - s.reg 0x2870 0x0E) / (s.reg 0x2870 1 : Int)

/-- Under the SPOIL policy an out-of-service port spoils what prints (R33): a port is out of service from OUT until it is IN_SERVICE again (0x0029, R31). -/
def State.portOutSpoils (s : State) : Bool := s.flag 0x0028 5 && (upTo 16).any fun n => decide (2 ≤ s.unit (portUnit n))

/-- Cast-on of an instance (R91, R93, R207): E176; causes that exist before it spoil it now. `lo` and `hi` are its lowest and highest target sub-tick. -/
def State.castOn (s : State) (num idx lo hi : Nat) : State :=
  match s.page num with
  | none => s
  | some p =>
    let s0 := match s.dram.capNext with
      | some (cap, old) => if idx = 0 ∧ !old.contains num then { (s.set 0x2830 5 cap) with dram := { s.dram with capNext := none } } else s
      | none => s
    let s1 := (s0.updPage num fun q => { q with
      st := .printing, cast := idx + 1, live := q.live ++ [⟨idx, [], none⟩], castAt := if idx = 0 then s.clk.now + 1 else q.castAt }).raise 176 0 (num + idx * 2 ^ 32)
    let split := s.shuttle && s.passOf (lo / 64) != s.passOf (hi / 64)
    let fed := s.pos.badFeeds.any fun r => decide (lo < 64 * r.2) && decide (64 * r.1 ≤ hi)
    let causes := (if p.notHidden then [7] else []) ++ (if s.portOutSpoils then [8] else [])
      ++ (if p.peer.contains idx || p.peer.contains 0xFFFFFFFF then [13] else []) ++ (if split || fed then [15] else [])
    causes.foldl (fun s r => s.spoil num idx r 0xFFFFFFFF 0xFF) s1

/-- Bind-off of an instance (R91, R93): E177, counts, its PAGE_EVENT; with the last one the page ends. -/
def State.bindOff (s : State) (num idx : Nat) : State :=
  match s.page num with
  | none => s
  | some p =>
    match p.live.find? fun i => i.idx == idx with
    | none => s
    | some i =>
      let bad := i.spoil.isSome
      let s0 := if bad then s.spoilPulse i else s.count 0x4813 1 64 1
      let s1 := (s0.updPage num fun q => { q with
        live := q.live.filter fun i => i.idx != idx
        printed := if bad then q.printed else q.printed + 1
        spoiledN := if bad then q.spoiledN + 1 else q.spoiledN
        sinceP := if bad then q.sinceP else q.sinceP + 1
        sinceS := if bad then q.sinceS + 1 else q.sinceS
        lastInst := idx }).dropCmpsOf num idx |>.raise 177 0 (num + idx * 2 ^ 32)
      match s1.page num with
      | none => s1
      | some q =>
        if q.printed + q.spoiledN ≥ q.insts then s1.finish num (if q.spoiledN = 0 then .printed else .spoiled)
        else
          match s1.sessOfNs q.ns with
          | some (n, _) =>
            if q.orphan then s1
            else
              let (s2, ok) := s1.completeFree n 0x41 (q.event false)
              if ok then s2.updPage num fun q => { q with sinceP := 0, sinceS := 0 } else s2
          | none => s1

/-! ## Release withdrawn, frog (R91, R97, R445) -/

/-- Withdraws a release: the page is VERIFIED again, and its slices will not fire (R91, R254). Also a cast-on of the same cycle is undone by it (R92). -/
def State.withdraw (s : State) (num : Nat) : State :=
  let s1 := (s.dropSlices num 0).updPage num fun q => { q with st := .verified, fetched := [], sentN := [], fired := [], pos := 0, cast := 0, live := [], castAt := 0 }
  { s1 with therm := { s1.therm with pagesAt := s1.clk.now } }

/-- Outcome of a frog of a page (R91): done, or refused for its state. On a board follower a frog of a RELEASED or PRINTING page is refused; the master sends FROG (R445). -/
def State.frogPage (s : State) (num origin : Nat) (fromMaster : Bool) : State × Bool :=
  match s.page num with
  | none => (s, false)
  | some p =>
    match p.st with
    | .released =>
      if s.onBoard && !s.isMaster && !fromMaster then (s, false)
      else if p.pos ≥ s.row + s.margin ∨ fromMaster then
        let s1 := if s.onBoard && s.isMaster then s.smsg 5 0xFF 0 (leBytes 4 p.id ++ leBytes 4 0xFFFFFFFF) else s
        let s2 := s1.withdraw num
        (s2.froggedBy num origin, true)
      else (s, false)
    | .printing =>
      if s.onBoard && !s.isMaster && !fromMaster then (s, false)
      else
        let s1 := if s.onBoard && s.isMaster then s.smsg 5 0xFF 0 (leBytes 4 p.id ++ leBytes 4 (p.cast - 1)) else s
        (s1.endCurrent num, true)
    | .printed | .spoiled | .failed | .frogged => (s, false)
    | _ => (s.froggedBy num origin, true)

/-- The close of a session reaches its pages (R91, R99): DEFINED to VERIFIED are frogged, the orphan policy decides over the rest. -/
def State.closePages (s : State) (ns : Nat) : State :=
  s.jobs.pages.foldl (fun s p =>
    if p.ns ≠ ns then s
    else if p.st.final then s.retire p.num
    else if p.st.active then
      let s1 := s.updPage p.num fun q => { q with orphan := true }
      if s.reg 0x4883 0 = 0 then s1
      else if p.st = .released then (s1.dropSlices p.num 1).updPage p.num fun q => { q with insts := 1 }
      else s1.endCurrent p.num
    else (s.updPage p.num fun q => { q with orphan := true }).froggedBy p.num 3) s

/-! ## Safe-state entry on the pages (R91, R375) -/

/-- The SPOIL_N pulses of the instances in progress of a page, which end here (R210). -/
def State.pulsesOf (s : State) (num : Nat) : State :=
  match s.page num with
  | some p => p.live.foldl (fun s i => s.spoilPulse i) s
  | none => s

/-- RELEASED pages return to VERIFIED, and with them a page whose instance 0 was cast on in this very cycle (R92); PRINTING pages end with the instances cast on, those in progress spoiled with SAFE_STATE. -/
def State.safePages (s : State) : State :=
  s.jobs.pages.foldl (fun s p =>
    if p.st = .released ∨ (p.st = .printing ∧ p.castAt = s.clk.now + 1) then s.withdraw p.num
    else if p.st = .printing then
      let s1 := (s.spoilCurrent p.num 12).pulsesOf p.num
      let s2 := p.live.foldl (fun s i => if (s.page p.num).isSome then s.updPage p.num fun q =>
        { q with spoiledN := q.spoiledN + 1, sinceS := q.sinceS + 1, lastInst := i.idx } else s) (s1.updPage p.num fun q => { q with insts := min q.insts q.cast })
      let bad := match s2.page p.num with | some q => decide (q.spoiledN ≠ 0) | none => true
      s2.finish p.num (if bad then .spoiled else .printed)
    else s) s

end Sys2Proof.Machine
end

