-- ==== Sys2Proof/Machine/Integrity.lean ====
section
/-! DEFINITION. DRAM contents (R339 to R343), parity errors and leaky buckets (R344, R347, R348), poison marks (R345, R346), CRC units (R354 to R357). -/

namespace Sys2Proof.Machine

/-! ## DRAM bytes (R339, R340, R342) -/

/-- One byte of DRAM by logical address; a byte never written reads as a free value (R342). -/
def State.memByte (s : State) (a : Nat) : Byte := (sfind a s.mem).getD (Config.unwrittenByte a)

/-- The byte reads with a parity error (R339, R342). -/
def State.memBadAt (s : State) (a : Nat) : Bool :=
  match sfind a s.mem with
  | some _ => sget false s.memBad a
  | none => Config.unwrittenBad a

/-- The part of a map with keys from lo up to hi. -/
def spart {α : Type} (lo hi : Nat) (m : Sparse α) : Sparse α := m.filter fun e => decide (lo ≤ e.1) && decide (e.1 < hi)

/-- `n` bytes of DRAM. -/
def State.memRead (s : State) (a n : Nat) : Bytes :=
  let part := spart a (a + n) s.mem
  (upTo n).map fun i => (sfind (a + i) part).getD (Config.unwrittenByte (a + i))

/-- Some byte of a range reads with a parity error. -/
def State.memBadIn (s : State) (a n : Nat) : Bool :=
  let part := spart a (a + n) s.mem
  let bad := spart a (a + n) s.memBad
  (upTo n).any fun i => match sfind (a + i) part with
    | some _ => sget false bad (a + i)
    | none => Config.unwrittenBad (a + i)

/-- Bytes with the addresses they go to. -/
def numbered (a : Nat) : Bytes → Sparse Byte
  | [] => []
  | b :: bs => (a, b) :: numbered (a + 1) bs

/-- Replaces the entries of a map from a up by bytes. -/
def spatch (a : Nat) (bs : Bytes) (m : Sparse Byte) : Sparse Byte :=
  (m.filter fun e => decide (e.1 < a)) ++ numbered a bs ++ m.filter fun e => decide (a + bs.length ≤ e.1)

/-- Writes bytes with their parity: a bad byte written over is good (R340). -/
def State.memWrite (s : State) (a : Nat) (bs : Bytes) : State :=
  { s with mem := spatch a bs s.mem, memBad := s.memBad.filter fun e => decide (e.1 < a) || decide (a + bs.length ≤ e.1) }

/-! ## Test windows and parity errors (R347, R348, R351) -/

/-- Index of the leaky bucket of class c (R348). -/
def clsIdx (c : Nat) : Nat := 0x6800 + c

/-- The checker test window stands open on an array: from OPENING to CLOSING (R351). -/
def State.underTest (s : State) (array : Nat) : Bool := s.reg 0xF000 4 != 0 && s.reg 0xF000 1 == array

/-- An addition to a bucket (R347): an addition at capacity overflows; E224 + c once until the level has been below capacity. -/
def State.bucketAdd (s : State) (c : Nat) : State :=
  let cap := s.reg (clsIdx c) 1
  let lvl := s.reg (clsIdx c) 3
  if lvl ≥ cap then
    let s1 := s.bump (clsIdx c) 6
    if sget false s1.integ.spilt c then s1
    else
      ({ s1 with integ := { s1.integ with spilt := sset false s1.integ.spilt c true } }).raiseAt (224 + c) 2
        (cap + s1.reg (clsIdx c) 6 % 65536 * 65536) 0 6 0 0
  else
    ({ s with integ := { s.integ with spilt := sset false s.integ.spilt c false } }).set (clsIdx c) 3 (lvl + 1)

/-- Last-error record (R348). -/
def State.errorRecord (s : State) (array outcome reader loc page : Nat) : Bytes :=
  leBytes 8 loc ++ leBytes 2 array ++ leBytes 1 outcome ++ leBytes 1 reader ++ s.stamp ++ leBytes 4 page ++ zeros 8

/-- A parity error found in class c (R344, R347, R348): outcome 1 corrected, 2 uncorrectable, 3 late; test-origin errors only count in 0xF000:06 (R351). -/
def State.parityError (s : State) (c array outcome reader loc page : Nat) : State :=
  if s.underTest array then s.bump 0xF000 6
  else
    ((s.bump (clsIdx c) (if outcome = 1 then 4 else 5)).setBytes (clsIdx c) 7 0 (s.errorRecord array outcome reader loc page)).bucketAdd c

/-- A parity error in a range of a storage: at the first byte known to be bad, or at one that the reader alone knows (free). -/
def State.parityIn (s : State) (c array outcome reader base size page : Nat) : State :=
  let known := if c = 1 ∨ c = 5 ∨ c = 9 then spart base (base + size) s.memBad else []
  let (k, s1) := s.fresh
  s1.parityError c array outcome reader (match known with | (a, _) :: _ => a | [] => base + Config.choice k % max 1 size) page

/-- A parity error of the tile cache (M2), in a bank of the spec's eight that is not under test (R349); which, and where, is not fixed. -/
def State.parityCache (s : State) (outcome page : Nat) : State :=
  let (k, s1) := s.fresh
  let b := 0x0010 + Config.choice k % 8
  s1.parityIn 2 (if s.underTest b then 0x0010 + (b + 1) % 8 else b) outcome 1 0 12582912 page

/-- A mark is consumed (R346): counted, E236 with the class and the consumer; `master` saw it (R371). -/
def State.poisonSeen (s : State) (c consumer master sev page : Nat) : State :=
  (s.bump 0x6810 1).raiseAt 236 sev (c + consumer * 256 + page * 2 ^ 32) master 1 page 0

/-- A mark consumed by fire (1), render (2), a request (4) or the SC (5). -/
def State.poisonConsumed (s : State) (c consumer sev page : Nat) : State :=
  s.poisonSeen c consumer (if consumer = 1 then 3 else if consumer = 2 then 1 else if consumer = 5 then 7 else 6) sev page

/-- Reader code of the device consumer of a ring (R348). -/
def ringReader (q : Nat) : Nat := if q < 64 then 6 else if 128 ≤ q ∧ q < 160 then 4 else if 160 ≤ q ∧ q < 176 then 3 else 7

/-- A device consumer skips the descriptor it reads (R71). A parity error is one of class M7, its mark consumed here (R345, R346); where a ring lies in the ring memory is not fixed, so the location is free. -/
def State.ringFault (s : State) (q cause : Nat) : State :=
  let s1 := { s with ev := s.ev.ringError s.clk.now s.stampEpoch q cause }
  if cause = 1 then
    let (k, s2) := s1.fresh
    (s2.parityError 7 0xFFFF 2 (ringReader q) (Config.choice k % 131072 * 32) 0).poisonSeen 7 3 (ringReader q) 2 0
  else s1

/-- Takes the descriptor at the head of ring q for a device consumer: bad ones are skipped and answer none (R71). -/
def State.ringTake (s : State) (q : Nat) : State × Option Bytes :=
  match s.ev.ringHead q with
  | none => (s, none)
  | some (d, 0) => ({ s with ev := s.ev.ringPop q }, some d)
  | some (_, cause) => (s.ringFault q cause, none)

/-- The state in which a consumer finds the head of ring q, with a parity error or not. -/
def State.ringRead (s : State) (q : Nat) (bad : Bool) : State := if bad then { s with ev := s.ev.ringSpoil q } else s

/-- The next leak instant of a bucket (R347): one period after the time up to which it has leaked. -/
def State.leakAt (s : State) (c : Nat) : Nat := sget 0 s.integ.leak c + s.reg (clsIdx c) 2 * 1000000

/-- One leaves a level, if there is one (R347); below capacity an overflow may be told again. -/
def State.leakOne (s : State) (c : Nat) : Nat → State
  | 0 => s
  | lvl + 1 => ({ s with integ := { s.integ with spilt := sset false s.integ.spilt c false } }).set (clsIdx c) 3 lvl

/-- A leak instant (R347): the next whole multiple of the period since the last write of the period, or since reset. `leak` holds the time up to which a bucket has leaked. -/
def State.leak (s : State) (c : Nat) : State :=
  if s.clk.now < s.leakAt c then s
  else State.leakOne { s with integ := { s.integ with leak := sset 0 s.integ.leak c (s.leakAt c) } } c (s.reg (clsIdx c) 3)

/-- A write of the leak period restarts the count of periods (R347). -/
def State.leakBase (s : State) (c : Nat) : State := { s with integ := { s.integ with leak := sset 0 s.integ.leak c s.clk.now } }

/-! ## CRC units (R354 to R357) -/

/-- Index of CRC unit u. -/
def crcIdx (u : Nat) : Nat := 0x6820 + u

/-- Configuration latched at reset of unit u: width, polynomial, reflection, final XOR (R354); that of R12's defaults before any reset. -/
def State.crcCfg (s : State) (u : Nat) : Nat × Nat × Nat × Nat := sget (32, 0x1EDC6F41, 3, 0xFFFFFFFF) s.integ.latch u

/-- The result of a running value (R354). -/
def State.crcOut (s : State) (u running : Nat) : Nat :=
  let (w, _, ref, fin) := s.crcCfg u
  crcResult w (bit ref 1) fin (running % 2 ^ w)

/-- A unit that a DMA channel owns (R357). -/
def State.crcOwned (s : State) (u : Nat) : Bool := s.reg (crcIdx u) 0x10 != 0

/-- Reset command (R354): latches the configuration, loads the initial value. -/
def State.crcReset (s : State) (u : Nat) : State :=
  let w := s.reg (crcIdx u) 1
  let cfg := (w, s.reg (crcIdx u) 2 % 2 ^ w, s.reg (crcIdx u) 4, s.reg (crcIdx u) 5 % 2 ^ w)
  let s1 := { s with integ := { s.integ with latch := sset (32, 0x1EDC6F41, 3, 0xFFFFFFFF) s.integ.latch u cfg } }
  let r := s.reg (crcIdx u) 3 % 2 ^ w
  (((s1.set (crcIdx u) 7 r).set (crcIdx u) 8 (s1.crcOut u r)).set (crcIdx u) 0x0A 0).set (crcIdx u) 0x0F 0

/-- Puts a running value, and the result that it gives. -/
def State.crcPut (s : State) (u r : Nat) : State :=
  let w := (s.crcCfg u).1
  (s.set (crcIdx u) 7 (r % 2 ^ w)).set (crcIdx u) 8 (s.crcOut u (r % 2 ^ w))

/-- Feeds bytes (R355). -/
def State.crcFeed (s : State) (u : Nat) (bs : Bytes) : State :=
  let (w, poly, ref, _) := s.crcCfg u
  (s.crcPut u (crcRun w poly (bit ref 0) (s.reg (crcIdx u) 7) bs)).count (crcIdx u) 0x0F 64 bs.length

/-- Compare command (R356): the low w bits of the result against the expected value; a mismatch raises E240 + u. -/
def State.crcCompare (s : State) (u : Nat) : State :=
  let w := (s.crcCfg u).1
  let r := s.crcOut u (s.reg (crcIdx u) 7)
  let e := s.reg (crcIdx u) 9
  if r = e % 2 ^ w then s.set (crcIdx u) 0x0A 1
  else (s.set (crcIdx u) 0x0A 2).raise (240 + u) 0 (r + e * 2 ^ 32)

end Sys2Proof.Machine
end

