-- ==== Sys2Proof/Machine/Fop.lean ====
section
/-! DEFINITION. FOP: messages, allow list, client table, reply cache (R48 to R52, R59). `State.serve` runs a request through R49 up to its execution and answers it. -/

namespace Sys2Proof.Machine

/-! ## Status codes (R52) -/

namespace St
def ok : Nat := 0x00
def noObject : Nat := 0x01
def noSubindex : Nat := 0x02
def readOnly : Nat := 0x03
def writeOnly : Nat := 0x04
def length : Nat := 0x05
def range : Nat := 0x06
def notIdle : Nat := 0x07
def notReady : Nat := 0x08
def busy : Nat := 0x09
def refused : Nat := 0x0A
def sequence : Nat := 0x0B
def handle : Nat := 0x0C
def domainCrc : Nat := 0x0D
def changed : Nat := 0x0E
def version : Nat := 0x0F
def opcode : Nat := 0x10
def tooManyClients : Nat := 0x11
def noSpace : Nat := 0x12
end St

/-- A FOP message of the device (R48). -/
def fopMessage (op tid key status : Nat) (payload : Bytes) : Bytes :=
  let b := leBytes 2 0x5046 ++ [1] ++ leBytes 1 op ++ leBytes 2 tid ++ zeros 2 ++ leBytes 2 (key / 256) ++ leBytes 1 (key % 256)
    ++ leBytes 1 status ++ leBytes 2 payload.length ++ zeros 2 ++ payload
  b ++ leBytes 4 (crc32c b)

/-- The 16 address bytes of a peer: an IPv4 address in the first 4 bytes, in network order, the rest zero. -/
def peerBytes (p : Peer) : Bytes :=
  if p.v6 then beBytes 16 p.addr.toNat else beBytes 4 (p.addr.toNat % 2 ^ 32) ++ zeros 12

/-- Link-local IPv6 address of a MAC (modified EUI-64). -/
def linkLocal (mac : Nat) : Nat :=
  0xFE80 * 2 ^ 112 + (mac / 2 ^ 24 ^^^ 0x020000) * 2 ^ 40 + 0xFFFE * 2 ^ 24 + mac % 2 ^ 24

/-- The peer's address is link-local. -/
def isLinkLocal (p : Peer) : Bool := p.addr.toNat / 2 ^ 118 == 0x3FA

/-- The device's address towards a peer (R47): the IPv4 address; for IPv6 the link-local address towards a link-local peer, else the global one. 0: there is none. -/
def State.ownAddr (s : State) (p : Peer) : Nat :=
  if !p.v6 then s.reg 0x1802 1 else if isLinkLocal p then linkLocal Config.macFn.toNat else beVal (s.bytes 0x1803 1 0 16)

/-- Datagrams pass between the device and a peer (R47): the address they need is enabled. -/
def State.reaches (s : State) (p : Peer) : Bool := s.ownAddr p != 0

/-- An allow-list entry matches a source (R59). -/
def allowEntry (e : Bytes) (p : Peer) : Bool :=
  let pre := leAt e 16 1
  let fam := leAt e 17 1
  let w := if p.v6 then 128 else 32
  decide (0 < pre) && fam == (if p.v6 then 6 else 4) && decide (pre ≤ w) &&
    beVal (slice e 0 (w / 8)) / 2 ^ (w - pre) == p.addr.toNat % 2 ^ w / 2 ^ (w - pre)

/-- FOP accepts a source (R59). -/
def State.allowed (s : State) (p : Peer) : Bool :=
  !s.flag 0x1810 0 || (upTo 8).any fun i => allowEntry (s.bytes 0x1811 0 (20 * i) 20) p

/-- The client-table entry of a peer. -/
def State.client (s : State) (p : Peer) : Option Client := s.fop.clients.find? fun c => c.peer == p

/-- Changes a client's entry. -/
def State.updClient (s : State) (p : Peer) (f : Client → Client) : State :=
  { s with fop := { s.fop with clients := updWhere s.fop.clients (fun c => c.peer == p) f } }

/-- Replies of SEG_READ_DATA and SEG_WRITE_DATA are not cached (R50). -/
def cached (op : Nat) : Bool := op != 4 && op != 6

/-- Sends a reply and caches it with the client: the last 32 of the last 5 s (R50). `own` is the device's address at the request's receipt (R47). -/
def State.fopReply (s : State) (h : FopHead) (own op key status : Nat) (payload : Bytes) : State :=
  let b := fopMessage (op + 128) h.tid.toNat key status payload
  let s1 := s.send (.fop own h.peer) b
  if cached op then
    s1.updClient h.peer fun c => { c with cache := (⟨h.tid.toNat, op, key, s.clk.now, b⟩ :: c.cache).take 32 }
  else s1

/-- A cached reply that a request repeats (R50). -/
def State.repeats (s : State) (h : FopHead) (op key : Nat) : Option CachedReply :=
  (s.client h.peer).bind fun c => c.cache.find? fun r =>
    cached op && r.tid == h.tid.toNat && r.op == op && r.key == key && decide (s.clk.now < r.sent + 5000000000)

/-- The message refreshes its client's entry, or makes one (R50). -/
def State.touchClient (s : State) (p : Peer) : State :=
  if (s.client p).isSome then s.updClient p fun c => { c with last := s.clk.now }
  else { s with fop := { s.fop with clients := s.fop.clients ++ [⟨p, s.clk.now, []⟩] } }

/-- A sound datagram is counted (R49, R59). -/
def State.fopCount (s : State) : State := s.count 0x1812 1 32 1

/-- R49 for a sound request: dropped while FOP does not run; allow list, version, client table, reply cache; then `act` executes it and gives status and payload. What fails at the version is no message of its client (DESIGN CHOICE, log 91). -/
def State.serve (s : State) (h : FopHead) (op key : Nat) (act : State → State × Nat × Bytes) : State :=
  if !s.fopUp || !s.reaches h.peer then s
  else
    let own := s.ownAddr h.peer
    let s1 := s.fopCount
    if !s1.allowed h.peer then s1.count 0x1812 3 32 1
    else if h.version ≠ 1 then s1.send (.fop own h.peer) (fopMessage (op + 128) h.tid.toNat key St.version [1])
    else if (s1.client h.peer).isNone ∧ s1.fop.clients.length ≥ 16 then
      s1.send (.fop own h.peer) (fopMessage (op + 128) h.tid.toNat key St.tooManyClients [])
    else
      let s2 := s1.touchClient h.peer
      match s2.repeats h op key with
      | some r => s2.send (.fop own h.peer) r.bytes
      | none =>
        let (s3, status, payload) := act s2
        s3.fopReply h own op key status payload

/-- A WRITE of a CMD object: the action says whether it was accepted, and a refusal is answered REFUSED (R49, R36). -/
def State.serveCmd (s : State) (h : FopHead) (key : Nat) (act : State → State × Bool) : State :=
  s.serve h 2 key fun s => let (s1, ok) := act s; (s1, if ok then St.ok else St.refused, [])

end Sys2Proof.Machine
end

