-- ==== Sys2Proof/Machine/Binary64.lean ====
section
/-! DEFINITION. IEEE 754 binary64 arithmetic as far as the move profiles use it (R277 to R279): add, subtract, multiply, divide, square root, each rounded to nearest, ties to even, to 53 bits.
Magnitudes stay far inside the exponent range, so there is no infinity and no subnormal. -/

namespace Sys2Proof.Machine

namespace B64

/-- m / 2^k rounded to nearest, ties to even. -/
def shiftRound (m : Int) (k : Nat) : Int :=
  let d : Int := (2 ^ k : Nat)
  let q := m / d
  let r := m % d
  if 2 * r > d ∨ (2 * r = d ∧ q % 2 = 1) then q + 1 else q

/-- Rounds mant × 2^expo to 53 bits. -/
def rnd (m e : Int) : B64 :=
  let n := m.natAbs.log2
  if m.natAbs < 2 ^ 53 then ⟨m, e⟩ else ⟨shiftRound m (n - 52), e + (n - 52 : Nat)⟩

/-- A whole number. -/
def ofInt (i : Int) : B64 := rnd i 0
/-- A value in 2^-32 units. -/
def ofFixed (i : Int) : B64 := rnd i (-32)
/-- 0. -/
def zero : B64 := ⟨0, 0⟩

/-- Both mantissas over the smaller exponent. -/
def align (a b : B64) : Int × Int × Int :=
  let e := min a.expo b.expo
  (a.mant * (2 ^ (a.expo - e).toNat : Nat), b.mant * (2 ^ (b.expo - e).toNat : Nat), e)

def add (a b : B64) : B64 := let (x, y, e) := align a b; rnd (x + y) e
def sub (a b : B64) : B64 := let (x, y, e) := align a b; rnd (x - y) e
def mul (a b : B64) : B64 := rnd (a.mant * b.mant) (a.expo + b.expo)
def le (a b : B64) : Bool := let (x, y, _) := align a b; decide (x ≤ y)
def lt (a b : B64) : Bool := let (x, y, _) := align a b; decide (x < y)
def isZero (a : B64) : Bool := a.mant == 0
def min' (a b : B64) : B64 := if le a b then a else b

/-- Quotient of magnitudes with at least 56 bits and a sticky bit, rounded. Division by 0 gives 0 (no caller divides by 0). -/
def div (a b : B64) : B64 :=
  if b.mant = 0 then zero
  else
    let k := 56 + b.mant.natAbs.log2 + 1
    let n := a.mant.natAbs * 2 ^ k
    let q := n / b.mant.natAbs
    let q2 := 2 * q + (if n % b.mant.natAbs = 0 then 0 else 1)
    let s : Int := if (a.mant < 0) != (b.mant < 0) then -1 else 1
    rnd (s * (q2 : Int)) (a.expo - b.expo - (k : Int) - 1)

/-- Integer square root by bisection over the bits. -/
def isqrt (n : Nat) : Nat :=
  ((List.range (n.log2 / 2 + 1)).reverse).foldl (fun r i => if (r + 2 ^ i) * (r + 2 ^ i) ≤ n then r + 2 ^ i else r) 0

/-- Square root of a value that is not negative. -/
def sqrt (a : B64) : B64 :=
  if a.mant ≤ 0 then zero
  else
    let (m, e) := if a.expo % 2 = 0 then (a.mant.natAbs, a.expo) else (2 * a.mant.natAbs, a.expo - 1)
    let n := m * 2 ^ 112
    let r := isqrt n
    let r2 := 2 * r + (if r * r = n then 0 else 1)
    rnd r2 (e / 2 - 56 - 1)

/-- To the nearest 2^-32, ties to even (R279). -/
def fixed (a : B64) : Int :=
  let k := a.expo + 32
  if k ≥ 0 then a.mant * (2 ^ k.toNat : Nat) else shiftRound a.mant (-k).toNat

/-- Whole part. -/
def floor (a : B64) : Int := if a.expo ≥ 0 then a.mant * (2 ^ a.expo.toNat : Nat) else a.mant / (2 ^ (-a.expo).toNat : Nat)

end B64

/-! ## Profile of a move (R277, R278) -/

/-- A profile: start, peak and stop speed, times and the distances at the phase changes. -/
structure Profile where
  vs : B64
  vp : B64
  ve : B64
  ta : B64
  tc : B64
  td : B64
  da : B64
  sc : B64
  deriving DecidableEq, Repr

/-- 2. -/
def b64two : B64 := ⟨2, 0⟩

/-- End speeds of a move too short for them (R278). -/
def shorten (vs ve acc dec dist : B64) : B64 × B64 :=
  let vs2 := B64.mul vs vs
  let ve2 := B64.mul ve ve
  let dd := B64.mul (B64.mul b64two dec) dist
  let aa := B64.mul (B64.mul b64two acc) dist
  if B64.lt dd (B64.sub vs2 ve2) then (B64.sqrt (B64.add ve2 dd), ve)
  else if B64.lt aa (B64.sub ve2 vs2) then (vs, B64.sqrt (B64.add vs2 aa))
  else (vs, ve)

/-- The profile of a move over a distance (R277, R278). -/
def profile (vs0 vmax ve0 acc dec dist : B64) : Profile :=
  let (vs, ve) := shorten vs0 ve0 acc dec dist
  let vs2 := B64.mul vs vs
  let ve2 := B64.mul ve ve
  let vm2 := B64.mul vmax vmax
  let da := B64.div (B64.sub vm2 vs2) (B64.mul b64two acc)
  let dd := B64.div (B64.sub vm2 ve2) (B64.mul b64two dec)
  let (vp, tc) :=
    if B64.le (B64.add da dd) dist then (vmax, B64.div (B64.sub (B64.sub dist da) dd) vmax)
    else
      let n := B64.add (B64.add (B64.mul (B64.mul b64two (B64.mul acc dec)) dist) (B64.mul dec vs2)) (B64.mul acc ve2)
      (B64.sqrt (B64.div n (B64.add acc dec)), B64.zero)
  let ta := B64.div (B64.sub vp vs) acc
  let td := B64.div (B64.sub vp ve) dec
  let da' := B64.add (B64.mul vs ta) (B64.div (B64.mul acc (B64.mul ta ta)) b64two)
  ⟨vs, vp, ve, ta, tc, td, da', B64.add da' (B64.mul vp tc)⟩

/-- T of a profile. The order of the sum is the one that ends the worked feed move at tick 5,377 (DEDUCED, log entry 40). -/
def Profile.total (p : Profile) : B64 := B64.add p.ta (B64.add p.tc p.td)

/-- s(t) and the commanded speed for 0 ≤ t < T (R277). -/
def Profile.at (p : Profile) (acc dec t : B64) : B64 × B64 :=
  if B64.lt t p.ta then
    (B64.add (B64.mul p.vs t) (B64.div (B64.mul acc (B64.mul t t)) b64two), B64.add p.vs (B64.mul acc t))
  else if B64.lt t (B64.add p.ta p.tc) then (B64.add p.da (B64.mul p.vp (B64.sub t p.ta)), p.vp)
  else
    let tau := B64.sub (B64.sub t p.ta) p.tc
    (B64.sub (B64.add p.sc (B64.mul p.vp tau)) (B64.div (B64.mul dec (B64.mul tau tau)) b64two), B64.sub p.vp (B64.mul dec tau))

end Sys2Proof.Machine
end

