-- ==== Sys2Proof/Machine/Axes.lean ====
section
/-! DEFINITION. Axes (R273 to R285): states, requests, paths, ramps, gears; and the position bit that an axis can carry (R215). Ticks are in Machine/Motion.lean. -/

namespace Sys2Proof.Machine

/-! ## The position bit (R215) -/

/-- Axis a is enabled (R275). -/
def State.axisState (s : State) (a : Nat) : Nat := s.reg (0x2100 + 0x20 * a) 1
/-- STANDSTILL, MOVING, GEARED or STOPPING. -/
def State.axisOn (s : State) (a : Nat) : Bool := decide (1 ≤ s.axisState a) && decide (s.axisState a ≤ 4)

/-- The selected source delivers position (R215). -/
def State.delivers (s : State) : Bool :=
  match s.reg 0x2800 2 with
  | 1 => s.axisOn (s.reg 0x2800 3)
  | 2 => s.flag 0x8810 2
  | _ => true

/-- Brings POS up to date (R215): its loss while a page is PRINTING raises E201 at SEV3 and spoils. When it returns, lines whose t_pos had been reached are placed at this moment (R226). -/
def State.posCheck (s : State) : State :=
  let ok := s.delivers && s.loaded 4
  if ok = s.pos.posOk then s.setReady 14 ok
  else
    let s1 := ({ s with pos := { s.pos with posOk := ok, hist := if ok then [(s.pos.lam, s.clk.now)] else s.pos.hist } }).setReady 14 ok
    let printing := s.jobs.pages.any fun p => p.st == .printing
    let s2 := s1.raiseAt 201 (if !ok && printing then 3 else 0) (s.reg 0x2800 2 + b2n (!ok) * 256) 9 6 0 0
    if !ok then s2.spoilPrinting 15 else s2

/-! ## Axes -/

/-- Base index X of axis a (R293). -/
def axisIdx (a : Nat) : Nat := 0x2100 + 0x20 * a

/-- An axis that has never moved. -/
def Axis.idle : Axis := ⟨0, 0, none, [], 0, none, 0, none, none⟩
/-- The axis beside its objects. -/
def State.axis (s : State) (a : Nat) : Axis := sget Axis.idle s.motion.axes a
/-- Changes an axis. -/
def State.updAxis (s : State) (a : Nat) (f : Axis → Axis) : State :=
  { s with motion := { s.motion with axes := sset Axis.idle s.motion.axes a (f (s.axis a)) } }

/-- A position in 2^-32 units rounded to whole units, floor(p + 1/2) (R273). -/
def wholeUnits (p : Int) : Int := (p + 2 ^ 31) / 2 ^ 32

/-- Sets the commanded position of an axis, and shows it (R293). -/
def State.setAxisPos (s : State) (a : Nat) (p : Int) : State :=
  (s.updAxis a fun x => { x with pos := p }).setI64 (axisIdx a) 0x14 (wholeUnits p)
/-- Sets the commanded velocity in 2^-32 units/s. -/
def State.setAxisVel (s : State) (a : Nat) (v : Int) : State :=
  (s.updAxis a fun x => { x with vel := v }).set (axisIdx a) 0x15 (ofSigned 32 (wholeUnits v))

/-! ## Backup store (R392) -/

/-- Replaces bytes at an offset. -/
def patch (b : Bytes) (off : Nat) (new : Bytes) : Bytes := b.take off ++ new ++ b.drop (off + new.length)

/-- The 64 bytes of the backup store as they are read. -/
def State.backupBytes (s : State) : Bytes := fit 64 s.aon.backup
/-- The store is lost: its CRC fails. -/
def State.backupLost (s : State) : Bool := leAt s.backupBytes 60 4 != crc32c (s.backupBytes.take 60)
/-- The fields of the backup store: every one is taken as 0 where the store is lost. -/
def State.backupFields (s : State) : Bytes := if s.backupLost then zeros 64 else s.backupBytes
/-- Writes the fields of the backup store with their CRC, in one operation. -/
def State.putBackup (s : State) (b : Bytes) : State :=
  { s with aon := { s.aon with backup := fit 60 b ++ leBytes 4 (crc32c (fit 60 b)) } }

/-- The entry reason of 0x0030:04, which the backup store keeps (R392). -/
def State.noteReason (s : State) (reason : Nat) : State := (s.set 0x0030 4 reason).putBackup (patch s.backupFields 34 (leBytes 1 reason))

/-- Writes an axis into the backup store (R290). -/
def State.backupAxis (s : State) (a : Nat) : State :=
  let keep := s.flag (axisIdx a) 0x17 && s.flag (axisIdx a) 0x16
  let b := s.backupFields
  let pos := leBytes 8 (ofSigned 64 (wholeUnits (s.axis a).pos))
  let flags := setBit (leAt b 32 1) a keep
  let b1 := b.take (8 * a) ++ pos ++ b.drop (8 * a + 8)
  s.putBackup (b1.take 32 ++ leBytes 1 flags ++ b1.drop 33)

/-- Changes the state of an axis: E202 with its cause, at SEV2 for FAULT (R294); the backup store (R290); POS (R215). -/
def State.axisTo (s : State) (a new cause : Nat) : State :=
  let old := s.axisState a
  if old = new then s
  else
    let s1 := (s.set (axisIdx a) 1 new).raiseAt 202 (if new = 5 then 2 else 0) (a + new * 16 + old * 256 + cause * 4096) 10 6 0 0
    let s2 := if new = 0 ∨ new = 1 ∨ new = 6 then s1.backupAxis a else s1
    (if new = 2 ∨ new = 3 ∨ new = 4 then s2 else s2.setAxisVel a 0).posCheck

/-- MOT (R274). -/
def State.mot (s : State) : Bool := s.ready 15

/-- Servo period in ns (R274). -/
def State.servoNs (s : State) : Nat := 62500 * 2 ^ s.reg 0x2000 1
/-- The next servo tick's number. -/
def State.nextTick (s : State) : Nat := s.clk.now / s.servoNs + 1

/-- Time of tick k since a path's start tick, in s. -/
def State.tickTime (s : State) (n : Nat) : B64 := B64.div (B64.ofInt ((n * s.servoNs : Nat) : Int)) (B64.ofInt 1000000000)

/-- The path that carries an axis. -/
def State.pathOf (s : State) (a : Nat) : Option Path := (s.axis a).path.bind fun i => s.motion.paths.find? fun p => p.id == i

/-- The distance of a path, for the profile. -/
def Path.distB (p : Path) : B64 := B64.ofFixed p.dist
/-- The profile of a path. -/
def Path.prof (p : Path) : Profile := profile p.vs p.vmax p.ve p.acc p.dec p.distB

/-- Path position and speed at a tick, and whether the path has ended there (R279, R283). -/
def State.pathAt (s : State) (p : Path) (k : Nat) : B64 × B64 × Bool :=
  match p.ramp with
  | some (s0, v0, d, k0) =>
    let tau := s.tickTime (k - k0)
    let tEnd := B64.div v0 d
    let t := B64.min' tau tEnd
    (B64.sub (B64.add s0 (B64.mul v0 t)) (B64.div (B64.mul d (B64.mul t t)) b64two),
      if B64.le tEnd tau then B64.zero else B64.sub v0 (B64.mul d t), B64.le tEnd tau)
  | none =>
    let pr := p.prof
    let t := s.tickTime (k - p.tick)
    if p.dist = 0 ∨ B64.le pr.total t then (p.distB, B64.zero, true)
    else let (x, v) := pr.at p.acc p.dec t; (x, v, false)

/-- A member's share of a path value: exact product, truncated toward zero (R280). -/
def share (di dl v : Int) : Int := if dl = 0 then 0 else (di * v).tdiv dl

/-- The speed bound v_lim of the source axis (R281), for a port rate: T_min of R228 is the largest over the ports in service. -/
def State.fEff (s : State) (n : Nat) : Nat := min (s.reg 0x2831 (n + 1)) (s.reg 0x2830 5)
/-- T_min of port n in ns (R228). -/
def State.tMin (s : State) (n : Nat) : Nat := ceilDiv 1000000000 (s.fEff n)
/-- v_lim (R281). -/
def State.vLim (s : State) : Nat :=
  let t := (upTo 16).foldl (fun m n => if s.portIn n then max m (s.tMin n) else m) 1
  s.reg 0x2820 1 * 1023 * 1000000000 / (65536 * 1024 * t)

/-- The start of a move did not pass its checks: the result of R276. -/
abbrev MoveFail := Nat

/-- Profile set of an axis as latched (R281, R282): v_s, v_max, v_e, a, d. -/
def State.latchSet (s : State) (a : Nat) : List Nat :=
  let l := [4, 5, 6, 7, 8].map fun i => s.reg (axisIdx a) i
  if s.reg 0x2800 2 = 1 ∧ s.reg 0x2800 3 = a then
    (l.take 3).map (fun v => min v s.vLim) ++ l.drop 3
  else l

/-- Checks and starts a move of axis a with a group mask at tick k (R275, R276, R280, R291): `relative` and `target` are given by the caller for axis a. -/
def State.startMove (s : State) (a k : Nat) (relative : Bool) (target : Int) (mask : Nat) (feed : Bool) : State × MoveFail :=
  let group := a :: ((upTo 4).filter fun i => i != a && bit mask i)
  let rel := fun i => if i = a then relative else s.reg (axisIdx i) 0x0C == 1
  let tgt := fun i => if i = a then target else s.i64 (axisIdx i) 0x0B
  let badSet := fun i =>
    let l := [4, 5, 6, 7, 8].map fun k => s.reg (axisIdx i) k
    l.getD 0 0 > l.getD 1 0 || l.getD 2 0 > l.getD 1 0 || l.getD 1 0 == 0 || l.getD 3 0 == 0 || l.getD 4 0 == 0
  if group.any fun i => s.axisState i != 1 then (s, 7)
  else if group.any fun i => !rel i && !s.flag (axisIdx i) 0x16 then (s, 3)
  else if group.any badSet then (s, 2)
  else
    let dist := fun i => (if rel i then tgt i * 2 ^ 32 else tgt i * 2 ^ 32 - (s.axis i).pos : Int)
    let asc := (upTo 4).filter fun i => group.contains i
    let lead := asc.foldl (fun l i => if (dist i).natAbs > (dist l).natAbs then i else l) (asc.headD a)
    let dl := (dist lead).natAbs
    let par := fun k => group.foldl (fun (m : B64) i =>
      let v := B64.ofInt ((s.latchSet i).getD k 0 : Nat)
      if i = lead then B64.min' m v
      else if dist i = 0 then m
      else B64.min' m (B64.div (B64.mul v (B64.ofFixed (dl : Int))) (B64.ofFixed ((dist i).natAbs : Int)))) ⟨1, 200⟩
    let p : Path := ⟨s.motion.nextId, group.map fun i => (i, (s.axis i).pos, dist i), dl, k, par 0, par 1, par 2, par 3, par 4, none, feed⟩
    let s1 := { s with motion := { s.motion with paths := s.motion.paths ++ [p], nextId := s.motion.nextId + 1 } }
    let sh := shorten p.vs p.ve p.acc p.dec p.distB
    let own := (s.latchSet lead).map fun (v : Nat) => (v : Int)
    let shown := fun i => if i = lead then
        [if sh.1 = p.vs then own.getD 0 0 else B64.floor sh.1, own.getD 1 0, if sh.2 = p.ve then own.getD 2 0 else B64.floor sh.2, own.getD 3 0, own.getD 4 0]
      else (s.latchSet i).map fun (v : Nat) => (v : Int)
    (group.foldl (fun s i => ((s.updAxis i fun x => { x with path := some p.id }).setBytes (axisIdx i) 0x1C 0
      ((shown i).flatMap fun v => leBytes 4 v.toNat)).axisTo i 2 0) s1, 0)

/-- Decelerations of the four axes as object `sub` holds them now (R283). -/
def State.decs (s : State) (sub : Nat) : List Nat := (upTo 4).map fun i => s.reg (axisIdx i) sub

/-- Puts the group of an axis on a ramp from tick k (R283), with the cause of R294. -/
def State.stopGroup (s : State) (a k : Nat) (decs : List Nat) (cause : Nat) : State :=
  match s.pathOf a with
  | none => s
  | some p =>
    let (x, v, _) := s.pathAt p k
    let dec := p.members.foldl (fun (m : B64) (i, _, d) =>
      let r := B64.ofInt (decs.getD i 0 : Nat)
      if d.natAbs = p.dist.natAbs then B64.min' m r
      else if d = 0 then m
      else B64.min' m (B64.div (B64.mul r p.distB) (B64.ofFixed (d.natAbs : Int)))) ⟨1, 200⟩
    let p1 := { p with ramp := some (x, v, dec, k) }
    let s1 := { s with motion := { s.motion with paths := updWhere s.motion.paths (fun q => q.id == p.id) fun _ => p1 } }
    p.members.foldl (fun s (i, _, _) => s.axisTo i 4 cause) s1

/-- Where a geared axis stands at the tick after the last one, at the velocity of the last one (log entry 77). -/
def State.gearAhead (s : State) (a : Nat) : Int := (s.axis a).pos + (s.axis a).vel * (s.servoNs : Int) / 1000000000

/-- A geared axis leaves gearing at tick k on a ramp of its own, starting with its velocity of the previous tick (R283). -/
def State.stopGear (s : State) (a k : Nat) (decs : List Nat) (cause : Nat) : State :=
  let x := s.axis a
  let sgn : Int := if x.vel < 0 then -1 else 1
  let p : Path := ⟨s.motion.nextId, [(a, s.gearAhead a, sgn * 2 ^ 62)], 2 ^ 62, k, B64.zero, B64.zero, B64.zero, B64.ofInt 1, B64.ofInt 1,
    some (B64.zero, B64.ofFixed (x.vel.natAbs : Int), B64.ofInt (decs.getD a 0 : Nat), k), false⟩
  let s1 := { s with motion := { s.motion with paths := s.motion.paths ++ [p], nextId := s.motion.nextId + 1 } }
  (s1.updAxis a fun y => { y with gear := none, path := some p.id }).axisTo a 4 cause

/-- Stops a moving or geared axis from tick k (R275). -/
def State.stopAxis (s : State) (a k : Nat) (decs : List Nat) (cause : Nat) : State :=
  match s.axisState a with
  | 2 => s.stopGroup a k decs cause
  | 3 => s.stopGear a k decs cause
  | _ => s

/-- Entry to the safe state stops moving and geared axes on their fault ramps (R375). -/
def State.safeAxes (s : State) : State := [0, 1, 2, 3].foldl (fun s a => s.stopAxis a s.nextTick (s.decs 0x0A) 4) s

/-! ## Requests (R274, R275) -/

/-- Drive status POWERED and not FAULT (R289). -/
def State.driveOk (s : State) (a : Nat) : Bool := bit (s.reg (axisIdx a) 0x1B) 0 && !bit (s.reg (axisIdx a) 0x1B) 2

/-- ENC1 count (0x2811:03). -/
def State.enc1 (s : State) : Int := s.i64 0x2811 3

/-- The side of an entry's e_c the ENC1 count stands on when it becomes head (R285). -/
def sideOf (e ec : Int) : Int := if e < ec then -1 else if e > ec then 1 else 0

/-- Enable (R275). -/
def State.actEnable (s : State) (a : Nat) : State × Nat :=
  if !s.mot then (s, 4)
  else if s.axisState a ≠ 0 then (s, 1)
  else if !s.driveOk a then (s, 4)
  else ((if s.flag (axisIdx a) 0x16 then s else s.setAxisPos a (s.i64 (axisIdx a) 0x1A * 2 ^ 32)).axisTo a 1 0, 0)

/-- What every start asks for (R274, R275): MOT, else result 4; STANDSTILL, else result 1; not the safe state, else result 5. While STOPPING it is ignored. -/
def State.actStart (s : State) (a : Nat) (start : State × Nat) : State × Nat :=
  if !s.mot then (s, 4)
  else if s.axisState a = 4 then (s, 0)
  else if s.axisState a ≠ 1 then (s, 1)
  else if s.safe then (s, 5)
  else start

/-- Start gearing (R275, R284): the gear is anchored at the tick it acts (`fresh`). -/
def State.actGear (s : State) (a : Nat) : State × Nat :=
  let n := s.i32 (axisIdx a) 0x0E
  let m := s.reg (axisIdx a) 0x0F
  if n = 0 ∨ m = 0 then (s, 2)
  else ((s.updAxis a fun x => { x with gear := some ⟨x.pos, s.enc1, n, m, true⟩ }).axisTo a 3 0, 0)

/-- Clear fault (R275): otherwise result 6, E202 raised again. -/
def State.actClear (s : State) (a : Nat) : State × Nat :=
  if s.axisState a ≠ 5 then (s, 1)
  else if s.driveOk a && s.mot then (s.axisTo a 0 0, 0)
  else (s.raiseAt 202 2 (a + 5 * 16 + 5 * 256) 10 6 0 0, 6)

/-- What a request does at tick k, with its result (R275, R293). -/
def State.actAt (s : State) (a k : Nat) : AxisAct → State × Nat
  | .enable => s.actEnable a
  | .disable => if s.axisState a = 1 then (s.axisTo a 0 0, 0) else (s, 1)
  | .move => s.actStart a (s.startMove a k (s.reg (axisIdx a) 0x0C == 1) (s.i64 (axisIdx a) 0x0B) (s.reg (axisIdx a) 0x0D) false)
  | .stop decs =>
    match s.axisState a with
    | 2 | 3 => (s.stopAxis a k decs 0, 0)
    | 4 => (s, 0)
    | _ => (s, 1)
  | .gear => s.actStart a (s.actGear a)
  | .set =>
    if s.axisState a = 1 then (((s.setAxisPos a (s.i64 (axisIdx a) 0x13 * 2 ^ 32)).set (axisIdx a) 0x16 1).backupAxis a, 0)
    else (s, 1)
  | .clear => s.actClear a
  | .feed f =>
    let r := s.actStart a (s.startMove a k true f 0 true)
    (if r.2 = 0 then { r.1 with pos := { r.1.pos with feedPath := (r.1.axis a).path } } else r.1, r.2)

/-- A request that starts motion. -/
def AxisAct.starts : AxisAct → Bool
  | .move | .gear | .feed _ => true
  | .enable | .disable | .stop _ | .set | .clear => false

/-- Keeps the result of a request (:03). -/
def State.axisAnswer (s : State) (a r : Nat) : State × Bool := (s.set (axisIdx a) 3 r, r == 0)

/-- A request (R274, R275): its result is that of its row in the present state; accepted, it acts at the next tick. Clear fault refused raises E202 at once.
A stop that finds a start waiting for the same tick takes its place (R275: a stop in the same cycle as a start wins). -/
def State.axisRequest (s : State) (a : Nat) (act : AxisAct) : State × Bool :=
  let others := s.motion.acts.filter fun e => !(e.1 == a && e.2.starts)
  if (match act with | .stop _ => true | _ => false) && s.axisState a == 1 && others.length != s.motion.acts.length then
    { s with motion := { s.motion with acts := others } }.axisAnswer a 0
  else
    let r := s.actAt a s.nextTick act
    if r.2 = 0 then { s with motion := { s.motion with acts := s.motion.acts ++ [(a, act)] } }.axisAnswer a 0
    else (if r.2 = 6 then r.1 else s).axisAnswer a r.2

/-- Requests that were accepted act at tick k (R274), in the order of their acceptance; one whose row no longer holds leaves its result instead. -/
def State.actsAt (s : State) (k : Nat) : State :=
  let s1 := { s with motion := { s.motion with acts := [] } }
  s.motion.acts.foldl (fun s (a, act) =>
    let r := s.actAt a k act
    if r.2 = 0 then r.1 else r.1.set (axisIdx a) 3 r.2) s1

/-- Append to the ratio queue (R285): a full queue or a zero ratio gives result 2. -/
def State.gearAppend (s : State) (a : Nat) : State × Bool :=
  let b := s.bytes (axisIdx a) 0x10 0 16
  let r : Ratio := ⟨toSigned 64 (leAt b 0 8), toSigned 32 (leAt b 8 4), leAt b 12 4⟩
  let x := s.axis a
  if x.queue.length ≥ 16 ∨ r.num = 0 ∨ r.den = 0 then s.axisAnswer a 2
  else
    ((s.updAxis a fun x => { x with queue := x.queue ++ [r], side := if x.queue.isEmpty then sideOf s.enc1 r.at_ else x.side }).set (axisIdx a) 0x12 (x.queue.length + 1)).axisAnswer a 0

/-- Flush of the ratio queue (R285). -/
def State.gearFlush (s : State) (a : Nat) : State × Bool :=
  ((s.updAxis a fun x => { x with queue := [] }).set (axisIdx a) 0x12 0).axisAnswer a 0

/-- The master is lost (R286): every geared axis leaves gearing at tick k on its fault ramp and raises E205. -/
def State.masterLost (s : State) (k : Nat) : State :=
  [0, 1, 2, 3].foldl (fun s a => if s.axisState a = 3 then (s.stopGear a k (s.decs 0x0A) 5).raiseAt 205 2 a 10 6 0 0 else s) s

end Sys2Proof.Machine
end

