-- ==== Sys2Proof/Machine/Position.lean ====
section
/-! DEFINITION. Position sources, encoders, tracker, line clock (R214 to R224), pass sequencer (R233 to R237), module lags (R225, R234). -/

namespace Sys2Proof.Machine

/-! ## Line clock (R222, R223, R233) -/

/-- Raw line pitch p_raw (0x2820:01). -/
def State.pitch (s : State) : Nat := s.reg 0x2820 1
/-- Extreme H (0x2820:05). -/
def State.extreme (s : State) : Int := s.i64 0x2820 5
/-- Sequencer state (0x2870:0C). -/
def State.seqState (s : State) : Nat := s.reg 0x2870 0x0C

/-- T̂ in 1/256 ns, if interpolation is on and has its n intervals (R223). -/
def State.meanInterval (s : State) : Option Nat :=
  let n := 2 ^ s.reg 0x2820 4
  if s.flag 0x2820 3 ∧ s.pos.highs.length ≥ n + 1 then some (256 * (s.pos.highs.getD 0 0 - s.pos.highs.getD n 0) / n) else none

/-- q̂ at a time, in 2^-22 counts (R223). -/
def State.qHat (s : State) (t : Nat) : Int :=
  let h := s.extreme * 2 ^ 22
  match s.meanInterval with
  | none => h
  | some 0 => h
  | some m => min (h + (((t - s.pos.highs.getD 0 0) * 2 ^ 30 / m : Nat) : Int)) ((s.extreme + 1) * 2 ^ 22 - 1)

/-- Length Λp of a pass. -/
def State.passLen (s : State) : Nat := s.reg 0x2870 1
/-- Start D0_n of the present pass. -/
def State.passStart (s : State) : Nat := s.reg 0x2870 0x0E
/-- The pass runs REV. -/
def State.passRev (s : State) (n : Nat) : Bool := s.le 0x2871 0 (8 * (n % s.reg 0x2870 8) + 4) 1 == 1
/-- Feed f_n of a pass, ENC1 counts. -/
def State.passFeed (s : State) (n : Nat) : Int := toSigned 32 (s.le 0x2871 0 (8 * (n % s.reg 0x2870 8)) 4)

/-- Starting point Q of the present pass, in counts of its direction (R233). -/
def State.startPoint (s : State) : Int := if s.pos.rev then - s.i64 0x2870 3 else s.i64 0x2870 2

/-- Λ at a time (R222, R233): in shuttle mode the pass's lines, held outside PASS and PASS_END. -/
def State.lamAt (s : State) (t : Nat) : Nat :=
  if s.shuttle then
    if s.seqState = 1 ∨ s.seqState = 2 then
      (64 * (s.passStart : Int) + clampInt 0 (64 * s.passLen : Nat) ((s.qHat t - s.startPoint * 2 ^ 22) / s.pitch)).toNat
    else s.pos.lam
  else ((s.qHat t - s.pos.org) / s.pitch).toNat

/-! ## Lags and targets (R225, R234) -/

/-- Plane of a module: of its lowest-numbered segment not UNUSED in the active generation (R234). -/
def State.modulePlane (s : State) (mk : Nat) : Nat :=
  match (upTo 4096).find? fun i => s.render.active.jetState (4096 * mk + i) != 3 with
  | some i => s.render.active.jetPlane (4096 * mk + i)
  | none => 0

/-- Effective lag K_m of a module for the lines of pass n, before clamping (R225, R234). The alignment offsets are those latched at the start of the present pass; a later pass takes them as they stand at its own start. -/
def State.lagRaw (s : State) (mk : Nat) (n : Int) : Int :=
  let k : Int := s.reg (0x2840 + mk / 4) (mk % 4 + 1)
  if !s.shuttle then k
  else
    let rev := s.passRev n.toNat
    let b := if s.reg 0x2870 0x0C = 0 ∨ n > s.reg 0x2870 0x0D then s.bytes 0x2872 0 0 32 else s.pos.align
    let o := toSigned 16 (leAt b (4 * s.modulePlane mk + (if rev then 2 else 0)) 2)
    (if rev then (s.reg 0x2870 4 : Int) - k else k) + o

/-- Effective lag K_m in sub-ticks for a row-counter line (R234: clamped); the line's pass gives the direction. -/
def State.lag (s : State) (mk row : Nat) : Nat := (clampInt 0 524287 (s.lagRaw mk (s.passOf row))).toNat

/-- E200 for every module whose lag is clamped in pass n, which starts (R234). -/
def State.clampEvents (s : State) (n : Nat) : State :=
  (upTo 64).foldl (fun s mk => if s.lagRaw mk n < 0 ∨ s.lagRaw mk n > 524287 then
    s.raise 200 0 (mk / 4 + mk % 4 * 16 + b2n (s.passRev n) * 64) else s) s

/-- Target sub-tick σ of line y of instance i on module mk (R225). -/
def State.target (s : State) (p : Page) (inst line mk : Nat) : Nat := 64 * (p.instStart inst + line) + s.lag mk (p.instStart inst + line)

/-- Lowest target sub-tick of the first line of an instance and highest of its last, over the modules that carry the page (R237). -/
def State.targetSpan (s : State) (p : Page) (inst : Nat) : Nat × Nat :=
  let mods := (upTo 64).filter fun mk => bit p.ports (mk / 4)
  let firsts := mods.map fun mk => s.target p inst 0 mk
  let lasts := mods.map fun mk => s.target p inst (p.len - 1) mk
  (firsts.foldl min (firsts.getD 0 (64 * p.instStart inst)), lasts.foldl max (64 * (p.instStart inst + p.len - 1)))

/-! ## Feed (R236) -/

/-- The feed of the pass is complete. -/
def State.feedDoneNow (s : State) : State := { s with pos := { s.pos with feedDone := true } }

/-- Entry to PASS_END (R235, R236): starts feed f_n as the feed mode says. -/
def State.startFeed (s : State) : State :=
  let n := s.reg 0x2870 0x0D
  let f := s.passFeed n
  match s.reg 0x2870 5 with
  | 0 => s.feedDoneNow
  | 1 =>
    let a := s.reg 0x2870 6
    ({ s with pos := { s.pos with feedDone := false, feedDue := f, feedPath := none } }.axisRequest a (.feed f)).1
  | _ => { s with pos := { s.pos with feedDone := false, feedDue := f, feedBase := s.enc1 } }

/-- Λ leaves 64 × D0 of a pass after the first (R236): with the feed incomplete E198, and every instance with targets in the pass is spoiled. -/
def State.checkFeed (s : State) : State :=
  if s.shuttle && s.seqState == 1 && !s.pos.feedChecked && decide (s.pos.lam > 64 * s.passStart) then
    let s1 := { s with pos := { s.pos with feedChecked := true } }
    if s.pos.feedDone then s1
    else
      let hi := s.passStart + s.passLen
      let s2 := { s1 with pos := { s1.pos with badFeeds := s1.pos.badFeeds ++ [(s.passStart, hi)] } }
      let s3 := s2.raiseAt 198 3 (s.reg 0x2870 0x0D) 9 6 0 0
      s3.jobs.pages.foldl (fun s p =>
        p.live.foldl (fun s i => if (s.targetSpan p i.idx).1 < 64 * hi ∧ 64 * s.passStart ≤ (s.targetSpan p i.idx).2 then s.spoil p.num i.idx 15 (s.pos.lam / 64 - p.instStart i.idx) 0xFF else s) s) s3
  else s

/-! ## Advancing the line clock -/

/-- Pages that no port carries cast on and bind off at row-counter lines S_i and S_i + L − 1 (R466). -/
def State.unported (s : State) : State :=
  s.jobs.pages.foldl (fun s p =>
    if !p.st.active || p.ports != 0 || !s.pos.posOk then s
    else
      (upTo (min p.insts (p.cast + 2))).foldl (fun s i =>
        match s.page p.num with
        | none => s
        | some q =>
          let s1 := if i = q.cast ∧ s.row ≥ q.instStart i ∧ q.st.active then s.castOn p.num i (s.targetSpan q i).1 (s.targetSpan q i).2 else s
          if s.row ≥ q.instStart i + q.len - 1 then s1.bindOff p.num i else s1) s) s

/-- The carriage passes the starting point Q of the present pass (R233). -/
def State.passStarting (s : State) (t : Nat) : State :=
  if s.shuttle && s.seqState == 1 && s.pos.startAt.isNone && decide (s.startPoint * 2 ^ 22 ≤ s.qHat t) then { s with pos := { s.pos with startAt := some t } } else s

/-- Λ reaches a higher value at a time (R223): row counter, history, end of the pass, feed check, pages without a port. -/
def State.advance (s : State) (t : Nat) : State :=
  let s := s.passStarting t
  let l := s.lamAt t
  if l ≤ s.pos.lam then s
  else
    let rows := l / 64 - s.pos.lam / 64
    let keep := s.jobs.pages.any fun p => p.st.active
    let s1 := { s with pos := { s.pos with lam := l, lines := List.replicate rows t ++ s.pos.lines,
                                           hist := (l, t) :: (if keep then s.pos.hist else s.pos.hist.take 1) } }
    let s2 := s1.checkFeed
    let s3 := if s2.shuttle && s2.seqState == 1 && decide (l ≥ 64 * (s2.passStart + s2.passLen)) then (s2.set 0x2870 0x0C 2).startFeed else s2
    if rows = 0 then s3 else s3.unported

/-- SUB_TICK_REACHED (R223): the estimate reaches a sub-tick; while POS is 0 the tracker holds (R215). -/
def State.subTick (s : State) : State := if s.pos.posOk then s.advance s.clk.now else s

/-- Starts the interpolation history again (R223); no line rate is measured since (R467). -/
def State.restartClock (s : State) : State := { s with pos := { s.pos with highs := [], measured := false } }

/-! ## Tracker (R219, R220) -/

/-- Starts the next pass (R235). `q` is the count, in the new pass's direction. -/
def State.nextPass (s : State) : State :=
  let n := s.reg 0x2870 0x0D + 1
  let rev := s.passRev n
  let s1 := (((s.set 0x2870 0x0D (n % 2 ^ 32)).set 0x2870 0x0E (s.passStart + s.passLen)).set 0x2870 0x0C 1).setI64 0x2820 5 (if rev then - s.pos.src else s.pos.src)
  let s2 := { s1 with pos := { s1.pos with rev := rev, feedChecked := false, align := s1.bytes 0x2872 0 0 32, inBand := true, atH := true, startAt := none } }
  ((s2.restartClock.raise 197 0 (n % 2 ^ 32 + b2n rev * 2 ^ 32)).clampEvents (n % 2 ^ 32)).passStarting s.clk.now

/-- A reversal (R219) by print mode and sequencer state (R220, R233, R235). Every one starts the line clock's history and rate again (R223, R467); in single-pass mode no line fires until q exceeds H. -/
def State.reversal (s : State) : State :=
  let s1 := (s.bump 0x2820 0x0A).restartClock
  let fault := fun (s : State) => (s.raiseAt 192 3 (s.row % 2 ^ 48 + s.seqState * 2 ^ 48) 9 6 0 0).spoilPrinting 11
  if !s.shuttle then fault { s1 with pos := { s1.pos with hold := true } }
  else
    match s.seqState with
    | 1 => fault s1
    | 2 =>
      if s1.passRev (s.reg 0x2870 0x0D + 1) != s1.passRev (s.reg 0x2870 0x0D) then s1.nextPass
      else
        let rev := !s1.pos.rev
        (({ s1 with pos := { s1.pos with rev := rev, inBand := true, atH := true } }).set 0x2870 0x0C 3).setI64 0x2820 5 (if rev then - s1.pos.src else s1.pos.src)
    | 3 => s1.nextPass
    | _ => s1

/-- One tracked coordinate q at a time (R219). At the start of a pass H follows a backward movement, which counts one excursion (R233).
A new high after a reversal lets lines fire again: those whose t_pos had been reached by then are placed at it (R220, R226). -/
def State.track (s : State) (q : Int) (t : Nat) : State :=
  let h := s.extreme
  if q > h then
    let s1 := (s.setI64 0x2820 5 q)
    ({ s1 with pos := { s1.pos with
      highs := (t :: s1.pos.highs).take 17, atH := true, inBand := true, hold := false, hist := if s.pos.hold then [(s.pos.lam, t)] else s.pos.hist } }).advance t
  else if q = h then { s with pos := { s.pos with atH := true, inBand := true } }
  else
    let band : Int := s.reg 0x2820 2
    let excursion := fun (s : State) => if s.pos.atH then ({ s with pos := { s.pos with atH := false } }).bump 0x2820 9 else s
    if s.shuttle ∧ s.seqState = 1 ∧ s.pos.lam ≤ 64 * s.passStart then (excursion s).setI64 0x2820 5 q
    else if h - q ≤ band then excursion { s with pos := { s.pos with inBand := true } }
    else if s.pos.inBand then ({ s with pos := { s.pos with inBand := false } }).reversal
    else s

/-- A count of the selected source reaches the tracker (R214): held while POS is 0 (R215). -/
def State.present (s : State) (c : Int) (t : Nat) : State :=
  let s1 := { s with pos := { s.pos with src := c } }
  if !s1.pos.posOk then s1 else s1.track (if s1.pos.rev then - c else c) t

/-- A count of this device's own source (R439): a board master presents it the board delay later. -/
def State.ownCount (s : State) (c : Int) (t : Nat) : State :=
  if s.onBoard && s.isMaster then
    { s with pos := { s.pos with future := s.pos.future ++ [(c, t + s.reg 0x8810 1)] }, board := { s.board with spos := some (c, t) } }
  else s.present c t

/-! ## Encoders (R216, R217) -/

/-- Accepted levels of encoder e: A + 2 × B. -/
def State.levels (s : State) (e : Nat) : Nat := sget 0 s.pos.levels e

/-- Both signals changed in one sample (R216): counted, E195 at most once per ms; on ENC1 the gear master is lost (R286). -/
def State.illegalEdge (s : State) (e : Nat) : State :=
  let s1 := s.bump (0x2810 + e) 4
  let last := sget 0 s.pos.illegal e
  if last = 0 ∨ s.clk.now + 1 ≥ last + 1000000 then
    let s2 := ({ s1 with pos := { s1.pos with illegal := sset 0 s1.pos.illegal e (s.clk.now + 1) } }).raiseAt 195 2 e 9 6 0 0
    if e = 1 then s2.masterLost s2.nextTick else s2
  else s1

/-- New accepted levels of an encoder at a time (R216): ×4 decoding, a rising edge of A while B is low counts up. -/
def State.encoderEdge (s : State) (e : Nat) (a b : Bool) (t : Nat) : State :=
  let old := s.levels e
  let oa := bit old 0
  let ob := bit old 1
  let s1 := { s with pos := { s.pos with levels := sset 0 s.pos.levels e (b2n a + 2 * b2n b) } }
  if oa = a ∧ ob = b then s1
  else if oa ≠ a ∧ ob ≠ b then s1.illegalEdge e
  else
    let up := (if oa ≠ a then a != b else a == b) != s.flag (0x2810 + e) 2
    let c := s.i64 (0x2810 + e) 3 + (if up then 1 else -1)
    let s2 := s1.setI64 (0x2810 + e) 3 c
    let recent := (sget [] s2.pos.rates e).filter fun u => decide (s.clk.now < u + 1000000)
    let s3 := { s2 with pos := { s2.pos with rates := sset [] s2.pos.rates e (t :: recent) } }
    if e = 0 ∧ s.reg 0x2800 2 = 0 then s3.ownCount c t else s3

/-- Level at the pin of signal k (0 A, 1 B) of an encoder, and the time of the first sample that had it. -/
def State.pinLevel (s : State) (e k : Nat) : Nat × Nat := sget (0, 0) s.pos.raw (2 * e + k)

/-- When the new level of a signal is accepted, before a bound (R216): it has then been stable for F + 1 samples. -/
def State.acceptAt (s : State) (e k bound : Nat) : Option Nat :=
  let t := (s.pinLevel e k).2 + s.reg (0x2810 + e) 1
  if (s.pinLevel e k).1 ≠ b2n (bit (s.levels e) k) ∧ t < bound then some t else none

/-- Accepts the level of one signal. -/
def State.acceptOne (s : State) (e k t : Nat) : State :=
  let new := (s.pinLevel e k).1 == 1
  s.encoderEdge e (if k = 0 then new else bit (s.levels e) 0) (if k = 0 then bit (s.levels e) 1 else new) t

/-- Accepts the levels of an encoder that are due before a bound, the earlier first; both in one sample is an illegal transition (R216). -/
def State.acceptLevels (s : State) (e bound : Nat) : State :=
  match s.acceptAt e 0 bound, s.acceptAt e 1 bound with
  | none, none => s
  | some t, none => s.acceptOne e 0 t
  | none, some t => s.acceptOne e 1 t
  | some ta, some tb =>
    if ta = tb then s.encoderEdge e ((s.pinLevel e 0).1 == 1) ((s.pinLevel e 1).1 == 1) ta
    else if ta < tb then (s.acceptOne e 0 ta).acceptOne e 1 tb
    else (s.acceptOne e 1 tb).acceptOne e 0 ta

/-- A sample of the pins of an encoder: a level that differs from the last starts its filter again. -/
def State.samplePins (s : State) (e : Nat) (a b : Bool) : State :=
  let one := fun (s : State) (k : Nat) (v : Bool) =>
    if (s.pinLevel e k).1 = b2n v then s else { s with pos := { s.pos with raw := sset (0, 0) s.pos.raw (2 * e + k) (b2n v, s.clk.now) } }
  one (one s 0 a) 1 b

/-- The levels at an encoder's pins now (R216): those before were stable until the sample before this one. -/
def State.encoderPins (s : State) (e : Nat) (a b : Bool) : State :=
  ((s.acceptLevels e s.clk.now).samplePins e a b).acceptLevels e (s.clk.now + 1)

/-- Set-point of an axis at the next servo tick, and its speed: where its path takes it, on a gear where its velocity takes it (log entry 77), else its present position (R279, R280, R288). -/
def State.axisNext (s : State) (a : Nat) : Int × Int :=
  match s.pathOf a with
  | none => if s.axisState a = 3 then (s.gearAhead a, (s.axis a).vel) else ((s.axis a).pos, (s.axis a).vel)
  | some p =>
    let (x, v, fin) := s.pathAt p (s.reg 0x2000 6 + 1)
    match p.members.find? fun m => m.1 == a with
    | none => ((s.axis a).pos, 0)
    | some (_, st, d) => (if fin && p.ramp.isNone then st + d else st + share d p.dist x.fixed, share d p.dist v.fixed)

/-- Commanded position of the source axis between ticks, in 2^-32 units (R287): linear over the servo period. -/
def State.axisNow (s : State) (a : Nat) : Int :=
  let lo := (s.axis a).pos
  lo + ((s.axisNext a).1 - lo) * ((s.clk.now % s.servoNs : Nat) : Int) / (s.servoNs : Int)

/-- First nanosecond at which the interpolated position of the source axis reaches count c (R287). -/
def State.axisReaches (s : State) (a : Nat) (c : Int) : Nat :=
  let lo := (s.axis a).pos
  let d := (s.axisNext a).1 - lo
  let way := (c * 2 ^ 32 - lo).natAbs
  if (c * 2 ^ 32 - lo) * d ≤ 0 then s.clk.now
  else min s.clk.now (s.clk.now / s.servoNs * s.servoNs + ceilDiv (way * s.servoNs) d.natAbs)

/-- First nanosecond at which the generator's accumulator passes the multiple of count c (R214). -/
def State.genReaches (s : State) (c : Int) : Nat := s.clk.now - (s.pos.gen - c.toNat * 65536000) / s.reg 0x2800 4

/-- Count of counts of the internal generator: one for each 65,536,000 accumulated (R214). -/
def State.genCount (s : State) : Int := (s.pos.gen / 65536000 : Nat)

/-- The present count of a source (R214). -/
def State.sourceCount (s : State) (src axis : Nat) : Int :=
  match src with
  | 0 => s.i64 0x2810 3
  | 1 => s.axisNow axis / 2 ^ 32
  | 2 => match s.board.spos with | some (c, _) => c | none => 0
  | _ => s.genCount

/-- The next count that is due from a source other than an encoder input (R214, R287, R439). -/
def State.otherStep (s : State) : State :=
  match s.pos.future with
  | (c, t) :: rest =>
    if t ≤ s.clk.now then ({ s with pos := { s.pos with future := rest } }).present c t else s
  | [] =>
    match s.reg 0x2800 2 with
    | 1 =>
      let a := s.reg 0x2800 3
      if s.axisNow a ≥ (s.pos.src + 1) * 2 ^ 32 then s.ownCount (s.pos.src + 1) (s.axisReaches a (s.pos.src + 1))
      else if s.axisNow a ≤ (s.pos.src - 1) * 2 ^ 32 then s.ownCount (s.pos.src - 1) (s.axisReaches a (s.pos.src - 1))
      else s
    | 3 => if s.genCount > s.pos.src then s.ownCount (s.pos.src + 1) (s.genReaches (s.pos.src + 1)) else s
    | _ => s

/-- The counts that are due: encoder levels that have been stable long enough (R216), and the next one of another source. -/
def State.sourceStep (s : State) : State := ((s.acceptLevels 0 (s.clk.now + 1)).acceptLevels 1 (s.clk.now + 1)).otherStep

/-- A gated rising edge of Z (R217). -/
def State.indexEdge (s0 : State) (e : Nat) : State :=
  let s := s0.acceptLevels e (s0.clk.now + 1)
  let gate := s.reg (0x2810 + e) 7
  let lv := s.levels e
  let code := match lv with | 0 => 0 | 1 => 1 | 3 => 2 | _ => 3
  if gate ≠ 4 ∧ gate ≠ code then s
  else
    let c := s.reg (0x2810 + e) 3
    let s1 := ((s.set (0x2810 + e) 5 c).set (0x2810 + e) 6 s.clk.now).raise 196 0 (e + c % 2 ^ 32 * 2 ^ 32)
    let q := s.reg (0x2810 + e) 8
    if q = 0xFF then s1
    else s1.ringWrite q 0x21 c (s.clk.now % 2 ^ 32 + s.stampEpoch * 2 ^ 32 + s.clk.now / 2 ^ 32 % 2 ^ 16 * 2 ^ 48) (e + code * 2)

/-! ## Settings that move the tracker (R214, R221, R224, R2) -/

/-- Moves the origin so that Λ stays for a q̂ and a pitch (R214, R224). -/
def State.anchor (s : State) (q : Int) (p : Nat) : State := { s with pos := { s.pos with org := q - s.pos.lam * p } }

/-- A change of position source or source axis (R214). -/
def State.sourceChange (s : State) (src axis : Nat) : State :=
  let s1 := (s.set 0x2800 2 src).set 0x2800 3 axis
  if s.reg 0x2800 2 = src ∧ (src ≠ 1 ∨ s.reg 0x2800 3 = axis) then s1
  else
    let c := s1.sourceCount src axis
    let q := if s1.pos.rev then -c else c
    let s2 := { s1 with pos := { s1.pos with src := c, future := [], atH := true, inBand := true } }
    ((s2.setI64 0x2820 5 q).anchor (q * 2 ^ 22) s2.pitch).restartClock.posCheck

/-- A change of line pitch (R224). -/
def State.pitchChange (s : State) (p : Nat) : State := (s.anchor (s.qHat s.clk.now) p).set 0x2820 1 p

/-- A change of print mode (R2, R235): the sequencer is IDLE in single-pass mode; the line clock keeps its sub-tick position (log entry 41). -/
def State.modeChange (s : State) (m : Nat) : State :=
  let s1 := s.set 0x2800 1 m
  if s.reg 0x2800 1 = m then s1
  else if m = 0 then
    let q := s1.pos.src
    let s2 := (({ s1 with pos := { s1.pos with rev := false, atH := true, inBand := true } }).set 0x2870 0x0C 0).setI64 0x2820 5 q
    (s2.anchor (q * 2 ^ 22) s2.pitch).restartClock
  else s1

/-- Latest own count of a board master and the board time at which it arose (R438). -/
def State.latestCount (s : State) : Int × Nat := match s.board.spos with | some r => r | none => (s.pos.src, s.clk.now)

/-- Body of POS_FULL (R442). -/
def State.posFull (s : State) : Bytes :=
  leBytes 8 (ofSigned 64 s.latestCount.1) ++ leBytes 8 (s.reg 0x2820 5) ++ leBytes 8 (ofSigned 64 s.pos.org) ++ leBytes 4 s.pitch ++ zeros 4 ++ leBytes 8 s.latestCount.2

/-- Set row counter (R221): refused while a page is active or the sequencer is not IDLE; on a board follower (R438). -/
def State.setRow (s : State) : State × Bool :=
  if s.pagesActive || s.seqState != 0 || (s.onBoard && !s.isMaster) then (s, false)
  else
    let n := s.reg 0x2820 0x0B
    let s1 := { s with pos := { s.pos with org := s.extreme * 2 ^ 22 - 64 * (n : Int) * s.pitch, lam := 64 * n, hist := [(64 * n, s.clk.now)] }
                       jobs := { s.jobs with lastEnd := none } }
    let s2 := s1.restartClock
    (if s2.onBoard then s2.smsg 1 0xFF 0 s2.posFull else s2, true)

/-- Arms the sequencer (R235): Λ is 64 × D0_0, the row counter at this moment, until the carriage passes Q (R233). -/
def State.seqArm (s : State) : State × Bool :=
  if s.seqState ≠ 0 then (s, true)
  else if !s.shuttle || !s.pos.posOk then (s.set 0x2870 0x0F 1, false)
  else
    let rev := s.passRev 0
    let s1 := ((((s.set 0x2870 0x0C 1).set 0x2870 0x0D 0).set 0x2870 0x0E s.row).setI64 0x2820 5 (if rev then - s.pos.src else s.pos.src)).set 0x2870 0x0F 0
    let s2 := { s1 with pos := { s1.pos with
      rev := rev, feedDone := true, feedChecked := true, align := s1.bytes 0x2872 0 0 32, inBand := true, atH := true, startAt := none, badFeeds := []
      lam := 64 * s.row, hist := s1.pos.hist.map fun (e : Nat × Nat) => (min e.1 (64 * s.row), e.2) } }
    (((s2.restartClock.raise 197 0 (b2n rev * 2 ^ 32)).clampEvents 0).advance s.clk.now, true)

/-- Stops the sequencer (R235): refused with result 2 while pages are active. -/
def State.seqStop (s : State) : State × Bool :=
  if s.seqState = 0 then (s, true)
  else if s.pagesActive then (s.set 0x2870 0x0F 2, false)
  else ((s.set 0x2870 0x0C 0).set 0x2870 0x0F 0, true)

/-- FEED_COMPLETE (R236): an external feed is complete when ENC1 differs from the latched count by f_n within the tolerance. A feed move is complete at its end, the servo tick that ends it (R279, R291). -/
def State.feedCheck (s : State) : State :=
  if s.reg 0x2870 5 = 2 ∧ s.pos.feedDone = false ∧ (s.enc1 - s.pos.feedBase - s.pos.feedDue).natAbs ≤ s.reg 0x2870 7 then s.feedDoneNow
  else s

/-- The line rate from the lines of the last 10 ms (R224). -/
def State.measureRate (s : State) : State :=
  let l := s.pos.lines.filter fun t => decide (s.clk.now < t + 10000000)
  ({ s with pos := { s.pos with lines := l, measured := true } }).set 0x2820 8 (l.length * 100)

end Sys2Proof.Machine
end

