-- ==== Sys2Proof/Machine/Motion.lean ====
section
/-! DEFINITION. Servo ticks, set-point and status frames, drive loss, retention (R274, R279 to R290). -/

namespace Sys2Proof.Machine

/-- The FN link state an output port needs for a servo period (R274). -/
def servoSpeed (code : Nat) : Nat := match code with | 0 => 3 | 1 => 2 | 2 => 2 | _ => 1

/-- Takes an axis off its path; a path with no member left is gone. -/
def State.leavePath (s : State) (a : Nat) : State :=
  match (s.axis a).path with
  | none => s
  | some i => { s.updAxis a fun x => { x with path := none } with motion :=
      { (s.updAxis a fun x => { x with path := none }).motion with paths := s.motion.paths.filter fun p => p.id != i } }

/-- An axis enters FAULT with a cause (R275). -/
def State.faultAxis (s : State) (a cause : Nat) : State :=
  ((s.leavePath a).updAxis a fun x => { x with gear := none }).axisTo a 5 cause

/-- The axes an event on axis a acts on: its group's (R275, R280). -/
def State.groupOf (s : State) (a : Nat) : List Nat :=
  match s.pathOf a with
  | some p => p.members.map (·.1)
  | none => [a]

/-- Field port fn is up at the speed the servo period needs or faster (R274). -/
def State.motPort (s : State) (fn : Nat) : Bool :=
  let l := s.reg 0x1800 (1 + fn)
  l != 4 && decide (servoSpeed (s.reg 0x2000 1) ≤ l)

/-- Brings MOT (bit 15) up to date (R274): when it falls, every enabled axis enters FAULT with cause 2. -/
def State.motCheck (s : State) : State :=
  let up := s.motPort (s.reg 0x2000 3)
  let ok := s.flag 0x2000 2 && up && s.loaded 4
  let s1 := s.setReady 15 ok
  if ok then s1 else [0, 1, 2, 3].foldl (fun s a => if s.axisOn a then s.faultAxis a 2 else s) s1

/-- One path at tick k (R279, R280, R283): positions and speeds of its members; at its end STANDSTILL, and E204 for a move. -/
def State.tickPath (s : State) (k : Nat) (p : Path) : State :=
  let (x, v, fin) := s.pathAt p k
  let s1 := p.members.foldl (fun s (a, st, d) =>
    let pos := if fin && p.ramp.isNone then st + d else st + share d p.dist x.fixed
    (s.setAxisPos a pos).setAxisVel a (if fin then 0 else share d p.dist v.fixed)) s
  if !fin then s1
  else
    let s2 := { s1 with motion := { s1.motion with paths := s1.motion.paths.filter fun q => q.id != p.id } }
    let s3 : State := p.members.foldl (fun (s : State) (a, _, _) =>
      let s4 := (s.updAxis a fun x => { x with path := none }).axisTo a 1 0
      if p.ramp.isSome then s4
      else (s4.raise 204 0 (a + s4.reg (axisIdx a) 0x14 % 2 ^ 32 * 2 ^ 32)).count (axisIdx a) 0x1D 32 1) s2
    if s3.pos.feedPath == some p.id && p.ramp.isNone then s3.feedDoneNow else s3

/-- N × (e − e0) / M in 2^-32 units, floored (R284). -/
def Gear.at (g : Gear) (e : Int) : Int := g.p0 + g.num * (e - g.e0) * 2 ^ 32 / (g.den : Int)

/-- Applies the ratio changes that are due at a tick (R285): an entry becomes head where the one before it applied, at that one's e_c. -/
def applyRatios (e : Int) : Nat → Gear → Int → List Ratio → Nat → Gear × Int × List Ratio × Nat
  | 0, g, side, q, n => (g, side, q, n)
  | _ + 1, g, side, [], n => (g, side, [], n)
  | fuel + 1, g, side, r :: q, n =>
    if side = 0 ∨ (side < 0 ∧ r.at_ ≤ e) ∨ (side > 0 ∧ e ≤ r.at_) then
      let side1 := match q with | r1 :: _ => sideOf r.at_ r1.at_ | [] => 0
      applyRatios e fuel ⟨g.at r.at_, r.at_, r.num, r.den, false⟩ side1 q (n + 1)
    else (g, side, r :: q, n)

/-- A geared axis at a tick (R284, R285). -/
def State.tickGear (s : State) (a : Nat) : State :=
  let x := s.axis a
  match x.gear with
  | none => s
  | some g =>
    let g0 := if g.fresh then { g with p0 := x.pos, e0 := s.enc1, fresh := false } else g
    let (g1, side, q, n) := applyRatios s.enc1 16 g0 x.side x.queue 0
    let p := g1.at s.enc1
    let s1 := ((s.updAxis a fun x => { x with gear := some g1, side := side, queue := q }).set (axisIdx a) 0x12 q.length).setAxisPos a p
    let s2 := s1.setAxisVel a ((p - x.pos) * 1000000000 / (s.servoNs : Int))
    (upTo n).foldl (fun s i => s.raise 206 0 (a + (q.length + (n - 1 - i)) * 16)) s2

/-- The set-point frame of tick k (R288). -/
def State.setpointFrame (s : State) (k : Nat) : Bytes :=
  let t := (k + 1) * s.servoNs
  let entry := fun (a : Nat) =>
    let (p, v) := s.axisNext a
    leBytes 8 (ofSigned 64 (wholeUnits p)) ++ leBytes 4 (ofSigned 32 (wholeUnits v))
      ++ leBytes 2 (b2n (s.axisOn a) + (if s.axisState a = 5 ∨ s.axisState a = 6 then 2 else 0)) ++ zeros 2
  let b := leBytes 2 0x434D ++ [1, 1] ++ leBytes 2 (k + 1) ++ [0x0F] ++ leBytes 1 (b2n s.safe) ++ leBytes 4 t ++ leBytes 2 (s.epochAt t)
    ++ leBytes 2 (t / 2 ^ 32) ++ [0, 1, 2, 3].flatMap entry
  b ++ leBytes 4 (crc32c b)

/-- The latest entry that axis a accepted since the last tick is used at this one (R289, R275): actual position, drive status without its reserved bits (R11), drive fault, end of RETAINED; a tick without one is counted. -/
def State.driveEntry (s : State) (a : Nat) : State :=
  match (s.axis a).entry with
  | none => s.updAxis a fun x => { x with missed := x.missed + 1 }
  | some (pos, word) =>
    let status := word &&& 0xFF07
    let s1 := ((s.updAxis a fun x => { x with actual := some (pos, status), missed := 0, entry := none }).setI64 (axisIdx a) 0x1A pos).set (axisIdx a) 0x1B status
    if bit status 2 ∧ s1.axisOn a then
      (s.groupOf a).foldl (fun s i => ((s.faultAxis i 3).setAxisPos i (s.i64 (axisIdx i) 0x1A * 2 ^ 32))) s1
    else if s1.axisState a = 6 ∧ bit status 0 then
      let far := decide ((pos - s1.i64 (axisIdx a) 0x14).natAbs > s1.reg (axisIdx a) 0x18)
      let s2 := if far then (s1.set (axisIdx a) 0x16 0).raise 207 0 (a + 1 * 256) else s1
      s2.axisTo a 0 0
    else s1

/-- The gears' master moved by more than the step limit since the last tick (R286). -/
def State.stepCheck (s : State) (k : Nat) : State :=
  let lim := s.reg 0x2000 9
  if lim ≠ 0 ∧ (s.enc1 - s.motion.enc1).natAbs > lim then s.masterLost k else s

/-- The set-point frame of a tick goes out while MOT is 1 (R288), to the destination of 0x2000:04. -/
def State.sendSetpoints (s : State) (k : Nat) : State :=
  if s.mot then
    let s1 := (s.send (.motion (s.reg 0x2000 3) (s.bytes 0x2000 4 0 16)) (s.setpointFrame k)).count 0x2000 7 64 1
    { s1 with motion := { s1.motion with sentCycles := (((k + 1) % 2 ^ 16) :: s1.motion.sentCycles).take 16 } }
  else s

/-- A servo tick (R274, R279 to R286, R288): the next one that device time has reached. The entries accepted since the last tick are used, the requests accepted since then act, paths and gears are evaluated, the frame goes out. -/
def State.servoTick (s : State) : State :=
  let k := s.clk.now / s.servoNs
  if k ≤ s.reg 0x2000 6 then s
  else
    let s1 := [0, 1, 2, 3].foldl State.driveEntry (s.set 0x2000 6 k)
    let s2 := (s1.stepCheck k).actsAt k
    let s3 := s2.motion.paths.foldl (fun s p => s.tickPath k p) s2
    let s4 := [0, 1, 2, 3].foldl (fun s a => if s.axisState a = 3 then s.tickGear a else s) s3
    { s4 with motion := { s4.motion with enc1 := s4.enc1 } }.sendSetpoints k

/-- A status frame (R289): CRC, source address, Cycle and Axes decide entry by entry; a frame no entry of which passes is counted. The latest entry of an axis is the one its next tick uses. -/
def State.statusFrame (s : State) (src : Peer) (f : Bytes) : State :=
  let good := f.length == 84 && leAt f 0 2 == 0x434D && leAt f 2 1 == 1 && leAt f 3 1 == 2 && leAt f 80 4 == crc32c (f.take 80)
    && s.motion.sentCycles.contains (leAt f 4 2)
  let takes := fun (a : Nat) => good && bit (leAt f 6 1) a && s.bytes (axisIdx a) 0x19 0 16 == peerBytes src
  let s1 := [0, 1, 2, 3].foldl (fun s a =>
    if takes a then s.updAxis a fun x => { x with entry := some (toSigned 64 (leAt f (16 + 16 * a) 8), leAt f (28 + 16 * a) 2) } else s) s
  if [0, 1, 2, 3].any takes then s1 else s1.bump 0x2000 8

/-- The drive of axis a is lost (R289, R275): no accepted entry for the limit, or POWERED clear. -/
def State.driveLoss (s : State) (a : Nat) : State :=
  let x := s.axis a
  let lost := decide (s.reg 0x2000 5 ≤ x.missed) || (match x.actual with | some (_, st) => !bit st 0 | none => false)
  let st := s.axisState a
  if !lost || st == 5 || st == 6 then s
  else if s.flag (axisIdx a) 0x17 && s.flag (axisIdx a) 0x16 && decide (st ≤ 1) then s.axisTo a 6 1
  else
    (s.groupOf a).foldl (fun s i => ((s.set (axisIdx i) 0x16 0).raiseAt 203 2 i 10 4 0 0).faultAxis i 1) s

/-- Entry to DEEP or KEEP (R290): the flags of axes that cannot be retained are cleared. -/
def State.storeAxes (s : State) : State :=
  [0, 1, 2, 3].foldl (fun s a =>
    let st := s.axisState a
    let s1 := s.backupAxis a
    if st = 0 ∨ st = 1 ∨ st = 6 then s1
    else
      let b := s1.backupFields
      s1.putBackup (b.take 32 ++ leBytes 1 (setBit (leAt b 32 1) a false) ++ b.drop 33)) s

/-- Axis a is on no path and no gear. -/
def State.axisFree (s : State) (a : Nat) : State := (s.leavePath a).updAxis a fun x => { x with gear := none }

/-- Return to IDLE, or a reset with VBAT held (R290): flagged axes start RETAINED with the stored position, the others DISABLED and unreferenced; with the backup store lost, no axis is referenced, and E207 is raised for every axis that had retention set. -/
def State.restoreAxes (s : State) (lost : Bool) : State :=
  [0, 1, 2, 3].foldl (fun s a =>
    let b := s.backupFields
    if !lost && bit (leAt b 32 1) a then
      (((s.axisFree a).setAxisPos a (toSigned 64 (leAt b (8 * a) 8) * 2 ^ 32)).set (axisIdx a) 0x16 1).axisTo a 6 0
    else
      let s1 := ((s.axisFree a).set (axisIdx a) 0x16 0).axisTo a 0 0
      if lost && s.flag (axisIdx a) 0x17 then s1.raise 207 0 (a + 2 * 256) else s1) s

end Sys2Proof.Machine
end

