-- ==== Sys2Proof/Machine/Sensors.lean ====
section
/-! DEFINITION. The temperature sensors as other functions use them (R395 to R397, R400), and the calibration units' data (R401). -/

namespace Sys2Proof.Machine

/-- Neighbours of a sensor in the grid of 4 rows and 6 columns (R395). -/
def sensorNear (i : Nat) : List Nat :=
  (if 6 ≤ i then [i - 6] else []) ++ (if i < 18 then [i + 6] else []) ++ (if i % 6 ≠ 0 then [i - 1] else []) ++ (if i % 6 ≠ 5 then [i + 1] else [])

/-- Inserts a reading in order. -/
def insertInt (x : Int) : List Int → List Int
  | [] => [x]
  | y :: l => if x ≤ y then x :: y :: l else y :: insertInt x l

/-- Median (R396): of an even number, the mean of the two middle values truncated toward zero. -/
def median (l : List Int) : Int :=
  let o := l.foldl (fun acc x => insertInt x acc) []
  let n := o.length
  if n % 2 = 1 then o.getD (n / 2) 0 else (o.getD (n / 2 - 1) 0 + o.getD (n / 2) 0).tdiv 2

/-- Neighbour median of a sensor by an exclusion map, if it has 2 included neighbours at least (R396). -/
def nearMedian (excluded : Nat) (readings : List Int) (i : Nat) : Option Int :=
  let l := (sensorNear i).filter fun k => !bit excluded k
  if l.length < 2 then none else some (median (l.map fun k => readings.getD k 0))

/-- The latest reading of a sensor, 0x0061. -/
def State.sensorReading (s : State) (i : Nat) : Int := toSigned 16 (s.le 0x0061 0 (2 * i) 2)

/-- The temperature a function takes from its sensor: of an excluded sensor the median of its included neighbours (R397), its own reading if it has none. -/
def State.sensorTemp (s : State) (i : Nat) : Int :=
  let ex := s.reg 0x0060 5
  if !bit ex i then s.sensorReading i
  else
    let l := (sensorNear i).filter fun k => !bit ex k
    if l.isEmpty then s.sensorReading i else median (l.map s.sensorReading)

/-- Sensor of a link (R395): 0–15 HPn, 16–19 SLk. -/
def linkSensor (l : Nat) : Nat := if l < 4 then 0 else if l < 8 then 1 else if l < 12 then 4 else if l < 16 then 5 else 20

/-- Die band of a sensor (R400). -/
def State.sensorBand (s : State) (i : Nat) : Nat := sget 0 s.therm.bands i

/-- The band that a reading moves a sensor to (R400): up at an edge, down only 2 °C below it. -/
def nextBand (band : Nat) (t : Int) : Nat :=
  if t ≥ 1120 then 2
  else if band = 2 ∧ t > 1120 - 32 then 2
  else if t ≥ 720 then 1
  else if 1 ≤ band ∧ t > 720 - 32 then 1
  else 0

/-- A calibration unit that never ran. -/
def Calib.never : Calib := ⟨false, 0, 0, false, [], 0, []⟩
/-- A calibration unit. -/
def State.unitCalib (s : State) (u : Nat) : Calib := sget Calib.never s.calib u
/-- Changes a calibration unit. -/
def State.updCalib (s : State) (u : Nat) (f : Calib → Calib) : State := { s with calib := sset Calib.never s.calib u (f (s.unitCalib u)) }

/-- Record of a run, 0x0071 (R403). -/
def State.calibRecord (s : State) (u band load outcome : Nat) (temp : Int) : State :=
  s.setBytes 0x0071 0 (16 * u) (leBytes 8 s.clk.now ++ leBytes 2 s.stampEpoch ++ leBytes 1 band ++ leBytes 1 load ++ leBytes 1 outcome ++ [0] ++ leBytes 2 (ofSigned 16 temp))

/-- Ends a run (R402): reason 0 applied with E011, else discarded with E012. -/
def State.calibEnd (s : State) (u band load reason : Nat) (temp : Int) : State :=
  let s1 := (s.updCalib u fun c => { c with ran := true, temp := temp, band := band, running := false, errors := [] }).calibRecord u band load (if reason = 0 then 1 else 2) temp
  let cls := if u < 20 then 1 else 2
  if reason = 0 then (s1.bump 0x0070 8).raise 11 0 (cls + u * 256)
  else (s1.bump 0x0070 9).raiseAt 12 2 (cls + u * 256 + reason * 2 ^ 16) 7 6 0 0

/-- A class 1 setting of a band is in use, with its eye margin, and is kept for the band (R402). -/
def State.calibTake (s : State) (u band margin : Nat) : State :=
  s.updCalib u fun c => { c with margin := margin, stored := sset 0 c.stored band (margin + 1) }

end Sys2Proof.Machine
end

