-- ==== Sys2Proof/Machine/Links.lean ====
section
/-! DEFINITION. Head and seam links: the bring-up table (R248 to R252, R432), the safe state on the ports (R262), service states of units (R29 to R31).
A link is numbered 0–15 for HPn and 16–19 for SLk. -/

namespace Sys2Proof.Machine

/-! ## Service states (R31) -/

/-- Ready bit of a unit: HPn 16 + n, cluster c 10 + c; a DRAM pair has none. -/
def unitBit (u : Nat) : Option Nat :=
  if u / 256 = 1 then some (16 + u % 256) else if u / 256 = 2 then some (10 + u % 256) else none

/-- Bit of a unit in 0x0029. -/
def outBit (u : Nat) : Nat := if u / 256 = 1 then u % 256 else if u / 256 = 2 then 16 + u % 256 else 20 + u % 256

/-- A unit number the select object may name (R29). -/
def validUnit (u : Nat) : Bool := (decide (0x0100 ≤ u) && decide (u ≤ 0x010F)) || (decide (0x0200 ≤ u) && decide (u ≤ 0x0203)) || (decide (0x0300 ≤ u) && decide (u ≤ 0x0303))

/-- All units. -/
def allUnits : List Nat := (upTo 16).map (0x0100 + ·) ++ (upTo 4).map (0x0200 + ·) ++ (upTo 4).map (0x0300 + ·)

/-- Changes the service state of a unit: E004 (its detail field is not laid out: free), the bit in 0x0029, the ready bit (R31, R249). -/
def State.unitTo (s : State) (u new : Nat) : State :=
  if s.unit u = new then s
  else
    let (k, s0) := s.fresh
    let s1 := ({ s0 with units := { s0.units with states := sset 0 s0.units.states u new } }).raise 4 0 (Config.choice k)
    let s2 := if new = 2 then s1.set 0x0029 0 (setBit (s1.reg 0x0029 0) (outBit u) true)
      else if new = 0 then s1.set 0x0029 0 (setBit (s1.reg 0x0029 0) (outBit u) false) else s1
    match unitBit u with
    | none => s2
    | some i =>
      if new ≠ 0 then s2.setReady i false
      else if u / 256 = 1 then s2.setReady i (s2.reg (0x3001 + u % 256 * 0x100) 1 == 5)
      else s2.setReady i true

/-! ## Link objects (R271, R450) -/

/-- Base index P of port n. -/
def portIdx (n : Nat) : Nat := 0x3000 + n * 0x100
/-- Index L of seam link k. -/
def seamIdx (k : Nat) : Nat := 0x8820 + k

/-- State of a link. -/
def State.linkState (s : State) (l : Nat) : Nat := if l < 16 then s.reg (portIdx l + 1) 1 else s.reg (seamIdx (l - 16)) 6
/-- Configuration of a link as set: mode, rate, reversal, polarity, depth, modules, preset, waveform selects. -/
def State.linkConfig (s : State) (l : Nat) : List Nat :=
  if l < 16 then ([1, 2, 3, 4, 5, 6, 9].map fun i => s.reg (portIdx l) i) ++ [s.reg (portIdx l + 4) 0]
  else let x := seamIdx (l - 16); [s.reg x 1, s.reg x 2, 0, s.reg x 3, 0, 0x0F, s.reg x 4, 0]

/-- A link that is OFF and was never started. -/
def Link.off : Link := ⟨0, [], 0, 0, 0, 0, 0, 0, 0, false, [], 0, 0, 0⟩
/-- A link beside its objects. -/
def State.link (s : State) (l : Nat) : Link := sget Link.off s.links l
/-- Changes a link. -/
def State.updLink (s : State) (l : Nat) (f : Link → Link) : State := { s with links := sset Link.off s.links l (f (s.link l)) }

/-- A port with nothing in progress. -/
def Port.idle : Port := ⟨none, 0, [], [], none, 0, [], 0, none, 0⟩
/-- A port beside its objects. -/
def State.port (s : State) (n : Nat) : Port := sget Port.idle s.ports n
/-- Changes a port. -/
def State.updPort (s : State) (n : Nat) (f : Port → Port) : State := { s with ports := sset Port.idle s.ports n (f (s.port n)) }

/-- Trained mode, by the configuration latched at the start. -/
def Link.trained (x : Link) : Bool := x.cfg.getD 0 1 == 1
/-- Lane rate code in use. -/
def Link.rate (x : Link) : Nat := x.cfg.getD 1 3
/-- Waveform selects in use: a written value applies at the next start of the link (R271). -/
def Link.waves (x : Link) : Nat := x.cfg.getD 7 0

/-- Lane bit rate in b/s (R242). -/
def bitRate (code : Nat) : Nat := 1250000000 * (code + 1)
/-- Block time t_b in units of 0.1 ns (R242). -/
def blockTime10 (code : Nat) : Nat := match code with | 0 => 528 | 1 => 264 | 2 => 176 | _ => 132
/-- Carrying limit in lines/s (R259). -/
def carryingLimit (code : Nat) : Nat := min 80000 (bitRate code / (2 * 262 * 66))

/-- The lane pair that carries a module's lane: in FIXED mode with lane reversal 3 − m (R241). -/
def Link.pair (x : Link) (m : Nat) : Nat := if !x.trained && x.cfg.getD 2 0 == 1 then 3 - m else m

/-- Sends a block or a frame on the downlink lane that carries a module (R241, R244, R255). -/
def State.down (s : State) (n m : Nat) (b : Bytes) : State := s.send (.down n ((s.link n).pair m)) b

/-- Lane `m` of a link. -/
def linkLane (l m : Nat) : Chan := if l < 16 then .down l m else .seam (l - 16) m

/-- The payload of an IDLE block (R247). -/
def idleBlock : Bytes := leBytes 1 0x1E ++ zeros 7

/-- A CMD block (R264). -/
def cmdBlock (addr seq op arg : Nat) : Bytes := leBytes 1 0x66 ++ leBytes 1 addr ++ leBytes 1 seq ++ leBytes 1 op ++ leBytes 4 arg

/-- SAFE (0x04) or RESUME (0x05) on every downlink lane of a port, each addressed to the module of its lane, beside the one command outstanding (R262, R264). Those of fitted modules wait for their RESP. -/
def State.portAll (s : State) (n op : Nat) : State :=
  (upTo 4).foldl (fun s m =>
    let q := (s.port n).seq
    (s.down n m (cmdBlock m q op 0)).updPort n fun p =>
      { p with seq := wrapAdd 8 q 1, alls := if bit (s.link n).mods m then ⟨op, m, q, [], 0, s.clk.now, true⟩ :: p.alls else p.alls }) s

/-- SAFE or RESUME on every ACTIVE port (R262). -/
def State.allPorts (s : State) (op : Nat) : State :=
  (upTo 16).foldl (fun s n => if s.linkState n = 5 then s.portAll n op else s) s

/-- Sends a command on a port that has none outstanding (R264); a link that is not ACTIVE carries nothing. -/
def State.portCommand (s : State) (n op addr arg : Nat) (data : Bytes) (tag : Nat) (own : Bool) : State :=
  let q := (s.port n).seq
  let s1 := if s.linkState n = 5 then s.down n (addr % 4) (cmdBlock addr q op arg ++ data) else s
  s1.updPort n fun p => { p with seq := wrapAdd 8 q 1, cmd := some ⟨op, addr, q, data, tag, s.clk.now, own⟩ }

/-- Address byte of port segment g: module in bits [1:0], segment in bits [3:2] (R264). -/
def segAddr (g : Nat) : Nat := g / 4 + g % 4 * 4

/-- Sends a command of the device: TEMP_PERIOD, LOOP, or the MEASURE of the measurement in progress, whose 50 ms count from here (R264 to R266, R269). -/
def State.portOwnSend (s : State) (n op : Nat) : State :=
  if op = 3 then s.portCommand n 3 0 (s.reg (portIdx n + 3) 2) [] 0 true
  else if op = 0x40 then s.portCommand n 0x40 (s.reg (0xF100 + n) 6) (s.reg (0xF100 + n) 6) [] 0 true
  else
    match (s.port n).meas with
    | none => s
    | some m =>
      let q := (s.port n).seq
      (s.portCommand n 2 (segAddr m.seg) 0 [] 0 true).updPort n fun p => { p with meas := some { m with seq := q, sent := s.clk.now } }

/-- With no command outstanding, the next device command that waits goes out (R264: one command outstanding per port). -/
def State.portNext (s : State) (n : Nat) : State :=
  match (s.port n).cmd, (s.port n).due with
  | none, op :: rest => (s.updPort n fun p => { p with due := rest }).portOwnSend n op
  | _, _ => s

/-- A command of the device, sent at once or when the command outstanding is done. -/
def State.portOwn (s : State) (n op : Nat) : State :=
  (s.updPort n fun p => { p with due := if p.due.contains op then p.due else p.due ++ [op] }).portNext n

/-- TEMP_PERIOD (R249, R264). -/
def State.tempPeriod (s : State) (n : Nat) : State := s.portOwn n 3

/-! ## Changes of state (R249) -/

/-- The far end cleared its slots (R258): slices that were sent hold none, tags start from 0 (R261). -/
def State.clearSlots (s : State) (n : Nat) : State :=
  (upTo 4).foldl (fun s m => s.updLane (4 * n + m) fun l =>
    { l with nextTag := 0, gone := [], missed := [], slices := l.slices.map fun x => { x with sent := none, sends := 0, echo := 0 } }) s

/-- Puts a link into a state with a cause: E032 + n or E064 + k, ready bit, counts (R249, R271, R272, R452). -/
def State.linkTo (s : State) (l new cause : Nat) : State :=
  let old := s.linkState l
  if old = new then s
  else
    let detail := new + old * 16 + cause * 256
    if l < 16 then
      let s1 := (s.set (portIdx l + 1) 1 new).updLink l fun x => { x with since := s.clk.now }
      let s2 := if cause = 0 then s1 else s1.set (portIdx l + 1) 2 cause
      let s3 := if old = 5 ∧ cause = 9 then s2.bump (portIdx l + 1) 8 else s2
      let sev := if old = 5 ∧ s.portIn l = true ∧ s.pagesActive = true then 3 else if cause ≠ 0 then 2 else 0
      let s4 := s3.raiseAt (32 + l) sev detail 3 4 0 0
      let s5 := if old = 5 then (s4.clearSlots l).updPort l fun p => { p with due := p.due.filter (· == 2) } else s4
      s5.setReady (16 + l) (new == 5 && s5.portIn l)
    else
      let k := l - 16
      let s1 := (s.set (seamIdx k) 6 new).updLink l fun x => { x with since := s.clk.now }
      let s2 := if cause = 0 then s1 else s1.set (seamIdx k) 8 cause
      (s2.raiseAt (64 + k) (if old = 5 then 2 else 0) detail 13 4 0 0).setReady (32 + k) (new == 5)

/-- A link bring-up counts as a run of class 1 (R401): its setting takes effect, with a record and E011 (R402; log entry 87). Its eye margin and the load are free. -/
def State.linkUp (s : State) (l : Nat) : State :=
  let (k, s1) := s.fresh
  let (j, s2) := s1.fresh
  let b := s.sensorBand (linkSensor l)
  (s2.calibTake l b (Config.choice k)).calibEnd l b (Config.choice j % 101) 0 (s.sensorTemp (linkSensor l))

/-- A block error on a link (R246, R260, R434): counted, and kept for one second for the calibration scheduler (R401). -/
def State.blockError (s : State) (l : Nat) : State :=
  (if l < 16 then s.bump (portIdx l + 1) 7 else s.bump (seamIdx (l - 16)) 7).updCalib l fun c =>
    { c with errors := s.clk.now :: c.errors.filter fun t => decide (s.clk.now < t + 1000000000) }

/-- The receiver of a link searches anew (R246). -/
def Link.search (x : Link) : Link := { x with good := 0, window := [], shift := 0, locked := false }

/-- The lanes of a link have nothing to send any more. -/
def State.quietLanes (s : State) (l : Nat) : State := { s with wire := s.wire.filter fun e => e.1 / 4 != l }

/-- Stop (R249): to OFF, lanes idle. -/
def State.linkStop (s : State) (l : Nat) : State := ((s.linkTo l 0 0).updLink l Link.search).quietLanes l

/-- Entry to WAIT with a cause; a RETURNING port has failed its bring-up: OUT with result 4, link OFF (R249, R270); a far-end loopback has failed (R269). -/
def State.linkWait (s : State) (l cause : Nat) : State :=
  let s1 := ((s.linkTo l 6 cause).updLink l Link.search).quietLanes l
  if l < 16 ∧ s1.unit (portUnit l) = 3 then ((s1.unitTo (portUnit l) 2).set 0x0028 4 4).linkStop l
  else if l < 16 ∧ (s1.port l).loop = 3 then (((s1.set (0xF100 + l) 3 2).updPort l fun p => { p with loop := 0, loopAt := none }).linkStop l)
  else s1

/-- The start condition of a link (R248, R432): a port whose unit is IN_SERVICE or RETURNING with no loopback, or whose far-end loopback starts; a ring port of a board. -/
def State.linkMayStart (s : State) (l : Nat) : Bool :=
  s.loaded 3 &&
    (if l < 16 then
      ((s.unit (portUnit l) == 0 || s.unit (portUnit l) == 3) && (s.port l).loop == 0) || (s.port l).loop == 3
     else s.onBoard && s.ringPorts.contains (l - 16))

/-- The four lanes of a link start anew at a block time, their scramblers at all ones (R245). -/
def State.seedLanes (s : State) (l tb : Nat) : State :=
  { s with wire := (upTo 4).foldl (fun w m => sset LaneOut.fresh w (4 * l + m) (.idle tb)) s.wire }

/-- IDLE on lanes 0–3 of a link (R249); a lane's further IDLE blocks are not carried (log entry 79). -/
def State.idleLanes (s : State) (l : Nat) : State := (upTo 4).foldl (fun s m => s.send (linkLane l m) idleBlock) s

/-- Starts a link from OFF (R249): its configuration is latched, its scramblers are seeded (R245), IDLE goes out on its lanes; FIXED goes to LOCK with its preset, TRAINED to DETECT. -/
def State.linkBegin (s : State) (l : Nat) : State :=
  let cfg := s.linkConfig l
  let s1 := (s.updLink l fun x => { x.search with cfg := cfg, trial := s.clk.now, stepAt := s.clk.now, preset := 0, step := 0 }).seedLanes l (blockTime10 (cfg.getD 1 3))
  let s2 := if l < 16 then (s1.bump (portIdx l + 1) 3).set (portIdx l + 1) 4 0 else s1
  let s3 := if l < 16 ∧ cfg.getD 0 1 = 0 then s2.set (portIdx l + 1) 5 (cfg.getD 6 3 * 0x01010101) else s2
  (s3.idleLanes l).linkTo l (if cfg.getD 0 1 = 1 then 1 else 3) 0

/-- LINK_START. -/
def State.linkStart (s : State) (l : Nat) : State := if s.linkState l = 0 ∧ s.linkMayStart l then s.linkBegin l else s

/-- One period of the training stream (R250): on each lane a TRAIN block with the lane, the preset and the sweep count, and 31 IDLE blocks. The presets in use are the sweep's. -/
def State.sweepOut (s : State) (l preset step : Nat) : State :=
  let s1 := (upTo 4).foldl (fun s m =>
    let train := leBytes 1 0x2D ++ leBytes 1 m ++ leBytes 1 preset ++ leBytes 1 step ++ zeros 4
    s.sendBlocks (linkLane l m) (4 * l + m) ((true, train) :: List.replicate 31 (true, idleBlock))) s
  if l < 16 then s1.set (portIdx l + 1) 5 (preset * 0x01010101) else s1

/-- RXCK_DETECTED (R249): the preset sweep starts with preset 0. -/
def State.rxck (s : State) (l : Nat) : State :=
  if s.linkState l = 1 then ((s.linkTo l 2 0).updLink l fun x => { x with preset := 0, step := 0, stepAt := s.clk.now }).sweepOut l 0 0 else s

/-- A timer of the present state has run for `ns` (R249). -/
def State.linkTimer (s : State) (l ns : Nat) : Bool := decide ((s.link l).since + ns ≤ s.clk.now)

/-- Time that LOCK lasts (R249): 5 ms after training, 20 ms from a fixed start. -/
def Link.lockNs (x : Link) : Nat := if x.trained then 5000000 else 20000000

/-- Modules of a port that hold a segment not UNUSED in the active generation (R252). -/
def State.usedModules (s : State) (n : Nat) : Nat :=
  (upTo 4).foldl (fun m k => if (upTo 4096).any fun i => s.render.active.jetState (n * 16384 + k * 4096 + i) != 3 then m + 2 ^ k else m) 0

/-- PRESET_STEP (R250): each preset is held for 100 µs; the sweep count goes up when the sweep starts again. -/
def State.presetStep (s : State) (l : Nat) : State :=
  let x := s.link l
  if s.linkState l = 2 ∧ x.stepAt + 100000 ≤ s.clk.now then
    let p := (x.preset + 1) % 8
    let st := if p = 0 then wrapAdd 8 x.step 1 else x.step
    (s.updLink l fun y => { y with preset := p, step := st, stepAt := s.clk.now }).sweepOut l p st
  else s

/-- POLARITY_TRIAL_SWITCH (R248): each 1 ms without block lock. -/
def State.polarityTrial (s : State) (l : Nat) : State :=
  let x := s.link l
  if (s.linkState l = 1 ∨ s.linkState l = 2 ∨ s.linkState l = 3) ∧ x.locked = false ∧ x.trial + 1000000 ≤ s.clk.now then
    let s1 := s.updLink l fun y => { y with trial := s.clk.now, pol := 1 - y.pol }
    if l < 16 then s1.set (portIdx l + 1) 4 (1 - s.reg (portIdx l + 1) 4) else s1
  else s

/-- The checks of R252 on what a far end reports, or on the FIXED objects (`head` none): the first cause that fails. -/
def State.portChecks (s : State) (n version mods depth : Nat) (head : Option Nat) : Option Nat :=
  let fmax := s.reg 0x2831 (n + 1)
  if version ≠ 1 then some 5
  else if (upTo 4).any fun i => bit (s.usedModules n) i && !bit mods i then some 6
  else if depth < s.reg 0x4811 2 + 2 then some 7
  else if (match head with | some h => decide (fmax > 10 * h) | none => false) || decide (fmax > carryingLimit (s.link n).rate) then some 8
  else none

/-- Sending starts again after a link came back (R261): with the first line whose send deadline is still to come. -/
def State.resumeSending (s : State) (port : Nat) : State :=
  (upTo 4).foldl (fun s m =>
    let mk := 4 * port + m
    s.queued.foldl (fun s p =>
      if !p.st.active || !bit p.ports port then s
      else
        let n0 := sget 0 p.fired mk
        let n := ((upTo (min (p.insts * p.len - n0) 16384)).find? fun i =>
          decide (s.pos.lam + 64 * s.reg 0x4811 2 ≤ s.target p ((n0 + i) / p.len) ((n0 + i) % p.len) mk)).getD 16384
        s.updPage p.num fun q => { q with sentN := sset 0 q.sentN mk (n0 + n) }) s) s

/-- A port's link enters ACTIVE (R249, R253, R261, R262): tags from 0, TEMP_PERIOD, SAFE while the safe state holds; a far-end loopback sends LOOP. -/
def State.portActive (s : State) (n mods depth : Nat) : State :=
  let s1 := ((((s.updLink n fun x => { x with mods := mods, depth := depth }).linkTo n 5 0).linkUp n).clearSlots n).resumeSending n
  let s2 := s1.tempPeriod n
  let s3 := if s2.safe then s2.portAll n 4 else s2
  if (s3.port n).loop = 3 then s3.portOwn n 0x40 else s3

/-- Downlink or seam CAPS block (R251, R432). -/
def State.capsBlock (s : State) (l : Nat) : Bytes :=
  if l < 16 then
    leBytes 1 0xB4 ++ [1] ++ leBytes 1 (s.link l).rate ++ leBytes 1 (s.reg 0x4811 2) ++ leBytes 2 (s.reg 0x2831 (l + 1) / 10)
      ++ leBytes 1 (s.reg (portIdx l + 3) 2 / 10) ++ [0]
  else
    leBytes 1 0xB4 ++ [1] ++ leBytes 1 (s.link l).rate ++ leBytes 1 (s.reg 0x8800 1) ++ leBytes 1 (s.reg 0x8800 2)
      ++ leBytes 1 s.members ++ leBytes 1 (s.reg 0x8800 4) ++ [0]

/-- Sends CAPS (R249). -/
def State.sendCaps (s : State) (l : Nat) : State :=
  (if l < 16 then s.down l 0 (s.capsBlock l) else s.send (.seam (l - 16) 0) (s.capsBlock l)).updLink l fun x => { x with capsAt := s.clk.now }

/-- The rows of LOCK (R249): in block lock, which is a condition and no edge, the link goes on. -/
def State.lockRow (s : State) (l : Nat) : State :=
  if s.linkState l ≠ 3 ∨ (s.link l).locked = false then s
  else if (s.link l).trained then (s.linkTo l 4 0).sendCaps l
  else if l < 16 then
    let cfg := (s.link l).cfg
    match s.portChecks l 1 (cfg.getD 5 0x0F) (cfg.getD 4 8) none with
    | none => s.portActive l (cfg.getD 5 0x0F) (cfg.getD 4 8)
    | some c => s.linkWait l c
  else (s.linkTo l 5 0).linkUp l

/-- TRAIN (R249, R250): DONE with every fitted lane locked and the device in block lock; the chosen presets are applied. The receiver is in block lock, so the row of LOCK follows. -/
def State.trainBlock (s : State) (l status presets : Nat) : State :=
  let need := if l < 16 then s.usedModules l else 15
  if s.linkState l = 2 ∧ bit status 4 ∧ ((upTo 4).all fun i => !bit need i || bit status i) ∧ (s.link l).locked then
    ((if l < 16 then s.set (portIdx l + 1) 5 presets else s).linkTo l 3 0).lockRow l
  else s

/-- One sync header at a receiver (R246), 1 and 2 the valid ones: 64 consecutive valid headers at one alignment give block lock, 16 invalid ones among the last 64 end it;
while it searches the alignment shifts by one bit after each invalid header. -/
def Link.header (x : Link) (h : BitVec 2) : Link :=
  let bad := h == 0 || h == 3
  if x.locked then
    let w := (bad :: x.window).take 64
    if w.count true < 16 then { x with window := w } else { x with window := [], good := 0, locked := false }
  else if bad then { x with good := 0, shift := (x.shift + 1) % 66 }
  else if x.good + 1 < 64 then { x with good := x.good + 1 }
  else { x with good := 0, window := [], locked := true }

/-- One sync header from the far end (R246): an invalid one in block lock is a block error; an ACTIVE link that leaves block lock is lost (R249). -/
def State.uplinkHeader (s : State) (l : Nat) (h : BitVec 2) : State :=
  let was := (s.link l).locked
  let s1 := s.updLink l fun x => x.header h
  let s2 := if was && (h == 0 || h == 3) then s1.blockError l else s1
  if was && !(s2.link l).locked && s2.linkState l == 5 then s2.linkWait l 9 else s2

/-- The link runs its receiver: not OFF, WAIT or LOOPBACK. -/
def State.linkHears (s : State) (l : Nat) : Bool := s.linkState l != 0 && s.linkState l != 6 && s.linkState l != 7

/-- UPLINK_BLOCK_LOCK (R246, R249): sync headers arrive one after the other; in LOCK the link goes on once its receiver is in block lock. -/
def State.blockLock (s : State) (l : Nat) (headers : List (BitVec 2)) : State :=
  (headers.foldl (fun s h => if s.linkHears l then s.uplinkHeader l h else s) s).lockRow l

/-- The control blocks of a link's uplink, by their type (R247, R433). -/
def uplinkTypes (l : Nat) : List Nat :=
  if l < 16 then [0x1E, 0x2D, 0x78, 0x87, 0x99, 0xA5, 0xAA, 0xB4] else [0x1E, 0x2D, 0xB4, 0xC3, 0xCC, 0xD2, 0xE1, 0xF0]

/-- A block that a receiver in block lock discards and counts: a control block of a type not listed, or a data block outside a frame (R247); the data blocks that a far-end loopback returns are its own. -/
def State.strayBlock (s : State) (l : Nat) (control : Bool) (type : Nat) : Bool :=
  s.linkHears l && (s.link l).locked && if control then !(uplinkTypes l).contains type else (s.port l).loopAt.isNone

/-- A CAPS block as its object keeps it: reserved bits read as zero (R11, R251). -/
def capsKept (b : Bytes) : Bytes := (slice b 0 2) ++ leBytes 1 (leAt b 2 1 % 16) ++ slice b 3 4 ++ [0]

/-- CAPS (R251, R252, R432): in any other state the block is discarded. A block of another kind is discarded, and counted where R247 says so. -/
def State.capsIn (s : State) (l : Nat) (control : Bool) (b : Bytes) : State :=
  if s.strayBlock l control (leAt b 0 1) then s.blockError l
  else if s.linkState l ≠ 4 ∨ leAt b 0 1 ≠ 0xB4 ∨ control = false then s
  else if l < 16 then
    match s.portChecks l (leAt b 1 1) (leAt b 2 1 % 16) (leAt b 3 1) (some (leAt b 4 2)) with
    | none => ((s.setBytes (portIdx l + 1) 6 0 (capsKept b)).portActive l (leAt b 2 1 % 16) (leAt b 3 1))
    | some c => s.linkWait l c
  else
    let n := s.members
    let want := if (l - 16) % 2 = 0 then (s.reg 0x8800 2 + 1) % n else (s.reg 0x8800 2 + n - 1) % n
    let cause := if leAt b 1 1 ≠ 1 then 5 else if leAt b 3 1 ≠ s.reg 0x8800 1 then 10 else if leAt b 4 1 ≠ want then 11
      else if leAt b 2 1 ≠ (s.link l).rate then 8 else 0
    if cause ≠ 0 then s.linkWait l cause
    else
      let s1 := (s.linkTo l 5 0).linkUp l
      if leAt b 5 1 ≠ n ∨ leAt b 6 1 ≠ s.reg 0x8800 4 then s1.raise 71 0 (s1.presentMap + 3 * 256) else s1

/-- CAPS_SEND: every 10 µs in CAPS (R249). -/
def State.capsSend (s : State) (l : Nat) : State :=
  if s.linkState l = 4 ∧ (s.link l).capsAt + 10000 ≤ s.clk.now then s.sendCaps l else s

/-- A timer row of R249: in state `st` after `ns`, to WAIT with a cause. -/
def State.timerRow (s : State) (l st ns cause : Nat) : State :=
  if s.linkState l = st ∧ s.linkTimer l ns then s.linkWait l cause else s

/-- LINK_LOST (R249, R261). -/
def State.linkLost (s : State) (l : Nat) : State := if s.linkState l = 5 then s.linkWait l 9 else s

/-- WAIT_TIMER_EXPIRY (R249): restart, or OFF. A seam link has no auto-restart object: it restarts. -/
def State.waitExpired (s : State) (l : Nat) : State :=
  if s.linkState l ≠ 6 ∨ s.linkTimer l 100000000 = false then s
  else if s.linkMayStart l && (decide (16 ≤ l) || (s.flag (portIdx l) 8 && s.unit (portUnit l) != 3)) then s.linkBegin l
  else s.linkStop l

/-! ## Loopbacks (R269) -/

/-- Start of a loopback: refused with result 1 while the unit is not OUT. A near-end one checks from here, a far-end one once the far end has accepted LOOP. -/
def State.loopStart (s : State) (n : Nat) : State × Bool :=
  let mode := s.reg (0xF100 + n) 1
  if s.unit (portUnit n) ≠ 2 then (s.set (0xF100 + n) 3 1, false)
  else if mode = 0 ∨ (s.port n).loop ≠ 0 then (s, true)
  else
    let (k, s0) := s.fresh
    let s1 := (((s0.set (0xF100 + n) 3 0).set (0xF100 + n) 4 0).set (0xF100 + n) 5 0).updPort n fun p =>
      { p with loop := mode, loopAt := if mode = 3 then none else some s.clk.now, loopRun := k }
    (if mode = 3 then s1 else s1.linkTo n 7 0, true)

/-- What a running loopback has checked (R269): in mode 1 the bits of four serialisers, in mode 2 the slices of four lanes at the line rate of :07, in mode 3 the payload bits of one lane. -/
def State.loopChecked (s : State) (n : Nat) : Nat :=
  match (s.port n).loopAt with
  | none => 0
  | some t =>
    let ns := s.clk.now - t
    let rate := bitRate (s.reg (portIdx n) 2)
    if (s.port n).loop = 1 then 4 * rate * ns / 1000000000
    else if (s.port n).loop = 2 then 4 * (s.reg (0xF100 + n) 7 * ns / 1000000000)
    else 64 * (rate * ns / (66 * 1000000000))

/-- Errors among them: how many bits a wire turns over is no matter of the spec (free, at most all of them); the echo comparison of mode 2 stays inside the device and finds none. -/
def State.loopErrors (s : State) (n : Nat) : Nat :=
  let c := s.loopChecked n
  if (s.port n).loop = 2 then 0 else Config.loopErrors (s.port n).loopRun c % (c + 1)

end Sys2Proof.Machine
end

