-- ==== Sys2Proof/Machine/PageStore.lean ====
section
/-! DEFINITION. The page store (R196 to R205): slots, trailers, store poison, what a line's slices in the FIFOs are told, and the times left of R467. -/

namespace Sys2Proof.Machine

/-! ## Slots (R196) -/

/-- Dose base (0x4800:03). -/
def doseBase : Nat := Config.doseBlock.toNat * 50331648
/-- Trailer base (0x4800:04). -/
def trailerBase : Nat := Config.trailerBlock.toNat * 50331648

/-- Line slot of page line y. -/
def Page.slot (p : Page) (y : Nat) : Nat := p.chunks.getD (y / 1024) 0 * 1024 + y % 1024
/-- DRAM address of the dose of page line y. -/
def Page.doseAddr (p : Page) (y : Nat) : Nat := doseBase + p.slot y * 131072
/-- DRAM address of the trailer of page line y. -/
def Page.trailerAddr (p : Page) (y : Nat) : Nat := trailerBase + p.slot y * 128

/-- Chunks a page of L lines takes. -/
def chunksOf (len : Nat) : Nat := ceilDiv len 1024

/-- A chunk that is open to the checker (R349, code 0x0020). -/
def State.chunkUnderTest (s : State) (c : Nat) : Bool := s.underTest 0x0020 && s.reg 0xF000 2 == c

/-- Free chunks, in number order. -/
def State.freeChunks (s : State) : List Nat :=
  (upTo (s.reg 0x4800 1)).filter fun c => !(s.jobs.pages.any fun p => p.chunks.contains c) && !s.chunkUnderTest c

/-- Takes n of the free chunks; which, and in what order, the spec leaves to the page manager (R196): each pick is a free value. -/
def State.takeChunks (s : State) : Nat → List Nat → List Nat → State × List Nat
  | 0, _, got => (s, got)
  | n + 1, free, got =>
    let (k, s1) := s.fresh
    let c := free.getD (Config.choice k % free.length) 0
    s1.takeChunks n (free.filter fun x => x != c) (got ++ [c])

/-! ## Trailers (R198, R199) -/

/-- A trailer with its CRC. -/
def trailerBytes (num line gen flags render store : Nat) (crcs : List Nat) (stamp : Bytes) : Bytes :=
  let b := leBytes 4 num ++ leBytes 4 line ++ leBytes 2 gen ++ leBytes 2 flags ++ leBytes 2 render ++ leBytes 2 store
    ++ crcs.flatMap (leBytes 4) ++ stamp
  b ++ leBytes 4 (crc32c b) ++ zeros 36

/-- What a trailer read from DRAM says of itself. -/
structure TrailerView where
  /-- The bytes 0 to 91. -/
  bytes : Bytes
  /-- Clean parity, right CRC, WRITTEN, and the page and line asked for. -/
  sound : Bool
  /-- TEST is set (R349). -/
  test  : Bool
  deriving DecidableEq, Repr

/-- Render poison bits. -/
def TrailerView.render (t : TrailerView) : Nat := leAt t.bytes 12 2
/-- Store poison bits. -/
def TrailerView.store (t : TrailerView) : Nat := leAt t.bytes 14 2
/-- CRC of port-line n. -/
def TrailerView.crc (t : TrailerView) (n : Nat) : Nat := leAt t.bytes (16 + 4 * n) 4
/-- Valid under R199. -/
def TrailerView.valid (t : TrailerView) : Bool := t.sound && !t.test

/-- Reads the trailer of page line y. -/
def State.trailer (s : State) (p : Page) (y : Nat) (bad : Bool) : TrailerView :=
  let b := s.memRead (p.trailerAddr y) 92
  { bytes := b
    sound := !bad && !s.memBadIn (p.trailerAddr y) 92 && leAt b 88 4 == crc32c (b.take 88) && bit (leAt b 10 2) 0
      && leAt b 0 4 == p.num && leAt b 4 4 == y
    test := bit (leAt b 10 2) 1 }

/-- Sets store poison bits in the trailer of a line, with its CRC (R203). -/
def State.poisonStore (s : State) (p : Page) (y mask : Nat) : State :=
  let b := s.memRead (p.trailerAddr y) 88
  let m := leAt b 14 2 ||| mask
  let b1 := b.take 14 ++ leBytes 2 m ++ b.drop 16
  s.memWrite (p.trailerAddr y) (b1 ++ leBytes 4 (crc32c b1))

/-! ## Slices of a line in the FIFOs -/

/-- Changes the slices of a page's line that a test picks, on the ports of a mask. -/
def State.updSlices (s : State) (num line ports : Nat) (f : Slice → Slice) : State :=
  (upTo 64).foldl (fun s mk =>
    if bit ports (mk / 4) && (s.lane mk).slices.any (fun x => x.page == num && x.line == line) then
      s.updLane mk fun l => { l with slices := updWhere l.slices (fun x => x.page == num && x.line == line) f }
    else s) s

/-- Adds a spoil reason to a poison mask. -/
def addPoison (m r : Nat) : Nat := setBit m r true

/-- "Repair not possible" (R203): the store poison bits are set in the trailer, and the slices of the port-lines poisoned. -/
def State.storePoison (s : State) (num line ports : Nat) : State :=
  match s.page num with
  | none => s
  | some p => (s.poisonStore p line ports).updSlices num line ports fun x => { x with poison := addPoison x.poison 3, refetch := false }

/-- Drops a repair (R204): store poison as for "Repair not possible"; E190 with outcome 2. -/
def State.dropRepair (s : State) (r : Repair) : State :=
  let s1 := { s with store := { s.store with repairs := s.store.repairs.filter fun q => !(q.page == r.page && q.line == r.line) }
                     render := { s.render with jobs := s.render.jobs.filter fun j => !(j.repair && j.page == r.page && j.lines == some [r.line]) } }
  (s1.storePoison r.page r.line r.ports).repairEvent r 2

/-! ## Times left (R467) -/

/-- The line clock gives a rate (R467). -/
def State.rateKnown (s : State) : Bool := s.pos.measured && s.reg 0x2820 8 != 0

/-- Predicted ns until Λ reaches a sub-tick (R467): at the present line rate, or, while there is none, whole line periods at the fastest rate of the port. -/
def State.nsToSubtick (s : State) (mk sub : Nat) : Nat :=
  let d := sub - s.lamAt s.clk.now
  if s.rateKnown then d * 1000000000 / (64 * s.reg 0x2820 8) else d / 64 * s.tMin (mk / 4)

/-- Fine delay of module mk in half-ns (R226). -/
def State.fine (s : State) (mk : Nat) : Nat := s.reg (0x2840 + mk / 4) (mk % 4 + 5)

/-- Position instant t_pos of a sub-tick: time of the first advance that reached it, with Λ there. In shuttle mode a pass owns the sub-ticks from its start to its end (R237): the first is reached as the carriage passes Q (R233), the end belongs to the next pass. -/
def State.reached (s : State) (sub : Nat) : Option (Nat × Nat) :=
  let seen := (s.pos.hist.filter fun e => decide (sub ≤ e.1)).getLast?
  if !s.shuttle then seen
  else if s.seqState = 0 then (if sub < s.pos.lam then seen else none)
  else if sub = 64 * s.passStart then s.pos.startAt.map fun t => (sub, t)
  else if sub ≥ 64 * (s.passStart + s.passLen) then none
  else seen

/-- Fine delay of a module for a target sub-tick (R226): a change applies from the lines whose t_pos was still to come when it was written. -/
def State.fineAt (s : State) (mk sub : Nat) : Nat :=
  match (sget [] s.fire.fine mk).find? fun e => decide (sub < e.1) with
  | some (_, d) => d
  | none => s.fine mk

/-- Before the fine delay of a module changes: lines whose t_pos has been reached keep the old one (R226). -/
def State.keepFine (s : State) (mk : Nat) : State :=
  let bound := if (s.reached s.pos.lam).isSome then s.pos.lam + 1 else s.pos.lam
  let kept := if s.pagesActive then sget [] s.fire.fine mk ++ [(bound, s.fine mk)] else []
  { s with fire := { s.fire with fine := sset [] s.fire.fine mk kept } }

/-- t_out in half-ns from t_pos + δ: not before T_min after the module's previous fire (R226). -/
def State.fireTime (s : State) (mk t : Nat) : Nat :=
  max t (if (sfind mk s.fire.last).isSome then sget 0 s.fire.last mk + 2 * s.tMin (mk / 4) else 0)

/-- Lines that a module fires before line number n of a page: of the page itself and of the pages ahead of it in the queue. -/
def State.linesAhead (s : State) (p : Page) (n mk : Nat) : Nat :=
  (s.queued.takeWhile fun q => q.num != p.num).foldl (fun m q =>
    if q.st.active && bit q.ports (mk / 4) then m + (q.insts * q.len - sget 0 q.fired mk) else m) (n - sget 0 p.fired mk)

/-- Predicted ns before the fire instant of a line on a module (R206, R467): with the fine delay, and the T_min spacing from the module's previous fire over the lines before it (R226). -/
def State.nsToFire (s : State) (p : Page) (inst line mk : Nat) : Nat :=
  let sub := s.target p inst line mk
  let t := s.nsToSubtick mk sub + s.fineAt mk sub / 2
  let ahead := s.linesAhead p (inst * p.len + line) mk + 1
  let spaced := match sfind mk s.fire.last with | some u => u / 2 + ahead * s.tMin (mk / 4) - s.clk.now | none => 0
  if s.rateKnown then max t spaced else t

/-- Predicted length of n line periods (R467). -/
def State.periodsNs (s : State) (n mk : Nat) : Nat :=
  if s.rateKnown then n * 1000000000 / s.reg 0x2820 8 else n * s.tMin (mk / 4)

/-- Predicted ns before the send deadline: the lead before the fire instant (R27, R467). -/
def State.nsToDeadline (s : State) (p : Page) (inst line mk : Nat) : Nat := s.nsToFire p inst line mk - s.periodsNs (s.reg 0x4811 2) mk

/-- Predicted ns before the first fetch of a line: 64 line periods before the fire instant (R25, R211, R467). -/
def State.nsToFetch (s : State) (p : Page) (inst line mk : Nat) : Nat := s.nsToFire p inst line mk - s.periodsNs 64 mk

/-- Predicted ns before readout's first fetch of a line for an instance (R211). -/
def State.fetchLeft (s : State) (p : Page) (i line : Nat) : Nat :=
  (upTo 64).foldl (fun m mk => if bit p.ports (mk / 4) then min m (s.nsToFetch p i line mk) else m) (2 ^ 62)

/-- Predicted ns before the earliest send deadline among the unsent slices of a line (R204); those still to be fetched count for the instances cast or next to come. -/
def State.nsLeft (s : State) (num line : Nat) : Option Nat :=
  match s.page num with
  | none => none
  | some p =>
    (upTo 64).foldl (fun m mk =>
      if !bit p.ports (mk / 4) then m
      else
        let unsent := ((s.lane mk).slices.filter fun x => x.page == num && x.line == line && x.sends == 0).map fun x => s.nsToDeadline p x.inst line mk
        let n := sget 0 p.fetched mk
        let i := if n % p.len ≤ line then n / p.len else n / p.len + 1
        let later := if i < p.insts then [s.nsToDeadline p i line mk] else []
        (unsent ++ later).foldl (fun m t => match m with | none => some t | some u => some (min u t)) m) none

end Sys2Proof.Machine
end

