-- ==== Sys2Proof/Machine/Render.lean ====
section
/-! DEFINITION. Render (R163 to R169, R183, R190, R192, R193): page renders and re-renders, the chart walker, the decoders and the tile cache, pipelines, line check, verify and release (R20 to R23, R200 to R202). -/

namespace Sys2Proof.Machine

/-! ## Clock and cost -/

/-- Clock factor f in sixteenths (R393). -/
def State.factor (s : State) : Nat := min s.therm.droop (s.reg 0x0060 9)
/-- RCLK in kHz (0x4000:01). -/
def State.rclk (s : State) : Nat := 78125 * s.factor

/-- The generation of a number, while it is active or retained (R166). -/
def State.genOf (s : State) (num : Nat) : Option Gen :=
  if s.render.active.num = num then some s.render.active
  else match s.render.retained with
    | some g => if g.num = num then some g else none
    | none => none

/-- What render reads for a page under a generation. -/
def State.inputs (s : State) (p : Page) (g : Gen) : Inputs := ⟨s.jobs, p.ns, p.bg, p.leaves s.jobs, g, s.main⟩

/-- R166 allows a re-render of the page. -/
def State.mayRerender (s : State) (p : Page) : Bool := (s.genOf p.gen).isSome

/-- Render cluster out of service or draining (4: none) (R32, R165). -/
def State.clusterOut (s : State) : Nat := ((upTo 4).find? fun c => s.unit (0x0200 + c) != 0).getD 4

/-- t_need of a repair of line y in ns (R204). -/
def State.repairNs (s : State) (p : Page) (y : Nat) : Nat :=
  match s.genOf p.gen with
  | none => 0
  | some g =>
    let r := s.inputs p g
    ceilDiv ((r.linesNeeded y + 1) * r.cmax p s.clusterOut * 1000000) s.rclk + 2000

/-- U of R192: lines of the pages ahead in the queue that have not yet fired, with their repeat gaps and the FOLLOW gaps between them. -/
def State.linesBefore (s : State) (num : Nat) : Nat :=
  let ahead := s.queued.takeWhile fun q => q.num != num
  (List.zip (List.range ahead.length) ahead).foldl (fun u (i, q) =>
    u + (if q.st.active then q.endFrom q.pos - max s.row q.pos else q.endFrom 0) + if 0 < i ∧ q.startAt = false ∧ q.st.active = false then q.start else 0) 0

/-- Slack of R192 in ns of a page about to render; none: unbounded, below 100 lines/s. -/
def State.slack (s : State) (p : Page) (g : Gen) : Option Int :=
  let rate := s.reg 0x2820 8
  if rate < 100 then none
  else some (((s.linesBefore p.num * 1000000000 / rate : Nat) : Int) - ((p.len * (s.inputs p g).cmax p s.clusterOut * 1000000 / s.rclk : Nat) : Int))

/-! ## Tiles that a line needs (R168) -/

/-- First and last sample index of a span of upscaled positions. -/
def sampleSpan (n sc : Nat) (bilinear : Bool) (lo hi : Nat) : Nat × Nat :=
  if bilinear then ((eighths lo sc n).1, (eighths hi sc n).2.1) else (lo / sc, hi / sc)

/-- Tiles under a rectangle of upscaled positions. -/
def StashObj.tilesUnder (o : StashObj) (bilinear : Bool) (a0 a1 b0 b1 : Nat) : List Nat :=
  let (i0, i1) := sampleSpan o.w o.sx bilinear a0 a1
  let (j0, j1) := sampleSpan o.h o.sy bilinear b0 b1
  (upTo (j1 / o.th - j0 / o.th + 1)).flatMap fun r => (upTo (i1 / o.tw - i0 / o.tw + 1)).map fun c => (j0 / o.th + r) * o.tilesX + i0 / o.tw + c

/-- Tiles of an object (`src`) and of a mask under the columns u0 to u1 of a leaf instance on its line v. -/
def Leaf.tilesUnder (l : Leaf) (j : Jobs) (ns : Nat) (v u0 u1 : Int) (src : Bool) : List TileRef :=
  match j.obj ns l.obj with
  | none => []
  | some o =>
    let (w, h) := o.dim
    let p := orientMap l.pl.orient w h u0 v
    let q := orientMap l.pl.orient w h u1 v
    let a0 := (min p.1 q.1).toNat
    let a1 := (max p.1 q.1).toNat
    let b0 := (min p.2 q.2).toNat
    let b1 := (max p.2 q.2).toNat
    (if src then (o.tilesUnder o.bilinear a0 a1 b0 b1).map fun t => (⟨ns, l.obj, t⟩ : TileRef) else []) ++
      (if l.pl.mask = 0xFFFFFFFF then []
       else match j.obj ns l.pl.mask with
        | none => []
        | some m => (m.tilesUnder false a0 a1 b0 b1).map fun t => (⟨ns, l.pl.mask, t⟩ : TileRef))

/-- Tiles of an object and of a mask that a leaf instance needs on line y. -/
def Leaf.tiles (l : Leaf) (j : Jobs) (ns y : Nat) : List TileRef :=
  let (rw, rh) := l.dim j ns
  let v : Int := y - l.y
  let u0 : Int := max 0 (-l.x)
  let u1 : Int := min rw (262144 - l.x) - 1
  if v < 0 ∨ rh ≤ v ∨ u1 < u0 then [] else l.tilesUnder j ns v u0 u1 true

/-- Jets that a strip evaluates, as (plane, column): its own and its pre-roll (R170, R178). -/
def Inputs.evaluated (r : Inputs) (k : Nat) : List (Nat × Nat) :=
  (upTo 8).flatMap fun plane =>
    ((if r.scr plane 1 = 1 then r.gen.preRoll plane (r.scr plane 3) k else []) ++ r.gen.planeOrder plane (stripJets k)).map fun q => (plane, q.1)

/-- Tiles from which strip k takes a sample of a leaf instance on line y (R168, R170): for its jets that the instance covers and whose plane it maps or knocks out. -/
def Leaf.stripTiles (l : Leaf) (r : Inputs) (k y : Nat) : List TileRef :=
  let (rw, rh) := l.dim r.jobs r.ns
  let v : Int := y - l.y
  if v < 0 ∨ rh ≤ v then []
  else (r.evaluated k).flatMap fun (plane, x) =>
    let u : Int := x - l.x
    let maps := (l.pl.channel plane).isSome
    if u < 0 ∨ rw ≤ u ∨ ¬(maps = true ∨ bit l.pl.knock plane = true) then [] else l.tilesUnder r.jobs r.ns v u u maps

/-- Tiles that strip k needs on line y. -/
def Inputs.stripTiles (r : Inputs) (k y : Nat) : List TileRef := (r.leaves.flatMap fun l => l.stripTiles r k y).eraseDups

/-- Tiles that a page needs on line y. -/
def Page.tilesAt (p : Page) (j : Jobs) (y : Nat) : List TileRef := ((p.leaves j).flatMap fun l => l.tiles j p.ns y).eraseDups

/-- The tile's state in the stash. -/
def Jobs.tileSt (j : Jobs) (t : TileRef) : TileSt :=
  match j.obj t.ns t.obj with
  | none => .lost
  | some o => (sget Tile.none o.tiles t.tile).st

/-! ## Jobs -/

/-- The line of a job's i-th step: a re-render with strips that compute from line 0 steps through every line up to the last one it writes. -/
def Job.line (jb : Job) (p : Page) (i : Nat) : Nat :=
  match jb.lines with
  | none => i
  | some l => if jb.whole.isEmpty then l.getD i p.len else i
/-- Number of steps of a job. -/
def Job.count (jb : Job) (p : Page) : Nat :=
  match jb.lines with
  | none => p.len
  | some l => if jb.whole.isEmpty then l.length else if l.isEmpty then 0 else l.foldl max 0 + 1
/-- The job writes a line. -/
def Job.writes (jb : Job) (y : Nat) : Bool := match jb.lines with | none => true | some l => l.contains y
/-- Strip k passes over the steps whose lines are only computed for other strips. -/
def Job.skips (jb : Job) (k : Nat) : Bool := jb.lines.isSome && !jb.whole.isEmpty && !jb.whole.contains k
/-- The step strip k has come to. -/
def Job.stepOf (jb : Job) (k : Nat) : Nat :=
  if jb.skips k && (sfind k jb.next).isNone then ((jb.lines.getD []).head?).getD 0 else sget 0 jb.next k
/-- The step of strip k after step i. -/
def Job.stepAfter (jb : Job) (p : Page) (k i : Nat) : Nat :=
  if jb.skips k then ((jb.lines.getD []).find? fun y => decide (i < y)).getD (jb.count p) else i + 1
/-- Step of the slowest and of the fastest pipeline. -/
def Job.slowest (jb : Job) : Nat := (upTo 32).foldl (fun m k => min m (jb.stepOf k)) (jb.stepOf 0)
/-- See `slowest`. -/
def Job.fastest (jb : Job) : Nat := (upTo 32).foldl (fun m k => max m (jb.stepOf k)) 0
/-- Every pipeline has done every step. -/
def Job.done (jb : Job) (p : Page) : Bool := decide (jb.slowest ≥ jb.count p)
/-- Some pipeline has done a step. -/
def Job.begun (jb : Job) : Bool := !jb.next.isEmpty
/-- Begun, and not every pipeline is done: the job is under way. -/
def Job.underWay (jb : Job) (p : Page) : Bool := jb.begun && !jb.done p

/-- The pipeline that does strip k's step i (R165): with a cluster out, its strips go line by line round the three others. -/
def Job.worker (jb : Job) (p : Page) (k i : Nat) : Nat :=
  if k / 8 = jb.out then 8 * (((upTo 4).filter (· != jb.out)).getD (jb.line p i % 3) 0) + k % 8 else k
/-- Pipeline w still has work in the job: its own strip, or its share of the strip it helps with. -/
def Job.workLeft (jb : Job) (p : Page) (w : Nat) : Bool :=
  w / 8 != jb.out && (decide (jb.stepOf w < jb.count p) ||
    (decide (jb.out < 4) &&
      let k := 8 * jb.out + w % 8
      (upTo (jb.count p - jb.stepOf k)).any fun d => jb.worker p k (jb.stepOf k + d) == w))

/-- Changes the n-th job. -/
def State.updJob (s : State) (i : Nat) (f : Job → Job) : State := { s with render := { s.render with jobs := s.render.jobs.modify i f } }

/-! ## Decoders and the tile cache (R155 to R157, R168, R169) -/

/-- Decoder d's work. -/
def State.decoder (s : State) (d : Nat) : Option Decoder := sget none s.render.decoders d

/-- A decode of the tile waits or runs (R157: at most one). -/
def State.decoding (s : State) (t : TileRef) : Bool :=
  s.render.decQueue.contains t || s.render.decoders.any fun e => e.2.any fun d => d.tile == t
/-- The tile is resident. -/
def State.resident (s : State) (t : TileRef) : Bool := s.render.cache.any fun c => c.tile == t

/-- A decoder is free for a decode at upload: those for render go first (R158). -/
def State.decoderFree (s : State) : Bool := s.render.decQueue.isEmpty && (upTo 16).any fun d => (s.decoder d).isNone

/-- Gives waiting decodes to free decoders. -/
def State.feedDecoders (s : State) : State :=
  (upTo 16).foldl (fun s d =>
    match s.decoder d, s.render.decQueue with
    | none, t :: ts => { s with render := { s.render with decoders := sset none s.render.decoders d (some ⟨t, 0, .start⟩), decQueue := ts } }
    | _, _ => s) s

/-- Asks for the decode of tiles that are not resident; a lost one is not asked for. -/
def State.askTiles (s : State) (ts : List TileRef) : State :=
  (ts.foldl (fun s t =>
    if s.resident t || s.decoding t || s.jobs.tileSt t != .complete then s
    else { s with render := { s.render with decQueue := s.render.decQueue ++ [t] } }) s).feedDecoders

/-- Bytes of a tile's samples. -/
def Jobs.tileBytes (j : Jobs) (t : TileRef) : Nat :=
  match j.obj t.ns t.obj with
  | none => 0
  | some o => let (w, h) := o.tileDim t.tile; w * h * o.ch * (o.depth / 8)

/-- Steps of a job whose tiles the walker has asked for: those it has walked and the prefetch distance beyond (R168). -/
def State.askedSteps (s : State) (jb : Job) (p : Page) : Nat := if jb.walked = 0 then 0 else min (jb.count p) (jb.walked + s.reg 0x4001 4)

/-- A job uses the tile in one of the steps from lo up to hi. -/
def State.usedIn (s : State) (t : TileRef) (jb : Job) (p : Page) (lo hi : Nat) : Bool :=
  (upTo (hi - lo)).any fun i => (p.tilesAt s.jobs (jb.line p (lo + i))).contains t

/-- A job needs the tile to stay (R168, R169): from its request until every pipeline has passed the last line that uses it; in thrash mode for the lines between the slowest and the fastest pipeline. -/
def State.pinnedBy (s : State) (t : TileRef) (jb : Job) : Bool :=
  match s.page jb.page with
  | none => false
  | some p =>
    if jb.thrash then s.usedIn t jb p jb.slowest (min (jb.count p) (jb.fastest + 1))
    else s.usedIn t jb p 0 (s.askedSteps jb p) && s.usedIn t jb p jb.slowest (jb.count p)

/-- A job wants the tile's samples: it has asked for them, or is stalled for them, and is not past them (R157). -/
def State.wantedFor (s : State) (t : TileRef) (jb : Job) : Bool :=
  match s.page jb.page with
  | none => false
  | some p => s.usedIn t jb p jb.slowest (max (s.askedSteps jb p) (min (jb.count p) (jb.fastest + 1)))

/-- Decodes whose samples no job wants any more are abandoned (R157). -/
def State.abandonDecodes (s : State) : State :=
  if s.render.decQueue.isEmpty && s.render.decoders.isEmpty then s
  else
    let wanted := fun t => s.render.jobs.any fun jb => s.wantedFor t jb
    ({ s with render := { s.render with
      decQueue := s.render.decQueue.filter wanted
      decoders := s.render.decoders.filter fun e => match e.2 with | some d => wanted d.tile | none => false } }).feedDecoders

/-- Bytes of the tile cache: 96 MiB, less a bank under test (R349). -/
def State.cacheSize (s : State) : Nat :=
  if s.reg 0xF000 4 != 0 && decide (0x0010 ≤ s.reg 0xF000 1) && decide (s.reg 0xF000 1 ≤ 0x0017) then 88080384 else 100663296

/-- Bytes in use. -/
def State.cacheUsed (s : State) : Nat := s.render.cache.foldl (fun n c => n + c.bytes) 0

/-- Evicts unpinned tiles, least recently used first, until there is room. -/
def State.evict (s : State) (need : Nat) : Nat → State
  | 0 => s
  | fuel + 1 =>
    if s.cacheUsed + need ≤ s.cacheSize then s
    else
      match s.render.cache.find? fun c => !(s.render.jobs.any fun jb => s.pinnedBy c.tile jb) with
      | none => s
      | some c => { s with render := { s.render with cache := s.render.cache.filter fun x => x.tile != c.tile } }.evict need fuel

/-- Bytes of the cache that a job pins. -/
def State.pinnedBytes (s : State) (jb : Job) : Nat := s.render.cache.foldl (fun m c => if s.pinnedBy c.tile jb then m + c.bytes else m) 0

/-- Thrash mode of a page whose pins fill the cache when it needs one more tile of n bytes (R169): once per page E185 and its count. -/
def State.thrash (s : State) (t : TileRef) (n : Nat) : State :=
  (List.range s.render.jobs.length).foldl (fun s i =>
    match s.render.jobs[i]? with
    | none => s
    | some jb =>
      if jb.thrash || !s.wantedFor t jb || decide (s.pinnedBytes jb + n ≤ s.cacheSize) then s
      else
        let s1 := s.updJob i fun j => { j with thrash := true }
        if (s1.page jb.page).any (·.thrashed) then s1
        else ((s1.updPage jb.page fun p => { p with thrashed := true }).bump 0x4000 5).raise 185 0 jb.page) s

/-- A tile is lost (R126): E077 is the session engine's; here its state. -/
def Jobs.loseTile (j : Jobs) (t : TileRef) : Jobs :=
  { j with stash := updWhere j.stash (fun o => o.ns == t.ns && o.id == t.obj) fun o =>
      { o with tiles := supd Tile.none o.tiles t.tile fun x => { x with st := .lost } } }

/-- Tile lost (R126, R154): the tile is poisoned, E077 is raised ([5:0] session, [63:32] object ID), and TILE_LOST goes to the session or waits for a slot (R114). A tile of a closed session has no one to tell. -/
def State.tileLost (s : State) (t : TileRef) : State :=
  let ses := match s.sessOfNs t.ns with | some (n, _) => n | none => 0
  let s1 := ({ s with jobs := s.jobs.loseTile t, render := { s.render with cache := s.render.cache.filter fun c => c.tile != t } }).raiseAt 77 2
    (ses % 64 + t.obj % 2 ^ 32 * 2 ^ 32) 6 1 0 0
  match s1.sessOfNs t.ns with
  | none => s1
  | some (n, _) =>
    let body := leBytes 4 t.obj ++ leBytes 4 t.tile ++ zeros 8
    let (s2, ok) := s1.completeFree n 0x43 body
    if ok then s2 else s2.updSess n fun x => { x with waiting := x.waiting ++ [(0x43, body)] }

/-- Source data that a page's render needs is lost (R91, R204, R346): reason 1 tile or mask, 2 chart. A render fails its page, an in-print repair is dropped. -/
def State.sourceLost (s : State) (jb : Job) (reason : Nat) : State :=
  if jb.repair then
    match s.store.repairs.find? fun r => r.page == jb.page && jb.lines == some [r.line] with
    | some r => (s.poisonConsumed (if reason = 1 then 1 else 3) 2 2 jb.page).dropRepair r
    | none => s
  else (s.poisonConsumed (if reason = 1 then 1 else 3) 2 3 jb.page).fail jb.page reason

/-- Which page, besides, a decoded tile counts for in the cache. -/
def State.wantedBy (s : State) (t : TileRef) : Nat :=
  match s.render.jobs.find? fun jb => s.wantedFor t jb with | some jb => jb.page | none => 0

/-- A parity error that a decode for render finds in a tile's block in the stash (M1). -/
def State.parityTile (s : State) (t : TileRef) : State :=
  match s.jobs.obj t.ns t.obj with
  | none => s
  | some o => let x := sget Tile.none o.tiles t.tile; s.parityIn 1 0xFFFF 2 1 (o.base + x.place) x.block.length (s.wantedBy t)

/-- DECODE_COMPLETE (R151, R154, R168): decoder d ends its block; `bad`: the stash read found a parity error (M1), so the tile is lost, as it is when its block decodes with an error (R154). It goes on from the state of its last stall (R156). With no cache space the decoder stalls on output (R156). -/
def State.decodeDone (s : State) (d : Nat) (bad : Bool) : State :=
  match s.decoder d with
  | none => s
  | some x =>
    let t := x.tile
    let free := fun (s : State) => ({ s with render := { s.render with decoders := sset none s.render.decoders d none } }).feedDecoders
    match s.jobs.obj t.ns t.obj with
    | none => free s
    | some o =>
      if bad then free ((s.parityTile t).tileLost t)
      else
        let (w, h) := o.tileDim t.tile
        match Qtc.decodeFrom w h o.ch o.depth (sget Tile.none o.tiles t.tile).block x.walk with
        | .inl e => free ((((s.bump 0x5800 2).set 0x5800 3 e.detail).parityTile t).tileLost t)
        | .inr _ =>
          let n := s.jobs.tileBytes t
          let s1 := s.evict n s.render.cache.length
          let s2 := if s1.cacheUsed + n ≤ s1.cacheSize then s1 else (s1.thrash t n).evict n s1.render.cache.length
          if s2.cacheUsed + n ≤ s2.cacheSize then
            free ({ s2 with render := { s2.render with cache := s2.render.cache ++ [(⟨t, s2.wantedBy t, 0, n⟩ : Cached)] } }.count 0x5800 1 64 1)
          else s2

/-- The block that a decoder reads, if its header is sound. -/
def State.blockOf (s : State) (t : TileRef) : Option Qtc.Block :=
  match s.jobs.obj t.ns t.obj with
  | none => none
  | some o =>
    let (w, h) := o.tileDim t.tile
    match Qtc.header w h o.ch o.depth (sget Tile.none o.tiles t.tile).block with
    | .inl _ => none
    | .inr k => some k

/-- Decoder d has stalled with `words` words in its input view so far, in a state that it keeps and goes on from (R156); the stall is counted. -/
def State.stalled (s : State) (d sub : Nat) (x : Decoder) (words : Nat) (w : Qtc.Walk) : State :=
  State.count { s with render := { s.render with decoders := sset none s.render.decoders d (some { x with words := words, walk := w }) } } 0x5800 sub 64 1

/-- INPUT_STALL_RESUME (R155): decoder d stood before a code word with `words` 64-bit words of the payload taken in, less than 64 bits of them unread, and more to come. -/
def State.inputStall (s : State) (d words : Nat) : State :=
  match s.decoder d with
  | none => s
  | some x =>
    match s.blockOf x.tile with
    | none => s
    | some k =>
      if words < x.words ∨ 8 * k.payload.length ≤ 64 * words then s
      else match k.resume (64 * words) k.samples x.walk with
        | .inl _ => s
        | .inr w => if w.written k < k.samples then s.stalled d 5 x words w else s

/-- OUTPUT_STALL_RESUME (R156): decoder d stood with `samples` samples written and its next one, or the code word that it comes from, still to do (DEDUCED, log 88); its view held at most 128 bits of the `words` words taken in. -/
def State.outputStall (s : State) (d samples words : Nat) : State :=
  match s.decoder d with
  | none => s
  | some x =>
    match s.blockOf x.tile with
    | none => s
    | some k =>
      if words < x.words ∨ samples < x.walk.written k ∨ k.samples ≤ samples then s
      else match k.resume (64 * words) samples x.walk with
        | .inl _ => s
        | .inr w => if w.written k = samples ∧ 64 * words ≤ w.pos + 128 then s.stalled d 4 x words w else s

/-! ## Page-render starts (R22, R192) -/

/-- A page render may not start: a swap is pending, or an array it needs is under test (R22, R187, R349). -/
def State.startsWait (s : State) : Bool :=
  s.render.buildSt == .pending || s.underTest 0x0018 || s.underTest 0x001A

/-- Jets are pending, or the active generation is invalid (R189, R190). -/
def State.notHiddenNow (s : State) : Bool := !s.render.pending.isEmpty || !s.render.active.bad.isEmpty

/-- The first page of the queue that waits to be rendered (R22, R95). -/
def State.nextWaiting (s : State) : Option Page := s.queued.find? fun p => p.st == .waiting

/-- DRAM pairs in service: new slots are laid out over them (R32). -/
def State.pairsIn (s : State) : Nat := (upTo 4).foldl (fun m p => if s.unit (0x0300 + p) == 0 then m + 2 ^ p else m) 0
/-- Render start (R21, R22, R91): slots, generation and segments bound; marked "jet not hidden" if so told (E184). -/
def State.renderPage (s : State) (p : Page) (hidden : Bool) : State :=
  let (s1, cs) := s.takeChunks (chunksOf p.len) s.freeChunks []
  let g := s1.render.active
  let s2 := s1.updPage p.num fun q => { q with
    st := .rendering, chunks := cs, gen := g.num, segs := g.segments, notHidden := !hidden, pairs := s1.pairsIn, writ := [], verified := false, relines := none, rerenders := 0 }
  let jb : Job := { page := p.num, lines := none, whole := [], next := [], walked := 0, out := s2.clusterOut, thrash := false, repair := false, ended := false }
  let s3 := { s2 with render := { s2.render with jobs := s2.render.jobs ++ [jb], holdPage := if s2.render.holdPage = p.num then 0 else s2.render.holdPage } }
  if hidden then s3 else (s3.raiseAt 184 3 (p.num + s3.render.pending.length % 65536 * 2 ^ 32) 1 6 p.num 0).spoilOther p.num

/-- The page manager works: SC firmware runs, BOOT_COMPLETE or not (R22, R414). -/
def State.pagesRun (s : State) : Bool := s.boot.phase == .boot || s.boot.phase == .run

/-- RENDER_START (R22, R192): the next WAITING page, if its slots are free and no swap is pending; with jets pending it is held (E183) while its slack exceeds the margin. -/
def State.renderStart (s : State) : State :=
  match s.nextWaiting with
  | none => s
  | some p =>
    if s.startsWait || decide (s.freeChunks.length < chunksOf p.len) || !s.pagesRun then s
    else if !s.notHiddenNow then s.renderPage p true
    else
      let holds := s.reg 0x4020 3 == 0 &&
        (match s.slack p s.render.active with | none => true | some d => decide (d > (s.reg 0x4020 4 * 1000 : Nat)))
      if !holds then s.renderPage p false
      else if s.render.holdPage = p.num then s
      else ({ s with render := { s.render with holdPage := p.num } }).raise 183 0 p.num

/-- NOT_HIDDEN_HOLD_END (R192): the held page's slack has fallen to the margin. -/
def State.holdEnd (s : State) : State := if s.render.holdPage = 0 then s else s.renderStart

/-! ## Walker (R167, R168) -/

/-- The job the walker walks: the first whose lines are not all walked. -/
def State.walkJob (s : State) : Option (Nat × Job × Page) :=
  (List.zip (List.range s.render.jobs.length) s.render.jobs).findSome? fun (i, jb) =>
    match s.page jb.page with
    | some p => if jb.walked < jb.count p then some (i, jb, p) else none
    | none => none

/-- Lines by which the walker's spans lie ahead of the slowest pipeline that still needs them, over all jobs (R167). -/
def State.spanLead (s : State) : Nat :=
  (upTo 32).foldl (fun m k => max m (s.render.jobs.foldl (fun n jb => n + (jb.walked - jb.stepOf k)) 0)) 0

/-- WALKER_LINE (R167, R168): the next line, if the walker is less than 64 lines ahead of the slowest pipeline; tiles of the prefetch distance are asked for, and on the first line those of the lines before it.
`chart` says what the chart-cache read found (M3). A lost tile or chart word ends the render. -/
def State.walkLine (s : State) (chart : Restored) : State :=
  match s.walkJob with
  | none => s
  | some (i, jb, p) =>
    if 64 ≤ s.spanLead then s
    else
      let s1 := match chart with
        | .clean => s
        | .corrected => s.parityIn 3 0x0018 1 1 0 16777216 p.num
        | .lost => s.parityIn 3 0x0018 2 1 0 16777216 p.num
      if chart = .lost then s1.sourceLost jb 2
      else
        let d := s.reg 0x4001 4
        let n := jb.count p
        let first := if jb.walked = 0 then 0 else jb.walked + d
        let ask := ((upTo (jb.walked + d + 1 - first)).flatMap fun q =>
          if first + q < n then p.tilesAt s.jobs (jb.line p (first + q)) else []).eraseDups
        if ask.any fun t => s.jobs.tileSt t == .lost then s1.sourceLost jb 1
        else (s1.askTiles ask).updJob i fun j => { j with walked := j.walked + 1 }

/-! ## Pipelines and the line check (R163, R183) -/

/-- Pipeline w may work on job i (R22, R163): a repair goes before everything (R204). Otherwise w is not in the middle of another page, and has nothing left of an earlier one unless it is in the middle of this one (R201: after its present page, before any later page). -/
def State.pipeFree (s : State) (i w : Nat) : Bool :=
  let started := fun (n : Nat) => match s.render.jobs[n]? with | some j => (sfind w j.next).isSome | none => false
  (match s.render.jobs[i]? with | some j => j.repair | none => false) ||
    (List.zip (List.range s.render.jobs.length) s.render.jobs).all fun (n, j) =>
      n == i || match s.page j.page with
        | some p => !j.workLeft p w || (!j.repair && !started n && (decide (i < n) || started i))
        | none => true

/-- The job that strip k's next line is of, with the page: the first in order (R22, R201, R204) that its pipeline is free for. -/
def State.stripJob (s : State) (k : Nat) : Option (Nat × Job × Page) :=
  (List.zip (List.range s.render.jobs.length) s.render.jobs).findSome? fun (i, jb) =>
    match s.page jb.page with
    | some p => if jb.stepOf k < jb.count p ∧ s.pipeFree i (jb.worker p k (jb.stepOf k)) = true then some (i, jb, p) else none
    | none => none

/-- Finished lines of strip k that the line check has not written, over all jobs (R163): its port-line still waits for another strip. -/
def State.unwritten (s : State) (k : Nat) : Nat :=
  s.render.jobs.foldl (fun n jb =>
    if jb.repair then n
    else match (s.page jb.page).bind fun p => s.genOf p.gen with
      | some g => n + (jb.stepOf k - (g.feeders (k / 2)).foldl (fun m j => min m (jb.stepOf j)) (jb.stepOf k))
      | none => n) 0

/-- Bits of the ports of a line that are poisoned. -/
def poisonBits (l : List (Nat × Nat × Bool)) : Nat := l.foldl (fun m q => if q.2.2 then setBit m q.1 true else m) 0

/-- Writes port-line n of line y: dose into the slot; the sixteenth writes the trailer (R183, R198). -/
def State.writePortLine (s : State) (p : Page) (g : Gen) (jb : Job) (n y : Nat) : State :=
  let r := s.inputs p g
  let dose := r.portLine n y
  let row := (sget [] p.writ y) ++ [(n, crc32c dose, r.poisoned s.render.badScreen n y)]
  let s1 := s.memWrite (p.doseAddr y + 8192 * n) dose
  if row.length < 16 then s1.updPage p.num fun q => { q with writ := sset [] q.writ y row }
  else
    let crcs := (upTo 16).map fun k => match row.find? fun q => q.1 == k with | some q => q.2.1 | none => 0
    let flags := 1 + (if jb.lines.isSome then 8 else 0) + (if p.notHidden then 16 else 0)
    ((s1.memWrite (p.trailerAddr y) (trailerBytes p.num y p.gen flags (poisonBits row) 0 crcs s1.stamp)).updPage p.num
      fun q => { q with writ := sset [] q.writ y [] }).count 0x4000 3 64 1

/-- Port-lines of a line that strip k's end of it finishes (R180): every strip whose doses or adds they need has ended the line. -/
def Gen.finishes (g : Gen) (jb : Job) (k : Nat) (next : Sparse Nat) (at_ : Nat) : List Nat :=
  (upTo 16).filter fun n => (g.feeders n).contains k && (g.feeders n).all fun j => decide (at_ < ({ jb with next := next } : Job).stepOf j)

/-- Writes port-lines of line y of the job's page. -/
def State.writePortLines (s : State) (g : Gen) (jb : Job) (y : Nat) (ns : List Nat) : State :=
  ns.foldl (fun s n => match s.page jb.page with | some p => s.writePortLine p g jb n y | none => s) s

/-- A word of the tile cache that a pipeline reads is restored from the stash, or cannot be and its tile is lost (M2; R126, R345): which tile is free. -/
def State.cacheFault (s : State) (jb : Job) (need : List TileRef) (cache : Restored) : State :=
  match cache, need with
  | .clean, _ | _, [] => s
  | .corrected, _ => s.parityCache 1 jb.page
  | .lost, t0 :: _ =>
    let (k, s1) := s.fresh
    ((s1.parityCache 2 jb.page).tileLost (need.getD (Config.choice k % need.length) t0)).sourceLost jb 1

/-- PIPELINE_LINE (R163, R168, R193): the pipeline of strip k ends one line after waiting `waited` cycles; `cache` says what its tile-cache reads found (M2).
It stalls while the spans are not walked, 64 of its finished lines wait to be written, or a tile that its jets need is not resident, and asks for tiles that were evicted (R169). -/
def State.pipeLine (s : State) (k waited : Nat) (cache : Restored) : State :=
  match s.stripJob k with
  | none => s
  | some (i, jb, p) =>
    let at_ := jb.stepOf k
    let y := jb.line p at_
    match s.genOf p.gen with
    | none => s
    | some g =>
      let need := (s.inputs p g).stripTiles k y
      if jb.walked ≤ at_ ∨ 64 ≤ s.unwritten k then s
      else if need.any fun t => s.jobs.tileSt t == .lost then s.sourceLost jb 1
      else if need.any fun t => !s.resident t then s.askTiles need
      else if cache = .lost ∧ need ≠ [] then s.cacheFault jb need cache
      else
        let used := s.render.cache.filter fun c => need.contains c.tile
        let rest := s.render.cache.filter fun c => !need.contains c.tile
        let next := sset 0 jb.next k (jb.stepAfter p k at_)
        let s1 := { s with render := { s.render with cache := rest ++ used } }
        let s2 := ((s1.count 0x4000 4 64 waited).count 0x4000 6 64 (g.crossAdds k)).updJob i fun j => { j with next := next }
        let s3 := s2.cacheFault jb need cache
        if jb.repair || !jb.writes y then s3 else s3.writePortLines g jb y (g.finishes jb k next at_)

/-! ## End of a render, verify (R20, R91, R200, R201) -/

/-- A page render or re-render with every strip done; repairs end otherwise (R204). -/
def State.renderOver (s : State) (jb : Job) : Bool :=
  !jb.repair && match s.page jb.page with | some p => jb.done p | none => false

/-- LAST_STRIP_WRITTEN (R20, R91): the first page render or re-render with every strip done ends; without a verify pass the page is VERIFIED at once. -/
def State.lastStrip (s : State) : State :=
  match s.render.jobs.find? s.renderOver with
  | none => s
  | some jb =>
    let v := s.flag 0x4810 1
    let s1 := { s with render := { s.render with jobs := s.render.jobs.filter fun j => !(!j.repair && j.page == jb.page) } }
    (s1.updPage jb.page fun p => { p with st := if v then .rendered else .verified, relines := jb.lines, verified := !v }).count 0x4000 2 64 1

/-- Parity errors that the verify engine finds in a line (R200, R341): `bad` in the dose beside those that stand there, and in the trailer. -/
def State.lineParity (s : State) (p : Page) (y : Nat) (bad : Bool) (outcome : Nat) : State :=
  let s1 := if bad || s.memBadIn (p.doseAddr y) 131072 then s.parityIn 5 0xFFFF outcome 8 (p.doseAddr y) 131072 p.num else s
  if s1.memBadIn (p.trailerAddr y) 92 then s1.parityIn 9 0xFFFF outcome 8 (p.trailerAddr y) 92 p.num else s1

/-- A line fails verification (R200): trailer not valid, a CRC that differs, or a parity error. -/
def State.lineFails (s : State) (p : Page) (y : Nat) (bad : Bool) : Bool :=
  let t := s.trailer p y false
  bad || !t.valid || s.memBadIn (p.doseAddr y) 131072 || (upTo 16).any fun n => crc32c (s.memRead (p.doseAddr y + 8192 * n) 8192) != t.crc n

/-- The verify engine works on the first RENDERED page of the queue (R200). -/
def State.verifying (s : State) : Option Page := s.queued.find? fun p => p.st == .rendered

/-- Where a re-render at verify goes (R201): behind the page that the slowest pipelines are on, and the re-renders already there; `pipeFree` lets no pipeline leave the page it is on. -/
def insertRerender (jobs : List Job) (jb : Job) : List Job :=
  let head := jobs.takeWhile fun j => j.repair
  let rest := jobs.dropWhile fun j => j.repair
  match rest with
  | j :: js =>
    if j.begun then head ++ [j] ++ js.takeWhile (fun q => q.lines.isSome) ++ [jb] ++ js.dropWhile (fun q => q.lines.isSome)
    else head ++ rest.takeWhile (fun q => q.lines.isSome) ++ [jb] ++ rest.dropWhile (fun q => q.lines.isSome)
  | [] => head ++ [jb]

/-- A job that renders lines of a page again (R166, R201, R204). -/
def State.rerunJob (s : State) (p : Page) (lines : List Nat) (repair : Bool) : Job :=
  let whole := match s.genOf p.gen with | some g => (s.inputs p g).wholeStrips | none => []
  { page := p.num, lines := some lines, whole := whole, next := [], walked := 0, out := s.clusterOut, thrash := false, repair := repair, ended := false }

/-- Lines that a verify pass reads (R200, R201): all, or the lines just rendered again. -/
def Page.toVerify (p : Page) : List Nat := match p.relines with | none => upTo p.len | some l => l

/-- VERIFY_PASS_END (R200, R201): `bad` lists the lines whose read found a parity error. Failed lines are counted, raise E191, and are re-rendered if the limit and R166 allow; else the page fails. -/
def State.verifyEnd (s : State) (bad : List Nat) : State :=
  match s.verifying with
  | none => s
  | some p =>
    let lines := p.toVerify
    let failed := lines.filter fun y => s.lineFails p y (bad.contains y)
    match failed with
    | [] => s.updPage p.num fun q => { q with st := .verified, verified := true, relines := none }
    | y0 :: _ =>
      let again := decide (p.rerenders < s.reg 0x4810 2) && s.mayRerender p
      let s1 := failed.foldl (fun s y => s.lineParity p y (bad.contains y) (if again then 1 else 2)) s
      let s2 := s1.set 0x4813 4 (satAdd 32 (s1.reg 0x4813 4) failed.length)
      let s3 := s2.raiseAt 191 2 (p.num + y0 * 2 ^ 32 + min failed.length 16383 * 2 ^ 50) 8 5 p.num 0
      if again then
        let jb := s3.rerunJob p failed false
        { s3.updPage p.num fun q => { q with st := .rendering, rerenders := q.rerenders + 1, relines := some failed } with
          render := { s3.render with jobs := insertRerender s3.render.jobs jb } }
      else s3.fail p.num 3

/-! ## Release (R23, R96, R98, R202) -/

/-- A heater measurement runs on some port: releases are held (R265). -/
def State.measuring (s : State) : Bool := s.ports.any fun e => e.2.meas.isSome

/-- Releases a page at a start (R23, R24, R96, R466). A page of a closed session whose release was withdrawn keeps the count of instances that the orphan policy left it (R99). -/
def State.releasePage (s : State) (num start : Nat) : State :=
  match s.page num with
  | none => s
  | some p =>
    let s1 := if p.late then s.count 0x4813 3 64 (start - p.lateFrom) else s
    let s2 := s1.updPage num fun q => { q with
      st := .released, pos := start, late := false, ports := s1.portsIn, insts := if q.orphan then q.insts else q.reps, cast := 0, live := [], castAt := 0, printed := 0, spoiledN := 0,
      fetched := [], sentN := [], fired := [], reverified := [], peer := [] }
    { s2 with pos := { s2.pos with hist := if s2.pagesActive then s2.pos.hist else s2.pos.hist.take 1 } }

/-- The page that is next to be released: the first of the queue that is not (R95). -/
def State.nextRelease (s : State) : Option Page := s.queued.find? fun p => !p.st.active

/-- Release is held: release hold (R98), not in RUN (R386), a DRAM component too hot (R326), a retraining runs (R333), a measurement runs (R265). -/
def State.held (s : State) : Bool :=
  s.flag 0x4882 0 || s.reg 0x0030 2 != 4 || s.dram.hot || s.dram.subs.any (fun e => e.2.run) || s.measuring

/-- Every condition of R23 but the board's, for a VERIFIED page. -/
def State.releasable (s : State) (p : Page) : Bool :=
  p.st == .verified && !s.held && !s.safe && decide (s.row + s.margin ≤ (s.startOf p.num).1)

/-- PAGE_RELEASE (R23): on a board the barrier decides (R443, R444). -/
def State.pageRelease (s : State) : State :=
  match s.nextRelease with
  | none => s
  | some p => if !s.onBoard && s.releasable p then s.releasePage p.num (s.startOf p.num).1 else s

/-! ## Pending jets (R190) -/

/-- A dropped stitch becomes pending (R190): the list shows the first 256, what follows waits in ascending jet number; E182. -/
def State.pendJet (s : State) (j : Nat) : State :=
  let l := s.render.pending
  if l.contains j || s.render.active.jetState j != 0 then s
  else
    let l1 := if l.length < 256 then l ++ [j]
      else l.take 256 ++ ((l.drop 256).filter fun x => decide (x < j)) ++ [j] ++ ((l.drop 256).filter fun x => decide (j < x))
    ({ s with render := { s.render with pending := l1 } }).raiseAt 182 2 (j + min l1.length 255 * 2 ^ 24) 3 5 0 0

/-- Clear pending (R190). -/
def State.clearPending (s : State) : State := { s with render := { s.render with pending := [] } }

end Sys2Proof.Machine
end

