-- ==== Sys2Proof/Machine/DramMap.lean ====
section
/-! DEFINITION. How DRAM is divided (R316, R319 to R323): stripes, layouts, blocks of 48 MiB, the three regions, the line-rate cap. -/

namespace Sys2Proof.Machine

/-- Bytes of a block (R319). -/
def blockBytes : Nat := 50331648

/-- Subchannels of a layout over the pairs of a mask, in ascending number (R319). -/
def layoutOf (m : Nat) : List Nat := (upTo 8).filter fun i => bit m (i / 2)

/-- Where a byte of a block lies (R319): the subchannel that holds its 256-byte unit, and the offset in that subchannel's share of the block. -/
def placeIn (m a : Nat) : Nat × Nat :=
  let l := layoutOf m
  let u := a % blockBytes / 256
  (l.getD (u % l.length) 0, u / l.length * 256 + a % 256)

/-- Some of n bytes from an address lie on a pair (R319): eight units in a row reach every subchannel of any layout. -/
def reachesPair (m pair a n : Nat) : Bool :=
  (upTo (min 8 ((a + n - 1) / 256 + 1 - a / 256))).any fun k => (placeIn m (a + 256 * k)).1 / 2 == pair

/-- A word of the configuration read at start-up: 0 data width, 1 ranks, 2 density, 3 data rate (R318). -/
def State.dramConf (s : State) (i : Nat) : Nat := s.dram.conf.getD i 0

/-- Stripes of 2 MiB of one subchannel, without stripe 0 (R316, R319). -/
def State.stripes (s : State) : Nat :=
  if s.dramConf 0 = 0 then 0 else 32 / s.dramConf 0 * s.dramConf 1 * s.dramConf 2 * 64 - 1

/-- Data capacity in bytes (R316; 0x6000:06). -/
def State.dramCapacity (s : State) : Nat := if s.dramConf 0 = 0 then 0 else 8 * (s.stripes + 1) * 2097152

/-- Number of pairs in a mask. -/
def pairCount (m : Nat) : Nat := (upTo 4).countP fun p => bit m p

/-- Stripes that a system copy of 5 blocks takes on each subchannel of its pairs (R321): L4 6 a block, L2 12 a block. -/
def copyStripes (m : Nat) : Nat := 5 * 24 / (2 * max 1 (pairCount m))

/-- Pairs of the two system copies (R321, R335): pairs 0 and 1, pairs 2 and 3 with all in service; otherwise the pairs in service split in two. -/
def copiesOver (m : Nat) : List Nat :=
  let ps := (upTo 4).filter fun p => bit m p
  let half := (ps.length + 1) / 2
  let mask := fun (l : List Nat) => l.foldl (fun n p => n + 2 ^ p) 0
  [mask (ps.take half), mask (ps.drop half)]

/-- Blocks that the pairs of a mask form in the widest layout, besides the system copies on the pairs of `cs` (R320, R321). -/
def State.blocksWith (s : State) (m : Nat) (cs : List Nat) : Nat :=
  let n := pairCount m
  if n < 2 then 0
  else
    let per := 24 / (2 * n)
    let sys := fun (p : Nat) => cs.foldl (fun t c => if bit c p then t + copyStripes c else t) 0
    let least := (upTo 4).foldl (fun l p => if bit m p then min l (s.stripes - sys p) else l) s.stripes
    least / per

/-- Blocks that the pairs of a mask form with the system copies laid out anew over them. -/
def State.blocksOver (s : State) (m : Nat) : Nat := s.blocksWith m (copiesOver m)
/-- Blocks of the pairs in service with the system copies where they are. -/
def State.blocksNow (s : State) : Nat := s.blocksWith s.pairsIn s.dram.copies

/-- Blocks of the page store for a number of chunks (R321). -/
def pageBlocks (chunks : Nat) : Nat := ceilDiv (128 * chunks) 48 + ceilDiv chunks 384

/-- Blocks of the stash for a page store of so many chunks. -/
def State.stashBlocks (s : State) (chunks : Nat) : Nat := s.blocksNow - pageBlocks chunks

/-- Stash bytes charged by every object (R124, R132). -/
def State.stashCharged (s : State) : Nat := s.jobs.stash.foldl (fun t o => t + o.charge) 0

/-- Free stash bytes (R321). -/
def State.stashFree (s : State) : Nat := s.stashBlocks (s.reg 0x4800 1) * blockBytes - s.stashCharged

/-- A block of 48 MiB belongs to the page store: where dose and trailer areas lie (R196, R320). -/
def State.storeChunk (s : State) (a : Nat) : Option Nat :=
  let n := s.reg 0x4800 1
  if doseBase ≤ a ∧ a < doseBase + n * 134217728 then some ((a - doseBase) / 134217728)
  else if trailerBase ≤ a ∧ a < trailerBase + n * 131072 then some ((a - trailerBase) / 131072)
  else none

/-- A byte address lies in the stash: every block that is neither page store nor system area (R321). -/
def State.inStash (s : State) (a : Nat) : Bool :=
  decide (a < s.dramCapacity) && (s.storeChunk a).isNone && !Config.systemBlock (a / blockBytes)

/-- A block of 48 MiB holds bytes of stash objects. -/
def State.stashHolds (s : State) (b : Nat) : Bool :=
  s.jobs.stash.any fun o => decide (o.base / blockBytes ≤ b) && decide (b * blockBytes < o.base + o.charge)

/-- The pairs of a mask hold the system copies, the page store as sized and the stash charged (R30, R336). -/
def State.fitsOver (s : State) (m : Nat) : Bool :=
  decide (2 ≤ pairCount m) && decide (pageBlocks (s.reg 0x4800 1) ≤ s.blocksOver m)
    && decide (s.stashCharged ≤ (s.blocksOver m - pageBlocks (s.reg 0x4800 1)) * blockBytes)

/-- Line-rate cap of n subchannels in service (R322). -/
def State.capFor (s : State) (n : Nat) : Nat := min 80000 (n * 4 * s.dramConf 3 * 650000 / 787200)

/-- The cap with the pairs of a mask. -/
def State.capOver (s : State) (m : Nat) : Nat := s.capFor (2 * pairCount m)

/-- Blocks by layout (0x6002:05): the system copies in theirs, every other block in the widest one. -/
def State.blocksByLayout (s : State) : Nat :=
  let lane := fun (n : Nat) => match n with | 4 => 0 | 3 => 16 | 2 => 32 | _ => 48
  let sys := s.dram.copies.foldl (fun t c => if c = 0 then t else t + 5 * 2 ^ lane (pairCount c)) 0
  sys + s.blocksNow * 2 ^ lane (pairCount s.pairsIn)

end Sys2Proof.Machine
end

