-- ==== Sys2Proof/Machine/Tables.lean ====
section
/-! DEFINITION. Table generations (R184 to R192): build commands, commit checks, swap, the device's own builds, reloads of table words. -/

namespace Sys2Proof.Machine

/-- Code of a build state in 0x4010:08 (R194). -/
def BuildSt.code : BuildSt → Nat
  | .empty => 0 | .cloning => 1 | .building => 2 | .checking => 3 | .pending => 4

/-- The build belongs to the device (R185). -/
def State.deviceOwns (s : State) : Bool := s.render.device.isSome

/-- Result of a build command (0x4010:04). -/
def State.buildResult (s : State) (r : Nat) (ok : Bool) : State × Bool := (s.set 0x4010 4 r, ok)

/-- Re-renders whose bound generation is no longer held (R166): a repair is dropped (R204), a page that is rendered again after its verify pass fails, for its lines are uncorrectable (R201). -/
def State.dropUnbound (s : State) : State :=
  let s1 := s.store.repairs.foldl (fun s r =>
    match s.page r.page with
    | some p => if s.mayRerender p then s else s.dropRepair r
    | none => s) s
  (s1.render.jobs.filter fun j => !j.repair && j.lines.isSome).foldl (fun s j =>
    match s.page j.page with
    | some p => if s.mayRerender p then s else s.fail p.num 3
    | none => s) s1

/-- Entry to CLONING (R185): the retained generation is given up. -/
def State.cloneStart (s : State) (why : Option BuildWhy) : State :=
  ({ s with render := { s.render with buildSt := .cloning, device := why, retained := none } }).dropUnbound

/-- The table array that is not active is under test: build commands are refused (R349). -/
def State.tablesUnderTest (s : State) : Bool := s.underTest 0x0019

/-- Clone command (R185). -/
def State.buildClone (s : State) : State × Bool :=
  if s.deviceOwns then s.buildResult 2 false
  else if s.render.buildSt ≠ .empty ∨ s.tablesUnderTest = true then s.buildResult 1 false
  else (s.cloneStart none).buildResult 0 true

/-- Commit command (R185). -/
def State.buildCommit (s : State) : State × Bool :=
  if s.deviceOwns then s.buildResult 2 false
  else if s.render.buildSt ≠ .building ∨ s.tablesUnderTest = true then s.buildResult 1 false
  else ({ s with render := { s.render with buildSt := .checking } }).buildResult 0 true

/-- Discard command (R185): no retained generation. -/
def State.buildDiscard (s : State) : State × Bool :=
  if s.deviceOwns then s.buildResult 2 false
  else if s.render.buildSt ≠ .building ∨ s.tablesUnderTest = true then s.buildResult 1 false
  else ({ s with render := { s.render with buildSt := .empty, retained := none } }).buildResult 0 true

/-! ## Darning (R191) -/

/-- Nearest LIVE jet of a plane on one side of a column within a reach. -/
def Gen.nearest (g : Gen) (plane col reach jet : Nat) (below : Bool) : Option Nat :=
  let cands := allJets.filter fun j => j != jet && g.jetState j == 0 && g.jetPlane j == plane &&
    (if below then decide (g.jetCol j < col) && decide (col - g.jetCol j ≤ reach) else decide (col < g.jetCol j) && decide (g.jetCol j - col ≤ reach))
  cands.foldl (fun b j => match b with
    | none => some j
    | some i => if below then (if g.jetCol i < g.jetCol j then some j else b) else (if g.jetCol j < g.jetCol i then some j else b)) none

/-- Word of a darning entry. -/
def darnWord (dead a b sa sb : Nat) : Nat := dead + a * 2 ^ 18 + b * 2 ^ 36 + sa * 2 ^ 54 + sb * 2 ^ 59

/-- Removes the darning entry of a jet; later entries move up. -/
def Gen.undarn (g : Gen) (jet : Nat) : Gen :=
  let keep := g.darnings.filter fun e => field e 0 18 != jet
  let g1 := (List.zip (List.range keep.length) keep).foldl (fun g (i, e) => g.setLe 3 (8 * i) 8 e) g
  { g1 with darn := keep.length }

/-- Gives a jet its entry under R191; the Bool says that it found the table full. -/
def Gen.darnJet (g : Gen) (reach jet : Nat) : Gen × Bool :=
  let g1 := g.undarn jet
  let lo := g1.nearest (g1.jetPlane jet) (g1.jetCol jet) reach jet true
  let hi := g1.nearest (g1.jetPlane jet) (g1.jetCol jet) reach jet false
  let w := match lo, hi with
    | some a, some b => some (darnWord jet a b 8 8)
    | some a, none => some (darnWord jet a 0 16 0)
    | none, some b => some (darnWord jet b 0 16 0)
    | none, none => none
  match w with
  | none => (g1, false)
  | some w => if g1.darn ≥ 32768 then (g1, true) else ({ g1.setLe 3 (8 * g1.darn) 8 w with darn := g1.darn + 1 }, false)

/-- Sets the state field of a jet. -/
def Gen.setJetState (g : Gen) (j st : Nat) : Gen :=
  let e := g.jet j
  g.setLe 2 (8 * j) 8 (e - field e 24 2 * 2 ^ 24 + st * 2 ^ 24)

/-- Makes entries for jets in the build, E187 for each that finds the table full. -/
def State.darnJets (s : State) (jets : List Nat) : State :=
  jets.foldl (fun s j =>
    let (g, full) := s.render.build.darnJet (s.reg 0x4020 7) j
    let s1 := { s with render := { s.render with build := g } }
    if full then s1.raiseAt 187 2 j 1 6 0 0 else s1) s

/-- Jets of a port. -/
def portJets (n : Nat) : List Nat := (List.range 16384).map fun i => n * 16384 + i

/-- Sets the states of jets of the build. -/
def State.setStates (s : State) (l : List (Nat × Nat)) : State :=
  { s with render := { s.render with build := l.foldl (fun g (j, st) => g.setJetState j st) s.render.build } }

/-- Entries of the build that name one of these jets as a partner with a share: their dead jets are darned anew, since a partner must be LIVE (R186, R191). -/
def Gen.orphaned (g : Gen) (jets : List Nat) : List Nat :=
  g.darnings.filterMap fun e =>
    if (field e 54 5 ≠ 0 ∧ jets.contains (field e 18 18)) ∨ (field e 59 5 ≠ 0 ∧ jets.contains (field e 36 18)) then some (field e 0 18) else none

/-- Keeps the jet states that a drain finds, for the return (R188). -/
def State.keepStates (s : State) (had : List (Nat × Nat)) : State :=
  { s with render := { s.render with preDrain := had.foldl (fun m e => sset 0 m e.1 (e.2 + 1)) s.render.preDrain } }

/-- Keeps which of some jets the build darns now (R188). -/
def State.keepDarned (s : State) (jets : List Nat) : State :=
  let mine := (s.render.build.darnings.map fun e => field e 0 18).filter fun j => jets.contains j
  { s with render := { s.render with darned := mine.foldl (fun m j => sset 0 m j 1) s.render.darned } }

/-- The jets, and those that their loss leaves without a darning neighbour, are darned. -/
def State.darnWith (s : State) (jets : List Nat) : State := s.darnJets (jets ++ (s.render.build.orphaned jets).filter fun j => !jets.contains j)

/-- The build of a port drain: every jet of the port takes state 2 (R188), and each that the build makes OUT is darned (R191). -/
def State.drainEdit (s : State) (n : Nat) : State :=
  let jets := portJets n
  let going := jets.filter fun j => s.render.active.jetState j != 2
  let s1 := (s.setStates (jets.map fun j => (j, 2))).keepStates (jets.map fun j => (j, s.render.active.jetState j))
  if s.flag 0x4020 6 then (s1.darnWith going).keepDarned going else s1

/-- A port's darnings that its drain made go out of the build, and what was kept for its return goes (R188). -/
def State.undarnPort (s : State) (n : Nat) : State :=
  { s with render := { s.render with
      build := ((portJets n).filter fun j => sget 0 s.render.darned j != 0).foldl (fun g j => g.undarn j) s.render.build
      preDrain := s.render.preDrain.filter fun e => decide (e.1 / 16384 ≠ n)
      darned := s.render.darned.filter fun e => decide (e.1 / 16384 ≠ n) } }

/-- The build of a port return: jets that are still as the drain left them get their states back. -/
def State.backEdit (s : State) (n : Nat) : State :=
  let back := ((portJets n).filter fun j => decide (s.render.active.jetState j = 2) && decide (sget 0 s.render.preDrain j ≠ 0)).map
    fun j => (j, sget 0 s.render.preDrain j - 1)
  let s1 := (s.setStates back).undarnPort n
  if s.flag 0x4020 6 then s1.darnJets ((back.filter fun b => b.2 == 1).map (·.1)) else s1

/-- The build for dropped stitches: the pending jets DEAD. -/
def State.stitchEdit (s : State) : State :=
  let s1 := s.setStates (s.render.pending.map fun j => (j, 1))
  if s.flag 0x4020 6 then s1.darnWith s.render.pending else s1

/-- The edits of a device build (R188, R191). -/
def State.deviceEdit (s : State) (why : BuildWhy) : State :=
  match why with
  | .drain n => s.drainEdit n
  | .back n => s.backEdit n
  | .stitches => s.stitchEdit

/-! ## Commit checks (R186) -/

/-- Used jets of a build with plane and column. -/
def Gen.used (g : Gen) : List (Nat × Nat × Nat) :=
  (allJets.filter fun j => g.jetState j != 3).map fun j => (j, g.jetPlane j, g.jetCol j)

/-- First element whose test against the ones before it fails. -/
def firstClash {α : Type} (bad : α → α → Bool) : List α → List α → Option α
  | _, [] => none
  | seen, x :: xs => if seen.any fun y => bad y x then some x else firstClash bad (x :: seen) xs

/-- Lowest and highest column of a strip's jets of a plane. -/
def colRange (u : List (Nat × Nat × Nat)) (plane strip : Nat) : Option (Nat × Nat) :=
  u.foldl (fun r (j, p, c) => if p = plane ∧ j / 8192 = strip then
    (match r with | none => some (c, c) | some (lo, hi) => some (min lo c, max hi c)) else r) none

/-- A jet whose column lies in the range of another strip of its error-diffusion plane. -/
def edClash (u : List (Nat × Nat × Nat)) (ed : Nat → Bool) : Option Nat :=
  (u.find? fun (j, p, c) => ed p && (upTo 32).any fun st => st != j / 8192 &&
    match colRange u p st with | some (lo, hi) => decide (lo ≤ c) && decide (c ≤ hi) | none => false).map (·.1)

/-- The commit checks in order: code and entry of the first that fails. The entry is the lowest-numbered one that breaks the check (for codes 1, 2 and 10 against a lower-numbered one). -/
def Gen.check (g : Gen) (ed : Nat → Bool) : Option (Nat × Nat) :=
  let u := g.used
  let es := List.zip (List.range g.darn) g.darnings
  ((firstClash (fun (a b : Nat × Nat × Nat) => a.1 / 1024 == b.1 / 1024 && a.2.1 != b.2.1) [] u).map fun x => (1, x.1)) <|>
  ((firstClash (fun (a b : Nat × Nat × Nat) => a.2.1 == b.2.1 && a.2.2 == b.2.2) [] u).map fun x => (2, x.1)) <|>
  ((edClash u ed).map fun j => (3, j)) <|>
  (((List.range 1048576).find? fun i => decide (g.le 0 (2 * i) 2 > 4095)).map fun i => (4, i)) <|>
  ((allJets.find? fun j => decide ((toSigned 16 (g.le 1 (4 * j + 2) 2)).natAbs > 4095)).map fun j => (5, j)) <|>
  ((allJets.find? fun j => field (g.jet j) 48 2 == 3).map fun j => (6, j)) <|>
  (if g.darn > 32768 then some (7, g.darn) else none) <|>
  ((es.find? fun (_, e) => g.jetState (field e 0 18) == 0 || g.jetState (field e 0 18) == 3).map fun x => (8, x.1)) <|>
  ((es.find? fun (_, e) =>
    let sa := field e 54 5
    let sb := field e 59 5
    let bad := fun (sh p : Nat) => sh != 0 && (g.jetState p != 0 || g.jetPlane p != g.jetPlane (field e 0 18) || p == field e 0 18)
    decide (sa + sb > 16) || bad sa (field e 18 18) || bad sb (field e 36 18)).map fun x => (9, x.1)) <|>
  ((firstClash (fun (a b : Nat × Nat) => field a.2 0 18 == field b.2 0 18) [] es).map fun x => (10, x.1))

/-- A plane is screened by error diffusion. -/
def State.edPlane (s : State) (p : Nat) : Bool := s.reg (0x4030 + p) 1 == 1

/-! ## The build's own events (R185, R187, R188) -/

/-- CLONE_COMPLETE: the active tables stand in the build; a device build makes its edits and goes on to the checks. -/
def State.cloneDone (s : State) : State :=
  if s.render.buildSt ≠ .cloning then s
  else
    let s1 := ({ s with render := { s.render with build := { s.render.active with bad := [] }, buildSt := .building } }).set 0x4010 4 0
    match s1.render.device with
    | none => s1
    | some why => { s1.deviceEdit why with render := { (s1.deviceEdit why).render with buildSt := .checking } }

/-- COMMIT_CHECKS_COMPLETE (R185): E181 with code and entry and back to BUILDING, or PENDING. -/
def State.checksDone (s : State) : State :=
  if s.render.buildSt ≠ .checking then s
  else
    match s.render.build.check s.edPlane with
    | none => { s with render := { s.render with buildSt := .pending } }
    | some (code, entry) =>
      let s1 := (((s.set 0x4010 4 3).set 0x4010 5 code).set 0x4010 6 entry).raise 181 0 (code + entry * 256)
      { s1 with render := { s1.render with buildSt := .building } }

/-- Next generation number (R185). -/
def nextGen (n : Nat) : Nat := if n ≥ 0xFFFF then 1 else n + 1

/-- Pages not yet RELEASED that an older generation rendered return to WAITING (R32, DARN). -/
def State.rerenderOlder (s : State) : State :=
  s.jobs.pages.foldl (fun s p =>
    if (p.st = .rendering ∨ p.st = .rendered ∨ p.st = .verified) ∧ p.gen ≠ s.render.active.num then s.rerender p.num else s) s

/-- A swap waits for it (R184, R187): a page render that was taken before the swap came to wait, begun or not, for the page has bound the active generation; a re-render that is under way. -/
def State.renderUnderWay (s : State) (jb : Job) : Bool :=
  !jb.repair && match s.page jb.page with | some p => if jb.lines.isNone then !jb.done p else jb.underWay p | none => false

/-- GENERATION_SWAP (R185, R187): between the end of one page's render and the start of the next. Pending jets that it made DEAD or OUT leave the map (R190); a drain or return of a port has its build (R32). -/
def State.swap (s : State) : State :=
  let busy := s.render.jobs.any s.renderUnderWay
  if s.render.buildSt ≠ .pending ∨ busy = true then s
  else
    let g := { s.render.build with num := nextGen s.render.active.num }
    let left := s.render.pending.filter fun j => g.jetState j == 0 || g.jetState j == 3
    let why := s.render.device
    let s1 := ({ s with render := { s.render with
        active := g, retained := some s.render.active, buildSt := .empty, device := none, pending := left
        holdPage := if left.isEmpty then 0 else s.render.holdPage
        wanted := match why with | some w => s.render.wanted.filter fun x => x != w | none => s.render.wanted } }).raise 180 0
      (g.num + s.render.active.num * 65536)
    let s2 := s1.dropUnbound
    match why with
    | some (.drain _) =>
      let s3 := { s2 with units := { s2.units with moved := true } }
      if s3.reg 0x0028 5 = 0 then s3.rerenderOlder else s3
    | some (.back _) => { s2 with units := { s2.units with moved := true } }
    | _ => s2

/-- What the device wants to build next (R188, R191): a drain, a returned port whose link is ACTIVE, dropped stitches. -/
def State.buildWanted (s : State) : Option BuildWhy :=
  match s.render.wanted with
  | w :: _ => some w
  | [] =>
    match (upTo 16).find? fun n => s.unit (portUnit n) == 3 && s.linkState n == 5 && !s.units.moved with
    | some n => some (.back n)
    | none => if s.flag 0x4020 5 && !s.render.pending.isEmpty then some .stitches else none

/-- DEVICE_BUILD (R188): once the build is EMPTY. A build of the device that failed its checks stands in BUILDING, where the device discards it first (log entry 42). -/
def State.deviceBuild (s : State) : State :=
  if s.render.buildSt = .building ∧ s.deviceOwns = true then { s with render := { s.render with buildSt := .empty, device := none, retained := none } }
  else if s.render.buildSt ≠ .empty ∨ s.tablesUnderTest = true then s
  else match s.buildWanted with | none => s | some w => s.cloneStart (some w)

/-! ## Reloads (R189, R345) -/

/-- A parity error in SC code or data (M8) is reloaded from flash; when the flash read fails it is uncorrectable: E236 at SEV4, and cause-present bit 3 until the place has been reloaded (R28, R345, R346, R378). -/
def State.scReload (s : State) (loc : Nat) (good : Bool) : State :=
  let s1 := s.parityError 8 0xFFFF (if good then 1 else 2) 7 loc 0
  let lost := (s.integ.scLost.filter (· != loc)) ++ if good then [] else [loc]
  let s2 := { s1 with integ := { s1.integ with scLost := lost } }
  let s3 := s2.set 0x7800 4 (setBit (s2.reg 0x7800 4) 3 (!lost.isEmpty))
  if good then s3 else s3.poisonConsumed 8 5 4 0

/-- TABLE_RELOAD_COMPLETE (R189): a word with a parity error is reloaded from its backing copy, or is uncorrectable: E186, the generation is invalid. -/
def State.tableReload (s : State) (w : TableWord) (good : Bool) : State :=
  let t := w.table.val
  let e := w.entry.toNat
  if t = 0 then s.scReload e good
  else
    let c := if t = 5 then 10 else 4
    let size := match t with | 1 => 2 | 2 => 4 | 3 => 8 | 4 => 8 | _ => 2
    let s1 := s.parityError c (if t = 5 then 0x001A else if w.retained then 0x0019 else 0xFFFF) (if good then 1 else 2) 1 (size * e) 0
    if good then s1
    else
      let num := if w.retained then (match s.render.retained with | some g => g.num | none => 0) else s.render.active.num
      let mark := fun (g : Gen) => if g.bad.contains (t - 1, e) then g else { g with bad := g.bad ++ [(t - 1, e)] }
      let r := s1.render
      let r1 := if t = 5 then { r with active := mark r.active, badScreen := if r.badScreen.contains e then r.badScreen else r.badScreen ++ [e] }
        else if w.retained then { r with retained := r.retained.map mark } else { r with active := mark r.active }
      ({ s1 with render := r1 }).raiseAt 186 3 (num + t * 65536 + e * 2 ^ 24) 1 1 0 0

end Sys2Proof.Machine
end

