-- ==== Sys2Proof/Machine/Readout.lean ====
section
/-! DEFINITION. Readout and sending (R25 to R27, R203 to R206, R253 to R261), in-print repair (R204), re-verification (R211). -/

namespace Sys2Proof.Machine

/-! ## Which slice is next (R25, R254, R466) -/

/-- The first active page of the queue that a module carries and whose slices are not all through a stage; with the number of the next one. -/
def State.nextSlice (s : State) (mk : Nat) (stage : Page → Sparse Nat) : Option (Page × Nat) :=
  s.queued.findSome? fun p =>
    let n := sget 0 (stage p) mk
    if p.st.active && bit p.ports (mk / 4) && decide (n < p.insts * p.len) then some (p, n) else none

/-- The slice of page p numbered n (instance × L + line) in a module's FIFO quarter. -/
def Lane.slice (l : Lane) (p : Page) (n : Nat) : Option Slice :=
  l.slices.find? fun x => x.page == p.num && x.inst == n / p.len && x.line == n % p.len

/-- Changes that slice. -/
def State.updSlice (s : State) (mk : Nat) (p : Page) (n : Nat) (f : Slice → Slice) : State :=
  s.updLane mk fun l => { l with slices := updWhere l.slices (fun x => x.page == p.num && x.inst == n / p.len && x.line == n % p.len) f }

/-- DRAM address of a module's slice of a line. -/
def Page.sliceAddr (p : Page) (y mk : Nat) : Nat := p.doseAddr y + 2048 * mk

/-! ## The port-line compare (R26, R203) -/

/-- CRC-32C register after n zero bytes. -/
def crcZeros : Nat → Nat → Nat
  | 0, c => c
  | n + 1, c => crcZeros n (crc32cByte c 0)

/-- CRC-32C of a port-line from the CRCs of its four slices (R26). -/
def combineCrc (crcs : List Nat) : Nat := crcs.foldl (fun a b => crcZeros 2048 a ^^^ b) 0

/-- The four slice CRCs are at hand. -/
def LineCmp.full (c : LineCmp) : Bool := (upTo 4).all fun m => (sfind m c.crcs).isSome
/-- Their combination. -/
def LineCmp.crc (c : LineCmp) : Nat := combineCrc ((upTo 4).map fun m => sget 0 c.crcs m)

/-- A compare of a line. -/
def LineCmp.of (c : LineCmp) (num inst line : Nat) : Bool := c.page == num && c.inst == inst && c.line == line

/-- Takes the compares of a line, on the ports of a mask, off the list. -/
def State.dropCmps (s : State) (num inst line ports : Nat) : State :=
  { s with cmps := s.cmps.filter fun c => !(c.of num inst line && bit ports c.port) }

/-- Port-line n of a line has been judged; once every port-line that the page carries is, the line's compares are done with. -/
def State.judged (s : State) (p : Page) (inst line n : Nat) : State :=
  let s1 := { s with cmps := updWhere s.cmps (fun c => c.of p.num inst line && c.port == n) fun c => { c with proven := true } }
  let allIn := (upTo 16).all fun k => !bit p.ports k || s1.cmps.any fun c => c.of p.num inst line && c.port == k && c.proven
  if allIn then s1.dropCmps p.num inst line 0xFFFF else s1

/-- R204's conditions for a repair of line y: in-print repair on, R166, t_need < t_left. -/
def State.repairFits (s : State) (p : Page) (y : Nat) (left : Option Nat) : Bool :=
  s.flag 0x4810 3 && s.mayRerender p && p.st.active &&
    match left with | none => false | some t => decide (s.repairNs p y < t)

/-- Inserts a repair in the order of deadlines (R204). -/
def insertRepair (r : Repair) : List Repair → List Repair
  | [] => [r]
  | q :: qs => if r.deadline < q.deadline ∧ q.started = false then r :: q :: qs else q :: insertRepair r qs

/-- Puts a repair of a line in the queue; a line has one repair for all its port-lines. `fetch`: it must be done before the first fetch of this instance (R211). -/
def State.queueRepair (s : State) (num line port ports left : Nat) (fetch : Option Nat) : State :=
  if s.store.repairs.any fun r => r.page == num && r.line == line then
    { s with store := { s.store with repairs := updWhere s.store.repairs (fun r => r.page == num && r.line == line) fun r => { r with ports := r.ports ||| ports } } }
  else { s with store := { s.store with repairs := insertRepair ⟨num, line, port, ports, s.clk.now + left, false, false, fetch⟩ s.store.repairs } }

/-- Lowest port of a mask. -/
def lowPort (ports : Nat) : Nat := ((upTo 16).find? fun n => bit ports n).getD 0

/-- A page-store error on port-lines of a line of an instance (R203): slices already sent stay unproven and spoil the instance; the others wait for a repair, or are poisoned. -/
def State.storeError (s : State) (p : Page) (inst line ports : Nat) : State :=
  let n := inst * p.len + line
  let s1 := (upTo 64).foldl (fun s mk =>
    if !bit ports (mk / 4) || !bit p.ports (mk / 4) then s
    else if n < sget 0 p.fired mk then s.spoil p.num inst 3 line (mk / 4)
    else s.updSlice mk p n fun x => if x.sends > 0 then { x with poison := addPoison x.poison 3 } else x) s
  let s2 := s1.dropCmps p.num inst line ports
  let left := s2.nsLeft p.num line
  if s2.repairFits p line left then
    (s2.updSlices p.num line ports fun x => if x.sends = 0 then { x with refetch := true } else x).queueRepair p.num line (lowPort ports) ports (left.getD 0) none
  else s2.storePoison p.num line ports

/-- A mark of port-line n of a line of an instance on its four slices (R203, R207); a slice that has fired already spoils the instance now. -/
def State.markSlices (s : State) (p : Page) (inst line n reason : Nat) : State :=
  (upTo 4).foldl (fun s m =>
    let mk := 4 * n + m
    if inst * p.len + line < sget 0 p.fired mk then s.spoil p.num inst reason line n
    else s.updSlice mk p (inst * p.len + line) fun x => { x with poison := addPoison x.poison reason }) s

/-- Marks the slices of the port-lines of a mask. -/
def State.markLines (s : State) (p : Page) (inst line ports reason : Nat) : State :=
  (upTo 16).foldl (fun s n => if bit ports n && bit p.ports n then s.markSlices p inst line n reason else s) s

/-- The slices of the port-lines of a mask have passed R26. -/
def State.proveLines (s : State) (p : Page) (inst line ports : Nat) : State :=
  (upTo 64).foldl (fun s mk => if bit ports (mk / 4) then s.updSlice mk p (inst * p.len + line) fun x => { x with proven := true } else s) s

/-- The line's earliest send deadline, over the modules that carry the page, is still to come. -/
def State.beforeDeadlines (s : State) (p : Page) (inst line : Nat) : Bool :=
  (upTo 64).all fun mk => !bit p.ports (mk / 4) || decide (0 < s.nsToDeadline p inst line mk)

/-- Readout reads the port-lines of the ports that do not carry the page, for their CRCs (R203, R466); not once the earliest send deadline has come. -/
def State.readUncarried (s : State) (p : Page) (inst line : Nat) : State :=
  if !s.beforeDeadlines p inst line then s
  else (upTo 16).foldl (fun s n =>
    if bit p.ports n || s.cmps.any fun c => c.of p.num inst line && c.port == n then s
    else
      let crcs := (upTo 4).map fun m => (m, crc32c (s.memRead (p.sliceAddr line (4 * n + m)) 2048))
      { s with cmps := s.cmps ++ [⟨p.num, inst, line, n, crcs, s.memBadIn (p.doseAddr line + 8192 * n) 8192, false, true⟩] }) s

/-- The port-lines of a line whose trailer failed: recomputed from the slice CRCs if those of all sixteen are at hand and every dose byte fetched was clean (R203);
an error as soon as that is impossible (`late`: the earliest send deadline has come). -/
def State.trailerFailed (s0 : State) (p : Page) (inst line : Nat) (late parity : Bool) : State :=
  let s := s0.readUncarried p inst line
  let mine := s.cmps.filter fun c => c.of p.num inst line
  let crcOf := fun (n : Nat) => (mine.find? fun c => c.port == n && c.full).map (·.crc)
  if mine.any fun c => c.bad then (if parity then s.parityIn 9 0xFFFF 2 2 (p.trailerAddr line) 92 p.num else s).storeError p inst line 0xFFFF
  else if (upTo 16).all fun n => (crcOf n).isSome then
    let old := s.memRead (p.trailerAddr line) 92
    let t := trailerBytes p.num line p.gen (5 + leAt old 10 2 / 8 % 4 * 8) (leAt old 12 2) (leAt old 14 2)
      ((upTo 16).map fun n => (crcOf n).getD 0) s.stamp
    let s1 := (s.memWrite (p.trailerAddr line) t).bump 0x4813 6
    let s2 := if parity then s1.parityIn 9 0xFFFF 1 2 (p.trailerAddr line) 92 p.num else s1
    let rp := leAt old 12 2
    let sp := leAt old 14 2
    (((s2.proveLines p inst line 0xFFFF).markLines p inst line rp 5).markLines p inst line sp 3).dropCmps p.num inst line 0xFFFF
  else if late || (upTo 16).any fun n => !bit p.ports n && (crcOf n).isNone then
    (if parity then s.parityIn 9 0xFFFF 2 2 (p.trailerAddr line) 92 p.num else s).storeError p inst line 0xFFFF
  else s

/-- Trailers that failed and still wait for slice CRCs, on lines that a test picks: it is too late for them now (R203). -/
def State.trailersDue (s : State) (mk : Nat) (due : Nat → Nat → Nat → Bool) : State :=
  s.cmps.foldl (fun s c =>
    match s.page c.page with
    | some p =>
      if c.trailer && !c.proven && bit p.ports (mk / 4) && due c.page c.inst c.line && s.cmps.any (fun d => d.of c.page c.inst c.line && d.trailer && !d.proven)
      then s.trailerFailed p c.inst c.line true false else s
    | none => s) s

/-- R26 and R203 for port-line n of a line whose four slices are at hand; `parity`: the trailer read found a parity error. -/
def State.judge (s : State) (p : Page) (inst line n : Nat) (parity : Bool) : State :=
  match s.cmps.find? fun c => c.of p.num inst line && c.port == n with
  | none => s
  | some c =>
    let t := s.trailer p line parity
    if !t.sound then
      ({ s with cmps := updWhere s.cmps (fun c => c.of p.num inst line && c.port == n) fun c => { c with trailer := true } }).trailerFailed p inst line false parity
    else if t.test then s.storeError p inst line 0xFFFF
    else if bit t.store n then
      let s1 := (s.markSlices p inst line n 3).judged p inst line n
      let left := s1.nsLeft p.num line
      if s1.repairFits p line left then s1.queueRepair p.num line n (2 ^ n) (left.getD 0) none else s1
    else if c.crc = t.crc n ∧ c.bad = false then
      let s1 := s.proveLines p inst line (2 ^ n)
      (if bit t.render n then s1.markSlices p inst line n 5 else s1).judged p inst line n
    else
      let s1 := if c.bad then s.parityIn 5 0xFFFF (if s.repairFits p line (s.nsLeft p.num line) then 1 else 2) 2 (p.doseAddr line + 8192 * n) 8192 p.num else s
      s1.storeError p inst line (2 ^ n)

/-- Adds a slice CRC to the compare of its port-line. -/
def addCmp (l : List LineCmp) (num inst line n m crc : Nat) (bad : Bool) : List LineCmp :=
  if l.any fun c => c.of num inst line && c.port == n then
    updWhere l (fun c => c.of num inst line && c.port == n) fun c => { c with crcs := sinsert m crc c.crcs, bad := c.bad || bad }
  else l ++ [⟨num, inst, line, n, [(m, crc)], bad, false, false⟩]

/-- SLICE_FETCH (R25, R26): the module's next slice, if it lies at most 64 line periods ahead of its fire and its quarter of the FIFO has room. A FIFO under test stores nothing (R349). -/
def State.sliceFetch (s : State) (mk : Nat) (f : ReadFault) : State :=
  match s.nextSlice mk (·.fetched) with
  | none => s
  | some (p, n) =>
    let inst := n / p.len
    let y := n % p.len
    if s.underTest (mk / 4) || decide ((s.lane mk).slices.length ≥ 64) || decide (s.row + 64 < p.instStart inst + y + s.lag mk (p.instStart inst + y) / 64) then s
    else
      let data := s.memRead (p.sliceAddr y mk) 2048
      let bad := f == .dose || s.memBadIn (p.sliceAddr y mk) 2048
      let sl : Slice := { page := p.num, inst := inst, line := y, data := data, crc := crc32c data, proven := false, poison := 0, sent := none, sentCrc := 0, sends := 0, sentAt := 0, echo := 0, refetch := false }
      let s1 := (s.updLane mk fun l => { l with slices := l.slices ++ [sl] }).updPage p.num fun q => { q with fetched := sset 0 q.fetched mk (n + 1) }
      let s2 := { s1 with cmps := addCmp s1.cmps p.num inst y (mk / 4) (mk % 4) sl.crc bad }
      match s2.cmps.find? fun c => c.of p.num inst y && c.port == mk / 4 with
      | some c => if c.full then s2.judge p inst y (mk / 4) (f == .trailer) else s2
      | none => s2

/-! ## Repairs (R204) -/

/-- t_left of a repair (R204): to the earliest send deadline, or, found at re-verification, to the first fetch of the line for the instance (R211). -/
def State.repairLeft (s : State) (p : Page) (r : Repair) : Option Nat :=
  match r.fetch with
  | none => s.nsLeft r.page r.line
  | some i => some (s.fetchLeft p i r.line)

/-- IN_PRINT_REPAIR_START (R204): one repair runs at a time; the first in order starts, or is dropped when its condition has failed. -/
def State.repairStart (s : State) : State :=
  match s.store.repairs with
  | [] => s
  | r :: _ =>
    if s.store.repairs.any fun q => q.started then s
    else
      match s.page r.page with
      | none => s
      | some p =>
        if !s.repairFits p r.line (s.repairLeft p r) then s.dropRepair r
        else
          let jb := s.rerunJob p [r.line] true
          ({ s with store := { s.store with repairs := updWhere s.store.repairs (fun q => q.page == r.page && q.line == r.line) fun q => { q with started := true } }
                    render := { s.render with jobs := jb :: s.render.jobs } }).bump 0x4813 5

/-- Fetches the unsent slices of a line again and proves them against the new trailer (R204). -/
def State.refetchLine (s : State) (p : Page) (line : Nat) : State :=
  let t := s.trailer p line false
  (upTo 64).foldl (fun s mk =>
    if !(s.lane mk).slices.any fun x => x.page == p.num && x.line == line && x.sends == 0 then s
    else
      let data := s.memRead (p.sliceAddr line mk) 2048
      let whole := s.memRead (p.doseAddr line + 8192 * (mk / 4)) 8192
      let good := t.valid && crc32c whole == t.crc (mk / 4)
      s.updLane mk fun l => { l with slices := updWhere l.slices (fun x => x.page == p.num && x.line == line && x.sends == 0) fun x =>
        { x with data := data, crc := crc32c data, proven := good, refetch := false
                 poison := (if good then setBit x.poison 3 false else addPoison x.poison 3) } }) s

/-- IN_PRINT_REPAIR_COMPLETE (R204, R213): every strip has rendered the line; only now is it written, with its trailer. -/
def State.repairDone (s : State) : State :=
  match s.store.repairs.find? fun r => r.started with
  | none => s
  | some r =>
    match s.page r.page, s.render.jobs.find? fun j => j.repair && j.page == r.page && j.lines == some [r.line] with
    | some p, some jb =>
      match s.genOf p.gen, jb.done p with
      | some g, true =>
        let s0 := s.writePortLines g jb r.line (upTo 16)
        let s1 := { s0 with store := { s0.store with repairs := s0.store.repairs.filter fun q => !(q.page == r.page && q.line == r.line) }
                            render := { s0.render with jobs := s0.render.jobs.filter fun j => !(j.repair && j.page == r.page && j.lines == some [r.line]) } }
        let s2 := { s1 with cmps := s1.cmps.filter fun c => !(c.page == r.page && c.line == r.line && c.full) }
        ((s2.refetchLine p r.line).count 0x4000 2 64 1).repairEvent r (if r.late then 1 else 0)
      | _, _ => s
    | _, _ => s

/-! ## Sending (R205, R253, R254) -/

/-- T_slice in ns (R259). -/
def sliceNs (rate : Nat) : Nat := ceilDiv (258 * blockTime10 rate + 200) 10
/-- T_rt of a port in ns (R259). -/
def State.roundTrip (s : State) (n : Nat) : Nat := 2 * s.reg (portIdx n) 7 + 440 + 5 * blockTime10 (s.link n).rate / 10

/-- A LINE frame (R253). -/
def lineFrame (m tag waves : Nat) (retx : Bool) (data : Bytes) : Bytes :=
  leBytes 1 0x33 ++ leBytes 1 (m + (if retx then 4 else 0)) ++ leBytes 2 tag ++ leBytes 2 waves ++ zeros 2 ++ data
    ++ leBytes 1 0x4B ++ leBytes 1 m ++ leBytes 2 tag ++ leBytes 4 (crc32c data)

/-- A slice is sent blank (R205): an underrun or a FIFO under test always, a poisoned one as 0x4811:03 says. -/
def State.sendsBlank (s : State) (x : Slice) : Bool :=
  bit x.poison 6 || bit x.poison 14 || ((bit x.poison 3 || bit x.poison 4) && s.reg 0x4811 3 == 1)

/-- A module is fitted, and its link ACTIVE (R252). -/
def State.sends (s : State) (mk : Nat) : Bool := s.linkState (mk / 4) == 5 && bit (s.link (mk / 4)).mods (mk % 4)

/-- Slots of a module taken at the far end (R254). -/
def Lane.inFlight (l : Lane) : Nat := (l.slices.countP fun x => x.sent.isSome) + l.gone.length

/-- A far-end slot is free: at most D − 1 slices are sent and not yet fired (R254). -/
def Lane.hasSlot (l : Lane) (depth : Nat) : Bool := decide (l.inFlight + 1 < depth)

/-- Sends slice n of page p for the first time, under the next tag (R253, R254). -/
def State.sendSlice (s : State) (mk : Nat) (p : Page) (n : Nat) (x : Slice) : State :=
  let port := mk / 4
  let blank := s.sendsBlank x
  let data := if blank then zeros 2048 else x.data
  let tag := (s.lane mk).nextTag
  let s1 := s.down port (mk % 4) (lineFrame (mk % 4) tag (s.link port).waves false data)
  let s2 := s1.updSlice mk p n fun x => { x with sent := some tag, sentCrc := crc32c data, sends := 1, sentAt := s.clk.now + sliceNs (s.link port).rate, echo := 0 }
  let s3 := (s2.updLane mk fun l => { l with nextTag := wrapAdd 16 tag 1 }).updPage p.num fun q => { q with sentN := sset 0 q.sentN mk (n + 1) }
  let s4 := s3.count (portIdx port + 2) 1 64 1
  if bit x.poison 3 || bit x.poison 4 then s4.bump (portIdx port + 2) 7 else s4

/-- SLICE_SEND (R254): the next slice of the module, once it is in the FIFO and a far-end slot is free. `bad`: its FIFO read finds a parity error (M6): refetched when the deadline is at least 2 µs away, else poisoned (R203). -/
def State.sliceSend (s : State) (mk : Nat) (bad : Bool) : State :=
  match s.nextSlice mk (·.sentN) with
  | none => s
  | some (p, n) =>
    match (s.lane mk).slice p n with
    | none => s
    | some x =>
      if !s.sends mk || x.refetch || !(s.lane mk).hasSlot (s.link (mk / 4)).depth then s
      else if !bad then s.sendSlice mk p n x
      else if s.nsToDeadline p x.inst x.line mk ≥ 2000 then
        let data := s.memRead (p.sliceAddr x.line mk) 2048
        let s0 := s.parityIn 6 (mk / 4) 1 3 0 524288 p.num
        let unread := s.memBadIn (p.sliceAddr x.line mk) 2048
        let s1 := if unread then s0.parityIn 5 0xFFFF (if s.repairFits p x.line (s.nsLeft p.num x.line) then 1 else 2) 2 (p.sliceAddr x.line mk) 2048 p.num else s0
        if crc32c data = x.crc ∧ unread = false then s1.updSlice mk p n fun x => { x with data := data }
        else (s1.updSlice mk p n fun x => { x with data := data, crc := crc32c data, proven := false }).storeError p x.inst x.line (2 ^ (mk / 4))
      else
        let x1 := { x with poison := addPoison x.poison 4 }
        let s1 := (s.parityIn 6 (mk / 4) 3 3 0 524288 p.num).updSlice mk p n fun _ => x1
        s1.sendSlice mk p n x1

/-- The send deadline of a slice of a page, instance and line to a module has come. -/
def State.deadlineCome (s : State) (mk num inst line : Nat) : Bool :=
  match s.page num with | some p => s.nsToDeadline p inst line mk == 0 | none => false

/-- SEND_DEADLINE (R203): the module's next slice is not sent and its deadline has come. One that is missing from the FIFO becomes a blank one (FIFO_UNDERRUN, or TEST_DATA while the FIFO is under test);
one that waits for a repair is poisoned; a trailer that could not be recomputed by now is a page-store error. The slice is sent, if a far-end slot is free (R254). -/
def State.sendDeadline (s : State) (mk : Nat) : State :=
  let s1 := s.trailersDue mk (s.deadlineCome mk)
  match s1.nextSlice mk (·.sentN) with
  | none => s1
  | some (p, n) =>
    let inst := n / p.len
    let y := n % p.len
    if !s1.sends mk || s1.nsToDeadline p inst y mk != 0 then s1
    else
      let room := (s1.lane mk).hasSlot (s1.link (mk / 4)).depth
      match (s1.lane mk).slice p n with
      | some x =>
        if x.refetch then
          let x1 := { x with refetch := false, poison := addPoison x.poison 3 }
          let s2 := { s1 with store := { s1.store with repairs := updWhere s1.store.repairs (fun r => r.page == p.num && r.line == y) fun r => { r with late := true } } }
          let s3 := s2.updSlice mk p n fun _ => x1
          if room then s3.sendSlice mk p n x1 else s3
        else if room then s1.sendSlice mk p n x else s1
      | none =>
        let why := if s1.underTest (mk / 4) then 14 else 6
        let x : Slice := { page := p.num, inst := inst, line := y, data := zeros 2048, crc := crc32c (zeros 2048), proven := false, poison := 2 ^ why, sent := none, sentCrc := 0, sends := 0, sentAt := 0, echo := 0, refetch := false }
        let s2 := (s1.updLane mk fun l => { l with slices := l.slices ++ [x] }).updPage p.num fun q => { q with fetched := sset 0 q.fetched mk (max (sget 0 q.fetched mk) (n + 1)) }
        if room then s2.sendSlice mk p n x else s2

/-! ## Echoes (R203, R206, R260) -/

/-- Detail field of E048 + n (R272). -/
def echoDetail (kind m seg tag page : Nat) : Nat := kind + m * 16 + seg * 64 + tag * 256 + page * 2 ^ 32

/-- Predicted t_out is reached: an echo compared in its nanosecond or after it is late (R260). -/
def State.echoLate (s : State) (p : Page) (inst line mk : Nat) : Bool :=
  let sub := s.target p inst line mk
  match s.reached sub with
  | none => false
  | some (_, t) => decide (s.fireTime mk (2 * t + s.fineAt mk sub) ≤ 2 * s.clk.now + 1)

/-- ECHO (R260): matched to the send of its tag; that of a slice whose line will not fire (R254) decides nothing. -/
def State.echo (s : State) (mk tag crc : Nat) : State :=
  let port := mk / 4
  let m := mk % 4
  if s.linkState port ≠ 5 then s
  else
    match (s.lane mk).slices.find? fun x => x.sent == some tag with
    | none =>
      if (s.lane mk).gone.contains tag then s
      else if (s.lane mk).missed.contains tag then
        (s.updLane mk fun l => { l with missed := l.missed.filter fun t => t != tag }).bump (portIdx port + 2) 6
      else (s.blockError port).raise (48 + port) 0 (echoDetail 7 m 0 tag 0)
    | some x =>
      match s.page x.page with
      | none => s
      | some p =>
        let n := x.inst * p.len + x.line
        if x.sends = 2 ∧ s.clk.now < x.sentAt then s
        else if s.echoLate p x.inst x.line mk then s.bump (portIdx port + 2) 6
        else if crc = x.sentCrc then
          let s1 := s.updSlice mk p n fun x => { x with echo := 1 }
          if x.sends = 1 then s1.count (portIdx port + 2) 2 64 1 else s1
        else if x.sends = 1 ∧ s.nsToFire p x.inst x.line mk ≥ sliceNs (s.link port).rate + s.roundTrip port then
          let data := if x.sentCrc = x.crc then x.data else zeros 2048
          let s1 := s.down port m (lineFrame m tag (s.link port).waves true data)
          let s2 := s1.updSlice mk p n fun x => { x with sends := 2, sentAt := s.clk.now + sliceNs (s.link port).rate }
          (((s2.bump (portIdx port + 2) 3).bump 0x4813 8).count (portIdx port + 2) 1 64 1).raiseAt (48 + port) 1 (echoDetail 1 m 0 tag x.page) 3 5 x.page 0
        else
          ((s.updSlice mk p n fun x => { x with echo := 2 }).bump (portIdx port + 2) 4).raiseAt (48 + port) 3 (echoDetail 2 m 0 tag x.page) 3 5 x.page 0

/-! ## Re-verification (R211) -/

/-- Largest whole-line lag, on a row-counter line, of the modules of the ports that carry a page (kmax, R209). -/
def State.kMax (s : State) (p : Page) (row : Nat) : Nat := (upTo 64).foldl (fun k mk => if bit p.ports (mk / 4) then max k (s.lag mk row / 64) else k) 0

/-- Slices that every module of the page has fired. -/
def Page.firedAll (p : Page) : Nat :=
  (upTo 64).foldl (fun n mk => if bit p.ports (mk / 4) then min n (sget 0 p.fired mk) else n) (p.insts * p.len)

/-- REVERIFY_LINE (R211): a line that has fired on every module is checked before its first fetch for the next instance; a line that fails is counted and repaired. -/
def State.reverify (s : State) (num line : Nat) (bad : Bool) : State :=
  match s.page num with
  | none => s
  | some p =>
    let done := p.firedAll
    let i := if done % p.len > line then done / p.len else done / p.len - 1
    let n := (i + 1) * p.len + line
    let early := (upTo 64).all fun mk => !bit p.ports (mk / 4) || decide (sget 0 p.fetched mk ≤ n)
    let left := s.fetchLeft p (i + 1) line
    if !s.flag 0x4810 4 || p.st != .printing || p.len = 0 || line ≥ p.len || decide (done ≤ line) || decide (i + 1 ≥ p.insts) || !early
        || decide (p.len + p.gap ≤ 64 + s.kMax p (p.instStart (i + 1) + line)) || decide (left < 2050) || p.reverified.contains (i, line) then s
    else
      let s1 := s.updPage num fun q => { q with reverified := (i, line) :: q.reverified.filter fun e => decide (i ≤ e.1 + 1) }
      if !s1.lineFails p line bad then s1
      else
        let t := s1.trailer p line false
        let ports := if bad || !t.valid then 0xFFFF
          else (upTo 16).foldl (fun m n => if crc32c (s1.memRead (p.doseAddr line + 8192 * n) 8192) != t.crc n then m + 2 ^ n else m) 0
        let fits := s1.repairFits p line (some left)
        let s2 := s1.bump 0x4813 4
        let s3 := s2.lineParity p line bad (if fits then 1 else 2)
        if fits then s3.queueRepair num line (lowPort ports) ports ((s3.nsLeft num line).getD left) (some (i + 1)) else s3.storePoison num line ports

end Sys2Proof.Machine
end

