-- ==== Sys2Proof/Machine/Fire.lean ====
section
/-! DEFINITION. Fire instants (R225 to R229), the tension table (R230 to R232), shingling (R238), temperatures (R257), SPOIL_N in time (R209). -/

namespace Sys2Proof.Machine

/-! ## Tension (R230 to R232) -/

/-- Table that a device segment selects (0xFF none). -/
def State.tensionOf (s : State) (seg : Nat) : Nat := leAt (s.bytes 0x2862 0 (384 + seg) 1) 0 1

/-- A field of a tension table. -/
def State.tension (s : State) (t off n : Nat) : Nat := s.le 0x2862 0 (48 * t + off) n

/-- Bin of a temperature: clamp(floor((T − base) / step), 0, 31). -/
def State.binOf (s : State) (t : Nat) (temp : Int) : Nat :=
  (clampInt 0 31 ((temp - toSigned 16 (s.tension t 0 2)) / (s.tension t 2 2 : Int))).toNat

/-- Latest temperature report of a device segment. -/
def State.segTemp (s : State) (seg : Nat) : Int := toSigned 16 (s.le (portIdx (seg / 16) + 3) 1 (2 * (seg % 16)) 2)

/-- No report for the stale time (R231). -/
def State.segStale (s : State) (seg : Nat) : Bool :=
  decide (sget 0 s.fire.report seg - 1 + s.reg 0x2860 3 * 1000000 ≤ s.clk.now)

/-- The bin a segment uses now (R230): kept within the hysteresis. -/
def State.segBin (s : State) (seg : Nat) : Nat :=
  let t := s.tensionOf seg
  let temp := s.segTemp seg
  let base := toSigned 16 (s.tension t 0 2)
  let step : Int := s.tension t 2 2
  let hyst : Int := s.tension t 4 1
  match sget 0 s.fire.bins seg with
  | 0 => s.binOf t temp
  | b + 1 => if temp ≥ base + (b + 1) * step + hyst ∨ temp < base + b * step - hyst then s.binOf t temp else b

/-- Preheat count of a segment for a line, with its new bin and the count of stale decisions (R230, R231). -/
def State.preheat (s : State) (seg : Nat) : State × Nat :=
  let t := s.tensionOf seg
  if t > 7 then (s, 0)
  else if s.segStale seg then (s.bump 0x2860 4, s.tension t 5 1)
  else
    let b := s.segBin seg
    ({ s with fire := { s.fire with bins := sset 0 s.fire.bins seg (b + 1) } }, s.tension t (8 + b) 1)

/-- A table of 0x2861 that the commit refuses (R232): a step of 0, a hysteresis not below the step, an entry or stale count above 31. -/
def tensionBad (b : Bytes) (t : Nat) : Bool :=
  let step := leAt b (48 * t + 2) 2
  step == 0 || decide (leAt b (48 * t + 4) 1 ≥ step) || decide (leAt b (48 * t + 5) 1 > 31) || (upTo 32).any fun i => decide (leAt b (48 * t + 8 + i) 1 > 31)

/-- The commit of R232, with the tables given: every one of the eight is checked. -/
def State.commitTables (s : State) (b : Bytes) : State × Bool :=
  if (upTo 8).any fun t => tensionBad b t then (s.set 0x2860 2 2, false)
  else (((s.setBytes 0x2862 0 0 b).set 0x2860 2 0).bump 0x2860 5, true)

/-- Tension commit (R232) of the build object. -/
def State.tensionCommit (s : State) : State × Bool := s.commitTables (s.bytes 0x2861 0 0 640)

/-- A temperature report of a device segment (R230, R231): its first one sets the bin without hysteresis, and every one ends the stale condition. -/
def State.segReport (s : State) (seg v : Nat) : State :=
  let s1 := s.setBytes (portIdx (seg / 16) + 3) 1 (2 * (seg % 16)) (leBytes 2 v)
  let t := s1.tensionOf seg
  let first := sget 0 s.fire.report seg = 0 ∧ t ≤ 7
  { s1 with fire := { s1.fire with report := sset 0 s1.fire.report seg (s.clk.now + 1), stale := sset false s1.fire.stale seg false
                                   bins := if first then sset 0 s1.fire.bins seg (s1.binOf t (s1.segTemp seg) + 1) else s1.fire.bins } }

/-- TEMP (R257): four 12-bit temperatures of a module. -/
def State.temp (s : State) (mk t : Nat) : State :=
  if s.linkState (mk / 4) ≠ 5 then s
  else (upTo 4).foldl (fun s k => s.segReport (4 * mk + k) (ofSigned 16 (toSigned 12 (field t (12 * k) 12)))) s

/-- TEMPERATURE_REPORT_STALE (R231): E199 once each time a segment becomes stale. -/
def State.tempStale (s : State) (seg : Nat) : State :=
  if s.segStale seg = false ∨ sget false s.fire.stale seg = true then s
  else ({ s with fire := { s.fire with stale := sset false s.fire.stale seg true } }).raiseAt 199 2 seg 9 6 0 0

/-! ## Fire markers (R227, R238, R256) -/

/-- The shingling mask lets a segment fire a row-counter line (R238). -/
def State.shingle (s : State) (seg row : Nat) : Bool :=
  !s.shuttle ||
    let k := s.reg 0x2870 0x0D % s.reg 0x2870 9
    let l := (((row : Int) - s.passStart) % (s.reg 0x2870 0x0A : Int)).toNat
    let i := (k * 64 + l) * 256 + seg
    bit (leAt (s.bytes 0x2873 0 (i / 8) 1) 0 1) (i % 8)

/-- Segments of a module enabled for a line (R227). -/
def State.enables (s : State) (p : Page) (row mk : Nat) : Nat :=
  if s.safe then 0
  else (upTo 4).foldl (fun m k => if bit p.segs (4 * mk + k) && s.shingle (4 * mk + k) row then m + 2 ^ k else m) 0

/-- A FIRE block (R256); where the offset lies in 800 to 1,200 depends on t_ref, which the spec leaves to the device: a free value. -/
def State.fireBlock (s : State) (mk tag enables : Nat) (heat : List Nat) : State :=
  let (k, s1) := s.fresh
  let off := 800 + Config.choice k % 401
  s1.down (mk / 4) (mk % 4) (leBytes 1 0x55 ++ leBytes 1 (mk % 4 + enables * 4) ++ leBytes 2 tag
    ++ leBytes 4 (heat.getD 0 0 + heat.getD 1 0 * 2 ^ 5 + heat.getD 2 0 * 2 ^ 10 + heat.getD 3 0 * 2 ^ 15 + off * 2 ^ 20))

/-- WITHDRAWN_SLICE_FREE (R254): the oldest tag whose line will not fire. -/
def State.withdrawnFree (s : State) (mk : Nat) : State :=
  match (s.lane mk).gone with
  | [] => s
  | tag :: rest => (s.updLane mk fun l => { l with gone := rest }).fireBlock mk tag 0 []

/-- Preheat counts of the four segments of a module. -/
def State.preheats (s : State) (mk : Nat) : State × List Nat :=
  (upTo 4).foldl (fun (s, l) k => let (s1, h) := s.preheat (4 * mk + k); (s1, l ++ [h])) (s, [])

/-! ## Fire instants (R226, R228, R229) -/

/-- Λ at a time in half-ns: the latest advance not after it. -/
def State.lamAtHalf (s : State) (t : Nat) : Nat :=
  match s.pos.hist.find? fun e => decide (2 * e.2 ≤ t) with
  | some (l, _) => l
  | none => 0

/-- Next fire of a module (R226): page, slice number, t_pos and Λ there, t_out in half-ns; none until Λ has reached it. -/
def State.nextFire (s : State) (mk : Nat) : Option (Page × Nat × Nat × Nat × Nat) :=
  (s.nextSlice mk (·.fired)).bind fun (p, n) =>
    let sub := s.target p (n / p.len) (n % p.len) mk
    (s.reached sub).map fun (l, t) => (p, n, t, l, s.fireTime mk (2 * t + s.fineAt mk sub))

/-- A spoil reason that a line brings at its fire on a module (R203, R207, R261). A line that was not sent while the link is ACTIVE, though its deadline has passed on it, has no echo. -/
def State.fireReason (s : State) (mk : Nat) (passed : Bool) (x : Option Slice) (r : Nat) : Bool :=
  let up := s.linkState (mk / 4) == 5
  match r, x with
  | 9, none => !up
  | 9, some x => !up || (s.sends mk && x.sent.isNone && passed)
  | 8, _ => s.portOutSpoils
  | 6, none => up && !s.underTest (mk / 4)
  | 14, none => up && s.underTest (mk / 4)
  | 2, some x => s.sends mk && (if x.sent.isNone then !passed else x.echo == 0)
  | 1, some x => s.sends mk && x.sent.isSome && x.echo == 2
  | _, none => false
  | _, some x => up && bit x.poison r

/-- Spoil reasons of a line at its fire, lowest code first (R207); `passed`: the module's sends went past it when its link came up again (R261). -/
def State.fireReasons (s : State) (mk : Nat) (passed : Bool) (x : Option Slice) : List Nat :=
  [1, 2, 3, 4, 5, 6, 8, 9, 14].filter (s.fireReason mk passed x)

/-- Consumption of the marks of a slice that fires (R345, R346). A port-line's render poison does not tell M4 from M10: free. -/
def State.consume (s : State) (x : Slice) : State :=
  let s1 := if bit x.poison 3 then s.poisonConsumed 5 1 3 x.page else s
  let s2 := if bit x.poison 4 then s1.poisonConsumed 6 1 3 x.page else s1
  if bit x.poison 5 then
    let (k, s3) := s2.fresh
    s3.poisonConsumed (if Config.choice k % 2 = 0 then 4 else 10) 1 3 x.page
  else s2

/-- SLOW_N and the greatest lag after a fire with lag λ (R228, R229). -/
def State.slowCheck (s : State) (p : Page) (n mk lam : Nat) : State :=
  let lag := sset 0 s.fire.lag mk lam
  let s1 := ({ s with fire := { s.fire with lag := lag } }).set 0x2830 2 (lag.foldl (fun (m : Nat) (e : Nat × Nat) => max m e.2) 0)
  if lam > s.reg 0x2830 1 then
    let s2 := s1.spoil p.num (n / p.len) 10 (n % p.len) (mk / 4)
    let s3 := ({ s2 with fire := { s2.fire with slow := true } }).set 0x2830 3 1
    (s3.raiseAt 193 3 (mk / 4 + mk % 4 * 16 + min lam 255 * 256 + p.num * 2 ^ 32) 9 6 p.num 0).bump 0x2830 4
  else if s1.fire.slow && lag.isEmpty then
    (({ s1 with fire := { s1.fire with slow := false } }).set 0x2830 3 0).raise 194 0 0
  else s1

/-- The line is spoiled for each reason found (R207); reason 2 is also an error of the echo comparison (R260). -/
def State.fireSpoils (s : State) (p : Page) (inst y mk : Nat) (x : Option Slice) (why : List Nat) : State :=
  let s1 := why.foldl (fun s r => s.spoil p.num inst r y (mk / 4)) s
  if why.contains 2 then
    (s1.bump (portIdx (mk / 4) + 2) 5).raiseAt (48 + mk / 4) 3 (echoDetail 3 (mk % 4) 0 ((x.bind (·.sent)).getD 0) p.num) 3 5 p.num 0
  else s1

/-- The preheats, and the FIRE block of a line that was sent (R226, R231). -/
def State.fireSend (s : State) (p : Page) (row mk : Nat) (x : Option Slice) : State :=
  match x.bind (·.sent) with
  | some tag =>
    let (s1, heat) := s.preheats mk
    s1.fireBlock mk tag (s1.enables p row mk) heat
  | none => (s.preheats mk).1

/-- The line leaves the lane; a sent line whose echo has not come is kept among the missed ones (R260). Delays kept for lines up to this one are forgotten (R226). -/
def State.fireTaken (s : State) (p : Page) (inst y mk out : Nat) (x : Option Slice) : State :=
  let sub := s.target p inst y mk
  let s1 := s.updLane mk fun l => { l with
    slices := l.slices.filter fun z => !(z.page == p.num && z.inst == inst && z.line == y)
    missed := (match x with | some x => (if x.echo = 0 then x.sent.toList else []) | none => []) ++ l.missed.take 31 }
  { s1 with fire := { s1.fire with last := sinsert mk out s1.fire.last
                                   fine := sset [] s1.fire.fine mk ((sget [] s1.fire.fine mk).filter fun e => decide (sub < e.1)) } }

/-- The page's counts pass line n; the instance binds off once every module has fired its last line (R91). -/
def State.firePassed (s : State) (p : Page) (n mk : Nat) : State :=
  let s1 := s.updPage p.num fun q => { q with
    fired := sset 0 q.fired mk (n + 1), sentN := sset 0 q.sentN mk (max (n + 1) (sget 0 q.sentN mk)), fetched := sset 0 q.fetched mk (max (n + 1) (sget 0 q.fetched mk)) }
  let ended := match s1.page p.num with
    | some q => (upTo 64).all fun k => !bit q.ports (k / 4) || decide (sget 0 q.fired k ≥ (n / p.len + 1) * q.len)
    | none => false
  if ended then s1.bindOff p.num (n / p.len) else s1

/-- FIRE_INSTANT (R226, R203, R207, R91): in the nanosecond that holds t_out the module's next line fires; none while POS is 0 (R215) or after a reversal in single-pass mode (R220). -/
def State.fireInstant (s : State) (mk : Nat) : State :=
  match s.nextFire mk with
  | none => s
  | some (p, n, tpos, l0, out) =>
    if s.pos.posOk = false ∨ s.pos.hold = true ∨ 2 * s.clk.now + 1 < out then s
    else
      let inst := n / p.len
      let y := n % p.len
      let sub := s.target p inst y mk
      let span := s.targetSpan p inst
      let s1 := (if inst ≥ p.cast then s.castOn p.num inst span.1 span.2 else s).trailersDue mk fun q i l => q == p.num && i == inst && l == y
      let x := (s1.lane mk).slice p n
      let why := s1.fireReasons mk (decide (n < sget 0 p.sentN mk)) x
      let s2 := s1.fireSpoils p inst y mk x why
      let s3 := match x with | some x => if s.linkState (mk / 4) = 5 then s2.consume x else s2 | none => s2
      let lam := if out = 2 * tpos + s.fineAt mk sub then 0 else s.lamAtHalf (out - s.fineAt mk sub) - l0
      let s4 := (s3.fireSend p (p.instStart inst + y) mk x).fireTaken p inst y mk out x
      (s4.slowCheck p n mk lam).firePassed p n mk

/-! ## SPOIL_N in time (R209, R210) -/

/-- Sub-tick position, for the windows. -/
def State.rowNow (s : State) : Int := (s.pos.lam / 64 : Nat)

/-- SPOIL_N_LOW: a window or a pulse whose start the row counter has reached. -/
def State.spoilLow (s : State) : State :=
  let pin := s.store.spoil
  let open_ := pin.windows.any fun w => decide (w.1 ≤ s.rowNow) && decide (s.rowNow < w.2)
  let due := pin.pulses.filter fun r => decide (r.1 ≤ s.row)
  if !due.isEmpty then
    let pin1 := { pin with pulses := pin.pulses.filter fun r => decide (s.row < r.1) }
    { s with store := { s.store with spoil := due.foldl (fun q r => q.pulse s.clk.now r.2) pin1 } }
  else if open_ then { s with store := { s.store with spoil := { pin with low := true } } }
  else s

/-- SPOIL_N_HIGH: no window holds the pin any more; windows that are over are forgotten. -/
def State.spoilHigh (s : State) : State :=
  let pin := s.store.spoil
  let rest := pin.windows.filter fun w => decide (s.rowNow < w.2)
  let held := pin.until_.isSome || rest.any fun w => decide (w.1 ≤ s.rowNow)
  { s with store := { s.store with spoil := { pin with windows := rest, low := pin.low && held } } }

/-- SPOIL_N_PULSE_END: the pulse width has passed. -/
def State.spoilPulseEnd (s : State) : State :=
  let pin := s.store.spoil
  match pin.until_ with
  | none => s
  | some t =>
    if s.clk.now < t then s
    else
      let held := pin.windows.any fun w => decide (w.1 ≤ s.rowNow) && decide (s.rowNow < w.2)
      { s with store := { s.store with spoil := { pin with until_ := none, low := held } } }

end Sys2Proof.Machine
end

