-- ==== Sys2Proof/Machine/Ports.lean ====
section
/-! DEFINITION. Head-port commands (R263, R264), heater measurements and jet health (R265 to R268), loopbacks (R269). -/

namespace Sys2Proof.Machine

/-! ## Commands (R263, R264) -/

/-- Answers a command: a type 0x31 descriptor in Q176 + n; a failed one raises E048 + n with kind 6. -/
def State.portAnswer (s : State) (n op addr status far value tag : Nat) : State :=
  let s1 := s.ringWrite (176 + n) 0x31 (op + addr % 16 * 256 + status * 2 ^ 16 + far * 2 ^ 24 + value * 2 ^ 32) 0 tag
  if status = 0 then s1 else s1.raise (48 + n) 0 (echoDetail 6 (addr % 4) (addr / 4 % 4) status 0)

/-- The request at the head of command ring Q160 + n: opcode, address, argument, data, tag, when its opcode passes a test. -/
def State.portRequest (s : State) (n : Nat) (p : Nat → Bool) : Option (Nat × Nat × Nat × Bytes × Nat) :=
  match s.ev.ringHead (160 + n) with
  | some (d, 0) =>
    let op := leAt d 8 1
    if p op && leAt d 0 1 == 0x30 then some (op, leAt d 9 1 % 16, leAt d 12 4, slice d 16 8, leAt d 24 4) else none
  | _ => none

/-- A request of the command ring is taken and sent, or refused (R263, R264): the link must be ACTIVE, WAVE_WRITE and RAW need that no page is RELEASED or PRINTING, a device-only opcode gets OPCODE.
While a command is outstanding the ring waits. A bad descriptor is skipped (R71), as is one of another type (R68: NOP; the rest DESIGN CHOICE, log entry 50). POISON is not looked at (log entry 82). `p` says which opcodes this row takes; `bad` that the descriptor reads with a parity error. -/
def State.portSubmit (s0 : State) (n : Nat) (p : Nat → Bool) (bad : Bool) : State :=
  let s := s0.ringRead (160 + n) bad
  match s.ev.ringHead (160 + n) with
  | some (d, 0) =>
    match s.portRequest n p with
    | none => if leAt d 0 1 = 0x30 then s else (s.ringTake (160 + n)).1
    | some (op, addr, arg, data, tag) =>
      if (s.port n).cmd.isSome then s
      else
        let (s1, _) := s.ringTake (160 + n)
        if s.linkState n ≠ 5 then s1.portAnswer n op addr 1 0 0 tag
        else if ¬(op = 0x01 ∨ op = 0x10 ∨ 0x80 ≤ op) then s1.portAnswer n op addr 3 0 0 tag
        else if op ≠ 0x01 ∧ s.pagesActive = true then s1.portAnswer n op addr 2 0 0 tag
        else s1.portCommand n op addr arg (if op = 0x01 then [] else data) tag false
  | some (_, _) => (s.ringTake (160 + n)).1
  | none => s

/-- NOP takes opcode 0x01; WAVE_WRITE 0x10; RAW_COMMAND 0x80 and above, and every opcode that is refused. -/
def isNop (op : Nat) : Bool := op == 0x01
/-- See `isNop`. -/
def isWave (op : Nat) : Bool := op == 0x10
/-- See `isNop`. -/
def isRaw (op : Nat) : Bool := op != 0x01 && op != 0x10

/-- The command outstanding is done; a device command that waits goes out. -/
def State.portFree (s : State) (n : Nat) : State := (s.updPort n fun p => { p with cmd := none }).portNext n

/-- The outcome of a command: a request of the ring is answered, a failed command of the device raises E048 + n with kind 6. -/
def State.portOutcome (s : State) (n : Nat) (c : PortCmd) (status far value : Nat) : State :=
  if !c.own then s.portAnswer n c.op c.addr status far value c.tag
  else if status ≠ 0 then s.raise (48 + n) 0 (echoDetail 6 (c.addr % 4) (c.addr / 4 % 4) status 0)
  else s

/-- The far end has accepted LOOP: its lane carries PRBS31 from here (R269); the generator's state is free, the first block stands for the stream (log entry 79). -/
def State.loopBegins (s : State) (n : Nat) : State :=
  let (k, s1) := s.fresh
  let lane := (s1.link n).pair (s1.reg (0xF100 + n) 6)
  (s1.sendBlocks (.down n lane) (4 * n + lane) [(false, prbsPayload (BitVec.ofNat 31 (Config.choice k)))]).updPort n fun p => { p with loopAt := some s.clk.now }

/-- The outstanding command is done with a status (R263, R264). -/
def State.portResult (s : State) (n : Nat) (c : PortCmd) (status far value : Nat) : State :=
  let s1 := (s.portFree n).portOutcome n c status far value
  if c.own ∧ c.op = 0x40 ∧ status = 0 ∧ (s1.port n).loop = 3 then s1.loopBegins n else s1

/-- RESP (R264): completes the outstanding command whose address and sequence it copies, or a SAFE or RESUME; WAVE_WRITE checks the CRC of its data. A MEASURE has no RESP. -/
def State.resp (s : State) (n addr seq status value : Nat) : State :=
  if s.linkState n ≠ 5 then s
  else
    let hit : PortCmd → Bool := fun c => c.op != 2 && c.seq == seq && c.addr % 16 == addr % 16
    match (s.port n).cmd.filter hit, (s.port n).alls.find? hit with
    | some c, _ =>
      if status ≠ 0 then s.portResult n c 5 status value
      else if c.op = 0x10 ∧ value ≠ crc32c c.data then s.portResult n c 6 0 value
      else s.portResult n c 0 0 value
    | none, some c => (s.updPort n fun p => { p with alls := p.alls.erase c }).portOutcome n c (if status = 0 then 0 else 5) status value
    | none, none => s

/-- COMMAND_TIMEOUT (R264): no RESP within 1 ms, to the command outstanding or to a SAFE or RESUME. -/
def State.cmdTimeout (s : State) (n : Nat) : State :=
  let late : PortCmd → Bool := fun c => c.op != 2 && decide (c.sent + 1000000 ≤ s.clk.now)
  let gone := (s.port n).alls.filter late
  let s1 := gone.foldl (fun s c => s.portOutcome n c 4 0 0) (s.updPort n fun p => { p with alls := p.alls.filter fun c => !late c })
  match (s1.port n).cmd.filter late with
  | none => s1
  | some c => s1.portResult n c 4 0 0

/-! ## Measurements (R265, R266) -/

/-- Index of the measurement objects of port n. -/
def measIdx (n : Nat) : Nat := portIdx n + 0x10

/-- A measurement may start (R265). -/
def State.mayMeasure (s : State) (n : Nat) : Bool := !s.pagesActive && s.linkState n == 5

/-- Segments of the fitted modules in order (R265). -/
def State.fittedSegs (s : State) (n : Nat) : List Nat := (upTo 16).filter fun g => bit (s.link n).mods (g / 4)

/-- Goes on with the next segment, or ends the measurement: state 2, or 4 if a segment failed. -/
def State.measNext (s : State) (n : Nat) (m : Meas) : State :=
  match m.todo with
  | [] => ((s.updPort n fun p => { p with meas := none, measAt := s.clk.now }).set (measIdx n) 2 (if m.failed then 4 else 2)).portNext n
  | g :: rest => (s.updPort n fun p => { p with meas := some { m with todo := rest, seg := g, tries := 1 } }).portOwn n 2

/-! ## Jet health (R267, R268) -/

/-- A reading is out of window against a valid baseline (R267). -/
def outOfWindow (c b w : Nat) : Bool := c == 0 || c == 0xFFF || decide (((c : Int) - b).natAbs * 10000 > w * b)

/-- Length of the jet windows of a port in ns. -/
def State.jetWindowNs (s : State) (n : Nat) : Nat := s.reg (measIdx n) 9 * 1000000000

/-- A jet is declared dead: pending (R190), E048 + n kind 5. -/
def State.declareJet (s : State) (n j : Nat) : State :=
  let dev := n * 16384 + j
  (s.raiseAt (48 + n) 2 (echoDetail 5 (j / 4096) (j / 1024 % 4) dev 0) 3 6 0 0).pendJet dev

/-- A window (t0, readings, declared) of port jet j ends (R267): with fewer than N readings it was transient; one that holds N because N has come down since its last reading declares the jet. -/
def State.jetWindowEnd (s : State) (n j : Nat) (w : Nat × Nat × Bool) : State :=
  let s1 := s.updPort n fun p => { p with windows := serase j p.windows }
  if w.2.2 then s1 else if w.2.1 < s.reg (measIdx n) 8 then s1.bump (measIdx n) 0x0B else s1.declareJet n j

/-- Closes the window of port jet j if its end has come. -/
def State.jetClose (s : State) (n j : Nat) : State :=
  match sfind j (s.port n).windows with
  | none => s
  | some w => if s.clk.now < w.1 + s.jetWindowNs n then s else s.jetWindowEnd n j w

/-- An out-of-window reading of a LIVE jet with a valid baseline is counted; with N or more in one window the jet is declared dead, once for the window (R267). -/
def State.jetCount (s : State) (n j : Nat) : State :=
  if s.render.active.jetState (n * 16384 + j) ≠ 0 then s
  else
    let s1 := s.jetClose n j
    let (t0, k, told) := (sfind j (s1.port n).windows).getD (s.clk.now, 0, false)
    let dead := decide (s.reg (measIdx n) 8 ≤ k + 1)
    let s2 := s1.updPort n fun p => { p with windows := sinsert j (t0, k + 1, told || dead) p.windows }
    if dead && !told then s2.declareJet n j else s2

/-! ## Measuring (R265, R266) -/

/-- Starts a measurement; `capture` also takes the baseline and closes every counting window (R268). -/
def State.measStart (s : State) (n : Nat) (capture : Bool) : State :=
  let s1 := (s.set (measIdx n) 2 1).set (measIdx n) 6 0
  let s2 := if capture then (s1.port n).windows.foldl (fun s w => s.jetWindowEnd n w.1 w.2) s1 else s1
  s2.measNext n ⟨s.fittedSegs n, 0, 0, 0, 0, capture, false⟩

/-- Measure command (R265): otherwise state 3. A running measurement goes on (log entry 44). -/
def State.measCommand (s : State) (n : Nat) (capture : Bool) : State × Bool :=
  if (s.port n).meas.isSome then (s, false)
  else if s.mayMeasure n then (s.measStart n capture, true)
  else (s.set (measIdx n) 2 3, false)

/-- AUTOMATIC_MEASUREMENT (R265): the interval has passed since the last measurement and the conditions hold. -/
def State.measAuto (s : State) (n : Nat) : State :=
  let iv := s.reg (measIdx n) 0x0A
  if iv ≠ 0 ∧ (s.port n).measAt + iv * 1000000000 ≤ s.clk.now ∧ (s.port n).meas.isNone ∧ s.mayMeasure n = true then s.measStart n false else s

/-- One reading of a measurement: readings, baseline, count (R266 to R268). The Bool says out of window. -/
def State.reading (s : State) (n j c : Nat) (capture : Bool) : State × Bool :=
  let b := s.le (measIdx n) 5 (2 * j) 2
  let out := bit b 15 && outOfWindow c (b % 4096) (s.reg (measIdx n) 7)
  let s1 := s.setBytes (measIdx n) 4 (2 * j) (leBytes 2 (c + 4096 + (if out then 8192 else 0)))
  let s2 := if out && !capture then s1.jetCount n j else s1
  let s3 := if capture then s2.setBytes (measIdx n) 5 (2 * j) (leBytes 2 (if c = 0 ∨ c = 0xFFF then c else c + 32768)) else s2
  (s3, out)

/-- Readings of a segment taken; jets declared dead by them. -/
def State.readings (s : State) (n g : Nat) (capture : Bool) (data : Bytes) : State × Nat :=
  (upTo 1024).foldl (fun (s, k) i =>
    let (s1, out) := s.reading n (1024 * g + i) (leAt data (2 * i) 2 % 4096) capture
    (s1, if out then k + 1 else k)) (s, 0)

/-- The descriptor of a measured segment and its event (R266). -/
def State.segmentDone (s : State) (n g status out dead : Nat) : State :=
  let s1 := s.ringWrite (176 + n) 0x32 (g + status * 256 + out * 2 ^ 16 + dead * 2 ^ 32)
    (s.clk.now % 2 ^ 32 + s.stampEpoch * 2 ^ 32 + s.clk.now / 2 ^ 32 % 2 ^ 16 * 2 ^ 48) 0
  s1.raise (48 + n) 0 (echoDetail 4 (g / 4) (g % 4) out 0)

/-- A segment that gave nothing: once more after a late or bad frame, else it has no readings (R266). -/
def State.measFail (s : State) (n : Nat) (m : Meas) (again : Bool) : State :=
  if again && decide (m.tries < 2) then (s.updPort n fun p => { p with meas := some { m with tries := m.tries + 1 } }).portOwn n 2
  else s.measNext n { m with failed := true }

/-- The measurement whose MEASURE is the command outstanding. -/
def State.measOut (s : State) (n : Nat) : Option Meas := if (s.port n).cmd.any (·.op == 2) then (s.port n).meas else none

/-- MEAS_FRAME (R266): the frame that answers the MEASURE outstanding; its MEAS_END is the measure time, whatever it says (R271). -/
def State.measFrame (s : State) (n addr seq status crc : Nat) (data : Bytes) : State :=
  match s.measOut n with
  | none => s
  | some m =>
    if s.linkState n ≠ 5 ∨ seq ≠ m.seq ∨ addr % 16 ≠ segAddr m.seg then s
    else
      let s0 := (s.set (measIdx n) 3 s.clk.now).updPort n fun p => { p with cmd := none }
      if crc ≠ crc32c data ∨ data.length ≠ 2048 then s0.measFail n m true
      else if status ≠ 0 then (s0.segmentDone n m.seg status 0 0).measFail n m false
      else
        let before := s.render.pending.length
        let (s1, out) := s0.readings n m.seg m.capture data
        let dead := s1.render.pending.length - before
        ((s1.set (measIdx n) 6 (min 16384 (s1.reg (measIdx n) 6 + out))).segmentDone n m.seg 0 out dead).measNext n m

/-- MEAS_TIMEOUT (R266): no frame within 50 ms. -/
def State.measTimeout (s : State) (n : Nat) : State :=
  match s.measOut n with
  | none => s
  | some m => if s.clk.now < m.sent + 50000000 then s else (s.updPort n fun p => { p with cmd := none }).measFail n m true

/-! ## Loopbacks (R269) -/

/-- A far-end loopback ends (R269): the link stops, so a request of the ring that is outstanding is timed out (R264; log entry 80), and LOOP_END goes out. -/
def State.loopFarEnd (s : State) (n : Nat) : State :=
  let s0 := s.updPort n fun p => { p with due := [], cmd := none }
  let s1 := match (s.port n).cmd with | some c => s0.portOutcome n c 4 0 0 | none => s0
  if s.linkState n = 5 then
    let m := s1.reg (0xF100 + n) 6
    let lane := (s1.link n).pair m
    let q := (s1.port n).seq
    (s1.sendBlocks (.down n lane) (4 * n + lane) (frameBlocks (cmdBlock m q 0x41 0))).updPort n fun p => { p with seq := wrapAdd 8 q 1 }
  else s1

/-- Stop of a running loopback (R269): what it has checked stands, and the link stops. -/
def State.loopEnd (s : State) (n : Nat) : State :=
  let mode := (s.port n).loop
  if mode = 0 then s
  else
    let s1 := (s.set (0xF100 + n) 4 (s.loopChecked n % 2 ^ 64)).set (0xF100 + n) 5 (s.loopErrors n % 2 ^ 64)
    let s2 := if mode = 3 then s1.loopFarEnd n else s1
    (s2.updPort n fun p => { p with loop := 0, loopAt := none }).linkStop n

/-- Stop command: with no loopback running it is accepted without effect. -/
def State.loopStop (s : State) (n : Nat) : State × Bool := (s.loopEnd n, true)

end Sys2Proof.Machine
end

