-- ==== Sys2Proof/Machine/Units.lean ====
section
/-! DEFINITION. Units out of service (R29 to R33): take-out, drain, return; DRAM subchannel states and the retirement of a pair (R323, R335, R336). -/

namespace Sys2Proof.Machine

/-- Code of render cluster c. -/
def clusterUnit (c : Nat) : Nat := 0x0200 + c
/-- Code of DRAM pair p. -/
def pairUnit (p : Nat) : Nat := 0x0300 + p

/-! ## Subchannel states (R337, R338) -/

/-- State of subchannel i (0x6001). -/
def State.subState (s : State) (i : Nat) : Nat := s.reg 0x6001 (i + 1)

/-- Puts a subchannel into a state: E238 with its cause and severity. -/
def State.subTo (s : State) (i new cause : Nat) : State :=
  if s.subState i = new then s
  else
    let sev := if cause = 4 then 4 else if new = 3 then 3 else if new = 1 then 2 else 0
    (s.set 0x6001 (i + 1) new).raiseAt 238 sev (i + new * 16 + cause * 256) 12 6 0 0

/-- Both subchannels of a pair. -/
def State.pairTo (s : State) (p new cause : Nat) : State := (s.subTo (2 * p) new cause).subTo (2 * p + 1) new cause

/-- Writes the cap of the pairs in service at once (R323). -/
def State.capNow (s : State) : State :=
  ({ s with dram := { s.dram with capNext := none } }).set 0x2830 5 (s.capOver s.pairsIn)

/-! ## Commands (R30, R31, R336) -/

/-- A unit is DRAINING or RETURNING. -/
def State.unitBusy (s : State) : Bool := allUnits.any fun u => s.unit u == 1 || s.unit u == 3

/-- Result of a unit command (0x0028:04). -/
def State.unitResult (s : State) (r : Nat) (ok : Bool) : State × Bool := (s.set 0x0028 4 r, ok)

/-- Taking the unit out keeps the limits of R30 and R336: one cluster, two pairs, and blocks enough. -/
def State.unitMayGo (s : State) (u : Nat) : Bool :=
  if u / 256 = 1 then true
  else if u / 256 = 2 then (upTo 4).all fun c => s.unit (clusterUnit c) == 0
  else (upTo 4).countP (fun p => s.unit (pairUnit p) != 0) < 2 && s.fitsOver (setBit s.pairsIn (u % 256) false)

/-- Pages between RENDERING and VERIFIED go back to WAITING (R32, R335). -/
def State.rerenderAll (s : State) : State :=
  s.jobs.pages.foldl (fun s p => if p.st = .rendering ∨ p.st = .rendered ∨ p.st = .verified then s.rerender p.num else s) s

/-- Starts the drain of a unit (R32, R323). -/
def State.drainStart (s : State) (u : Nat) : State :=
  let busy := (s.jobs.pages.filter fun p => p.st.active).map (·.num)
  let s1 := { (s.unitTo u 1) with units := { (s.unitTo u 1).units with since := busy, moved := false } }
  if u / 256 = 1 then { s1 with render := { s1.render with wanted := s1.render.wanted ++ [.drain (u % 256)] } }
  else if u / 256 = 2 then s1
  else
    let s2 := s1.rerenderAll
    { s2 with dram := { s2.dram with capNext := some (s2.capOver s2.pairsIn, busy) } }

/-- UNIT_TAKE_OUT (R31). Result 5 comes before 3 where both hold (DESIGN CHOICE, log 90). -/
def State.unitTakeOut (s : State) : State × Bool :=
  let u := s.reg 0x0028 1
  if !validUnit u then s.unitResult 1 false
  else
    match s.unit u with
    | 0 =>
      if s.unitBusy then s.unitResult 3 false
      else if s.unitMayGo u then ((s.drainStart u).set 0x0028 4 0, true)
      else s.unitResult 2 false
    | 2 => s.unitResult 5 false
    | _ => s.unitResult 3 false

/-- UNIT_RETURN (R31): a port's loopback ends first (R269), a pair starts training (R336). Result 5 comes before 3 where both hold (DESIGN CHOICE, log 90). -/
def State.unitReturn (s : State) : State × Bool :=
  let u := s.reg 0x0028 1
  if !validUnit u then s.unitResult 1 false
  else
    match s.unit u with
    | 0 => s.unitResult 5 false
    | 2 =>
      if s.unitBusy then s.unitResult 3 false
      else
        let s1 := if u / 256 = 1 then s.loopEnd (u % 256) else s
        let s2 := { (s1.unitTo u 3) with units := { (s1.unitTo u 3).units with since := [], moved := false } }
        let s3 := if u / 256 = 3 then s2.pairTo (u % 256) 2 1 else s2
        (s3.set 0x0028 4 0, true)
    | _ => s.unitResult 3 false

/-! ## Drain complete (R32) -/

/-- The pages that were RELEASED or PRINTING at the command have bound off. -/
def State.drainedPages (s : State) : Bool :=
  s.units.since.all fun n => match s.page n with | some p => p.st.final || !p.st.active | none => true

/-- The system controller holds a DMA channel (R364): a migration needs one. -/
def State.dmaClaimed (s : State) : Bool := (upTo 32).any fun n => s.reg (0x7000 + n * 0x20) 6 == 3

/-- What R32 asks of the drain of each kind of unit; a head port also has its device build (R188). -/
def State.drained (s : State) (u : Nat) : Bool :=
  if u / 256 = 1 then s.units.moved && s.drainedPages
  else if u / 256 = 2 then s.render.jobs.all fun j => j.out == u % 256 ||
    match s.page j.page with | some p => (upTo 8).all fun i => decide (j.count p ≤ j.stepOf (8 * (u % 256) + i)) | none => true
  else s.drainedPages && s.dmaClaimed

/-- Moves what lay on a pair into the layout of the pairs left (R32): stash objects and system copies. -/
def State.migrate (s : State) : State :=
  let m := s.pairsIn
  { s with
    jobs := { s.jobs with stash := s.jobs.stash.map fun o => { o with pairs := m } }
    dram := { s.dram with copies := copiesOver m } }

/-- DRAIN_COMPLETE (R31, R32): the unit is OUT. -/
def State.drainComplete (s : State) (u : Nat) : State :=
  if !validUnit u || s.unit u != 1 || !s.drained u then s
  else
    let s1 := (s.unitTo u 2).set 0x0028 4 0
    if u / 256 = 1 then s1.linkStop (u % 256)
    else if u / 256 = 2 then s1
    else (s1.migrate).pairTo (u % 256) 4 1

/-! ## Return (R31) -/

/-- BRING_UP_PASSES (R31): a port's link is ACTIVE and its device build has swapped; a pair trained anew takes part again, and the raised cap is written (R323). -/
def State.bringUpPasses (s : State) (u : Nat) : State :=
  if !validUnit u || s.unit u != 3 then s
  else if u / 256 = 1 ∧ (s.linkState (u % 256) ≠ 5 ∨ s.units.moved = false) then s
  else
    let s1 := (s.unitTo u 0).set 0x0028 4 0
    if u / 256 = 3 then
      let p := u % 256
      let told := fun (s : State) (i : Nat) => s.raise 237 0 (i + 16 + field (s.le 0x6010 5 i 1) 0 2 * 256)
      (told (told (s1.pairTo p 0 1) (2 * p)) (2 * p + 1)).capNow
    else s1

/-- BRING_UP_FAILS (R31, R330): back to OUT with result 4; a port's link stops, a pair's subchannels are RETIRED with E237 kind 5. -/
def State.bringUpFails (s : State) (u : Nat) : State :=
  if !validUnit u || s.unit u != 3 then s
  else
    let s1 := (s.unitTo u 2).set 0x0028 4 4
    if u / 256 = 1 then s1.linkStop (u % 256)
    else if u / 256 = 2 then s1
    else
      let p := u % 256
      ((s1.raiseAt 237 2 (2 * p + 80) 12 6 0 0).raiseAt 237 2 (2 * p + 1 + 80) 12 6 0 0).pairTo p 3 2

/-! ## Retirement of a pair by fault (R31, R335) -/

/-- The bytes of a page lie on a pair. -/
def Page.onPair (p : Page) (pair : Nat) : Bool := bit p.pairs pair

/-- R335 step 2: lines not yet fetched by some module of a page on the pair are poisoned. -/
def State.poisonLines (s : State) (p : Page) : State :=
  (upTo p.len).foldl (fun s y =>
    let left := (upTo 16).foldl (fun m n =>
      if bit p.ports n && (upTo 4).any (fun k => decide (sget 0 p.fetched (4 * n + k) < (p.insts - 1) * p.len + y + 1)) then m + 2 ^ n else m) 0
    if left = 0 then s else s.poisonStore p y left) s

/-- R335 step 4: tiles with bytes on the pair are lost (R319); with every pair in the layout that is each tile larger than 256 bytes. -/
def State.loseTiles (s : State) (pair : Nat) : State :=
  s.jobs.stash.foldl (fun s o =>
    if !bit o.pairs pair then s
    else
      (upTo o.tileCount).foldl (fun s i =>
        let t := sget Tile.none o.tiles i
        if t.st = .complete ∧ ((o.pairs = 15 ∧ 256 < t.block.length) ∨ reachesPair o.pairs pair (o.base + t.place) t.block.length = true) then
          s.tileLost ⟨o.ns, o.id, i⟩
        else s) s) s

/-- Pairs of the system copies once pair p is retired (R335): the copy that lay on it is rebuilt on the pairs that the other does not use; where none is left, both are laid out anew. -/
def rebuiltCopies (copies : List Nat) (p m : Nat) : List Nat :=
  let rest := fun (other : Nat) => (upTo 4).foldl (fun n q => if bit m q && !bit other q then n + 2 ^ q else n) 0
  match copies with
  | [a, b] =>
    if bit a p then (if rest b = 0 then copiesOver m else [rest b, b])
    else if bit b p then (if rest a = 0 then copiesOver m else [a, rest a])
    else copies
  | _ => copiesOver m

/-- R335: the retirement of a pair; `cause` 2 training failed, 3 at start-up (no data to lose). A third pair while two are out is SEV4 with cause-present bit 2 (R378). -/
def State.retirePair (s : State) (p cause : Nat) : State :=
  let u := pairUnit p
  let out := (upTo 4).countP fun q => s.unit (pairUnit q) == 2
  if s.unit u = 2 then s.pairTo p 3 cause
  else
    let third := decide (2 ≤ out)
    let why := if third then 4 else cause
    let res := if s.unit u = 1 then some 6 else if s.unit u = 3 then some 4 else none
    let s1 := (s.unitTo u 2).pairTo p 3 why
    let s2 := match res with | some r => s1.set 0x0028 4 r | none => s1
    let s3 := if third then s2.set 0x7800 4 (setBit (s2.reg 0x7800 4) 2 true) else s2
    let s4 := s3.jobs.pages.foldl (fun s q => if q.st.active && q.onPair p then s.poisonLines q else s) s3
    let s5 := (s4.rerenderAll).loseTiles p
    ({ s5 with dram := { s5.dram with copies := rebuiltCopies s5.dram.copies p s5.pairsIn } }).capNow

end Sys2Proof.Machine
end

