-- ==== Sys2Proof/Machine/Dram.lean ====
section
/-! DEFINITION. The DRAM subchannels (R324 to R335): scheduling, refresh, temperature bands, row disturbance, training. -/

namespace Sys2Proof.Machine

/-- A subchannel with nothing queued. -/
def Sub.idle : Sub := ⟨[], 0, 0, [], [], [], [], false, 0, [], [], [], 0, false, false, false, none⟩
/-- Subchannel i. -/
def State.sub (s : State) (i : Nat) : Sub := sget Sub.idle s.dram.subs i
/-- Changes a subchannel. -/
def State.updSub (s : State) (i : Nat) (f : Sub → Sub) : State := { s with dram := { s.dram with subs := sset Sub.idle s.dram.subs i (f (s.sub i)) } }
/-- The subchannel carries data: IN_SERVICE or DEGRADED. -/
def State.subIn (s : State) (i : Nat) : Bool := decide (s.subState i ≤ 1)
/-- Band of a subchannel (0x6010:05). -/
def State.band (s : State) (i : Nat) : Nat := s.le 0x6010 5 i 1

/-- E237: kind and band (R338). -/
def State.trainEvent (s : State) (i kind : Nat) : State :=
  s.raiseAt 237 (if kind = 4 ∨ kind = 5 then 2 else 0) (i + kind * 16 + s.band i % 4 * 256) 12 6 0 0
/-- E239: kind, subchannel, band or bank (R338). -/
def State.dramEvent (s : State) (i kind x : Nat) : State :=
  s.raiseAt 239 (if kind = 4 ∨ kind = 5 then 2 else 0) (kind + i * 16 + x * 256) 12 6 0 0

/-! ## Retraining asked for (R331, R332) -/

/-- Training state (0x6030:03): running, scheduled, idle. -/
def State.showTraining (s : State) : State :=
  s.set 0x6030 3 (if s.dram.subs.any fun e => e.2.run then 2 else if s.dram.subs.any fun e => e.2.sched then 1 else 0)

/-- Schedules retraining of a subchannel: E237 kind 2. -/
def State.scheduleTraining (s : State) (i : Nat) : State :=
  if (s.sub i).sched || (s.sub i).run then s
  else ((s.updSub i fun x => { x with sched := true, overdue := false }).trainEvent i 2).showTraining

/-- RETRAIN_ALL: every subchannel in service; refused with result 3 if none is. -/
def State.retrainAll (s : State) : State × Bool :=
  let l := (upTo 8).filter s.subIn
  if l.isEmpty then (s.set 0x6030 4 3, false) else (l.foldl (fun s i => s.scheduleTraining i) s, true)

/-- RETRAIN_SUBCHANNEL: the selected subchannel; refused with result 3 if it is not in service. -/
def State.retrainOne (s : State) : State × Bool :=
  let i := s.reg 0x6030 2
  if s.subIn i then (s.scheduleTraining i, true) else (s.set 0x6030 4 3, false)

/-- DRIFT_SAMPLE (R332, R333): beyond the limit it schedules retraining; beyond twice the limit while retraining waits, E239 kind 5 once. -/
def State.driftSample (s : State) (i drift : Nat) : State :=
  let lim := s.reg 0x6030 6
  if !s.subIn i || decide (drift ≤ lim) || (s.sub i).run then s
  else if !(s.sub i).sched then s.scheduleTraining i
  else if drift > 2 * lim ∧ (s.sub i).overdue = false then (s.updSub i fun x => { x with overdue := true }).dramEvent i 5 (s.band i)
  else s

/-! ## Temperature (R326) -/

/-- Band of a component temperature in 1/16 °C. -/
def bandOf (t : Int) : Nat := if t < 720 then 0 else if t < 1120 then 1 else if t < 1360 then 2 else 3

/-- The subchannel's band moves: E239 kind 3; it takes effect at the next refresh boundary. -/
def State.bandTo (s : State) (i b : Nat) : State :=
  ((s.setBytes 0x6010 5 i (leBytes 1 b)).updSub i fun x => { x with lower := 0, nextBand := b + 1 }).dramEvent i 3 b

/-- One subchannel's readings. -/
def State.subTemps (s : State) (i : Nat) (l : List Int) : State :=
  match l with
  | [] => s
  | t :: ts =>
    let b := bandOf (ts.foldl max t)
    let s1 := s.updSub i fun x => { x with temps := l }
    if b > s1.band i then s1.bandTo i b
    else if b < s1.band i then
      if (s1.sub i).lower ≥ 2 then s1.bandTo i b else s1.updSub i fun x => { x with lower := x.lower + 1 }
    else s1.updSub i fun x => { x with lower := 0 }

/-- DRAM_TEMPERATURE_READ (R326). Above 95 °C release is held, and E239 kind 4 raised for each subchannel that was not there at the reading before; 93 °C or less everywhere ends the hold. -/
def State.dramTemps (s : State) (temps : List (List Int)) : State :=
  let s1 := (List.zip (upTo 8) temps).foldl (fun s (i, l) => s.subTemps i l) s
  let all := s1.dram.subs.flatMap fun e => e.2.temps
  match all with
  | [] => s1
  | t :: ts =>
    let top := ts.foldl max t
    let s2 := s1.set 0x6010 6 (ofSigned 16 top)
    let hot := fun (s : State) (i : Nat) => (s.sub i).temps.any fun t => decide (t > 1520)
    if top > 1520 then
      ((upTo 8).filter fun i => hot s2 i && !hot s i).foldl (fun s i => s.dramEvent i 4 (s.band i)) { s2 with dram := { s2.dram with hot := true } }
    else if top ≤ 1488 then { s2 with dram := { s2.dram with hot := false } }
    else s2

/-! ## Refresh (R327, R328) -/

/-- Postponement limit in intervals: doubled in fine-granularity mode. -/
def State.refreshLimit (s : State) : Nat := s.reg 0x6010 2 * (if s.reg 0x6010 1 = 1 then 2 else 1)

/-- The record of a band is valid (0x6030:09, R331). -/
def State.bandTrained (s : State) (i b : Nat) : Bool := bit (s.le 0x6030 9 (128 * i + 32 * b + 11) 1) 0

/-- A refresh boundary: a band change takes effect, with its training result or a retraining (R331). -/
def State.refreshBoundary (s : State) (i : Nat) : State :=
  match (s.sub i).nextBand with
  | 0 => s
  | b + 1 =>
    let s1 := s.updSub i fun x => { x with nextBand := 0 }
    if s1.bandTrained i b || !s1.subIn i then s1 else s1.scheduleTraining i

/-- All-bank refresh: the page store holds no page. Otherwise same-bank refresh (R327). -/
def State.allBank (s : State) : Bool := s.jobs.pages.all fun p => p.chunks.isEmpty

/-- Refresh interval of a subchannel in ns (R326): that of its band, halved in fine granularity, where twice as many refreshes fall due (R327; PRESUMED from the standard, log 86). -/
def State.refreshNs (s : State) (i : Nat) : Nat := (if s.band i = 3 then 1950 else 3900) / (if s.reg 0x6010 1 = 1 then 2 else 1)

/-- Rank of a bank: 8 bank groups of 4 banks each. -/
def bankRank (b : Nat) : Nat := b / 32
/-- Bank address of a bank: one bank in each of the eight bank groups (R319, R327). -/
def bankAddr (b : Nat) : Nat := b / 8 % 4

/-- Refreshes owed to a rank at a bank address. -/
def Sub.owed (x : Sub) (rank ba : Nat) : Nat := sget 0 x.debt (4 * rank + ba)
/-- Debt of a rank (R328): the intervals of which a refresh is still owed. -/
def Sub.debtOf (x : Sub) (rank : Nat) : Nat := (upTo 4).foldl (fun m ba => max m (x.owed rank ba)) 0

/-- A real-time read is queued for a bank that the refresh takes: those of its bank address, or all of the rank (R328). -/
def Sub.refreshWaits (x : Sub) (all : Bool) (rank ba : Nat) : Bool :=
  x.reads.any fun r => r.real && bankRank r.bank == rank && (all || bankAddr r.bank == ba)

/-- Refreshes a rank at a bank address: its banks have no row open behind it, and so many refreshes stay owed. -/
def Sub.refresh (x : Sub) (rank ba left : Nat) : Sub :=
  { x with debt := sset 0 x.debt (4 * rank + ba) left, rows := x.rows.filter fun e => !(bankRank e.1 == rank && bankAddr e.1 == ba) }

/-- Pays back what is owed wherever no real-time read is queued for the banks (R328). -/
def Sub.payRefresh (x : Sub) (all : Bool) : Sub :=
  (upTo 8).foldl (fun x u =>
    if x.owed (u / 4) (u % 4) = 0 ∨ x.refreshWaits all (u / 4) (u % 4) = true then x else x.refresh (u / 4) (u % 4) 0) x

/-- An interval of a rank ends: a refresh is owed at each of its bank addresses (R327); what no real-time read holds back is paid (R328). -/
def Sub.interval (x : Sub) (all : Bool) (rank due : Nat) : Sub :=
  ((upTo 4).foldl (fun (x : Sub) ba => { x with debt := sset 0 x.debt (4 * rank + ba) (x.owed rank ba + 1) }) { x with refAt := sset 0 x.refAt rank due }).payRefresh all

/-- The refreshes of a rank that are forced at a limit, by bank address; with all-bank refresh, one for all (R327, R328). -/
def Sub.forcedAt (x : Sub) (all : Bool) (rank limit : Nat) : List Nat :=
  if all then (if x.debtOf rank > limit then upTo 4 else []) else (upTo 4).filter fun ba => decide (x.owed rank ba > limit)

/-- Refreshes forced on a rank (R328): counted, and E239 kind 1 for the first in any 10 ms. -/
def State.forceRefresh (s : State) (i rank : Nat) (all : Bool) (l : List Nat) : State :=
  if l.isEmpty then s
  else
    let s1 := (s.updSub i fun x => l.foldl (fun x ba => x.refresh rank ba (x.owed rank ba - 1)) x).count 0x6010 4 64 (if all then 1 else l.length)
    let last := sget 0 s1.dram.forced i
    if last = 0 ∨ last - 1 + 10000000 ≤ s1.clk.now then
      ({ s1 with dram := { s1.dram with forced := sset 0 s1.dram.forced i (s1.clk.now + 1) } }).dramEvent i 1 0
    else s1

/-- REFRESH_DUE: an interval of a rank ends (R327, R328). Real-time reads postpone its refreshes up to the limit; then each is forced; without them the debt is paid. -/
def State.refreshDue (s : State) (i rank : Nat) : State :=
  let due := sget 0 (s.sub i).refAt rank
  if !s.subIn i || decide (rank ≥ s.dramConf 1) || decide (s.clk.now < due) then s
  else
    let s1 := s.refreshBoundary i
    let all := s1.allBank
    let s2 := s1.updSub i fun x => x.interval all rank ((if due = 0 then s1.clk.now else due) + s1.refreshNs i)
    let s3 := s2.forceRefresh i rank all ((s2.sub i).forcedAt all rank s2.refreshLimit)
    s3.set 0x6010 3 (max (s3.reg 0x6010 3) ((s3.sub i).debtOf rank))

/-- REFRESH_WINDOW_CLEAR (R329). -/
def State.windowClear (s : State) (i : Nat) : State := s.updSub i fun x => { x with acts := [] }

/-! ## Requests (R324, R325, R329) -/

/-- A request as it is queued. -/
def dramReq (a : Arrival) (now : Nat) : DramReq := ⟨a.addr.toNat, a.bank.toNat, a.row.toNat, a.real, a.write, a.data, now⟩

/-- Accepts a write: a queued write of the same burst takes its data (R325). The queue has 64 entries (R324); a write that finds it full is not accepted, and comes again (DESIGN CHOICE, log 109). -/
def Sub.acceptWrite (x : Sub) (r : DramReq) : Sub :=
  if x.writes.any fun w => w.addr == r.addr then { x with writes := updWhere x.writes (fun w => w.addr == r.addr) fun w => { w with data := r.data } }
  else if x.writes.length < 64 then { x with writes := x.writes ++ [r] }
  else x

/-- Accepts a read: a queued write of its burst answers it with its data (R325). -/
def State.acceptRead (s : State) (i : Nat) (r : DramReq) : State :=
  match (s.sub i).writes.find? fun w => w.addr == r.addr with
  | some w => (s.updSub i fun x => { x with fwd := some (w.addr, w.data) }).count 0x6040 1 64 1
  | none => s.updSub i fun x => { x with reads := x.reads ++ [r] }

/-- Accepts what arrived: of one cycle, writes before reads (R325). -/
def State.accept_ (s : State) (i : Nat) (l : List Arrival) : State :=
  let rs := l.map fun a => dramReq a s.clk.now
  let s1 := s.updSub i fun x => (rs.filter (·.write)).foldl Sub.acceptWrite x
  (rs.filter fun r => !r.write).foldl (fun s r => s.acceptRead i r) s1

/-- The activate-count table after an activate of a row, and whether its count reached the threshold (R329). -/
def activate (table : List (Nat × Nat)) (row threshold : Nat) : List (Nat × Nat) × Bool :=
  let count := match table.find? fun e => e.1 == row with
    | some e => e.2 + 1
    | none => if table.length < 32 then 1 else 1 + table.foldl (fun m e => min m e.2) (table.headD (0, 0)).2
  let v := if count ≥ threshold then 0 else count
  let t := if table.any fun e => e.1 == row then updWhere table (fun e => e.1 == row) fun _ => (row, v)
    else if table.length < 32 then table ++ [(row, v)]
    else
      let low := table.foldl (fun m e => min m e.2) (table.headD (0, 0)).2
      match table.findIdx? fun e => e.2 == low with
      | some k => table.set k (row, v)
      | none => table
  (t, decide (count ≥ threshold))

/-- An activate of a row of a bank is counted; at the threshold a mitigation falls due (R329). -/
def Sub.activated (x : Sub) (threshold bank row : Nat) : Sub :=
  let (t, hit) := activate (sget [] x.acts bank) row threshold
  { x with acts := sset [] x.acts bank t, due := if hit then x.due ++ [(bank, row)] else x.due }

/-- The two rows on each side of a row, of those that the bank has. -/
def rowsBeside (rows row : Nat) : List Nat :=
  ((if 2 ≤ row then [row - 2] else []) ++ (if 1 ≤ row then [row - 1] else []) ++ [row + 1, row + 2]).filter fun r => decide (r < rows)

/-- Rows of a bank by density: 65,536 at 16 Gb, 131,072 at 32 Gb (PRESUMED from the standard, log 110). -/
def State.bankRows (s : State) : Nat := 4096 * s.dramConf 2

/-- Mitigation by neighbour refresh (R329): mode NEIGHBOUR, or AUTO with components that do not support RFM. -/
def State.byNeighbours (s : State) : Bool := s.reg 0x6020 2 == 1 || (s.reg 0x6020 2 == 0 && !s.flag 0x6020 4)

/-- Mitigates for a row (R329): its bank has no row open behind it; neighbour refresh activates the rows beside it, which count as any activate (DEDUCED, log 110). -/
def State.mitigate (s : State) (i bank row : Nat) (rest : List (Nat × Nat)) : State :=
  let near := if s.byNeighbours then rowsBeside s.bankRows row else []
  s.updSub i fun x => near.foldl (fun x r => x.activated (s.reg 0x6020 1) bank r) { x with due := rest, rows := sset 0 x.rows bank 0 }

/-- Opens the row of a request if it is not open (an activate), and takes the request off its queue. -/
def Sub.issue (x : Sub) (threshold : Nat) (r : DramReq) : Sub :=
  let x1 := { x with reads := x.reads.filter fun q => q != r, writes := x.writes.filter fun q => q != r }
  if sget 0 x1.rows r.bank = r.row + 1 then x1
  else
    { x1.activated threshold r.bank r.row with rows := sset 0 x1.rows r.bank (r.row + 1) }

/-- Rotating pick (R324 rule 4): the first bank from the pointer on that has a request; within it a row hit, otherwise the oldest. -/
def Sub.rotate (x : Sub) (l : List DramReq) : Option DramReq :=
  (upTo 64).findSome? fun k =>
    let b := (x.ptr + k) % 64
    let here := l.filter fun r => r.bank == b
    (here.find? fun r => sget 0 x.rows b == r.row + 1).orElse fun _ => here.head?

/-- The next command of a subchannel (R324): a mitigation that is due; the oldest real-time read; an aged request; a rotating pick among the reads, or among the writes while the write queue drains. -/
def State.issueNext (s : State) (i : Nat) : State :=
  let x := s.sub i
  let th := s.reg 0x6020 1
  let draining := decide (48 ≤ x.writes.length) || x.reads.isEmpty || (x.drain && !x.writes.isEmpty)
  match x.due with
  | (bank, row) :: rest =>
    let s1 := (s.mitigate i bank row rest).count 0x6020 3 64 1
    let last := sget 0 s1.dram.mitig i
    if last = 0 ∨ last - 1 + 1000000 ≤ s1.clk.now then
      ({ s1 with dram := { s1.dram with mitig := sset 0 s1.dram.mitig i (s1.clk.now + 1) } }).dramEvent i 2 bank
    else s1
  | [] =>
    match x.reads.find? (·.real) with
    | some r => (s.updSub i fun x => x.issue th r).set 0x6040 3 (min (max (s.reg 0x6040 3) (s.clk.now - r.at_)) (2 ^ 32 - 1))
    | none =>
      match (x.reads ++ x.writes).filter (fun r => decide (r.at_ + 4000 < s.clk.now)) with
      | q :: qs =>
        let r := qs.foldl (fun a b => if b.at_ < a.at_ then b else a) q
        (s.updSub i fun x => x.issue th r).count 0x6040 2 64 1
      | [] =>
        match x.rotate (if draining then x.writes else x.reads) with
        | none => s.updSub i fun x => { x with drain := false }
        | some r => s.updSub i fun x => { x.issue th r with ptr := (r.bank + 1) % 64, drain := draining && decide (1 < x.writes.length) }

/-- DRAM_COMMAND_ISSUE: what arrived is accepted, refreshes owed to banks without real-time reads are paid (R328), then one command issued. -/
def State.dramIssue (s : State) (i : Nat) (l : List Arrival) : State := if s.subIn i then ((s.accept_ i l).updSub i fun x => x.payRefresh s.allBank).issueNext i else s

/-! ## Training (R330 to R334) -/

/-- The result passes stage 7 (R330). -/
def State.passes7 (s : State) (t : TrainResult) : Bool :=
  t.good && decide (s.reg 0x6030 7 ≤ t.delay.toNat) && decide (s.reg 0x6030 8 ≤ t.ref.toNat)

/-- Keeps a training result with band and load (0x6030:09, R331). -/
def State.keepResult (s : State) (i : Nat) (t : TrainResult) : State :=
  (s.setBytes 0x6030 9 (128 * i + 32 * s.band i)
    (leBytes 8 s.clk.now ++ leBytes 2 s.stampEpoch ++ leBytes 1 t.load.toNat ++ [1] ++ leBytes 2 t.delay.toNat ++ leBytes 2 t.ref.toNat ++ leBytes 4 t.osc.toNat)).updSub i
    fun x => { x with osc := t.osc.toNat }

/-- RETRAINING_START (R333): at the next gap. -/
def State.retrainStart (s : State) (i : Nat) : State :=
  if !(s.sub i).sched || s.pagesActive || !s.subIn i then s
  else (s.updSub i fun x => { x with sched := false, run := true }).showTraining

/-- RETRAINING_COMPLETE (R334): applied, kept, or failed with the pair retired. -/
def State.retrainDone (s : State) (i : Nat) (t : TrainResult) (oldPasses : Bool) : State :=
  if !(s.sub i).run then s
  else
    let s1 := (s.updSub i fun x => { x with run := false }).showTraining
    if s1.passes7 t then
      let s2 := ((s1.keepResult i t).set 0x6030 4 0).trainEvent i 3
      if s2.subState i = 1 then s2.subTo i 0 0 else s2
    else if oldPasses then ((s1.set 0x6030 4 1).trainEvent i 4).subTo i 1 2
    else ((s1.set 0x6030 4 2).trainEvent i 5).retirePair (i / 2) 2

/-- Bit 5 (R119, R414): the session engine takes opens once stash and page store are laid out and a host port is up. -/
def State.sessionReady (s : State) : State :=
  s.setReady 5 ((s.boot.phase == .boot || s.boot.phase == .run) && s.ready 7 && s.ready 8 && (s.heUp 0 || s.heUp 1) && !s.underTest 0x001B)

/-- STARTUP_TRAINING_COMPLETE (R318, R330): pairs that fail are retired; four subchannels in whole pairs make DRAM, page store and stash ready (R414). -/
def State.startupTrained (s : State) (answer rfm : Bool) (results : List TrainResult) : State :=
  if s.dram.trained || !(s.boot.phase == .boot || s.boot.phase == .run) then s
  else
    let good := fun (i : Nat) => answer && match results[i]? with | some t => s.passes7 t | none => false
    let s1 := ({ s with dram := { s.dram with trained := true } }).set 0x6020 4 (b2n rfm)
    let s2 := (upTo 8).foldl (fun s i =>
      match good i, results[i]? with
      | true, some t => (s.keepResult i t).trainEvent i 1
      | _, _ => s.trainEvent i 5) s1
    if !answer then s2
    else
      let s3 := (upTo 4).foldl (fun s p => if good (2 * p) && good (2 * p + 1) then s else s.retirePair p 3) s2
      if pairCount s3.pairsIn < 2 then s3
      else
        let s4 := ({ s3 with dram := { s3.dram with copies := copiesOver s3.pairsIn } }).capNow
        (((s4.setReady 6 true).setReady 7 true).setReady 8 true).sessionReady

end Sys2Proof.Machine
end

