-- ==== Sys2Proof/Machine/Sessions.lean ====
section
/-! DEFINITION. MSP sessions (R102 to R122, R130 to R132): packets in, acknowledgement, retransmission, completions out, open exchange, close. -/

namespace Sys2Proof.Machine

/-! ## Serial arithmetic (R110) -/

/-- p stands before q in 32-bit serial arithmetic. -/
def before (p q : Nat) : Bool :=
  let d := (q + 2 ^ 32 - p % 2 ^ 32) % 2 ^ 32
  decide (0 < d) && decide (d < 2 ^ 31)

/-! ## Encoders and readback blocks (R128, R159) -/

/-- Gives waiting encodes to idle encoders, which latch their options (R159); none starts while the codec is not ready (R162). -/
def State.feedEncoders (s : State) : State :=
  if !s.ready 9 then s
  else (upTo 4).foldl (fun s e =>
    match sget none s.render.encoders e, s.render.encQueue with
    | none, (n, raw) :: rest =>
      let deep := match raw with
        | some t => (match s.jobs.obj t.ns t.obj with | some o => o.depth == 16 | none => false)
        | none => false
      let job : Encoder := match raw with
        | some _ => ⟨n, raw, s.reg 0x5801 (if deep then 3 else 1), s.reg 0x5801 (if deep then 4 else 2), s.flag 0x5801 5, s.reg 0x5801 6, s.flag 0x5801 7⟩
        | none => ⟨n, raw, s.reg 0x5802 1, s.reg 0x5802 2, s.flag 0x5802 3, s.reg 0x5802 4, s.flag 0x5802 5⟩
      { s with render := { s.render with encoders := sset none s.render.encoders e (some job), encQueue := rest } }
    | _, _ => s) s

/-- READBACK_DATA record bodies of a block from an offset on, as far as free slots allow (R114, R128). -/
def State.readbackOut (s : State) (n : Nat) : Nat → State
  | 0 => s
  | fuel + 1 =>
    match (s.sess n).bind (·.readback) with
    | none => s
    | some rb =>
      if !rb.ready || decide (rb.off ≥ rb.data.length) then s
      else
        let part := slice rb.data rb.off (s.pMax - 80)
        let body := leBytes 4 rb.req ++ leBytes 1 rb.block ++ zeros 3 ++ leBytes 4 rb.data.length ++ leBytes 4 rb.off ++ leBytes 4 part.length ++ part
        let (s1, ok) := s.completeFree n 0x42 body
        if !ok then s
        else (s1.updSess n fun x => { x with readback := some { rb with off := rb.off + part.length } }).readbackOut n fuel

/-- The page of a READBACK still holds its lines. -/
def State.readbackHeld (s : State) (num : Nat) : Bool :=
  match s.page num with
  | none => false
  | some p => p.st == .rendered || p.st == .verified || p.st.active

/-- The READBACK of session n goes on (R128): what a free slot allows is written; behind the last block, or when the page is gone, the REPLY. -/
def State.readbackPump (s : State) (n : Nat) : State :=
  match (s.sess n).bind fun x => x.readback.map fun rb => (x, rb) with
  | none => s
  | some (_, rb) =>
    let answer := fun (s : State) (status : Nat) =>
      (s.updSess n fun x => { x with readback := none }).reply n ⟨rb.req, 0x18, [], false, none⟩ status 0
    if !s.readbackHeld rb.page then
      answer { s with render := { s.render with encQueue := s.render.encQueue.filter fun e => !(e.1 == n && e.2.isNone) } } 0x0205
    else
      let s1 := s.readbackOut n (rb.data.length + 1)
      match (s1.sess n).bind (·.readback) with
      | none => s1
      | some r =>
        if !r.ready || decide (r.off < r.data.length) then s1
        else if r.block ≥ 15 then answer s1 0
        else
          let s2 := s1.updSess n fun x => { x with readback := some { r with block := r.block + 1, data := [], off := 0, ready := false } }
          ({ s2 with render := { s2.render with encQueue := s2.render.encQueue ++ [(n, none)] } }).feedEncoders

/-- Completions that wait for a free slot go out: final PAGE_EVENTs and progress, TILE_LOST, READBACK_DATA (R114). -/
def State.pump (s : State) (n : Nat) : State :=
  match (s.flushEvents n).sess n with
  | none => s.flushEvents n
  | some x =>
    let (s1, rest) := x.waiting.foldl (fun (a : State × List (Nat × Bytes)) w =>
      let (s1, ok) := a.1.completeFree n w.1 w.2
      if ok then (s1, a.2) else (a.1, a.2 ++ [w])) (s.flushEvents n, [])
    (s1.updSess n fun x => { x with waiting := rest }).readbackPump n

/-! ## Close (R130 to R132) -/

/-- A CLOSE packet (R131): unsequenced, its PSN field holds the next PSN. -/
def State.sendClose (s : State) (n : Nat) : State :=
  match s.sess n with
  | none => s
  | some x =>
    s.sendToHost n 0 1 x.txNext (mspRecord 0x06 0 (leBytes 2 x.reason ++ zeros 2 ++ leBytes 4 x.lastExec))

/-- At the close of session n an OBJECT_DATA executes that waits for the codec, on an object that its pins keep: it completes (R132). -/
def State.codecKept (s : State) (n : Nat) : Bool :=
  match (s.sess n).bind fun x => x.codec.map fun c => (x.ns, c.1) with
  | some (ns, id) => s.jobs.pinned ns id
  | none => false

/-- SESSION_CLOSE (R131, R132): reason 1 HOST, 2 TIMEOUT, 3 UNREACHABLE, 4 PROTOCOL, 5 PRESS_CONTROL, 6 CREDENTIAL. -/
def State.closeSession (s : State) (n reason : Nat) : State :=
  match s.sess n with
  | none => s
  | some x =>
    if x.st ≠ 1 then s
    else
      let s1 := (s.updSess n fun y => { y with
        st := 2, chain := none, reqs := [], held := [], ackDue := none, bodies := [], flight := [], waiting := [], readback := none
        closing := 3, closeAt := s.clk.now, reason := reason }).raise 75 0 (n + reason * 256)
      let s2 := { s1 with
        msp := { s1.msp with opening := s1.msp.opening.filter fun o => o.sess != some n }
        ev := { (s1.ev.ringRelease n).ringRelease (64 + n) with resv := sset 0 s1.ev.resv n 0 } }
      let s3 := s2.closePages x.ns
      let own := fun (ns : Nat) => ns == x.ns
      let s4 := { s3 with jobs := { s3.jobs with
        stash := updWhere s3.jobs.stash (fun o => own o.ns) fun o => { o with orphan := true }
        groups := updWhere s3.jobs.groups (fun g => own g.ns) fun g => { g with orphan := true } } }
      let goesOn := s4.codecKept n
      let s5 := { s4 with
        jobs := s4.jobs.freeOrphans
        render := { s4.render with
          encQueue := s4.render.encQueue.filter fun e => e.1 != n || (goesOn && e.2.isSome)
          encoders := s4.render.encoders.filter fun e => match e.2 with | some j => j.sess != n || (goesOn && j.raw.isSome) | none => true } }
      (s5.sendClose n).updSess n fun y => { y with
        closing := 2, closeAt := s.clk.now + 1000000, charge := 0, codec := if goesOn then y.codec else none, codecDone := goesOn && y.codecDone }

/-- The close of session n completes, and its number is free (R132), once its CLOSEs are out and no request of it executes (DEDUCED, log 84). -/
def State.closeComplete (s : State) (n : Nat) : State :=
  match s.sess n with
  | some x =>
    if x.st = 2 ∧ x.closing = 0 ∧ x.codec.isNone then { s with msp := { s.msp with sessions := serase n s.msp.sessions } }.set (0x5030 + n) 7 0 else s
  | none => s

/-- CLOSE_RESEND (R131): the second and the third CLOSE; behind the last the session number is free (R132). -/
def State.closeResend (s : State) (n : Nat) : State :=
  match s.sess n with
  | none => s
  | some x =>
    if x.st ≠ 2 ∨ x.closing = 0 ∨ s.clk.now < x.closeAt then s
    else ((s.sendClose n).updSess n fun y => { y with closing := y.closing - 1, closeAt := y.closeAt + 1000000 }).closeComplete n

/-- KEEP_ALIVE_TIMEOUT (R130). -/
def State.keepAlive (s : State) (n : Nat) : State :=
  match s.sess n with
  | none => s
  | some x => if x.st = 1 ∧ x.lastRx + x.keepMs * 1000000 ≤ s.clk.now then s.closeSession n 2 else s

/-- IDLE_ACK_SEND (R130): nothing sent for T / 4. -/
def State.idleAck (s : State) (n : Nat) : State :=
  match s.sess n with
  | none => s
  | some x => if x.st = 1 ∧ x.quiet + x.keepMs * 250000 ≤ s.clk.now then s.ackOnly n else s

/-- Press control closes a session (0x5030 + s:08); refused if it is free. -/
def State.pressClose (s : State) (n : Nat) : State × Bool :=
  match s.sess n with
  | none => (s, false)
  | some _ => (s.closeSession n 5, true)

/-- Sessions of a credential slot. -/
def State.slotSessions (s : State) (slot : Nat) : List Nat :=
  (s.msp.sessions.filter fun e => e.2.slot == slot && e.2.st == 1).map (·.1)

/-- A write of a slot's enable (0x5010 + k:02): 0 closes its sessions with reason 6. -/
def State.credEnable (s : State) (slot v : Nat) : State :=
  let s1 := s.set (0x5010 + slot) 2 v
  if v = 0 then (s1.slotSessions slot).foldl (fun s n => s.closeSession n 6) s1 else s1

/-! ## Acknowledgements from the host (R110, R112, R114) -/

/-- Sends a packet in flight again (R112), counted in 0x5030 + s:07. -/
def State.resend (s : State) (n : Nat) (p : Sent) : State :=
  (s.sendToHost n 1 p.count p.psn p.recs).bump (0x5030 + n) 7

/-- Changes a packet in flight. -/
def Session.updSent (x : Session) (psn : Nat) (f : Sent → Sent) : Session := { x with flight := updWhere x.flight (fun p => p.psn == psn) f }

/-- A round-trip sample (R112, RFC 6298 in form). -/
def Session.sample (x : Session) (r : Nat) : Session :=
  if !x.measured then { x with srtt := r, rttvar := r / 2, measured := true }
  else { x with rttvar := (3 * x.rttvar + (x.srtt - r + (r - x.srtt))) / 4, srtt := (7 * x.srtt + r) / 8 }

/-- Retransmit timeout (R112). -/
def Session.rto (x : Session) : Nat := if x.measured then max 200000 (x.srtt + 4 * x.rttvar) else 1000000

/-- Frees completion-ring slots up to an index (R114): the slot of a REPLY is reserved again, and the Credit limit grows by one (R113, log entry 45). -/
def State.freeSlots (s : State) (n upto : Nat) : Nat → State
  | 0 => s
  | fuel + 1 =>
    let q := 64 + n
    let ci := s.ev.bank.get (qObj q 3)
    if !before ci upto then s
    else
      let d := (sget Slot.never s.ev.slots (Ring.slotKey s.ev q ci)).bytes
      let isReply := leAt d 0 1 == 0x11 && leAt d 12 1 == 0x40
      let s1 := ({ s with ev := s.ev.ringPop q }).updSess n fun x => { x with bodies := serase ci x.bodies }
      let s2 := if isReply then (s1.setReserved n (s1.reserved n + 1)).updSess n fun x => { x with credit := wrapAdd 32 x.credit 1 } else s1
      s2.freeSlots n upto fuel

/-- Takes in Ack, SACK and Credit limit of a valid session packet (R110, R112, R114). A packet with three marked ones behind it is sent again at once, as by its timeout. -/
def State.ackIn (s : State) (n ack sack credit : Nat) : State :=
  match s.sess n with
  | none => s
  | some x =>
    let acked := x.flight.filter fun p => before p.psn ack
    let left := x.flight.filter fun p => !before p.psn ack
    let x1 := (acked.filter fun p => p.resends == 0).foldl (fun x p => x.sample (s.clk.now - p.sent)) x
    let left1 := updWhere left (fun p => (upTo 32).any fun i => bit sack i && p.psn == wrapAdd 32 ack (1 + i)) fun p => { p with marked := true }
    let s1 := s.updSess n fun _ => { x1 with flight := left1, hostCredit := credit }
    let s2 := match acked.getLast? with
      | none => s1
      | some p => s1.freeSlots n p.upto (Ring.size s1.ev (64 + n))
    let fast := left1.filter fun p => !p.marked && !p.fast && decide (3 ≤ left1.countP fun q => q.marked && before p.psn q.psn)
    let s3 := fast.foldl (fun s p =>
      if p.resends ≥ s.reg 0x5020 3 then s.closeSession n 3
      else (s.resend n p).updSess n fun x => x.updSent p.psn fun q => { q with fast := true, sent := s.clk.now, resends := q.resends + 1, rto := min 64000000 (2 * q.rto) }) s2
    s3.pump n

/-- RETRANSMIT_TIMEOUT of a packet (R112): sent again with its timeout doubled, or, at the limit, the session is UNREACHABLE. -/
def State.retransmit (s : State) (n psn : Nat) : State :=
  match (s.sess n).bind fun x => (x.flight.find? fun p => p.psn == psn).map fun p => (x, p) with
  | none => s
  | some (x, p) =>
    if x.st ≠ 1 ∨ p.marked = true ∨ s.clk.now < p.sent + p.rto then s
    else if p.resends ≥ s.reg 0x5020 3 then s.closeSession n 3
    else (s.resend n p).updSess n fun x => x.updSent psn fun q => { q with sent := s.clk.now, resends := q.resends + 1, rto := min 64000000 (2 * q.rto) }

/-- ACK_TIMER (R112). -/
def State.ackTimer (s : State) (n : Nat) : State :=
  match (s.sess n).bind (·.ackDue) with
  | none => s
  | some t => if t ≤ s.clk.now then s.ackOnly n else s

/-! ## Completions to the host (R114, R115) -/

/-- Record of the completion at a ring index: a REPLY and the like from its body, an EVENT from its descriptor (R115). -/
def State.completionRecord (s : State) (n i : Nat) : Bytes :=
  let d := fit 32 (sget Slot.never s.ev.slots (Ring.slotKey s.ev (64 + n) i)).bytes
  let num := wrapAdd 32 i 1
  if leAt d 0 1 = 0x02 then mspRecord 0x44 num d
  else mspRecord (leAt d 12 1) num (match s.sess n with | some x => sget [] x.bodies i | none => [])

/-- A completion number is below the host's Credit limit (R114): as a number, or, once the 32-bit numbers have wrapped, in serial arithmetic (DESIGN CHOICE, log 83). -/
def belowLimit (num limit : Nat) : Bool := decide (num < limit) || before num limit

/-- The next completion of session n may go: it exists, the host's window and Credit limit allow it, its host port is up (R111, R114, R130). -/
def State.maySend (s : State) (n : Nat) : Bool :=
  match s.sess n with
  | none => false
  | some x => x.st == 1 && before x.compSend (s.ev.bank.get (qObj (64 + n) 2)) && decide (x.flight.length < x.window)
      && belowLimit (wrapAdd 32 x.compSend 1) x.hostCredit && s.heUp x.peer.he

/-- COMPLETION_SEND (R114): the next completion in a packet of its own. -/
def State.completionSend (s : State) (n : Nat) : State :=
  match s.sess n with
  | none => s
  | some x =>
    if !s.maySend n then s
    else
      let recs := s.completionRecord n x.compSend
      let next := wrapAdd 32 x.compSend 1
      (s.sendToHost n 0 1 x.txNext recs).updSess n fun y => { y with
        txNext := wrapAdd 32 y.txNext 1, compSend := next
        flight := y.flight ++ [⟨y.txNext, recs, 1, next, s.clk.now, y.rto, 0, false, false⟩] }

/-! ## Requests placed (R113, R116, R117) -/

/-- Request types that have a meaning (R108). -/
def knownRequest (ty : Nat) : Bool := [0x10, 0x11, 0x12, 0x13, 0x14, 0x15, 0x16, 0x17, 0x18, 0x1F].contains ty

/-- The storage class of a parity error in the body of a placed request (R345). -/
def LostAt.cls : LostAt → Nat
  | .receive => 0
  | .ring => 7
  | .session => 11

/-- A request whose placed descriptor or body is lost, that is too long or of an unknown type: its status (R108, R116, R117). -/
def Req.stock (r : Req) (ringOk : Bool) : Option Nat :=
  if r.lost.isSome || !ringOk then some 0x0207
  else if !knownRequest r.ty then some 0x0201
  else if r.large then some 0x020F
  else none

/-- The request at the head of session n may be executed: no other is in execution (R123). -/
def Session.free (x : Session) : Bool := x.st == 1 && x.codec.isNone && x.readback.isNone

/-- The request at the head of Q(n), and whether its descriptor is sound (R71). -/
def State.headReq (s : State) (n : Nat) : Option (Req × Bool) :=
  (s.sess n).bind fun x => if x.free then x.reqs.head?.map fun r => (r, match s.ev.ringHead n with | some (_, 0) => true | _ => false) else none

/-- Takes the head request off the queue and its descriptor off the ring. -/
def State.takeReq (s : State) (n : Nat) : State := (s.ringTake n).1.updSess n fun x => { x with reqs := x.reqs.tail }

/-- A parity error in the session buffers is found as the request would execute (R116, R345, R348): in class M0 or M11, its place in the pool free. One in the ring memory is met by `ringTake`. -/
def State.lostFound (s : State) (r : Req) : State :=
  match r.lost with
  | some .receive | some .session =>
    let (k, s1) := s.fresh
    (s1.parityError ((r.lost.map LostAt.cls).getD 0) 0x001B 2 6 (Config.choice k % 25165824) 0).poisonConsumed ((r.lost.map LostAt.cls).getD 0) 4 2 0
  | _ => s

/-- Answers the requests at the head that need no execution (R108, R116, R117). -/
def State.stock (s : State) (n : Nat) : Nat → State
  | 0 => s
  | fuel + 1 =>
    match s.headReq n with
    | none => s
    | some (r, ok) =>
      match r.stock ok with
      | none => s
      | some st => (((s.takeReq n).lostFound r).reply n r st 0).stock n fuel

/-- As many stock answers as there are requests. -/
def State.stockAll (s : State) (n : Nat) : State := s.stock n (match s.sess n with | some x => x.reqs.length + 1 | none => 0)

/-- Places a whole request: a type 0x10 descriptor in Q(n) (R116). -/
def State.placeReq (s : State) (n : Nat) (r : Req) : State :=
  let (k, s1) := s.fresh
  let s2 := s1.ringWrite n 0x10 (r.num + r.ty * 2 ^ 32) (Config.choice k) r.body.length
  let s3 := if r.lost = some .ring then { s2 with ev := s2.ev.slotSpoil n (s1.ev.bank.get (qObj n 2)) } else s2
  s3.updSess n fun x =>
    { x with chain := none, reqs := x.reqs ++ [r], reqNext := wrapAdd 32 r.num 1 }

/-- One request record (R113, R117), with the parity errors in its packet; a breach of the numbering closes the session with PROTOCOL. -/
def State.recordIn (s : State) (n : Nat) (r : MspRec) (lost : List (Nat × LostAt)) : State :=
  match s.sess n with
  | none => s
  | some x =>
    if x.st ≠ 1 then s
    else if r.num ≠ x.reqNext ∨ before r.num x.credit = false then s.closeSession n 4
    else
      let base : Req := x.chain.getD ⟨r.num, r.ty, [], false, none⟩
      let long := base.large || decide (base.body.length + r.body.length > 196608)
      let q : Req := { base with body := if long then [] else base.body ++ r.body, large := long, lost := base.lost <|> sfind r.num lost }
      if r.more then s.updSess n fun x => { x with chain := some q } else s.placeReq n q

/-- Processes the accepted packets that stand next in order (R111). -/
def State.drainHeld (s : State) (n : Nat) : Nat → State
  | 0 => s
  | fuel + 1 =>
    match (s.sess n).bind fun x => x.held.find? fun h => h.1 == x.rxNext with
    | none => s
    | some (psn, recs, lost) =>
      let s1 := s.updSess n fun x => { x with held := x.held.filter fun h => h.1 != psn, rxNext := wrapAdd 32 psn 1 }
      let rs := (parseRecords recs.length recs).getD []
      (rs.foldl (fun s r => s.recordIn n r lost) s1).drainHeld n fuel

/-- A sequenced packet (R111, R112). -/
def State.sequenced (s : State) (n psn : Nat) (ackNow : Bool) (recs : Bytes) (lost : List (Nat × LostAt)) : State :=
  match s.sess n with
  | none => s
  | some x =>
    if before psn x.rxNext || x.held.any (fun h => h.1 == psn) then s.ackOnly n
    else if !before psn (wrapAdd 32 x.rxNext x.window) then s
    else
      let s1 := s.updSess n fun y => { y with held := y.held ++ [(psn, recs, lost)], accepted := y.accepted + 1 }
      let s2 := (s1.drainHeld n (x.held.length + 1)).stockAll n
      match s2.sess n with
      | none => s2
      | some y =>
        if y.st ≠ 1 then s2
        else if ackNow || psn != x.rxNext || decide (y.accepted ≥ 8) then s2.ackOnly n
        else s2.updSess n fun z => { z with ackDue := some (z.ackDue.getD (s.clk.now + 50000)) }

/-! ## Open exchange (R118 to R122) -/

/-- Sends an open packet: one record, everything else 0 (R109). -/
def State.sendOpen (s : State) (src : HostAddr) (ty : Nat) (body : Bytes) : State :=
  s.send (.host src.he src.peer) (mspPacket 0 0xFF 1 0 0 0 0 0 (mspRecord ty 0 body))

/-- REJECT (R121): counted, E076 with reason and slot, the slot in four bits (DESIGN CHOICE, log 96). -/
def State.reject (s : State) (src : HostAddr) (reason handle slot : Nat) : State :=
  ((s.sendOpen src 0x05 (leBytes 2 reason ++ zeros 2 ++ leBytes 4 handle)).bump 0x5070 2).raise 76 0 (reason + slot % 16 * 2 ^ 16)

/-- A pending entry is live: 1,000 ms from its CHALLENGE or its ACCEPT (R118). -/
def Opening.live (o : Opening) (now : Nat) : Bool := decide (now < o.at_ + 1000000000)

/-- The slot is locked (R120). -/
def State.slotLocked (s : State) (slot : Nat) : Bool :=
  match sget none s.msp.locked slot with | some t => decide (s.clk.now < t) | none => false

/-- First reason that refuses an OPEN (R119). A closing session holds its number (DESIGN CHOICE, log 95). -/
def State.openRefused (s : State) (version slot k window : Nat) : Option Nat :=
  if version ≠ 1 then some 7
  else if slot > 15 ∨ k < 6 ∨ k > 12 ∨ window < 4 ∨ window > 32 then some 8
  else if !s.ready 5 then some 10
  else if !s.flag (0x5010 + slot) 2 || !s.flag (0x5010 + slot) 6 then some 3
  else if s.slotLocked slot then some 6
  else if s.msp.sessions.length ≥ 64 then some 1
  else if (s.slotSessions slot).length ≥ s.reg (0x5010 + slot) 5 then some 4
  else if (s.msp.opening.filter fun o => o.live s.clk.now).length ≥ 16 then some 2
  else none

/-- A handle that no entry has; 0 is none (R118, R121). -/
def freshHandle (used : List Nat) (c : Nat) : Nat :=
  ((List.range (used.length + 1)).map fun i => 1 + (c + i) % (2 ^ 32 - 1)).find? (fun h => !used.contains h) |>.getD 1

/-- OPEN (R118, R119): a repeated one is answered with the same CHALLENGE. -/
def State.openIn (s : State) (src : HostAddr) (version : Nat) (b : Bytes) : State :=
  let slot := leAt b 0 1
  let k := leAt b 2 1
  let w := leAt b 3 1
  let nonce := fit 16 (slice b 8 16)
  let v := if version ≠ 1 then version else leAt b 1 1
  match s.msp.opening.find? fun o => v == 1 && o.slot == slot && o.hostNonce == nonce && o.src.peer == src.peer && o.live s.clk.now with
  | some o => s.sendOpen src 0x02 (leBytes 4 o.handle ++ zeros 4 ++ o.hostNonce ++ o.devNonce)
  | none =>
    match s.openRefused v slot k w with
    | some r => s.reject src r 0 slot
    | none =>
      let (a, s1) := s.fresh
      let (c, s2) := s1.fresh
      let h := freshHandle (s.msp.opening.map (·.handle)) (Config.choice c)
      let dev := leBytes 16 (Config.random a)
      let o : Opening := ⟨h, src, slot, k, w, nonce, dev, s.clk.now, none, [], none⟩
      ({ s2 with msp := { s2.msp with opening := s2.msp.opening ++ [o] } }).sendOpen src 0x02 (leBytes 4 h ++ zeros 4 ++ nonce ++ dev)

/-- The 40 bytes of M1 and M2 behind "MSP1" or "MSP2" (R120). -/
def Opening.signed (o : Opening) : Bytes :=
  leBytes 1 o.slot ++ [1] ++ leBytes 1 o.k ++ leBytes 1 o.window ++ o.hostNonce ++ o.devNonce ++ leBytes 4 o.handle

/-- Key of a credential slot. -/
def State.slotKey (s : State) (slot : Nat) : Bytes := s.bytes (0x5010 + slot) 1 0 16

/-- An AUTH failure on a slot (R120): the eighth within 10 s locks it for 10 s. -/
def State.authFail (s : State) (slot : Nat) : State :=
  let s1 := s.bump 0x5070 3
  let l := ((s.clk.now :: sget [] s.msp.fails slot).filter fun t => decide (s.clk.now < t + 10000000000)).take 8
  if l.length ≥ 8 then
    { s1 with msp := { s1.msp with fails := sset [] s1.msp.fails slot [], locked := sset none s1.msp.locked slot (some (s.clk.now + 10000000000)) } }
  else { s1 with msp := { s1.msp with fails := sset [] s1.msp.fails slot l } }

/-- Session buffer that a window is charged (R122). -/
def State.bufferOf (s : State) (window : Nat) : Nat := (window + 16) * (if s.reg 0x5000 5 = 9000 then 9216 else 1536)
/-- Session buffer charged (R122): that of the open sessions; a charge is returned as the close begins (R132; DESIGN CHOICE, log 84). -/
def State.bufferUsed (s : State) : Nat := s.msp.sessions.foldl (fun t e => if e.2.st = 1 then t + s.bufferOf e.2.window else t) 0

/-- Window granted (R118). -/
def State.grantedWindow (s : State) (o : Opening) : Nat := min o.window (s.reg 0x5020 2)

/-- First reason that refuses a PROOF with a right tag (R120). -/
def State.proofRefused (s : State) (o : Opening) : Option Nat :=
  if s.msp.sessions.length ≥ 64 then some 1
  else if (s.slotSessions o.slot).length ≥ s.reg (0x5010 + o.slot) 5 then some 4
  else if s.bufferUsed + s.bufferOf (s.grantedWindow o) > 25165824 ∨ s.ev.ringUsed + 2 * 2 ^ o.k > 131072 then some 9
  else none

/-- Allocates the session of an accepted PROOF and answers ACCEPT (R118, R120, R122), with the key, the quotas and the keep-alive that stand now (DESIGN CHOICE, log 94); E078 counts closing sessions (log 95). -/
def State.accept (s : State) (o : Opening) (proof : Bytes) : State :=
  let (a, s1) := s.fresh
  let (b, s2) := s1.fresh
  let (c, s3) := s2.fresh
  let free := (upTo 64).filter fun n => (s.sess n).isNone
  let n := free.getD (Config.choice a % max 1 free.length) 0
  let token := 1 + Config.random b % (2 ^ 32 - 1)
  let credit := 2 + Config.choice c % (2 ^ o.k - 1)
  let w := s.grantedWindow o
  let x : Session := {
    ns := s.msp.nextNs, st := 1, slot := o.slot, token := token, window := w, ring := o.k, keepMs := s.reg 0x5020 1
    stashQuota := s.reg (0x5010 + o.slot) 3, pageQuota := s.reg (0x5010 + o.slot) 4, charge := 0, peer := o.src
    rxNext := 1, held := [], accepted := 0, ackDue := none, lastRx := s.clk.now, quiet := s.clk.now, reqNext := 1, credit := credit
    chain := none, reqs := [], lastExec := 0, replies := 0, txNext := 1, hostCredit := 0, compSend := 0, bodies := [], flight := []
    srtt := 0, rttvar := 0, measured := false, waiting := [], codec := none, codecDone := false, readback := none, closing := 0, closeAt := 0, reason := 0 }
  let body0 := leBytes 1 n ++ leBytes 1 o.k ++ leBytes 1 w ++ [0] ++ leBytes 4 token ++ leBytes 4 x.keepMs ++ leBytes 4 credit
    ++ leBytes 8 x.stashQuota ++ leBytes 4 x.pageQuota ++ leBytes 4 o.handle
  let m2 := [0x4D, 0x53, 0x50, 0x32] ++ o.signed ++ leBytes 1 n ++ zeros 3 ++ leBytes 4 token
  let body := body0 ++ hmac (s.slotKey o.slot) m2
  let s4 := { s3 with
    msp := { s3.msp with
      sessions := sinsert n x s3.msp.sessions
      nextNs := s3.msp.nextNs + 1
      opening := updWhere s3.msp.opening (fun e => e.handle == o.handle) fun e => { e with proof := some proof, answer := body, sess := some n, at_ := s.clk.now } }
    ev := { (s3.ev.ringAllocate n o.k).ringAllocate (64 + n) o.k with resv := sset 0 s3.ev.resv n (credit - 1) } }
  let s5 := (s4.sendOpen o.src 0x04 body).raise 74 0 (n + o.slot * 256)
  if s5.msp.sessions.length ≥ 64 then s5.raise 78 0 64 else s5

/-- PROOF (R118, R120). For an unknown handle the REJECT echoes it and E076 shows slot 0 (DESIGN CHOICE, logs 93 and 96). -/
def State.proofIn (s : State) (src : HostAddr) (b : Bytes) : State :=
  let h := leAt b 0 4
  match s.msp.opening.find? fun o => o.handle == h && o.live s.clk.now && o.src.peer == src.peer with
  | none => s.reject src 11 h ((s.msp.opening.find? fun o => o.handle == h).elim 0 (·.slot))
  | some o =>
    match o.proof with
    | some p => if p = b then s.sendOpen src 0x04 o.answer else s.reject src 11 h o.slot
    | none =>
      if fit 32 (slice b 8 32) ≠ hmac (s.slotKey o.slot) ([0x4D, 0x53, 0x50, 0x31] ++ o.signed) then (s.authFail o.slot).reject src 5 h o.slot
      else
        match s.proofRefused o with
        | some r => s.reject src r h o.slot
        | none => s.accept { o with src := src } b

/-- PENDING_ENTRY_EXPIRY (R118): an accepted session without a packet is closed with TIMEOUT. -/
def State.pendingExpiry (s : State) (handle : Nat) : State :=
  match s.msp.opening.find? fun o => o.handle == handle with
  | none => s
  | some o =>
    if o.live s.clk.now then s
    else
      let s1 := { s with msp := { s.msp with opening := s.msp.opening.filter fun e => e.handle != handle } }
      match o.sess with
      | some n => s1.closeSession n 2
      | none => s1

/-- SLOT_LOCK_EXPIRY (R120). -/
def State.lockExpiry (s : State) (slot : Nat) : State :=
  match sget none s.msp.locked slot with
  | some t => if t ≤ s.clk.now then { s with msp := { s.msp with locked := sset none s.msp.locked slot none } } else s
  | none => s

/-! ## A datagram at a host port (R103, R107, R109) -/

/-- Dropped without a reply and without a count (R103): another port, a fragment, larger than the MTU allows, an address family without an address; or nothing runs to take it. -/
def State.mspSilent (s : State) (k : MspPacket) : Bool :=
  k.dstPort.toNat != 51210 || k.fragment || decide (k.payload.length > s.pMax) || !s.heUp k.he || (!k.peer.v6 && s.reg 0x5002 (1 + 2 * k.he) == 0)

/-- An invalid packet (R107, R109): counted, E079 at most once per ms. -/
def State.mspDrop (s : State) : State :=
  let s1 := s.bump 0x5070 4
  let quiet := match s.msp.e079 with | some t => decide (s.clk.now < t + 1000000) | none => false
  if quiet then s1 else ({ s1 with msp := { s1.msp with e079 := some s.clk.now } }).raise 79 0 (s1.reg 0x5070 4)

/-- A session packet of a known session (R107, R110): it refreshes the peer, frees the pending entry, gives Ack, SACK and Credit limit; a sequenced one is handled by its PSN. -/
def State.sessionIn (s : State) (n : Nat) (src : HostAddr) (b recs : Bytes) (lost : List (Nat × LostAt)) : State :=
  let s1 := (s.updSess n fun x => { x with lastRx := s.clk.now, peer := src })
  let s2 := { s1 with msp := { s1.msp with opening := s1.msp.opening.filter fun o => o.sess != some n } }
  let s3 := s2.ackIn n (leAt b 16 4) (leAt b 20 4) (leAt b 24 4)
  if leAt b 5 1 = 0 then s3 else s3.sequenced n (leAt b 12 4) (bit (leAt b 3 1) 1) recs lost

/-- A packet that reaches UDP port 51,210 (R107, R109). -/
def State.packetIn (s : State) (k : MspPacket) : State :=
  let b := k.payload
  let recs := b.drop 40
  let src : HostAddr := ⟨k.he, k.peer⟩
  if s.mspSilent k then s
  else if b.length < 40 ∨ leAt b 0 2 ≠ 0x534D ∨ crc32c (b.take 36) ≠ leAt b 36 4 then s.mspDrop
  else
    match parseRecords (recs.length + 1) recs with
    | none => s.mspDrop
    | some rs =>
      if rs.length ≠ leAt b 5 1 then s.mspDrop
      else if leAt b 4 1 = 0xFF then
        match rs with
        | [r] =>
          if leAt b 8 4 ≠ 0 ∨ leAt b 12 4 ≠ 0 ∨ leAt b 16 4 ≠ 0 then s.mspDrop
          else if r.ty = 0x01 then s.openIn src (leAt b 2 1) r.body
          else if r.ty = 0x03 ∧ leAt b 2 1 = 1 then s.proofIn src r.body
          else s.mspDrop
        | _ => s.mspDrop
      else if leAt b 2 1 ≠ 1 ∨ rs.any (fun r => decide (r.ty < 0x10) || decide (r.ty > 0x3F)) = true then s.mspDrop
      else
        match s.sess (leAt b 4 1) with
        | none => s.mspDrop
        | some x => if x.st = 1 ∧ x.token = leAt b 8 4 then s.sessionIn (leAt b 4 1) src b recs (k.lost.map fun e => (e.1.toNat, e.2)) else s.mspDrop

end Sys2Proof.Machine
end

