-- ==== Sys2Proof/Machine/Requests.lean ====
section
/-! DEFINITION. MSP requests (R123 to R129), tile coding for the stash and for readback (R125, R126, R128, R159 to R162). -/

namespace Sys2Proof.Machine

/-- Runs a request of a type at the head of session n, then the requests behind it that need no execution (R123). `act` answers it itself. -/
def State.request (s : State) (n : Nat) (want : Req → Bool) (act : State → Session → Req → State) : State :=
  match s.headReq n, s.sess n with
  | some (r, true), some x => if want r then (act (s.takeReq n) x r).stockAll n else s
  | _, _ => s

/-! ## REPLY codes (R129) -/

namespace Rs
def ok : Nat := 0
def field : Nat := 0x0202
def notReady : Nat := 0x0203
def noPage : Nat := 0x0204
def state : Nat := 0x0205
def queueFull : Nat := 0x0206
def exists_ : Nat := 0x0208
def noObject : Nat := 0x0209
def pinned : Nat := 0x020A
def quotaStash : Nat := 0x020B
def quotaPages : Nat := 0x020C
def size : Nat := 0x020D
def codec : Nat := 0x020E
def range : Nat := 0x0210
def ringFull : Nat := 0x0211
def tooLong : Nat := 0x0212
end Rs

/-! ## Objects (R123 to R126) -/

/-- Bytes of raw samples of a size. -/
def rawBytes (w h ch depth : Nat) : Nat := w * h * ch * depth / 8

/-- Field checks of OBJECT_CREATE (R123). -/
def createOk (b : Bytes) : Bool :=
  let w := leAt b 4 4
  let h := leAt b 8 4
  let ch := leAt b 12 1
  b.length == 32 && leAt b 0 4 != 0xFFFFFFFF && decide (1 ≤ w) && decide (w ≤ 262144) && decide (1 ≤ h) && decide (h ≤ 262144)
    && decide (1 ≤ ch) && decide (ch ≤ 8) && [8, 16].contains (leAt b 13 1) && [1, 2, 4].contains (leAt b 14 1) && [1, 2, 4].contains (leAt b 15 1)
    && decide (leAt b 16 1 ≤ 1) && decide (leAt b 17 1 ≤ 1) && decide (1 ≤ leAt b 18 2) && decide (leAt b 18 2 ≤ 1024)
    && decide (1 ≤ leAt b 20 2) && decide (leAt b 20 2 ≤ 1024) && (leAt b 17 1 != 1 || leAt b 24 8 == 0)

/-- The object that a valid OBJECT_CREATE body describes; its bytes lie over the pairs in service, from `base` on. -/
def parseObject (ns pairs base : Nat) (b : Bytes) : StashObj :=
  let raw := leAt b 17 1 == 1
  { ns := ns, id := leAt b 0 4, w := leAt b 4 4, h := leAt b 8 4, ch := leAt b 12 1, depth := leAt b 13 1, sx := leAt b 14 1, sy := leAt b 15 1
    bilinear := leAt b 16 1 == 1, raw := raw, tw := leAt b 18 2, th := leAt b 20 2, size := leAt b 24 8
    charge := if raw then rawBytes (leAt b 4 4) (leAt b 8 4) (leAt b 12 1) (leAt b 13 1) else leAt b 24 8
    tiles := [], pairs := pairs, base := base, orphan := false }

/-- OBJECT_CREATE (R124, R321). -/
def State.objectCreate (s : State) (n : Nat) (x : Session) (r : Req) : State :=
  if !s.ready 8 then s.reply n r Rs.notReady 0
  else if !createOk r.body then s.reply n r Rs.field 0
  else
    let (k, s0) := s.fresh
    let o := parseObject x.ns s.pairsIn (Config.choice k) r.body
    if (s.jobs.obj x.ns o.id).isSome then s.reply n r Rs.exists_ 0
    else if x.charge + o.charge > x.stashQuota ∨ o.charge > s.stashFree then s.reply n r Rs.quotaStash 0
    else
      let s1 := { s0 with jobs := { s.jobs with stash := s.jobs.stash ++ [o] } }
      (s1.updSess n fun x => { x with charge := x.charge + o.charge }).reply n r Rs.ok 0

/-- Changes an object. -/
def State.updObj (s : State) (ns id : Nat) (f : StashObj → StashObj) : State :=
  { s with jobs := { s.jobs with stash := updWhere s.jobs.stash (fun o => o.ns == ns && o.id == id) f } }
/-- Changes a tile. -/
def State.updTile (s : State) (ns id i : Nat) (f : Tile → Tile) : State :=
  s.updObj ns id fun o => { o with tiles := supd Tile.none o.tiles i f }

/-- Bytes of a raw tile. -/
def StashObj.rawTile (o : StashObj) (i : Nat) : Nat := let (w, h) := o.tileDim i; rawBytes w h o.ch o.depth

/-- Offset and data bytes written over what stood there. -/
def patchGot (off : Nat) (bs : Bytes) (m : Sparse Nat) : Sparse Nat :=
  (m.filter fun e => decide (e.1 < off)) ++ (List.zip (List.range bs.length) bs).map (fun (i, v) => (off + i, v.toNat)) ++ m.filter fun e => decide (off + bs.length ≤ e.1)

/-- Sizes in order (R125): the length that every record of the tile gives, a raw tile's own, the sum within the declared size, the data within the tile. -/
def StashObj.dataFits (o : StashObj) (i len off n : Nat) : Bool :=
  let t := sget Tile.none o.tiles i
  let started := (sfind i o.tiles).isSome
  let others := o.tiles.foldl (fun a e => if e.1 = i then a else a + e.2.length) 0
  (!started || t.length == len) && (!o.raw || len == o.rawTile i) && (o.raw || decide (others + len ≤ o.size)) && decide (off + n ≤ len)

/-- OBJECT_DATA and its REPAIR form (R125, R126). With its last byte a tile waits for the codec and the REPLY with it (R162). -/
def State.objectData (s : State) (n : Nat) (x : Session) (r : Req) : State :=
  let b := r.body
  let id := leAt b 0 4
  let i := leAt b 4 4
  let len := leAt b 8 4
  let off := leAt b 12 4
  let repair := bit (leAt b 16 1) 0
  let k := leAt b 20 4
  if !s.ready 8 then s.reply n r Rs.notReady 0
  else if b.length < 24 ∨ b.length ≠ (pad4 (zeros (24 + k))).length then s.reply n r Rs.field 0
  else
    match s.jobs.obj x.ns id with
    | none => s.reply n r Rs.noObject 0
    | some o =>
      if i ≥ o.tileCount then s.reply n r Rs.field 0
      else
        let t := sget Tile.none o.tiles i
        if (repair = true ∧ t.st ≠ .lost) ∨ (repair = false ∧ t.st ≠ .empty) then s.reply n r Rs.state 0
        else if !o.dataFits i len off k then s.reply n r Rs.size 0
        else
          let got := patchGot off (slice b 24 k) t.got
          let s1 := s.updTile x.ns id i fun t => { t with length := len, got := got, repair := repair }
          if got.length < len then s1.reply n r Rs.ok 0
          else
            let s2 := (if repair then s1 else s1.updTile x.ns id i fun t => { t with st := .coding }).updSess n fun x =>
              { x with codec := some (id, i, r.num), codecDone := false }
            if o.raw then ({ s2 with render := { s2.render with encQueue := s2.render.encQueue ++ [(n, some (⟨x.ns, id, i⟩ : TileRef))] } }).feedEncoders else s2

/-- The delivered bytes of a tile. -/
def Tile.bytes (t : Tile) : Bytes := (upTo t.length).map fun i => BitVec.ofNat 8 (sget 0 t.got i)

/-- The bytes of a tile's block go to the stash, where they stay until they are written again (R133). A base outside the stash, which the free value may be, is no place DMA sees (log 85). -/
def State.stashWrite (s : State) (a : Nat) (bs : Bytes) : State :=
  if s.inStash a && s.inStash (a + bs.length - 1) then s.memWrite a bs else s

/-- A tile is complete with its block (R125); a raw tile's charge falls to the block's size (R124). A repair changes no charge (R126). -/
def State.tileDone (s : State) (n : Nat) (x : Session) (o : StashObj) (i : Nat) (t : Tile) (block : Bytes) : State :=
  let place := if t.repair then t.place else o.tiles.foldl (fun p e => if e.1 = i then p else max p (e.2.place + e.2.block.length)) 0
  let s1 := (s.updTile x.ns o.id i fun t => { t with st := .complete, got := [], block := block, repair := false, place := place }).stashWrite (o.base + place) block
  if !o.raw || t.repair then s1
  else
    let adj := fun (c : Nat) => c + block.length - t.length
    (s1.updObj x.ns o.id fun o => { o with charge := adj o.charge }).updSess n fun x => { x with charge := adj x.charge }

/-- The REPLY of an OBJECT_DATA behind its codec step; in a closing session the request only counts as executed, and its REPLY is discarded (R132). -/
def State.codecReply (s : State) (n num status detail : Nat) : State :=
  let s1 := s.updSess n fun x => { x with codec := none, codecDone := false }
  match s1.sess n with
  | none => s1
  | some x =>
    if x.st = 1 then (s1.reply n ⟨num, 0x11, [], false, none⟩ status detail).stockAll n
    else (s1.updSess n fun x => { x with lastExec := num, replies := wrapAdd 32 x.replies 1 }).closeComplete n

/-- TILE_CODEC_COMPLETE (R125, R126): the QTC tile is decoded once, or the raw tile's block is in; the REPLY follows. -/
def State.tileCodec (s : State) (n : Nat) : State :=
  match s.sess n with
  | none => s
  | some x =>
    match x.codec with
    | none => s
    | some (id, i, num) =>
      if s.ready 9 = false then s
      else
        match s.jobs.obj x.ns id with
        | none => s.codecReply n num Rs.noObject 0
        | some o =>
          let t := sget Tile.none o.tiles i
          if o.raw then
            if x.codecDone then (s.tileDone n x o i t t.block).codecReply n num Rs.ok 0 else s
          else if !s.decoderFree then s
          else
            let (w, h) := o.tileDim i
            match Qtc.decode w h o.ch o.depth t.bytes with
            | .inr _ => ((s.count 0x5800 1 64 1).tileDone n x o i t t.bytes).codecReply n num Rs.ok 0
            | .inl e =>
              let s1 := (s.bump 0x5800 2).set 0x5800 3 e.detail
              (s1.updTile x.ns id i fun t => if t.repair then { t with got := [], repair := false } else Tile.none).codecReply n num Rs.codec e.detail

/-- Samples of one readback block (R128, R160): 1,024 columns of a port on Count lines, one dose code each. -/
def State.readbackBlock (s : State) (p : Page) (rb : Readback) : List Nat :=
  (upTo rb.count).flatMap fun y =>
    let bs := s.memRead (p.doseAddr (rb.first + y) + 8192 * rb.port + 512 * rb.block) 512
    bs.flatMap fun b => [b.toNat % 16, b.toNat / 16]

/-- Counts an encoded block (0x5803). -/
def State.encoded (s : State) (samples bytes : Nat) : State := ((s.count 0x5803 1 64 1).count 0x5803 2 64 samples).count 0x5803 3 64 bytes

/-- ENCODE_BLOCK_COMPLETE (R125, R128, R159): encoder e has its block; it takes the next. -/
def State.encodeDone (s : State) (e : Nat) : State :=
  match sget none s.render.encoders e with
  | none => s
  | some j =>
    let opt : Qtc.Opt := ⟨j.t1, j.t2, j.copy, j.minLen, j.stored⟩
    let s1 := { s with render := { s.render with encoders := sset none s.render.encoders e none } }
    match j.raw with
    | some t =>
      match s1.jobs.obj t.ns t.obj with
      | none => s1.feedEncoders
      | some o =>
        let (w, h) := o.tileDim t.tile
        let n := w * h * o.ch
        let tile := sget Tile.none o.tiles t.tile
        let blk := Qtc.encode opt w h o.depth (Qtc.planesOf w h o.ch (Qtc.samplesOf o.depth n tile.bytes))
        (((s1.updTile t.ns t.obj t.tile fun x => { x with block := blk }).updSess j.sess fun x => { x with codecDone := true }).encoded n blk.length).feedEncoders
    | none =>
      match (s1.sess j.sess).bind (·.readback) with
      | none => s1.feedEncoders
      | some rb =>
        match s1.page rb.page with
        | none => (s1.readbackPump j.sess).stockAll j.sess |>.feedEncoders
        | some p =>
          if !s1.readbackHeld rb.page then (s1.readbackPump j.sess).stockAll j.sess |>.feedEncoders
          else
            let blk := Qtc.encode opt 1024 rb.count 8 [s1.readbackBlock p rb]
            let s2 := (s1.updSess j.sess fun x => { x with readback := some { rb with data := blk, off := 0, ready := true } }).encoded (1024 * rb.count) blk.length
            ((s2.feedEncoders).readbackPump j.sess).stockAll j.sess

/-- OBJECT_DELETE (R125). -/
def State.objectDelete (s : State) (n : Nat) (x : Session) (r : Req) : State :=
  let id := leAt r.body 0 4
  if !s.ready 8 then s.reply n r Rs.notReady 0
  else if r.body.length ≠ 4 then s.reply n r Rs.field 0
  else
    match s.jobs.obj x.ns id with
    | none => s.reply n r Rs.noObject 0
    | some o =>
      if s.jobs.pinned x.ns id then s.reply n r Rs.pinned 0
      else
        let mine := fun (t : TileRef) => t.ns == x.ns && t.obj == id
        let s1 := { s with
          jobs := { s.jobs with stash := s.jobs.stash.filter fun q => !(q.ns == x.ns && q.id == id) }
          render := { s.render with cache := s.render.cache.filter fun c => !mine c.tile, decQueue := s.render.decQueue.filter fun t => !mine t
                                    decoders := s.render.decoders.filter fun e => match e.2 with | some d => !mine d.tile | none => true } }
        (s1.updSess n fun x => { x with charge := x.charge - o.charge }).reply n r Rs.ok 0

/-! ## Groups and pages (R87, R88, R90, R91, R127) -/

/-- GROUP_DEFINE (R77, R87). -/
def State.groupDefine (s : State) (n : Nat) (x : Session) (r : Req) : State :=
  let b := r.body
  let k := leAt b 2 2
  if !s.ready 7 then s.reply n r Rs.notReady 0
  else if b.length < 16 ∨ (0 < k ∧ k ≤ 4096 ∧ b.length ≠ 16 + 32 * k) then s.reply n r Rs.field 0
  else
    match checkGroup b (s.jobs.groupUsed x.ns (leAt b 0 2)) with
    | some (code, off) => s.reply n r (0x0100 + code) off
    | none =>
      let g := parseGroup x.ns b
      let s1 := { s with jobs := { s.jobs with groups := (s.jobs.groups.filter fun (q : Group) => !(q.ns == x.ns && q.id == g.id)) ++ [g] } }
      s1.reply n r Rs.ok 0

/-- The page record that a valid page definition makes (R79, R88, R90). -/
def State.newPage (s : State) (n : Nat) (x : Session) (b : Bytes) : Page :=
  let k := leAt b 10 2
  let items := parsePlacements b 48 k
  let binds := parseBinds b k (leAt b 28 2)
  { num := s.jobs.next, id := leAt b 0 4, ns := x.ns, sess := n, orphan := false, len := leAt b 4 4, startAt := leAt b 8 1 == 1
    reps := leAt b 12 4, start := leAt b 16 8, gap := leAt b 24 4, bg := (upTo 8).map fun q => leAt b (32 + 2 * q) 2
    items := items, binds := binds, st := .defined, objs := usedObjects s.jobs x.ns items binds, groups := usedGroups s.jobs x.ns items
    gen := 0, segs := 0, chunks := [], notHidden := false, held := false, rerenders := 0, relines := none, writ := [], verified := false
    pos := 0, late := false, lateFrom := 0, ports := 0, insts := leAt b 12 4, cast := 0, live := [], castAt := 0, thrashed := false, printed := 0, spoiledN := 0
    sinceP := 0, sinceS := 0, lastInst := 0, lastReason := 0, lastLate := false, fetched := [], sentN := [], fired := [], reverified := [], peer := [], pairs := 0 }

/-- Page number after `n` (R90): wraps from 0xFFFF_FFFF to 1. -/
def nextPageNum (n : Nat) : Nat := if n ≥ 2 ^ 32 - 1 then 1 else n + 1

/-- PAGE_DEFINE (R79, R87, R90). An ID whose final page is not retired yet has no row in R91: STATE. -/
def State.pageDefine (s : State) (n : Nat) (x : Session) (r : Req) : State :=
  let b := r.body
  let k := leAt b 10 2
  let m := leAt b 28 2
  if !s.ready 7 then s.reply n r Rs.notReady 0
  else if b.length < 48 ∨ (k ≤ 4096 ∧ m ≤ 4096 ∧ b.length ≠ 48 + 32 * k + 8 * m) then s.reply n r Rs.field 0
  else
    let old := s.jobs.pageId x.ns (leAt b 0 4)
    if (old.map (·.st.final)) = some true then s.reply n r Rs.state 0
    else
      match checkPage s.jobs x.ns b old.isSome (decide (s.jobs.pages.countP (fun p => !p.st.final) ≥ 4096)) with
      | some (code, off) => s.reply n r (0x0100 + code) off
      | none =>
        let p := s.newPage n x b
        ({ s with jobs := { s.jobs with pages := s.jobs.pages ++ [p], next := nextPageNum s.jobs.next } }).reply n r Rs.ok p.num

/-- Detail of RENDER, FROG and QUERY (R128). -/
def pageDetail (num code : Nat) : Nat := num % 2 ^ 32 + code * 2 ^ 32

/-- Lines that the session's pages hold from an accepted RENDER to their final state (R127). -/
def State.linesHeld (s : State) (ns : Nat) : Nat :=
  s.jobs.pages.foldl (fun t p => if p.ns = ns ∧ p.st ≠ .defined ∧ p.st.final = false then t + p.len else t) 0

/-- RENDER (R91, R127): quota, page-store size, completion slot, then the page manager. -/
def State.renderRequest (s : State) (n : Nat) (x : Session) (r : Req) : State :=
  if !s.ready 7 then s.reply n r Rs.notReady 0
  else if r.body.length ≠ 4 then s.reply n r Rs.field 0
  else
    match s.jobs.pageId x.ns (leAt r.body 0 4) with
    | none => s.reply n r Rs.noPage 0
    | some p =>
      let d := pageDetail p.num p.st.code
      if s.linesHeld x.ns + p.len > x.pageQuota then s.reply n r Rs.quotaPages d
      else if chunksOf p.len > s.reg 0x4800 1 then s.reply n r Rs.tooLong d
      else if s.unreserved n = 0 then s.reply n r Rs.ringFull d
      else if p.st ≠ .defined then s.reply n r Rs.state d
      else if s.jobs.queue.length ≥ 1024 then s.reply n r Rs.queueFull d
      else
        let s1 := ((s.setReserved n (s.reserved n + 1)).updPage p.num fun q => { q with st := .waiting })
        ({ s1 with jobs := { s1.jobs with queue := s1.jobs.queue ++ [p.num] } }).reply n r Rs.ok (pageDetail p.num 1)

/-- State code a page shows after a request, or the final one it ended in. -/
def State.codeAfter (s : State) (p : Page) (gone : Nat) : Nat := match s.page p.num with | some q => q.st.code | none => gone

/-- FROG (R91, R97). -/
def State.frogRequest (s : State) (n : Nat) (x : Session) (r : Req) : State :=
  if !s.ready 7 then s.reply n r Rs.notReady 0
  else if r.body.length ≠ 4 then s.reply n r Rs.field 0
  else
    match s.jobs.pageId x.ns (leAt r.body 0 4) with
    | none => s.reply n r Rs.noPage 0
    | some p =>
      let (s1, ok) := s.frogPage p.num 1 false
      let gone := if p.st = .printing then (if p.spoiledN = 0 then 7 else 8) else 10
      s1.reply n r (if ok then Rs.ok else Rs.state) (pageDetail p.num (s1.codeAfter p gone))

/-- QUERY (R123, R128). -/
def State.query (s : State) (n : Nat) (x : Session) (r : Req) : State :=
  if r.body.length ≠ 4 then s.reply n r Rs.field 0
  else
    match s.jobs.pageId x.ns (leAt r.body 0 4) with
    | none => s.reply n r Rs.noPage 0
    | some p => s.reply n r Rs.ok (pageDetail p.num p.st.code)

/-- READBACK (R128, R162): its blocks go to the encoders one after another. -/
def State.readbackRequest (s : State) (n : Nat) (x : Session) (r : Req) : State :=
  let b := r.body
  let first := leAt b 8 4
  let k := leAt b 12 4
  if !s.ready 7 || !s.ready 9 then s.reply n r Rs.notReady 0
  else if b.length ≠ 16 ∨ leAt b 4 1 > 15 ∨ k = 0 ∨ k > 1024 then s.reply n r Rs.field 0
  else
    match s.jobs.pageId x.ns (leAt b 0 4) with
    | none => s.reply n r Rs.noPage 0
    | some p =>
      if !s.readbackHeld p.num then s.reply n r Rs.state 0
      else if first + k > p.len then s.reply n r Rs.range 0
      else
        let s1 := s.updSess n fun x => { x with readback := some ⟨r.num, p.num, leAt b 4 1, first, k, 0, [], 0, false⟩ }
        ({ s1 with render := { s1.render with encQueue := s1.render.encQueue ++ [(n, none)] } }).feedEncoders

/-- Sends every completion that may go. -/
def State.sendAll (s : State) (n : Nat) : Nat → State
  | 0 => s
  | fuel + 1 => if s.maySend n then (s.completionSend n).sendAll n fuel else s

/-- CLOSE_REQ (R131): its REPLY, then CLOSE with reason HOST. -/
def State.closeRequest (s : State) (n : Nat) (x : Session) (r : Req) : State :=
  if r.body.length ≠ 4 then s.reply n r Rs.field 0
  else ((s.reply n r Rs.ok 0).sendAll n (x.window + 1)).closeSession n 1

end Sys2Proof.Machine
end

