-- ==== Sys2Proof/Machine/Network.lean ====
section
/-! DEFINITION. The network ports beside FOP and MSP: host-port links (R102), ARP and neighbour discovery (R103, R426), field-network links and pass-through (R46). -/

namespace Sys2Proof.Machine

/-- SC firmware or boot code works the ports. -/
def State.alive (s : State) : Bool := s.boot.phase == .boot || s.boot.phase == .run

/-! ## Host ports (R102) -/

/-- Puts a host-port link into a state: E072 or E073, ready bits 3 or 4 and 5 (R414). -/
def State.heTo (s : State) (he st : Nat) : State :=
  if s.heState he = st then s
  else (((s.set 0x5000 (3 + he) st).raise (72 + he) 0 st).setReady (3 + he) (decide (3 ≤ st))).sessionReady

/-- Starts a host port by its mode (R102): CR and KR modes negotiate; 200GAUI-4 has no negotiation; off stays down. -/
def State.heStart (s : State) (he : Nat) : State :=
  let m := s.reg 0x5000 (1 + he)
  s.heTo he (if 1 ≤ m ∧ m ≤ 6 then 1 else 0)

/-- HOST_MODE_WRITE: a change restarts the link. -/
def State.hostMode (s : State) (he v : Nat) : State :=
  let old := s.reg 0x5000 (1 + he)
  let s1 := s.set 0x5000 (1 + he) v
  if old = v ∨ s.alive = false then s1 else (s1.heTo he 0).heStart he

/-- A link state that a mode can reach (R102): negotiation and training with CR and KR modes; 100 Gb/s with the automatic and the 100 Gb/s modes, 200 Gb/s with the automatic, the 200 Gb/s and the chip-to-module modes. -/
def modeReaches (m st : Nat) : Bool :=
  match st with
  | 0 => true
  | 1 | 2 => decide (1 ≤ m) && decide (m ≤ 6)
  | 3 => [1, 2, 5, 6].contains m
  | 4 => [1, 2, 3, 4, 7].contains m
  | _ => false

/-- HOST_LINK_CHANGE: the partner and the PHY bring the link to a state. -/
def State.hostLink (s : State) (he st : Nat) : State := if s.alive && modeReaches (s.reg 0x5000 (1 + he)) st then s.heTo he st else s

/-! ## ARP and neighbour discovery (R103) -/

/-- An Ethernet frame. -/
def etherFrame (dst src : Nat) (ty : Nat) (b : Bytes) : Bytes := beBytes 6 dst ++ beBytes 6 src ++ beBytes 2 ty ++ b

/-- ARP reply (RFC 826) from a MAC and IPv4 address to a requester. -/
def arpReply (mac ip toMac toIp : Nat) : Bytes :=
  etherFrame toMac mac 0x0806 (beBytes 2 1 ++ beBytes 2 0x0800 ++ [6, 4] ++ beBytes 2 2 ++ beBytes 6 mac ++ beBytes 4 ip ++ beBytes 6 toMac ++ beBytes 4 toIp)

/-- Ones' complement checksum of 16-bit words. -/
def inetSum (b : Bytes) : Nat :=
  let t := (upTo ((b.length + 1) / 2)).foldl (fun a i => a + beVal (fit 2 (slice b (2 * i) 2))) 0
  let fold := fun (x : Nat) => x % 65536 + x / 65536
  65535 - fold (fold t)

/-- Neighbour advertisement (RFC 4861) for a target; to a requester without an address it goes to all nodes. -/
def neighbourAdvert (mac target toMac toIp : Nat) : Bytes :=
  let all := 0xFF02 * 2 ^ 112 + 1
  let dst := if toIp = 0 then all else toIp
  let flags := 0x20000000 + if toIp = 0 then 0 else 0x40000000
  let body := fun (sum : Nat) => [136, 0] ++ beBytes 2 sum ++ beBytes 4 flags ++ beBytes 16 target ++ [2, 1] ++ beBytes 6 mac
  let pseudo := beBytes 16 target ++ beBytes 16 dst ++ beBytes 4 32 ++ beBytes 4 58
  etherFrame (if toIp = 0 then 0x333300000001 else toMac) mac 0x86DD
    (beBytes 4 0x60000000 ++ beBytes 2 32 ++ [58, 255] ++ beBytes 16 target ++ beBytes 16 dst ++ body (inetSum (pseudo ++ body 0)))

/-- IPv4 address of the recovery server on FN0 (R426). -/
def recoveryIp : Nat :=
  let m := Config.macFn.toNat
  let m5 := m % 256
  169 * 2 ^ 24 + 254 * 2 ^ 16 + m / 256 % 256 * 2 ^ 8 + (if m5 = 0 then 1 else if m5 = 255 then 254 else m5)

/-- ARP_REQUEST on HE0, HE1 (R103) or, in ROM recovery over TFTP, on FN0 (2) (R426). -/
def State.arp (s : State) (port mac ip target : Nat) : State :=
  if port < 2 then
    let own := s.reg 0x5002 (1 + 2 * port)
    if s.heUp port && own != 0 && own == target then s.send (.hostFrame port) (arpReply (Config.macHe port).toNat own mac ip) else s
  else if s.boot.phase == .recovery && !bit s.boot.straps 2 && target == recoveryIp then s.send (.frame 0) (arpReply Config.macFn.toNat recoveryIp mac ip)
  else s

/-- NEIGHBOUR_DISCOVERY on HE0 or HE1: the link-local or the configured address is asked for. -/
def State.neighbour (s : State) (he mac src target : Nat) : State :=
  let own := beVal (s.bytes 0x5003 (1 + he) 0 16)
  let m := (Config.macHe he).toNat
  if s.heUp he && (target == linkLocal m || (own != 0 && target == own)) then s.send (.hostFrame he) (neighbourAdvert m target mac src) else s

/-! ## Field network (R46) -/

/-- A field port is up. -/
def State.fnUp (s : State) (fn : Nat) : Bool := let v := s.reg 0x1800 (1 + fn); decide (1 ≤ v) && decide (v ≤ 3)

/-- FOP runs once the settings are loaded and a field link is up (R414). -/
def State.fopReady (s : State) : State := s.setReady 0 (s.alive && (s.fnUp 0 || s.fnUp 1))

/-- FIELD_LINK_CHANGE: 0 down, 1 to 3 up, 4 refused as half duplex. In KEEP the receivers run for wake frames (R385). -/
def State.fieldLink (s : State) (fn st : Nat) : State :=
  if st > 4 then s
  else if s.alive then ((s.set 0x1800 (1 + fn) st).fopReady).motCheck
  else if s.boot.phase == .keep then s.set 0x1800 (1 + fn) st
  else s

/-- PASS_THROUGH_FORWARD: a frame not addressed to the device, and every broadcast and multicast frame, goes out of the other port. -/
def State.passThrough (s : State) (fn dst : Nat) (frame : Bytes) : State :=
  if s.alive && s.flag 0x1804 0 && s.fnUp fn && s.fnUp (1 - fn) && (bit dst 40 || dst != Config.macFn.toNat) then s.send (.frame (1 - fn)) frame else s

end Sys2Proof.Machine
end

