-- ==== Sys2Proof/Machine/Time.lean ====
section
/-! DEFINITION. Network time (R297 to R311): the servo of each PTP domain, steering and switching, rebases, the transparent clock, triggers, captures. -/

namespace Sys2Proof.Machine

/-! ## Domains (R300, R301) -/

/-- A domain of which nothing was heard. -/
def Dom.init : Dom := ⟨[], none, 0, 0, 0, [], 0, none, none, [], [], 0⟩
/-- Index of domain b: 0 A, 1 B. -/
def domIdx (b : Nat) : Nat := 0x1010 + b
/-- A domain beside its objects. -/
def State.dom (s : State) (b : Nat) : Dom := sget Dom.init s.time.doms b
/-- Changes a domain. -/
def State.updDom (s : State) (b : Nat) (f : Dom → Dom) : State := { s with time := { s.time with doms := sset Dom.init s.time.doms b (f (s.dom b)) } }

/-- Nanoseconds of an 80-bit PTP timestamp. -/
def ptpNs (v : Nat) : Nat := v / 2 ^ 32 * 1000000000 + v % 2 ^ 32
/-- An 80-bit PTP timestamp as it stands in a message. -/
def ptpStamp (t : Nat) : Bytes := beBytes 6 (t / 1000000000) ++ beBytes 4 (t % 1000000000)
/-- A correctionField in whole nanoseconds. -/
def corrNs (c : Nat) : Int := toSigned 64 c / 65536

/-- The domain is enabled, under this number and transport (R300). -/
def State.tracks (s : State) (b domain transport : Nat) : Bool :=
  s.flag (domIdx b) 4 && s.reg (domIdx b) 1 == domain && s.reg (domIdx b) 2 == transport
/-- The tracked domain a message belongs to. -/
def State.domOf (s : State) (domain transport : Nat) : Option Nat :=
  if !s.loaded 4 then none else [0, 1].find? fun b => s.tracks b domain transport
/-- The domain measures delay peer to peer. -/
def State.p2p (s : State) (b : Nat) : Bool := s.reg (domIdx b) 3 == 1
/-- The active domain, 0xFF for none. -/
def State.activeDom (s : State) : Nat := s.reg 0x1000 0x0B
/-- The domain is LOCKED. -/
def State.domLocked (s : State) (b : Nat) : Bool := decide (b < 2) && s.reg (domIdx b) 5 == 3

/-! ## Steering (R303, R304, R306) -/

/-- Sets rebase pending, with E211 on a change (R304, R315). -/
def State.pendingTo (s : State) (p : Bool) : State :=
  if s.flag 0x1000 8 = p then s
  else (s.set 0x1000 8 (b2n p)).raise 211 (if p then 2 else 0) (b2n p + s.reg 0x1000 7 % 2 ^ 56 * 256)

/-- Sets the steering state, with E213 on entry to holdover and exit (R306, R315). -/
def State.steerTo (s : State) (n : Nat) : State :=
  let old := s.reg 0x1000 0x0C
  if old = n then s
  else
    let s1 := s.set 0x1000 0x0C n
    if n = 2 then s1.raise 213 2 1 else if old = 2 then s1.raise 213 0 0 else s1

/-- A rate within 1,000 ppm of the active domain's and of RTCLK (R295, R303). -/
def limitRate (ratio r : Int) : Int := clampInt (-1000000) 1000000 (clampInt (ratio - 1000000) (ratio + 1000000) r)

/-- The active domain steers device time from its latest offset (R303, R304); the slew asked for is the servo's (free). -/
def State.steer (s : State) : State :=
  let b := s.activeDom
  if s.reg 0x1000 5 ≠ 0 ∨ s.domLocked b = false then s
  else
    let e := s.i64 (domIdx b) 6 - s.i64 0x1000 3
    let ratio := s.i32 (domIdx b) 8
    let (k, s1) := (s.setI64 0x1000 7 e).fresh
    if e.natAbs ≤ s.reg 0x1000 6 then ((s1.set 0x1000 4 (ofSigned 32 (limitRate ratio (Config.servoRate k)))).pendingTo false).steerTo 1
    else ((s1.set 0x1000 4 (ofSigned 32 (limitRate ratio ratio))).pendingTo true).steerTo 1

/-- Switches the active domain (R305, R315). -/
def State.switchDom (s : State) (b cause : Nat) : State :=
  ((((s.set 0x1000 0x0B b).bump 0x1020 3).raise 210 0 (b + cause * 256)).updDom 0 fun d => { d with better := 0 }).updDom 1 (fun d => { d with better := 0 }) |>.steer

/-- A domain became LOCKED (R305): the first after reset becomes active, the preferred one if both lock in one cycle; it takes over from an active domain that is not LOCKED. -/
def State.domLock (s : State) (b : Nat) : State :=
  let a := s.activeDom
  if a = 0xFF then ({ s.set 0x1000 0x0B b with time := { s.time with lockedAt := some s.clk.now } }).steer
  else if a = b then s.steer
  else if s.time.lockedAt = some s.clk.now ∧ s.reg 0x1020 1 = b then (s.set 0x1000 0x0B b).steer
  else if !s.domLocked a then s.switchDom b 1
  else s

/-- The active domain left LOCKED: the other domain takes over, or holdover begins (R305, R306). -/
def State.domUnlock (s : State) (b : Nat) : State :=
  if s.activeDom ≠ b then s
  else if s.domLocked (1 - b) then s.switchDom (1 - b) 1
  else if s.reg 0x1000 5 = 0 then s.steerTo 2
  else s

/-- Puts a domain into a state (R301): ready bit 1 or 2, E208 or E209 when LOCKED is entered or left or the domain is disabled. -/
def State.domTo (s : State) (b new : Nat) : State :=
  let old := s.reg (domIdx b) 5
  if old = new then s
  else
    let s1 := s.set (domIdx b) 5 new
    if old ≠ 3 ∧ new ≠ 3 ∧ new ≠ 0 then s1
    else
      let s2 := (s1.setReady (1 + b) (new == 3)).raise (208 + b) (if old = 3 ∧ s.activeDom = b then 2 else 0) new
      if new = 3 then s2.domLock b else if old = 3 then s2.domUnlock b else s2

/-- DOMAIN_ENABLE_WRITE (R301). -/
def State.domainEnable (s : State) (b v : Nat) : State :=
  let s1 := s.set (domIdx b) 4 v
  if v = 0 then (s1.updDom b fun d => { Dom.init with seq := d.seq }).domTo b 0
  else if s.reg (domIdx b) 5 = 0 ∧ s.loaded 4 then s1.domTo b 1 else s1

/-! ## Messages of the device (R300): IEEE 1588 layouts, PRESUMED -/

/-- Port identity of field port fn: the clock identity made of the MAC, and the port number. -/
def portIdentity (fn : Nat) : Bytes :=
  let m := Config.macFn.toNat
  beBytes 3 (m / 2 ^ 24) ++ [0xFF, 0xFE] ++ beBytes 3 (m % 2 ^ 24) ++ beBytes 2 (fn + 1)

/-- A PTP message: common header and body. -/
def ptpMessage (kind domain fn seq corr : Nat) (body : Bytes) : Bytes :=
  leBytes 1 kind ++ [0x12] ++ beBytes 2 (34 + body.length) ++ leBytes 1 domain ++ [0, 0, 0] ++ beBytes 8 corr ++ zeros 4
    ++ portIdentity fn ++ beBytes 2 seq ++ [if kind = 1 then 1 else 5, 0x7F] ++ body

/-- Sends Delay_Req (end to end) after a Sync on the port in use, or Pdelay_Req (peer to peer) there and, with pass-through on, on the other port too, whose link delay R302 needs. -/
def State.askDelay (s : State) (b fn : Nat) (origin : Int) (ingress : Nat) : State :=
  let q := (s.dom b).seq
  let dom := s.reg (domIdx b) 1
  let tr := s.reg (domIdx b) 2
  if s.p2p b then
    (if s.flag 0x1804 0 then [fn, 1 - fn] else [fn]).foldl (fun s fn =>
      let q := (s.dom b).seq
      (s.send (.ptp fn tr) (ptpMessage 2 dom fn q 0 (zeros 20))).updDom b fun d =>
        { d with seq := wrapAdd 16 q 1, pdelayReq := sset (0, 0) d.pdelayReq fn (q, s.clk.now) }) s
  else
    (s.send (.ptp fn tr) (ptpMessage 1 dom fn q 0 (zeros 10))).updDom b fun d =>
      { d with seq := wrapAdd 16 q 1, delayReq := some (q, s.clk.now, origin, ingress) }

/-! ## Offset, lock, delay -/

/-- A residual moves the lock state (R301). -/
def State.residual (s : State) (b : Nat) (r : Int) : State :=
  let th := s.reg (domIdx b) 0x0D
  let d := s.dom b
  let good := if r.natAbs ≤ th then d.good + 1 else 0
  let bad := if r.natAbs > 4 * th then d.bad + 1 else 0
  let s1 := s.updDom b fun d => { d with good := good, bad := bad }
  if s.reg (domIdx b) 5 = 2 ∧ good ≥ 8 then (s1.updDom b fun d => { d with bad := 0 }).domTo b 3
  else if s.reg (domIdx b) 5 = 3 ∧ bad ≥ 4 then ((s1.updDom b fun d => { d with good := 0 }).bump (domIdx b) 0x0E).domTo b 2
  else s1

/-- One measurement of a domain: the Sync left its master at `origin` (corrected) and arrived at `ingress` (R301). -/
def State.measureDom (s : State) (b : Nat) (origin : Int) (ingress : Nat) : State :=
  let o := origin + (s.reg (domIdx b) 7 : Int) - ingress
  let h := (s.dom b).hist
  let h1 := (ingress, o) :: h.take 63
  let s1 := (s.setI64 (domIdx b) 6 o).set (domIdx b) 8 (ofSigned 32 (Config.servoRatio h1))
  let s2 := s1.updDom b fun d => { d with hist := h1, last := s.clk.now }
  let s3 := if h.isEmpty then s2 else s2.residual b (o - Config.servoPredict h)
  if s3.activeDom = b then s3.steer else s3

/-- A message comes from the parent of domain b, on the port in use. -/
def State.fromParent (s : State) (b fn src : Nat) : Bool :=
  match (s.dom b).parent with | some p => p.fn == fn && p.src == src | none => false

/-- SYNC (R301): only the parent's counts. -/
def State.ptpSync (s : State) (domain transport fn src seq corr : Nat) (twoStep : Bool) (logInterval origin : Nat) : State :=
  match s.domOf domain transport with
  | none => s
  | some b =>
    if !s.fromParent b fn src || decide (s.reg (domIdx b) 5 < 2) then s
    else
      let s1 := (s.set (domIdx b) 0x0B logInterval).updDom b fun d => { d with last := s.clk.now }
      if twoStep then s1.updDom b fun d => { d with waiting := some (seq, s.clk.now, corrNs corr) }
      else
        let t := (ptpNs origin : Int) + corrNs corr
        (s1.measureDom b t s.clk.now).askDelay b fn t s.clk.now

/-- FOLLOW_UP (R300). -/
def State.followUp (s : State) (domain transport fn src seq corr origin : Nat) : State :=
  match s.domOf domain transport with
  | none => s
  | some b =>
    match (s.dom b).waiting with
    | none => s
    | some (q, t2, c) =>
      if q ≠ seq ∨ s.fromParent b fn src = false then s
      else
        let t := (ptpNs origin : Int) + c + corrNs corr
        ((s.updDom b fun d => { d with waiting := none }).measureDom b t t2).askDelay b fn t t2

/-- DELAY_RESP (R300): the mean path delay, end to end. -/
def State.delayResp (s : State) (domain transport fn src seq corr rx : Nat) : State :=
  match s.domOf domain transport with
  | none => s
  | some b =>
    match (s.dom b).delayReq with
    | none => s
    | some (q, t3, t1, t2) =>
      if q ≠ seq ∨ s.fromParent b fn src = false ∨ s.p2p b = true then s
      else
        let dl := (((t2 : Int) - t1) + ((ptpNs rx : Int) - corrNs corr - t3)) / 2
        (s.updDom b fun d => { d with delayReq := none }).set (domIdx b) 7 (clampInt 0 4294967295 dl).toNat

/-- PDELAY_REQ (R302): answered on each port of a domain that measures peer to peer, at once, with its receipt and origin times equal. -/
def State.pdelayAsked (s : State) (domain transport fn src seq corr : Nat) : State :=
  match s.domOf domain transport with
  | none => s
  | some b => if s.p2p b then s.send (.ptp fn transport) (ptpMessage 3 domain fn seq corr (zeros 10 ++ beBytes 10 src)) else s

/-- PDELAY_RESP (R300): the link delay of a port; `corr` sums the corrections of the response. -/
def State.pdelayResp (s : State) (domain transport fn seq corr rx tx : Nat) : State :=
  match s.domOf domain transport with
  | none => s
  | some b =>
    match sfind fn (s.dom b).pdelayReq with
    | none => s
    | some (q, t1) =>
      if q ≠ seq ∨ s.p2p b = false then s
      else
        let dl := (clampInt 0 4294967295 (((s.clk.now - t1 : Nat) - ((ptpNs tx : Int) - ptpNs rx) - corrNs corr) / 2)).toNat
        let s1 := s.updDom b fun d => { d with pdelayReq := serase fn d.pdelayReq, linkDelay := sset 0 d.linkDelay fn dl }
        match (s.dom b).parent with
        | some p => if p.fn = fn then s1.set (domIdx b) 7 dl else s1
        | none => s1

/-- Order of data sets (R301): true if the first is better. -/
def Cand.better (x y : Cand) : Bool :=
  let key := fun (c : Cand) => [c.priority1, c.cls, c.accuracy, c.variance, c.priority2, c.identity]
  decide (key x < key y)

/-- Of two announcing sources the better; among equals the lower port identity, then FN0 (log entry 46). -/
def Cand.pick (x y : Cand) : Cand :=
  if x.better y then x else if y.better x then y
  else if x.src < y.src then x else if y.src < x.src then y else if x.fn ≤ y.fn then x else y

/-- Quality switching (R305), counted at each Announce of a domain. -/
def State.qualitySwitch (s : State) (b : Nat) : State :=
  let a := s.activeDom
  if a > 1 then s
  else
    let wins := match (s.dom (1 - a)).parent, (s.dom a).parent with | some x, some y => x.better y | _, _ => false
    let s1 := s.updDom b fun d => { d with better := if wins then d.better + 1 else 0 }
    if s1.flag 0x1020 2 && s1.domLocked (1 - a) && decide (3 ≤ (s1.dom 0).better) && decide (3 ≤ (s1.dom 1).better) then s1.switchDom (1 - a) 2 else s1

/-- ANNOUNCE (R301): parent selection. -/
def State.announced (s : State) (domain transport : Nat) (c : Cand) : State :=
  match s.domOf domain transport with
  | none => s
  | some b =>
    let cands := c :: (s.dom b).cands.filter fun x => !(x.fn == c.fn && x.src == c.src)
    let p := cands.foldl Cand.pick c
    let same := s.fromParent b p.fn p.src
    let s1 := s.updDom b fun d => { d with cands := cands, parent := some p, waiting := if same then d.waiting else none, delayReq := if same then d.delayReq else none }
    let s2 := (s1.set (domIdx b) 9 p.identity).setBytes (domIdx b) 0x0A 0
      (leBytes 1 p.priority1 ++ leBytes 1 p.cls ++ leBytes 1 p.accuracy ++ leBytes 2 p.variance ++ leBytes 1 p.priority2 ++ leBytes 1 p.fn ++ [0])
    let s3 := if s2.reg (domIdx b) 5 = 1 then s2.domTo b 2 else s2
    s3.qualitySwitch b

/-- A number of intervals of 2^log s, in ns. -/
def syncNs (n log : Nat) : Nat := if log < 128 then n * 1000000000 * 2 ^ log else n * 1000000000 / 2 ^ (256 - log)

/-- SYNC_LOSS_TIMEOUT (R301): no Sync for N intervals; the parent is chosen again from new Announce messages. -/
def State.syncLost (s : State) (b : Nat) : State :=
  let d := s.dom b
  if s.reg (domIdx b) 5 = 3 ∧ d.last + syncNs (s.reg (domIdx b) 0x0C) (s.reg (domIdx b) 0x0B) ≤ s.clk.now then
    ((s.updDom b fun d => { d with cands := [], parent := none, good := 0, bad := 0, waiting := none, delayReq := none }).bump (domIdx b) 0x0E).domTo b 1
  else s

/-- A change of the time source (0x1000:05): with FREE the rate is RTCLK's (R306); BOARD counts as steered while time lock holds (R313). -/
def State.timeSource (s : State) (v : Nat) : State :=
  let s1 := s.set 0x1000 5 v
  if s.reg 0x1000 5 = v then s1
  else if v = 2 then (s1.set 0x1000 4 0).steerTo 0
  else if v = 1 then s1.steerTo (s1.reg 0x8810 5)
  else if s1.activeDom > 1 then s1.steerTo 0
  else if s1.domLocked s1.activeDom then s1.steer
  else s1.steerTo 2

/-! ## Transparent clock (R302) -/

/-- Adds nanoseconds to the correctionField of a PTP message. -/
def addCorr (m : Bytes) (ns : Nat) : Bytes := m.take 8 ++ beBytes 8 ((beVal (slice m 8 8) + ns * 65536) % 2 ^ 64) ++ m.drop 16

/-- A residence that waits for the Follow_Up of its Sync matches a message: port, domain, source, sequence. -/
def residenceOf (fn dom src seq : Nat) (r : Nat × Nat × Nat × Nat × Nat) : Bool := r.1 == fn && r.2.1 == dom && r.2.2.1 == src && r.2.2.2.1 == seq

/-- TRANSPARENT_CLOCK_FORWARD: a PTP message from port fn leaves by the other port, corrected as its kind and domain ask. -/
def State.ptpForward (s : State) (fn transport : Nat) (m : Bytes) (residence : Nat) : State :=
  let kind := leAt m 0 1 % 16
  let dom := leAt m 4 1
  let src := beVal (slice m 20 10)
  let seq := beVal (slice m 30 2)
  let p2p := match s.domOf dom transport with | some b => s.p2p b | none => false
  let link := match s.domOf dom transport with | some b => if s.p2p b then sget 0 (s.dom b).linkDelay fn else 0 | none => 0
  if !s.alive || !s.flag 0x1804 0 || !s.fnUp fn || !s.fnUp (1 - fn) || decide (m.length < 34) then s
  else if p2p && (kind == 2 || kind == 3 || kind == 10) then s
  else if kind = 0 ∧ bit (leAt m 6 1) 1 then
    { s.send (.ptp (1 - fn) transport) m with time := { s.time with forwarded := (fn, dom, src, seq, residence + link) ::
        (s.time.forwarded.filter fun r => !residenceOf fn dom src seq r).take 15 } }
  else if kind = 0 then s.send (.ptp (1 - fn) transport) (addCorr m (residence + link))
  else if kind < 8 then s.send (.ptp (1 - fn) transport) (addCorr m residence)
  else if kind = 8 then
    match s.time.forwarded.find? (residenceOf fn dom src seq) with
    | some (_, _, _, _, ns) => { s.send (.ptp (1 - fn) transport) (addCorr m ns) with time := { s.time with forwarded := s.time.forwarded.filter fun r => !residenceOf fn dom src seq r } }
    | none => s.send (.ptp (1 - fn) transport) m
  else s.send (.ptp (1 - fn) transport) m

/-! ## Triggers (R309, R310) -/

/-- A trigger with no edge due and no pulse. -/
def Trig.idle : Trig := ⟨none, none⟩
/-- A trigger beside its objects. -/
def State.trig (s : State) (t : Nat) : Trig := sget Trig.idle s.time.trigs t
/-- Changes a trigger. -/
def State.setTrig (s : State) (t : Nat) (x : Trig) : State := { s with time := { s.time with trigs := sset Trig.idle s.time.trigs t x } }
/-- Level of the TRGt pin (R309, R461). -/
def State.trgPin (s : State) (t : Nat) : Bool := s.pinsLive && ((s.trig t).off.isSome) == s.flag (0x1030 + t) 5

/-- The first edge of a periodic trigger at or after a device time (R309). -/
def State.nextEdge (s : State) (t from_ : Nat) : Nat :=
  let o : Int := (s.reg (0x1030 + t) 2 : Int) - s.i64 0x1000 3
  from_ + ((o - from_) % (s.reg (0x1030 + t) 3 : Int)).toNat

/-- TRIGGER_ARM (R309): the outcome, and whether it was accepted. -/
def State.triggerArm (s : State) (t : Nat) : State × Bool :=
  let x := 0x1030 + t
  let mode := s.reg x 1
  let edge : Int := (s.reg x 2 : Int) - s.i64 0x1000 3
  let r := if s.reg x 7 = 1 ∨ mode = 0 then 1
    else if mode = 1 ∧ edge < s.clk.now + 1000 then 2
    else if s.reg x 4 = 0 ∨ (mode = 2 ∧ s.reg x 4 ≥ s.reg x 3) then 3 else 0
  let s1 := s.set x 8 r
  if r ≠ 0 then (s1, false)
  else ((s1.set x 7 1).setTrig t { s.trig t with due := some (if mode = 1 then edge.toNat else s.nextEdge t (s.clk.now + 1000)) }, true)

/-- TRIGGER_DISARM (R309): a pulse in progress completes. -/
def State.triggerDisarm (s : State) (t : Nat) : State × Bool :=
  let x := 0x1030 + t
  if s.reg x 7 ≠ 1 then (s.set x 8 1, false)
  else (((s.set x 8 0).set x 7 0).setTrig t { s.trig t with due := none }, true)

/-- TRIGGER_EDGE (R309): the next leading edge that device time has reached. -/
def State.triggerEdge (s : State) (t : Nat) : State :=
  let x := 0x1030 + t
  match (s.trig t).due with
  | none => s
  | some d =>
    if d > s.clk.now then s
    else
      let one := s.reg x 1 == 1
      let s1 := (s.setTrig t ⟨if one then none else some (d + s.reg x 3), some (d + s.reg x 4)⟩).count x 9 32 1
      (if one then s1.set x 7 2 else s1).raise (216 + t) 0 (d % 2 ^ 32)

/-- TRIGGER_PULSE_END (R309). -/
def State.triggerPulseEnd (s : State) (t : Nat) : State :=
  match (s.trig t).off with
  | some d => if d ≤ s.clk.now then s.setTrig t { s.trig t with off := none } else s
  | none => s

/-- What a rebase does to the triggers (R307, R310): one-shots are CANCELLED with one E214; periodic ones find their next edge in the new aligned time. -/
def State.rebaseTriggers (s : State) : State :=
  let armed := (upTo 4).filter fun t => s.reg (0x1030 + t) 7 == 1
  let ones := armed.filter fun t => s.reg (0x1030 + t) 1 == 1
  let s1 := ones.foldl (fun s t => (s.set (0x1030 + t) 7 3).setTrig t { s.trig t with due := none }) s
  let s2 := armed.foldl (fun s t => if s.reg (0x1030 + t) 1 = 2 then s.setTrig t { s.trig t with due := some (s.nextEdge t (s.clk.now + 1000)) } else s) s1
  if ones.isEmpty then s2 else s2.raise 214 0 ((ones.map fun t => 2 ^ t).sum + s2.epoch * 2 ^ 16)

/-! ## Rebase (R307, R308, R437) -/

/-- Enters an epoch with an alignment (R307). A trigger edge that falls in this cycle goes out first, under the old alignment (R310). -/
def State.rebaseTo (s0 : State) (epoch : Nat) (a : Int) : State :=
  let s := (upTo 4).foldl State.triggerEdge s0
  let old := s.i64 0x1000 3
  let s1 := ((s.set 0x1000 2 epoch).setI64 0x1000 3 a).setI64 0x1000 7 (s.i64 0x1000 7 - (a - old))
  let s2 := s1.setBytes 0x1001 0 0 ((leBytes 2 epoch ++ zeros 6 ++ leBytes 8 s.clk.now ++ leBytes 8 (ofSigned 64 a)) ++ s.bytes 0x1001 0 0 360)
  (s2.rebaseTriggers.pendingTo false).raise 212 0 (epoch + ofSigned 48 (a - old) * 2 ^ 16)

/-- The result the rebase command would have (R307). A rebase that the board has taken and not applied yet leaves none pending (DESIGN CHOICE, log 108). -/
def State.rebaseCheck (s : State) : Nat :=
  if s.pagesActive then 2 else if s.reg 0x1000 5 = 1 ∧ s.isMaster = false then 3 else if s.flag 0x1000 8 = false ∨ s.board.rebase.isSome = true then 1 else 0

/-- An accepted rebase: at once, or on a board master over the ring, 20 µs later (R437). -/
def State.rebaseStart (s : State) : State :=
  let e := (s.epoch + 1) % 2 ^ 16
  let a := s.i64 0x1000 3 + s.i64 0x1000 7
  if s.onBoard && s.isMaster then
    let t := s.clk.now + 20000
    let s1 := s.smsg 7 0xFF 0 (leBytes 2 e ++ zeros 2 ++ leBytes 8 (ofSigned 64 a) ++ leBytes 8 t)
    { s1 with board := { s1.board with rebase := some (e, a, t) } }
  else s.rebaseTo e a

/-- REBASE_COMMAND (R307). -/
def State.rebaseCommand (s : State) : State × Bool :=
  let r := s.rebaseCheck
  let s1 := s.set 0x1000 0x0A r
  if r ≠ 0 then (s1, false) else (s1.rebaseStart, true)

/-- INITIAL_REBASE (R308). -/
def State.initialRebase (s : State) : State :=
  if s.flag 0x1000 0x0D && s.epoch == 0 && s.rebaseCheck == 0 && s.board.rebase.isNone then s.rebaseCommand.1 else s

/-! ## Captures (R311) -/

/-- CAPTURE_EDGE: a new level has been stable for F + 1 samples. -/
def State.captureEdge (s : State) (c : Nat) (rising : Bool) : State :=
  let x := 0x1040 + c
  if !s.alive || !bit (s.reg x 1) (if rising then 0 else 1) then s
  else
    let t := s.clk.now - s.reg x 2
    let s1 := (((s.set x 4 t).set x 5 (s.epochAt t)).count x 6 32 1).raise (220 + c) 0 (t % 2 ^ 32 + b2n rising * 2 ^ 32)
    let q := s.reg x 3
    if q = 0xFF then s1
    else
      let (s2, ok) := s1.ringPut q 0x22 t (s.epochAt t + c * 2 ^ 16 + b2n rising * 2 ^ 18 + s1.reg x 6 % 2 ^ 32 * 2 ^ 32) 0
      if ok then s2 else s2.bump x 7

end Sys2Proof.Machine
end

