-- ==== Sys2Proof/Machine/Board.lean ====
section
/-! DEFINITION. The board ring (R430 to R451): forwarding, safe state and missing members, board time, position broadcast, release barrier, page messages, USER. -/

namespace Sys2Proof.Machine

/-! ## The ring (R431 to R435) -/

/-- Own device number. -/
def State.own (s : State) : Nat := s.reg 0x8800 2
/-- The device works on a board (R430). -/
def State.ring (s : State) : Bool := s.alive && s.onBoard
/-- The device is a follower of a board. -/
def State.follower (s : State) : Bool := s.ring && !s.isMaster
/-- The device is the master of a board. -/
def State.master (s : State) : Bool := s.ring && s.isMaster

/-- A block of another member may arrive on seam link k. -/
def State.seamTakes (s : State) (k origin : Nat) : Bool := s.ring && s.seamsUp.contains k && decide (origin < s.members) && origin != s.own

/-- The link a block of link k goes on by (R434). -/
def pairLink (k : Nat) : Nat := if k % 2 = 0 then k + 1 else k - 1

/-- Forwards a block, given with its header byte (R434). -/
def State.forward (s : State) (k hops : Nat) (lanes : List Nat) (b : Bytes) : State :=
  if hops + 1 < s.members && s.seamsUp.contains (pairLink k) then lanes.foldl (fun s l => s.send (.seam (pairLink k) l) b) s else s

/-- Byte 1 of a forwarded block (R433). -/
def hopByte (origin hops : Nat) (valid : Bool) : Nat := origin + (hops + 1) % 8 * 8 + if valid then 64 else 0

/-- Block time of the ring in units of 0.1 ns (R242). -/
def State.ringBlock (s : State) : Nat := blockTime10 (s.link 16).rate
/-- Link latency ℓ_k in ns (R435). -/
def State.seamLatency (s : State) (k : Nat) : Nat := s.reg (seamIdx k) 5 + 4 * blockTime10 (s.link (16 + k)).rate / 10 + 24

/-- A periodic send whose period in 0.1 ns has passed. -/
def State.sendDue (s : State) (i period : Nat) : Bool :=
  let t := sget 0 s.board.sent i
  t == 0 || decide (period ≤ 10 * (s.clk.now + 1 - t))
/-- Marks a periodic send. -/
def State.sentNow (s : State) (i : Nat) : State := { s with board := { s.board with sent := sset 0 s.board.sent i (s.clk.now + 1) } }

/-- E070 (R452). -/
def State.boardLock (s : State) (sev cause : Nat) : State :=
  s.raise 70 sev (b2n (s.flag 0x8810 2) + b2n (s.flag 0x8810 5) * 2 + cause * 256)

/-! ## SURGENT (R447, R448, R376) -/

/-- Bit 1 of the cause-present map (R378, R447, R448). -/
def State.peerCause (s : State) : State :=
  let on := s.board.peerSafe != 0 || (s.flag 0x8800 6 && s.board.missing != 0)
  s.set 0x7800 4 (setBit (s.reg 0x7800 4) 1 on)

/-- An origin counts as being in the safe state: E069 when it begins to (R376, R447, R448). -/
def State.peerFault (s : State) (d : Nat) (missing : Bool) : State :=
  (s.raiseAt 69 4 (d + b2n missing * 256) 13 4 0 0).peerCause

/-- Sends SURGENT on every lane of the ring (R447); a member in the safe state only by E069 sends bit 6 clear. -/
def State.surgentNow (s : State) : State :=
  if s.ring then (s.seamSend [0, 1, 2, 3] (leBytes 1 0xF0 ++ leBytes 1 (s.seamByte (s.safe && !s.board.peerOnly)) ++ zeros 6)).sentNow 0 else s

/-- SURGENT_SEND (R447). -/
def State.surgentSend (s : State) : State := if s.sendDue 0 10000 then s.surgentNow else s

/-- SURGENT arrives; `safe` is bit 6. -/
def State.surgent (s : State) (k d hops : Nat) (safe : Bool) : State :=
  if !s.seamTakes k d then s
  else
    let s1 := s.forward k hops [0, 1, 2, 3] (leBytes 1 0xF0 ++ leBytes 1 (hopByte d hops safe) ++ zeros 6)
    let back := bit s1.board.missing d
    let s2 := { s1 with board := { s1.board with heard := sset 0 s1.board.heard d (s1.clk.now + 1), missing := setBit s1.board.missing d false } }
    let s3 := if back then s2.raise 71 0 (s2.presentMap + 2 * 256) else s2
    let was := bit s3.board.peerSafe d
    let s4 := { s3 with board := { s3.board with peerSafe := setBit s3.board.peerSafe d safe } }
    if safe && !was then s4.peerFault d false else s4.peerCause

/-- MISSING_MEMBER (R448): no SURGENT for 100 µs, since the start if none ever came. -/
def State.missingMember (s : State) (d : Nat) : State :=
  let h := sget 0 s.board.heard d
  let since := if h = 0 then s.boot.started else h - 1
  if !s.ring || decide (s.members ≤ d) || d == s.own || bit s.board.missing d || decide (s.clk.now < since + 100000) then s
  else
    let s1 := { s with board := { s.board with missing := setBit s.board.missing d true } }
    let s2 := s1.raise 71 0 ((if bit s1.presentMap d then s1.presentMap - 2 ^ d else s1.presentMap) + 256)
    if s2.flag 0x8800 6 && !bit s2.board.peerSafe d then s2.peerFault d true else s2.peerCause

/-- A write of missing-member fault 0x8800:06: members missing now begin or cease to count (R448). -/
def State.missingFault (s : State) (v : Nat) : State :=
  let s1 := s.set 0x8800 6 v
  if v = 1 ∧ s.reg 0x8800 6 = 0 then (upTo 8).foldl (fun s d => if bit s.board.missing d && !bit s.board.peerSafe d then s.peerFault d true else s) s1.peerCause
  else s1.peerCause

/-! ## Board time (R436, R437) -/

/-- Board offset B. -/
def State.offset (s : State) : Int := s.i64 0x8810 4
/-- Board time. -/
def State.boardTime (s : State) : Int := s.clk.now + s.offset

/-- The value nearest to a reference whose low w bits are given (R439). -/
def nearest (ref : Int) (w v : Nat) : Int :=
  let d := ((v : Int) - ref) % (2 ^ w : Nat)
  ref + (if d < (2 ^ (w - 1) : Nat) then d else d - (2 ^ w : Nat))

/-- STIME_SEND (R437): the master's board time is its device time. -/
def State.stimeSend (s : State) : State :=
  if s.master && s.sendDue 2 (64 * s.ringBlock) then
    (s.seamSend [0] (leBytes 1 0xCC ++ leBytes 1 (s.seamByte false) ++ leBytes 6 s.clk.now)).sentNow 2
  else s

/-- A follower's lock and rate from the master's time at arrival (R436): B is fixed at the first lock. -/
def State.stimeLock (s : State) (m : Int) : State :=
  let err := match s.board.stime with
    | some (t, v) => if s.board.fixed then m - s.boardTime else m - ((v : Int) + (s.clk.now - t : Nat))
    | none => if s.board.fixed then m - s.boardTime else 21
  let run := if err.natAbs ≤ 20 then s.board.stimes + 1 else 0
  let s1 := { s with board := { s.board with stimes := run, stime := some (s.clk.now, m.toNat) } }
  if s1.flag 0x8810 5 then
    let (k, s2) := s1.fresh
    s2.set 0x1000 4 (ofSigned 32 (clampInt (-1000000) 1000000 (Config.servoRate k)))
  else if run ≥ 16 then
    let s2 := if s1.board.fixed then s1
      else
        let b := m - s1.clk.now
        ({ s1 with board := { s1.board with fixed := true } }.setI64 0x8810 4 b).setI64 0x1000 3 (s1.i64 0x1000 3 + b)
    ((s2.set 0x8810 5 1).steerTo 1).boardLock 0 0
  else s1

/-- STIME (R434 to R436): forwarded with the board time of the forwarded block, which a follower without time lock takes from the block itself; acted on by a follower whose time source is BOARD, by the link whose copy comes first (log entry 47). -/
def State.stimeIn (s : State) (k d hops at_ : Nat) : State :=
  if !s.seamTakes k d then s
  else
    let m := nearest s.boardTime 48 at_ + (s.seamLatency k : Int)
    let out := ((if s.follower && s.flag 0x8810 5 then s.boardTime else m) + (2 * s.ringBlock / 10 : Nat)).toNat
    let s1 := s.forward k hops [0] (leBytes 1 0xCC ++ leBytes 1 (hopByte d hops false) ++ leBytes 6 out)
    let stale := match s1.board.stime with | some (t, _) => decide (t + 128 * s1.ringBlock / 10 < s1.clk.now) | none => true
    if !s1.follower || d != s1.reg 0x8800 4 || s1.reg 0x1000 5 != 1 || !(s1.board.stimePort == k + 1 || s1.board.stimePort == 0 || stale) then s1
    else { s1 with board := { s1.board with stimePort := k + 1 } }.stimeLock m

/-- STIME_LOSS (R436): none for 10 µs. -/
def State.stimeLoss (s : State) : State :=
  let gone := match s.board.stime with | some (t, _) => decide (t + 10000 ≤ s.clk.now) | none => true
  if s.flag 0x8810 5 && gone then
    let s1 := { s.set 0x8810 5 0 with board := { s.board with stimes := 0, stime := none, stimePort := 0 } }
    (if s1.reg 0x1000 5 = 1 then s1.steerTo 0 else s1).boardLock 2 1
  else s

/-- REBASE arrives (R437): a follower of board time schedules it. -/
def State.rebaseIn (s : State) (d : Nat) (b : Bytes) : State :=
  if s.follower && d == s.reg 0x8800 4 && s.reg 0x1000 5 == 1 then
    { s with board := { s.board with rebase := some (leAt b 0 2, toSigned 64 (leAt b 4 8), leAt b 12 8) } }
  else s

/-- REBASE_APPLY (R437): at board time T_r; a follower's alignment is the master's plus B (R436). -/
def State.rebaseApply (s : State) : State :=
  match s.board.rebase with
  | none => s
  | some (e, a, t) =>
    if s.boardTime < t then s
    else { s with board := { s.board with rebase := none } }.rebaseTo e (if s.isMaster then a else a + s.offset)

/-! ## Position broadcast (R438 to R440) -/

/-- SPOS_SEND (R438): VALID is the POS bit (R440). -/
def State.sposSend (s : State) : State :=
  if s.master && s.sendDue 1 (16 * s.ringBlock) then
    let (c, t) := s.latestCount
    (s.seamSend [0] (leBytes 1 0xC3 ++ leBytes 1 (s.seamByte s.pos.posOk) ++ leBytes 3 (ofSigned 24 c) ++ leBytes 3 t)).sentNow 1
  else s

/-- POS_FULL_SEND (R438). -/
def State.posFullSend (s : State) : State :=
  if s.master && s.sendDue 3 10000000 then (s.smsg 1 0xFF 0 s.posFull).sentNow 3 else s

/-- A follower takes its position from the ring. -/
def State.follows (s : State) (d : Nat) : Bool := s.follower && d == s.reg 0x8800 4 && s.reg 0x2800 2 == 2

/-- Loss of position lock (R440): E070 with its cause, then R215. -/
def State.posUnlock (s : State) (cause : Nat) : State :=
  let s1 := { s with board := { s.board with sposRun := 0, full := false } }
  if s1.flag 0x8810 2 then ((s1.set 0x8810 2 0).boardLock 2 cause).posCheck else s1

/-- Position lock once its conditions hold (R440). -/
def State.posLock (s : State) : State :=
  if !s.flag 0x8810 2 && s.board.full && s.board.pitchOk && decide (64 ≤ s.board.sposRun) then ((s.set 0x8810 2 1).boardLock 0 0).posCheck else s

/-- The counts from one SPOS to the next, spread evenly between their stamps, with the device times at which they are presented (R439). -/
def spread (c0 c1 t0 t1 : Int) : List (Int × Nat) :=
  let n := (c1 - c0).natAbs
  (upTo n).map fun i => (if c0 < c1 then c0 + (i + 1 : Nat) else c0 - (i + 1 : Nat), (t0 + (t1 - t0) * (i + 1 : Nat) / (n : Int)).toNat)

/-- SPOS (R434, R438 to R440): the copy of the link whose copy comes first is acted on; another link takes over once none came for two intervals, and never with an older stamp (log entry 47). -/
def State.sposIn (s : State) (k d hops : Nat) (valid : Bool) (count at_ : Nat) : State :=
  if !s.seamTakes k d then s
  else
    let s1 := s.forward k hops [0] (leBytes 1 0xC3 ++ leBytes 1 (hopByte d hops valid) ++ leBytes 3 count ++ leBytes 3 at_)
    if !s1.follows d then s1
    else
      let (c0, t0) := match s1.board.spos with | some (c, t) => (c, (t : Int)) | none => (s1.pos.src, s1.boardTime)
      let c := nearest c0 24 count
      let t := nearest t0 24 at_
      let stale := decide (s1.board.sposAt + 32 * s1.ringBlock / 10 < s1.clk.now)
      if !(s1.board.sposPort == k + 1 || s1.board.sposPort == 0 || stale) || decide (t < t0 ∧ s1.board.spos.isSome = true) then s1
      else
        let delay : Int := s1.reg 0x8810 1
        let late := decide (s1.boardTime > t + delay)
        let counts := valid && decide (s1.boardTime < t + delay)
        let s2 := { s1 with
          board := { s1.board with spos := some (c, t.toNat), sposPort := k + 1, sposAt := s1.clk.now, sposRun := if counts then s1.board.sposRun + 1 else 0 }
          pos := { s1.pos with future := s1.pos.future ++ spread c0 c (t0 + delay - s1.offset) (t + delay - s1.offset) } }
        let s3 := if late then s2.bump 0x8810 3 else s2
        if late then s3.posUnlock 2 else if !valid then s3.posUnlock 3 else s3.posLock

/-- SPOS_GAP (R440): 8 SPOS intervals without one. -/
def State.sposGap (s : State) : State :=
  if s.follower && s.reg 0x2800 2 == 2 && decide (s.board.sposAt + 128 * s.ringBlock / 10 ≤ s.clk.now) then s.posUnlock 1 else s

/-- POS_FULL on a follower (R439, R440): the master's H and O; while locked to the same origin H never falls back (log entry 48). -/
def State.posFullIn (s : State) (d : Nat) (b : Bytes) : State :=
  if !s.follows d then s
  else if leAt b 24 4 ≠ s.pitch then
    let s1 := { s with board := { s.board with pitchOk := false } }
    if s1.flag 0x8810 2 then s1.posUnlock 4 else if s.board.pitchOk then s1.boardLock 0 4 else s1
  else
    let h := toSigned 64 (leAt b 8 8)
    let o := toSigned 64 (leAt b 16 8)
    let s1 := { s with board := { s.board with
      pitchOk := true, full := true
      spos := match s.board.spos with | some x => some x | none => some (toSigned 64 (leAt b 0 8), leAt b 32 8) } }
    let keep := s1.flag 0x8810 2 && s1.pos.org == o
    let s2 := { s1.setI64 0x2820 5 (if keep then max h s1.extreme else h) with pos := { s1.pos with org := o } }
    let l := s2.lamAt s2.clk.now
    let s3 := if s2.pagesActive || keep then s2.advance s2.clk.now
      else { s2 with pos := { s2.pos with lam := l, hist := [(l, s2.clk.now)] }, jobs := { s2.jobs with lastEnd := none } }
    s3.posLock

/-! ## SMSG (R434, R442) -/

/-- An SMSG frame of a kind arrives on link k: forwarded with its CRC right, acted on once for each origin and sequence, if it is aimed here. -/
def State.smsgIn (s : State) (k d hops : Nat) (kind lane seq target count : Nat) (body : Bytes) (good : Bool) (act : State → State) : State :=
  if !s.seamTakes k d then s
  else if !good then s.blockError (16 + k)
  else
    let m := ceilDiv body.length 8
    let data := fit (8 * m) body
    let mid := leBytes 1 seq ++ leBytes 1 kind ++ leBytes 1 target ++ leBytes 1 m ++ leBytes 1 count
    let b1 := leBytes 1 (hopByte d hops false)
    let s1 := s.forward k hops [lane] (leBytes 1 0xD2 ++ b1 ++ mid ++ [0] ++ data ++ leBytes 1 0xE1 ++ b1 ++ leBytes 1 seq ++ [0] ++ leBytes 4 (crc32c (data ++ mid)))
    if s1.board.seen.contains (d, seq) then s1
    else
      let mine := s1.board.seen.filter fun e => e.1 == d
      let rest := s1.board.seen.filter fun e => e.1 != d
      let s2 := { s1 with board := { s1.board with seen := (d, seq) :: mine.take 63 ++ rest } }
      if target = 0xFF ∨ target = s2.own then act s2 else s2

/-! ## The barrier (R443, R444) -/

/-- The master opens a barrier for its next page. -/
def State.barrierStart (s : State) : State :=
  if !s.master || s.board.barrier.isSome || s.board.reopen.isSome then s
  else
    match s.nextRelease with
    | none => s
    | some p =>
      if !s.releasable p then s
      else
        let st := (s.startOf p.num).1
        let s1 := s.smsg 2 0xFF 0 (leBytes 4 p.id ++ leBytes 4 p.len ++ leBytes 4 p.reps ++ leBytes 4 p.gap ++ leBytes 8 st)
        { s1 with board := { s1.board with barrier := some ⟨p.id, p.len, p.reps, p.gap, st, p.num, 2 ^ s.own, s.clk.now⟩ } }.set 0x8830 2 1

/-- The master closes a barrier that failed (R443): E068, a new one after 1 ms. -/
def State.barrierFail (s : State) (b : Barrier) (cause dev : Nat) : State :=
  let s1 := { s with board := { s.board with barrier := none, reopen := some (s.clk.now + 1000000) } }
  ((s1.set 0x8830 2 0).bump 0x8830 3).raiseAt 68 2 (b.key + cause * 2 ^ 32 + dev * 2 ^ 40) 13 6 b.page 0

/-- The master closes a barrier that holds every yes (R443): it releases its page if the conditions of R23 hold at this moment. A release hold delays it (R98); a page that is no longer the next one or no longer VERIFIED, a start that no longer leads by the margin, or the safe state fails the barrier with the cause a follower would give. -/
def State.barrierClose (s : State) : State :=
  match s.board.barrier with
  | none => s
  | some b =>
    if !s.master || b.yes % 2 ^ s.members != 2 ^ s.members - 1 then s
    else if s.safe then s.barrierFail b 4 s.own
    else if !s.nextRelease.any (fun p => p.num == b.page && p.st == .verified) then s.barrierFail b 1 s.own
    else if b.start < s.row + s.margin then s.barrierFail b 3 s.own
    else if s.held then s
    else
      let s1 := s.smsg 4 0xFF 0 (leBytes 4 b.key ++ leBytes 8 b.start)
      ({ s1 with board := { s1.board with barrier := none } }.set 0x8830 2 0).releasePage b.page b.start

/-- VOTE at the master (R443). -/
def State.voteIn (s : State) (d : Nat) (body : Bytes) : State :=
  match s.board.barrier with
  | none => s
  | some b =>
    if !s.master || leAt body 0 4 != b.key then s
    else if leAt body 4 1 ≠ 1 then s.barrierFail b (leAt body 5 1) d
    else { s with board := { s.board with barrier := some { b with yes := setBit b.yes d true } } }.barrierClose

/-- BARRIER_TIMEOUT (R443). -/
def State.barrierTimeout (s : State) : State :=
  match s.board.barrier with
  | some b => if b.opened + s.reg 0x8830 1 * 1000000 ≤ s.clk.now then s.barrierFail b 5 0 else s
  | none => s

/-- BARRIER_REOPEN_DELAY (R443): 1 ms later the next barrier may open. -/
def State.barrierReopen (s : State) : State :=
  match s.board.reopen with
  | some t => if t ≤ s.clk.now then { s with board := { s.board with reopen := none } }.barrierStart else s
  | none => s

/-- Sends a vote (R442). -/
def State.castVote (s : State) (b : Barrier) (cause : Nat) : State :=
  let s1 := s.smsg 3 (s.reg 0x8800 4) 0 (leBytes 4 b.key ++ [if cause = 0 then 1 else 2] ++ leBytes 1 cause ++ zeros 2)
  { s1 with board := { s1.board with vote := if cause = 0 then some (b, true) else none } }.set 0x8830 2 0

/-- A follower decides on the open barrier (R443): it waits while its page with the key is not VERIFIED, or a release hold stands (R98). -/
def State.decideVote (s : State) (b : Barrier) : State :=
  match s.nextRelease with
  | none => s.castVote b 1
  | some p =>
    if p.id ≠ b.key then s.castVote b 1
    else if p.st ≠ .verified ∨ s.held = true then { s with board := { s.board with vote := some ({ b with page := p.num }, false) } }.set 0x8830 2 2
    else
      let b1 := { b with page := p.num }
      if p.len ≠ b.len ∨ p.reps ≠ b.reps ∨ p.gap ≠ b.gap then s.castVote b1 2
      else if b.start < s.row + s.margin then s.castVote b1 3
      else if s.safe then s.castVote b1 4
      else s.castVote b1 0

/-- BARRIER_OPEN at a follower. -/
def State.barrierOpen (s : State) (d : Nat) (body : Bytes) : State :=
  if s.follower && d == s.reg 0x8800 4 then
    s.decideVote ⟨leAt body 0 4, leAt body 4 4, leAt body 8 4, leAt body 12 4, leAt body 16 8, 0, 0, s.clk.now⟩
  else s

/-- A follower's waiting vote is cast in the step in which its page becomes VERIFIED and unheld, or can no longer come (R443). -/
def State.waitingVote (s : State) : State :=
  match s.board.vote with
  | some (b, false) =>
    match s.nextRelease with
    | some p => if p.id = b.key ∧ (p.st ≠ .verified ∨ s.held = true) then s else s.decideVote b
    | none => s.decideVote b
  | _ => s

/-- RELEASE at a follower (R443, R444): a page that is still VERIFIED is released, whatever has changed on this member since its yes vote (log entry 76). -/
def State.releaseIn (s : State) (d : Nat) (body : Bytes) : State :=
  if !s.follower || d != s.reg 0x8800 4 then s
  else
    let key := leAt body 0 4
    let s1 := { s with board := { s.board with vote := none } }
    if s1.safe then s1
    else
      match s1.queued.find? fun p => p.id == key && p.st == .verified with
      | some p => s1.releasePage p.num (leAt body 4 8)
      | none => s1.smsg 6 0xFF 0 (leBytes 4 key ++ leBytes 4 0xFFFFFFFF ++ leBytes 2 13)

/-! ## Page messages (R445, R446) -/

/-- FROG from the master (R445): the whole page, or the instance it makes the last. -/
def State.frogIn (s : State) (d : Nat) (body : Bytes) : State :=
  if !s.follower || d != s.reg 0x8800 4 then s
  else
    match s.jobs.pages.find? fun p => p.id == leAt body 0 4 && p.st.active with
    | none => s
    | some p =>
      if leAt body 4 4 = 0xFFFFFFFF then (s.frogPage p.num 2 true).1 else s.endAfter p.num (leAt body 4 4 + 1)

/-- SPOIL from a member (R444, R446). -/
def State.spoilIn (s : State) (body : Bytes) : State :=
  let idx := leAt body 4 4
  match s.jobs.pages.find? fun p => p.id == leAt body 0 4 && p.st.active with
  | none => s
  | some p =>
    if idx = 0xFFFFFFFF then
      (s.updPage p.num fun q => { q with peer := 0xFFFFFFFF :: q.peer }).spoilCurrent p.num 13
    else if p.live.any fun i => i.idx == idx then
      s.spoil p.num idx 13 (((upTo 64).foldl (fun m mk => max m (sget 0 p.fired mk)) 0 - 1) % p.len) 0xFF
    else if p.cast ≤ idx then s.updPage p.num fun q => { q with peer := idx :: q.peer }
    else s

/-! ## USER (R450, R451) -/

/-- Descriptors of a USER message: Param0, Param1, Param2. -/
def userParams (origin n : Nat) (b : Bytes) : List (Nat × Nat × Nat) :=
  let b := fit 64 (b.take n)
  (leAt b 0 8, leAt b 8 8, n + origin * 256) ::
    (upTo (ceilDiv (n - 16) 20)).map fun i => (leAt b (16 + 20 * i) 8, leAt b (24 + 20 * i) 8, leAt b (32 + 20 * i) 4)

/-- USER arrives (R451): all its descriptors or none. -/
def State.userIn (s : State) (d count : Nat) (body : Bytes) : State :=
  let q := 200 + d
  let n := max 1 (min 64 count)
  let ps := userParams d n body
  if Ring.active s.ev q && decide (ps.length ≤ Ring.size s.ev q - Ring.held s.ev q) then
    (upTo ps.length).foldl (fun s i =>
      let (p0, p1, p2) := ps.getD i (0, 0, 0)
      { s with ev := (s.ev.ringPut s.clk.now s.stampEpoch q fun seq => descriptor 0x50 (if i + 1 < ps.length then 2 else 0) q seq p0 p1 p2).1 }) s
  else s.bump 0x8840 4

/-- USER_SEND (R450): refused on a board of one. -/
def State.userSend (s : State) (n : Nat) : State × Bool :=
  if s.members ≤ 1 then (s, false)
  else (s.smsg 8 (s.reg 0x8840 1) n (s.bytes 0x8840 2 0 n), true)

end Sys2Proof.Machine
end

