-- ==== Sys2Proof/Machine/Flash.lean ====
section
/-! DEFINITION. The external flash (R410, R411): slots, the boot directory; checks of an image (R412) and of a set (R420). -/

namespace Sys2Proof.Machine

/-! ## Flash bytes (R410) -/

/-- `n` bytes of flash; a byte never written reads 0xFF, as erased flash does (log entry 49). -/
def State.flashRead (s : State) (a n : Nat) : Bytes :=
  let part := spart a (a + n) s.flash
  (upTo n).map fun i => (sfind (a + i) part).getD 0xFF

/-- Writes bytes of flash. -/
def State.flashWrite (s : State) (a : Nat) (bs : Bytes) : State :=
  { s with flash := (s.flash.filter fun e => decide (e.1 < a)) ++ ((numbered a bs).filter fun e => decide (e.2 ≠ 0xFF))
      ++ s.flash.filter fun e => decide (a + bs.length ≤ e.1) }

/-- Flash address of slot A of a component. -/
def slotBase (c : Nat) : Nat := match c with | 1 => 0x01000000 | 2 => 0x02800000 | 3 => 0x03000000 | _ => 0x03200000
/-- Size of a slot of a component. -/
def slotSize (c : Nat) : Nat := match c with | 1 => 0x00C00000 | 2 => 0x00400000 | 3 => 0x00100000 | _ => 0x00200000
/-- Flash address of slot 0 A or 1 B of a component. -/
def slotAddr (c slot : Nat) : Nat := slotBase c + slot * slotSize c

/-! ## The boot directory (R411) -/

/-- Boot directory copy i. -/
def State.dirCopy (s : State) (i : Nat) : Bytes := s.flashRead (i * 0x10000) 404
/-- A copy with its magic and a correct CRC. -/
def dirGood (b : Bytes) : Bool := leAt b 0 4 == 0x5A594244 && leAt b 400 4 == crc32c (b.take 400)

/-- The copy in force: its number and bytes; with none good, an empty directory (log entry 49). -/
def State.dirNow (s : State) : Nat × Bytes :=
  let a := s.dirCopy 0
  let b := s.dirCopy 1
  if dirGood a then (if dirGood b && before (leAt a 4 4) (leAt b 4 4) then (1, b) else (0, a))
  else if dirGood b then (1, b)
  else (1, zeros 404)

/-- The directory in force. -/
def State.dir (s : State) : Bytes := s.dirNow.2

/-- Writes a directory into the other copy, with the next sequence and its CRC. -/
def State.dirWrite (s : State) (b : Bytes) : State :=
  let (i, old) := s.dirNow
  let b1 := leBytes 4 0x5A594244 ++ leBytes 4 (wrapAdd 32 (leAt old 4 4) 1) ++ fit 392 (b.drop 8)
  s.flashWrite ((1 - i) * 0x10000) (b1 ++ leBytes 4 (crc32c b1))

/-- Offset of the entry of component c. -/
def entryOff (c : Nat) : Nat := 16 + 96 * (c - 1)
/-- Active slot of a component. -/
def State.activeSlot (s : State) (c : Nat) : Nat := leAt s.dir (entryOff c + 1) 1 % 2
/-- State of a slot: 0 EMPTY, 1 VALID, 2 TRIAL, 3 TRIAL_STARTED, 4 CONFIRMED, 5 REJECTED. -/
def State.slotState (s : State) (c slot : Nat) : Nat := leAt s.dir (entryOff c + 2 + slot) 1
/-- VALID or CONFIRMED. -/
def State.slotSound (s : State) (c slot : Nat) : Bool := s.slotState c slot == 1 || s.slotState c slot == 4

/-- Changes fields of a component's entry, in one write: (offset in the entry, bytes). -/
def State.dirEdit (s : State) (c : Nat) (l : List (Nat × Bytes)) : State :=
  s.dirWrite (l.foldl (fun b e => patch b (entryOff c + e.1) e.2) (patch s.dir (entryOff c) (leBytes 1 c)))

/-- Puts a slot into a state, with the reason of a rejection. -/
def State.slotTo (s : State) (c slot st reason : Nat) : State :=
  s.dirEdit c [(2 + slot, leBytes 1 st), (20 + slot, leBytes 1 (if st = 5 then reason else 0))]

/-! ## Images and containers (R412, R416, R420) -/

/-- Fused key hash, 0x8000:01. -/
def keyHash : Bytes := (upTo 32).map Config.keyHash

/-- The key of a header is the fused one. -/
def headerKey (h : Bytes) : Bool := sha256 (slice h 128 64) == keyHash
/-- The signature of a header is valid for its key (R416). -/
def headerSigned (h : Bytes) : Bool :=
  P256.verify (beVal (slice h 128 32)) (beVal (slice h 160 32)) (beVal (slice h 192 32)) (beVal (slice h 224 32)) (sha256 (h.take 192))

/-- Header and signature held by a slot. -/
def State.slotHeader (s : State) (c slot : Nat) : Bytes := s.flashRead (slotAddr c slot) 256
/-- Image held by a slot, by the length in its header. -/
def State.slotImage (s : State) (c slot : Nat) : Bytes :=
  s.flashRead (slotAddr c slot + 256) (min (leAt (s.slotHeader c slot) 80 4) (slotSize c - 256))

/-- The image of a slot verifies (R412). -/
def State.slotVerifies (s : State) (c slot : Nat) : Bool :=
  let h := s.slotHeader c slot
  headerKey h && headerSigned h && sha256 (s.slotImage c slot) == slice h 48 32

/-- Slot of the running image of a component: the SC's is the one booted (0x8000:07). -/
def State.runSlot (s : State) (c : Nat) : Nat := if c = 1 then s.reg 0x8000 7 else s.activeSlot c
/-- Header of the running image of a component (R420). -/
def State.running0 (s : State) (c : Nat) : Bytes := s.slotHeader c (s.runSlot c)
/-- An SC image and an image of component k accept each other (R420), by their headers. -/
def pairCompatible (sc h : Bytes) (k : Nat) : Bool :=
  decide (leAt h 96 4 ≤ leAt sc 8 4) && decide (leAt sc (96 + 8 * (k - 2)) 4 ≤ leAt h 8 4) && decide (leAt h 8 4 ≤ leAt sc (100 + 8 * (k - 2)) 4)

/-- The set is compatible (R420) with a header in place of the running one of component c; a component that does not run binds nothing. -/
def State.compatibleWith (s : State) (c : Nat) (h : Bytes) : Bool :=
  let hdr := fun k => if k = c then h else s.running0 k
  [2, 3, 4].all fun k => (k != c && s.reg 0x8001 k == 0) || pairCompatible (hdr 1) (hdr k) k

end Sys2Proof.Machine
end

