-- ==== Sys2Proof/Machine/Domains.lean ====
section
/-! DEFINITION. What the DOMAIN objects hold: those that the device computes from its state, those that stand in other memories (staging, tables, ring contents, test windows), and every other one in its bank. -/

namespace Sys2Proof.Machine

/-! ## Checker test window (R349, R350) -/

/-- Window size of the array selected (R349, R353). -/
def State.windowSize (s : State) : Nat :=
  let a := s.reg 0xF000 1
  if a ≤ 0x000F then 524288
  else if 0x0010 ≤ a ∧ a ≤ 0x0017 then 12582912
  else match a with
    | 0x0018 => 16777216
    | 0x0019 => 5505024
    | 0x001A => 8388608
    | 0x001B => 25165824
    | 0x0020 => 134217728
    | _ => 0

/-- Key of a window byte for the values that the spec leaves open. -/
def windowKey (s : State) (off : Nat) : Nat := 2 ^ 40 + s.reg 0xF000 1 * 2 ^ 28 + off

/-- Address of a window byte of a page-store chunk. -/
def State.chunkByte (s : State) (off : Nat) : Nat := doseBase + s.reg 0xF000 2 * 134217728 + off

/-- A window byte, and whether its parity is right. What the array held before, where nothing was written through the window, is a free value (R352 says only that it is there). -/
def State.windowByte (s : State) (off : Nat) : Byte × Bool :=
  if s.reg 0xF000 1 = 0x0020 then (s.memByte (s.chunkByte off), !s.memBadAt (s.chunkByte off))
  else
    match sfind off s.integ.window with
    | some v => (BitVec.ofNat 8 v, decide (256 ≤ v))
    | none => (Config.unwrittenByte (windowKey s off), !Config.unwrittenBad (windowKey s off))

/-- Puts a window byte and its parity. -/
def State.windowPut (s : State) (off : Nat) (v : Byte) (good : Bool) : State :=
  if s.reg 0xF000 1 = 0x0020 then
    { s with mem := sinsert (s.chunkByte off) v s.mem, memBad := sset false s.memBad (s.chunkByte off) (!good) }
  else { s with integ := { s.integ with window := sinsert off (v.toNat + if good then 256 else 0) s.integ.window } }

/-- The parity bit that is right for a byte: odd parity, 1 with 0x00 (R339; the fill example of chapter 13). -/
def parityOf (b : Byte) : Bool := ((upTo 8).foldl (fun (x : Bool) i => x != bit b.toNat i) true)

/-- The stored parity bit of a window byte. -/
def State.windowParity (s : State) (off : Nat) : Bool := let (v, good) := s.windowByte off; parityOf v == good

/-- Window data: bytes change, stored parity bits stay (R350). -/
def State.windowWrite (s : State) (off : Nat) (bs : Bytes) : State :=
  (upTo bs.length).foldl (fun s i => let v := bs.getD i 0; s.windowPut (off + i) v (parityOf v == s.windowParity (off + i))) s

/-- Window parity: bit (o & 7) of byte o >> 3 is the parity bit of window byte o; data stay (R350). -/
def State.parityWrite (s : State) (off : Nat) (bs : Bytes) : State :=
  (upTo (8 * bs.length)).foldl (fun s i =>
    let o := 8 * off + i
    let v := (s.windowByte o).1
    s.windowPut o v (parityOf v == bit (bs.getD (i / 8) 0).toNat (i % 8))) s

/-- A read of window data checks every byte (R350, R351): test-origin errors are counted, the first of this read is shown in 0xF000:07. -/
def State.windowCheck (s : State) (off n : Nat) : State :=
  if s.reg 0xF000 4 = 0 then s
  else
    let bad := (upTo n).filter fun i => !(s.windowByte (off + i)).2
    match bad with
    | [] => s.set 0xF000 7 0xFFFFFFFF
    | i :: _ => (s.set 0xF000 6 (satAdd 32 (s.reg 0xF000 6) bad.length)).set 0xF000 7 (off + i)

/-! ## Contents the device computes -/

/-- Aligned time now (R297). -/
def State.aligned (s : State) : Int := s.clk.now + s.i64 0x1000 3
/-- Forerunner seconds (R299). -/
def State.foreSec (s : State) : Nat := (s.aligned / 1000000000 % (2 ^ 48 : Nat)).toNat
/-- Forerunner nanoseconds. -/
def State.foreNs (s : State) : Nat := (s.aligned % 1000000000).toNat

/-- Queue contents 0x4880:02 (R100). -/
def State.queueBytes (s : State) : Bytes :=
  s.queued.flatMap fun p => leBytes 4 p.num ++ leBytes 4 p.id ++ leBytes 1 p.sess ++ leBytes 1 p.st.code ++ zeros 2 ++ leBytes 4 (if p.st.active then p.remaining else p.reps)

/-- Peer of a session, 0x5030 + s:03. -/
def State.sessPeer (s : State) (n : Nat) : Bytes :=
  match s.sess n with
  | none => zeros 20
  | some x => peerBytes x.peer.peer ++ leBytes 2 x.peer.peer.port.toNat ++ leBytes 1 x.peer.he ++ [0]

/-- Causes of IRQp, 0x7B00 + p (R64). -/
def State.irqBytes (s : State) (p : Nat) : Bytes :=
  (upTo 32).map fun k => BitVec.ofNat 8 ((upTo 8).foldl (fun m i => if s.ev.irqCause p (8 * k + i) then m + 2 ^ i else m) 0)

/-- Pending jets by map byte (R190). -/
def State.pendingByte (s : State) (k : Nat) : Byte :=
  BitVec.ofNat 8 (s.render.pending.foldl (fun m j => if j / 8 = k then setBit m (j % 8) true else m) 0)

/-- Ring contents from a byte offset: slots that nothing wrote read as free values (R71: undefined). -/
def State.ringBytes (s : State) (q off n : Nat) : Bytes :=
  (upTo n).map fun i =>
    let o := off + i
    let sl := sget Slot.never s.ev.slots (q * 2 ^ 14 + o / 32)
    if bit sl.good (o % 32) then sl.bytes.getD (o % 32) 0 else Config.unwrittenByte (2 ^ 50 + q * 2 ^ 20 + o)

/-- Bytes of the ring contents that read with a parity error (R342): of those that nothing good was written to, which ones is not fixed (free). -/
def State.ringBad (s : State) (q off n : Nat) : List Nat :=
  (upTo n).filter fun i =>
    let o := off + i
    !bit (sget Slot.never s.ev.slots (q * 2 ^ 14 + o / 32)).good (o % 32) && Config.unwrittenBad (2 ^ 50 + q * 2 ^ 20 + o)

/-- Writes ring contents (R69). -/
def State.ringPatch (s : State) (q off : Nat) (bs : Bytes) : State :=
  (upTo bs.length).foldl (fun s i =>
    let o := off + i
    { s with ev := { s.ev with slots := supd Slot.never s.ev.slots (q * 2 ^ 14 + o / 32) fun sl =>
        ⟨patch (fit 32 sl.bytes) (o % 32) [bs.getD i 0], setBit sl.good (o % 32) true⟩ } }) s

/-- Table of a build or active table object: tone curves, gain and offset, jet map, darning. -/
def tableOf (idx : Nat) : Nat := if idx ≤ 0x4014 then idx - 0x4011 else idx - 0x4019

/-- Size of a DOMAIN object; that of the ring contents and of the test window follows their settings. -/
def State.domSize (s : State) (idx sub : Nat) : Nat :=
  if 0x7C00 ≤ idx ∧ idx ≤ 0x7CFF ∧ sub = 8 then (if Ring.active s.ev (idx - 0x7C00) then 32 * Ring.size s.ev (idx - 0x7C00) else 0)
  else if idx = 0xF001 then s.windowSize
  else if idx = 0xF002 then s.windowSize / 8
  else ((lookup idx sub).map (·.size)).getD 0

/-- A byte string read from an offset; what lies past it is zero. -/
def part (b : Bytes) (off n : Nat) : Bytes := fit n (slice b off n)

/-- Bytes of a DOMAIN object. -/
def State.domRead (s : State) (idx sub off n : Nat) : Bytes :=
  if idx = 0x0032 then part s.backupBytes off n
  else if idx = 0x1002 then part (leBytes 6 s.foreSec ++ leBytes 4 s.foreNs ++ leBytes 2 s.epoch) off n
  else if 0x4011 ≤ idx ∧ idx ≤ 0x4014 then (upTo n).map fun i => s.render.build.byte (genAddr (tableOf idx) (off + i))
  else if 0x4019 ≤ idx ∧ idx ≤ 0x401C then (upTo n).map fun i => s.render.active.byte (genAddr (tableOf idx) (off + i))
  else if idx = 0x4020 ∧ sub = 2 then part ((s.render.pending.take 256).flatMap (leBytes 4) ++ List.replicate (4 * (256 - s.render.pending.length)) 0xFF) off n
  else if idx = 0x4020 ∧ sub = 9 then (upTo n).map fun i => s.pendingByte (off + i)
  else if idx = 0x4880 ∧ sub = 2 then part s.queueBytes off n
  else if 0x5030 ≤ idx ∧ idx ≤ 0x506F ∧ sub = 3 then part (s.sessPeer (idx - 0x5030)) off n
  else if (idx = 0x7801 ∨ idx = 0x7802) ∧ s.ev.fstat 10 = true then zeros n
  else if 0x7B00 ≤ idx ∧ idx ≤ 0x7B03 then part (s.irqBytes (idx - 0x7B00)) off n
  else if 0x7C00 ≤ idx ∧ idx ≤ 0x7CFF then s.ringBytes (idx - 0x7C00) off n
  else if idx = 0x8000 ∧ sub = 1 then part keyHash off n
  else if idx = 0x8002 then part s.dir off n
  else if idx = 0x8020 then (upTo n).map fun i => (sfind (off + i) s.staging).getD (Config.unwrittenByte (2 ^ 51 + off + i))
  else if idx = 0xF001 then (upTo n).map fun i => (s.windowByte (off + i)).1
  else if idx = 0xF002 then
    (upTo n).map fun i => BitVec.ofNat 8 ((upTo 8).foldl (fun m k => if s.windowParity (8 * (off + i) + k) then m + 2 ^ k else m) 0)
  else s.bytes idx sub off n

/-- A read of a DOMAIN object finds a byte with a parity error: the test window (R351) and the ring contents (R342) hold bytes that nothing good was written to. -/
def State.domBad (s : State) (idx off n : Nat) : Bool :=
  if 0x7C00 ≤ idx ∧ idx ≤ 0x7CFF then !(s.ringBad (idx - 0x7C00) off n).isEmpty
  else idx == 0xF001 && (upTo n).any fun i => !(s.windowByte (off + i)).2

/-- What the check of a FOP read counts (R342, R347, R351): errors in the test window, and in the ring memory, which no source restores (M7). -/
def State.readCheck (s : State) (idx off n : Nat) : State :=
  if idx = 0xF001 then s.windowCheck off n
  else if 0x7C00 ≤ idx ∧ idx ≤ 0x7CFF then (s.ringBad (idx - 0x7C00) off n).foldl (fun s _ => s.parityIn 7 0xFFFF 2 5 0 4194304 0) s
  else s

/-- Bits of the byte at an offset of a DOMAIN object that are not reserved (R11, R59, R184, R194, R232, R239). -/
def keptBits (idx off : Nat) : Nat :=
  match idx with
  | 0x1811 => if off % 20 < 18 then 255 else 0
  | 0x2861 => if off < 384 ∧ (off % 48 = 6 ∨ off % 48 = 7 ∨ 40 ≤ off % 48) then 0 else 255
  | 0x2871 => if off % 8 < 5 then 255 else 0
  | 0x4013 => [255, 255, 0x1F, 0x03, 255, 0x0F, 0xF3, 0x0F].getD (off % 8) 255
  | 0x4038 => if off % 2 = 1 then 0x0F else 255
  | _ => 255

/-- Bytes without the reserved bits of their places: those are ignored on write and read as zero (R11). -/
def keptBytes (idx off : Nat) (bs : Bytes) : Bytes := (upTo bs.length).map fun i => bs.getD i 0 &&& BitVec.ofNat 8 (keptBits idx (off + i))

/-- Writes bytes of a DOMAIN object, with what the write does beside. -/
def State.domWrite (s : State) (idx sub off : Nat) (bytes : Bytes) : State :=
  let bs := keptBytes idx off bytes
  if 0x4011 ≤ idx ∧ idx ≤ 0x4014 then
    { s with render := { s.render with build := (upTo bs.length).foldl (fun g i => g.setByte (genAddr (tableOf idx) (off + i)) (bs.getD i 0)) s.render.build } }
  else if idx = 0x4038 then
    let s1 := s.setBytes idx sub off bs
    { s1 with render := { s1.render with badScreen := s1.render.badScreen.filter fun e => decide (2 * e + 1 < off) || decide (off + bs.length ≤ 2 * e) } }
  else if 0x7C00 ≤ idx ∧ idx ≤ 0x7CFF then s.ringPatch (idx - 0x7C00) off bs
  else if idx = 0x8020 then { s with staging := spatch off bs s.staging }
  else if idx = 0xF001 then s.windowWrite off bs
  else if idx = 0xF002 then s.parityWrite off bs
  else if 0x5010 ≤ idx ∧ idx ≤ 0x501F ∧ sub = 1 then (s.setBytes idx sub off bs).set idx 6 1
  else s.setBytes idx sub off bs

/-! ## Idle conditions of DOMAIN objects (R10, R49 step 11) -/

/-- Page renders use the lines of pages RENDERING to PRINTING (R194). -/
def State.pagesBeyond (s : State) : Bool := s.jobs.pages.any fun p => match p.st with
  | .rendering | .rendered | .verified | .released | .printing => true
  | _ => false

/-- A DOMAIN object may be written now. -/
def State.domIdle (s : State) (idx : Nat) : Bool :=
  if 0x4011 ≤ idx ∧ idx ≤ 0x4014 then s.render.buildSt == .building && !s.deviceOwns
  else if idx = 0x4038 then !s.pagesBeyond
  else if idx = 0x2871 ∨ idx = 0x2873 then s.seqState == 0
  else if idx = 0x8020 then s.reg 0x8010 4 == 0
  else if idx = 0xF001 ∨ idx = 0xF002 then s.reg 0xF000 4 == 2
  else true

/-! ## DOMAIN contents (R59, R239) -/

/-- Contents that a DOMAIN object takes (step 10): allow-list entries in force name a family and a prefix within it; feed-table directions are 0 or 1; alignment offsets lie within ±32,767. -/
def contentsFit (idx : Nat) (b : Bytes) : Bool :=
  match idx with
  | 0x1811 => (upTo 8).all fun i =>
      let pre := leAt b (20 * i + 16) 1
      let fam := leAt b (20 * i + 17) 1
      pre == 0 || fam == 4 && decide (pre ≤ 32) || fam == 6 && decide (pre ≤ 128)
  | 0x2871 => (upTo 64).all fun i => decide (leAt b (8 * i + 4) 1 ≤ 1)
  | 0x2872 => (upTo 16).all fun i => leAt b (2 * i) 2 != 0x8000
  | _ => true

/-- The contents that a segmented read of the object starts from again, after a write of its own client (R56). -/
def State.rewatch (s : State) (idx sub : Nat) : State :=
  let mine := fun (x : Xfer) => x.key == obj idx sub && !x.isWrite
  { s with fop := { s.fop with xfers := updWhere s.fop.xfers mine fun x => { x with seen := s.domRead idx sub 0 x.size } } }

/-- Segmented reads whose object stands otherwise than before: its function has modified it (R56). -/
def State.watchReads (s : State) : State :=
  let other := fun (x : Xfer) => !x.isWrite && !x.changed && s.domRead (x.key / 256) (x.key % 256) 0 x.size != x.seen
  { s with fop := { s.fop with xfers := updWhere s.fop.xfers other fun x => { x with changed := true } } }

/-- The access code of an object; that of the ring objects follows the roles (R66, R72). -/
def accessOf (idx sub : Nat) (o : Obj) : Acc :=
  if 0x7C00 ≤ idx ∧ idx ≤ 0x7CFF then
    let r := roles (idx - 0x7C00)
    if sub = 2 ∨ sub = 8 then (if bit r 0 then .ro else .rw) else if sub = 3 then (if bit r 1 then .ro else .rw) else o.acc
  else o.acc

end Sys2Proof.Machine
end

