-- ==== Sys2Proof/Machine/Dma.lean ====
section
/-! DEFINITION. DMA channels (R358 to R364) and the checker test windows (R349 to R352). -/

namespace Sys2Proof.Machine

/-! ## Channels (R364, R365) -/

/-- Base index C of channel n. -/
def dmaIdx (n : Nat) : Nat := 0x7000 + n * 0x20
/-- State of channel n: 0 IDLE, 1 RUNNING, 2 HALTED, 3 CLAIMED. -/
def State.dmaState (s : State) (n : Nat) : Nat := s.reg (dmaIdx n) 6
/-- The transfer channel n runs. -/
def State.dmaCur (s : State) (n : Nat) : Option DmaCur := sget none s.integ.dma n
/-- Sets the transfer of channel n. -/
def State.setCur (s : State) (n : Nat) (c : Option DmaCur) : State := { s with integ := { s.integ with dma := sset none s.integ.dma n c } }
/-- Element size of channel n in bytes. -/
def State.dmaElem (s : State) (n : Nat) : Nat := [1, 2, 4, 8, 64].getD (s.reg (dmaIdx n) 1) 4

namespace Dm
/-- Status codes (R361). -/
def done : Nat := 0x0001
/-- POISON set. -/
def skipped : Nat := 0x0002
/-- Stop command. -/
def stopped : Nat := 0x0003
/-- A rule on element size, granule or length. -/
def align : Nat := 0x0010
/-- Length 0. -/
def length : Nat := 0x0011
/-- Address not mapped. -/
def unmapped : Nat := 0x0012
/-- Access refused by R359. -/
def access : Nat := 0x0013
/-- RWI object busy. -/
def notIdle : Nat := 0x0014
/-- Segmented transfer or CRC unit owned. -/
def busy : Nat := 0x0015
/-- Uncorrectable parity error on a source read. -/
def parity : Nat := 0x0016
/-- Type of the descriptor (R360). -/
def type : Nat := 0x0017
end Dm

/-- Ends the descriptor at CI of channel n with a status: written in place, CI advanced, counted, its CRC unit freed (R357, R360, R365). -/
def State.dmaFinish (s : State) (n status : Nat) : State :=
  let q := 128 + n
  let ci := s.ev.bank.get (qObj q 3)
  let s1 := { s with ev := ({ s.ev with slots := supd Slot.never s.ev.slots (Ring.slotKey s.ev q ci) fun sl => { sl with bytes := patch (fit 32 sl.bytes) 28 (leBytes 2 status) } }).ringPop q }
  let s2 := match (s.dmaCur n).bind (·.unit) with | some u => s1.set (crcIdx u) 0x10 0 | none => s1
  (s2.setCur n none).count (dmaIdx n) 0x0E 64 1

/-- An error halts channel n (R361): latched cause, address and direction, E082 + 3n. -/
def State.dmaHalt (s : State) (n status addr dir : Nat) : State :=
  let c := dmaIdx n
  ((((((s.dmaFinish n status).set c 6 2).set c 0x0A status).set c 0x0B addr).set c 0x0C dir).raiseAt (82 + 3 * n) 2
    (status + dir * 2 ^ 16 + addr % 2 ^ 47 * 2 ^ 17) 4 (1 + dir) 0 addr)

/-- Outcome of a channel command in :08. -/
def State.dmaResult (s : State) (n r : Nat) : State := s.set (dmaIdx n) 8 r

/-- DMA_START (R364). -/
def State.dmaStart (s : State) (n : Nat) : State × Bool :=
  if s.dmaState n = 3 then (s.dmaResult n 2, false)
  else if s.dmaState n = 0 && Ring.active s.ev (128 + n) then ((s.set (dmaIdx n) 6 1).dmaResult n 0, true)
  else (s.dmaResult n 1, false)

/-- DMA_STOP (R364): a descriptor in progress ends STOPPED. -/
def State.dmaStop (s : State) (n : Nat) : State × Bool :=
  match s.dmaState n with
  | 1 =>
    let s1 := if (s.dmaCur n).isSome then s.dmaFinish n Dm.stopped else s
    ((s1.set (dmaIdx n) 6 0).dmaResult n 0, true)
  | 2 => ((s.set (dmaIdx n) 6 0).dmaResult n 0, true)
  | 3 => (s.dmaResult n 2, false)
  | _ => (s.dmaResult n 1, false)

/-- DMA_RESUME (R364). -/
def State.dmaResume (s : State) (n : Nat) : State × Bool :=
  match s.dmaState n with
  | 2 => ((s.set (dmaIdx n) 6 1).dmaResult n 0, true)
  | 3 => (s.dmaResult n 2, false)
  | _ => (s.dmaResult n 1, false)

/-- Channels the system controller has work for: the migration of a pair drain, an install (R364, R418). -/
def State.claimsWanted (s : State) : Nat :=
  ((upTo 4).countP fun p => s.unit (pairUnit p) == 1) + (if s.reg 0x8010 4 = 3 then 1 else 0)
/-- Channels it holds. -/
def State.claimsHeld (s : State) : Nat := (upTo 32).countP fun n => s.dmaState n == 3

/-- DMA_CLAIM (R364): the highest-numbered IDLE channel. -/
def State.dmaClaim (s : State) : State :=
  if s.claimsWanted ≤ s.claimsHeld then s
  else
    match (upTo 32).reverse.find? fun n => s.dmaState n == 0 with
    | some n => (s.set (dmaIdx n) 6 3).set (dmaIdx n) 7 1
    | none => s

/-- DMA_RELEASE (R364): the work is done. -/
def State.dmaRelease (s : State) (n : Nat) : State :=
  if s.dmaState n = 3 ∧ s.claimsWanted < s.claimsHeld then (s.set (dmaIdx n) 6 0).set (dmaIdx n) 7 0 else s

/-! ## Endpoints (R358, R359) -/

/-- An endpoint: DRAM at an address, an object byte, nothing. -/
inductive End
  | dram (a : Nat)
  | object (idx sub off : Nat)
  | unmapped
  deriving DecidableEq, Repr

/-- The endpoint of a DMA address. -/
def endOf (a : Nat) : End :=
  if a < 2 ^ 40 then .dram a
  else if 2 ^ 63 ≤ a ∧ a / 2 ^ 48 % 2 ^ 15 = 0 then .object (a / 2 ^ 32 % 2 ^ 16) (a / 2 ^ 24 % 2 ^ 8) (a % 2 ^ 24)
  else .unmapped

/-- CRC unit and size of a feed object (R357). -/
def feedOf (idx sub : Nat) : Option (Nat × Nat) :=
  if 0x6820 ≤ idx ∧ idx ≤ 0x6827 ∧ 0x0B ≤ sub ∧ sub ≤ 0x0E then some (idx - 0x6820, 2 ^ (sub - 0x0B)) else none

/-- The rules on element size, granule and length hold for an endpoint (R359). -/
def endAligned (e len : Nat) (fixed : Bool) : End → Bool
  | .dram a => decide (len % 64 = 0) && decide (a % 64 = 0) && (!fixed || e == 64)
  | .object idx sub off => match feedOf idx sub with | some (_, z) => z == e | none => decide (off % e = 0)
  | .unmapped => true

/-- DRAM a channel of yours may read: stash and page-store blocks. -/
def State.dmaReads (s : State) (a : Nat) : Bool := (s.storeChunk a).isSome || !Config.systemBlock (a / blockBytes)
/-- DRAM it may write: free chunks and free stash blocks. -/
def State.dmaWrites (s : State) (a : Nat) : Bool :=
  match s.storeChunk a with
  | some c => s.freeChunks.contains c
  | none => !Config.systemBlock (a / blockBytes) && !s.stashHolds (a / blockBytes)

/-- A segmented transfer holds an object (R55). -/
def State.locked (s : State) (key : Nat) : Bool := s.fop.xfers.any fun x => x.key == key

/-- Outcome of reading an element: its bytes, or a status. `bad`: the read finds a parity error that it cannot correct. -/
def State.endRead (s : State) (e : Nat) (bad : Bool) : End → Except Nat Bytes
  | .dram a =>
    if a + e > s.dramCapacity then .error Dm.unmapped
    else if !s.dmaReads a then .error Dm.access
    else if bad then .error Dm.parity
    else .ok (s.memRead a e)
  | .object idx sub off =>
    match lookup idx sub with
    | none => .error Dm.unmapped
    | some o =>
      if o.ty ≠ .dom ∨ accessOf idx sub o = .wo ∨ (idx = 0x8020 ∧ s.ready 6 = false) then .error Dm.access
      else if off + e > s.domSize idx sub then .error Dm.unmapped
      else if bad then .error Dm.parity
      else .ok (s.domRead idx sub off e)
  | .unmapped => .error Dm.unmapped

/-- The source of an element holds a byte that reads with a parity error. -/
def State.endBad (s : State) (e : Nat) : End → Bool
  | .dram a => s.memBadIn a e
  | .object idx _ off => s.domBad idx off e
  | .unmapped => false

/-- Counts a parity error that a channel finds in the source of an element, in the class of its storage (R342, R347), with the array and the place in it: stash, dose, trailers, ring memory, tables, screen data, or the array under test.
Which storage other objects lie in the spec does not say: there the channel halts, and no class counts. -/
def State.dmaParity (s : State) (e outcome : Nat) : End → State
  | .dram a =>
    let array := if (s.storeChunk a).any s.chunkUnderTest then 0x0020 else 0xFFFF
    if doseBase ≤ a ∧ a < doseBase + s.reg 0x4800 1 * 134217728 then s.parityIn 5 array outcome 4 a e 0
    else if (s.storeChunk a).isSome then s.parityIn 9 array outcome 4 a e 0
    else s.parityIn 1 array outcome 4 a e 0
  | .object idx _ off =>
    if 0x7C00 ≤ idx ∧ idx ≤ 0x7CFF then s.parityIn 7 0xFFFF outcome 4 0 4194304 0
    else if 0x4011 ≤ idx ∧ idx ≤ 0x4014 then s.parityIn 4 0x0019 outcome 4 off e 0
    else if 0x4019 ≤ idx ∧ idx ≤ 0x401C then s.parityIn 4 0xFFFF outcome 4 off e 0
    else if idx = 0x4038 then s.parityIn 10 0x001A outcome 4 off e 0
    else if idx = 0xF001 then s.parityIn 5 (s.reg 0xF000 1) outcome 4 off e 0
    else s
  | .unmapped => s

/-- Outcome of writing an element: the state, or a status. The allow list is written as a whole, which no element is (R59); contents that the feed table or the alignment offsets do not take are refused (R239). -/
def State.endWrite (s : State) (bs : Bytes) (fixed : Bool) : End → Except Nat State
  | .dram a =>
    if a + bs.length > s.dramCapacity then .error Dm.unmapped
    else if !s.dmaWrites a then .error Dm.access
    else .ok (s.memWrite a bs)
  | .object idx sub off =>
    match feedOf idx sub with
    | some (u, _) => if fixed then .ok (s.crcFeed u bs) else .error Dm.access
    | none =>
      match lookup idx sub with
      | none => .error Dm.unmapped
      | some o =>
        if o.ty ≠ .dom ∨ accessOf idx sub o = .ro ∨ idx = 0x1811 ∨ (idx = 0x8020 ∧ s.ready 6 = false) then .error Dm.access
        else if off + bs.length > s.domSize idx sub then .error Dm.unmapped
        else if !s.domIdle idx then .error Dm.notIdle
        else if s.locked (obj idx sub) then .error Dm.busy
        else if (idx = 0x2871 ∨ idx = 0x2872) ∧ contentsFit idx (patch (s.domRead idx sub 0 (s.domSize idx sub)) off bs) = false then .error Dm.access
        else .ok (s.domWrite idx sub off bs)
  | .unmapped => .error Dm.unmapped

/-! ## Descriptors and elements (R360 to R363) -/

/-- DMA_DESCRIPTOR: a RUNNING channel with nothing in progress takes the descriptor at CI, which reads with a parity error or not (R71). -/
def State.dmaDescriptor (s0 : State) (n : Nat) (bad : Bool) : State :=
  let s := s0.ringRead (128 + n) bad
  if s.dmaState n ≠ 1 ∨ (s.dmaCur n).isSome = true then s0
  else
    match s.ev.ringHead (128 + n) with
    | none => s
    | some (d, cause) =>
      if cause ≠ 0 then s.ringFault (128 + n) cause
      else
        let c := dmaIdx n
        let s0 := s.set c 9 0
        let src := leAt d 8 8
        let dst := leAt d 16 8
        let len := leAt d 24 4
        let e := s.dmaElem n
        let fs := s.reg c 2 == 1
        let fd := s.reg c 3 == 1
        if bit (leAt d 1 1) 0 then s0.dmaFinish n Dm.skipped
        else if leAt d 0 1 = 1 then s0.dmaFinish n Dm.done
        else if leAt d 0 1 ≠ 0x40 then s0.dmaHalt n Dm.type src 0
        else if len = 0 then s0.dmaHalt n Dm.length src 0
        else if len % e ≠ 0 ∨ endAligned e len fs (endOf src) = false then s0.dmaHalt n Dm.align src 0
        else if !endAligned e len fd (endOf dst) then s0.dmaHalt n Dm.align dst 1
        else
          let cur : DmaCur := ⟨src, dst, len, leAt d 4 4, s.ev.bank.get (qObj (128 + n) 3), 0, false, none⟩
          match endOf dst with
          | .object idx sub _ =>
            match feedOf idx sub with
            | some (u, _) =>
              if s0.crcOwned u then s0.dmaHalt n Dm.busy dst 1
              else (s0.set (crcIdx u) 0x10 (n + 1)).setCur n (some { cur with unit := some u })
            | none => s0.setCur n (some cur)
          | _ => s0.setCur n (some cur)

/-- The channel that priority and rotation serve next (R363). -/
def State.dmaServed (s : State) : Option Nat :=
  let work := (upTo 32).filter fun n => s.dmaState n == 1 && (s.dmaCur n).isSome
  let top := work.foldl (fun m n => max m (s.reg (dmaIdx n) 4)) 0
  let l := work.filter fun n => s.reg (dmaIdx n) 4 == top
  match l.find? fun n => decide (s.integ.turn ≤ n) with
  | some n => some n
  | none => l.head?

/-- DMA_ELEMENT: the channel served moves one element (R361 to R363). `read` says what the check of the source finds besides bytes known to be bad: an error restored from the class's source is only counted. -/
def State.dmaElement (s : State) (n : Nat) (read : Restored) : State :=
  if s.dmaServed ≠ some n then s
  else
    match s.dmaCur n with
    | none => s
    | some c =>
      let e := s.dmaElem n
      let s0 := { s with integ := { s.integ with turn := n + 1 } }
      let fs := s.reg (dmaIdx n) 2 == 1
      let fd := s.reg (dmaIdx n) 3 == 1
      let src := if fs then c.src else c.src + c.moved
      let dst := if fd then c.dst else c.dst + c.moved
      match s0.endRead e (read == .lost || s0.endBad e (endOf src)) (endOf src) with
      | .error st => (if st = Dm.parity then s0.dmaParity e 2 (endOf src) else s0).dmaHalt n st src 0
      | .ok bs =>
        let sr := if read = .corrected then s0.dmaParity e 1 (endOf src) else s0
        match sr.endWrite bs fd (endOf dst) with
        | .error st => sr.dmaHalt n st dst 1
        | .ok s1 =>
          let m := c.moved + e
          let half := !c.half && decide (c.len ≤ 2 * m)
          let s2 := (s1.set (dmaIdx n) 9 m).setCur n (some { c with moved := m, half := c.half || half })
          let s3 := if half then s2.raise (80 + 3 * n) 0 c.seq else s2
          if m ≥ c.len then (s3.dmaFinish n Dm.done).raise (81 + 3 * n) 0 c.seq else s3

/-- Stops every channel (R389). -/
def State.dmaStopAll (s : State) : State := (upTo 32).foldl (fun s n => if s.dmaState n = 1 ∨ s.dmaState n = 2 then (s.dmaStop n).1 else s) s

/-! ## Checker test windows (R349 to R353) -/

/-- The condition under which an array opens (R349). -/
def State.windowMayOpen (s : State) (a : Nat) : Bool :=
  if a ≤ 0x000F then !s.pagesActive || s.unit (portUnit a) == 2
  else match a with
    | 0x0018 => !s.jobs.pages.any fun p => p.st == .rendering
    | 0x0019 => s.render.buildSt == .empty && !s.deviceOwns && s.render.wanted.isEmpty
    | 0x001A => !s.jobs.pages.any fun p => p.st == .rendering
    | 0x001B => (s.msp.sessions.all fun e => e.2.st != 1) && s.msp.opening.isEmpty
    | 0x0020 => s.freeChunks.contains (s.reg 0xF000 2)
    | _ => true

/-- What an open window does while open (R349): tiles leave the bank, the retained generation is given up, no session opens.
Which tiles lie in a bank the spec leaves open: the least recently used go until the rest fits the other banks. -/
def State.windowOpened (s : State) (a : Nat) : State :=
  if 0x0010 ≤ a ∧ a ≤ 0x0017 then { s with render := { s.render with cache := (s.render.cache.foldr (fun c (l, n) => if n + c.bytes ≤ 88080384 then (c :: l, n + c.bytes) else (l, n)) ([], 0)).1 } }
  else if a = 0x0019 then ({ s with render := { s.render with retained := none } }).dropUnbound
  else if a = 0x001B then s.sessionReady
  else s

/-- TEST_WINDOW_OPEN (R349): results 1 state, 3 invalid code, 2 condition. -/
def State.windowOpen (s : State) : State × Bool :=
  let a := s.reg 0xF000 1
  if s.reg 0xF000 4 ≠ 0 then (s.set 0xF000 5 1, false)
  else if s.windowSize = 0 then (s.set 0xF000 5 3, false)
  else if !s.windowMayOpen a then (s.set 0xF000 5 2, false)
  else
    let s1 := (((s.set 0xF000 4 2).set 0xF000 5 0).set 0xF000 6 0).set 0xF000 7 0xFFFFFFFF
    ({ s1 with integ := { s1.integ with window := [] } }.windowOpened a, true)

/-- TEST_WINDOW_CLOSE: the close begins. -/
def State.windowClose (s : State) : State × Bool :=
  if s.reg 0xF000 4 = 2 then ((s.set 0xF000 4 3).set 0xF000 5 0, true) else (s.set 0xF000 5 1, false)

/-- TEST_WINDOW_CLOSE_COMPLETE (R349): the array's close action is done. A chunk's trailers carry TEST and a correct CRC. -/
def State.windowClosed (s : State) : State :=
  if s.reg 0xF000 4 ≠ 3 then s
  else
    let a := s.reg 0xF000 1
    let c := s.reg 0xF000 2
    let s1 := { s.set 0xF000 4 0 with integ := { s.integ with window := [] } }
    if a = 0x0020 then
      (upTo 1024).foldl (fun s i => s.memWrite (trailerBase + c * 131072 + i * 128) (trailerBytes 0 0 0 2 0 0 (List.replicate 16 0) s.stamp)) s1
    else if a = 0x001B then s1.sessionReady
    else s1

end Sys2Proof.Machine
end

