-- ==== Sys2Proof/Machine/Thermal.lean ====
section
/-! DEFINITION. Clock factor and droop (R393, R394), temperature samples (R395 to R400), calibration runs (R401, R402). -/

namespace Sys2Proof.Machine

/-! ## Clock factor (R393, R394, R398) -/

/-- Puts the droop and the thermal factor: f is the lower one; E006 when it first falls below 16 and when it returns (R394, R404). -/
def State.factorTo (s : State) (droop thermal : Nat) : State :=
  let old := s.reg 0x0050 3
  let f := min droop thermal
  let low := min s.therm.lowest f
  let s1 := { (s.set 0x0060 9 thermal).set 0x0050 3 f with therm := { s.therm with droop := droop, lowest := low } }
  if old = 16 ∧ f < 16 then { s1 with therm := { s1.therm with lowest := f } }.raise 6 0 (1 + low * 256)
  else if old < 16 ∧ f = 16 then { s1 with therm := { s1.therm with lowest := 16 } }.raise 6 0 (low * 256)
  else s1

/-- DROOP_DETECTION (R394). -/
def State.droop (s : State) : State :=
  if s.alive then (({ s with therm := { s.therm with droopAt := s.clk.now } }).bump 0x0050 4).factorTo 12 (s.reg 0x0060 9) else s

/-- One restore interval (R394) has passed since a time. -/
def State.intervalOver (s : State) (since : Nat) : Bool := decide (since + s.reg 0x0050 2 * 1000 ≤ s.clk.now)

/-- RESTORE_INTERVAL (R394, R398): the rail stayed above the threshold plus 10 mV. The droop factor rises by 1 one restore interval after the detection or its last step;
a thermal factor that is being restored rises under the same timing of its own. -/
def State.restoreStep (s : State) : State :=
  if !s.alive then s
  else
    let d := decide (s.therm.droop < 16) && s.intervalOver s.therm.droopAt
    let t := s.therm.restoring && s.intervalOver s.therm.thermAt
    let th := if t then min 16 (s.reg 0x0060 9 + 1) else s.reg 0x0060 9
    ({ s with therm := { s.therm with restoring := s.therm.restoring && decide (th < 16)
                                      droopAt := if d then s.clk.now else s.therm.droopAt, thermAt := if t then s.clk.now else s.therm.thermAt } }).factorTo
      (if d then s.therm.droop + 1 else s.therm.droop) th

/-! ## Samples (R395 to R400) -/

/-- Exclusion of one sensor by a sample (R396): its deviation is judged by the map as it stood at the start. -/
def State.sensorCheck (s : State) (ex : Nat) (readings : List Int) (i : Nat) : State :=
  match nearMedian ex readings i with
  | none => { s with therm := { s.therm with beyond := sset 0 s.therm.beyond i 0, within := sset 0 s.therm.within i 0 } }
  | some m =>
    let r := readings.getD i 0
    let far := decide ((r - m).natAbs > s.reg 0x0060 4)
    if !bit ex i then
      let n := if far then sget 0 s.therm.beyond i + 1 else 0
      if n ≥ 3 then
        (({ s with therm := { s.therm with beyond := sset 0 s.therm.beyond i 0, within := sset 0 s.therm.within i 0 } }).set 0x0060 5 (setBit (s.reg 0x0060 5) i true)).raiseAt 10 2
          (i + ofSigned 16 r * 2 ^ 16 + ofSigned 16 m * 2 ^ 32) 7 6 0 0
      else { s with therm := { s.therm with beyond := sset 0 s.therm.beyond i n } }
    else
      let n := if far then 0 else sget 0 s.therm.within i + 1
      if n ≥ 100 then ({ s with therm := { s.therm with within := sset 0 s.therm.within i 0 } }).set 0x0060 5 (setBit (s.reg 0x0060 5) i false)
      else { s with therm := { s.therm with within := sset 0 s.therm.within i n } }

/-- Rate of rise in 1/16 °C/s (R398): 100 samples are one second; 0 until there are as many. -/
def State.rateOf (s : State) (readings : List Int) (i : Nat) : Int :=
  match s.therm.hist[99]? with
  | some old => readings.getD i 0 - old.getD i 0
  | none => 0

/-- Warn and throttle rates (R398). -/
def State.rateChecks (s : State) (on : List Nat) (rate : Nat → Int) : State :=
  let warm := on.find? fun i => decide ((s.reg 0x0060 1 : Int) ≤ rate i)
  let hot := on.find? fun i => decide ((s.reg 0x0060 2 : Int) ≤ rate i)
  let s1 := match warm with
    | some i =>
      let s1 := if s.therm.armed then s.raiseAt 7 2 (i + ofSigned 16 (rate i) * 2 ^ 16) 7 6 0 0 else s
      { s1 with therm := { s1.therm with armed := false, lastWarm := s.clk.now } }
    | none => if s.therm.lastWarm + 1000000000 ≤ s.clk.now then { s with therm := { s.therm with armed := true } } else s
  match hot with
  | some i =>
    if s1.therm.throttled then s1
    else
      (({ s1 with therm := { s1.therm with throttled := true, restoring := false } }).factorTo s1.therm.droop 12).raiseAt 8 2 (i + ofSigned 16 (rate i) * 2 ^ 16 + 2 ^ 32) 7 6 0 0
  | none => s1

/-- THROTTLE_HOLD_EXPIRY (R398): every sensor has stayed below the warn rate for the hold; the factor is restored, E008 raised again, for the first included sensor. -/
def State.throttleExpiry (s : State) : State :=
  if s.therm.throttled && decide (s.therm.lastWarm + s.reg 0x0060 3 * 1000000 ≤ s.clk.now) then
    let i := ((upTo 24).find? fun i => !bit (s.reg 0x0060 5) i).getD 0
    ({ s with therm := { s.therm with throttled := false, restoring := true, thermAt := s.clk.now } }).raiseAt 8 2 (i + s.le 0x0060 8 (2 * i) 2 * 2 ^ 16) 7 6 0 0
  else s

/-- E009 for a sensor (R399, R404). -/
def State.critical (s : State) (i : Nat) : State := s.raiseAt 9 4 (i + ofSigned 16 (s.sensorReading i) * 2 ^ 16) 7 6 0 0

/-- The hottest of some sensors. -/
def hottest (on : List Nat) (readings : List Int) : Option Nat :=
  on.foldl (fun m i => match m with | some k => if readings.getD k 0 < readings.getD i 0 then some i else m | none => some i) none

/-- The critical limit (R399): E009 as the first included sensor reaches it; the cause is gone once every included one reads 105 °C or less. -/
def State.criticalCheck (s : State) (on : List Nat) (readings : List Int) : State :=
  match hottest on readings with
  | none => s
  | some i =>
    let r := readings.getD i 0
    let m := s.reg 0x7800 4
    if r ≥ 1760 then (if bit m 0 then s else (s.set 0x7800 4 (setBit m 0 true)).critical i)
    else if r ≤ 1680 then s.set 0x7800 4 (setBit m 0 false)
    else s

/-- A band change of a link: the stored setting of the new band is applied if there is one (R402). -/
def State.bandMoved (s : State) (l : Nat) (band : Nat) : State :=
  s.updCalib l fun c => match sget 0 c.stored band with | 0 => c | m => { c with margin := m - 1 }

/-- Die bands of the sensors (R400), by the temperature that acts (R397). -/
def State.bandChecks (s : State) : State :=
  (upTo 24).foldl (fun s i =>
    let b := s.sensorBand i
    let n := nextBand b (s.sensorTemp i)
    if b = n then s
    else
      let s1 := { s with therm := { s.therm with bands := sset 0 s.therm.bands i n } }
      (upTo 20).foldl (fun s l => if linkSensor l = i then s.bandMoved l n else s) s1) s

/-- SENSOR_SAMPLE (R395 to R400): the readings of the 24 sensors in 1/16 °C; `self` is a cause that the collector's own checks find at this time (R382), 0 for none. -/
def State.sensorSample (s : State) (readings : List Int) (self : Nat) : State :=
  if !s.alive then s
  else
    let l := (upTo 24).map fun i => clampInt (-32768) 32767 (readings.getD i 0)
    let ex := s.reg 0x0060 5
    let on := (upTo 24).filter fun i => !bit ex i
    let rate := fun i => s.rateOf l i
    let s1 := s.setBytes 0x0061 0 0 (l.flatMap fun r => leBytes 2 (ofSigned 16 r))
    let s2 := s1.setBytes 0x0060 8 0 ((upTo 24).flatMap fun i => leBytes 2 (ofSigned 16 (clampInt (-32768) 32767 (rate i))))
    let s3 := s2.set 0x0060 7 (match hottest on l with | some i => ofSigned 16 (l.getD i 0) | none => s2.reg 0x0060 7)
    let s4 := ((s3.rateChecks on rate).criticalCheck on l).bandChecks
    let s5 := (upTo 24).foldl (fun s i => s.sensorCheck ex l i) s4
    let s6 := { s5 with therm := { s5.therm with hist := (l :: s5.therm.hist).take 100 } }
    let s7 := s6.setReady 37 (decide (16 ≤ ((upTo 24).countP fun i => !bit (s6.reg 0x0060 5) i)))
    if self = 0 then s7 else { s7 with ev := s7.ev.selfFault self }

/-! ## Calibration (R401, R402) -/

/-- Segments that select a tension table and whose temperature is known. -/
def State.tableSegs (s : State) (t : Nat) : List Nat := (upTo 256).filter fun g => s.tensionOf g == t && s.le (portIdx (g / 16) + 3) 1 (2 * (g % 16)) 2 != 0x8000

/-- Mean temperature of the segments of a tension table. -/
def State.tableTemp (s : State) (t : Nat) : Option Int :=
  match s.tableSegs t with
  | [] => none
  | l => some ((l.map s.segTemp).sum / (l.length : Int))

/-- A class 1 unit has a reason to run (R401). -/
def State.linkWants (s : State) (l : Nat) : Bool :=
  let c := s.unitCalib l
  let i := linkSensor l
  s.flag 0x0070 2 && s.linkState l == 5 &&
    (decide ((s.sensorTemp i - c.temp).natAbs > s.reg 0x0070 1) || s.sensorBand i != c.band
      || decide ((c.errors.filter fun t => decide (s.clk.now < t + 1000000000)).length > s.reg 0x0070 3))

/-- A class 2 unit has a reason to run (R401); a first run needs none but its temperature. -/
def State.tableWants (s : State) (t : Nat) : Bool :=
  let c := s.unitCalib (20 + t)
  bit (s.reg 0x0070 4) t && !s.pagesActive && decide (s.therm.pagesAt + s.reg 0x0070 5 * 1000000000 ≤ s.clk.now) &&
    match s.tableTemp t with | some m => !c.ran || decide ((m - c.temp).natAbs > s.reg 0x0070 1) | none => false

/-- CALIBRATION_RUN: the scheduler begins a run. -/
def State.calibRun (s : State) (u : Nat) : State :=
  if s.alive && !(s.unitCalib u).running && (if u < 20 then s.linkWants u else s.tableWants (u - 20)) then s.updCalib u fun c => { c with running := true } else s

/-- CALIBRATION_COMPLETE (R401, R402): the run measured an eye margin in 0.01 UI (class 1), at a load in percent. The new base of a tension table goes through the commit of R232 on the active set. -/
def State.calibDone (s : State) (u margin load : Nat) : State :=
  if !s.alive || !(s.unitCalib u).running then s
  else if u < 20 then
    let i := linkSensor u
    let b := s.sensorBand i
    let reason := if margin < s.reg 0x0070 0x0A then 1 else if margin < (s.unitCalib u).margin then 2 else 0
    let s1 := if reason = 0 then s.calibTake u b margin else s
    s1.calibEnd u b load reason (s.sensorTemp i)
  else
    let t := u - 20
    match s.tableTemp t with
    | none => s.updCalib u fun c => { c with running := false }
    | some m =>
      let old := toSigned 16 (s.tension t 0 2)
      let new := clampInt (-32768) 32767 (m + toSigned 16 (s.le 0x0070 7 (2 * t) 2))
      let reason := if (new - old).natAbs > s.reg 0x0070 6 then 3 else 0
      let b := s.bytes 0x2862 0 0 640
      let s1 := if reason = 0 then (s.commitTables (b.take (48 * t) ++ leBytes 2 (ofSigned 16 new) ++ b.drop (48 * t + 2))).1 else s
      s1.calibEnd u 0 load reason m

end Sys2Proof.Machine
end

