-- ==== Sys2Proof/Machine/Settle.lean ====
section
/-! DEFINITION. The end of every command: a barrier that holds every yes is closed (R443), pages that are late now are found (R202), the occurrences are delivered and collected (R61, R62, R367 to R373), the safe state is entered if one of them asks for it (R375), a waiting vote is cast (R443), decodes that nobody wants are abandoned (R157), segmented reads look at their objects (R56). Then the collector's commands (R374, R379 to R381). -/

namespace Sys2Proof.Machine

/-- Delivers and collects the occurrences raised so far. -/
def State.take (s : State) : State := { s with ev := s.ev.takeAll }

/-- Sets a bit of the fault status (R383). -/
def State.setFstat (s : State) (i : Nat) (b : Bool) : State := { s with ev := s.ev.setFstat i b }

/-- E249 (R384). -/
def State.safeEvent (s : State) (entered : Bool) (cause src : Nat) : State :=
  s.raise 249 0 (b2n entered + cause * 16 + src % 256 * 256 + s.reg 0x7800 5 * 2 ^ 16)

/-- Entry to the safe state (R375, R381, R383): pages, axes, SAFE on every ACTIVE port, E249, SURGENT. A self-fault's own entry counts in 0x7800:06; what comes after it does not (R382). -/
def State.enterSafe (s : State) : State :=
  let cause := s.ev.entry
  let src := s.ev.entrySrc
  let s2 := (((s.bump 0x7800 6).safeEvent true cause src).safePages.safeAxes).allPorts 4
  let s3 := (((s2.setFstat 0 true).setFstat 11 (cause == 3)).set 0x7803 1 cause).set 0x7803 2 s.clk.now
  { s3 with board := { s3.board with peerOnly := src == 69 && cause == 1 }, ev := { s3.ev with lastSrc := src } }.surgentNow

/-- A further cause met while the safe state holds: it is no longer held by E069 alone unless the cause is E069 (R447). -/
def State.stayOut (s : State) : State :=
  { s with ev := { s.ev with entry := 0, entrySrc := 0 }
           board := { s.board with peerOnly := s.board.peerOnly && (s.ev.entry == 0 || s.ev.entrySrc == 69) } }

/-- Clears the entry that was due. -/
def State.entered (s : State) : State := { s with ev := { s.ev with entry := 0, entrySrc := 0 } }

/-- What the end of a command does. -/
def State.settle (s : State) : State :=
  let s1 := s.barrierClose.checkLate.take
  let s2 := if s1.ev.entry = 0 then s1 else if s1.safe then s1.stayOut else s1.enterSafe.checkLate.take.entered
  s2.waitingVote.abandonDecodes.watchReads

/-! ## The collector's commands (R379 to R381) -/

/-- Raises the events of the causes present again (R379): a sensor above the critical limit, or the hottest; an origin in the safe state or missing; the failed subchannel. -/
def State.causesAgain (s : State) : State :=
  let m := s.reg 0x7800 4
  let s1 := if bit m 0 then
      s.critical ((hottest ((upTo 24).filter fun i => !bit (s.reg 0x0060 5) i) ((upTo 24).map s.sensorReading)).getD 0)
    else s
  let d := ((upTo 8).find? fun d => bit s.board.peerSafe d || bit s.board.missing d).getD 0
  let s2 := if bit m 1 then s1.raiseAt 69 4 (d + b2n (!bit s.board.peerSafe d) * 256) 13 4 0 0 else s1
  let i := ((upTo 8).reverse.find? fun i => s.subState i == 3).getD 0
  let s3 := if bit m 2 then s2.raiseAt 238 4 (i + 3 * 16 + 4 * 256) 12 6 0 0 else s2
  if bit m 3 then s3.raiseAt 236 4 (8 + 5 * 256) 7 1 0 0 else s3

/-- Leaves the safe state (R262, R379): E249 with the cause and the source of the entry, RESUME on every ACTIVE port, SURGENT. -/
def State.leaveSafe (s : State) : State :=
  let s1 := ((s.setFstat 0 false).safeEvent false (s.reg 0x7803 1) s.ev.lastSrc).allPorts 5
  { s1 with board := { s1.board with peerOnly := false } }.surgentNow

/-- FAULT_CLEAR (R379, R380). -/
def State.faultClear (s : State) : State × Bool :=
  if s.reg 0x7800 4 ≠ 0 then (((s.set 0x7800 3 1).raise 250 0 (s.reg 0x7800 4)).causesAgain, false)
  else if s.ev.fstat 10 then (s.set 0x7800 3 2, false)
  else
    let s1 := ((s.setBytes 0x7801 0 0 (zeros 32)).setBytes 0x7802 0 0 (zeros 32)).set 0x7800 7 0
    let s2 := ([1, 2, 3, 8, 9, 11].foldl (fun s i => s.setFstat i false) s1).set 0x7800 3 0
    (if s2.safe then s2.leaveSafe else s2, true)

/-- ENTER_SAFE_STATE (R381): cause 3; nothing is recorded or counted. -/
def State.commandSafe (s : State) : State × Bool := ({ s.set 0x7800 3 0 with ev := (s.set 0x7800 3 0).ev.dueSafe 3 0xFF }, true)

/-- A write of N (:01) or W (:02) of a counting window (R374): an open window closes without counting as transient. -/
def State.windowConfig (s : State) (n sub v : Nat) : State :=
  let s1 := s.set (0x7900 + n) sub v
  if s1.reg (0x7900 + n) 4 = 1 then (s1.set (0x7900 + n) 4 0).set (0x7900 + n) 6 0 else s1

/-- COUNTING_WINDOW_CLOSE (R372, R373): with SELF set nothing is counted. -/
def State.countingClose (s : State) (n : Nat) : State := if s.ev.fstat 10 then s else { s with ev := s.ev.windowClose n s.clk.now }

end Sys2Proof.Machine
end

