-- ==== Sys2Proof/Machine/Tap.lean ====
section
/-! DEFINITION. The test access port (R464). Its controller, its registers and which code is BYPASS are those of IEEE 1149.1, which R464 names (PRESUMED, log 73). -/

namespace Sys2Proof.Machine

/-- The controller's next state by TMS. -/
def TapSt.next (tms : Bool) : TapSt → TapSt
  | .reset => if tms then .reset else .idle
  | .idle => if tms then .selectDr else .idle
  | .selectDr => if tms then .selectIr else .captureDr
  | .captureDr => if tms then .exit1Dr else .shiftDr
  | .shiftDr => if tms then .exit1Dr else .shiftDr
  | .exit1Dr => if tms then .updateDr else .pauseDr
  | .pauseDr => if tms then .exit2Dr else .pauseDr
  | .exit2Dr => if tms then .updateDr else .shiftDr
  | .updateDr => if tms then .selectDr else .idle
  | .selectIr => if tms then .reset else .captureIr
  | .captureIr => if tms then .exit1Ir else .shiftIr
  | .shiftIr => if tms then .exit1Ir else .shiftIr
  | .exit1Ir => if tms then .updateIr else .pauseIr
  | .pauseIr => if tms then .exit2Ir else .pauseIr
  | .exit2Ir => if tms then .updateIr else .shiftIr
  | .updateIr => if tms then .selectDr else .idle

/-- The code of BYPASS: all ones. -/
def tapBypass : Nat := 2 ^ Config.tapLength - 1

/-- What a code selects. -/
def tapInstr : Option Nat → TapInstr
  | none => .bypass
  | some code =>
    if code = tapBypass then .bypass
    else match Config.tapCode code with
      | 1 => .extest
      | 2 => .extestPulse
      | 3 => .extestTrain
      | 4 => .preload
      | _ => .bypass

/-- An instruction that drives pins. -/
def TapInstr.drives : TapInstr → Bool
  | .extest | .extestPulse | .extestTrain => true
  | .preload | .bypass => false

/-- The instruction in force: one that drives pins is decoded as BYPASS while POR_N is high (R464). -/
def Tap.decoded (t : Tap) (porN : Bool) : TapInstr := if porN && (tapInstr t.ir).drives then .bypass else tapInstr t.ir

/-- A bit goes into a register at TDI's end; the bit at TDO's end leaves it. -/
def shiftBit (tdi : Bool) (l : List Bool) : List Bool := l.drop 1 ++ [tdi]

/-- A rising edge of TCK in the controller's present state: captures and shifts. -/
def Tap.work (t : Tap) (porN : Bool) (c : TapClock) : Tap :=
  match t.st with
  | .captureIr => { t with shift := (List.range Config.tapLength).map fun i => i == 0 }
  | .shiftIr => { t with shift := shiftBit c.tdi t.shift, tdo := t.shift.headD false }
  | .captureDr => if t.decoded porN = .bypass then { t with byp := false } else { t with chain := c.cells }
  | .shiftDr =>
    if t.decoded porN = .bypass then { t with byp := c.tdi, tdo := t.byp }
    else { t with chain := shiftBit c.tdi t.chain, tdo := t.chain.headD false }
  | _ => t

/-- Entry into the next state: updates, and the reset of the test logic. -/
def Tap.enter (t : Tap) (porN : Bool) (st : TapSt) : Tap :=
  match st with
  | .reset => { t with st := st, ir := none }
  | .updateIr => { t with st := st, ir := some ((List.zip (List.range t.shift.length) t.shift).foldl (fun n (i, b) => if b then n + 2 ^ i else n) 0) }
  | .updateDr => if t.decoded porN = .bypass then { t with st := st } else { t with st := st, latch := t.chain }
  | _ => { t with st := st }

/-- An edge of TCK. TRST_N low resets the test logic. -/
def Tap.clock (porN : Bool) (t : Tap) (c : TapClock) : Tap :=
  if c.trstN then (t.work porN c).enter porN (t.st.next c.tms) else t.enter porN .reset

/-- The levels that boundary scan puts on the pins, while it drives them. -/
def Tap.pins (t : Tap) (porN : Bool) : Option (List Bool) := if (t.decoded porN).drives then some t.latch else none

/-- Edges of TCK at the level that POR_N has. -/
def State.tapRun (s : State) (l : List TapClock) : State := { s with boot := { s.boot with tap := l.foldl (Tap.clock s.boot.porN) s.boot.tap } }

end Sys2Proof.Machine
end

