-- ==== Sys2Proof/Machine/Boot.lean ====
section
/-! DEFINITION. Settings (R38, R39, R423), resets (R405, R406, R457, R461) and boot (R408 to R414, R420). -/

namespace Sys2Proof.Machine

/-! ## Settings (R38, R39) -/

/-- An object that the settings keep. -/
def persists (key : Nat) : Bool := ((lookup (key / 256) (key % 256)).map (·.persist)).getD false
/-- A byte of a DOMAIN object that the settings keep, by its address. -/
def persistsByte (a : Nat) : Bool := persists (a / 2 ^ 32 % 2 ^ 16 * 256 + a / 2 ^ 24 % 2 ^ 8)

/-- The note Key present of a credential slot, which goes with its saved key (R134). -/
def keyNote (key : Nat) : Bool := decide (0x5010 ≤ key / 256) && decide (key / 256 ≤ 0x501F) && key % 256 == 6

/-- Values of the S objects, and whether a credential slot holds a key. -/
def State.sRegs (s : State) : Sparse Nat :=
  (s.main.regs.filter fun e => persists e.1 || keyNote e.1) ++ (s.ev.bank.regs.filter fun e => persists e.1)
/-- Bytes of the S objects. -/
def State.sBytes (s : State) : Sparse Byte :=
  (s.main.bytes.filter fun e => persistsByte e.1) ++ (s.ev.bank.bytes.filter fun e => persistsByte e.1)

/-- Puts one byte of a DOMAIN object by its address. -/
def State.putByteAt (s : State) (a : Nat) (v : Byte) : State :=
  if inEv (a / 2 ^ 32 % 2 ^ 16) then { s with ev := { s.ev with bank := s.ev.bank.putByte a v } } else { s with main := s.main.putByte a v }

/-- The running SC firmware can read a copy (R423): its CRC holds and its schema lies between the firmware's oldest and its own. -/
def State.reads (s : State) (c : Settings) : Bool :=
  c.valid && decide (leAt (s.running0 1) 92 4 ≤ c.schema) && decide (c.schema ≤ s.reg 0x0040 3)

/-- The newest copy that counts (R38, R423): true for copy 1. -/
def State.newest (s : State) : Option Bool :=
  match s.reads s.copyA, s.reads s.copyB with
  | true, true => some (decide (s.copyA.seq < s.copyB.seq))
  | true, false => some false
  | false, true => some true
  | false, false => none

/-- A settings copy by its number. -/
def State.settingsCopy (s : State) (b : Bool) : Settings := if b then s.copyB else s.copyA
/-- Puts a settings copy. -/
def State.putCopy (s : State) (b : Bool) (c : Settings) : State := if b then { s with copyB := c } else { s with copyA := c }

/-- The copy a save writes: the one that does not hold the newest valid set. -/
def State.saveTarget (s : State) : Bool := match s.newest with | some b => !b | none => false
/-- The set a save writes; it counts once the CRC at its end is there. -/
def State.saved (s : State) (valid : Bool) : Settings :=
  let last := match s.newest with | some b => s.settingsCopy b | none => Settings.none
  ⟨valid, last.seq + 1, s.reg 0x0040 4 + 1, s.reg 0x0040 3, s.sRegs, s.sBytes⟩

/-- A save or an erase runs. -/
def State.settingsBusy (s : State) : Bool := s.reg 0x0040 2 == 1 || s.reg 0x0040 2 == 2

/-- SETTINGS_SAVE: the S objects as they stand go to flash. -/
def State.settingsSave (s : State) : State := (s.putCopy s.saveTarget (s.saved false)).set 0x0040 2 1
/-- SETTINGS_ERASE. -/
def State.settingsErase (s : State) : State := s.set 0x0040 2 2

/-- SETTINGS_OPERATION_COMPLETE (R39): idle, or failed with a flash error; a save that fails leaves the older copy in force. -/
def State.settingsDone (s : State) (good : Bool) : State :=
  match s.reg 0x0040 2 with
  | 1 =>
    if good then
      let b := s.saveTarget
      ((s.putCopy b { s.settingsCopy b with valid := true }).set 0x0040 2 0).set 0x0040 4 (s.settingsCopy b).count
    else s.set 0x0040 2 3
  | 2 => if good then ({ s with copyA := Settings.none, copyB := Settings.none }).set 0x0040 2 0 else s.set 0x0040 2 3
  | _ => s

/-- Loads a copy into the objects. -/
def State.loadCopy (s : State) (c : Settings) : State :=
  let s1 := c.regs.foldl (fun s e => s.put e.1 e.2) s
  (c.bytes.foldl (fun s e => s.putByteAt e.1 e.2) s1).set 0x0040 4 c.count

/-- A copy migrated to a schema (R423): the values that come out are the firmware's (free). -/
def Settings.migrate (c : Settings) (tgt : Nat) : Settings :=
  { c with schema := tgt
           regs := c.regs.map fun e => (e.1, Config.migrated c.schema tgt e.1 e.2)
           bytes := c.bytes.map fun e => (e.1, Config.migratedByte c.schema tgt e.1 e.2) }

/-- E255 (R429): kinds 5, 6 and 8 are SEV2. -/
def State.fwEvent (s : State) (kind comp result version : Nat) : State :=
  s.raiseAt 255 (if kind = 5 ∨ kind = 6 ∨ kind = 8 then 2 else 0) (kind + comp * 16 + result * 256 + version * 2 ^ 32) 7 6 0 0

/-- Settings at the start of the SC firmware (R423): the state, and whether boot goes on; it does not when a TRIAL_STARTED slot falls back to the lifeline. -/
def State.settingsStart (s : State) (slot : Nat) : State × Bool :=
  let h := s.slotHeader 1 slot
  let own := leAt h 88 4
  let trial := s.slotState 1 slot == 3
  let confirm := fun (s : State) => if trial then (s.slotTo 1 slot 4 0).fwEvent 4 1 0 (leAt h 8 4) else s
  let failed := fun (s : State) => if trial then ((s.slotTo 1 slot 5 13).dirEdit 1 [(1, leBytes 1 (1 - slot))], false) else (s.raiseAt 1 2 0 7 6 0 0, true)
  match s.newest.map s.settingsCopy with
  | none => failed s
  | some c =>
    if c.schema = own then (confirm (s.loadCopy c), true)
    else if !Config.migrates c.schema own then failed s
    else
      let s1 := s.loadCopy (c.migrate own)
      let b := s1.saveTarget
      let s2 := s1.putCopy b (s1.saved true)
      let s3 := (s2.set 0x0040 4 (s2.settingsCopy b).count).set 0x8010 9 (c.schema + own * 2 ^ 32)
      ((confirm s3).fwEvent 7 1 0 (leAt h 8 4), true)

/-! ## Reset (R405, R406, R461) -/

/-- What a reset leaves: the AON domain, the flash, the pins and the straps, the test access port (R464), device time (cause 8: R295), what was sent; everything else is at reset. -/
def State.cleared (s : State) (cause : Nat) : State :=
  { State.reset with
    flash := s.flash, copyA := s.copyA, copyB := s.copyB, aon := s.aon
    clk := { s.clk with now := if cause = 8 then s.clk.now else 0, frac := 0 }
    boot := { State.reset.boot with porN := s.boot.porN, railsOk := s.boot.railsOk, straps := s.boot.straps, testEn := s.boot.testEn, cause := s.boot.cause, tap := s.boot.tap }
    tx := s.tx, idle := s.idle, free := s.free, pending := s.pending }

/-- Result that a reset leaves to be shown (R418): 16 where it abandons an update. -/
def State.abandonShown (s : State) : Nat := let u := s.reg 0x8010 4; if u = 1 ∨ u = 3 ∨ u = 5 then 16 else 0

/-- An update under way is abandoned (R418): the slot being written or activated is left EMPTY. -/
def State.abandonFlash (s : State) : State := let u := s.reg 0x8010 4; if u = 3 ∨ u = 5 then s.slotTo s.update.comp s.update.slot 0 0 else s

/-! ## ROM (R413) -/

/-- The slot the ROM takes by the active slot's state and the count (R413), the directory it writes, whether the slot counts as the other one, and the result to show. -/
def State.romChoice (s : State) : Nat × State × Bool × Nat :=
  let a := s.activeSlot 1
  match s.slotState 1 a with
  | 2 => (a, s.slotTo 1 a 3 0, false, 0)
  | 3 => (1 - a, (s.slotTo 1 a 5 14).dirEdit 1 [(1, leBytes 1 (1 - a))], false, 14)
  | _ => if s.aon.failed = 2 ∧ s.slotSound 1 (1 - a) = true then (1 - a, s, true, 0) else (a, s, false, 0)

/-- A slot whose state lets the ROM boot it: not EMPTY, not REJECTED. -/
def State.slotBoots (s : State) (slot : Nat) : Bool := s.slotSound 1 slot || s.slotState 1 slot == 2 || s.slotState 1 slot == 3

/-- Loads components 2 to 4 (R420): the active slot, else the other one, if VALID or CONFIRMED, verified and compatible; E255 kind 5 where none loads. -/
def State.loadComponent (s : State) (c : Nat) : State :=
  let a := s.activeSlot c
  let was := s.slotState c a
  let s1 := [0, 1].foldl (fun s n => if s.slotState c n = 2 ∨ s.slotState c n = 3 then s.slotTo c n 5 14 else s) s
  let ok := fun slot => s1.slotSound c slot && s1.slotVerifies c slot && pairCompatible (s1.running0 1) (s1.slotHeader c slot) c
  let take := fun slot =>
    let s2 := s1.set 0x8001 c (leAt (s1.slotHeader c slot) 8 4)
    let s3 := if slot = a then s2 else s2.dirEdit c [(1, leBytes 1 slot)]
    if s3.slotState c slot = 1 then s3.slotTo c slot 4 0 else s3
  if ok a then take a else if ok (1 - a) then take (1 - a)
  else s1.fwEvent 5 c (if was = 2 ∨ was = 3 then 14 else 15) (leAt (s1.slotHeader c a) 8 4)

/-- The page manager and SC firmware allocate their own rings (R66, R67), of sizes that are theirs. -/
def State.firmwareRing (s : State) (q : Nat) : State :=
  let k := Config.firmwareRing q
  if 4 ≤ k ∧ k ≤ 14 ∧ s.ev.ringUsed + 2 ^ k ≤ ringMemory then { s with ev := s.ev.ringAllocate q k } else s

/-- Brings the functions up (R414) once the settings are there: components, update service, ports, FOP, position, motion, time, axes kept by the backup store (R290); after a wake from DEEP the epoch and its alignment (R391). -/
def State.startFunctions (s : State) (cause wake : Nat) : State :=
  let s0 := (upTo 48).foldl (fun s i => s.firmwareRing (208 + i)) s
  let s1 := ([2, 3, 4].foldl State.loadComponent s0).setReady 36 true
  let s2 := { s1 with dram := { s1.dram with conf := [1, 2, 3, 4].map fun i => s1.reg 0x6000 i } }
  let lost := s2.backupLost
  let b := s2.backupFields
  let s4 := if cause = 8 then
      let (k, s4) := s2.fresh
      (((s4.set 0x1000 2 (leAt b 44 2)).set 0x1000 3 (leAt b 48 8)).setBytes 0x1001 0 0
        (leBytes 2 (leAt b 44 2) ++ zeros 6 ++ leBytes 8 (Config.choice k % max 1 s2.clk.now) ++ leBytes 8 (leAt b 48 8)))
    else s2
  let s5 := ((s4.heStart 0).heStart 1).fopReady
  let s6 := [0, 1].foldl (fun s i => if s.flag (domIdx i) 4 && s.loaded 4 then s.domTo i 1 else s) s5
  let s7 := ((s6.posCheck).motCheck).restoreAxes lost
  let reason := if lost then 0 else if cause = 2 then 5 else if cause = 8 then wake + 1 else leAt b 34 1
  let s8 := s7.noteReason reason
  let s9 := if cause = 8 then ((s8.set 0x0031 4 wake).raise 5 0 (wake + s8.clk.lf % 2 ^ 40 * 256)).raise 3 0 (3 + 1 * 16 + reason * 256) else s8
  if cause = 6 then s9.fwEvent 8 1 0 (s9.reg 0x8001 1) else s9

/-- Starts an SC image (R413, R414, R468): identity objects, the fault collector, then the settings; the Bool is that of `settingsStart`. -/
def State.scStart (s : State) (slot cause shown : Nat) : State × Bool :=
  let h := s.slotHeader 1 slot
  let s1 := ((((s.set 0x8000 2 s.boot.straps).set 0x8000 3 cause).set 0x8000 4 s.aon.failed).set 0x8000 7 slot).set 0x8001 1 (leAt h 8 4)
  let s2 := ((s1.set 0x0000 5 (leAt h 8 4)).set 0x0040 3 (leAt h 88 4)).set 0x8010 3 shown
  let s3 := { s2 with boot := { s2.boot with phase := .boot, started := s2.clk.now }, ev := { s2.ev with started := true } }
  let s4 := if s3.ev.early then { s3 with ev := if s3.ev.fstat 10 then s3.ev.dueSafe 4 0xFF else s3.ev.dueSafe 1 s3.ev.lastSrc } else s3
  let old := leAt (s4.slotHeader 1 (1 - slot)) 8 4
  let s5 := if shown = 13 ∨ shown = 14 then (s4.fwEvent 5 1 shown old).fwEvent 6 1 shown (leAt h 8 4) else s4
  s5.settingsStart slot

/-- The slot the ROM boots, if one verifies (R413): the one chosen, else the other if it is sound; whether it counts as the other one. -/
def State.romPick (s : State) (slot : Nat) (other : Bool) : Option (Nat × Bool) :=
  let good := fun n => s.slotBoots n && s.slotVerifies 1 n
  if good slot then some (slot, other) else if s.slotSound 1 (1 - slot) && good (1 - slot) then some (1 - slot, false) else none

/-- Keeps whether the other slot runs on a count of 2 (R413). -/
def State.noteOther (s : State) (other : Bool) : State := { s with boot := { s.boot with other := other } }

/-- One pass of the ROM (R413) over a cleared state: the test hold, recovery, the wait for a retry, or the start of an SC image. The Bool says that the settings fall back to another slot, which restarts the boot (R423). -/
def State.romOnce (s : State) (cause wake shown : Nat) : State × Bool :=
  if s.boot.testEn then ({ s with boot := { s.boot with phase := .testHold } }, false)
  else if bit s.boot.straps 1 || s.aon.failed == 3 then ({ s with boot := { s.boot with phase := .recovery } }, false)
  else
    let r := { s with aon := { s.aon with failed := s.aon.failed + 1 } }.romChoice
    match r.2.1.romPick r.1 r.2.2.1 with
    | none => ({ r.2.1 with boot := { r.2.1.boot with phase := .romWait, started := r.2.1.clk.now } }, false)
    | some (n, other) =>
      let q := r.2.1.scStart n cause (if r.2.2.2 ≠ 0 then r.2.2.2 else shown)
      if q.2 then ((q.1.startFunctions cause wake).noteOther other, false) else (q.1, true)

/-- A boot from the ROM (R413) after a reset with a cause; `wake` is the source of a wake from DEEP, `shown` the update result to show. The number bounds the restarts of a settings fallback (R423: the lifeline is never TRIAL_STARTED, so one is enough). -/
def State.romBoot : Nat → State → Nat → Nat → Nat → State
  | 0, s, _, _, _ => s
  | k + 1, s, cause, wake, shown =>
    let r := (s.cleared cause).romOnce cause wake shown
    if r.2 then State.romBoot k r.1 7 0 13 else r.1

/-- A reset by the device itself (R405). -/
def State.restart (s : State) (cause : Nat) : State := State.romBoot 4 s.abandonFlash cause 0 s.abandonShown

/-! ## Reset pins and rails (R405, R457, R459, R461) -/

/-- Held in reset (R461): every function outside the AON domain; the result that the boot will show is kept (R418). -/
def State.hold (s : State) : State :=
  let s1 := (s.abandonFlash.cleared 2).set 0x8010 3 (if s.boot.phase = .held then s.reg 0x8010 3 else s.abandonShown)
  { s1 with boot := { s1.boot with phase := .held, cause := if s.boot.cause = 1 then 1 else 2 } }

/-- Leaves reset once POR_N is high and the rails are good (R457); cause 1 where the backup store is lost (R405). -/
def State.leaveReset (s : State) : State :=
  if s.boot.porN && s.boot.railsOk && s.boot.phase == .held then
    let cause := if s.backupLost ∨ s.boot.cause = 0 then 1 else s.boot.cause
    State.romBoot 4 { s with boot := { s.boot with cause := 0 } } cause 0 (s.reg 0x8010 3)
  else s

/-- VBAT_RISE (R459, R413): the AON domain starts empty and raises the enables. -/
def State.vbatRise (s : State) : State :=
  if s.aon.vbat then s
  else { s with aon := { vbat := true, keepEn := true, mainEn := true, backup := [], failed := 0 }
                clk := { s.clk with lf := 0, lfRem := 0 }, boot := { s.boot with cause := 1 } }

/-- POR_N rises: the straps and TEST_EN are sampled (R408, R454); low enables are raised (R459). -/
def State.porHigh (s : State) (straps : Nat) (testEn : Bool) : State :=
  if s.boot.porN || !s.aon.vbat then s
  else { s with boot := { s.boot with porN := true, straps := straps, testEn := testEn }, aon := { s.aon with keepEn := true, mainEn := true } }.leaveReset

/-- POR_N_RELEASE, between the edges of TCK that came while POR_N was low and those that follow while it is high (R464). -/
def State.porRelease (s : State) (pins : ResetPins) (testEn : Bool) : State := (((s.tapRun pins.low).porHigh pins.straps testEn).tapRun pins.high)

/-- INTERNAL_RESET_RELEASE (R457): every monitor has seen its rail above threshold for 1 ms; the straps are sampled then (R408). -/
def State.railsGood (s : State) : State :=
  if s.aon.vbat && s.aon.mainEn && !s.boot.railsOk then { s with boot := { s.boot with railsOk := true } }.leaveReset else s

/-- POR_N_LOW (R461). -/
def State.porLow (s : State) : State := { s.hold with boot := { s.hold.boot with porN := false } }

/-- RAIL_UNDERVOLTAGE (R457): as POR_N low, with cause 2. In DEEP no rail is supplied. -/
def State.railLow (s : State) : State :=
  if s.boot.phase == .deep then s else { s.hold with boot := { s.hold.boot with railsOk := false } }

/-- WATCHDOG_EXPIRY (R405). -/
def State.watchdog (s : State) : State := if s.alive then s.restart 3 else s

/-- BOOT_RETRY (R413): 1 s after no image verified. -/
def State.bootRetry (s : State) : State := if s.boot.phase == .romWait && decide (s.boot.started + 1000000000 ≤ s.clk.now) then s.restart 3 else s

/-- BOOT_TIMEOUT (R415): 20 s without E000. -/
def State.bootTimeout (s : State) : State := if s.boot.phase == .boot && decide (s.boot.started + 20000000000 ≤ s.clk.now) then s.restart 3 else s

/-- BOOT_COMPLETE (R413, R414): E000, the count cleared; an SC slot booted on a count of 2 becomes active. -/
def State.bootDone (s : State) : State :=
  if s.boot.phase != .boot then s
  else
    let n := s.aon.failed
    let slot := s.reg 0x8000 7
    let s1 := ({ s with boot := { s.boot with phase := .run, other := false }, aon := { s.aon with failed := 0 } }).set 0x8000 4 n
    let s2 := s1.raise 0 0 (s.reg 0x8001 1 + s.reg 0x8000 3 * 2 ^ 32 + n * 2 ^ 40)
    if s.boot.other then ((s2.slotTo 1 (1 - slot) 5 14).dirEdit 1 [(1, leBytes 1 slot)]).fwEvent 6 1 14 (s.reg 0x8001 1) else s2

/-- RESET_COMMAND (R407): the reset follows the reply. -/
def State.resetCommand (s : State) : State × Bool :=
  if s.pagesActive then (s.set 0x8000 6 1, false)
  else ({ s.set 0x8000 6 0 with boot := { s.boot with due := .reset 5 } }, true)

/-- FUNCTION_SELF_TEST_PASSED (R414): the codec needs STASH, a cluster the render microcode, PSTORE and its service state. -/
def State.selfTestCodec (s : State) : State := if s.alive && s.ready 8 then (s.setReady 9 true).feedEncoders else s
/-- The self-test of a render cluster. -/
def State.selfTestCluster (s : State) (c : Nat) : State :=
  if s.loaded 2 && s.ready 7 && s.unit (clusterUnit c) == 0 then s.setReady (10 + c) true else s

end Sys2Proof.Machine
end

