-- ==== Sys2Proof/Machine/Power.lean ====
section
/-! DEFINITION. Power states (R385 to R392), and the end of every command with what falls due behind its reply (R45, R407, R418). -/

namespace Sys2Proof.Machine

/-! ## Entry to KEEP and DEEP (R388, R389) -/

/-- Closes a session for good: the CLOSE notices still to come are sent, and its number is free (R131, R389). -/
def State.endSession (s : State) (n : Nat) : State :=
  let s1 := s.closeSession n 5
  match s1.sess n with
  | none => s1
  | some x =>
    let s2 := (upTo x.closing).foldl (fun s _ => s.sendClose n) s1
    { s2 with msp := { s2.msp with sessions := serase n s2.msp.sessions } }.set (0x5030 + n) 7 0

/-- Writes the backup store at an entry (R392) but for its motion part. -/
def State.storeEntry (s : State) (prev : Nat) : State :=
  s.putBackup (patch (patch s.backupFields 33 (leBytes 1 prev ++ [1])) 36
    (leBytes 8 s.clk.now ++ leBytes 2 s.epoch ++ zeros 2 ++ leBytes 8 (s.reg 0x1000 3)))

/-- An update under way is abandoned (R418); a verified one lives in SRAM and DRAM and stays. -/
def State.abandonUpdate (s : State) : State :=
  let u := s.reg 0x8010 4
  if u = 1 ∨ u = 3 ∨ u = 5 then ((s.abandonFlash.set 0x8010 4 0).set 0x8010 3 16).fwEvent 0 s.update.comp 16 0 else s

/-- Pages that outlived their session and are not final are frogged at an entry too (R391): an orphan that the safe state put back to VERIFIED. -/
def State.frogRest (s : State) : State := s.jobs.pages.foldl (fun s p => if p.st.final then s else s.froggedBy p.num 3) s

/-- The entry sequence (R389) once the reply is sent: `st` 1 DEEP, 2 KEEP. In DEEP, 0x8010:03 holds what the boot will show (R418). -/
def State.sleep (s : State) (st : Nat) : State :=
  let prev := s.reg 0x0030 2
  let s1 := ((s.set 0x0030 2 st).set 0x0030 4 1).raise 3 0 (st + prev * 16 + 1 * 256)
  let s2 := ((s1.msp.sessions.map (·.1)).foldl State.endSession s1).frogRest
  let s3 := { s2 with msp := { s2.msp with opening := [] } }.dmaStopAll
  let s4 := ((((upTo 20).foldl State.linkStop s3).heTo 0 0).heTo 1 0).abandonUpdate
  let s5 := (s4.storeAxes).storeEntry prev
  let s6 := if s5.reg 0x0020 0 = 0 then s5 else (s5.set 0x0020 0 0).raise 2 0 0
  let s7 := { s6 with render := { s6.render with cache := [] }, lanes := [], cmps := [], dram := { s6.dram with trained := false } }
  if st = 1 then { s7.set 0x8010 3 s.abandonShown with mem := [], memBad := [], aon := { s7.aon with keepEn := false, mainEn := false }, boot := { s7.boot with phase := .deep } }
  else { s7 with aon := { s7.aon with mainEn := false }, boot := { s7.boot with phase := .keep } }

/-- A usable wake source is enabled (R390): for DEEP WAKE_N and the alarm, for KEEP also the wake frame. -/
def State.wakeUsable (s : State) (st : Nat) : Bool :=
  let e := s.reg 0x0031 1
  bit e 0 || bit e 1 || (st == 2 && bit e 2)

/-- A write of 0x0030:01 (R388): 1 DEEP, 2 KEEP, 3 IDLE, 4 RUN. -/
def State.powerRequest (s : State) (want : Nat) : State × Bool :=
  let cur := s.reg 0x0030 2
  let result := fun (r : Nat) => (s.set 0x0030 3 r, r == 0)
  if s.boot.due ≠ .none then result 3
  else if want = cur then result 0
  else if cur = 4 ∧ s.pagesActive then result 2
  else if want ≥ 3 then
    ((((s.set 0x0030 3 0).set 0x0030 2 want).set 0x0030 4 1).raise 3 0 (want + cur * 16 + 1 * 256), true)
  else if [0, 1, 2, 3].any (fun a => [2, 3, 4].contains (s.axisState a)) || s.settingsBusy || !s.wakeUsable want then result 1
  else ({ s.set 0x0030 3 0 with boot := { s.boot with due := .sleep want } }, true)

/-! ## Wake (R390, R391) -/

/-- Exit from KEEP by a source: 1 WAKE_N, 2 RTC alarm, 3 wake frame. DRAM must train again before it is ready. A lost backup store leaves reason 0 (R392). -/
def State.keepExit (s : State) (source : Nat) : State :=
  let lost := s.backupLost
  let reason := if lost then 0 else source + 1
  let s1 := { s with boot := { s.boot with phase := .run }, aon := { s.aon with mainEn := true } }
  let s2 := ((s1.set 0x0030 2 3).set 0x0031 4 source).raise 5 0 (source + s1.clk.lf % 2 ^ 40 * 256)
  let s3 := ((s2.raise 3 0 (3 + 2 * 16 + reason * 256)).restoreAxes lost).noteReason reason
  let s4 := (s3.setReady 36 true).setReady 37 (decide (16 ≤ ((upTo 24).countP fun i => !bit (s3.reg 0x0060 5) i)))
  ((((s4.heStart 0).heStart 1).fopReady).posCheck).motCheck

/-- Exit from DEEP: a boot (R388, R391), of cause 8 with the backup store intact, else of cause 1 (R405). -/
def State.deepExit (s : State) (source : Nat) : State :=
  State.romBoot 4 { s with aon := { s.aon with keepEn := true, mainEn := true }, boot := { s.boot with railsOk := true } } (if s.backupLost then 1 else 8) source (s.reg 0x8010 3)

/-- A wake source acts if it is enabled and usable in the present state (R390). -/
def State.wake (s : State) (source : Nat) : State :=
  if !bit (s.reg 0x0031 1) (source - 1) then s
  else match s.boot.phase with
    | .keep => s.keepExit source
    | .deep => if source = 3 then s else s.deepExit source
    | _ => s

/-- WAKE_N low for t_WK. -/
def State.wakePin (s : State) : State := s.wake 1

/-- RTC_ALARM: the first LFCLK tick at which the counter is at or above an alarm that is on. -/
def State.rtcAlarm (s : State) : State := if s.reg 0x0031 2 ≠ 0 ∧ s.reg 0x0031 2 ≤ s.clk.lf then s.wake 2 else s

/-- WAKE_FRAME: a FOP WRITE of 3 to 0x0030:01 that passes steps 1 and 2 of R49; nothing is counted and it is not answered (R49, R390). -/
def State.wakeFrame (s : State) (p : Peer) : State :=
  if s.boot.phase = .keep ∧ s.reaches p = true ∧ s.allowed p = true then s.wake 3 else s

/-! ## The end of a command -/

/-- What falls due once the reply is sent. -/
def State.fallDue (s : State) : State :=
  let s1 := { s with boot := { s.boot with due := .none } }
  match s.boot.due with
  | .none => s1
  | .sleep st => s1.sleep st
  | .reset cause => s1.restart cause

/-- The end of a command: its occurrences, then what is due and its occurrences. -/
def State.conclude (s : State) : State := if s.settle.boot.due = .none then s.settle else s.settle.fallDue.settle

/-- A command done: the next state. -/
def done (s : State) : Host.Outcome State Fault Refusal := .next s.conclude

end Sys2Proof.Machine
end

