-- ==== Sys2Proof/Machine/Update.lean ====
section
/-! DEFINITION. The update service: container checks (R416, R417, R419), its states (R418, R421, R422), revert (R424). -/

namespace Sys2Proof.Machine

/-! ## Container checks (R416, R417, R419) -/

/-- Builds the target of a delta payload (R417): `out` is the output so far, reversed by chunk. -/
def deltaBuild (base : Bytes) (target : Nat) : Nat → Bytes → List Bytes → Nat → Option Bytes
  | 0, _, _, _ => none
  | fuel + 1, p, out, len =>
    match p with
    | [] => none
    | 0x00 :: rest => if rest.isEmpty && len == target then some out.reverse.flatten else none
    | 0x01 :: rest =>
      let o := leAt rest 0 4
      let n := leAt rest 4 4
      if rest.length < 8 ∨ n = 0 ∨ base.length < o + n ∨ target < len + n then none
      else deltaBuild base target fuel (rest.drop 8) (slice base o n :: out) (len + n)
    | 0x02 :: rest =>
      let o := leAt rest 0 4
      let n := leAt rest 4 4
      if rest.length < 8 + n ∨ n = 0 ∨ base.length < o + n ∨ target < len + n then none
      else deltaBuild base target fuel (rest.drop (8 + n)) (List.zipWith (· + ·) (slice base o n) (slice rest 8 n) :: out) (len + n)
    | 0x03 :: rest =>
      let n := leAt rest 0 4
      if rest.length < 4 + n ∨ n = 0 ∨ target < len + n then none
      else deltaBuild base target fuel (rest.drop (4 + n)) (slice rest 4 n :: out) (len + n)
    | _ => none

/-- FORMAT (3): magic, format, component, kind, lengths. -/
def formatGood (b : Bytes) : Bool :=
  decide (256 ≤ b.length) && leAt b 0 4 == 0x4B594450 && leAt b 4 2 == 1 && decide (1 ≤ leAt b 6 1) && decide (leAt b 6 1 ≤ 4)
    && decide (leAt b 7 1 ≤ 1) && b.length == 256 + leAt b 84 4 && (leAt b 7 1 == 1 || leAt b 84 4 == leAt b 80 4)

/-- Codes 3, 4, 5 and 11 of R419, in order; 0 where all pass. -/
def headCode (b : Bytes) : Nat :=
  if !formatGood b then 3
  else if !headerKey b then 4
  else if !headerSigned b then 5
  else if slotSize (leAt b 6 1) < leAt b 80 4 + 256 then 11
  else 0

/-- Code 8 (TARGET) of a built image, or 0. -/
def targetCode (h image : Bytes) : Nat := if image.length = leAt h 80 4 ∧ sha256 image = slice h 48 32 then 0 else 8

/-- The checks of R419 on a container: the first code that fails, or the image that it builds. -/
def State.containerCheck (s : State) (b : Bytes) : Except Nat Bytes :=
  let c := leAt b 6 1
  let h := b.take 256
  match headCode b with
  | 0 =>
    let built : Except Nat Bytes :=
      if leAt b 7 1 = 0 then .ok (b.drop 256)
      else
        let run := s.running0 c
        if s.reg 0x8001 c = 0 ∨ leAt h 12 4 ≠ leAt run 8 4 ∨ slice h 16 32 ≠ slice run 48 32 then .error 6
        else match deltaBuild (s.slotImage c (s.runSlot c)) (leAt h 80 4) (b.length) (b.drop 256) [] 0 with
          | some i => .ok i
          | none => .error 7
    match built with
    | .error e => .error e
    | .ok image =>
      if targetCode h image ≠ 0 then .error 8
      else if !s.compatibleWith c h then .error 9
      else if c = 1 ∧ (s.reg 0x0040 3 < leAt h 92 4 ∨ leAt h 88 4 < s.reg 0x0040 3) then .error 10
      else .ok image
  | e => .error e

/-! ## States (R418) -/

/-- State of the update service. -/
def State.updState (s : State) : Nat := s.reg 0x8010 4
/-- Shows a result; the Bool says whether the command was accepted. -/
def State.updResult (s : State) (r : Nat) : State × Bool := (s.set 0x8010 3 r, r == 0)
/-- A change of state of the update service: E255 of a kind. -/
def State.updTo (s : State) (st kind result : Nat) : State :=
  ((s.set 0x8010 4 st).set 0x8010 3 result).fwEvent kind s.update.comp result (leAt s.update.header 8 4)

/-- UPDATE_VERIFY (command 1). -/
def State.updVerify (s : State) : State × Bool :=
  if s.updState ≠ 0 then s.updResult 1
  else ((({ s with update := ⟨[], [], 0, 0, 0, [], false⟩ }).set 0x8010 7 0).updTo 1 0 0, true)

/-- The container staged in 0x8020, by its staged length. -/
def State.staged (s : State) : Bytes := s.domRead 0x8020 0 0 (s.reg 0x8010 2)

/-- UPDATE_CHECKS_COMPLETE: the checks end. -/
def State.updChecked (s : State) : State :=
  if s.updState ≠ 1 then s
  else match s.containerCheck s.staged with
    | .error e => s.updTo 0 0 e
    | .ok image =>
      let h := s.staged.take 256
      let c := leAt h 6 1
      let s1 := { s with update := ⟨h, image, c, 0, 0, [], false⟩ }
      (((s1.set 0x8010 5 c).set 0x8010 6 (leAt h 8 4)).set 0x8010 7 image.length).updTo 2 1 0

/-- UPDATE_INSTALL (command 2): the inactive slot is marked EMPTY and written. -/
def State.updInstall (s : State) : State × Bool :=
  let c := s.update.comp
  let run := s.slotState c (s.runSlot c)
  if s.updState ≠ 2 ∨ run = 2 ∨ run = 3 then s.updResult 1
  else
    let slot := 1 - s.activeSlot c
    let s1 := { s.slotTo c slot 0 0 with update := { s.update with slot := slot } }
    ((s1.set 0x8010 7 0).updTo 3 0 0, true)

/-- Writes header and image into a slot and marks it, with version, length and hash. -/
def State.slotFill (s : State) (c slot st : Nat) (h image : Bytes) : State :=
  (s.flashWrite (slotAddr c slot) (h ++ image)).dirEdit c
    [(2 + slot, leBytes 1 st), (4 + 4 * slot, slice h 8 4), (12 + 4 * slot, leBytes 4 image.length), (20 + slot, [0]), (32 + 32 * slot, slice h 48 32)]

/-- INSTALL_READBACK_COMPLETE: the slot reads back matching, or flash failed. The install works through a DMA channel it claims (R364). -/
def State.updInstalled (s : State) (good : Bool) : State :=
  if s.updState ≠ 3 || !s.dmaClaimed then s
  else if good then
    ((s.slotFill s.update.comp s.update.slot 1 s.update.header s.update.image).set 0x8010 7 (256 + s.update.image.length)).updTo 4 2 0
  else s.updTo 0 0 12

/-- Activates the slot of an installed or reverted image (R418, R422): by a reset for the SC, at the boundary for the others. -/
def State.updGo (s : State) : State × Bool :=
  if s.update.comp ≠ 1 then (s.updTo 5 0 0, true)
  else if s.pagesActive || [0, 1, 2, 3].any (fun a => [2, 3, 4].contains (s.axisState a)) || s.settingsBusy then s.updResult 2
  else
    let s1 := s.dirEdit 1 [(1, leBytes 1 s.update.slot), (2 + s.update.slot, [2]), (20 + s.update.slot, [0])]
    ({ s1.set 0x8010 3 0 with boot := { s1.boot with due := .reset 4 } }, true)

/-- UPDATE_ACTIVATE (command 3). -/
def State.updActivate (s : State) : State × Bool := if s.updState ≠ 4 then s.updResult 1 else s.updGo

/-- Ready bits that a component serves (R414). -/
def servedBits (c : Nat) : List Nat :=
  match c with
  | 2 => (upTo 4).map (10 + ·)
  | 3 => (upTo 20).map (16 + ·)
  | 4 => [14, 15, 1, 2]
  | _ => []

/-- A boundary of the component (R421): for the render microcode one that a generation swap could take; for the head-port sequencer one with no frame in progress on a port's lane; for the motion and time firmware any tick. -/
def State.atBoundary (s : State) (c : Nat) : Bool :=
  if c = 2 then !s.render.jobs.any s.renderUnderWay
  else if c = 3 then !s.wire.any fun e => decide (e.1 < 64) && !e.2.rest.isEmpty
  else true

/-- Switches back from a trial that failed (R418): the slot REJECTED with reason 15, kinds 5 and 6. -/
def State.updBack (s : State) : State :=
  let u := s.update
  let old := leAt (s.slotHeader u.comp (1 - u.slot)) 8 4
  let s1 := (s.slotTo u.comp u.slot 5 15).dirEdit u.comp [(1, leBytes 1 (1 - u.slot))]
  ((s1.set 0x8001 u.comp old).updTo 0 5 15).fwEvent 6 u.comp 15 old

/-- ACTIVATION_BOUNDARY (R418, R421): the slot of an update becomes active and TRIAL and the component switches to it, or a trial that failed is switched back. The ready bits that the component serves are noted for the self-check. -/
def State.updBoundary (s : State) : State :=
  let u := s.update
  if !s.atBoundary u.comp then s
  else if s.updState = 6 ∧ u.failing = true then s.updBack
  else if s.updState ≠ 5 then s
  else
    let s1 := s.dirEdit u.comp [(1, leBytes 1 u.slot), (2 + u.slot, [2]), (20 + u.slot, [0])]
    ({ s1.set 0x8001 u.comp (leAt u.header 8 4) with update := { u with trial := s.clk.now, served := (servedBits u.comp).filter s.ready } }).updTo 6 3 0

/-- TRIAL_SELF_CHECK (R418, R421): the component reports running within 1 s and none of the ready bits it serves has fallen, or the old image is switched back in, at the same kind of boundary. -/
def State.updTrial (s : State) (good : Bool) : State :=
  let u := s.update
  if s.updState ≠ 6 ∨ u.failing = true then s
  else if good && decide (s.clk.now ≤ u.trial + 1000000000) && u.served.all s.ready then (s.slotTo u.comp u.slot 4 0).updTo 0 4 0
  else if s.atBoundary u.comp then s.updBack
  else { s with update := { u with failing := true } }

/-- UPDATE_REVERT (command 4, R424): the other slot of component 0x8010:08. -/
def State.updRevert (s : State) : State × Bool :=
  if s.updState ≠ 0 then s.updResult 1
  else
    let c := s.reg 0x8010 8
    let slot := 1 - s.activeSlot c
    if s.slotSound c slot && s.slotVerifies c slot && s.compatibleWith c (s.slotHeader c slot) then
      let s1 := { s with update := ⟨s.slotHeader c slot, [], c, slot, 0, [], false⟩ }
      let r := s1.updGo
      if r.2 then r else s.updResult 2
    else s.updResult 17

/-- UPDATE_ABORT (command 5). -/
def State.updAbort (s : State) : State × Bool :=
  if s.updState = 2 then (s.updTo 0 0 0, true)
  else if s.updState = 4 then ((s.slotTo s.update.comp s.update.slot 0 0).updTo 0 0 0, true)
  else s.updResult 1

end Sys2Proof.Machine
end

