-- ==== Sys2Proof/Machine/Recovery.lean ====
section
/-! DEFINITION. ROM recovery (R425): the TFTP server (R426) and the recovery UART (R427). -/

namespace Sys2Proof.Machine

/-- ASCII bytes of a string. -/
def ascii (t : String) : Bytes := t.toList.map fun c => BitVec.ofNat 8 c.toNat

/-- A file name of recovery: components 1 to 4, 5 for "reset" (R426). -/
def recoveryName (b : Bytes) : Option Nat :=
  if b = ascii "sc" then some 1
  else if b = ascii "render" then some 2
  else if b = ascii "hpseq" then some 3
  else if b = ascii "motion" then some 4
  else if b = ascii "reset" then some 5
  else none

/-- Recovery runs over TFTP (false) or the UART (true): strap RECOVERY_IF. -/
def State.recovers (s : State) (uart : Bool) : Bool := s.boot.phase == .recovery && bit s.boot.straps 2 == uart

/-- The result code of a container in recovery (R425): full containers of the named component, codes 3 to 5, 11 and 8. -/
def recoveryCode (c : Nat) (b : Bytes) : Nat :=
  match headCode b with
  | 0 => if leAt b 7 1 ≠ 0 ∨ leAt b 6 1 ≠ c then 3 else targetCode (b.take 256) (b.drop 256)
  | e => e

/-- Writes a good container (R425): slot A where neither slot is VALID or CONFIRMED, else the slot not active; active, TRIAL for the SC, VALID for the others. -/
def State.recoveryWrite (s : State) (b : Bytes) : State :=
  let c := leAt b 6 1
  let slot := if s.slotSound c 0 || s.slotSound c 1 then 1 - s.activeSlot c else 0
  (s.slotFill c slot (if c = 1 then 2 else 1) (b.take 256) (b.drop 256)).dirEdit c [(1, leBytes 1 slot)]

/-- The end of recovery (R425): the count is cleared, reset with cause 6. -/
def State.recoveryEnd (s : State) : State :=
  { s with aon := { s.aon with failed := 0 }, recovery := State.reset.recovery, boot := { s.boot with due := .reset 6 } }

/-- Room for a file: the slot of its component; a reset file carries nothing that is kept. -/
def fileRoom (name : Nat) : Nat := if name = 5 then 2 ^ 32 else slotSize name

/-! ## TFTP (R426, RFC 1350) -/

/-- An ERROR packet. -/
def tftpError (code : Nat) (text : Bytes) : Bytes := beBytes 2 5 ++ beBytes 2 code ++ text ++ [0]
/-- Sends an ERROR to a peer. -/
def State.tftpNo (s : State) (p : Peer) (code : Nat) (text : Bytes) : State := s.send (.tftp p) (tftpError code text)
/-- Sends the ACK of block n to the transfer's peer and keeps the time. -/
def State.tftpAck (s : State) (p : Peer) (n : Nat) : State :=
  let s1 := s.send (.tftp p) (beBytes 2 4 ++ beBytes 2 n)
  { s1 with recovery := { s1.recovery with sent := s.clk.now, sends := 0 } }
/-- The transfer ends. -/
def State.tftpClose (s : State) : State := { s with recovery := { s.recovery with peer := none, data := [], block := 0 } }

/-- TFTP_WRQ; `read` is a read request. -/
def State.tftpRequest (s : State) (p : Peer) (name : Bytes) (octet read : Bool) : State :=
  if !s.recovers false then s
  else if read then s.tftpNo p 2 []
  else if s.recovery.peer.isSome then s.tftpNo p 0 (ascii "BUSY")
  else match recoveryName name with
    | none => s.tftpNo p 1 []
    | some n =>
      if !octet then s.tftpNo p 4 []
      else ({ s with recovery := { s.recovery with peer := some p, name := n, data := [], block := 1 } }).tftpAck p 0

/-- Decimal digits of a result code. -/
def decimal (n : Nat) : Bytes := ascii (toString n)

/-- The end of a file: the container is checked and written, or recovery ends. -/
def State.tftpEnd (s : State) (p : Peer) (n : Nat) : State :=
  let r := s.recovery
  if r.name = 5 then ((s.tftpAck p n).tftpClose).recoveryEnd
  else
    let code := recoveryCode r.name r.data
    if code = 0 then ((s.recoveryWrite r.data).tftpAck p n).tftpClose
    else (s.tftpNo p 0 (ascii "KYD" ++ decimal code)).tftpClose

/-- TFTP_DATA: blocks of 512 bytes, the shorter one last; a block received before is acknowledged again, a stranger is answered with code 5 (RFC 1350). -/
def State.tftpBlock (s : State) (p : Peer) (n : Nat) (d : Bytes) : State :=
  if !s.recovers false then s
  else if s.recovery.peer ≠ some p then s.tftpNo p 5 []
  else if n + 1 = s.recovery.block then s.tftpAck p n
  else if n ≠ s.recovery.block ∨ 512 < d.length then s
  else if fileRoom s.recovery.name < s.recovery.data.length + d.length then (s.tftpNo p 3 []).tftpClose
  else
    let s1 := { s with recovery := { s.recovery with data := s.recovery.data ++ d, block := wrapAdd 16 n 1 } }
    if d.length = 512 then s1.tftpAck p n else s1.tftpEnd p n

/-- TFTP_RETRANSMIT: 1 s after the last answer, up to 5 times; then the transfer is given up. -/
def State.tftpAgain (s : State) : State :=
  match s.recovery.peer with
  | none => s
  | some p =>
    if !s.recovers false || decide (s.clk.now < s.recovery.sent + 1000000000) then s
    else if 5 ≤ s.recovery.sends then s.tftpClose
    else
      let k := s.recovery.sends + 1
      let s1 := s.tftpAck p ((s.recovery.block + 65535) % 65536)
      { s1 with recovery := { s1.recovery with sends := k } }

/-! ## Recovery UART (R427) -/

/-- An ANSWER frame: type answered, status, result code, next expected offset. -/
def State.uartAnswer (s : State) (ty status result : Nat) : State :=
  let b := [BitVec.ofNat 8 0x80] ++ leBytes 2 8 ++ leBytes 1 ty ++ leBytes 1 status ++ leBytes 1 result ++ [0] ++ leBytes 4 s.recovery.data.length
  s.send .uart ([0x7E] ++ b ++ leBytes 4 (crc32c b))

/-- A frame that the ROM takes: recovery over the UART, CRC right. -/
def State.uartTakes (s : State) (good : Bool) : Bool := s.recovers true && good

/-- UART_OPEN: a name opens a transfer, anew if one was open. -/
def State.uartOpen (s : State) (good : Bool) (name : Bytes) : State :=
  if !s.uartTakes good then s
  else match recoveryName name with
    | none => s.uartAnswer 1 1 0
    | some n => ({ s with recovery := { s.recovery with uart := some n, data := [] } }).uartAnswer 1 0 0

/-- UART_DATA: offset, then 1 to 1,024 bytes, in offset order as in R54: an offset below the next is a repeat. -/
def State.uartData (s : State) (good : Bool) (body : Bytes) : State :=
  if !s.uartTakes good then s
  else match s.recovery.uart with
    | none => s.uartAnswer 2 2 0
    | some n =>
      let off := leAt body 0 4
      let d := body.drop 4
      let have_ := s.recovery.data.length
      if body.length < 5 ∨ 1028 < body.length ∨ have_ < off then s.uartAnswer 2 2 0
      else if off < have_ then s.uartAnswer 2 0 0
      else if fileRoom n < have_ + d.length then s.uartAnswer 2 3 0
      else ({ s with recovery := { s.recovery with data := s.recovery.data ++ d } }).uartAnswer 2 0 0

/-- UART_CLOSE: the total length ends the transfer; the container is checked and written; a "reset" file ends recovery. -/
def State.uartClose (s : State) (good : Bool) (body : Bytes) : State :=
  if !s.uartTakes good then s
  else match s.recovery.uart with
    | none => s.uartAnswer 3 2 0
    | some n =>
      if body.length ≠ 4 ∨ leAt body 0 4 ≠ s.recovery.data.length then s.uartAnswer 3 2 0
      else
        let b := s.recovery.data
        let shut := fun (s : State) => { s with recovery := { s.recovery with uart := none } }
        if n = 5 then (shut (s.uartAnswer 3 0 0)).recoveryEnd
        else
          let code := recoveryCode n b
          if code = 0 then shut ((s.recoveryWrite b).uartAnswer 3 0 0) else shut (s.uartAnswer 3 4 code)

/-- UART_RESET: recovery ends. -/
def State.uartReset (s : State) (good : Bool) : State :=
  if !s.uartTakes good then s else (s.uartAnswer 4 0 0).recoveryEnd

end Sys2Proof.Machine
end

