-- ==== Sys2Proof/Machine/Queues.lean ====
section
/-! DEFINITION. Commands of press control on rings (R69, R72), on event sources (R61) and on the print queue (R97, R100). -/

namespace Sys2Proof.Machine

/-! ## Rings (R67, R69, R72) -/

/-- Keeps the last result of a queue command (:0A) and answers with a status. -/
def State.queueResult (s : State) (q r status : Nat) : State × Nat := (s.set (0x7C00 + q) 0x0A r, status)

/-- QUEUE_ALLOCATE (R67, R72). -/
def State.queueAllocate (s : State) (q : Nat) : State × Nat :=
  let k := s.reg (0x7C00 + q) 1
  if !clientQueue q then s.queueResult q 1 St.refused
  else if Ring.active s.ev q then s.queueResult q 2 St.refused
  else if k = 0 then s.queueResult q 3 St.refused
  else if ringMemory < s.ev.ringUsed + 2 ^ k then (s, St.noSpace)
  else ({ s with ev := s.ev.ringAllocate q k }).queueResult q 0 St.ok

/-- QUEUE_RELEASE (R72): only an empty ring. -/
def State.queueRelease (s : State) (q : Nat) : State × Nat :=
  if !clientQueue q then s.queueResult q 1 St.refused
  else if !Ring.active s.ev q || Ring.held s.ev q != 0 then s.queueResult q 4 St.refused
  else ({ s with ev := s.ev.ringRelease q }).queueResult q 0 St.ok

/-- An index write that is refused (R69): RANGE and E252 with cause 4; a queue that is not allocated raises nothing. -/
def State.indexRefused (s : State) (q v : Nat) : State × Nat :=
  (if Ring.active s.ev q then s.raiseAt 252 2 (q + v % 2 ^ 32 * 2 ^ 8 + 4 * 2 ^ 40) 5 2 0 0 else s, St.range)

/-- Distance of an index ahead of CI, modulo 2^32. -/
def State.ahead (s : State) (q v : Nat) : Nat := (v + 2 ^ 32 - s.reg (0x7C00 + q) 3) % 2 ^ 32

/-- PRODUCER_INDEX_WRITE by software (R69): not past N descriptors, not backward. -/
def State.producerWrite (s : State) (q v : Nat) : State × Nat :=
  if Ring.active s.ev q && decide (Ring.held s.ev q ≤ s.ahead q v) && decide (s.ahead q v ≤ Ring.size s.ev q) then (s.set (0x7C00 + q) 2 v, St.ok)
  else s.indexRefused q v

/-- CONSUMER_INDEX_WRITE by software (R69): not backward, not past PI. -/
def State.consumerWrite (s : State) (q v : Nat) : State × Nat :=
  if Ring.active s.ev q && decide (s.ahead q v ≤ Ring.held s.ev q) then (s.set (0x7C00 + q) 3 v, St.ok)
  else s.indexRefused q v

/-- EVENT_CLEAR (R60). -/
def State.eventClear (s : State) (n : Nat) : State := s.set (0x7A00 + n) 4 0

/-- A queue that an event may be routed to (R60, R62): in the listed ranges and allocated. -/
def State.eventRing (s : State) (q : Nat) : Bool :=
  (decide (64 ≤ q) && decide (q ≤ 127) || decide (192 ≤ q) && decide (q ≤ 199) || decide (224 ≤ q) && decide (q ≤ 255)) && Ring.active s.ev q

/-! ## The print queue (R97, R100) -/

/-- Keeps the last result of a print queue command (0x4881:04). -/
def State.printResult (s : State) (r : Nat) : State × Bool := (s.set 0x4881 4 r, r == 0)

/-- QUEUE_FROG: press control frogs the target page; E179 with origin 2. -/
def State.queueFrog (s : State) : State × Bool :=
  let num := s.reg 0x4881 1
  match s.page num with
  | none => s.printResult 1
  | some _ =>
    let (s1, ok) := s.frogPage num 2 false
    s1.printResult (if ok then 0 else 2)

/-- A page that a move may take or stand before: in the queue and not RELEASED or PRINTING. -/
def State.movable (s : State) (num : Nat) : Bool :=
  s.jobs.queue.contains num && (match s.page num with | some p => !p.st.active | none => false)

/-- The queue with a page before another, or at the tail. -/
def movedBefore (l : List Nat) (num : Nat) (ref : Option Nat) : List Nat :=
  let rest := l.filter fun n => n != num
  match ref with
  | none => rest ++ [num]
  | some r => if r = num then l else (rest.takeWhile fun n => n != r) ++ num :: rest.dropWhile fun n => n != r

/-- Moves the target (R97). -/
def State.queueMove (s : State) (ref : Option Nat) : State × Bool :=
  let num := s.reg 0x4881 1
  if (s.page num).isNone then s.printResult 1
  else if !s.movable num then s.printResult 2
  else if (match ref with | some r => !s.movable r | none => false) then s.printResult 3
  else ({ s with jobs := { s.jobs with queue := movedBefore s.jobs.queue num ref } }).printResult 0

/-- QUEUE_MOVE_BEFORE: the target goes before the reference page. -/
def State.queueBefore (s : State) : State × Bool := s.queueMove (some (s.reg 0x4881 2))
/-- QUEUE_MOVE_TO_TAIL. -/
def State.queueTail (s : State) : State × Bool := s.queueMove none

end Sys2Proof.Machine
end

