-- ==== Sys2Proof/Machine/Values.lean ====
section
/-! DEFINITION. Values of scalar objects as a reader finds them (those that the device computes, and every other one in its bank), the idle conditions of the writable ones (R10, R49 step 11), ranges that depend on state (step 12), and what a write does beside storing the value. -/

namespace Sys2Proof.Machine

/-! ## Reading -/

/-- Non-final pages of a namespace (0x5030 + s:06). -/
def State.pagesOf (s : State) (ns : Nat) : Nat := s.jobs.pages.countP fun p => p.ns == ns && !p.st.final && !p.orphan

/-- A field of a session shown in 0x5030 + s; 0 for a free one. -/
def State.sessValue (s : State) (n sub : Nat) : Nat :=
  match s.sess n with
  | none => 0
  | some x =>
    match sub with
    | 1 => x.st
    | 2 => x.slot
    | 4 => x.charge
    | 5 => if x.st = 1 then s.linesHeld x.ns else 0
    | 6 => if x.st = 1 then s.pagesOf x.ns else 0
    | _ => x.replies

/-- Fault status (R383): bit 7 CAUSE says that a cause is present. -/
def State.faultStatus (s : State) : Nat := setBit (s.reg 0x7800 1) 7 (s.reg 0x7800 4 != 0)

/-- Barrier state (0x8830:02): 1 open on the master, 2 waiting for the own page. -/
def State.barrierState (s : State) : Nat :=
  if s.board.barrier.isSome then 1 else match s.board.vote with | some (_, false) => 2 | _ => 0

/-- Counts of encoder e in the last 1 ms, per second (0x2810 + e:09). -/
def State.countRate (s : State) (e : Nat) : Nat :=
  ((sget [] s.pos.rates e).countP fun t => decide (s.clk.now < t + 1000000)) * 1000

/-- Carrying limit of port n (0x3n01:09, R259): at the rate of its link while it is up, else at the rate set. -/
def State.carrying (s : State) (n : Nat) : Nat :=
  carryingLimit (if s.linkState n = 0 then s.reg (portIdx n) 2 else (s.link n).rate)

/-- Value of a scalar object. -/
def State.value (s : State) (idx sub : Nat) : Nat :=
  match idx, sub with
  | 0x0028, 3 => s.unit (s.reg 0x0028 1)
  | 0x0031, 3 => s.clk.lf % 2 ^ 48
  | 0x0050, 3 => s.factor
  | 0x1000, 1 => s.clk.now % 2 ^ 64
  | 0x1002, 1 => s.foreSec
  | 0x1002, 2 => s.foreNs
  | 0x1801, 0 => Config.macFn.toNat
  | 0x2820, 6 => s.row
  | 0x2820, 7 => s.pos.lam
  | 0x4000, 1 => s.rclk
  | 0x4010, 1 => s.render.active.num
  | 0x4010, 2 => match s.render.retained with | some g => g.num | none => 0
  | 0x4010, 7 => s.render.build.darn
  | 0x4010, 8 => s.render.buildSt.code + if s.deviceOwns then 128 else 0
  | 0x401D, 0 => s.render.active.darn
  | 0x4020, 1 => s.render.pending.length
  | 0x4800, 2 => s.freeChunks.length
  | 0x4800, 3 => doseBase
  | 0x4800, 4 => trailerBase
  | 0x4880, 1 => s.jobs.queue.length
  | 0x5001, 1 => (Config.macHe 0).toNat
  | 0x5001, 2 => (Config.macHe 1).toNat
  | 0x5070, 1 => s.msp.sessions.countP fun e => e.2.st == 1
  | 0x5070, 5 => 25165824 - s.bufferUsed
  | 0x6000, 5 => s.dramConf 0 + s.dramConf 1 * 2 ^ 8 + s.dramConf 2 * 2 ^ 16 + s.dramConf 3 / 100 * 2 ^ 24
  | 0x6000, 6 => s.dramCapacity
  | 0x6002, 2 => pageBlocks (s.reg 0x4800 1)
  | 0x6002, 3 => s.stashBlocks (s.reg 0x4800 1)
  | 0x6002, 4 => s.stashFree / blockBytes
  | 0x6002, 5 => s.blocksByLayout
  | 0x6003, 1 => 32 * s.dramConf 3
  | 0x6003, 2 => s.capOver s.pairsIn
  | 0x7800, 1 => s.faultStatus
  | 0x8800, 7 => s.presentMap
  | 0x8830, 2 => s.barrierState
  | 0xF000, 8 => s.windowSize
  | _, _ =>
    if 0x2810 ≤ idx ∧ idx ≤ 0x2811 ∧ sub = 9 then s.countRate (idx - 0x2810)
    else if 0x3000 ≤ idx ∧ idx < 0x4000 ∧ idx % 256 = 1 ∧ sub = 9 then s.carrying (idx / 256 % 16)
    else if 0x5030 ≤ idx ∧ idx < 0x5070 ∧ sub ≠ 7 then s.sessValue (idx - 0x5030) sub
    else if 0xF100 ≤ idx ∧ idx < 0xF110 ∧ sub = 4 ∧ (s.port (idx - 0xF100)).loopAt.isSome then s.loopChecked (idx - 0xF100) % 2 ^ 64
    else if 0xF100 ≤ idx ∧ idx < 0xF110 ∧ sub = 5 ∧ (s.port (idx - 0xF100)).loopAt.isSome then s.loopErrors (idx - 0xF100) % 2 ^ 64
    else if 0x7C00 ≤ idx ∧ idx < 0x7D00 ∧ sub = 9 then roles (idx - 0x7C00)
    else if 0x7900 ≤ idx ∧ idx < 0x7A00 ∧ s.ev.fstat 10 then 0
    else s.reg idx sub

/-- A STRING object (R41). -/
def stringValue (sub : Nat) : Bytes :=
  match sub with
  | 1 => ascii "Fjarum"
  | 2 => ascii "ZY2618"
  | 3 => ascii "B1"
  | _ => Config.serial.take 16

/-! ## Idle conditions (R10, R49 step 11) -/

/-- Axes are DISABLED, FAULT or RETAINED (R292). -/
def State.axesIdle (s : State) : Bool := [0, 1, 2, 3].all fun a => [0, 5, 6].contains (s.axisState a)

/-- The function that owns a scalar object is idle: the conditions that the chapters give for RWI objects, and for those of the trigger outputs and the build. -/
def State.idleFor (s : State) (idx sub : Nat) : Bool :=
  if 0x1030 ≤ idx ∧ idx ≤ 0x1033 then s.reg idx 7 != 1
  else if 0x3000 ≤ idx ∧ idx < 0x4000 then
    let n := idx / 256 % 16
    if idx % 256 = 0 then s.linkState n != 5 || s.unit (portUnit n) == 2 else !s.pagesActive
  else if 0x4030 ≤ idx ∧ idx ≤ 0x4037 then !s.pagesBeyond
  else if 0x7000 ≤ idx ∧ idx < 0x7400 then s.reg idx 6 == 0 || s.reg idx 6 == 2
  else if 0x7C00 ≤ idx ∧ idx < 0x7D00 then !Ring.active s.ev (idx - 0x7C00)
  else if 0x8800 ≤ idx ∧ idx < 0x8900 then !s.pagesActive
  else match idx, sub with
    | 0x1000, _ => !s.pagesActive
    | 0x2000, _ => s.axesIdle
    | 0x2870, _ => s.seqState == 0
    | 0x4010, _ => s.render.buildSt == .building && !s.deviceOwns
    | 0x4800, _ => s.jobs.pages.all fun p => p.chunks.isEmpty
    | 0x5000, _ => (s.msp.sessions.all fun e => e.2.st != 1) && s.msp.opening.isEmpty
    | 0x6010, _ => s.jobs.pages.all fun p => p.chunks.isEmpty
    | 0x8010, _ => s.updState == 0
    | 0xF000, _ => s.reg 0xF000 4 == 0
    | _, _ => !s.pagesActive

/-- A scalar object whose writes wait for the idle condition: RWI, trigger settings (R309), the darning count of the build. -/
def needsIdle (idx sub : Nat) (o : Obj) : Bool :=
  accessOf idx sub o == .rwi || (decide (0x1030 ≤ idx) && decide (idx ≤ 0x1033)) || (idx == 0x4010 && sub == 7)

/-- Feed objects, running value and configuration of a CRC unit are refused with BUSY while a channel owns it (R357). -/
def State.crcBusy (s : State) (idx sub : Nat) : Bool := decide (0x6820 ≤ idx) && decide (idx ≤ 0x6827) && sub != 9 && s.crcOwned (idx - 0x6820)

/-! ## Ranges (R49 steps 10 and 12) -/

/-- A value lies in the range of its object's row. -/
def inRange (o : Obj) (v : Nat) : Bool :=
  match o.ty, o.rng with
  | .b, _ => decide (v ≤ 1)
  | _, .any => true
  | _, .span lo hi => decide (lo ≤ v) && decide (v ≤ hi)
  | _, .oneOf l => l.contains v
  | _, .bits _ => true

/-- A value without the reserved bits of its object (R11). -/
def kept (o : Obj) (v : Nat) : Nat := match o.rng with | .bits m => v &&& m | _ => v

/-- A page-store size that the DRAM map holds and that leaves the stash charged its room (R212, R321). -/
def State.storeFits (s : State) (chunks : Nat) : Bool :=
  decide (pageBlocks chunks ≤ s.blocksNow) && decide (s.stashCharged ≤ s.stashBlocks chunks * blockBytes)

/-- A screen array of plane p with a field changed (R194): it fits, and error diffusion has jets in order. -/
def State.screenFits (s : State) (idx sub v : Nat) : Bool :=
  let at_ := fun k => if k = sub then v else s.reg idx k
  if sub = 4 ∨ sub = 5 ∨ sub = 6 then decide (2 ^ (at_ 5 + at_ 6) + at_ 4 ≤ 4194304)
  else if sub = 1 ∧ v = 1 then (edClash s.render.active.used fun p => p == idx - 0x4030).isNone
  else true

/-- Range conditions that depend on other objects or on state (R49 step 12). -/
def State.fitsState (s : State) (idx sub v : Nat) : Bool :=
  match idx, sub with
  | 0x0060, 1 => decide (v < s.reg 0x0060 2)
  | 0x0060, 2 => decide (s.reg 0x0060 1 < v)
  | 0x4800, 1 => s.storeFits v
  | 0x5801, 1 => decide (v < s.reg 0x5801 2)
  | 0x5801, 2 => decide (s.reg 0x5801 1 < v)
  | 0x5801, 3 => decide (v < s.reg 0x5801 4)
  | 0x5801, 4 => decide (s.reg 0x5801 3 < v)
  | 0x5802, 1 => decide (v < s.reg 0x5802 2)
  | 0x5802, 2 => decide (s.reg 0x5802 1 < v)
  | 0x6020, 2 => v != 2 || s.flag 0x6020 4
  | _, _ =>
    if 0x4030 ≤ idx ∧ idx ≤ 0x4037 then s.screenFits idx sub v
    else if 0x7A00 ≤ idx ∧ idx < 0x7B00 ∧ sub = 3 then s.eventRing v
    else true

/-! ## Writing -/

/-- PAGE_STORE_SIZE_WRITE (R197, R212): WAITING pages that need more chunks fail. -/
def State.storeSize (s : State) (v : Nat) : State :=
  let s1 := s.set 0x4800 1 v
  s1.jobs.pages.foldl (fun s p => if p.st = .waiting ∧ v < chunksOf p.len then s.fail p.num 4 else s) s1

/-- A write of the capacity of a storage class (R347): the level stays within it; a level below it lets the next overflow be told again. -/
def State.bucketCapacity (s : State) (idx v : Nat) : State :=
  let s1 := (s.set idx 1 v).set idx 3 (min (s.reg idx 3) v)
  if s.reg idx 3 < v then { s1 with integ := { s1.integ with spilt := sset false s1.integ.spilt (idx - 0x6800) false } } else s1

/-- Puts a scalar object into force with what its write does beside. -/
def State.put' (s : State) (idx sub v : Nat) : State :=
  match idx, sub with
  | 0x1000, 5 => s.timeSource v
  | 0x1010, 4 => s.domainEnable 0 v
  | 0x1011, 4 => s.domainEnable 1 v
  | 0x2000, 1 => ((s.set 0x2000 1 v).set 0x2000 6 (s.clk.now / (62500 * 2 ^ v))).motCheck
  | 0x2000, _ => (s.set idx sub v).motCheck
  | 0x2800, 1 => s.modeChange v
  | 0x2800, 2 => s.sourceChange v (s.reg 0x2800 3)
  | 0x2800, 3 => s.sourceChange (s.reg 0x2800 2) v
  | 0x2820, 1 => s.pitchChange v
  | 0x4010, 7 => { s with render := { s.render with build := { s.render.build with darn := v } } }
  | 0x4800, 1 => s.storeSize v
  | 0x5000, 1 => s.hostMode 0 v
  | 0x5000, 2 => s.hostMode 1 v
  | 0x8800, 6 => s.missingFault v
  | _, _ =>
    if 0x2840 ≤ idx ∧ idx ≤ 0x284F ∧ 5 ≤ sub then (s.keepFine (4 * (idx - 0x2840) + (sub - 5))).set idx sub v
    else if 0x3000 ≤ idx ∧ idx < 0x4000 ∧ idx % 256 = 3 then
      let s1 := s.set idx sub v
      if s1.linkState (idx / 256 % 16) = 5 then s1.tempPeriod (idx / 256 % 16) else s1
    else if 0x5010 ≤ idx ∧ idx ≤ 0x501F ∧ sub = 2 then s.credEnable (idx - 0x5010) v
    else if 0x6800 ≤ idx ∧ idx ≤ 0x680B ∧ sub = 1 then s.bucketCapacity idx v
    else if 0x6800 ≤ idx ∧ idx ≤ 0x680B ∧ sub = 2 then (s.set idx sub v).leakBase (idx - 0x6800)
    else if 0x6820 ≤ idx ∧ idx ≤ 0x6827 ∧ sub = 7 then s.crcPut (idx - 0x6820) v
    else if 0x6820 ≤ idx ∧ idx ≤ 0x6827 ∧ 0x0B ≤ sub ∧ sub ≤ 0x0E then s.crcFeed (idx - 0x6820) (leBytes (2 ^ (sub - 0x0B)) v)
    else if 0x7900 ≤ idx ∧ idx < 0x7A00 ∧ sub ≤ 2 then s.windowConfig (idx - 0x7900) sub v
    else s.set idx sub v

/-- A write of a scalar object from step 10 of R49 on: range, idle condition, ranges by state, then its effect and status. -/
def State.writeScalar (s : State) (idx sub v : Nat) : State × Nat :=
  match lookup idx sub with
  | none => (s, St.noSubindex)
  | some o =>
    if !inRange o v then (s, St.range)
    else if needsIdle idx sub o && !s.idleFor idx sub then (s, St.notIdle)
    else if s.crcBusy idx sub then (s, St.busy)
    else if !s.fitsState idx sub v then (s, St.range)
    else if 0x7C00 ≤ idx ∧ idx < 0x7D00 ∧ sub = 2 then s.producerWrite (idx - 0x7C00) v
    else if 0x7C00 ≤ idx ∧ idx < 0x7D00 ∧ sub = 3 then s.consumerWrite (idx - 0x7C00) v
    else (s.put' idx sub (kept o v), St.ok)

/-- A write of bytes of a DOMAIN object from step 11 on. -/
def State.writeDomain (s : State) (idx sub off : Nat) (b : Bytes) : State × Nat :=
  if !s.domIdle idx then (s, St.notIdle) else ((s.domWrite idx sub off b).rewatch idx sub, St.ok)

end Sys2Proof.Machine
end

