-- ==== Sys2Proof/Machine/Control.lean ====
section
/-! DEFINITION. What a WRITE of a CMD object does (R36): the action of each command object by its value. -/

namespace Sys2Proof.Machine

/-- The status of a CMD write: OK, or REFUSED under the object's own rules. -/
def asStatus (r : State × Bool) : State × Nat := (r.1, if r.2 then St.ok else St.refused)
/-- An action that is always accepted. -/
def accepted (s : State) : State × Nat := (s, St.ok)

/-- 0x0040:01 (R39): BUSY while a save or an erase runs. -/
def State.settingsCommand (s : State) (erase : Bool) : State × Nat :=
  if s.settingsBusy then (s, St.busy) else (if erase then s.settingsErase else s.settingsSave, St.ok)

/-- 0x6820 + u:06 (R354, R356): BUSY while a channel owns the unit (R357). -/
def State.crcCommand (s : State) (u : Nat) (compare : Bool) : State × Nat :=
  if s.crcOwned u then (s, St.busy) else (if compare then s.crcCompare u else s.crcReset u, St.ok)

/-- An axis command by its code (R275). -/
def State.axisCommand (s : State) (a v : Nat) : State × Bool :=
  s.axisRequest a (match v with
    | 1 => .enable
    | 2 => .disable
    | 3 => .move
    | 4 => .stop (s.decs 9)
    | 5 => .gear
    | 6 => .set
    | _ => .clear)

/-- An update command by its code (R418). -/
def State.updCommand (s : State) (v : Nat) : State × Bool :=
  match v with
  | 1 => s.updVerify
  | 2 => s.updInstall
  | 3 => s.updActivate
  | 4 => s.updRevert
  | _ => s.updAbort

/-- A print queue command by its code (R97). -/
def State.printCommand (s : State) (v : Nat) : State × Bool :=
  match v with
  | 1 => s.queueFrog
  | 2 => s.queueBefore
  | _ => s.queueTail

/-- A build command by its code (R185). -/
def State.buildCommand (s : State) (v : Nat) : State × Bool :=
  match v with
  | 1 => s.buildClone
  | 2 => s.buildCommit
  | _ => s.buildDiscard

/-- A DMA command by its code (R364). -/
def State.dmaCommand (s : State) (n v : Nat) : State × Bool :=
  match v with
  | 1 => s.dmaStart n
  | 2 => s.dmaStop n
  | _ => s.dmaResume n

/-- The action of a command object for a value in its range. -/
def State.command (s : State) (idx sub v : Nat) : State × Nat :=
  if idx = 0x0028 then asStatus (if v = 1 then s.unitTakeOut else s.unitReturn)
  else if idx = 0x0030 then asStatus (s.powerRequest v)
  else if idx = 0x0040 then s.settingsCommand (v == 2)
  else if idx = 0x1000 then asStatus s.rebaseCommand
  else if idx = 0x2820 then asStatus s.setRow
  else if idx = 0x2860 then asStatus s.tensionCommit
  else if idx = 0x2870 then asStatus (if v = 1 then s.seqArm else s.seqStop)
  else if idx = 0x4010 then asStatus (s.buildCommand v)
  else if idx = 0x4020 then accepted s.clearPending
  else if idx = 0x4881 then asStatus (s.printCommand v)
  else if idx = 0x6030 then asStatus (if v = 1 then s.retrainAll else s.retrainOne)
  else if idx = 0x7800 then asStatus (if v = 1 then s.faultClear else s.commandSafe)
  else if idx = 0x8000 then asStatus s.resetCommand
  else if idx = 0x8010 then asStatus (s.updCommand v)
  else if idx = 0x8840 then asStatus (s.userSend v)
  else if idx = 0xF000 then asStatus (if v = 1 then s.windowOpen else s.windowClose)
  else if 0x1030 ≤ idx ∧ idx ≤ 0x1033 then asStatus (if v = 1 then s.triggerArm (idx - 0x1030) else s.triggerDisarm (idx - 0x1030))
  else if 0x2100 ≤ idx ∧ idx < 0x2180 then
    let a := (idx - 0x2100) / 0x20
    asStatus (if sub = 2 then s.axisCommand a v else if v = 1 then s.gearAppend a else s.gearFlush a)
  else if 0x3000 ≤ idx ∧ idx < 0x4000 then asStatus (s.measCommand (idx / 256 % 16) (v == 2))
  else if 0x5030 ≤ idx ∧ idx < 0x5070 then asStatus (s.pressClose (idx - 0x5030))
  else if 0x6820 ≤ idx ∧ idx ≤ 0x6827 then s.crcCommand (idx - 0x6820) (v == 2)
  else if 0x7000 ≤ idx ∧ idx < 0x7400 then asStatus (s.dmaCommand ((idx - 0x7000) / 0x20) v)
  else if 0x7A00 ≤ idx ∧ idx < 0x7B00 then accepted (s.eventClear (idx - 0x7A00))
  else if 0x7C00 ≤ idx ∧ idx < 0x7D00 then (if v = 1 then s.queueAllocate (idx - 0x7C00) else s.queueRelease (idx - 0x7C00))
  else if 0xF100 ≤ idx ∧ idx < 0xF110 then asStatus (if v = 1 then s.loopStart (idx - 0xF100) else s.loopStop (idx - 0xF100))
  else (s, St.refused)

end Sys2Proof.Machine
end

