-- ==== Sys2Proof/Machine/Press.lean ====
section
/-! DEFINITION. FOP requests (R49, R51), segmented transfers (R53 to R56), ranged access (R57), notifications (R58), the client table's timers (R50), dropped datagrams. -/

namespace Sys2Proof.Machine

/-! ## Finding an object (R34, R49 steps 7 to 9) -/

/-- The row that stands for subindex 0 of an index with subindexes (R34). -/
def Obj.highest (idx : Nat) : Obj := ⟨idx, 1, 1, 0, 1, .u, 1, .ro, false, false, 0, .any⟩

/-- The object of a request, or NO_OBJECT, NO_SUBINDEX. -/
def findObject (idx sub : Nat) : Except Nat Obj :=
  match lookup idx sub with
  | some o => .ok o
  | none => if !indexExists idx then .error St.noObject else if sub = 0 then .ok (Obj.highest idx) else .error St.noSubindex

/-- Steps 7 to 9 for an object that is read (or, `write`, written): a status, or the object. -/
def State.reach (s : State) (idx sub : Nat) (ranged write : Bool) : Except Nat Obj :=
  match findObject idx sub with
  | .error e => .error e
  | .ok o =>
    let acc := accessOf idx sub o
    if ranged && !o.ranged then .error St.opcode
    else if idx = 0x8020 ∧ s.ready 6 = false then .error St.notReady
    else if write && acc == .ro then .error St.readOnly
    else if !write && acc == .wo then .error St.writeOnly
    else .ok o

/-- A status without a payload. -/
def State.answers (s : State) (status : Nat) : State × Nat × Bytes := (s, status, [])

/-- A write of an object by one client is refused while a transfer of another holds it (R55). -/
def State.lockedFor (s : State) (p : Peer) (key : Nat) : Bool := s.fop.xfers.any fun x => x.key == key && x.owner != p

/-! ## READ and WRITE -/

/-- READ. -/
def State.doRead (s : State) (idx sub : Nat) (payload : Bytes) : State × Nat × Bytes :=
  match s.reach idx sub false false with
  | .error e => s.answers e
  | .ok o =>
    if payload ≠ [] then s.answers St.length
    else if sub = 0 ∧ (lookup idx 0).isNone then (s, St.ok, leBytes 1 (highestSub idx))
    else match o.ty with
      | .str => (s, St.ok, stringValue sub)
      | .dom =>
        let n := s.domSize idx sub
        if 1024 < n then s.answers St.length else (s.readCheck idx 0 n, St.ok, s.domRead idx sub 0 n)
      | _ => (s, St.ok, leBytes o.size (if o.acc = .cmd then 0 else s.value idx sub))

/-- WRITE. -/
def State.doWrite (s : State) (p : Peer) (idx sub : Nat) (payload : Bytes) : State × Nat × Bytes :=
  match s.reach idx sub false true with
  | .error e => s.answers e
  | .ok o =>
    match o.ty with
    | .dom =>
      let n := s.domSize idx sub
      if 1024 < n ∨ payload.length ≠ n then s.answers St.length
      else if !contentsFit idx payload then s.answers St.range
      else if !s.domIdle idx then s.answers St.notIdle
      else if s.lockedFor p (obj idx sub) then s.answers St.busy
      else
        let r := s.writeDomain idx sub 0 payload
        (r.1, r.2, [])
    | _ =>
      if payload.length ≠ o.size then s.answers St.length
      else if o.acc = .cmd then
        if inRange o (leVal payload) then
          let r := s.command idx sub (leVal payload)
          (r.1, r.2, [])
        else s.answers St.range
      else
        let r := s.writeScalar idx sub (leVal payload)
        (r.1, r.2, [])

/-- A FOP request: R49 around an action on its object. -/
def State.request' (s : State) (m : FopMsg) (op : Nat) (act : State → Nat → Nat → Bytes → State × Nat × Bytes) : State :=
  s.serve m.head op (obj m.index.toNat m.sub.toNat) fun s => act s m.index.toNat m.sub.toNat m.payload

/-- READ (0x01). -/
def State.fopRead (s : State) (m : FopMsg) : State := s.request' m 1 State.doRead
/-- WRITE (0x02). -/
def State.fopWrite (s : State) (m : FopMsg) : State := s.request' m 2 fun s => s.doWrite m.head.peer

/-! ## Segmented transfers (R53 to R56) -/

/-- Opens a transfer: BUSY for a ninth or for an object that has one; a new handle. -/
def State.segOpen (s : State) (p : Peer) (idx sub : Nat) (write : Bool) (size : Nat) (data : Bytes) (reply : Nat → Bytes) : State × Nat × Bytes :=
  if 8 ≤ s.fop.xfers.length ∨ s.locked (obj idx sub) = true then s.answers St.busy
  else
    let (c, s1) := s.fresh
    let used := s1.fop.xfers.map (·.handle)
    let h := (((upTo 9).map fun i => (Config.choice c + i) % 65536).find? fun h => !used.contains h).getD 0
    ({ s1 with fop := { s1.fop with xfers := s1.fop.xfers ++ [⟨h, p, obj idx sub, write, size, data, false, s.clk.now, data⟩] } }, St.ok, reply h)

/-- SEG_READ_INIT (0x03): a DOMAIN object and its size. -/
def State.segReadInit (s : State) (p : Peer) (idx sub : Nat) (payload : Bytes) : State × Nat × Bytes :=
  match s.reach idx sub false false with
  | .error e => s.answers e
  | .ok o =>
    if payload ≠ [] ∨ o.ty ≠ .dom then s.answers St.length
    else
      let n := s.domSize idx sub
      s.segOpen p idx sub false n (s.domRead idx sub 0 n) fun h => leBytes 2 h ++ zeros 2 ++ leBytes 4 n

/-- SEG_WRITE_INIT (0x05): the total size must be the object's. -/
def State.segWriteInit (s : State) (p : Peer) (idx sub : Nat) (payload : Bytes) : State × Nat × Bytes :=
  match s.reach idx sub false true with
  | .error e => s.answers e
  | .ok o =>
    if payload.length ≠ 4 ∨ o.ty ≠ .dom ∨ leAt payload 0 4 ≠ s.domSize idx sub then s.answers St.length
    else if !s.domIdle idx then s.answers St.notIdle
    else s.segOpen p idx sub true (leAt payload 0 4) [] fun h => leBytes 2 h ++ zeros 2

/-- The open transfer of a handle, for the object and the client that opened it. -/
def State.transfer (s : State) (p : Peer) (key h : Nat) : Option Xfer :=
  s.fop.xfers.find? fun x => x.handle == h && x.key == key && x.owner == p

/-- Changes a transfer. -/
def State.updXfer (s : State) (h : Nat) (f : Xfer → Xfer) : State :=
  { s with fop := { s.fop with xfers := updWhere s.fop.xfers (fun x => x.handle == h) f } }
/-- Ends a transfer. -/
def State.endXfer (s : State) (h : Nat) : State := { s with fop := { s.fop with xfers := s.fop.xfers.filter fun x => x.handle != h } }

/-- A request on an open transfer: steps 7 and 8 (an abort neither reads nor writes the object), payload length, handle, direction; the message keeps the transfer alive. -/
def State.onTransfer (s : State) (p : Peer) (idx sub : Nat) (payload : Bytes) (fits abort : Bool) (dir : Option Bool)
    (act : State → Xfer → State × Nat × Bytes) : State × Nat × Bytes :=
  match findObject idx sub with
  | .error e => s.answers e
  | .ok _ =>
    if idx = 0x8020 ∧ s.ready 6 = false ∧ abort = false then s.answers St.notReady
    else if !fits then s.answers St.length
    else match s.transfer p (obj idx sub) (leAt payload 0 2) with
      | none => s.answers St.handle
      | some x => if dir.any fun w => w != x.isWrite then s.answers St.handle else act (s.updXfer x.handle fun x => { x with last := s.clk.now }) x

/-- A segment of n bytes stands at an offset of an object of a size (R53). -/
def segmentFits (size off n : Nat) : Bool := decide (off % 1024 = 0) && decide (off < size) && n == min 1024 (size - off)

/-- SEG_READ_DATA (0x04): read from the object as it stands (R56). -/
def State.segReadData (s : State) (p : Peer) (idx sub : Nat) (payload : Bytes) : State × Nat × Bytes :=
  s.onTransfer p idx sub payload (payload.length == 8) false (some false) fun s x =>
    let off := leAt payload 4 4
    let n := min 1024 (x.size - off)
    if !segmentFits x.size off n then s.answers St.length
    else
      let b := s.domRead idx sub off n
      ((s.readCheck idx off n).updXfer x.handle fun x => { x with data := patch x.data off b }, St.ok, leBytes 4 off ++ b)

/-- SEG_WRITE_DATA (0x06): accepted in offset order; below the next offset a repeat, above it SEQUENCE (R54). -/
def State.segWriteData (s : State) (p : Peer) (idx sub : Nat) (payload : Bytes) : State × Nat × Bytes :=
  s.onTransfer p idx sub payload (decide (8 ≤ payload.length)) false (some true) fun s x =>
    let off := leAt payload 4 4
    let d := payload.drop 8
    let next := x.data.length
    if !segmentFits x.size off d.length then s.answers St.length
    else if off < next then (s, St.ok, leBytes 4 next)
    else if next < off then (s, St.sequence, leBytes 4 next)
    else (s.updXfer x.handle fun x => { x with data := x.data ++ d }, St.ok, leBytes 4 (next + d.length))

/-- SEG_END (0x07): a write commits its shadow in one step, a read says whether the object changed (R54, R56). -/
def State.segEnd (s : State) (p : Peer) (idx sub : Nat) (payload : Bytes) : State × Nat × Bytes :=
  s.onTransfer p idx sub payload (payload.length == 8) false none fun s x =>
    let crc := leAt payload 4 4
    if x.isWrite then
      if x.data.length ≠ x.size ∨ crc32c x.data ≠ crc then s.answers St.domainCrc
      else
        let s1 := s.endXfer x.handle
        match s.reach idx sub false true with
        | .error e => s1.answers e
        | .ok _ =>
          if !contentsFit idx x.data then s1.answers St.range
          else
            let r := s1.writeDomain idx sub 0 x.data
            (r.1, r.2, if r.2 = St.ok then leBytes 4 crc else [])
    else
      let s1 := s.endXfer x.handle
      if x.changed || s.domRead idx sub 0 x.size != x.seen then s1.answers St.changed else (s1, St.ok, leBytes 4 (crc32c x.data))

/-- SEG_ABORT (0x08): the shadow, the handle and the lock go. -/
def State.segAbort (s : State) (p : Peer) (idx sub : Nat) (payload : Bytes) : State × Nat × Bytes :=
  s.onTransfer p idx sub payload (payload.length == 4) true none fun s x => (s.endXfer x.handle).answers St.ok

/-- SEG_WRITE_DATA with 16 of the same client unanswered is dropped and counted (R55); it is no message of its client (DESIGN CHOICE, log 91). -/
def State.segQueueFull (s : State) (h : FopHead) : State :=
  if !s.fopUp || !s.reaches h.peer then s
  else
    let s1 := s.fopCount
    if !s1.allowed h.peer then s1.count 0x1812 3 32 1 else s1.count 0x1812 5 32 1

/-- SEG_TRANSFER_TIMEOUT: 2,000 ms without a message (R55). -/
def State.segTimeout (s : State) (h : Nat) : State :=
  if s.fop.xfers.any fun x => x.handle == h && decide (x.last + 2000000000 ≤ s.clk.now) then s.endXfer h else s

/-! ## Ranged access (R57) -/

/-- RANGE_READ (0x0A). It counts the parity errors it finds (R342, R351). -/
def State.rangeRead (s : State) (idx sub : Nat) (payload : Bytes) : State × Nat × Bytes :=
  match s.reach idx sub true false with
  | .error e => s.answers e
  | .ok _ =>
    let off := leAt payload 0 4
    let n := leAt payload 4 2
    if payload.length ≠ 6 ∨ n = 0 ∨ 1024 < n then s.answers St.length
    else if s.domSize idx sub < off + n then s.answers St.range
    else (s.readCheck idx off n, St.ok, s.domRead idx sub off n)

/-- RANGE_WRITE (0x0B) on the live object. -/
def State.rangeWrite (s : State) (p : Peer) (idx sub : Nat) (payload : Bytes) : State × Nat × Bytes :=
  match s.reach idx sub true true with
  | .error e => s.answers e
  | .ok _ =>
    let off := leAt payload 0 4
    let d := payload.drop 4
    if payload.length < 5 ∨ 1024 < d.length then s.answers St.length
    else if s.domSize idx sub < off + d.length then s.answers St.range
    else if !s.domIdle idx then s.answers St.notIdle
    else if s.lockedFor p (obj idx sub) then s.answers St.busy
    else
      let r := s.writeDomain idx sub off d
      (r.1, r.2, [])

/-! ## Notifications (R58) -/

/-- The notification slot k. -/
def State.slot (s : State) (k : Nat) : NotifySlot := sget NotifySlot.empty s.ev.notify k
/-- Changes notification slot k. -/
def State.updSlot (s : State) (k : Nat) (f : NotifySlot → NotifySlot) : State :=
  { s with ev := { s.ev with notify := sset NotifySlot.empty s.ev.notify k (f (s.slot k)) } }

/-- NOTIFICATION_DROPPED for an event descriptor of slot k. -/
def State.dropNotice (s : State) (k : Nat) (d : Bytes) (hasTarget : Bool) : State :=
  { s with ev := s.ev.notifyDrop (Occ.plain (leAt d 24 1) 0 0 s.clk.now s.stampEpoch) k hasTarget }

/-- Shows the target of slot k in 0x1813. -/
def State.showTarget (s : State) (k : Nat) (p : Option Peer) : State :=
  s.setBytes 0x1813 (1 + k) 0 (match p with | some p => peerBytes p ++ leBytes 2 p.port.toNat ++ zeros 2 | none => zeros 20)

/-- SUBSCRIBE (0x09): takes a slot from whoever held it, or gives up a slot that the client holds; what waits in a slot without a target is dropped. -/
def State.subscribe (s : State) (p : Peer) (idx sub : Nat) (payload : Bytes) : State × Nat × Bytes :=
  match findObject idx sub with
  | .error e => s.answers e
  | .ok _ =>
    let k := leAt payload 0 1
    let op := leAt payload 1 1
    if payload.length ≠ 2 then s.answers St.length
    else if 3 < k ∨ 1 < op then s.answers St.range
    else if op = 1 then ((s.updSlot k fun n => { n with peer := some p }).showTarget k (some p)).answers St.ok
    else if (s.slot k).peer ≠ some p then s.answers St.ok
    else
      let n := s.slot k
      let s1 := (s.updSlot k fun _ => NotifySlot.empty).showTarget k none
      ((n.out.map (·.desc) ++ n.waiting).foldl (fun s d => s.dropNotice k d false) s1).answers St.ok

/-- Sends a NOTIFY; its index and subindex have no meaning the spec gives. -/
def State.sendNotice (s : State) (p : Peer) (tid : Nat) (d : Bytes) : State :=
  let (c, s1) := s.fresh
  s1.send (.fop (s.ownAddr p) p) (fopMessage 0x40 tid (Config.choice c % 2 ^ 24) 0 d)

/-- NOTIFY_SEND: the first notification that waits, while fewer than 8 are unacknowledged. Its transaction ID is one that no unacknowledged NOTIFY of any slot has (DESIGN CHOICE, log 14). -/
def State.notifySend (s : State) (k : Nat) : State :=
  let n := s.slot k
  match n.peer, n.waiting with
  | some p, d :: rest =>
    if !s.fopUp || !s.reaches p || decide (8 ≤ n.out.length) then s
    else
      let (c, s1) := s.fresh
      let used := [0, 1, 2, 3].flatMap fun j => (s.slot j).out.map (·.tid)
      let tid := (((upTo 33).map fun i => (Config.choice c + i) % 65536).find? fun t => !used.contains t).getD 0
      (s1.updSlot k fun n => { n with waiting := rest, out := n.out ++ [⟨tid, d, s.clk.now, 1⟩] }).sendNotice p tid d
  | _, _ => s

/-- NOTIFY_RESEND: 100 ms unacknowledged; dropped after its fourth send. -/
def State.notifyResend (s : State) (k tid : Nat) : State :=
  match (s.slot k).peer, (s.slot k).out.find? fun x => x.tid == tid with
  | some p, some x =>
    if !s.fopUp || !s.reaches p || decide (s.clk.now < x.sent + 100000000) then s
    else if x.sends < 4 then
      (s.updSlot k fun n => { n with out := updWhere n.out (fun y => y.tid == tid) fun y => { y with sent := s.clk.now, sends := y.sends + 1 } }).sendNotice p tid x.desc
    else (s.updSlot k fun n => { n with out := n.out.filter fun y => y.tid != tid }).dropNotice k x.desc true
  | _, _ => s

/-- NOTIFY_ACKNOWLEDGEMENT (0xC0): steps 1 and 2 of R49, then the NOTIFY of its source that it matches is done. -/
def State.notifyAck (s : State) (p : Peer) (tid : Nat) : State :=
  if !s.fopUp || !s.reaches p then s
  else
    let s1 := s.fopCount
    if !s1.allowed p then s1.count 0x1812 3 32 1
    else
      let s2 := s1.updClient p fun c => { c with last := s1.clk.now }
      [0, 1, 2, 3].foldl (fun s k => if (s.slot k).peer = some p then s.updSlot k fun n => { n with out := n.out.filter fun y => y.tid != tid } else s) s2

/-! ## Timers of the client table (R50) -/

/-- CLIENT_ENTRY_RELEASE: 60 s without a message, no transfer, no subscription. -/
def State.clientRelease (s : State) (p : Peer) : State :=
  if (match s.client p with | some c => decide (c.last + 60000000000 ≤ s.clk.now) | none => false)
      && !(s.fop.xfers.any fun x => x.owner == p) && !([0, 1, 2, 3].any fun k => (s.slot k).peer == some p) then
    { s with fop := { s.fop with clients := s.fop.clients.filter fun c => c.peer != p } }
  else s

/-- REPLY_CACHE_EXPIRY: 5 s. -/
def State.cacheExpiry (s : State) (p : Peer) (tid : Nat) : State :=
  s.updClient p fun c => { c with cache := c.cache.filter fun r => r.tid != tid || decide (s.clk.now < r.sent + 5000000000) }

/-! ## Datagrams that no request row takes (R49 steps 1, 2 and 5) -/

/-- Step 1: magic, length, CRC. -/
def fopSound (b : Bytes) : Bool :=
  decide (20 ≤ b.length) && leAt b 0 2 == 0x5046 && decide (leAt b 12 2 ≤ 1400) && b.length == 20 + leAt b 12 2
    && leAt b (16 + leAt b 12 2) 4 == crc32c (b.take (16 + leAt b 12 2))

/-- FOP_DATAGRAM_DROPPED: a datagram that fails step 1 or 2 is counted; a sound one with an opcode of no row is answered OPCODE, unless it is a reply, which is ignored. -/
def State.fopOther (s : State) (p : Peer) (b : Bytes) : State :=
  let op := leAt b 3 1
  if !s.fopUp || !s.reaches p then s
  else if !fopSound b then s.fopCount.count 0x1812 2 32 1
  else if !s.allowed p then s.fopCount.count 0x1812 3 32 1
  else if 128 ≤ op then s.fopCount
  else if 1 ≤ op ∧ op ≤ 0x0B then s
  else s.serve ⟨p, BitVec.ofNat 8 (leAt b 2 1), BitVec.ofNat 16 (leAt b 4 2)⟩ op (obj (leAt b 8 2) (leAt b 10 1)) fun s => s.answers St.opcode

end Sys2Proof.Machine
end

