-- ==== Sys2Proof/Machine/Rows.lean ====
section
/-! DEFINITION. What the meanings of many rows share: the guard of the rows that only a running device brings about, WRITE of a command or value object, the request types of MSP, a packet that opens a session, an SMSG frame. -/

namespace Sys2Proof.Machine

/-- The effect of a row that needs the functions outside the AON domain: none while they are held in reset, in ROM code, or in a low power state (R385, R461). -/
def State.awake (s : State) (f : State → State) : State := if s.alive then f s else s

/-- A WRITE of a CMD object whose action gives the status itself. -/
def State.serveStatus (s : State) (h : FopHead) (key : Nat) (act : State → State × Nat) : State :=
  s.serve h 2 key fun s => let r := act s; (r.1, r.2, [])

/-- A WRITE of a value of n bytes (R36, R49). -/
def State.wrote (s : State) (h : FopHead) (idx sub n v : Nat) : State :=
  s.serve h 2 (obj idx sub) fun s => s.doWrite h.peer idx sub (leBytes n v)

/-- A request of an MSP type (R122). -/
def ofType (ty : Nat) (r : Req) : Bool := r.ty == ty

/-- OBJECT_DATA by its REPAIR flag (R126). -/
def ofData (repair : Bool) (r : Req) : Bool := r.ty == 0x11 && bit (leAt r.body 16 1) 0 == repair

/-- A packet that opens a session (R119, R120): a single record of type 1 OPEN or 3 PROOF. -/
def State.openPacket (s : State) (ty : Nat) (k : MspPacket) : State :=
  match parseRecords 2 (k.payload.drop 40) with
  | some [r] => if r.ty = ty then s.packetIn k else s
  | _ => s

/-- An SMSG frame of a kind on seam link k (R433, R442). -/
def State.smsgOf (s : State) (k : Fin 4) (o : SeamHead) (g : SeamMsg) (kind : Nat) (act : State → State) : State :=
  s.smsgIn k o.origin o.hops kind g.lane g.seq.toNat g.target.toNat g.count.toNat g.body g.good act

/-- Module k of port p, as the key of its lane. -/
def lane (p : Fin 16) (k : Fin 4) : Nat := 4 * p.val + k.val

end Sys2Proof.Machine
end

