-- ==== Sys2Proof/Machine/BoardRows.lean ====
section
/-! DEFINITION. Meanings: The board ring, and the rows that stand last in the table (R413, R414, R430 to R461). -/

namespace Sys2Proof.Machine

/-- SURGENT (R447). -/
def execSurgent (k : Fin 4) (o : SeamHead) (s : State) : Host.Outcome State Fault Refusal := done (s.awake fun s => s.surgent k o.origin o.hops o.valid)

/-- SURGENT_SEND (R447). -/
def execSurgentSend (s : State) : Host.Outcome State Fault Refusal := done (s.awake fun s => s.surgentSend)

/-- MISSING_MEMBER (R448). -/
def execMissingMember (d : Fin 8) (s : State) : Host.Outcome State Fault Refusal := done (s.awake fun s => s.missingMember d)

/-- SPOS (R439). -/
def execSpos (k : Fin 4) (o : SeamHead) (count : BitVec 24) (at_ : BitVec 24) (s : State) : Host.Outcome State Fault Refusal := done (s.awake fun s => s.sposIn k o.origin o.hops o.valid count.toNat at_.toNat)

/-- SPOS_SEND (R438). -/
def execSposSend (s : State) : Host.Outcome State Fault Refusal := done (s.awake fun s => s.sposSend)

/-- POS_FULL (R439). -/
def execPosFull (k : Fin 4) (o : SeamHead) (g : SeamMsg) (s : State) : Host.Outcome State Fault Refusal := done (s.awake fun s => s.smsgOf k o g 1 fun s => s.posFullIn o.origin g.body)

/-- POS_FULL_SEND (R438). -/
def execPosFullSend (s : State) : Host.Outcome State Fault Refusal := done (s.awake fun s => s.posFullSend)

/-- STIME (R436). -/
def execStime (k : Fin 4) (o : SeamHead) (at_ : BitVec 48) (s : State) : Host.Outcome State Fault Refusal := done (s.awake fun s => s.stimeIn k o.origin o.hops at_.toNat)

/-- STIME_SEND (R437). -/
def execStimeSend (s : State) : Host.Outcome State Fault Refusal := done (s.awake fun s => s.stimeSend)

/-- STIME_LOSS (R436). -/
def execStimeLoss (s : State) : Host.Outcome State Fault Refusal := done (s.awake fun s => s.stimeLoss)

/-- BARRIER_START (R443). -/
def execBarrierStart (s : State) : Host.Outcome State Fault Refusal := done (s.awake fun s => s.barrierStart)

/-- BARRIER_OPEN (R443). -/
def execBarrierOpen (k : Fin 4) (o : SeamHead) (g : SeamMsg) (s : State) : Host.Outcome State Fault Refusal := done (s.awake fun s => s.smsgOf k o g 2 fun s => s.barrierOpen o.origin g.body)

/-- VOTE (R443). -/
def execVote (k : Fin 4) (o : SeamHead) (g : SeamMsg) (s : State) : Host.Outcome State Fault Refusal := done (s.awake fun s => s.smsgOf k o g 3 fun s => s.voteIn o.origin g.body)

/-- BARRIER_TIMEOUT (R443). -/
def execBarrierTimeout (s : State) : Host.Outcome State Fault Refusal := done (s.awake fun s => s.barrierTimeout)

/-- BARRIER_REOPEN_DELAY (R443). -/
def execBarrierReopenDelay (s : State) : Host.Outcome State Fault Refusal := done (s.awake fun s => s.barrierReopen)

/-- RELEASE (R444). -/
def execRelease (k : Fin 4) (o : SeamHead) (g : SeamMsg) (s : State) : Host.Outcome State Fault Refusal := done (s.awake fun s => s.smsgOf k o g 4 fun s => s.releaseIn o.origin g.body)

/-- FROG_MESSAGE (R445). -/
def execFrogMessage (k : Fin 4) (o : SeamHead) (g : SeamMsg) (s : State) : Host.Outcome State Fault Refusal := done (s.awake fun s => s.smsgOf k o g 5 fun s => s.frogIn o.origin g.body)

/-- SPOIL (R446). -/
def execSpoil (k : Fin 4) (o : SeamHead) (g : SeamMsg) (s : State) : Host.Outcome State Fault Refusal := done (s.awake fun s => s.smsgOf k o g 6 fun s => s.spoilIn g.body)

/-- REBASE (R437). -/
def execRebase (k : Fin 4) (o : SeamHead) (g : SeamMsg) (s : State) : Host.Outcome State Fault Refusal := done (s.awake fun s => s.smsgOf k o g 7 fun s => s.rebaseIn o.origin g.body)

/-- REBASE_APPLY (R437). -/
def execRebaseApply (s : State) : Host.Outcome State Fault Refusal := done (s.awake fun s => s.rebaseApply)

/-- USER (R451). -/
def execUser (k : Fin 4) (o : SeamHead) (g : SeamMsg) (s : State) : Host.Outcome State Fault Refusal := done (s.awake fun s => s.smsgOf k o g 8 fun s => s.userIn o.origin g.count.toNat g.body)

/-- USER_SEND (R450). -/
def execUserSend (h : FopHead) (n : BitVec 8) (s : State) : Host.Outcome State Fault Refusal := done (s.serveCmd h (obj 0x8840 3) fun s => s.userSend n.toNat)

/-- POR_N_LOW (R461). -/
def execPorNLow (s : State) : Host.Outcome State Fault Refusal := done (s.porLow)

/-- VBAT_RISE (R459). -/
def execVbatRise (s : State) : Host.Outcome State Fault Refusal := done (s.vbatRise)

/-- INTERNAL_RESET_RELEASE (R457). -/
def execInternalResetRelease (s : State) : Host.Outcome State Fault Refusal := done (s.railsGood)

/-- SPOS_GAP (R440). -/
def execSposGap (s : State) : Host.Outcome State Fault Refusal := done (s.awake fun s => s.sposGap)

/-- FUNCTION_SELF_TEST_PASSED (R414). -/
def execFunctionSelfTestPassed (fn : SelfTest) (s : State) : Host.Outcome State Fault Refusal := done (s.awake fun s => match fn with | .codec => s.selfTestCodec | .cluster c => s.selfTestCluster c)

/-- TEST_WINDOW_CLOSE_COMPLETE (R349). -/
def execTestWindowCloseComplete (s : State) : Host.Outcome State Fault Refusal := done (s.awake fun s => s.windowClosed)

end Sys2Proof.Machine
end

