-- ==== Sys2Proof/Machine/FaultRows.lean ====
section
/-! DEFINITION. Meanings: Faults, temperature, calibration, boot, update, recovery (R367 to R429). -/

namespace Sys2Proof.Machine

/-- COUNTING_WINDOW_CLOSE (R373). -/
def execCountingWindowClose (n : BitVec 8) (s : State) : Host.Outcome State Fault Refusal := done (s.awake fun s => s.countingClose n.toNat)

/-- WINDOW_CONFIGURATION_WRITE (R374). -/
def execWindowConfigurationWrite (h : FopHead) (n : BitVec 8) (width : Bool) (v : BitVec 32) (s : State) : Host.Outcome State Fault Refusal := done (s.wrote h (0x7900 + n.toNat) (if width then 2 else 1) (if width then 4 else 2) v.toNat)

/-- FAULT_CLEAR (R379). -/
def execFaultClear (h : FopHead) (s : State) : Host.Outcome State Fault Refusal := done (s.serveCmd h (obj 0x7800 2) State.faultClear)

/-- ENTER_SAFE_STATE (R381). -/
def execEnterSafeState (h : FopHead) (s : State) : Host.Outcome State Fault Refusal := done (s.serveCmd h (obj 0x7800 2) State.commandSafe)

/-- SENSOR_SAMPLE (R395). -/
def execSensorSample (readings : List Int) (selfCause : Fin 6) (s : State) : Host.Outcome State Fault Refusal := done (s.awake fun s => s.sensorSample readings selfCause)

/-- THROTTLE_HOLD_EXPIRY (R398). -/
def execThrottleHoldExpiry (s : State) : Host.Outcome State Fault Refusal := done (s.awake fun s => s.throttleExpiry)

/-- DROOP_DETECTION (R394). -/
def execDroopDetection (s : State) : Host.Outcome State Fault Refusal := done (s.awake fun s => s.droop)

/-- RESTORE_INTERVAL (R394). -/
def execRestoreInterval (s : State) : Host.Outcome State Fault Refusal := done (s.awake fun s => s.restoreStep)

/-- CALIBRATION_RUN (R401). -/
def execCalibrationRun (unit : Fin 28) (s : State) : Host.Outcome State Fault Refusal := done (s.awake fun s => s.calibRun unit)

/-- CALIBRATION_COMPLETE (R402). -/
def execCalibrationComplete (unit : Fin 28) (margin : BitVec 16) (load : BitVec 8) (s : State) : Host.Outcome State Fault Refusal := done (s.awake fun s => s.calibDone unit margin.toNat load.toNat)

/-- RAIL_UNDERVOLTAGE (R457). -/
def execRailUndervoltage (s : State) : Host.Outcome State Fault Refusal := done (s.railLow)

/-- POR_N_RELEASE (R413). -/
def execPorNRelease (straps : ResetPins) (testEn : Bool) (s : State) : Host.Outcome State Fault Refusal := done (s.porRelease straps testEn)

/-- WATCHDOG_EXPIRY (R405). -/
def execWatchdogExpiry (s : State) : Host.Outcome State Fault Refusal := done (s.watchdog)

/-- BOOT_RETRY (R413). -/
def execBootRetry (s : State) : Host.Outcome State Fault Refusal := done (s.bootRetry)

/-- BOOT_COMPLETE (R414). -/
def execBootComplete (s : State) : Host.Outcome State Fault Refusal := done (s.bootDone)

/-- BOOT_TIMEOUT (R415). -/
def execBootTimeout (s : State) : Host.Outcome State Fault Refusal := done (s.bootTimeout)

/-- RESET_COMMAND (R407). -/
def execResetCommand (h : FopHead) (s : State) : Host.Outcome State Fault Refusal := done (s.serveCmd h (obj 0x8000 5) State.resetCommand)

/-- UPDATE_VERIFY (R419). -/
def execUpdateVerify (h : FopHead) (s : State) : Host.Outcome State Fault Refusal := done (s.serveCmd h (obj 0x8010 1) State.updVerify)

/-- UPDATE_CHECKS_COMPLETE (R418). -/
def execUpdateChecksComplete (s : State) : Host.Outcome State Fault Refusal := done (s.awake fun s => s.updChecked)

/-- UPDATE_INSTALL (R418). -/
def execUpdateInstall (h : FopHead) (s : State) : Host.Outcome State Fault Refusal := done (s.serveCmd h (obj 0x8010 1) State.updInstall)

/-- INSTALL_READBACK_COMPLETE (R418). -/
def execInstallReadbackComplete (good : Bool) (s : State) : Host.Outcome State Fault Refusal := done (s.awake fun s => s.updInstalled good)

/-- UPDATE_ACTIVATE (R418). -/
def execUpdateActivate (h : FopHead) (s : State) : Host.Outcome State Fault Refusal := done (s.serveCmd h (obj 0x8010 1) State.updActivate)

/-- ACTIVATION_BOUNDARY (R421). -/
def execActivationBoundary (s : State) : Host.Outcome State Fault Refusal := done (s.awake fun s => s.updBoundary)

/-- TRIAL_SELF_CHECK (R418). -/
def execTrialSelfCheck (good : Bool) (s : State) : Host.Outcome State Fault Refusal := done (s.awake fun s => s.updTrial good)

/-- UPDATE_REVERT (R424). -/
def execUpdateRevert (h : FopHead) (s : State) : Host.Outcome State Fault Refusal := done (s.serveCmd h (obj 0x8010 1) State.updRevert)

/-- UPDATE_ABORT (R418). -/
def execUpdateAbort (h : FopHead) (s : State) : Host.Outcome State Fault Refusal := done (s.serveCmd h (obj 0x8010 1) State.updAbort)

/-- TFTP_WRQ (R426). -/
def execTftpWrq (src : Peer) (name : Bytes) (octet : Bool) (readReq : Bool) (s : State) : Host.Outcome State Fault Refusal := done (s.tftpRequest src name octet readReq)

/-- TFTP_DATA (R426). -/
def execTftpData (src : Peer) (block : BitVec 16) (data : Bytes) (s : State) : Host.Outcome State Fault Refusal := done (s.tftpBlock src block.toNat data)

/-- TFTP_RETRANSMIT (R426). -/
def execTftpRetransmit (s : State) : Host.Outcome State Fault Refusal := done (s.tftpAgain)

/-- UART_OPEN (R427). -/
def execUartOpen (f : UartFrame) (s : State) : Host.Outcome State Fault Refusal := done (s.uartOpen f.good f.body)

/-- UART_DATA (R427). -/
def execUartData (f : UartFrame) (s : State) : Host.Outcome State Fault Refusal := done (s.uartData f.good f.body)

/-- UART_CLOSE (R427). -/
def execUartClose (f : UartFrame) (s : State) : Host.Outcome State Fault Refusal := done (s.uartClose f.good f.body)

/-- UART_RESET (R425). -/
def execUartReset (f : UartFrame) (s : State) : Host.Outcome State Fault Refusal := done (s.uartReset f.good)

end Sys2Proof.Machine
end

