-- ==== Sys2Proof/Machine/FopRows.lean ====
section
/-! DEFINITION. Meanings: The FOP requests and their timers, events, settings, rings, units, power states (R28 to R72, R385 to R392). -/

namespace Sys2Proof.Machine

/-- READ (R51). -/
def execRead (m : FopMsg) (s : State) : Host.Outcome State Fault Refusal := done (s.fopRead m)

/-- WRITE (R36). -/
def execWrite (m : FopMsg) (s : State) : Host.Outcome State Fault Refusal := done (s.fopWrite m)

/-- SEG_READ_INIT (R56). -/
def execSegReadInit (m : FopMsg) (s : State) : Host.Outcome State Fault Refusal := done (s.request' m 0x3 fun s => s.segReadInit m.head.peer)

/-- SEG_READ_DATA (R56). -/
def execSegReadData (m : FopMsg) (s : State) : Host.Outcome State Fault Refusal := done (s.request' m 0x4 fun s => s.segReadData m.head.peer)

/-- SEG_WRITE_INIT (R55). -/
def execSegWriteInit (m : FopMsg) (s : State) : Host.Outcome State Fault Refusal := done (s.request' m 0x5 fun s => s.segWriteInit m.head.peer)

/-- SEG_WRITE_DATA (R54). -/
def execSegWriteData (m : FopMsg) (behind : BitVec 8) (s : State) : Host.Outcome State Fault Refusal := done (if 16 ≤ behind.toNat then s.segQueueFull m.head else s.request' m 6 fun s => s.segWriteData m.head.peer)

/-- SEG_END (R54). -/
def execSegEnd (m : FopMsg) (s : State) : Host.Outcome State Fault Refusal := done (s.request' m 0x7 fun s => s.segEnd m.head.peer)

/-- SEG_ABORT (R55). -/
def execSegAbort (m : FopMsg) (s : State) : Host.Outcome State Fault Refusal := done (s.request' m 0x8 fun s => s.segAbort m.head.peer)

/-- SUBSCRIBE (R58). -/
def execSubscribe (m : FopMsg) (s : State) : Host.Outcome State Fault Refusal := done (s.request' m 0x9 fun s => s.subscribe m.head.peer)

/-- RANGE_READ (R57). -/
def execRangeRead (m : FopMsg) (s : State) : Host.Outcome State Fault Refusal := done (s.request' m 0xa fun s => s.rangeRead)

/-- RANGE_WRITE (R57). -/
def execRangeWrite (m : FopMsg) (s : State) : Host.Outcome State Fault Refusal := done (s.request' m 0xb fun s => s.rangeWrite m.head.peer)

/-- NOTIFY_ACKNOWLEDGEMENT (R51). -/
def execNotifyAck (peer : Peer) (tid : BitVec 16) (s : State) : Host.Outcome State Fault Refusal := done (s.awake fun s => s.notifyAck peer tid.toNat)

/-- FOP_DATAGRAM_DROPPED (R49). -/
def execFopDatagramDropped (src : Peer) (bytes : Bytes) (s : State) : Host.Outcome State Fault Refusal := done (s.fopOther src bytes)

/-- CLIENT_ENTRY_RELEASE (R50). -/
def execClientEntryRelease (src : Peer) (s : State) : Host.Outcome State Fault Refusal := done (s.awake fun s => s.clientRelease src)

/-- REPLY_CACHE_EXPIRY (R50). -/
def execReplyCacheExpiry (src : Peer) (tid : BitVec 16) (s : State) : Host.Outcome State Fault Refusal := done (s.awake fun s => s.cacheExpiry src tid.toNat)

/-- SEG_TRANSFER_TIMEOUT (R55). -/
def execSegTransferTimeout (handle : BitVec 16) (s : State) : Host.Outcome State Fault Refusal := done (s.awake fun s => s.segTimeout handle.toNat)

/-- NOTIFY_SEND (R58). -/
def execNotifySend (slot : Fin 4) (s : State) : Host.Outcome State Fault Refusal := done (s.awake fun s => s.notifySend slot)

/-- NOTIFY_RESEND (R58). -/
def execNotifyResend (slot : Fin 4) (tid : BitVec 16) (s : State) : Host.Outcome State Fault Refusal := done (s.awake fun s => s.notifyResend slot tid.toNat)

/-- EVENT_CLEAR (R61). -/
def execEventClear (h : FopHead) (n : BitVec 8) (s : State) : Host.Outcome State Fault Refusal := done (s.serveCmd h (obj (0x7A00 + n.toNat) 5) fun s => (s.eventClear n.toNat, true))

/-- SETTINGS_SAVE (R38). -/
def execSettingsSave (h : FopHead) (s : State) : Host.Outcome State Fault Refusal := done (s.serveStatus h (obj 0x0040 1) fun s => s.settingsCommand false)

/-- SETTINGS_ERASE (R39). -/
def execSettingsErase (h : FopHead) (s : State) : Host.Outcome State Fault Refusal := done (s.serveStatus h (obj 0x0040 1) fun s => s.settingsCommand true)

/-- SETTINGS_OPERATION_COMPLETE (R39). -/
def execSettingsOperationComplete (good : Bool) (s : State) : Host.Outcome State Fault Refusal := done (s.awake fun s => s.settingsDone good)

/-- QUEUE_ALLOCATE (R72). -/
def execQueueAllocate (h : FopHead) (q : BitVec 8) (s : State) : Host.Outcome State Fault Refusal := done (s.serveStatus h (obj (0x7C00 + q.toNat) 5) fun s => s.queueAllocate q.toNat)

/-- QUEUE_RELEASE (R72). -/
def execQueueRelease (h : FopHead) (q : BitVec 8) (s : State) : Host.Outcome State Fault Refusal := done (s.serveStatus h (obj (0x7C00 + q.toNat) 5) fun s => s.queueRelease q.toNat)

/-- PRODUCER_INDEX_WRITE (R69). -/
def execProducerIndexWrite (h : FopHead) (q : BitVec 8) (v : BitVec 32) (s : State) : Host.Outcome State Fault Refusal := done (s.wrote h (0x7C00 + q.toNat) 2 4 v.toNat)

/-- CONSUMER_INDEX_WRITE (R69). -/
def execConsumerIndexWrite (h : FopHead) (q : BitVec 8) (v : BitVec 32) (s : State) : Host.Outcome State Fault Refusal := done (s.wrote h (0x7C00 + q.toNat) 3 4 v.toNat)

/-- UNIT_TAKE_OUT (R31). -/
def execUnitTakeOut (h : FopHead) (s : State) : Host.Outcome State Fault Refusal := done (s.serveCmd h (obj 0x0028 2) State.unitTakeOut)

/-- UNIT_RETURN (R31). -/
def execUnitReturn (h : FopHead) (s : State) : Host.Outcome State Fault Refusal := done (s.serveCmd h (obj 0x0028 2) State.unitReturn)

/-- DRAIN_COMPLETE (R32). -/
def execDrainComplete (unit : BitVec 16) (s : State) : Host.Outcome State Fault Refusal := done (s.awake fun s => s.drainComplete unit.toNat)

/-- BRING_UP_PASSES (R31). -/
def execBringUpPasses (unit : BitVec 16) (s : State) : Host.Outcome State Fault Refusal := done (s.awake fun s => s.bringUpPasses unit.toNat)

/-- BRING_UP_FAILS (R31). -/
def execBringUpFails (unit : BitVec 16) (s : State) : Host.Outcome State Fault Refusal := done (s.awake fun s => s.bringUpFails unit.toNat)

/-- POWER_REQUEST_DEEP (R388). -/
def execPowerRequestDeep (h : FopHead) (s : State) : Host.Outcome State Fault Refusal := done (s.serveCmd h (obj 0x0030 1) fun s => s.powerRequest 1)

/-- POWER_REQUEST_KEEP (R388). -/
def execPowerRequestKeep (h : FopHead) (s : State) : Host.Outcome State Fault Refusal := done (s.serveCmd h (obj 0x0030 1) fun s => s.powerRequest 2)

/-- POWER_REQUEST_IDLE (R388). -/
def execPowerRequestIdle (h : FopHead) (s : State) : Host.Outcome State Fault Refusal := done (s.serveCmd h (obj 0x0030 1) fun s => s.powerRequest 3)

/-- POWER_REQUEST_RUN (R388). -/
def execPowerRequestRun (h : FopHead) (s : State) : Host.Outcome State Fault Refusal := done (s.serveCmd h (obj 0x0030 1) fun s => s.powerRequest 4)

/-- WAKE_N (R390). -/
def execWakeN (s : State) : Host.Outcome State Fault Refusal := done (s.wakePin)

/-- RTC_ALARM (R390). -/
def execRtcAlarm (s : State) : Host.Outcome State Fault Refusal := done (s.rtcAlarm)

/-- WAKE_FRAME (R390). -/
def execWakeFrame (h : FopHead) (s : State) : Host.Outcome State Fault Refusal := done (s.wakeFrame h.peer)

end Sys2Proof.Machine
end

