-- ==== Sys2Proof/Machine/HostRows.lean ====
section
/-! DEFINITION. Meanings: MSP: requests, packets, session timers, host and field ports, codec (R46, R73 to R160). -/

namespace Sys2Proof.Machine

/-- OBJECT_CREATE (R124). -/
def execObjectCreate (n : Fin 64) (s : State) : Host.Outcome State Fault Refusal := done (s.awake fun s => s.request n (ofType 0x10) fun s => s.objectCreate n)

/-- OBJECT_DATA (R125). -/
def execObjectData (n : Fin 64) (s : State) : Host.Outcome State Fault Refusal := done (s.awake fun s => s.request n (ofData false) fun s => s.objectData n)

/-- OBJECT_DATA_REPAIR (R126). -/
def execObjectDataRepair (n : Fin 64) (s : State) : Host.Outcome State Fault Refusal := done (s.awake fun s => s.request n (ofData true) fun s => s.objectData n)

/-- OBJECT_DELETE (R125). -/
def execObjectDelete (n : Fin 64) (s : State) : Host.Outcome State Fault Refusal := done (s.awake fun s => s.request n (ofType 0x12) fun s => s.objectDelete n)

/-- GROUP_DEFINE (R87). -/
def execGroupDefine (n : Fin 64) (s : State) : Host.Outcome State Fault Refusal := done (s.awake fun s => s.request n (ofType 0x13) fun s => s.groupDefine n)

/-- PAGE_DEFINE (R87). -/
def execPageDefine (n : Fin 64) (s : State) : Host.Outcome State Fault Refusal := done (s.awake fun s => s.request n (ofType 0x14) fun s => s.pageDefine n)

/-- RENDER (R127). -/
def execRender (n : Fin 64) (s : State) : Host.Outcome State Fault Refusal := done (s.awake fun s => s.request n (ofType 0x15) fun s => s.renderRequest n)

/-- FROG (R91). -/
def execFrog (n : Fin 64) (s : State) : Host.Outcome State Fault Refusal := done (s.awake fun s => s.request n (ofType 0x16) fun s => s.frogRequest n)

/-- QUERY (R123). -/
def execQuery (n : Fin 64) (s : State) : Host.Outcome State Fault Refusal := done (s.awake fun s => s.request n (ofType 0x17) fun s => s.query n)

/-- READBACK (R128). -/
def execReadback (n : Fin 64) (s : State) : Host.Outcome State Fault Refusal := done (s.awake fun s => s.request n (ofType 0x18) fun s => s.readbackRequest n)

/-- CLOSE_REQ (R131). -/
def execCloseReq (n : Fin 64) (s : State) : Host.Outcome State Fault Refusal := done (s.awake fun s => s.request n (ofType 0x1f) fun s => s.closeRequest n)

/-- MSP_PACKET (R111). -/
def execMspPacket (pk : MspPacket) (s : State) : Host.Outcome State Fault Refusal := done (s.awake fun s => s.packetIn pk)

/-- OPEN (R119). -/
def execOpen (pk : MspPacket) (s : State) : Host.Outcome State Fault Refusal := done (s.awake fun s => s.openPacket 1 pk)

/-- PROOF (R120). -/
def execProof (pk : MspPacket) (s : State) : Host.Outcome State Fault Refusal := done (s.awake fun s => s.openPacket 3 pk)

/-- ACK_TIMER (R112). -/
def execAckTimer (n : Fin 64) (s : State) : Host.Outcome State Fault Refusal := done (s.awake fun s => s.ackTimer n)

/-- RETRANSMIT_TIMEOUT (R112). -/
def execRetransmitTimeout (n : Fin 64) (psn : BitVec 32) (s : State) : Host.Outcome State Fault Refusal := done (s.awake fun s => s.retransmit n psn.toNat)

/-- KEEP_ALIVE_TIMEOUT (R130). -/
def execKeepAliveTimeout (n : Fin 64) (s : State) : Host.Outcome State Fault Refusal := done (s.awake fun s => s.keepAlive n)

/-- IDLE_ACK_SEND (R130). -/
def execIdleAckSend (n : Fin 64) (s : State) : Host.Outcome State Fault Refusal := done (s.awake fun s => s.idleAck n)

/-- PENDING_ENTRY_EXPIRY (R118). -/
def execPendingEntryExpiry (handle : BitVec 32) (s : State) : Host.Outcome State Fault Refusal := done (s.awake fun s => s.pendingExpiry handle.toNat)

/-- SLOT_LOCK_EXPIRY (R120). -/
def execSlotLockExpiry (slot : Fin 16) (s : State) : Host.Outcome State Fault Refusal := done (s.awake fun s => s.lockExpiry slot)

/-- SESSION_CLOSE_COMMAND (R131). -/
def execSessionCloseCommand (h : FopHead) (n : Fin 64) (s : State) : Host.Outcome State Fault Refusal := done (s.serveCmd h (obj (0x5030 + n.val) 8) fun s => s.pressClose n)

/-- CREDENTIAL_ENABLE_WRITE (R134). -/
def execCredentialEnableWrite (h : FopHead) (slot : Fin 16) (v : BitVec 8) (s : State) : Host.Outcome State Fault Refusal := done (s.wrote h (0x5010 + slot.val) 2 1 v.toNat)

/-- CLOSE_RESEND (R131). -/
def execCloseResend (n : Fin 64) (s : State) : Host.Outcome State Fault Refusal := done (s.awake fun s => s.closeResend n)

/-- COMPLETION_SEND (R114). -/
def execCompletionSend (n : Fin 64) (s : State) : Host.Outcome State Fault Refusal := done (s.awake fun s => s.completionSend n)

/-- HOST_MODE_WRITE (R102). -/
def execHostModeWrite (h : FopHead) (he : Fin 2) (v : BitVec 8) (s : State) : Host.Outcome State Fault Refusal := done (s.wrote h 0x5000 (1 + he.val) 1 v.toNat)

/-- HOST_LINK_CHANGE (R102). -/
def execHostLinkChange (he : Fin 2) (link : BitVec 8) (s : State) : Host.Outcome State Fault Refusal := done (s.hostLink he link.toNat)

/-- ARP_REQUEST (R103). -/
def execArpRequest (port : Fin 3) (mac : BitVec 48) (ip : BitVec 32) (target : BitVec 32) (s : State) : Host.Outcome State Fault Refusal := done (s.arp port mac.toNat ip.toNat target.toNat)

/-- NEIGHBOUR_DISCOVERY (R103). -/
def execNeighbourDiscovery (he : Fin 2) (mac : BitVec 48) (src : BitVec 128) (target : BitVec 128) (s : State) : Host.Outcome State Fault Refusal := done (s.awake fun s => s.neighbour he mac.toNat src.toNat target.toNat)

/-- FIELD_LINK_CHANGE (R46). -/
def execFieldLinkChange (fn : Fin 2) (link : BitVec 8) (s : State) : Host.Outcome State Fault Refusal := done (s.fieldLink fn link.toNat)

/-- PASS_THROUGH_FORWARD (R46). -/
def execPassThroughForward (fn : Fin 2) (dst : BitVec 48) (frame : Bytes) (s : State) : Host.Outcome State Fault Refusal := done (s.passThrough fn dst.toNat frame)

/-- TILE_CODEC_COMPLETE (R125). -/
def execTileCodecComplete (n : Fin 64) (s : State) : Host.Outcome State Fault Refusal := done (s.awake fun s => s.tileCodec n)

/-- DECODE_COMPLETE (R151). -/
def execDecodeComplete (d : Fin 16) (bad : Bool) (s : State) : Host.Outcome State Fault Refusal := done (s.awake fun s => s.decodeDone d bad)

/-- INPUT_STALL_RESUME (R155). -/
def execInputStallResume (d : InputStall) (s : State) : Host.Outcome State Fault Refusal := done (s.awake fun s => s.inputStall d.decoder d.words.toNat)

/-- OUTPUT_STALL_RESUME (R156). -/
def execOutputStallResume (d : OutputStall) (s : State) : Host.Outcome State Fault Refusal := done (s.awake fun s => s.outputStall d.decoder d.samples.toNat d.words.toNat)

/-- ENCODE_BLOCK_COMPLETE (R159). -/
def execEncodeBlockComplete (e : Fin 4) (s : State) : Host.Outcome State Fault Refusal := done (s.awake fun s => s.encodeDone e)

end Sys2Proof.Machine
end

