-- ==== Sys2Proof/Machine/LinkRows.lean ====
section
/-! DEFINITION. Meanings: Head and seam links, port commands, measurements, loopbacks (R240 to R272). -/

namespace Sys2Proof.Machine

/-- LINK_START (R249). -/
def execLinkStart (l : Fin 20) (s : State) : Host.Outcome State Fault Refusal := done (s.awake fun s => s.linkStart l)

/-- RXCK_DETECTED (R249). -/
def execRxckDetected (l : Fin 20) (s : State) : Host.Outcome State Fault Refusal := done (s.awake fun s => s.rxck l)

/-- DETECT_TIMER_EXPIRY (R249). -/
def execDetectTimerExpiry (l : Fin 20) (s : State) : Host.Outcome State Fault Refusal := done (s.awake fun s => s.timerRow l 1 100000000 1)

/-- TRAIN (R250). -/
def execTrain (l : Fin 20) (status : BitVec 8) (presets : BitVec 32) (s : State) : Host.Outcome State Fault Refusal := done (s.awake fun s => s.trainBlock l status.toNat presets.toNat)

/-- PRESET_STEP (R250). -/
def execPresetStep (l : Fin 20) (s : State) : Host.Outcome State Fault Refusal := done (s.awake fun s => s.presetStep l)

/-- TRAIN_TIMER_EXPIRY (R249). -/
def execTrainTimerExpiry (l : Fin 20) (s : State) : Host.Outcome State Fault Refusal := done (s.awake fun s => s.timerRow l 2 20000000 2)

/-- POLARITY_TRIAL_SWITCH (R248). -/
def execPolarityTrialSwitch (l : Fin 20) (s : State) : Host.Outcome State Fault Refusal := done (s.awake fun s => s.polarityTrial l)

/-- UPLINK_BLOCK_LOCK (R246). -/
def execUplinkBlockLock (l : LinkHeaders) (s : State) : Host.Outcome State Fault Refusal := done (s.awake fun s => s.blockLock l.link l.headers)

/-- LOCK_TIMER_EXPIRY (R249). -/
def execLockTimerExpiry (l : Fin 20) (s : State) : Host.Outcome State Fault Refusal := done (s.awake fun s => s.timerRow l 3 (s.link l).lockNs 3)

/-- CAPS (R251). -/
def execCaps (l : Fin 20) (body : CapsBlock) (s : State) : Host.Outcome State Fault Refusal := done (s.awake fun s => s.capsIn l body.control (leBytes 8 body.body.toNat))

/-- CAPS_SEND (R249). -/
def execCapsSend (l : Fin 20) (s : State) : Host.Outcome State Fault Refusal := done (s.awake fun s => s.capsSend l)

/-- CAPS_TIMER_EXPIRY (R249). -/
def execCapsTimerExpiry (l : Fin 20) (s : State) : Host.Outcome State Fault Refusal := done (s.awake fun s => s.timerRow l 4 10000000 4)

/-- LINK_LOST (R261). -/
def execLinkLost (l : Fin 20) (s : State) : Host.Outcome State Fault Refusal := done (s.awake fun s => s.linkLost l)

/-- WAIT_TIMER_EXPIRY (R249). -/
def execWaitTimerExpiry (l : Fin 20) (s : State) : Host.Outcome State Fault Refusal := done (s.awake fun s => s.waitExpired l)

/-- NOP (R264). -/
def execNop (p : PortTake) (s : State) : Host.Outcome State Fault Refusal := done (s.awake fun s => s.portSubmit p.port isNop p.bad)

/-- WAVE_WRITE (R264). -/
def execWaveWrite (p : PortTake) (s : State) : Host.Outcome State Fault Refusal := done (s.awake fun s => s.portSubmit p.port isWave p.bad)

/-- RAW_COMMAND (R264). -/
def execRawCommand (p : PortTake) (s : State) : Host.Outcome State Fault Refusal := done (s.awake fun s => s.portSubmit p.port isRaw p.bad)

/-- RESP (R264). -/
def execResp (p : Fin 16) (addr : BitVec 8) (seq : BitVec 8) (status : BitVec 8) (value : BitVec 32) (s : State) : Host.Outcome State Fault Refusal := done (s.awake fun s => s.resp p addr.toNat seq.toNat status.toNat value.toNat)

/-- COMMAND_TIMEOUT (R264). -/
def execCommandTimeout (p : Fin 16) (s : State) : Host.Outcome State Fault Refusal := done (s.awake fun s => s.cmdTimeout p)

/-- MEASURE (R265). -/
def execMeasure (h : FopHead) (p : Fin 16) (s : State) : Host.Outcome State Fault Refusal := done (s.serveCmd h (obj (portIdx p + 0x10) 1) fun s => s.measCommand p false)

/-- MEASURE_AND_CAPTURE_BASELINE (R268). -/
def execMeasureAndCaptureBaseline (h : FopHead) (p : Fin 16) (s : State) : Host.Outcome State Fault Refusal := done (s.serveCmd h (obj (portIdx p + 0x10) 1) fun s => s.measCommand p true)

/-- AUTOMATIC_MEASUREMENT (R265). -/
def execAutomaticMeasurement (p : Fin 16) (s : State) : Host.Outcome State Fault Refusal := done (s.awake fun s => s.measAuto p)

/-- MEAS_FRAME (R266). -/
def execMeasFrame (p : Fin 16) (addr : BitVec 8) (seq : BitVec 8) (status : BitVec 8) (crc : BitVec 32) (data : Bytes) (s : State) : Host.Outcome State Fault Refusal := done (s.awake fun s => s.measFrame p addr.toNat seq.toNat status.toNat crc.toNat data)

/-- MEAS_TIMEOUT (R266). -/
def execMeasTimeout (p : Fin 16) (s : State) : Host.Outcome State Fault Refusal := done (s.awake fun s => s.measTimeout p)

/-- JET_WINDOW_CLOSE (R267). -/
def execJetWindowClose (p : Fin 16) (j : BitVec 14) (s : State) : Host.Outcome State Fault Refusal := done (s.awake fun s => s.jetClose p j.toNat)

/-- LOOPBACK_START (R269). -/
def execLoopbackStart (h : FopHead) (p : Fin 16) (s : State) : Host.Outcome State Fault Refusal := done (s.serveCmd h (obj (0xF100 + p.val) 2) fun s => s.loopStart p)

/-- LOOPBACK_STOP (R269). -/
def execLoopbackStop (h : FopHead) (p : Fin 16) (s : State) : Host.Outcome State Fault Refusal := done (s.serveCmd h (obj (0xF100 + p.val) 2) fun s => s.loopStop p)

end Sys2Proof.Machine
end

