-- ==== Sys2Proof/Machine/MemoryRows.lean ====
section
/-! DEFINITION. Meanings: DRAM, parity and test windows, CRC units, DMA (R316 to R366). -/

namespace Sys2Proof.Machine

/-- DRAM_TEMPERATURE_READ (R326). -/
def execDramTemperatureRead (temps : List (List Int)) (s : State) : Host.Outcome State Fault Refusal := done (s.awake fun s => s.dramTemps temps)

/-- REFRESH_DUE (R328). -/
def execRefreshDue (i : Fin 8) (rank : Fin 2) (s : State) : Host.Outcome State Fault Refusal := done (s.awake fun s => s.refreshDue i rank)

/-- DRAM_COMMAND_ISSUE (R324). -/
def execDramCommandIssue (i : Fin 8) (arrivals : List Arrival) (s : State) : Host.Outcome State Fault Refusal := done (s.awake fun s => s.dramIssue i arrivals)

/-- REFRESH_WINDOW_CLEAR (R329). -/
def execRefreshWindowClear (i : Fin 8) (s : State) : Host.Outcome State Fault Refusal := done (s.awake fun s => s.windowClear i)

/-- STARTUP_TRAINING_COMPLETE (R330). -/
def execStartupTrainingComplete (answer : Bool) (rfm : Bool) (results : List TrainResult) (s : State) : Host.Outcome State Fault Refusal := done (s.awake fun s => s.startupTrained answer rfm results)

/-- RETRAIN_ALL (R332). -/
def execRetrainAll (h : FopHead) (s : State) : Host.Outcome State Fault Refusal := done (s.serveCmd h (obj 0x6030 1) State.retrainAll)

/-- RETRAIN_SUBCHANNEL (R332). -/
def execRetrainSubchannel (h : FopHead) (s : State) : Host.Outcome State Fault Refusal := done (s.serveCmd h (obj 0x6030 1) State.retrainOne)

/-- DRIFT_SAMPLE (R332). -/
def execDriftSample (i : Fin 8) (drift : BitVec 16) (s : State) : Host.Outcome State Fault Refusal := done (s.awake fun s => s.driftSample i drift.toNat)

/-- RETRAINING_START (R333). -/
def execRetrainingStart (i : Fin 8) (s : State) : Host.Outcome State Fault Refusal := done (s.awake fun s => s.retrainStart i)

/-- RETRAINING_COMPLETE (R334). -/
def execRetrainingComplete (i : Fin 8) (result : TrainResult) (oldPasses : Bool) (s : State) : Host.Outcome State Fault Refusal := done (s.awake fun s => s.retrainDone i result oldPasses)

/-- LEAK_INSTANT (R347). -/
def execLeakInstant (cl : Fin 12) (s : State) : Host.Outcome State Fault Refusal := done (s.awake fun s => s.leak cl)

/-- TEST_WINDOW_OPEN (R349). -/
def execTestWindowOpen (h : FopHead) (s : State) : Host.Outcome State Fault Refusal := done (s.serveCmd h (obj 0xF000 3) State.windowOpen)

/-- TEST_WINDOW_CLOSE (R349). -/
def execTestWindowClose (h : FopHead) (s : State) : Host.Outcome State Fault Refusal := done (s.serveCmd h (obj 0xF000 3) State.windowClose)

/-- WINDOW_DATA_WRITE (R350). -/
def execWindowDataWrite (h : FopHead) (off : BitVec 32) (data : Bytes) (s : State) : Host.Outcome State Fault Refusal := done (s.serve h 0x0B (obj 0xF001 0) fun s => s.rangeWrite h.peer 0xF001 0 (leBytes 4 off.toNat ++ data))

/-- WINDOW_PARITY_WRITE (R350). -/
def execWindowParityWrite (h : FopHead) (off : BitVec 32) (data : Bytes) (s : State) : Host.Outcome State Fault Refusal := done (s.serve h 0x0B (obj 0xF002 0) fun s => s.rangeWrite h.peer 0xF002 0 (leBytes 4 off.toNat ++ data))

/-- CRC_RESET (R354). -/
def execCrcReset (h : FopHead) (u : Fin 8) (s : State) : Host.Outcome State Fault Refusal := done (s.serveStatus h (obj (crcIdx u) 6) fun s => s.crcCommand u false)

/-- CRC_COMPARE (R356). -/
def execCrcCompare (h : FopHead) (u : Fin 8) (s : State) : Host.Outcome State Fault Refusal := done (s.serveStatus h (obj (crcIdx u) 6) fun s => s.crcCommand u true)

/-- CRC_FEED (R355). -/
def execCrcFeed (h : FopHead) (u : Fin 8) (w : Fin 4) (v : BitVec 64) (s : State) : Host.Outcome State Fault Refusal := done (s.wrote h (crcIdx u) (0x0B + w.val) (2 ^ w.val) v.toNat)

/-- RUNNING_VALUE_WRITE (R356). -/
def execRunningValueWrite (h : FopHead) (u : Fin 8) (v : BitVec 32) (s : State) : Host.Outcome State Fault Refusal := done (s.wrote h (crcIdx u) 7 4 v.toNat)

/-- DMA_START (R364). -/
def execDmaStart (h : FopHead) (n : Fin 32) (s : State) : Host.Outcome State Fault Refusal := done (s.serveCmd h (obj (dmaIdx n) 5) fun s => s.dmaStart n)

/-- DMA_STOP (R364). -/
def execDmaStop (h : FopHead) (n : Fin 32) (s : State) : Host.Outcome State Fault Refusal := done (s.serveCmd h (obj (dmaIdx n) 5) fun s => s.dmaStop n)

/-- DMA_RESUME (R364). -/
def execDmaResume (h : FopHead) (n : Fin 32) (s : State) : Host.Outcome State Fault Refusal := done (s.serveCmd h (obj (dmaIdx n) 5) fun s => s.dmaResume n)

/-- DMA_CLAIM (R364). -/
def execDmaClaim (s : State) : Host.Outcome State Fault Refusal := done (s.awake fun s => s.dmaClaim)

/-- DMA_RELEASE (R364). -/
def execDmaRelease (n : Fin 32) (s : State) : Host.Outcome State Fault Refusal := done (s.awake fun s => s.dmaRelease n)

/-- DMA_DESCRIPTOR (R360). -/
def execDmaDescriptor (n : ChannelTake) (s : State) : Host.Outcome State Fault Refusal := done (s.awake fun s => s.dmaDescriptor n.channel n.bad)

/-- DMA_ELEMENT (R363). -/
def execDmaElement (n : Fin 32) (read : Restored) (s : State) : Host.Outcome State Fault Refusal := done (s.awake fun s => s.dmaElement n read)

end Sys2Proof.Machine
end

