-- ==== Sys2Proof/Machine/MotionRows.lean ====
section
/-! DEFINITION. Meanings: Axes (R273 to R294). -/

namespace Sys2Proof.Machine

/-- SERVO_TICK (R274). -/
def execServoTick (s : State) : Host.Outcome State Fault Refusal := done (s.awake fun s => s.servoTick)

/-- ENABLE (R275). -/
def execEnable (h : FopHead) (a : Fin 4) (s : State) : Host.Outcome State Fault Refusal := done (s.serveCmd h (obj (axisIdx a) 2) fun s => s.axisRequest a .enable)

/-- DISABLE (R275). -/
def execDisable (h : FopHead) (a : Fin 4) (s : State) : Host.Outcome State Fault Refusal := done (s.serveCmd h (obj (axisIdx a) 2) fun s => s.axisRequest a .disable)

/-- START_MOVE (R276). -/
def execStartMove (h : FopHead) (a : Fin 4) (s : State) : Host.Outcome State Fault Refusal := done (s.serveCmd h (obj (axisIdx a) 2) fun s => s.axisRequest a .move)

/-- STOP (R283). -/
def execStop (h : FopHead) (a : Fin 4) (s : State) : Host.Outcome State Fault Refusal := done (s.serveCmd h (obj (axisIdx a) 2) fun s => s.axisRequest a (.stop (s.decs 9)))

/-- START_GEARING (R284). -/
def execStartGearing (h : FopHead) (a : Fin 4) (s : State) : Host.Outcome State Fault Refusal := done (s.serveCmd h (obj (axisIdx a) 2) fun s => s.axisRequest a .gear)

/-- SET_POSITION (R275). -/
def execSetPosition (h : FopHead) (a : Fin 4) (s : State) : Host.Outcome State Fault Refusal := done (s.serveCmd h (obj (axisIdx a) 2) fun s => s.axisRequest a .set)

/-- CLEAR_FAULT (R275). -/
def execClearFault (h : FopHead) (a : Fin 4) (s : State) : Host.Outcome State Fault Refusal := done (s.serveCmd h (obj (axisIdx a) 2) fun s => s.axisRequest a .clear)

/-- GEAR_QUEUE_APPEND (R285). -/
def execGearQueueAppend (h : FopHead) (a : Fin 4) (s : State) : Host.Outcome State Fault Refusal := done (s.serveCmd h (obj (axisIdx a) 17) fun s => s.gearAppend a)

/-- GEAR_QUEUE_FLUSH (R285). -/
def execGearQueueFlush (h : FopHead) (a : Fin 4) (s : State) : Host.Outcome State Fault Refusal := done (s.serveCmd h (obj (axisIdx a) 17) fun s => s.gearFlush a)

/-- STATUS_FRAME (R289). -/
def execStatusFrame (src : Peer) (frame : Bytes) (s : State) : Host.Outcome State Fault Refusal := done (s.awake fun s => s.statusFrame src frame)

/-- DRIVE_LOSS (R289). -/
def execDriveLoss (a : Fin 4) (s : State) : Host.Outcome State Fault Refusal := done (s.awake fun s => s.driveLoss a)

end Sys2Proof.Machine
end

