-- ==== Sys2Proof/Machine/PrintRows.lean ====
section
/-! DEFINITION. Meanings: SPOIL_N, position, line clock, tension, passes (R209, R213 to R239). -/

namespace Sys2Proof.Machine

/-- SPOIL_N_LOW (R209). -/
def execSpoilNLow (s : State) : Host.Outcome State Fault Refusal := done (s.awake fun s => s.spoilLow)

/-- SPOIL_N_HIGH (R209). -/
def execSpoilNHigh (s : State) : Host.Outcome State Fault Refusal := done (s.awake fun s => s.spoilHigh)

/-- SPOIL_N_PULSE_END (R209). -/
def execSpoilNPulseEnd (s : State) : Host.Outcome State Fault Refusal := done (s.awake fun s => s.spoilPulseEnd)

/-- POSITION_COUNT (R219). -/
def execPositionCount (i : CountIn) (s : State) : Host.Outcome State Fault Refusal := done (s.awake fun s => match i with | .levels e a b => s.encoderPins e a b | .source => s.sourceStep)

/-- ENCODER_INDEX (R217). -/
def execEncoderIndex (e : Fin 2) (s : State) : Host.Outcome State Fault Refusal := done (s.awake fun s => s.indexEdge e)

/-- SUB_TICK_REACHED (R223). -/
def execSubTickReached (s : State) : Host.Outcome State Fault Refusal := done (s.awake State.subTick)

/-- POSITION_SOURCE_WRITE (R214). -/
def execPositionSourceWrite (h : FopHead) (axis : Bool) (v : BitVec 8) (s : State) : Host.Outcome State Fault Refusal := done (s.wrote h 0x2800 (if axis then 3 else 2) 1 v.toNat)

/-- SET_ROW_COUNTER (R221). -/
def execSetRowCounter (h : FopHead) (s : State) : Host.Outcome State Fault Refusal := done (s.serveCmd h (obj 0x2820 12) State.setRow)

/-- LINE_PITCH_WRITE (R224). -/
def execLinePitchWrite (h : FopHead) (v : BitVec 32) (s : State) : Host.Outcome State Fault Refusal := done (s.wrote h 0x2820 1 4 v.toNat)

/-- PRINT_MODE_WRITE (R2). -/
def execPrintModeWrite (h : FopHead) (v : BitVec 8) (s : State) : Host.Outcome State Fault Refusal := done (s.wrote h 0x2800 1 1 v.toNat)

/-- TENSION_COMMIT (R232). -/
def execTensionCommit (h : FopHead) (s : State) : Host.Outcome State Fault Refusal := done (s.serveCmd h (obj 0x2860 1) State.tensionCommit)

/-- TEMP (R257). -/
def execTemp (p : Fin 16) (k : Fin 4) (t : BitVec 48) (s : State) : Host.Outcome State Fault Refusal := done (s.awake fun s => s.temp (lane p k) t.toNat)

/-- TEMPERATURE_REPORT_STALE (R231). -/
def execTemperatureReportStale (seg : BitVec 8) (s : State) : Host.Outcome State Fault Refusal := done (s.awake fun s => s.tempStale seg.toNat)

/-- SEQUENCER_ARM (R235). -/
def execSequencerArm (h : FopHead) (s : State) : Host.Outcome State Fault Refusal := done (s.serveCmd h (obj 0x2870 11) State.seqArm)

/-- SEQUENCER_STOP (R235). -/
def execSequencerStop (h : FopHead) (s : State) : Host.Outcome State Fault Refusal := done (s.serveCmd h (obj 0x2870 11) State.seqStop)

/-- FEED_COMPLETE (R236). -/
def execFeedComplete (s : State) : Host.Outcome State Fault Refusal := done (s.awake fun s => s.feedCheck)

/-- LINE_RATE_MEASURE (R224). -/
def execLineRateMeasure (s : State) : Host.Outcome State Fault Refusal := done (s.awake fun s => s.measureRate)

end Sys2Proof.Machine
end

