-- ==== Sys2Proof/Machine/RenderRows.lean ====
section
/-! DEFINITION. Meanings: Render, tables, page store, readout, firing (R161 to R212, R226, R254 to R260). -/

namespace Sys2Proof.Machine

/-- RENDER_START (R22). -/
def execRenderStart (s : State) : Host.Outcome State Fault Refusal := done (s.awake fun s => s.renderStart)

/-- WALKER_LINE (R167). -/
def execWalkerLine (chart : Restored) (s : State) : Host.Outcome State Fault Refusal := done (s.awake fun s => s.walkLine chart)

/-- PIPELINE_LINE (R163). -/
def execPipelineLine (k : Fin 32) (waited : BitVec 32) (cache : Restored) (s : State) : Host.Outcome State Fault Refusal := done (s.awake fun s => s.pipeLine k waited.toNat cache)

/-- LAST_STRIP_WRITTEN (R91). -/
def execLastStripWritten (s : State) : Host.Outcome State Fault Refusal := done (s.awake fun s => s.lastStrip)

/-- VERIFY_PASS_END (R201). -/
def execVerifyPassEnd (bad : List Nat) (s : State) : Host.Outcome State Fault Refusal := done (s.awake fun s => s.verifyEnd bad)

/-- PAGE_RELEASE (R23). -/
def execPageRelease (s : State) : Host.Outcome State Fault Refusal := done (s.awake fun s => s.pageRelease)

/-- QUEUE_FROG (R97). -/
def execQueueFrog (h : FopHead) (s : State) : Host.Outcome State Fault Refusal := done (s.serveCmd h (obj 0x4881 3) State.queueFrog)

/-- QUEUE_MOVE_BEFORE (R97). -/
def execQueueMoveBefore (h : FopHead) (s : State) : Host.Outcome State Fault Refusal := done (s.serveCmd h (obj 0x4881 3) State.queueBefore)

/-- QUEUE_MOVE_TO_TAIL (R97). -/
def execQueueMoveToTail (h : FopHead) (s : State) : Host.Outcome State Fault Refusal := done (s.serveCmd h (obj 0x4881 3) State.queueTail)

/-- PAGE_STORE_SIZE_WRITE (R197). -/
def execPageStoreSizeWrite (h : FopHead) (v : BitVec 32) (s : State) : Host.Outcome State Fault Refusal := done (s.wrote h 0x4800 1 4 v.toNat)

/-- BUILD_CLONE (R185). -/
def execBuildClone (h : FopHead) (s : State) : Host.Outcome State Fault Refusal := done (s.serveCmd h (obj 0x4010 3) State.buildClone)

/-- BUILD_COMMIT (R185). -/
def execBuildCommit (h : FopHead) (s : State) : Host.Outcome State Fault Refusal := done (s.serveCmd h (obj 0x4010 3) State.buildCommit)

/-- BUILD_DISCARD (R185). -/
def execBuildDiscard (h : FopHead) (s : State) : Host.Outcome State Fault Refusal := done (s.serveCmd h (obj 0x4010 3) State.buildDiscard)

/-- CLONE_COMPLETE (R185). -/
def execCloneComplete (s : State) : Host.Outcome State Fault Refusal := done (s.awake fun s => s.cloneDone)

/-- COMMIT_CHECKS_COMPLETE (R186). -/
def execCommitChecksComplete (s : State) : Host.Outcome State Fault Refusal := done (s.awake fun s => s.checksDone)

/-- GENERATION_SWAP (R187). -/
def execGenerationSwap (s : State) : Host.Outcome State Fault Refusal := done (s.awake fun s => s.swap)

/-- DEVICE_BUILD (R188). -/
def execDeviceBuild (s : State) : Host.Outcome State Fault Refusal := done (s.awake fun s => s.deviceBuild)

/-- CLEAR_PENDING (R190). -/
def execClearPending (h : FopHead) (s : State) : Host.Outcome State Fault Refusal := done (s.serveCmd h (obj 0x4020 8) fun s => (s.clearPending, true))

/-- TABLE_RELOAD_COMPLETE (R189). -/
def execTableReloadComplete (w : TableWord) (good : Bool) (s : State) : Host.Outcome State Fault Refusal := done (s.awake fun s => s.tableReload w good)

/-- NOT_HIDDEN_HOLD_END (R192). -/
def execNotHiddenHoldEnd (s : State) : Host.Outcome State Fault Refusal := done (s.awake fun s => s.holdEnd)

/-- SLICE_FETCH (R25). -/
def execSliceFetch (p : Fin 16) (k : Fin 4) (fault : ReadFault) (s : State) : Host.Outcome State Fault Refusal := done (s.awake fun s => s.sliceFetch (lane p k) fault)

/-- IN_PRINT_REPAIR_START (R204). -/
def execInPrintRepairStart (s : State) : Host.Outcome State Fault Refusal := done (s.awake fun s => s.repairStart)

/-- IN_PRINT_REPAIR_COMPLETE (R204). -/
def execInPrintRepairComplete (s : State) : Host.Outcome State Fault Refusal := done (s.awake fun s => s.repairDone)

/-- SLICE_SEND (R254). -/
def execSliceSend (p : Fin 16) (k : Fin 4) (bad : Bool) (s : State) : Host.Outcome State Fault Refusal := done (s.awake fun s => s.sliceSend (lane p k) bad)

/-- SEND_DEADLINE (R203). -/
def execSendDeadline (p : Fin 16) (k : Fin 4) (s : State) : Host.Outcome State Fault Refusal := done (s.awake fun s => s.sendDeadline (lane p k))

/-- ECHO (R260). -/
def execEcho (p : Fin 16) (k : Fin 4) (tag : BitVec 16) (crc : BitVec 32) (s : State) : Host.Outcome State Fault Refusal := done (s.awake fun s => s.echo (lane p k) tag.toNat crc.toNat)

/-- WITHDRAWN_SLICE_FREE (R254). -/
def execWithdrawnSliceFree (p : Fin 16) (k : Fin 4) (s : State) : Host.Outcome State Fault Refusal := done (s.awake fun s => s.withdrawnFree (lane p k))

/-- FIRE_INSTANT (R226). -/
def execFireInstant (p : Fin 16) (k : Fin 4) (s : State) : Host.Outcome State Fault Refusal := done (s.awake fun s => s.fireInstant (lane p k))

/-- REVERIFY_LINE (R211). -/
def execReverifyLine (page : BitVec 32) (line : BitVec 32) (bad : Bool) (s : State) : Host.Outcome State Fault Refusal := done (s.awake fun s => s.reverify page.toNat line.toNat bad)

end Sys2Proof.Machine
end

