-- ==== Sys2Proof/Machine/TimeRows.lean ====
section
/-! DEFINITION. Meanings: PTP, epochs, triggers, captures (R295 to R315). -/

namespace Sys2Proof.Machine

/-- SYNC (R301). -/
def execSync (t : PtpHead) (body : SyncBody) (s : State) : Host.Outcome State Fault Refusal := done (s.awake fun s => s.ptpSync t.domain.toNat t.transport t.fn t.src.toNat t.seq.toNat t.corr.toNat body.twoStep body.logInterval.toNat body.origin.toNat)

/-- FOLLOW_UP (R300). -/
def execFollowUp (t : PtpHead) (origin : BitVec 80) (s : State) : Host.Outcome State Fault Refusal := done (s.awake fun s => s.followUp t.domain.toNat t.transport t.fn t.src.toNat t.seq.toNat t.corr.toNat origin.toNat)

/-- ANNOUNCE (R301). -/
def execAnnounce (t : PtpHead) (body : AnnounceBody) (s : State) : Host.Outcome State Fault Refusal := done (s.awake fun s => s.announced t.domain.toNat t.transport ⟨t.fn, t.src.toNat, body.priority1.toNat, body.cls.toNat, body.accuracy.toNat, body.variance.toNat, body.priority2.toNat, body.identity.toNat⟩)

/-- DELAY_RESP (R300). -/
def execDelayResp (t : PtpHead) (rx : BitVec 80) (s : State) : Host.Outcome State Fault Refusal := done (s.awake fun s => s.delayResp t.domain.toNat t.transport t.fn t.src.toNat t.seq.toNat t.corr.toNat rx.toNat)

/-- PDELAY_REQ (R302). -/
def execPdelayReq (t : PtpHead) (s : State) : Host.Outcome State Fault Refusal := done (s.awake fun s => s.pdelayAsked t.domain.toNat t.transport t.fn t.src.toNat t.seq.toNat t.corr.toNat)

/-- PDELAY_RESP (R300). -/
def execPdelayResp (t : PtpHead) (rx : BitVec 80) (tx : BitVec 80) (s : State) : Host.Outcome State Fault Refusal := done (s.awake fun s => s.pdelayResp t.domain.toNat t.transport t.fn t.seq.toNat t.corr.toNat rx.toNat tx.toNat)

/-- TRANSPARENT_CLOCK_FORWARD (R302). -/
def execTransparentClockForward (fn : Fin 2) (transport : Fin 3) (msg : Bytes) (residence : BitVec 32) (s : State) : Host.Outcome State Fault Refusal := done (s.awake fun s => s.ptpForward fn transport msg residence.toNat)

/-- SYNC_LOSS_TIMEOUT (R301). -/
def execSyncLossTimeout (b : Bool) (s : State) : Host.Outcome State Fault Refusal := done (s.awake fun s => s.syncLost (b2n b))

/-- DOMAIN_ENABLE_WRITE (R301). -/
def execDomainEnableWrite (h : FopHead) (b : Bool) (v : BitVec 8) (s : State) : Host.Outcome State Fault Refusal := done (s.wrote h (0x1010 + b2n b) 4 1 v.toNat)

/-- REBASE_COMMAND (R307). -/
def execRebaseCommand (h : FopHead) (s : State) : Host.Outcome State Fault Refusal := done (s.serveCmd h (obj 0x1000 9) State.rebaseCommand)

/-- INITIAL_REBASE (R308). -/
def execInitialRebase (s : State) : Host.Outcome State Fault Refusal := done (s.awake fun s => s.initialRebase)

/-- TRIGGER_ARM (R309). -/
def execTriggerArm (h : FopHead) (t : Fin 4) (s : State) : Host.Outcome State Fault Refusal := done (s.serveCmd h (obj (0x1030 + t.val) 6) fun s => s.triggerArm t)

/-- TRIGGER_DISARM (R309). -/
def execTriggerDisarm (h : FopHead) (t : Fin 4) (s : State) : Host.Outcome State Fault Refusal := done (s.serveCmd h (obj (0x1030 + t.val) 6) fun s => s.triggerDisarm t)

/-- TRIGGER_EDGE (R309). -/
def execTriggerEdge (t : Fin 4) (s : State) : Host.Outcome State Fault Refusal := done (s.awake fun s => s.triggerEdge t)

/-- TRIGGER_PULSE_END (R309). -/
def execTriggerPulseEnd (t : Fin 4) (s : State) : Host.Outcome State Fault Refusal := done (s.awake fun s => s.triggerPulseEnd t)

/-- CAPTURE_EDGE (R311). -/
def execCaptureEdge (c : Fin 4) (rising : Bool) (s : State) : Host.Outcome State Fault Refusal := done (s.awake fun s => s.captureEdge c rising)

end Sys2Proof.Machine
end

