-- ==== Sys2Proof/Machine/Dispatch.lean ====
section
/-! DEFINITION. The effect of a command on everything but the queue: one arm per row of the opcode table. -/

namespace Sys2Proof.Machine

/-- Runs a command. -/
def exec (i : Instr) (s : State) : Host.Outcome State Fault Refusal :=
  match i with
  | .read m => Sys2Proof.Machine.execRead m s
  | .write m => Sys2Proof.Machine.execWrite m s
  | .segReadInit m => Sys2Proof.Machine.execSegReadInit m s
  | .segReadData m => Sys2Proof.Machine.execSegReadData m s
  | .segWriteInit m => Sys2Proof.Machine.execSegWriteInit m s
  | .segWriteData m behind => Sys2Proof.Machine.execSegWriteData m behind s
  | .segEnd m => Sys2Proof.Machine.execSegEnd m s
  | .segAbort m => Sys2Proof.Machine.execSegAbort m s
  | .subscribe m => Sys2Proof.Machine.execSubscribe m s
  | .rangeRead m => Sys2Proof.Machine.execRangeRead m s
  | .rangeWrite m => Sys2Proof.Machine.execRangeWrite m s
  | .notifyAck peer tid => Sys2Proof.Machine.execNotifyAck peer tid s
  | .fopDatagramDropped src bytes => Sys2Proof.Machine.execFopDatagramDropped src bytes s
  | .clientEntryRelease src => Sys2Proof.Machine.execClientEntryRelease src s
  | .replyCacheExpiry src tid => Sys2Proof.Machine.execReplyCacheExpiry src tid s
  | .segTransferTimeout handle => Sys2Proof.Machine.execSegTransferTimeout handle s
  | .notifySend slot => Sys2Proof.Machine.execNotifySend slot s
  | .notifyResend slot tid => Sys2Proof.Machine.execNotifyResend slot tid s
  | .eventClear h n => Sys2Proof.Machine.execEventClear h n s
  | .settingsSave h => Sys2Proof.Machine.execSettingsSave h s
  | .settingsErase h => Sys2Proof.Machine.execSettingsErase h s
  | .settingsOperationComplete good => Sys2Proof.Machine.execSettingsOperationComplete good s
  | .queueAllocate h q => Sys2Proof.Machine.execQueueAllocate h q s
  | .queueRelease h q => Sys2Proof.Machine.execQueueRelease h q s
  | .producerIndexWrite h q v => Sys2Proof.Machine.execProducerIndexWrite h q v s
  | .consumerIndexWrite h q v => Sys2Proof.Machine.execConsumerIndexWrite h q v s
  | .unitTakeOut h => Sys2Proof.Machine.execUnitTakeOut h s
  | .unitReturn h => Sys2Proof.Machine.execUnitReturn h s
  | .drainComplete unit => Sys2Proof.Machine.execDrainComplete unit s
  | .bringUpPasses unit => Sys2Proof.Machine.execBringUpPasses unit s
  | .bringUpFails unit => Sys2Proof.Machine.execBringUpFails unit s
  | .powerRequestDeep h => Sys2Proof.Machine.execPowerRequestDeep h s
  | .powerRequestKeep h => Sys2Proof.Machine.execPowerRequestKeep h s
  | .powerRequestIdle h => Sys2Proof.Machine.execPowerRequestIdle h s
  | .powerRequestRun h => Sys2Proof.Machine.execPowerRequestRun h s
  | .wakeN => Sys2Proof.Machine.execWakeN s
  | .rtcAlarm => Sys2Proof.Machine.execRtcAlarm s
  | .wakeFrame h => Sys2Proof.Machine.execWakeFrame h s
  | .objectCreate n => Sys2Proof.Machine.execObjectCreate n s
  | .objectData n => Sys2Proof.Machine.execObjectData n s
  | .objectDataRepair n => Sys2Proof.Machine.execObjectDataRepair n s
  | .objectDelete n => Sys2Proof.Machine.execObjectDelete n s
  | .groupDefine n => Sys2Proof.Machine.execGroupDefine n s
  | .pageDefine n => Sys2Proof.Machine.execPageDefine n s
  | .render n => Sys2Proof.Machine.execRender n s
  | .frog n => Sys2Proof.Machine.execFrog n s
  | .query n => Sys2Proof.Machine.execQuery n s
  | .readback n => Sys2Proof.Machine.execReadback n s
  | .closeReq n => Sys2Proof.Machine.execCloseReq n s
  | .mspPacket pk => Sys2Proof.Machine.execMspPacket pk s
  | .open_ pk => Sys2Proof.Machine.execOpen pk s
  | .proof pk => Sys2Proof.Machine.execProof pk s
  | .ackTimer n => Sys2Proof.Machine.execAckTimer n s
  | .retransmitTimeout n psn => Sys2Proof.Machine.execRetransmitTimeout n psn s
  | .keepAliveTimeout n => Sys2Proof.Machine.execKeepAliveTimeout n s
  | .idleAckSend n => Sys2Proof.Machine.execIdleAckSend n s
  | .pendingEntryExpiry handle => Sys2Proof.Machine.execPendingEntryExpiry handle s
  | .slotLockExpiry slot => Sys2Proof.Machine.execSlotLockExpiry slot s
  | .sessionCloseCommand h n => Sys2Proof.Machine.execSessionCloseCommand h n s
  | .credentialEnableWrite h slot v => Sys2Proof.Machine.execCredentialEnableWrite h slot v s
  | .closeResend n => Sys2Proof.Machine.execCloseResend n s
  | .completionSend n => Sys2Proof.Machine.execCompletionSend n s
  | .hostModeWrite h he v => Sys2Proof.Machine.execHostModeWrite h he v s
  | .hostLinkChange he link => Sys2Proof.Machine.execHostLinkChange he link s
  | .arpRequest port mac ip target => Sys2Proof.Machine.execArpRequest port mac ip target s
  | .neighbourDiscovery he mac src target => Sys2Proof.Machine.execNeighbourDiscovery he mac src target s
  | .fieldLinkChange fn link => Sys2Proof.Machine.execFieldLinkChange fn link s
  | .passThroughForward fn dst frame => Sys2Proof.Machine.execPassThroughForward fn dst frame s
  | .tileCodecComplete n => Sys2Proof.Machine.execTileCodecComplete n s
  | .decodeComplete d bad => Sys2Proof.Machine.execDecodeComplete d bad s
  | .inputStallResume d => Sys2Proof.Machine.execInputStallResume d s
  | .outputStallResume d => Sys2Proof.Machine.execOutputStallResume d s
  | .encodeBlockComplete e => Sys2Proof.Machine.execEncodeBlockComplete e s
  | .renderStart => Sys2Proof.Machine.execRenderStart s
  | .walkerLine chart => Sys2Proof.Machine.execWalkerLine chart s
  | .pipelineLine k waited cache => Sys2Proof.Machine.execPipelineLine k waited cache s
  | .lastStripWritten => Sys2Proof.Machine.execLastStripWritten s
  | .verifyPassEnd bad => Sys2Proof.Machine.execVerifyPassEnd bad s
  | .pageRelease => Sys2Proof.Machine.execPageRelease s
  | .queueFrog h => Sys2Proof.Machine.execQueueFrog h s
  | .queueMoveBefore h => Sys2Proof.Machine.execQueueMoveBefore h s
  | .queueMoveToTail h => Sys2Proof.Machine.execQueueMoveToTail h s
  | .pageStoreSizeWrite h v => Sys2Proof.Machine.execPageStoreSizeWrite h v s
  | .buildClone h => Sys2Proof.Machine.execBuildClone h s
  | .buildCommit h => Sys2Proof.Machine.execBuildCommit h s
  | .buildDiscard h => Sys2Proof.Machine.execBuildDiscard h s
  | .cloneComplete => Sys2Proof.Machine.execCloneComplete s
  | .commitChecksComplete => Sys2Proof.Machine.execCommitChecksComplete s
  | .generationSwap => Sys2Proof.Machine.execGenerationSwap s
  | .deviceBuild => Sys2Proof.Machine.execDeviceBuild s
  | .clearPending h => Sys2Proof.Machine.execClearPending h s
  | .tableReloadComplete w good => Sys2Proof.Machine.execTableReloadComplete w good s
  | .notHiddenHoldEnd => Sys2Proof.Machine.execNotHiddenHoldEnd s
  | .sliceFetch p k fault => Sys2Proof.Machine.execSliceFetch p k fault s
  | .inPrintRepairStart => Sys2Proof.Machine.execInPrintRepairStart s
  | .inPrintRepairComplete => Sys2Proof.Machine.execInPrintRepairComplete s
  | .sliceSend p k bad => Sys2Proof.Machine.execSliceSend p k bad s
  | .sendDeadline p k => Sys2Proof.Machine.execSendDeadline p k s
  | .echo p k tag crc => Sys2Proof.Machine.execEcho p k tag crc s
  | .withdrawnSliceFree p k => Sys2Proof.Machine.execWithdrawnSliceFree p k s
  | .fireInstant p k => Sys2Proof.Machine.execFireInstant p k s
  | .reverifyLine page line bad => Sys2Proof.Machine.execReverifyLine page line bad s
  | .spoilNLow => Sys2Proof.Machine.execSpoilNLow s
  | .spoilNHigh => Sys2Proof.Machine.execSpoilNHigh s
  | .spoilNPulseEnd => Sys2Proof.Machine.execSpoilNPulseEnd s
  | .positionCount x => Sys2Proof.Machine.execPositionCount x s
  | .encoderIndex e => Sys2Proof.Machine.execEncoderIndex e s
  | .subTickReached => Sys2Proof.Machine.execSubTickReached s
  | .positionSourceWrite h axis v => Sys2Proof.Machine.execPositionSourceWrite h axis v s
  | .setRowCounter h => Sys2Proof.Machine.execSetRowCounter h s
  | .linePitchWrite h v => Sys2Proof.Machine.execLinePitchWrite h v s
  | .printModeWrite h v => Sys2Proof.Machine.execPrintModeWrite h v s
  | .tensionCommit h => Sys2Proof.Machine.execTensionCommit h s
  | .temp p k t => Sys2Proof.Machine.execTemp p k t s
  | .temperatureReportStale seg => Sys2Proof.Machine.execTemperatureReportStale seg s
  | .sequencerArm h => Sys2Proof.Machine.execSequencerArm h s
  | .sequencerStop h => Sys2Proof.Machine.execSequencerStop h s
  | .feedComplete => Sys2Proof.Machine.execFeedComplete s
  | .lineRateMeasure => Sys2Proof.Machine.execLineRateMeasure s
  | .linkStart l => Sys2Proof.Machine.execLinkStart l s
  | .rxckDetected l => Sys2Proof.Machine.execRxckDetected l s
  | .detectTimerExpiry l => Sys2Proof.Machine.execDetectTimerExpiry l s
  | .train l status presets => Sys2Proof.Machine.execTrain l status presets s
  | .presetStep l => Sys2Proof.Machine.execPresetStep l s
  | .trainTimerExpiry l => Sys2Proof.Machine.execTrainTimerExpiry l s
  | .polarityTrialSwitch l => Sys2Proof.Machine.execPolarityTrialSwitch l s
  | .uplinkBlockLock l => Sys2Proof.Machine.execUplinkBlockLock l s
  | .lockTimerExpiry l => Sys2Proof.Machine.execLockTimerExpiry l s
  | .caps l body => Sys2Proof.Machine.execCaps l body s
  | .capsSend l => Sys2Proof.Machine.execCapsSend l s
  | .capsTimerExpiry l => Sys2Proof.Machine.execCapsTimerExpiry l s
  | .linkLost l => Sys2Proof.Machine.execLinkLost l s
  | .waitTimerExpiry l => Sys2Proof.Machine.execWaitTimerExpiry l s
  | .nop p => Sys2Proof.Machine.execNop p s
  | .waveWrite p => Sys2Proof.Machine.execWaveWrite p s
  | .rawCommand p => Sys2Proof.Machine.execRawCommand p s
  | .resp p addr seq status value => Sys2Proof.Machine.execResp p addr seq status value s
  | .commandTimeout p => Sys2Proof.Machine.execCommandTimeout p s
  | .measure h p => Sys2Proof.Machine.execMeasure h p s
  | .measureAndCaptureBaseline h p => Sys2Proof.Machine.execMeasureAndCaptureBaseline h p s
  | .automaticMeasurement p => Sys2Proof.Machine.execAutomaticMeasurement p s
  | .measFrame p addr seq status crc data => Sys2Proof.Machine.execMeasFrame p addr seq status crc data s
  | .measTimeout p => Sys2Proof.Machine.execMeasTimeout p s
  | .jetWindowClose p j => Sys2Proof.Machine.execJetWindowClose p j s
  | .loopbackStart h p => Sys2Proof.Machine.execLoopbackStart h p s
  | .loopbackStop h p => Sys2Proof.Machine.execLoopbackStop h p s
  | .servoTick => Sys2Proof.Machine.execServoTick s
  | .enable h a => Sys2Proof.Machine.execEnable h a s
  | .disable h a => Sys2Proof.Machine.execDisable h a s
  | .startMove h a => Sys2Proof.Machine.execStartMove h a s
  | .stop h a => Sys2Proof.Machine.execStop h a s
  | .startGearing h a => Sys2Proof.Machine.execStartGearing h a s
  | .setPosition h a => Sys2Proof.Machine.execSetPosition h a s
  | .clearFault h a => Sys2Proof.Machine.execClearFault h a s
  | .gearQueueAppend h a => Sys2Proof.Machine.execGearQueueAppend h a s
  | .gearQueueFlush h a => Sys2Proof.Machine.execGearQueueFlush h a s
  | .statusFrame src frame => Sys2Proof.Machine.execStatusFrame src frame s
  | .driveLoss a => Sys2Proof.Machine.execDriveLoss a s
  | .sync t body => Sys2Proof.Machine.execSync t body s
  | .followUp t origin => Sys2Proof.Machine.execFollowUp t origin s
  | .announce t body => Sys2Proof.Machine.execAnnounce t body s
  | .delayResp t rx => Sys2Proof.Machine.execDelayResp t rx s
  | .pdelayReq t => Sys2Proof.Machine.execPdelayReq t s
  | .pdelayResp t rx tx => Sys2Proof.Machine.execPdelayResp t rx tx s
  | .transparentClockForward fn transport msg residence => Sys2Proof.Machine.execTransparentClockForward fn transport msg residence s
  | .syncLossTimeout b => Sys2Proof.Machine.execSyncLossTimeout b s
  | .domainEnableWrite h b v => Sys2Proof.Machine.execDomainEnableWrite h b v s
  | .rebaseCommand h => Sys2Proof.Machine.execRebaseCommand h s
  | .initialRebase => Sys2Proof.Machine.execInitialRebase s
  | .triggerArm h t => Sys2Proof.Machine.execTriggerArm h t s
  | .triggerDisarm h t => Sys2Proof.Machine.execTriggerDisarm h t s
  | .triggerEdge t => Sys2Proof.Machine.execTriggerEdge t s
  | .triggerPulseEnd t => Sys2Proof.Machine.execTriggerPulseEnd t s
  | .captureEdge c rising => Sys2Proof.Machine.execCaptureEdge c rising s
  | .dramTemperatureRead temps => Sys2Proof.Machine.execDramTemperatureRead temps s
  | .refreshDue x rank => Sys2Proof.Machine.execRefreshDue x rank s
  | .dramCommandIssue x arrivals => Sys2Proof.Machine.execDramCommandIssue x arrivals s
  | .refreshWindowClear x => Sys2Proof.Machine.execRefreshWindowClear x s
  | .startupTrainingComplete answer rfm results => Sys2Proof.Machine.execStartupTrainingComplete answer rfm results s
  | .retrainAll h => Sys2Proof.Machine.execRetrainAll h s
  | .retrainSubchannel h => Sys2Proof.Machine.execRetrainSubchannel h s
  | .driftSample x drift => Sys2Proof.Machine.execDriftSample x drift s
  | .retrainingStart x => Sys2Proof.Machine.execRetrainingStart x s
  | .retrainingComplete x result oldPasses => Sys2Proof.Machine.execRetrainingComplete x result oldPasses s
  | .leakInstant cl => Sys2Proof.Machine.execLeakInstant cl s
  | .testWindowOpen h => Sys2Proof.Machine.execTestWindowOpen h s
  | .testWindowClose h => Sys2Proof.Machine.execTestWindowClose h s
  | .windowDataWrite h off data => Sys2Proof.Machine.execWindowDataWrite h off data s
  | .windowParityWrite h off data => Sys2Proof.Machine.execWindowParityWrite h off data s
  | .crcReset h u => Sys2Proof.Machine.execCrcReset h u s
  | .crcCompare h u => Sys2Proof.Machine.execCrcCompare h u s
  | .crcFeed h u w v => Sys2Proof.Machine.execCrcFeed h u w v s
  | .runningValueWrite h u v => Sys2Proof.Machine.execRunningValueWrite h u v s
  | .dmaStart h n => Sys2Proof.Machine.execDmaStart h n s
  | .dmaStop h n => Sys2Proof.Machine.execDmaStop h n s
  | .dmaResume h n => Sys2Proof.Machine.execDmaResume h n s
  | .dmaClaim => Sys2Proof.Machine.execDmaClaim s
  | .dmaRelease n => Sys2Proof.Machine.execDmaRelease n s
  | .dmaDescriptor n => Sys2Proof.Machine.execDmaDescriptor n s
  | .dmaElement n read => Sys2Proof.Machine.execDmaElement n read s
  | .countingWindowClose n => Sys2Proof.Machine.execCountingWindowClose n s
  | .windowConfigurationWrite h n width v => Sys2Proof.Machine.execWindowConfigurationWrite h n width v s
  | .faultClear h => Sys2Proof.Machine.execFaultClear h s
  | .enterSafeState h => Sys2Proof.Machine.execEnterSafeState h s
  | .sensorSample readings selfCause => Sys2Proof.Machine.execSensorSample readings selfCause s
  | .throttleHoldExpiry => Sys2Proof.Machine.execThrottleHoldExpiry s
  | .droopDetection => Sys2Proof.Machine.execDroopDetection s
  | .restoreInterval => Sys2Proof.Machine.execRestoreInterval s
  | .calibrationRun unit => Sys2Proof.Machine.execCalibrationRun unit s
  | .calibrationComplete unit margin load => Sys2Proof.Machine.execCalibrationComplete unit margin load s
  | .railUndervoltage => Sys2Proof.Machine.execRailUndervoltage s
  | .porNRelease straps testEn => Sys2Proof.Machine.execPorNRelease straps testEn s
  | .watchdogExpiry => Sys2Proof.Machine.execWatchdogExpiry s
  | .bootRetry => Sys2Proof.Machine.execBootRetry s
  | .bootComplete => Sys2Proof.Machine.execBootComplete s
  | .bootTimeout => Sys2Proof.Machine.execBootTimeout s
  | .resetCommand h => Sys2Proof.Machine.execResetCommand h s
  | .updateVerify h => Sys2Proof.Machine.execUpdateVerify h s
  | .updateChecksComplete => Sys2Proof.Machine.execUpdateChecksComplete s
  | .updateInstall h => Sys2Proof.Machine.execUpdateInstall h s
  | .installReadbackComplete good => Sys2Proof.Machine.execInstallReadbackComplete good s
  | .updateActivate h => Sys2Proof.Machine.execUpdateActivate h s
  | .activationBoundary => Sys2Proof.Machine.execActivationBoundary s
  | .trialSelfCheck good => Sys2Proof.Machine.execTrialSelfCheck good s
  | .updateRevert h => Sys2Proof.Machine.execUpdateRevert h s
  | .updateAbort h => Sys2Proof.Machine.execUpdateAbort h s
  | .tftpWrq src name octet readReq => Sys2Proof.Machine.execTftpWrq src name octet readReq s
  | .tftpData src block data => Sys2Proof.Machine.execTftpData src block data s
  | .tftpRetransmit => Sys2Proof.Machine.execTftpRetransmit s
  | .uartOpen f => Sys2Proof.Machine.execUartOpen f s
  | .uartData f => Sys2Proof.Machine.execUartData f s
  | .uartClose f => Sys2Proof.Machine.execUartClose f s
  | .uartReset f => Sys2Proof.Machine.execUartReset f s
  | .surgent k o => Sys2Proof.Machine.execSurgent k o s
  | .surgentSend => Sys2Proof.Machine.execSurgentSend s
  | .missingMember d => Sys2Proof.Machine.execMissingMember d s
  | .spos k o count at_ => Sys2Proof.Machine.execSpos k o count at_ s
  | .sposSend => Sys2Proof.Machine.execSposSend s
  | .posFull k o g => Sys2Proof.Machine.execPosFull k o g s
  | .posFullSend => Sys2Proof.Machine.execPosFullSend s
  | .stime k o at_ => Sys2Proof.Machine.execStime k o at_ s
  | .stimeSend => Sys2Proof.Machine.execStimeSend s
  | .stimeLoss => Sys2Proof.Machine.execStimeLoss s
  | .barrierStart => Sys2Proof.Machine.execBarrierStart s
  | .barrierOpen k o g => Sys2Proof.Machine.execBarrierOpen k o g s
  | .vote k o g => Sys2Proof.Machine.execVote k o g s
  | .barrierTimeout => Sys2Proof.Machine.execBarrierTimeout s
  | .barrierReopenDelay => Sys2Proof.Machine.execBarrierReopenDelay s
  | .release k o g => Sys2Proof.Machine.execRelease k o g s
  | .frogMessage k o g => Sys2Proof.Machine.execFrogMessage k o g s
  | .spoil k o g => Sys2Proof.Machine.execSpoil k o g s
  | .rebase k o g => Sys2Proof.Machine.execRebase k o g s
  | .rebaseApply => Sys2Proof.Machine.execRebaseApply s
  | .user k o g => Sys2Proof.Machine.execUser k o g s
  | .userSend h n => Sys2Proof.Machine.execUserSend h n s
  | .porNLow => Sys2Proof.Machine.execPorNLow s
  | .vbatRise => Sys2Proof.Machine.execVbatRise s
  | .internalResetRelease => Sys2Proof.Machine.execInternalResetRelease s
  | .sposGap => Sys2Proof.Machine.execSposGap s
  | .functionSelfTestPassed fn => Sys2Proof.Machine.execFunctionSelfTestPassed fn s
  | .testWindowCloseComplete => Sys2Proof.Machine.execTestWindowCloseComplete s

end Sys2Proof.Machine
end

