-- ==== Sys2Proof/Machine/Tick.lean ====
section
/-! DEFINITION. What passes while no command waits: time (R295, R392), and the accumulator of the internal generator (R214). How long an idle step takes is `State.idle` (log entry 4). -/

namespace Sys2Proof.Machine

/-- ns that an LFCLK period counts as (R295). -/
def lfNs : Nat := 30518

/-- The AON counter after n ns: 48 bits (R391). -/
def State.lfAfter (s : State) (n : Nat) : Clk :=
  { s.clk with lf := (s.clk.lf + (s.clk.lfRem + n) / lfNs) % 2 ^ 48, lfRem := (s.clk.lfRem + n) % lfNs }

/-- Billionths of device time that pass in n ns of RTCLK at the present rate adjustment, with the remainder (R303). -/
def State.steered (s : State) (n : Nat) : Nat := (((n : Int) * (1000000000 + s.i32 0x1000 4)).toNat + s.clk.frac)

/-- The lanes send what has come due (R255). -/
def State.lanesDue (s : State) : State :=
  let r := runLanes s.clk.now s.wire s.tx
  { s with wire := r.1, tx := r.2 }

/-- An idle step. While the device runs or boots, device time advances by RTCLK with its steering; in KEEP and DEEP it advances by whole LFCLK periods (R295); in reset it stands. -/
def State.idleStep (s : State) : State :=
  let c := s.lfAfter s.idle
  let aon := if s.aon.vbat then c else s.clk
  match s.boot.phase with
  | .held | .testHold => { s with clk := aon }
  | .keep | .deep => { s with clk := { aon with now := s.clk.now + lfNs * ((s.clk.lfRem + s.idle) / lfNs) } }
  | _ => { s with clk := { aon with now := s.clk.now + s.steered s.idle / 1000000000, frac := s.steered s.idle % 1000000000 }
                  pos := { s.pos with gen := s.pos.gen + s.reg 0x2800 4 * (s.steered s.idle / 1000000000) } }.lanesDue

end Sys2Proof.Machine
end

