-- ==== Sys2Proof/Safety.lean ====
section
/-! DEFINITION. What statements about runs speak of. -/

namespace Sys2Proof.Machine

/-- What no function of the block but time, reset and the power states may change: the queue of commands, the idle time, the clock, the boot record. -/
def State.outer (s : State) : List Instr × Nat × Clk × Boot := (s.pending, s.idle, s.clk, s.boot)

/-- The bytes of the DRAM with their parity marks, and the update staging. -/
def State.ram (s : State) : Sparse Byte × Sparse Bool × Sparse Byte := (s.mem, s.memBad, s.staging)

/-- What outlives a reset in flash, and the records of update service and recovery. -/
def State.kept (s : State) : Sparse Byte × Settings × Settings × Update × Recovery := (s.flash, s.copyA, s.copyB, s.update, s.recovery)

/-- All of these. -/
def State.still (s : State) : (List Instr × Nat × Clk × Boot) × (Sparse Byte × Settings × Settings × Update × Recovery) × (Sparse Byte × Sparse Bool × Sparse Byte) :=
  (s.outer, s.kept, s.ram)

/-- What every command carries over: the queue, the idle time, and device time unless a reset starts it again at 0 (R295). -/
abbrev State.Carries (s t : State) : Prop := t.pending = s.pending ∧ t.idle = s.idle ∧ (t.clk.now = s.clk.now ∨ t.clk.now = 0)

/-- Commands that may start the device again, put it into a power state, or owe one of these at their end; WRITE is one, since it reaches every command object. -/
def mayRestart : Instr → Bool
  | .bootComplete
  | .bootRetry
  | .bootTimeout
  | .internalResetRelease
  | .porNLow
  | .porNRelease _ _
  | .powerRequestDeep _
  | .powerRequestIdle _
  | .powerRequestKeep _
  | .powerRequestRun _
  | .railUndervoltage
  | .resetCommand _
  | .rtcAlarm
  | .tftpData _ _ _
  | .uartClose _
  | .uartReset _
  | .updateActivate _
  | .updateRevert _
  | .vbatRise
  | .wakeFrame _
  | .wakeN
  | .watchdogExpiry
  | .write _ => true
  | _ => false

/-- Other commands that may write flash, a settings copy, or the record of the update service or of recovery (R38, R39, R418, R426, R427). -/
def mayKeep : Instr → Bool
  | .activationBoundary
  | .installReadbackComplete _
  | .settingsErase _
  | .settingsOperationComplete _
  | .settingsSave _
  | .tftpRetransmit
  | .tftpWrq _ _ _ _
  | .trialSelfCheck _
  | .uartData _
  | .uartOpen _
  | .updateAbort _
  | .updateChecksComplete
  | .updateInstall _
  | .updateVerify _ => true
  | _ => false

/-- Other commands that may write bytes of DRAM or of the update staging, or mark them bad: page renders, readout and the checks it leaves for later, tiles the codec puts into the stash, builds that spoil pages, training that takes a pair out, DMA, ranged and segmented writes, the test window. -/
def mayStore : Instr → Bool
  | .buildClone _
  | .deviceBuild
  | .dmaElement _ _
  | .fireInstant _ _
  | .generationSwap
  | .inPrintRepairComplete
  | .inPrintRepairStart
  | .pipelineLine _ _ _
  | .rangeWrite _
  | .retrainingComplete _ _ _
  | .reverifyLine _ _ _
  | .segEnd _
  | .sendDeadline _ _
  | .sliceFetch _ _ _
  | .sliceSend _ _ _
  | .startupTrainingComplete _ _ _
  | .testWindowCloseComplete
  | .testWindowOpen _
  | .tileCodecComplete _
  | .walkerLine _
  | .windowDataWrite _ _ _
  | .windowParityWrite _ _ _ => true
  | _ => false

/-- R49 lets a request of an operation on an object reach its execution: FOP runs, the device has an address towards the source (R47), the source is allowed, the version is 1, the client has an entry or one is free, and no cached reply answers it. -/
abbrev State.Admits (s : State) (h : FopHead) (op key : Nat) : Prop :=
  s.fopUp = true ∧ s.reaches h.peer = true ∧ s.fopCount.allowed h.peer = true ∧ h.version = 1 ∧
    ((s.fopCount.client h.peer).isSome = true ∨ s.fopCount.fop.clients.length < 16) ∧ (s.fopCount.touchClient h.peer).repeats h op key = none

/-- The state in which an admitted request executes: the datagram is counted, its client's entry refreshed or made (R49, R50). -/
def State.counted (s : State) (h : FopHead) : State := s.fopCount.touchClient h.peer

/-- The canonical form of an addressed memory: addresses strictly rising. An unlisted byte holds nothing that was written; it reads as a free value (R342), which no listed entry equals as data. -/
def Memory.wf (m : Sparse Byte) : Bool := srising none m

/-- The canonical form of the DRAM, of its parity marks (only bad bytes are listed), of the update staging and of the flash (no erased byte is listed). -/
def storesWf (mem : Sparse Byte) (bad : Sparse Bool) (staging flash : Sparse Byte) : Bool :=
  Memory.wf mem && (srising none bad && sproper (fun _ => false) bad) && Memory.wf staging && (Memory.wf flash && sproper (fun _ => 0xFF) flash)

/-- Every memory of the block and both banks of objects are in canonical form, so that equal contents are equal data. -/
def State.canon (s : State) : Bool := s.main.wf && s.ev.bank.wf && storesWf s.mem s.memBad s.staging s.flash

end Sys2Proof.Machine
end

