-- ==== Sys2Proof/Certificates/Slice0/Obligations.lean ====
section
/-! DEFINITION. The statements for the provers. A statement of a command's effect is an equation: exec answers the next state that the rules give, as an explicit update of the state before, concluded (`State.conclude`: occurrences delivered and collected, the safe state entered if one asks for it, what fell due done). A request by FOP executes when it is admitted (`State.Admits`, R49), on the state in which its datagram is counted (`State.counted`). -/

open Sys2Proof Sys2Proof.Machine

/-- An admitted READ of a scalar answers its value; an admitted WRITE of a scalar, in range and allowed by the state, puts the value and answers OK; RANGE_READ answers the bytes, RANGE_WRITE writes them. Rules: R36, R49, R51, R57. Where the rules leave a choice, the model's choices of log entries 8, 10, 11, 18, 19, 98 apply. -/
def Obligations.FopReadsAndWrites : Prop :=
  (∀ (s u : State) (m : FopMsg) (o : Obj),
    s.Admits m.head 1 (obj m.index.toNat m.sub.toNat) →
    u = s.counted m.head →
    lookup m.index.toNat m.sub.toNat = some o →
    o.ty = .u →
    accessOf m.index.toNat m.sub.toNat o ≠ .wo →
    m.index ≠ 0x8020 →
    m.payload = [] →
    exec (.read m) s = .next (u.fopReply m.head (s.ownAddr m.head.peer) 1 (obj m.index.toNat m.sub.toNat) St.ok (leBytes o.size (if o.acc = .cmd then 0 else u.value m.index.toNat m.sub.toNat))).conclude) ∧
  (∀ (s u : State) (m : FopMsg) (o : Obj) (v : Nat),
    s.Admits m.head 2 (obj m.index.toNat m.sub.toNat) →
    u = s.counted m.head →
    lookup m.index.toNat m.sub.toNat = some o →
    o.ty = .u →
    o.acc ≠ .cmd →
    accessOf m.index.toNat m.sub.toNat o ≠ .ro →
    m.index ≠ 0x8020 →
    (m.index < 0x7C00 ∨ 0x7D00 ≤ m.index) →
    m.payload.length = o.size →
    v = leVal m.payload →
    inRange o v = true →
    (needsIdle m.index.toNat m.sub.toNat o && !u.idleFor m.index.toNat m.sub.toNat) = false →
    u.crcBusy m.index.toNat m.sub.toNat = false →
    u.fitsState m.index.toNat m.sub.toNat v = true →
    exec (.write m) s = .next ((u.put' m.index.toNat m.sub.toNat (kept o v)).fopReply m.head (s.ownAddr m.head.peer) 2 (obj m.index.toNat m.sub.toNat) St.ok []).conclude) ∧
  (∀ (s u : State) (m : FopMsg) (o : Obj) (off n : Nat),
    s.Admits m.head 0xA (obj m.index.toNat m.sub.toNat) →
    u = s.counted m.head →
    lookup m.index.toNat m.sub.toNat = some o →
    o.ranged = true →
    accessOf m.index.toNat m.sub.toNat o ≠ .wo →
    m.index ≠ 0x8020 →
    m.payload.length = 6 →
    off = leAt m.payload 0 4 →
    n = leAt m.payload 4 2 →
    0 < n →
    n ≤ 1024 →
    off + n ≤ u.domSize m.index.toNat m.sub.toNat →
    exec (.rangeRead m) s = .next ((u.readCheck m.index.toNat off n).fopReply m.head (s.ownAddr m.head.peer) 0xA (obj m.index.toNat m.sub.toNat) St.ok (u.domRead m.index.toNat m.sub.toNat off n)).conclude) ∧
  (∀ (s u : State) (m : FopMsg) (o : Obj) (off : Nat) (d : Bytes),
    s.Admits m.head 0xB (obj m.index.toNat m.sub.toNat) →
    u = s.counted m.head →
    lookup m.index.toNat m.sub.toNat = some o →
    o.ranged = true →
    accessOf m.index.toNat m.sub.toNat o ≠ .ro →
    m.index ≠ 0x8020 →
    m.payload = leBytes 4 off ++ d →
    off < 2 ^ 32 →
    0 < d.length →
    d.length ≤ 1024 →
    off + d.length ≤ u.domSize m.index.toNat m.sub.toNat →
    u.domIdle m.index.toNat = true →
    u.lockedFor m.head.peer (obj m.index.toNat m.sub.toNat) = false →
    exec (.rangeWrite m) s = .next (((u.domWrite m.index.toNat m.sub.toNat off d).rewatch m.index.toNat m.sub.toNat).fopReply m.head (s.ownAddr m.head.peer) 0xB (obj m.index.toNat m.sub.toNat) St.ok []).conclude)

/-- SEG_READ_INIT and SEG_WRITE_INIT open a transfer with a handle not in use; SEG_READ_DATA answers its segment; SEG_WRITE_DATA extends the shadow; SEG_END commits a shadow with the right CRC and answers the CRC of a read; SEG_ABORT and the timeout end a transfer. Rules: R53, R54, R55, R56. Where the rules leave a choice, the model's choices of log entries 5, 8, 11, 13, 14, 15, 98 apply. -/
def Obligations.SegmentedTransfers : Prop :=
  (∀ (s u : State) (m : FopMsg) (o : Obj) (n : Nat),
    s.Admits m.head 3 (obj m.index.toNat m.sub.toNat) →
    u = s.counted m.head →
    lookup m.index.toNat m.sub.toNat = some o →
    o.ty = .dom →
    accessOf m.index.toNat m.sub.toNat o ≠ .wo →
    m.index ≠ 0x8020 →
    m.payload = [] →
    n = u.domSize m.index.toNat m.sub.toNat →
    u.fop.xfers.length < 8 →
    u.locked (obj m.index.toNat m.sub.toNat) = false →
    ∃ c : Nat, c ∉ u.fop.xfers.map (·.handle) ∧ exec (.segReadInit m) s = .next (State.fopReply { u with free := u.free + 1, fop := ⟨u.fop.clients, u.fop.xfers ++ [⟨c, m.head.peer, (obj m.index.toNat m.sub.toNat), false, n, u.domRead m.index.toNat m.sub.toNat 0 n, false, u.clk.now, u.domRead m.index.toNat m.sub.toNat 0 n⟩]⟩ }
        m.head (s.ownAddr m.head.peer) 3 (obj m.index.toNat m.sub.toNat) St.ok (leBytes 2 c ++ zeros 2 ++ leBytes 4 n)).conclude) ∧
  (∀ (s u : State) (m : FopMsg) (x : Xfer) (off n : Nat),
    s.Admits m.head 4 (obj m.index.toNat m.sub.toNat) →
    u = s.counted m.head →
    lookup m.index.toNat m.sub.toNat ≠ none →
    (m.index.toNat = 0x8020 → u.ready 6 = true) →
    m.payload.length = 8 →
    u.transfer m.head.peer (obj m.index.toNat m.sub.toNat) (leAt m.payload 0 2) = some x →
    x.isWrite = false →
    off = leAt m.payload 4 4 →
    n = min 1024 (x.size - off) →
    segmentFits x.size off n = true →
    exec (.segReadData m) s = .next (State.fopReply (((u.updXfer x.handle fun y => { y with last := u.clk.now }).readCheck m.index.toNat off n).updXfer x.handle fun y =>
        { y with data := patch y.data off (u.domRead m.index.toNat m.sub.toNat off n) }) m.head (s.ownAddr m.head.peer) 4 (obj m.index.toNat m.sub.toNat) St.ok (leBytes 4 off ++ u.domRead m.index.toNat m.sub.toNat off n)).conclude) ∧
  (∀ (s u : State) (m : FopMsg) (o : Obj) (n : Nat),
    s.Admits m.head 5 (obj m.index.toNat m.sub.toNat) →
    u = s.counted m.head →
    lookup m.index.toNat m.sub.toNat = some o →
    o.ty = .dom →
    accessOf m.index.toNat m.sub.toNat o ≠ .ro →
    m.index ≠ 0x8020 →
    m.payload.length = 4 →
    n = u.domSize m.index.toNat m.sub.toNat →
    leAt m.payload 0 4 = n →
    u.domIdle m.index.toNat = true →
    u.fop.xfers.length < 8 →
    u.locked (obj m.index.toNat m.sub.toNat) = false →
    ∃ c : Nat, c ∉ u.fop.xfers.map (·.handle) ∧ exec (.segWriteInit m) s = .next (State.fopReply { u with free := u.free + 1, fop := ⟨u.fop.clients, u.fop.xfers ++ [⟨c, m.head.peer, (obj m.index.toNat m.sub.toNat), true, n, [], false, u.clk.now, []⟩]⟩ }
        m.head (s.ownAddr m.head.peer) 5 (obj m.index.toNat m.sub.toNat) St.ok (leBytes 2 c ++ zeros 2)).conclude) ∧
  (∀ (s u : State) (m : FopMsg) (behind : BitVec 8) (x : Xfer) (d : Bytes),
    behind < 16 →
    s.Admits m.head 6 (obj m.index.toNat m.sub.toNat) →
    u = s.counted m.head →
    lookup m.index.toNat m.sub.toNat ≠ none →
    (m.index.toNat = 0x8020 → u.ready 6 = true) →
    8 ≤ m.payload.length →
    u.transfer m.head.peer (obj m.index.toNat m.sub.toNat) (leAt m.payload 0 2) = some x →
    x.isWrite = true →
    leAt m.payload 4 4 = x.data.length →
    d = m.payload.drop 8 →
    segmentFits x.size x.data.length d.length = true →
    exec (.segWriteData m behind) s = .next (State.fopReply ((u.updXfer x.handle fun y => { y with last := u.clk.now }).updXfer x.handle fun y => { y with data := y.data ++ d })
        m.head (s.ownAddr m.head.peer) 6 (obj m.index.toNat m.sub.toNat) St.ok (leBytes 4 (x.data.length + d.length))).conclude) ∧
  (∀ (s u : State) (m : FopMsg) (x : Xfer) (o : Obj),
    s.Admits m.head 7 (obj m.index.toNat m.sub.toNat) →
    u = s.counted m.head →
    lookup m.index.toNat m.sub.toNat = some o →
    accessOf m.index.toNat m.sub.toNat o ≠ .ro →
    m.index ≠ 0x8020 →
    m.payload.length = 8 →
    u.transfer m.head.peer (obj m.index.toNat m.sub.toNat) (leAt m.payload 0 2) = some x →
    x.isWrite = true →
    x.data.length = x.size →
    crc32c x.data = leAt m.payload 4 4 →
    contentsFit m.index.toNat x.data = true →
    u.domIdle m.index.toNat = true →
    exec (.segEnd m) s = .next (((((u.updXfer x.handle fun y => { y with last := u.clk.now }).endXfer x.handle).domWrite m.index.toNat m.sub.toNat 0 x.data).rewatch m.index.toNat m.sub.toNat).fopReply m.head (s.ownAddr m.head.peer) 7 (obj m.index.toNat m.sub.toNat) St.ok (leBytes 4 (leAt m.payload 4 4))).conclude) ∧
  (∀ (s u : State) (m : FopMsg) (x : Xfer),
    s.Admits m.head 7 (obj m.index.toNat m.sub.toNat) →
    u = s.counted m.head →
    lookup m.index.toNat m.sub.toNat ≠ none →
    (m.index.toNat = 0x8020 → u.ready 6 = true) →
    m.payload.length = 8 →
    u.transfer m.head.peer (obj m.index.toNat m.sub.toNat) (leAt m.payload 0 2) = some x →
    x.isWrite = false →
    x.changed = false →
    u.domRead m.index.toNat m.sub.toNat 0 x.size = x.seen →
    exec (.segEnd m) s = .next (((u.updXfer x.handle fun y => { y with last := u.clk.now }).endXfer x.handle).fopReply m.head (s.ownAddr m.head.peer) 7 (obj m.index.toNat m.sub.toNat) St.ok (leBytes 4 (crc32c x.data))).conclude) ∧
  (∀ (s u : State) (m : FopMsg) (x : Xfer),
    s.Admits m.head 8 (obj m.index.toNat m.sub.toNat) →
    u = s.counted m.head →
    lookup m.index.toNat m.sub.toNat ≠ none →
    m.payload.length = 4 →
    u.transfer m.head.peer (obj m.index.toNat m.sub.toNat) (leAt m.payload 0 2) = some x →
    exec (.segAbort m) s = .next (((u.updXfer x.handle fun y => { y with last := u.clk.now }).endXfer x.handle).fopReply m.head (s.ownAddr m.head.peer) 8 (obj m.index.toNat m.sub.toNat) St.ok []).conclude) ∧
  (∀ (s : State) (handle : BitVec 16) (x : Xfer),
    s.alive = true →
    (s.fop.xfers.find? (fun y => y.handle == handle.toNat) = some x) →
    x.last + 2000000000 ≤ s.clk.now →
    exec (.segTransferTimeout handle) s = .next (State.conclude { s with fop := ⟨s.fop.clients, s.fop.xfers.filter fun y => y.handle != handle.toNat⟩ }))

/-- SUBSCRIBE takes a slot and shows its target; an acknowledgement ends its NOTIFY; a bad datagram is counted; entries, cached replies and notifications time out or are sent as the rules say. Rules: R49, R50, R51, R58, R59. Where the rules leave a choice, the model's choices of log entries 12, 14, 16, 98 apply. -/
def Obligations.ClientsAndNotifications : Prop :=
  (∀ (s u : State) (m : FopMsg) (k : Nat),
    s.Admits m.head 9 (obj m.index.toNat m.sub.toNat) →
    u = s.counted m.head →
    lookup m.index.toNat m.sub.toNat ≠ none →
    k < 4 →
    m.payload = [BitVec.ofNat 8 k, 1] →
    exec (.subscribe m) s = .next (((u.updSlot k fun n => { n with peer := some m.head.peer }).showTarget k (some m.head.peer)).fopReply m.head (s.ownAddr m.head.peer) 9 (obj m.index.toNat m.sub.toNat) St.ok []).conclude) ∧
  (∀ (s : State) (peer : Peer) (tid : BitVec 16),
    s.alive = true →
    s.fopUp = true →
    s.reaches peer = true →
    s.fopCount.allowed peer = true →
    (s.slot 0).peer = some peer →
    (s.slot 1).peer ≠ some peer →
    (s.slot 2).peer ≠ some peer →
    (s.slot 3).peer ≠ some peer →
    exec (.notifyAck peer tid) s = .next (((s.fopCount.updClient peer fun c => { c with last := s.clk.now }).updSlot 0 fun n => { n with out := n.out.filter fun y => y.tid != tid.toNat })).conclude) ∧
  (∀ (s : State) (src : Peer) (bytes : Bytes),
    s.fopUp = true →
    s.reaches src = true →
    fopSound bytes = false →
    exec (.fopDatagramDropped src bytes) s = .next (((s.count 0x1812 1 32 1).count 0x1812 2 32 1)).conclude) ∧
  (∀ (s : State) (src : Peer) (c : Client),
    s.alive = true →
    s.client src = some c →
    c.last + 60000000000 ≤ s.clk.now →
    (s.fop.xfers.any (fun x => x.owner == src) = false) →
    ([0, 1, 2, 3].any (fun k => (s.slot k).peer == some src) = false) →
    exec (.clientEntryRelease src) s = .next (State.conclude { s with fop := ⟨s.fop.clients.filter fun c => c.peer != src, s.fop.xfers⟩ })) ∧
  (∀ (s : State) (src : Peer) (tid : BitVec 16),
    s.alive = true →
    exec (.replyCacheExpiry src tid) s = .next (s.updClient src fun c => { c with cache := c.cache.filter fun r => r.tid != tid.toNat || decide (s.clk.now < r.sent + 5000000000) }).conclude) ∧
  (∀ (s : State) (slot : Fin 4) (n : NotifySlot) (p : Peer) (d : Bytes) (rest : List Bytes) (used : List Nat),
    s.alive = true →
    s.fopUp = true →
    s.reaches p = true →
    s.slot slot = n →
    n.peer = some p →
    n.waiting = d :: rest →
    n.out.length < 8 →
    (used = [0, 1, 2, 3].flatMap fun j => (s.slot j).out.map (·.tid)) →
    used.length ≤ 32 →
    ∃ tid : Nat, tid ∉ used ∧ exec (.notifySend slot) s = .next ((State.updSlot { s with free := s.free + 1 } slot fun _ => ⟨some p, rest, n.out ++ [⟨tid, d, s.clk.now, 1⟩]⟩).sendNotice p tid d).conclude) ∧
  (∀ (s : State) (slot : Fin 4) (tid : BitVec 16) (p : Peer) (x : Notice),
    s.alive = true →
    s.fopUp = true →
    s.reaches p = true →
    (s.slot slot).peer = some p →
    ((s.slot slot).out.find? (fun y => y.tid == tid.toNat) = some x) →
    x.sent + 100000000 ≤ s.clk.now →
    x.sends < 4 →
    exec (.notifyResend slot tid) s = .next ((s.updSlot slot fun n => { n with out := updWhere n.out (fun y => y.tid == tid.toNat) fun y => { y with sent := s.clk.now, sends := y.sends + 1 } }).sendNotice p tid.toNat x.desc).conclude)

/-- EVENT_CLEAR zeroes the count; SETTINGS_SAVE and ERASE start, their completion puts the copy in force; a ring is allocated and released; index writes in range move the index. Rules: R38, R39, R60, R61, R67, R69, R72. Where the rules leave a choice, the model's choices of log entries 11, 18, 19, 98, 105 apply. -/
def Obligations.EventsSettingsAndRings : Prop :=
  (∀ (s u : State) (h : FopHead) (n : BitVec 8),
    s.Admits h 2 (obj (0x7A00 + n.toNat) 5) →
    u = s.counted h →
    exec (.eventClear h n) s = .next ((u.set (0x7A00 + n.toNat) 4 0).fopReply h (s.ownAddr h.peer) 2 (obj (0x7A00 + n.toNat) 5) St.ok []).conclude) ∧
  (∀ (s u : State) (h : FopHead),
    s.Admits h 2 (obj 0x0040 1) →
    u = s.counted h →
    u.reg 0x0040 2 = 0 →
    exec (.settingsSave h) s = .next (((u.putCopy u.saveTarget (u.saved false)).set 0x0040 2 1).fopReply h (s.ownAddr h.peer) 2 (obj 0x0040 1) St.ok []).conclude) ∧
  (∀ (s u : State) (h : FopHead),
    s.Admits h 2 (obj 0x0040 1) →
    u = s.counted h →
    u.reg 0x0040 2 = 0 →
    exec (.settingsErase h) s = .next ((u.set 0x0040 2 2).fopReply h (s.ownAddr h.peer) 2 (obj 0x0040 1) St.ok []).conclude) ∧
  (∀ (s : State),
    s.alive = true →
    s.reg 0x0040 2 = 1 →
    exec (.settingsOperationComplete true) s = .next (((s.putCopy s.saveTarget { s.settingsCopy s.saveTarget with valid := true }).set 0x0040 2 0).set 0x0040 4 (s.settingsCopy s.saveTarget).count).conclude) ∧
  (∀ (s : State),
    s.alive = true →
    s.reg 0x0040 2 = 2 →
    exec (.settingsOperationComplete true) s = .next (State.set { s with copyA := Settings.none, copyB := Settings.none } 0x0040 2 0).conclude) ∧
  (∀ (s : State),
    s.alive = true →
    (s.reg 0x0040 2 = 1 ∨ s.reg 0x0040 2 = 2) →
    exec (.settingsOperationComplete false) s = .next (s.set 0x0040 2 3).conclude) ∧
  (∀ (s u : State) (h : FopHead) (q : BitVec 8) (k : Nat),
    s.Admits h 2 (obj (0x7C00 + q.toNat) 5) →
    u = s.counted h →
    clientQueue q.toNat = true →
    Ring.active u.ev q.toNat = false →
    k = u.reg (0x7C00 + q.toNat) 1 →
    k ≠ 0 →
    u.ev.ringUsed + 2 ^ k ≤ ringMemory →
    exec (.queueAllocate h q) s = .next ((State.set { u with ev := u.ev.ringAllocate q.toNat k } (0x7C00 + q.toNat) 0x0A 0).fopReply h (s.ownAddr h.peer) 2 (obj (0x7C00 + q.toNat) 5) St.ok []).conclude) ∧
  (∀ (s u : State) (h : FopHead) (q : BitVec 8),
    s.Admits h 2 (obj (0x7C00 + q.toNat) 5) →
    u = s.counted h →
    clientQueue q.toNat = true →
    Ring.active u.ev q.toNat = true →
    Ring.held u.ev q.toNat = 0 →
    exec (.queueRelease h q) s = .next ((State.set { u with ev := u.ev.ringRelease q.toNat } (0x7C00 + q.toNat) 0x0A 0).fopReply h (s.ownAddr h.peer) 2 (obj (0x7C00 + q.toNat) 5) St.ok []).conclude) ∧
  (∀ (s u : State) (h : FopHead) (q : BitVec 8) (v : BitVec 32),
    s.Admits h 2 (obj (0x7C00 + q.toNat) 2) →
    u = s.counted h →
    bit (roles q.toNat) 0 = false →
    Ring.active u.ev q.toNat = true →
    Ring.held u.ev q.toNat ≤ u.ahead q.toNat v.toNat →
    u.ahead q.toNat v.toNat ≤ Ring.size u.ev q.toNat →
    exec (.producerIndexWrite h q v) s = .next ((u.set (0x7C00 + q.toNat) 2 v.toNat).fopReply h (s.ownAddr h.peer) 2 (obj (0x7C00 + q.toNat) 2) St.ok []).conclude) ∧
  (∀ (s u : State) (h : FopHead) (q : BitVec 8) (v : BitVec 32),
    s.Admits h 2 (obj (0x7C00 + q.toNat) 3) →
    u = s.counted h →
    bit (roles q.toNat) 1 = false →
    Ring.active u.ev q.toNat = true →
    u.ahead q.toNat v.toNat ≤ Ring.held u.ev q.toNat →
    exec (.consumerIndexWrite h q v) s = .next ((u.set (0x7C00 + q.toNat) 3 v.toNat).fopReply h (s.ownAddr h.peer) 2 (obj (0x7C00 + q.toNat) 3) St.ok []).conclude)

/-- Each of the five commands answers a next state, named in full: UNIT_TAKE_OUT of a valid unit in service that may go starts its drain with result 0; UNIT_RETURN of a unit that is OUT starts the return of a port, a cluster and a pair; DRAIN_COMPLETE takes each kind OUT once drained; BRING_UP_PASSES puts each kind back in service; BRING_UP_FAILS puts it back OUT with result 4. Rules: R29, R30, R31, R32. Where the rules leave a choice, the model's choices of log entries 22, 55, 90, 98 apply. -/
def Obligations.UnitsAndPowerStates : Prop :=
  (∀ (s u : State) (h : FopHead) (n : Nat),
    s.Admits h 2 (obj 0x0028 2) →
    u = s.counted h →
    n = u.reg 0x0028 1 →
    validUnit n = true →
    u.unit n = 0 →
    u.unitBusy = false →
    u.unitMayGo n = true →
    exec (.unitTakeOut h) s = .next (((u.drainStart n).set 0x0028 4 0).fopReply h (s.ownAddr h.peer) 2 (obj 0x0028 2) St.ok []).conclude) ∧
  (∀ (s u : State) (h : FopHead) (n : Nat),
    s.Admits h 2 (obj 0x0028 2) →
    u = s.counted h →
    n = u.reg 0x0028 1 →
    validUnit n = true →
    n / 256 = 2 →
    u.unit n = 2 →
    u.unitBusy = false →
    exec (.unitReturn h) s = .next ((State.set { u.unitTo n 3 with units := { (u.unitTo n 3).units with since := [], moved := false } } 0x0028 4 0).fopReply h (s.ownAddr h.peer) 2 (obj 0x0028 2) St.ok []).conclude) ∧
  (∀ (s u : State) (h : FopHead) (n : Nat) (v : State),
    s.Admits h 2 (obj 0x0028 2) →
    u = s.counted h →
    n = u.reg 0x0028 1 →
    validUnit n = true →
    n / 256 = 1 →
    u.unit n = 2 →
    u.unitBusy = false →
    v = (u.loopEnd (n % 256)).unitTo n 3 →
    exec (.unitReturn h) s = .next ((State.set { v with units := { v.units with since := [], moved := false } } 0x0028 4 0).fopReply h (s.ownAddr h.peer) 2 (obj 0x0028 2) St.ok []).conclude) ∧
  (∀ (s u : State) (h : FopHead) (n : Nat) (v : State),
    s.Admits h 2 (obj 0x0028 2) →
    u = s.counted h →
    n = u.reg 0x0028 1 →
    validUnit n = true →
    n / 256 = 3 →
    u.unit n = 2 →
    u.unitBusy = false →
    v = u.unitTo n 3 →
    exec (.unitReturn h) s = .next (((State.pairTo { v with units := { v.units with since := [], moved := false } } (n % 256) 2 1).set 0x0028 4 0).fopReply h (s.ownAddr h.peer) 2 (obj 0x0028 2) St.ok []).conclude) ∧
  (∀ (s : State) (n : BitVec 16),
    s.alive = true →
    validUnit n.toNat = true →
    n.toNat / 256 = 2 →
    s.unit n.toNat = 1 →
    (∀ j ∈ s.render.jobs, j.out = n.toNat % 256 ∨ ∀ p, s.page j.page = some p → ∀ i < 8, j.count p ≤ j.stepOf (8 * (n.toNat % 256) + i)) →
    exec (.drainComplete n) s = .next ((s.unitTo n.toNat 2).set 0x0028 4 0).conclude) ∧
  (∀ (s : State) (n : BitVec 16),
    s.alive = true →
    validUnit n.toNat = true →
    n.toNat / 256 = 1 →
    s.unit n.toNat = 1 →
    s.units.moved = true →
    s.drainedPages = true →
    exec (.drainComplete n) s = .next (((s.unitTo n.toNat 2).set 0x0028 4 0).linkStop (n.toNat % 256)).conclude) ∧
  (∀ (s : State) (n : BitVec 16),
    s.alive = true →
    validUnit n.toNat = true →
    n.toNat / 256 = 3 →
    s.unit n.toNat = 1 →
    s.drainedPages = true →
    s.dmaClaimed = true →
    exec (.drainComplete n) s = .next ((((s.unitTo n.toNat 2).set 0x0028 4 0).migrate).pairTo (n.toNat % 256) 4 1).conclude) ∧
  (∀ (s : State) (n : BitVec 16),
    s.alive = true →
    validUnit n.toNat = true →
    n.toNat / 256 = 1 →
    s.unit n.toNat = 3 →
    s.linkState (n.toNat % 256) = 5 →
    s.units.moved = true →
    exec (.bringUpPasses n) s = .next ((s.unitTo n.toNat 0).set 0x0028 4 0).conclude) ∧
  (∀ (s : State) (n : BitVec 16),
    s.alive = true →
    validUnit n.toNat = true →
    n.toNat / 256 = 2 →
    s.unit n.toNat = 3 →
    exec (.bringUpPasses n) s = .next ((s.unitTo n.toNat 0).set 0x0028 4 0).conclude) ∧
  (∀ (s : State) (n : BitVec 16),
    s.alive = true →
    validUnit n.toNat = true →
    n.toNat / 256 = 2 →
    s.unit n.toNat = 3 →
    exec (.bringUpFails n) s = .next ((s.unitTo n.toNat 2).set 0x0028 4 4).conclude) ∧
  (∀ (s : State) (n : BitVec 16) (p : Nat),
    s.alive = true →
    validUnit n.toNat = true →
    n.toNat / 256 = 3 →
    s.unit n.toNat = 3 →
    p = n.toNat % 256 →
    exec (.bringUpFails n) s = .next ((((((s.unitTo n.toNat 2).set 0x0028 4 4).raiseAt 237 2 (2 * p + 80) 12 6 0 0).raiseAt 237 2 (2 * p + 1 + 80) 12 6 0 0).pairTo p 3 2)).conclude) ∧
  (∀ (s : State) (n : BitVec 16),
    s.alive = true →
    validUnit n.toNat = true →
    n.toNat / 256 = 1 →
    s.unit n.toNat = 3 →
    exec (.bringUpFails n) s = .next (((s.unitTo n.toNat 2).set 0x0028 4 4).linkStop (n.toNat % 256)).conclude) ∧
  (∀ (s t : State) (n : BitVec 16),
    s.alive = true →
    validUnit n.toNat = true →
    n.toNat / 256 = 3 →
    s.unit n.toNat = 3 →
    t = ((s.unitTo n.toNat 0).set 0x0028 4 0).pairTo (n.toNat % 256) 0 1 →
    exec (.bringUpPasses n) s = .next ([2 * (n.toNat % 256), 2 * (n.toNat % 256) + 1].foldl (fun s i => s.raise 237 0 (i + 16 + field (s.le 0x6010 5 i 1) 0 2 * 256)) t).capNow.conclude)

/-- Each of the seven commands answers a next state, named in full: a request of a state other than the present one with no page active and nothing that blocks it is accepted, and sleep falls due after its reply, IDLE and RUN at once with E003; a wake source that is enabled ends KEEP or DEEP with its number. Rules: R386, R388, R390, R391. Where the rules leave a choice, the model's choices of log entries 27, 39, 53, 98, 107 apply. -/
def Obligations.PowerStatesChange : Prop :=
  (∀ (s u : State) (h : FopHead),
    s.Admits h 2 (obj 0x0030 1) →
    u = s.counted h →
    u.boot.due = .none →
    u.reg 0x0030 2 ≠ 1 →
    u.pagesActive = false →
    (([0, 1, 2, 3].any fun a => [2, 3, 4].contains (u.axisState a)) = false) →
    u.settingsBusy = false →
    u.wakeUsable 1 = true →
    exec (.powerRequestDeep h) s = .next ((State.fopReply { u.set 0x0030 3 0 with boot := { u.boot with due := .sleep 1 } } h (s.ownAddr h.peer) 2 (obj 0x0030 1) St.ok [])).conclude) ∧
  (∀ (s u : State) (h : FopHead),
    s.Admits h 2 (obj 0x0030 1) →
    u = s.counted h →
    u.boot.due = .none →
    u.reg 0x0030 2 ≠ 2 →
    u.pagesActive = false →
    (([0, 1, 2, 3].any fun a => [2, 3, 4].contains (u.axisState a)) = false) →
    u.settingsBusy = false →
    u.wakeUsable 2 = true →
    exec (.powerRequestKeep h) s = .next ((State.fopReply { u.set 0x0030 3 0 with boot := { u.boot with due := .sleep 2 } } h (s.ownAddr h.peer) 2 (obj 0x0030 1) St.ok [])).conclude) ∧
  (∀ (s u : State) (h : FopHead),
    s.Admits h 2 (obj 0x0030 1) →
    u = s.counted h →
    u.boot.due = .none →
    u.reg 0x0030 2 ≠ 3 →
    u.pagesActive = false →
    exec (.powerRequestIdle h) s = .next (((((u.set 0x0030 3 0).set 0x0030 2 3).set 0x0030 4 1).raise 3 0 (3 + u.reg 0x0030 2 * 16 + 1 * 256)).fopReply h (s.ownAddr h.peer) 2 (obj 0x0030 1) St.ok []).conclude) ∧
  (∀ (s u : State) (h : FopHead),
    s.Admits h 2 (obj 0x0030 1) →
    u = s.counted h →
    u.boot.due = .none →
    u.reg 0x0030 2 ≠ 4 →
    u.pagesActive = false →
    exec (.powerRequestRun h) s = .next (((((u.set 0x0030 3 0).set 0x0030 2 4).set 0x0030 4 1).raise 3 0 (4 + u.reg 0x0030 2 * 16 + 1 * 256)).fopReply h (s.ownAddr h.peer) 2 (obj 0x0030 1) St.ok []).conclude) ∧
  (∀ (s : State),
    s.boot.phase = .keep →
    bit (s.reg 0x0031 1) 0 = true →
    exec .wakeN s = .next (s.keepExit 1).conclude) ∧
  (∀ (s : State),
    s.boot.phase = .deep →
    bit (s.reg 0x0031 1) 1 = true →
    s.reg 0x0031 2 ≠ 0 →
    s.reg 0x0031 2 ≤ s.clk.lf →
    exec .rtcAlarm s = .next (s.deepExit 2).conclude) ∧
  (∀ (s : State) (h : FopHead),
    s.boot.phase = .keep →
    s.reaches h.peer = true →
    s.allowed h.peer = true →
    bit (s.reg 0x0031 1) 2 = true →
    exec (.wakeFrame h) s = .next (s.keepExit 3).conclude)

/-- A request at the head of its session is taken and answered OK with its effect on the stash: the object made, the bytes of a tile kept, the object deleted; a tile that the codec ends is complete. Rules: R116, R123, R124, R125, R126, R159. Where the rules leave a choice, the model's choices of log entries 2, 14, 28, 30, 31, 84, 85 apply. -/
def Obligations.StashRequests : Prop :=
  (∀ (s u : State) (n : Fin 64) (x : Session) (r : Req) (o : StashObj),
    s.alive = true →
    s.headReq n = some (r, true) →
    s.sess n = some x →
    r.ty = 0x10 →
    u = s.takeReq n →
    u.ready 8 = true →
    createOk r.body = true →
    o = parseObject x.ns u.pairsIn (Config.choice u.fresh.1) r.body →
    u.jobs.obj x.ns o.id = none →
    x.charge + o.charge ≤ x.stashQuota →
    o.charge ≤ u.stashFree →
    exec (.objectCreate n) s = .next ((State.reply (State.updSess { u.fresh.2 with jobs := { u.jobs with stash := u.jobs.stash ++ [o] } } n fun y => { y with charge := y.charge + o.charge }) n r Rs.ok 0).stockAll n).conclude) ∧
  (∀ (s u : State) (n : Fin 64) (x : Session) (r : Req) (o : StashObj) (t : Tile) (i len off k : Nat),
    s.alive = true →
    s.headReq n = some (r, true) →
    s.sess n = some x →
    r.ty = 0x11 →
    bit (leAt r.body 16 1) 0 = false →
    u = s.takeReq n →
    i = leAt r.body 4 4 →
    len = leAt r.body 8 4 →
    off = leAt r.body 12 4 →
    k = leAt r.body 20 4 →
    u.ready 8 = true →
    24 ≤ r.body.length →
    r.body.length = (pad4 (zeros (24 + k))).length →
    u.jobs.obj x.ns (leAt r.body 0 4) = some o →
    i < o.tileCount →
    t = sget Tile.none o.tiles i →
    t.st = .empty →
    o.dataFits i len off k = true →
    (patchGot off (slice r.body 24 k) t.got).length < len →
    exec (.objectData n) s = .next ((State.reply (u.updTile x.ns (leAt r.body 0 4) i fun y => { y with length := len, got := patchGot off (slice r.body 24 k) t.got, repair := false }) n r Rs.ok 0).stockAll n).conclude) ∧
  (∀ (s u : State) (n : Fin 64) (x : Session) (r : Req) (o : StashObj) (t : Tile) (i len off k : Nat),
    s.alive = true →
    s.headReq n = some (r, true) →
    s.sess n = some x →
    r.ty = 0x11 →
    bit (leAt r.body 16 1) 0 = true →
    u = s.takeReq n →
    i = leAt r.body 4 4 →
    len = leAt r.body 8 4 →
    off = leAt r.body 12 4 →
    k = leAt r.body 20 4 →
    u.ready 8 = true →
    24 ≤ r.body.length →
    r.body.length = (pad4 (zeros (24 + k))).length →
    u.jobs.obj x.ns (leAt r.body 0 4) = some o →
    i < o.tileCount →
    t = sget Tile.none o.tiles i →
    t.st = .lost →
    o.dataFits i len off k = true →
    (patchGot off (slice r.body 24 k) t.got).length < len →
    exec (.objectDataRepair n) s = .next ((State.reply (u.updTile x.ns (leAt r.body 0 4) i fun y => { y with length := len, got := patchGot off (slice r.body 24 k) t.got, repair := true }) n r Rs.ok 0).stockAll n).conclude) ∧
  (∀ (s u : State) (n : Fin 64) (x : Session) (r : Req) (o : StashObj),
    s.alive = true →
    s.headReq n = some (r, true) →
    s.sess n = some x →
    r.ty = 0x12 →
    u = s.takeReq n →
    u.ready 8 = true →
    r.body.length = 4 →
    u.jobs.obj x.ns (leAt r.body 0 4) = some o →
    u.jobs.pinned x.ns (leAt r.body 0 4) = false →
    exec (.objectDelete n) s = .next ((State.reply (State.updSess { u with
          jobs := { u.jobs with stash := u.jobs.stash.filter fun q => !(q.ns == x.ns && q.id == leAt r.body 0 4) }
          render := { u.render with cache := u.render.cache.filter fun c => !(c.tile.ns == x.ns && c.tile.obj == leAt r.body 0 4)
                                    decQueue := u.render.decQueue.filter fun t => !(t.ns == x.ns && t.obj == leAt r.body 0 4)
                                    decoders := u.render.decoders.filter fun e => match e.2 with | some d => !(d.tile.ns == x.ns && d.tile.obj == leAt r.body 0 4) | none => true } } n fun y => { y with charge := y.charge - o.charge }) n r Rs.ok 0).stockAll n).conclude) ∧
  (∀ (s : State) (n : Fin 64) (x : Session) (o : StashObj) (id i num : Nat) (t : Tile),
    s.alive = true →
    s.sess n = some x →
    x.codec = some (id, i, num) →
    s.ready 9 = true →
    s.jobs.obj x.ns id = some o →
    t = sget Tile.none o.tiles i →
    o.raw = true →
    x.codecDone = true →
    exec (.tileCodecComplete n) s = .next ((s.tileDone n x o i t t.block).codecReply n num Rs.ok 0).conclude) ∧
  (∀ (s : State) (n : Fin 64) (x : Session) (o : StashObj) (id i num : Nat) (t : Tile) (e : Qtc.Err),
    s.alive = true →
    s.sess n = some x →
    x.codec = some (id, i, num) →
    s.ready 9 = true →
    s.jobs.obj x.ns id = some o →
    t = sget Tile.none o.tiles i →
    o.raw = false →
    s.decoderFree = true →
    Qtc.decode (o.tileDim i).1 (o.tileDim i).2 o.ch o.depth t.bytes = .inl e →
    exec (.tileCodecComplete n) s = .next (((((s.bump 0x5800 2).set 0x5800 3 e.detail).updTile x.ns id i fun t => if t.repair then { t with got := [], repair := false } else Tile.none).codecReply n num Rs.codec e.detail)).conclude) ∧
  (∀ (s : State) (n : Fin 64) (x : Session) (o : StashObj) (id i num : Nat) (t : Tile) (d : List (List Nat)),
    s.alive = true →
    s.sess n = some x →
    x.codec = some (id, i, num) →
    s.ready 9 = true →
    s.jobs.obj x.ns id = some o →
    t = sget Tile.none o.tiles i →
    o.raw = false →
    s.decoderFree = true →
    Qtc.decode (o.tileDim i).1 (o.tileDim i).2 o.ch o.depth t.bytes = .inr d →
    exec (.tileCodecComplete n) s = .next (((s.count 0x5800 1 64 1).tileDone n x o i t t.bytes).codecReply n num Rs.ok 0).conclude)

/-- A request that passes its checks is answered OK with its effect: the group kept, the page made with the next page number, the page queued as WAITING, frogged, reported, read back; CLOSE_REQ is answered before the session closes. Rules: R77, R79, R87, R88, R90, R91, R97, R123, R127, R128, R131. Where the rules leave a choice, the model's choices of log entries 31, 37, 84, 92, 104 apply. -/
def Obligations.PageRequests : Prop :=
  (∀ (s u : State) (n : Fin 64) (x : Session) (r : Req) (g : Group),
    s.alive = true →
    s.headReq n = some (r, true) →
    s.sess n = some x →
    r.ty = 0x13 →
    u = s.takeReq n →
    u.ready 7 = true →
    16 ≤ r.body.length →
    (¬ (0 < leAt r.body 2 2 ∧ leAt r.body 2 2 ≤ 4096 ∧ r.body.length ≠ 16 + 32 * leAt r.body 2 2)) →
    checkGroup r.body (u.jobs.groupUsed x.ns (leAt r.body 0 2)) = none →
    g = parseGroup x.ns r.body →
    exec (.groupDefine n) s = .next ((State.reply { u with jobs := { u.jobs with groups := (u.jobs.groups.filter fun (q : Group) => !(q.ns == x.ns && q.id == g.id)) ++ [g] } } n r Rs.ok 0).stockAll n).conclude) ∧
  (∀ (s u : State) (n : Fin 64) (x : Session) (r : Req) (p : Page),
    s.alive = true →
    s.headReq n = some (r, true) →
    s.sess n = some x →
    r.ty = 0x14 →
    u = s.takeReq n →
    u.ready 7 = true →
    r.body.length = 48 + 32 * leAt r.body 10 2 + 8 * leAt r.body 28 2 →
    u.jobs.pageId x.ns (leAt r.body 0 4) = none →
    (checkPage u.jobs x.ns r.body false (decide (u.jobs.pages.countP (fun p => !p.st.final) ≥ 4096)) = none) →
    p = u.newPage n x r.body →
    exec (.pageDefine n) s = .next ((State.reply { u with jobs := { u.jobs with pages := u.jobs.pages ++ [p], next := nextPageNum u.jobs.next } } n r Rs.ok p.num).stockAll n).conclude) ∧
  (∀ (s u : State) (n : Fin 64) (x : Session) (r : Req) (p : Page),
    s.alive = true →
    s.headReq n = some (r, true) →
    s.sess n = some x →
    r.ty = 0x15 →
    u = s.takeReq n →
    u.ready 7 = true →
    r.body.length = 4 →
    u.jobs.pageId x.ns (leAt r.body 0 4) = some p →
    u.linesHeld x.ns + p.len ≤ x.pageQuota →
    chunksOf p.len ≤ u.reg 0x4800 1 →
    u.unreserved n ≠ 0 →
    p.st = .defined →
    u.jobs.queue.length < 1024 →
    exec (.render n) s = .next ((State.reply { (u.setReserved n (u.reserved n + 1)).updPage p.num fun q => { q with st := .waiting } with jobs := { ((u.setReserved n (u.reserved n + 1)).updPage p.num fun q => { q with st := .waiting }).jobs with queue := u.jobs.queue ++ [p.num] } } n r Rs.ok (pageDetail p.num 1)).stockAll n).conclude) ∧
  (∀ (s u : State) (n : Fin 64) (x : Session) (r : Req) (p : Page),
    s.alive = true →
    s.headReq n = some (r, true) →
    s.sess n = some x →
    r.ty = 0x16 →
    u = s.takeReq n →
    u.ready 7 = true →
    r.body.length = 4 →
    u.jobs.pageId x.ns (leAt r.body 0 4) = some p →
    u.page p.num = some p →
    p.st = .waiting →
    exec (.frog n) s = .next ((State.reply (u.froggedBy p.num 1) n r Rs.ok (pageDetail p.num ((u.froggedBy p.num 1).codeAfter p 10))).stockAll n).conclude) ∧
  (∀ (s u : State) (n : Fin 64) (x : Session) (r : Req) (p : Page),
    s.alive = true →
    s.headReq n = some (r, true) →
    s.sess n = some x →
    r.ty = 0x17 →
    u = s.takeReq n →
    r.body.length = 4 →
    u.jobs.pageId x.ns (leAt r.body 0 4) = some p →
    exec (.query n) s = .next ((State.reply u n r Rs.ok (pageDetail p.num p.st.code)).stockAll n).conclude) ∧
  (∀ (s u : State) (n : Fin 64) (x : Session) (r : Req) (p : Page) (v : State),
    s.alive = true →
    s.headReq n = some (r, true) →
    s.sess n = some x →
    r.ty = 0x18 →
    u = s.takeReq n →
    u.ready 7 = true →
    u.ready 9 = true →
    r.body.length = 16 →
    leAt r.body 4 1 ≤ 15 →
    0 < leAt r.body 12 4 →
    leAt r.body 12 4 ≤ 1024 →
    u.jobs.pageId x.ns (leAt r.body 0 4) = some p →
    u.readbackHeld p.num = true →
    leAt r.body 8 4 + leAt r.body 12 4 ≤ p.len →
    (v = u.updSess n fun x => { x with readback := some ⟨r.num, p.num, leAt r.body 4 1, leAt r.body 8 4, leAt r.body 12 4, 0, [], 0, false⟩ }) →
    exec (.readback n) s = .next ((State.feedEncoders { v with render := { v.render with encQueue := v.render.encQueue ++ [(n.val, none)] } }).stockAll n).conclude) ∧
  (∀ (s u : State) (n : Fin 64) (x : Session) (r : Req),
    s.alive = true →
    s.headReq n = some (r, true) →
    s.sess n = some x →
    r.ty = 0x1f →
    u = s.takeReq n →
    r.body.length = 4 →
    exec (.closeReq n) s = .next ((((u.reply n r Rs.ok 0).sendAll n (x.window + 1)).closeSession n 1).stockAll n).conclude)

/-- An unsequenced packet of an open session refreshes it and gives its acknowledgement; the timers send, resend or close; completions go out one by one; a command of press control closes the session. Rules: R105, R107, R110, R111, R112, R114, R118, R120, R130, R131, R132. Where the rules leave a choice, the model's choices of log entries 5, 83, 84, 98 apply. -/
def Obligations.SessionTimersAndPackets : Prop :=
  (∀ (s u : State) (pk : MspPacket) (n : Nat) (x : Session) (b : Bytes),
    s.alive = true →
    s.mspSilent pk = false →
    b = pk.payload →
    b.length = 40 →
    leAt b 0 2 = 0x534D →
    crc32c (b.take 36) = leAt b 36 4 →
    leAt b 2 1 = 1 →
    leAt b 5 1 = 0 →
    n = leAt b 4 1 →
    n ≠ 0xFF →
    s.sess n = some x →
    x.st = 1 →
    x.token = leAt b 8 4 →
    (u = s.updSess n fun y => { y with lastRx := s.clk.now, peer := ⟨pk.he, pk.peer⟩ }) →
    exec (.mspPacket pk) s = .next (State.ackIn { u with msp := { u.msp with opening := u.msp.opening.filter fun o => o.sess != some n } } n (leAt b 16 4) (leAt b 20 4) (leAt b 24 4)).conclude) ∧
  (∀ (s : State) (n : Fin 64) (x : Session) (t : Nat),
    s.alive = true →
    s.sess n = some x →
    x.ackDue = some t →
    t ≤ s.clk.now →
    exec (.ackTimer n) s = .next (s.sendToHost n 0 0 x.txNext []).conclude) ∧
  (∀ (s : State) (n : Fin 64) (psn : BitVec 32) (x : Session) (p : Sent),
    s.alive = true →
    s.sess n = some x →
    x.st = 1 →
    (x.flight.find? (fun p => p.psn == psn.toNat) = some p) →
    p.marked = false →
    p.sent + p.rto ≤ s.clk.now →
    p.resends < s.reg 0x5020 3 →
    exec (.retransmitTimeout n psn) s = .next (((s.sendToHost n 1 p.count p.psn p.recs).bump (0x5030 + n) 7).updSess n fun x => x.updSent psn.toNat fun q => { q with sent := s.clk.now, resends := q.resends + 1, rto := min 64000000 (2 * q.rto) }).conclude) ∧
  (∀ (s : State) (n : Fin 64) (x : Session),
    s.alive = true →
    s.sess n = some x →
    x.st = 1 →
    x.lastRx + x.keepMs * 1000000 ≤ s.clk.now →
    exec (.keepAliveTimeout n) s = .next (s.closeSession n 2).conclude) ∧
  (∀ (s : State) (n : Fin 64) (x : Session),
    s.alive = true →
    s.sess n = some x →
    x.st = 1 →
    x.quiet + x.keepMs * 250000 ≤ s.clk.now →
    exec (.idleAckSend n) s = .next (s.sendToHost n 0 0 x.txNext []).conclude) ∧
  (∀ (s : State) (handle : BitVec 32) (o : Opening),
    s.alive = true →
    (s.msp.opening.find? (fun o => o.handle == handle.toNat) = some o) →
    o.live s.clk.now = false →
    o.sess = none →
    exec (.pendingEntryExpiry handle) s = .next (State.conclude { s with msp := { s.msp with opening := s.msp.opening.filter fun e => e.handle != handle.toNat } })) ∧
  (∀ (s : State) (slot : Fin 16) (t : Nat),
    s.alive = true →
    sget none s.msp.locked slot = some t →
    t ≤ s.clk.now →
    exec (.slotLockExpiry slot) s = .next (State.conclude { s with msp := { s.msp with locked := sset none s.msp.locked slot none } })) ∧
  (∀ (s u : State) (h : FopHead) (n : Fin 64) (x : Session),
    s.Admits h 2 (obj (0x5030 + n.val) 8) →
    u = s.counted h →
    u.sess n = some x →
    exec (.sessionCloseCommand h n) s = .next ((u.closeSession n 5).fopReply h (s.ownAddr h.peer) 2 (obj (0x5030 + n.val) 8) St.ok []).conclude) ∧
  (∀ (s u : State) (h : FopHead) (slot : Fin 16),
    s.Admits h 2 (obj (0x5010 + slot.val) 2) →
    u = s.counted h →
    exec (.credentialEnableWrite h slot 1) s = .next ((u.set (0x5010 + slot.val) 2 1).fopReply h (s.ownAddr h.peer) 2 (obj (0x5010 + slot.val) 2) St.ok []).conclude) ∧
  (∀ (s : State) (n : Fin 64) (x : Session),
    s.alive = true →
    s.sess n = some x →
    x.st = 2 →
    x.closing ≠ 0 →
    x.closeAt ≤ s.clk.now →
    exec (.closeResend n) s = .next (((s.sendClose n).updSess n fun y => { y with closing := y.closing - 1, closeAt := y.closeAt + 1000000 }).closeComplete n).conclude) ∧
  (∀ (s : State) (n : Fin 64) (x : Session),
    s.alive = true →
    s.sess n = some x →
    s.maySend n = true →
    exec (.completionSend n) s = .next ((s.sendToHost n 0 1 x.txNext (s.completionRecord n x.compSend)).updSess n fun y => { y with
        txNext := wrapAdd 32 y.txNext 1, compSend := wrapAdd 32 x.compSend 1
        flight := y.flight ++ [⟨y.txNext, s.completionRecord n x.compSend, 1, wrapAdd 32 x.compSend 1, s.clk.now, y.rto, 0, false, false⟩] }).conclude)

/-- An OPEN that nothing refuses makes a pending entry with the OPEN's fields and is answered with a CHALLENGE of its handle and nonces; a PROOF with the right tag that nothing refuses allocates a session. Rules: R105, R109, R118, R119, R120, R122. Where the rules leave a choice, the model's choices of log entries 2, 3, 8, 14, 37, 38, 93, 94, 95, 96 apply. -/
def Obligations.OpeningASession : Prop :=
  (∀ (s : State) (pk : MspPacket) (b : Bytes) (r : MspRec) (nonce : Bytes),
    s.alive = true →
    s.mspSilent pk = false →
    b = pk.payload →
    40 ≤ b.length →
    leAt b 0 2 = 0x534D →
    crc32c (b.take 36) = leAt b 36 4 →
    leAt b 2 1 = 1 →
    leAt b 4 1 = 0xFF →
    leAt b 5 1 = 1 →
    leAt b 8 4 = 0 →
    leAt b 12 4 = 0 →
    leAt b 16 4 = 0 →
    parseRecords 2 (b.drop 40) = some [r] →
    r.ty = 1 →
    parseRecords ((b.drop 40).length + 1) (b.drop 40) = some [r] →
    leAt r.body 1 1 = 1 →
    s.msp.opening = [] →
    s.openRefused 1 (leAt r.body 0 1) (leAt r.body 2 1) (leAt r.body 3 1) = none →
    nonce = fit 16 (slice r.body 8 16) →
    ∃ (hnd : Nat) (dev : Bytes), dev.length = 16 ∧ exec (.open_ pk) s = .next (State.conclude
        (State.sendOpen { s with free := s.free + 2, msp := { s.msp with opening := [⟨hnd, ⟨pk.he, pk.peer⟩, leAt r.body 0 1, leAt r.body 2 1, leAt r.body 3 1, nonce, dev, s.clk.now, none, [], none⟩] } }
          ⟨pk.he, pk.peer⟩ 2 (leBytes 4 hnd ++ zeros 4 ++ nonce ++ dev)))) ∧
  (∀ (s : State) (pk : MspPacket) (b : Bytes) (r : MspRec) (o : Opening),
    s.alive = true →
    s.mspSilent pk = false →
    b = pk.payload →
    40 ≤ b.length →
    leAt b 0 2 = 0x534D →
    crc32c (b.take 36) = leAt b 36 4 →
    leAt b 2 1 = 1 →
    leAt b 4 1 = 0xFF →
    leAt b 5 1 = 1 →
    leAt b 8 4 = 0 →
    leAt b 12 4 = 0 →
    leAt b 16 4 = 0 →
    parseRecords 2 (b.drop 40) = some [r] →
    r.ty = 3 →
    parseRecords ((b.drop 40).length + 1) (b.drop 40) = some [r] →
    (s.msp.opening.find? (fun o => o.handle == leAt r.body 0 4 && o.live s.clk.now && o.src.peer == pk.peer) = some o) →
    o.proof = none →
    fit 32 (slice r.body 8 32) = hmac (s.slotKey o.slot) ([0x4D, 0x53, 0x50, 0x31] ++ o.signed) →
    s.proofRefused o = none →
    exec (.proof pk) s = .next (s.accept { o with src := ⟨pk.he, pk.peer⟩ } r.body).conclude)

/-- A change of mode restarts a host port, link changes are taken and told, ARP and neighbour discovery are answered, frames pass through, a decode fills the cache, a stall is counted and its state kept, an encode ends with its block. Rules: R46, R102, R103, R151, R155, R156, R159, R168. Where the rules leave a choice, the model's choices of log entries 6, 8, 9, 11, 18, 19, 30, 59, 88, 98 apply. -/
def Obligations.NetworkPortsAndCodec : Prop :=
  (∀ (s u : State) (h : FopHead) (he : Fin 2) (v : BitVec 8),
    s.Admits h 2 (obj 0x5000 (1 + he.val)) →
    u = s.counted h →
    v.toNat ≤ 7 →
    u.alive = true →
    u.reg 0x5000 (1 + he.val) ≠ v.toNat →
    exec (.hostModeWrite h he v) s = .next ((((u.set 0x5000 (1 + he.val) v.toNat).heTo he 0).heStart he).fopReply h (s.ownAddr h.peer) 2 (obj 0x5000 (1 + he.val)) St.ok []).conclude) ∧
  (∀ (s : State) (he : Fin 2) (link : BitVec 8),
    s.alive = true →
    modeReaches (s.reg 0x5000 (1 + he.val)) link.toNat = true →
    s.heState he ≠ link.toNat →
    exec (.hostLinkChange he link) s = .next ((((s.set 0x5000 (3 + he.val) link.toNat).raise (72 + he.val) 0 link.toNat).setReady (3 + he.val) (decide (3 ≤ link.toNat))).sessionReady).conclude) ∧
  (∀ (s : State) (port : Fin 3) (mac : BitVec 48) (ip target : BitVec 32),
    port.val < 2 →
    s.heUp port = true →
    s.reg 0x5002 (1 + 2 * port.val) = target.toNat →
    target ≠ 0 →
    exec (.arpRequest port mac ip target) s = .next (s.send (.hostFrame port) (arpReply (Config.macHe port).toNat target.toNat mac.toNat ip.toNat)).conclude) ∧
  (∀ (s : State) (he : Fin 2) (mac : BitVec 48) (src target : BitVec 128),
    s.alive = true →
    s.heUp he = true →
    beVal (s.bytes 0x5003 (1 + he.val) 0 16) = target.toNat →
    target ≠ 0 →
    exec (.neighbourDiscovery he mac src target) s = .next (s.send (.hostFrame he) (neighbourAdvert (Config.macHe he).toNat target.toNat mac.toNat src.toNat)).conclude) ∧
  (∀ (s : State) (fn : Fin 2) (link : BitVec 8),
    s.alive = true →
    link.toNat ≤ 4 →
    exec (.fieldLinkChange fn link) s = .next (((s.set 0x1800 (1 + fn.val) link.toNat).fopReady).motCheck).conclude) ∧
  (∀ (s : State) (fn : Fin 2) (dst : BitVec 48) (frame : Bytes),
    s.alive = true →
    s.flag 0x1804 0 = true →
    s.fnUp fn = true →
    s.fnUp (1 - fn.val) = true →
    bit dst.toNat 40 = true →
    exec (.passThroughForward fn dst frame) s = .next (s.send (.frame (1 - fn.val)) frame).conclude) ∧
  (∀ (s w : State) (d : Fin 16) (x : Decoder) (t : TileRef) (o : StashObj) (v : List (List Nat)),
    s.alive = true →
    s.decoder d = some x →
    t = x.tile →
    s.jobs.obj t.ns t.obj = some o →
    Qtc.decodeFrom (o.tileDim t.tile).1 (o.tileDim t.tile).2 o.ch o.depth (sget Tile.none o.tiles t.tile).block x.walk = .inr v →
    s.cacheUsed + s.jobs.tileBytes t ≤ s.cacheSize →
    w = State.count { s with render := { s.render with cache := s.render.cache ++ [⟨t, s.wantedBy t, 0, s.jobs.tileBytes t⟩] } } 0x5800 1 64 1 →
    exec (.decodeComplete d false) s = .next (State.feedDecoders { w with render := { w.render with decoders := sset none w.render.decoders d none } }).conclude) ∧
  (∀ (s : State) (d : Fin 16) (x : Decoder),
    s.alive = true →
    s.decoder d = some x →
    s.jobs.obj x.tile.ns x.tile.obj = none →
    exec (.decodeComplete d false) s = .next (State.feedDecoders { s with render := { s.render with decoders := sset none s.render.decoders d none } }).conclude) ∧
  (∀ (s : State) (d : Fin 16) (words : BitVec 32) (x : Decoder) (k : Qtc.Block) (w : Qtc.Walk),
    s.alive = true →
    s.decoder d = some x →
    s.blockOf x.tile = some k →
    x.words ≤ words.toNat →
    64 * words.toNat < 8 * k.payload.length →
    k.resume (64 * words.toNat) k.samples x.walk = .inr w →
    w.written k < k.samples →
    exec (.inputStallResume ⟨d, words⟩) s = .next (State.count { s with render := { s.render with decoders := sset none s.render.decoders d (some { x with words := words.toNat, walk := w }) } } 0x5800 5 64 1).conclude) ∧
  (∀ (s : State) (d : Fin 16) (samples words : BitVec 32) (x : Decoder) (k : Qtc.Block) (w : Qtc.Walk),
    s.alive = true →
    s.decoder d = some x →
    s.blockOf x.tile = some k →
    x.words ≤ words.toNat →
    x.walk.written k ≤ samples.toNat →
    samples.toNat < k.samples →
    k.resume (64 * words.toNat) samples.toNat x.walk = .inr w →
    w.written k = samples.toNat →
    64 * words.toNat ≤ w.pos + 128 →
    exec (.outputStallResume ⟨d, samples, words⟩) s = .next (State.count { s with render := { s.render with decoders := sset none s.render.decoders d (some { x with words := words.toNat, walk := w }) } } 0x5800 4 64 1).conclude) ∧
  (∀ (s u : State) (e : Fin 4) (j : Encoder) (t : TileRef) (o : StashObj) (blk : Bytes),
    s.alive = true →
    sget none s.render.encoders e = some j →
    j.raw = some t →
    u = { s with render := { s.render with encoders := sset none s.render.encoders e none } } →
    s.jobs.obj t.ns t.obj = some o →
    blk = Qtc.encode ⟨j.t1, j.t2, j.copy, j.minLen, j.stored⟩ (o.tileDim t.tile).1 (o.tileDim t.tile).2 o.depth (Qtc.planesOf (o.tileDim t.tile).1 (o.tileDim t.tile).2 o.ch (Qtc.samplesOf o.depth ((o.tileDim t.tile).1 * (o.tileDim t.tile).2 * o.ch) (sget Tile.none o.tiles t.tile).bytes)) →
    exec (.encodeBlockComplete e) s = .next ((((u.updTile t.ns t.obj t.tile fun x => { x with block := blk }).updSess j.sess fun x => { x with codecDone := true }).encoded ((o.tileDim t.tile).1 * (o.tileDim t.tile).2 * o.ch) blk.length).feedEncoders).conclude)

/-- The next waiting page starts with its slots; walker and pipelines go on line by line; a render that ends is verified or rendered again; a verified page is released at its start. Rules: R20, R21, R22, R23, R91, R163, R167, R168, R192, R200, R201. Where the rules leave a choice, the model's choices of log entries 32, 36, 76, 103 apply. -/
def Obligations.RendersAndVerify : Prop :=
  (∀ (s : State) (p : Page),
    s.alive = true →
    s.nextWaiting = some p →
    s.startsWait = false →
    chunksOf p.len ≤ s.freeChunks.length →
    s.pagesRun = true →
    s.notHiddenNow = false →
    exec .renderStart s = .next (s.renderPage p true).conclude) ∧
  (∀ (s : State) (p : Page) (d : Int),
    s.alive = true →
    s.nextWaiting = some p →
    s.startsWait = false →
    chunksOf p.len ≤ s.freeChunks.length →
    s.pagesRun = true →
    s.notHiddenNow = true →
    s.reg 0x4020 3 = 0 →
    s.slack p s.render.active = some d →
    s.reg 0x4020 4 * 1000 < d →
    s.render.holdPage ≠ p.num →
    exec .renderStart s = .next (State.raise { s with render := { s.render with holdPage := p.num } } 183 0 p.num).conclude) ∧
  (∀ (s : State) (p : Page) (d : Int),
    s.alive = true →
    s.render.holdPage = p.num →
    p.num ≠ 0 →
    s.nextWaiting = some p →
    s.startsWait = false →
    chunksOf p.len ≤ s.freeChunks.length →
    s.pagesRun = true →
    s.notHiddenNow = true →
    s.slack p s.render.active = some d →
    d ≤ s.reg 0x4020 4 * 1000 →
    exec .notHiddenHoldEnd s = .next (s.renderPage p false).conclude) ∧
  (∀ (s : State) (i : Nat) (jb : Job) (p : Page) (first : Nat) (ask : List TileRef),
    s.alive = true →
    s.walkJob = some (i, jb, p) →
    s.spanLead < 64 →
    (first = if jb.walked = 0 then 0 else jb.walked + s.reg 0x4001 4) →
    (ask = ((upTo (jb.walked + s.reg 0x4001 4 + 1 - first)).flatMap fun q => if first + q < jb.count p then p.tilesAt s.jobs (jb.line p (first + q)) else []).eraseDups) →
    ((ask.any fun t => s.jobs.tileSt t == .lost) = false) →
    exec (.walkerLine .clean) s = .next ((s.askTiles ask).updJob i fun j => { j with walked := j.walked + 1 }).conclude) ∧
  (∀ (s : State) (k : Fin 32) (waited : BitVec 32) (ce : Restored) (i : Nat) (jb : Job) (p : Page) (g : Gen) (n y : Nat) (need : List TileRef) (next : Sparse Nat),
    s.alive = true →
    s.stripJob k = some (i, jb, p) →
    n = jb.stepOf k →
    y = jb.line p n →
    s.genOf p.gen = some g →
    need = (s.inputs p g).stripTiles k y →
    n < jb.walked →
    s.unwritten k < 64 →
    ((need.any fun t => s.jobs.tileSt t == .lost) = false) →
    ((need.any fun t => !s.resident t) = false) →
    (ce ≠ .lost ∨ need = []) →
    jb.repair = false →
    jb.writes y = true →
    next = sset 0 jb.next k (jb.stepAfter p k n) →
    ∃ t, t = ((State.count { s with render := { s.render with cache := (s.render.cache.filter fun c => !need.contains c.tile) ++ (s.render.cache.filter fun c => need.contains c.tile) } } 0x4000 4 64 waited.toNat).count
          0x4000 6 64 (g.crossAdds k)).updJob i (fun j => { j with next := next }) ∧
        exec (.pipelineLine k waited ce) s = .next ((t.cacheFault jb need ce).writePortLines g jb y (g.finishes jb k next n)).conclude) ∧
  (∀ (s : State) (jb : Job),
    s.alive = true →
    s.render.jobs.find? s.renderOver = some jb →
    exec .lastStripWritten s = .next ((State.updPage { s with render := { s.render with jobs := s.render.jobs.filter fun j => !(!j.repair && j.page == jb.page) } } jb.page fun p =>
        { p with st := if s.flag 0x4810 1 then .rendered else .verified, relines := jb.lines, verified := !(s.flag 0x4810 1) }).count 0x4000 2 64 1).conclude) ∧
  (∀ (s : State) (p : Page) (lines bad : List Nat),
    s.alive = true →
    s.verifying = some p →
    lines = p.toVerify →
    ((lines.filter fun y => s.lineFails p y (bad.contains y)) = []) →
    exec (.verifyPassEnd bad) s = .next (s.updPage p.num fun q => { q with st := .verified, verified := true, relines := none }).conclude) ∧
  (∀ (s : State) (p : Page) (lines bad : List Nat) (y : Nat) (rest : List Nat),
    s.alive = true →
    s.verifying = some p →
    lines = p.toVerify →
    ((lines.filter fun y => s.lineFails p y (bad.contains y)) = y :: rest) →
    p.rerenders < s.reg 0x4810 2 →
    s.mayRerender p = true →
    ∃ v t, v = ((y :: rest).foldl (fun s z => s.lineParity p z (bad.contains z) 1) s) ∧
        t = (v.set 0x4813 4 (satAdd 32 (v.reg 0x4813 4) (rest.length + 1))).raiseAt 191 2 (p.num + y * 2 ^ 32 + min (rest.length + 1) 16383 * 2 ^ 50) 8 5 p.num 0 ∧
        exec (.verifyPassEnd bad) s = .next (State.conclude { t.updPage p.num fun q => { q with st := .rendering, rerenders := q.rerenders + 1, relines := some (y :: rest) } with
          render := { t.render with jobs := insertRerender t.render.jobs (t.rerunJob p (y :: rest) false) } })) ∧
  (∀ (s : State) (p : Page),
    s.alive = true →
    s.nextRelease = some p →
    s.onBoard = false →
    s.releasable p = true →
    exec .pageRelease s = .next (s.releasePage p.num (s.startOf p.num).1).conclude)

/-- Press control orders the queue and the store size; build commands move the build state; the swap makes the build the active generation and keeps the old one as retained. Rules: R97, R185, R186, R187, R188, R189, R190, R197. Where the rules leave a choice, the model's choices of log entries 11, 18, 42, 43, 92, 98, 103 apply. -/
def Obligations.BuildsAndSwaps : Prop :=
  (∀ (s u : State) (h : FopHead) (p : Page),
    s.Admits h 2 (obj 0x4881 3) →
    u = s.counted h →
    u.page (u.reg 0x4881 1) = some p →
    (u.frogPage (u.reg 0x4881 1) 2 false).2 = true →
    exec (.queueFrog h) s = .next (((u.frogPage (u.reg 0x4881 1) 2 false).1.set 0x4881 4 0).fopReply h (s.ownAddr h.peer) 2 (obj 0x4881 3) St.ok []).conclude) ∧
  (∀ (s u : State) (h : FopHead) (n r : Nat) (p : Page),
    s.Admits h 2 (obj 0x4881 3) →
    u = s.counted h →
    n = u.reg 0x4881 1 →
    r = u.reg 0x4881 2 →
    u.page n = some p →
    u.movable n = true →
    u.movable r = true →
    exec (.queueMoveBefore h) s = .next ((State.set { u with jobs := { u.jobs with queue := movedBefore u.jobs.queue n (some r) } } 0x4881 4 0).fopReply h (s.ownAddr h.peer) 2 (obj 0x4881 3) St.ok []).conclude) ∧
  (∀ (s u : State) (h : FopHead) (n : Nat) (p : Page),
    s.Admits h 2 (obj 0x4881 3) →
    u = s.counted h →
    n = u.reg 0x4881 1 →
    u.page n = some p →
    u.movable n = true →
    exec (.queueMoveToTail h) s = .next ((State.set { u with jobs := { u.jobs with queue := movedBefore u.jobs.queue n none } } 0x4881 4 0).fopReply h (s.ownAddr h.peer) 2 (obj 0x4881 3) St.ok []).conclude) ∧
  (∀ (s u : State) (h : FopHead) (v : BitVec 32),
    s.Admits h 2 (obj 0x4800 1) →
    u = s.counted h →
    16 ≤ v.toNat →
    ((u.jobs.pages.all fun p => p.chunks.isEmpty) = true) →
    u.storeFits v.toNat = true →
    exec (.pageStoreSizeWrite h v) s = .next ((u.storeSize v.toNat).fopReply h (s.ownAddr h.peer) 2 (obj 0x4800 1) St.ok []).conclude) ∧
  (∀ (s u : State) (h : FopHead),
    s.Admits h 2 (obj 0x4010 3) →
    u = s.counted h →
    u.render.device = none →
    u.render.buildSt = .empty →
    u.tablesUnderTest = false →
    exec (.buildClone h) s = .next ((State.set (State.dropUnbound { u with render := { u.render with buildSt := .cloning, device := none, retained := none } }) 0x4010 4 0).fopReply h (s.ownAddr h.peer) 2 (obj 0x4010 3) St.ok []).conclude) ∧
  (∀ (s u : State) (h : FopHead),
    s.Admits h 2 (obj 0x4010 3) →
    u = s.counted h →
    u.render.device = none →
    u.render.buildSt = .building →
    u.tablesUnderTest = false →
    exec (.buildCommit h) s = .next ((State.set { u with render := { u.render with buildSt := .checking } } 0x4010 4 0).fopReply h (s.ownAddr h.peer) 2 (obj 0x4010 3) St.ok []).conclude) ∧
  (∀ (s u : State) (h : FopHead),
    s.Admits h 2 (obj 0x4010 3) →
    u = s.counted h →
    u.render.device = none →
    u.render.buildSt = .building →
    u.tablesUnderTest = false →
    exec (.buildDiscard h) s = .next ((State.set { u with render := { u.render with buildSt := .empty, retained := none } } 0x4010 4 0).fopReply h (s.ownAddr h.peer) 2 (obj 0x4010 3) St.ok []).conclude) ∧
  (∀ (s : State),
    s.alive = true →
    s.render.buildSt = .cloning →
    s.render.device = none →
    exec .cloneComplete s = .next (State.set { s with render := { s.render with build := { s.render.active with bad := [] }, buildSt := .building } } 0x4010 4 0).conclude) ∧
  (∀ (s : State) (w : BuildWhy),
    s.alive = true →
    s.render.buildSt = .cloning →
    s.render.device = some w →
    ∃ t, t = (State.set { s with render := { s.render with build := { s.render.active with bad := [] }, buildSt := .building } } 0x4010 4 0).deviceEdit w ∧
        exec .cloneComplete s = .next (State.conclude { t with render := { t.render with buildSt := .checking } })) ∧
  (∀ (s : State),
    s.alive = true →
    s.render.buildSt = .checking →
    exec .commitChecksComplete s = .next (match s.render.build.check s.edPlane with
        | none => { s with render := { s.render with buildSt := .pending } }
        | some (code, entry) => let t := (((s.set 0x4010 4 3).set 0x4010 5 code).set 0x4010 6 entry).raise 181 0 (code + entry * 256)
            { t with render := { t.render with buildSt := .building } }).conclude) ∧
  (∀ (s : State) (g : Gen) (left : List Nat),
    s.alive = true →
    s.render.buildSt = .pending →
    s.render.device = none →
    s.render.jobs.any s.renderUnderWay = false →
    g = { s.render.build with num := nextGen s.render.active.num } →
    (left = s.render.pending.filter fun j => g.jetState j == 0 || g.jetState j == 3) →
    exec .generationSwap s = .next ((State.raise { s with render := { s.render with
          active := g, retained := some s.render.active, buildSt := .empty, pending := left, holdPage := if left.isEmpty then 0 else s.render.holdPage } } 180 0
        (g.num + s.render.active.num * 65536)).dropUnbound).conclude) ∧
  (∀ (s : State) (w : BuildWhy),
    s.alive = true →
    s.render.buildSt = .empty →
    s.tablesUnderTest = false →
    s.buildWanted = some w →
    exec .deviceBuild s = .next (State.dropUnbound { s with render := { s.render with buildSt := .cloning, device := some w, retained := none } }).conclude) ∧
  (∀ (s : State) (w : BuildWhy),
    s.alive = true →
    s.render.buildSt = .building →
    s.render.device = some w →
    exec .deviceBuild s = .next (State.conclude { s with render := { s.render with buildSt := .empty, device := none, retained := none } })) ∧
  (∀ (s u : State) (h : FopHead),
    s.Admits h 2 (obj 0x4020 8) →
    u = s.counted h →
    exec (.clearPending h) s = .next (State.fopReply { u with render := { u.render with pending := [] } } h (s.ownAddr h.peer) 2 (obj 0x4020 8) St.ok []).conclude) ∧
  (∀ (s : State) (w : TableWord),
    s.alive = true →
    1 ≤ w.table.val →
    w.table.val ≤ 4 →
    exec (.tableReloadComplete w true) s = .next (s.parityError 4 (if w.retained then 0x0019 else 0xFFFF) 1 1 ((match w.table.val with | 1 => 2 | 2 => 4 | _ => 8) * w.entry.toNat) 0).conclude) ∧
  (∀ (s : State) (w : TableWord),
    s.alive = true →
    1 ≤ w.table.val →
    w.table.val ≤ 4 →
    w.retained = false →
    ∃ t, t = s.parityError 4 0xFFFF 2 1 ((match w.table.val with | 1 => 2 | 2 => 4 | _ => 8) * w.entry.toNat) 0 ∧
        exec (.tableReloadComplete w false) s = .next ((State.raiseAt { t with render := { t.render with active := if t.render.active.bad.contains (w.table.val - 1, w.entry.toNat) then t.render.active
          else { t.render.active with bad := t.render.active.bad ++ [(w.table.val - 1, w.entry.toNat)] } } } 186 3 (s.render.active.num + w.table.val * 65536 + w.entry.toNat * 2 ^ 24) 1 1 0 0)).conclude)

/-- A slice is fetched, sent under the next tag, confirmed by its echo and fired at its instant; a line that failed is repaired or poisoned. Rules: R25, R26, R203, R204, R206, R211, R226, R254, R260. Where the rules leave a choice, the model's choices of log entries 32, 33, 34, 35, 102 apply. -/
def Obligations.ReadoutAndFiring : Prop :=
  (∀ (s : State) (pt : Fin 16) (k : Fin 4) (f : ReadFault) (p : Page) (mk n inst y : Nat),
    s.alive = true →
    mk = lane pt k →
    s.nextSlice mk (·.fetched) = some (p, n) →
    inst = n / p.len →
    y = n % p.len →
    s.underTest (mk / 4) = false →
    (s.lane mk).slices.length < 64 →
    p.instStart inst + y + s.lag mk (p.instStart inst + y) / 64 ≤ s.row + 64 →
    ∃ (data : Bytes) (crc : Nat) (t : State), data = s.memRead (p.sliceAddr y mk) 2048 ∧ crc = crc32c data ∧
        t = { (s.updLane mk fun l => { l with slices := l.slices ++ [({ page := p.num, inst := inst, line := y, data := data, crc := crc, proven := false, poison := 0, sent := none, sentCrc := 0, sends := 0, sentAt := 0, echo := 0, refetch := false } : Slice)] }).updPage p.num
            (fun q => { q with fetched := sset 0 q.fetched mk (n + 1) }) with cmps := addCmp s.cmps p.num inst y (mk / 4) (mk % 4) crc (f == ReadFault.dose || s.memBadIn (p.sliceAddr y mk) 2048) } ∧
        exec (.sliceFetch pt k f) s = .next (State.conclude (match t.cmps.find? fun c => c.of p.num inst y && c.port == mk / 4 with
          | some c => if c.full then t.judge p inst y (mk / 4) (f == .trailer) else t
          | none => t))) ∧
  (∀ (s : State) (r : Repair) (rest : List Repair) (p : Page),
    s.alive = true →
    s.store.repairs = r :: rest →
    ((s.store.repairs.any fun q => q.started) = false) →
    s.page r.page = some p →
    exec .inPrintRepairStart s = .next (if s.repairFits p r.line (s.repairLeft p r) then (State.bump { s with
        store := { s.store with repairs := updWhere s.store.repairs (fun q => q.page == r.page && q.line == r.line) fun q => { q with started := true } }
        render := { s.render with jobs := s.rerunJob p [r.line] true :: s.render.jobs } } 0x4813 5) else s.dropRepair r).conclude) ∧
  (∀ (s v : State) (r : Repair) (p : Page) (jb : Job) (g : Gen),
    s.alive = true →
    ((s.store.repairs.find? fun r => r.started) = some r) →
    s.page r.page = some p →
    ((s.render.jobs.find? fun j => j.repair && j.page == r.page && j.lines == some [r.line]) = some jb) →
    jb.done p = true →
    s.genOf p.gen = some g →
    v = s.writePortLines g jb r.line (upTo 16) →
    ∃ t : State, t = State.refetchLine { v with
          store := { v.store with repairs := v.store.repairs.filter fun q => !(q.page == r.page && q.line == r.line) }
          render := { v.render with jobs := v.render.jobs.filter fun j => !(j.repair && j.page == r.page && j.lines == some [r.line]) }
          cmps := v.cmps.filter fun c => !(c.page == r.page && c.line == r.line && c.full) } p r.line ∧
        exec .inPrintRepairComplete s = .next ((t.count 0x4000 2 64 1).repairEvent r (if r.late then 1 else 0)).conclude) ∧
  (∀ (s : State) (pt : Fin 16) (k : Fin 4) (p : Page) (n mk : Nat) (x : Slice),
    s.alive = true →
    mk = lane pt k →
    s.nextSlice mk (·.sentN) = some (p, n) →
    (s.lane mk).slice p n = some x →
    s.sends mk = true →
    x.refetch = false →
    (s.lane mk).hasSlot (s.link (mk / 4)).depth = true →
    exec (.sliceSend pt k false) s = .next (s.sendSlice mk p n x).conclude) ∧
  (∀ (s t : State) (pt : Fin 16) (k : Fin 4) (p : Page) (n mk : Nat) (x : Slice),
    s.alive = true →
    mk = lane pt k →
    t = s.trailersDue mk (s.deadlineCome mk) →
    t.nextSlice mk (·.sentN) = some (p, n) →
    t.sends mk = true →
    t.nsToDeadline p (n / p.len) (n % p.len) mk = 0 →
    (t.lane mk).hasSlot (t.link (mk / 4)).depth = true →
    (t.lane mk).slice p n = some x →
    x.refetch = false →
    exec (.sendDeadline pt k) s = .next (t.sendSlice mk p n x).conclude) ∧
  (∀ (s t : State) (pt : Fin 16) (k : Fin 4) (p : Page) (n mk : Nat) (x : Slice),
    s.alive = true →
    mk = lane pt k →
    t = s.trailersDue mk (s.deadlineCome mk) →
    t.nextSlice mk (·.sentN) = some (p, n) →
    t.sends mk = true →
    t.nsToDeadline p (n / p.len) (n % p.len) mk = 0 →
    (t.lane mk).hasSlot (t.link (mk / 4)).depth = true →
    (t.lane mk).slice p n = none →
    (x = { page := p.num, inst := n / p.len, line := n % p.len, data := zeros 2048, crc := crc32c (zeros 2048), proven := false, poison := 2 ^ (if t.underTest (mk / 4) then 14 else 6), sent := none, sentCrc := 0, sends := 0, sentAt := 0, echo := 0, refetch := false }) →
    exec (.sendDeadline pt k) s = .next (((t.updLane mk fun l => { l with slices := l.slices ++ [x] }).updPage p.num
        fun q => { q with fetched := sset 0 q.fetched mk (max (sget 0 q.fetched mk) (n + 1)) }).sendSlice mk p n x).conclude) ∧
  (∀ (s : State) (pt : Fin 16) (k : Fin 4) (tag : BitVec 16) (crc : BitVec 32) (x : Slice) (p : Page) (mk : Nat),
    s.alive = true →
    mk = lane pt k →
    s.linkState (mk / 4) = 5 →
    (((s.lane mk).slices.find? fun x => x.sent == some tag.toNat) = some x) →
    s.page x.page = some p →
    s.echoLate p x.inst x.line mk = false →
    crc.toNat = x.sentCrc →
    x.sends = 1 →
    exec (.echo pt k tag crc) s = .next ((s.updSlice mk p (x.inst * p.len + x.line) fun x => { x with echo := 1 }).count (portIdx (mk / 4) + 2) 2 64 1).conclude) ∧
  (∀ (s : State) (pt : Fin 16) (k : Fin 4) (tag : Nat) (rest : List Nat),
    s.alive = true →
    (s.lane (lane pt k)).gone = tag :: rest →
    exec (.withdrawnSliceFree pt k) s = .next ((s.updLane (lane pt k) fun l => { l with gone := rest }).fireBlock (lane pt k) tag 0 []).conclude) ∧
  (∀ (s v : State) (pt : Fin 16) (k : Fin 4) (p : Page) (mk n tpos l0 out inst y fine : Nat) (x : Slice) (why : List Nat),
    s.alive = true →
    mk = lane pt k →
    s.nextFire mk = some (p, n, tpos, l0, out) →
    s.pos.posOk = true →
    s.pos.hold = false →
    out ≤ 2 * s.clk.now + 1 →
    inst = n / p.len →
    y = n % p.len →
    inst < p.cast →
    (v = s.trailersDue mk fun q i l => q == p.num && i == inst && l == y) →
    (v.lane mk).slice p n = some x →
    why = v.fireReasons mk (decide (n < sget 0 p.sentN mk)) (some x) →
    s.linkState (mk / 4) = 5 →
    fine = s.fineAt mk (s.target p inst y mk) →
    ∃ t : State, t = ((((v.fireSpoils p inst y mk (some x) why).consume x).fireSend p (p.instStart inst + y) mk (some x)).fireTaken p inst y mk out (some x)) ∧
        exec (.fireInstant pt k) s = .next ((t.slowCheck p n mk (if out = 2 * tpos + fine then 0 else s.lamAtHalf (out - fine) - l0)).firePassed p n mk).conclude) ∧
  (∀ (s t : State) (page line : BitVec 32) (p : Page) (dn i left : Nat),
    s.alive = true →
    s.page page.toNat = some p →
    dn = p.firedAll →
    (i = (if dn % p.len > line.toNat then dn / p.len else dn / p.len - 1)) →
    left = s.fetchLeft p (i + 1) line.toNat →
    s.flag 0x4810 4 = true →
    p.st = .printing →
    p.len ≠ 0 →
    line.toNat < p.len →
    line.toNat < dn →
    i + 1 < p.insts →
    (((upTo 64).all fun mk => !bit p.ports (mk / 4) || decide (sget 0 p.fetched mk ≤ (i + 1) * p.len + line.toNat)) = true) →
    64 + s.kMax p (p.instStart (i + 1) + line.toNat) < p.len + p.gap →
    2050 ≤ left →
    p.reverified.contains (i, line.toNat) = false →
    (t = s.updPage page.toNat fun q => { q with reverified := (i, line.toNat) :: q.reverified.filter fun e => decide (i ≤ e.1 + 1) }) →
    ∃ v : State, v = (t.bump 0x4813 4).lineParity p line.toNat true (if t.repairFits p line.toNat (some left) then 1 else 2) ∧
        exec (.reverifyLine page line true) s = .next (if t.repairFits p line.toNat (some left) then v.queueRepair page.toNat line.toNat (lowPort 0xFFFF) 0xFFFF ((v.nsLeft page.toNat line.toNat).getD left) (some (i + 1)) else v.storePoison page.toNat line.toNat 0xFFFF).conclude)

/-- Counts reach the tracker, Λ advances, and settings of the position move it as the rules say; the sequencer arms and stops. Rules: R2, R214, R216, R217, R221, R223, R224, R235, R236. Where the rules leave a choice, the model's choices of log entries 11, 18, 35, 41, 97, 98 apply. -/
def Obligations.PositionAndPasses : Prop :=
  (∀ (s v : State) (e : Fin 2) (a b na nb : Bool) (c : Int) (t : Nat),
    s.alive = true →
    v = (s.acceptLevels e s.clk.now).samplePins e a b →
    v.acceptAt e 0 (s.clk.now + 1) = some t →
    v.acceptAt e 1 (s.clk.now + 1) = none →
    na = ((v.pinLevel e 0).1 == 1) →
    nb = bit (v.levels e) 1 →
    bit (v.levels e) 0 ≠ na →
    (c = v.i64 (0x2810 + e) 3 + (if ((na != nb) != v.flag (0x2810 + e) 2) = true then 1 else -1)) →
    e ≠ 0 →
    ∃ w : State, w = State.setI64 { v with pos := { v.pos with levels := sset 0 v.pos.levels e (b2n na + 2 * b2n nb) } } (0x2810 + e) 3 c ∧
        exec (.positionCount (.levels e a b)) s = .next (State.conclude { w with pos := { w.pos with rates := sset [] w.pos.rates e (t :: (sget [] w.pos.rates e).filter fun x => decide (v.clk.now < x + 1000000)) } })) ∧
  (∀ (s v : State) (c : Int) (t : Nat) (rest : List (Int × Nat)),
    s.alive = true →
    v = (s.acceptLevels 0 (s.clk.now + 1)).acceptLevels 1 (s.clk.now + 1) →
    v.pos.future = (c, t) :: rest →
    t ≤ v.clk.now →
    v.pos.posOk = true →
    v.pos.rev = false →
    exec (.positionCount .source) s = .next (State.track { v with pos := { v.pos with future := rest, src := c } } c t).conclude) ∧
  (∀ (s v : State) (e : Fin 2) (c code : Nat),
    s.alive = true →
    v = s.acceptLevels e (s.clk.now + 1) →
    (code = (match v.levels e with | 0 => 0 | 1 => 1 | 3 => 2 | _ => 3)) →
    (v.reg (0x2810 + e) 7 = 4 ∨ v.reg (0x2810 + e) 7 = code) →
    c = v.reg (0x2810 + e) 3 →
    ∃ t : State, t = ((v.set (0x2810 + e) 5 c).set (0x2810 + e) 6 v.clk.now).raise 196 0 (e + c % 2 ^ 32 * 2 ^ 32) ∧
        exec (.encoderIndex e) s = .next (if v.reg (0x2810 + e) 8 = 0xFF then t
          else t.ringWrite (v.reg (0x2810 + e) 8) 0x21 c (v.clk.now % 2 ^ 32 + v.stampEpoch * 2 ^ 32 + v.clk.now / 2 ^ 32 % 2 ^ 16 * 2 ^ 48) (e + code * 2)).conclude) ∧
  (∀ (s : State) (l : Nat),
    s.alive = true →
    s.pos.posOk = true →
    l = s.lamAt s.clk.now →
    s.pos.lam < l →
    s.shuttle = false →
    ∃ t : State, t = { s with pos := { s.pos with lam := l, lines := List.replicate (l / 64 - s.pos.lam / 64) s.clk.now ++ s.pos.lines, hist := (l, s.clk.now) :: (if s.jobs.pages.any fun p => p.st.active then s.pos.hist else s.pos.hist.take 1) } } ∧
        exec .subTickReached s = .next (if l / 64 - s.pos.lam / 64 = 0 then t else t.unported).conclude) ∧
  (∀ (s u : State) (h : FopHead) (v : BitVec 8),
    s.Admits h 2 (obj 0x2800 2) →
    u = s.counted h →
    v.toNat ≤ 3 →
    u.pagesActive = false →
    exec (.positionSourceWrite h false v) s = .next ((u.sourceChange v.toNat (u.reg 0x2800 3)).fopReply h (s.ownAddr h.peer) 2 (obj 0x2800 2) St.ok []).conclude) ∧
  (∀ (s u : State) (h : FopHead) (v : BitVec 8),
    s.Admits h 2 (obj 0x2800 3) →
    u = s.counted h →
    v.toNat ≤ 3 →
    u.pagesActive = false →
    exec (.positionSourceWrite h true v) s = .next ((u.sourceChange (u.reg 0x2800 2) v.toNat).fopReply h (s.ownAddr h.peer) 2 (obj 0x2800 3) St.ok []).conclude) ∧
  (∀ (s u : State) (h : FopHead),
    s.Admits h 2 (obj 0x2820 12) →
    u = s.counted h →
    u.pagesActive = false →
    u.seqState = 0 →
    u.onBoard = false →
    exec (.setRowCounter h) s = .next ((State.restartClock { u with
        pos := { u.pos with org := u.extreme * 2 ^ 22 - 64 * (u.reg 0x2820 0x0B : Int) * u.pitch, lam := 64 * u.reg 0x2820 0x0B, hist := [(64 * u.reg 0x2820 0x0B, u.clk.now)] }
        jobs := { u.jobs with lastEnd := none } }).fopReply h (s.ownAddr h.peer) 2 (obj 0x2820 12) St.ok []).conclude) ∧
  (∀ (s u : State) (h : FopHead) (v : BitVec 32),
    s.Admits h 2 (obj 0x2820 1) →
    u = s.counted h →
    65536 ≤ v.toNat →
    v.toNat ≤ 4294901760 →
    u.pagesActive = false →
    exec (.linePitchWrite h v) s = .next ((u.pitchChange v.toNat).fopReply h (s.ownAddr h.peer) 2 (obj 0x2820 1) St.ok []).conclude) ∧
  (∀ (s u : State) (h : FopHead) (v : BitVec 8),
    s.Admits h 2 (obj 0x2800 1) →
    u = s.counted h →
    v.toNat ≤ 1 →
    u.pagesActive = false →
    exec (.printModeWrite h v) s = .next ((u.modeChange v.toNat).fopReply h (s.ownAddr h.peer) 2 (obj 0x2800 1) St.ok []).conclude) ∧
  (∀ (s u : State) (h : FopHead),
    s.Admits h 2 (obj 0x2870 11) →
    u = s.counted h →
    u.seqState = 0 →
    u.shuttle = true →
    u.pos.posOk = true →
    ∃ t w : State, t = ((((u.set 0x2870 0x0C 1).set 0x2870 0x0D 0).set 0x2870 0x0E u.row).setI64 0x2820 5 (if u.passRev 0 then - u.pos.src else u.pos.src)).set 0x2870 0x0F 0 ∧
        w = (((State.restartClock { t with pos := { t.pos with
          rev := u.passRev 0, feedDone := true, feedChecked := true, align := t.bytes 0x2872 0 0 32, inBand := true, atH := true, startAt := none, badFeeds := []
          lam := 64 * u.row, hist := t.pos.hist.map fun (e : Nat × Nat) => (min e.1 (64 * u.row), e.2) } }).raise 197 0 (b2n (u.passRev 0) * 2 ^ 32)).clampEvents 0).advance u.clk.now ∧
        exec (.sequencerArm h) s = .next (w.fopReply h (s.ownAddr h.peer) 2 (obj 0x2870 11) St.ok []).conclude) ∧
  (∀ (s u : State) (h : FopHead),
    s.Admits h 2 (obj 0x2870 11) →
    u = s.counted h →
    u.seqState ≠ 0 →
    u.pagesActive = false →
    exec (.sequencerStop h) s = .next (((u.set 0x2870 0x0C 0).set 0x2870 0x0F 0).fopReply h (s.ownAddr h.peer) 2 (obj 0x2870 11) St.ok []).conclude) ∧
  (∀ (s : State),
    s.alive = true →
    s.reg 0x2870 5 = 2 →
    s.pos.feedDone = false →
    (s.enc1 - s.pos.feedBase - s.pos.feedDue).natAbs ≤ s.reg 0x2870 7 →
    exec .feedComplete s = .next (State.conclude { s with pos := { s.pos with feedDone := true } })) ∧
  (∀ (s : State) (l : List Nat),
    s.alive = true →
    (l = s.pos.lines.filter fun t => decide (s.clk.now < t + 10000000)) →
    exec .lineRateMeasure s = .next (State.set { s with pos := { s.pos with lines := l, measured := true } } 0x2820 8 (l.length * 100)).conclude)

/-- The pin goes low for a window or a pulse and high when nothing holds it; the tension tables commit when every one is sound; a temperature report ends the stale condition. Rules: R209, R210, R231, R232, R257. Where the rules leave a choice, the model's choices of log entries 8, 34, 98 apply. -/
def Obligations.SpoilPinAndTension : Prop :=
  (∀ (s : State) (due : List (Nat × Nat)),
    s.alive = true →
    (due = s.store.spoil.pulses.filter fun r => decide (r.1 ≤ s.row)) →
    due ≠ [] →
    exec .spoilNLow s = .next (State.conclude { s with store := { s.store with spoil := due.foldl (fun q r => { q with until_ := some (max (s.clk.now + r.2 * 1000) (q.until_.getD 0)), low := true }) { s.store.spoil with pulses := s.store.spoil.pulses.filter fun r => decide (s.row < r.1) } } })) ∧
  (∀ (s : State) (w : Int × Int) (rest : List (Int × Int)),
    s.alive = true →
    ((s.store.spoil.pulses.filter fun r => decide (r.1 ≤ s.row)) = []) →
    s.store.spoil.windows = w :: rest →
    w.1 ≤ s.rowNow →
    s.rowNow < w.2 →
    exec .spoilNLow s = .next (State.conclude { s with store := { s.store with spoil := { s.store.spoil with low := true } } })) ∧
  (∀ (s : State) (rest : List (Int × Int)),
    s.alive = true →
    (rest = s.store.spoil.windows.filter fun w => decide (s.rowNow < w.2)) →
    s.store.spoil.until_ = none →
    ((rest.any fun w => decide (w.1 ≤ s.rowNow)) = false) →
    exec .spoilNHigh s = .next (State.conclude { s with store := { s.store with spoil := { s.store.spoil with windows := rest, low := false } } })) ∧
  (∀ (s : State) (t : Nat),
    s.alive = true →
    s.store.spoil.until_ = some t →
    t ≤ s.clk.now →
    exec .spoilNPulseEnd s = .next (State.conclude { s with store := { s.store with spoil := { s.store.spoil with
        until_ := none, low := s.store.spoil.windows.any fun w => decide (w.1 ≤ s.rowNow) && decide (s.rowNow < w.2) } } })) ∧
  (∀ (s u : State) (h : FopHead) (b : Bytes),
    s.Admits h 2 (obj 0x2860 1) →
    u = s.counted h →
    b = u.bytes 0x2861 0 0 640 →
    (((upTo 8).any fun t => tensionBad b t) = false) →
    exec (.tensionCommit h) s = .next ((((u.setBytes 0x2862 0 0 b).set 0x2860 2 0).bump 0x2860 5).fopReply h (s.ownAddr h.peer) 2 (obj 0x2860 1) St.ok []).conclude) ∧
  (∀ (s : State) (p : Fin 16) (k : Fin 4) (t : BitVec 48),
    s.alive = true →
    s.linkState p = 5 →
    exec (.temp p k t) s = .next (State.conclude ((upTo 4).foldl (fun s j => s.segReport (4 * lane p k + j) (ofSigned 16 (toSigned 12 (field t.toNat (12 * j) 12)))) s))) ∧
  (∀ (s : State) (seg v : Nat),
    sget 0 s.fire.report seg ≠ 0 →
    ∃ t : State, t = s.setBytes (portIdx (seg / 16) + 3) 1 (2 * (seg % 16)) (leBytes 2 v) ∧
        s.segReport seg v = { t with fire := { t.fire with report := sset 0 t.fire.report seg (s.clk.now + 1), stale := sset false t.fire.stale seg false } }) ∧
  (∀ (s : State) (seg : BitVec 8),
    s.alive = true →
    s.segStale seg.toNat = true →
    sget false s.fire.stale seg.toNat = false →
    exec (.temperatureReportStale seg) s = .next (State.raiseAt { s with fire := { s.fire with stale := sset false s.fire.stale seg.toNat true } } 199 2 seg.toNat 9 6 0 0).conclude)

/-- Each event in its state takes the link to the next state of R249, and each timer that ran out takes it to WAIT with its cause. Rules: R246, R248, R249, R250, R251, R252, R261. Where the rules leave a choice, the model's choices of log entries 5, 8, 29, 61, 62, 63, 79, 87, 107 apply. -/
def Obligations.LinkBringUp : Prop :=
  (∀ (s : State) (l : Fin 20),
    s.alive = true →
    s.linkState l = 0 →
    s.linkMayStart l = true →
    exec (.linkStart l) s = .next (s.linkBegin l).conclude) ∧
  (∀ (s : State) (l : Fin 20),
    s.alive = true →
    s.linkState l = 1 →
    exec (.rxckDetected l) s = .next (((s.linkTo l 2 0).updLink l fun x => { x with preset := 0, step := 0, stepAt := s.clk.now }).sweepOut l 0 0).conclude) ∧
  (∀ (s : State) (l : Fin 20),
    s.alive = true →
    s.linkState l = 1 →
    (s.link l).since + 100000000 ≤ s.clk.now →
    exec (.detectTimerExpiry l) s = .next (s.linkWait l 1).conclude) ∧
  (∀ (s : State) (l : Fin 20),
    s.alive = true →
    s.linkState l = 2 →
    (s.link l).since + 20000000 ≤ s.clk.now →
    exec (.trainTimerExpiry l) s = .next (s.linkWait l 2).conclude) ∧
  (∀ (s : State) (l : Fin 20),
    s.alive = true →
    s.linkState l = 3 →
    (s.link l).since + (s.link l).lockNs ≤ s.clk.now →
    exec (.lockTimerExpiry l) s = .next (s.linkWait l 3).conclude) ∧
  (∀ (s : State) (l : Fin 20),
    s.alive = true →
    s.linkState l = 4 →
    (s.link l).since + 10000000 ≤ s.clk.now →
    exec (.capsTimerExpiry l) s = .next (s.linkWait l 4).conclude) ∧
  (∀ (s : State) (l : Fin 20) (status : BitVec 8) (presets : BitVec 32),
    s.alive = true →
    l.val < 16 →
    s.linkState l = 2 →
    bit status.toNat 4 = true →
    (((upTo 4).all fun i => !bit (s.usedModules l) i || bit status.toNat i) = true) →
    (s.link l).locked = true →
    exec (.train l status presets) s = .next (((s.set (portIdx l + 1) 5 presets.toNat).linkTo l 3 0).lockRow l).conclude) ∧
  (∀ (s : State) (l : Fin 20),
    s.alive = true →
    s.linkState l = 2 →
    (s.link l).stepAt + 100000 ≤ s.clk.now →
    ∃ p st : Nat, p = ((s.link l).preset + 1) % 8 ∧ st = (if p = 0 then wrapAdd 8 (s.link l).step 1 else (s.link l).step) ∧
        exec (.presetStep l) s = .next ((s.updLink l fun y => { y with preset := p, step := st, stepAt := s.clk.now }).sweepOut l p st).conclude) ∧
  (∀ (s : State) (l : Fin 20),
    s.alive = true →
    l.val < 16 →
    (s.linkState l = 1 ∨ s.linkState l = 2 ∨ s.linkState l = 3) →
    (s.link l).locked = false →
    (s.link l).trial + 1000000 ≤ s.clk.now →
    exec (.polarityTrialSwitch l) s = .next ((s.updLink l fun y => { y with trial := s.clk.now, pol := 1 - y.pol }).set (portIdx l + 1) 4 (1 - s.reg (portIdx l + 1) 4)).conclude) ∧
  (∀ (s v : State) (l : Fin 20) (headers : List (BitVec 2)),
    s.alive = true →
    (v = headers.foldl (fun s h => if s.linkHears l then s.uplinkHeader l h else s) s) →
    v.linkState l = 3 →
    (v.link l).locked = true →
    (v.link l).trained = true →
    exec (.uplinkBlockLock ⟨l, headers⟩) s = .next ((v.linkTo l 4 0).sendCaps l).conclude) ∧
  (∀ (s v : State) (l : Fin 20) (headers : List (BitVec 2)),
    s.alive = true →
    (v = headers.foldl (fun s h => if s.linkHears l then s.uplinkHeader l h else s) s) →
    v.linkState l = 3 →
    (v.link l).locked = true →
    (v.link l).trained = false →
    16 ≤ l.val →
    exec (.uplinkBlockLock ⟨l, headers⟩) s = .next ((v.linkTo l 5 0).linkUp l).conclude) ∧
  (∀ (s v : State) (l : Fin 20) (headers : List (BitVec 2)),
    s.alive = true →
    (v = headers.foldl (fun s h => if s.linkHears l then s.uplinkHeader l h else s) s) →
    (v.linkState l ≠ 3 ∨ (v.link l).locked = false) →
    exec (.uplinkBlockLock ⟨l, headers⟩) s = .next v.conclude) ∧
  (∀ (s : State) (l : Fin 20) (body : BitVec 64) (b : Bytes),
    s.alive = true →
    l.val < 16 →
    b = leBytes 8 body.toNat →
    s.linkState l = 4 →
    leAt b 0 1 = 0xB4 →
    (s.link l).locked = true →
    s.portChecks l (leAt b 1 1) (leAt b 2 1 % 16) (leAt b 3 1) (some (leAt b 4 2)) = none →
    exec (.caps l ⟨true, body⟩) s = .next ((s.setBytes (portIdx l + 1) 6 0 (capsKept b)).portActive l (leAt b 2 1 % 16) (leAt b 3 1)).conclude) ∧
  (∀ (s : State) (l : Fin 20) (body : BitVec 64) (b : Bytes) (cause : Nat),
    s.alive = true →
    l.val < 16 →
    b = leBytes 8 body.toNat →
    s.linkState l = 4 →
    leAt b 0 1 = 0xB4 →
    (s.link l).locked = true →
    s.portChecks l (leAt b 1 1) (leAt b 2 1 % 16) (leAt b 3 1) (some (leAt b 4 2)) = some cause →
    exec (.caps l ⟨true, body⟩) s = .next (s.linkWait l cause).conclude) ∧
  (∀ (s : State) (l : Fin 20),
    s.alive = true →
    s.linkState l = 4 →
    (s.link l).capsAt + 10000 ≤ s.clk.now →
    exec (.capsSend l) s = .next (s.sendCaps l).conclude) ∧
  (∀ (s : State) (l : Fin 20),
    s.alive = true →
    s.linkState l = 5 →
    exec (.linkLost l) s = .next (s.linkWait l 9).conclude) ∧
  (∀ (s : State) (l : Fin 20),
    s.alive = true →
    l.val < 16 →
    s.linkState l = 6 →
    (s.link l).since + 100000000 ≤ s.clk.now →
    s.linkMayStart l = true →
    s.flag (portIdx l) 8 = true →
    s.unit (portUnit l) ≠ 3 →
    exec (.waitTimerExpiry l) s = .next (s.linkBegin l).conclude) ∧
  (∀ (s : State) (l : Fin 20),
    s.alive = true →
    l.val < 16 →
    s.linkState l = 6 →
    (s.link l).since + 100000000 ≤ s.clk.now →
    s.flag (portIdx l) 8 = false →
    exec (.waitTimerExpiry l) s = .next (s.linkStop l).conclude)

/-- A request of the command ring is sent and completed by its RESP or the timeout; a measurement goes segment by segment; a loopback starts and stops. Rules: R263, R264, R265, R266, R267, R268, R269. Where the rules leave a choice, the model's choices of log entries 44, 50, 62, 80, 82, 98, 99 apply. -/
def Obligations.PortCommands : Prop :=
  (∀ (s : State) (p : Fin 16) (d : Bytes),
    s.alive = true →
    s.ev.ringHead (160 + p) = some (d, 0) →
    leAt d 0 1 = 0x30 →
    leAt d 8 1 = 1 →
    (s.port p).cmd = none →
    s.linkState p = 5 →
    exec (.nop ⟨p, false⟩) s = .next (State.portCommand { s with ev := s.ev.ringPop (160 + p) } p 1 (leAt d 9 1 % 16) (leAt d 12 4) [] (leAt d 24 4) false).conclude) ∧
  (∀ (s : State) (p : Fin 16) (d : Bytes),
    s.alive = true →
    s.ev.ringHead (160 + p) = some (d, 0) →
    leAt d 0 1 = 0x30 →
    leAt d 8 1 = 16 →
    (s.port p).cmd = none →
    s.linkState p = 5 →
    s.pagesActive = false →
    exec (.waveWrite ⟨p, false⟩) s = .next (State.portCommand { s with ev := s.ev.ringPop (160 + p) } p 16 (leAt d 9 1 % 16) (leAt d 12 4) (slice d 16 8) (leAt d 24 4) false).conclude) ∧
  (∀ (s : State) (p : Fin 16) (d : Bytes) (op : Nat),
    s.alive = true →
    s.ev.ringHead (160 + p) = some (d, 0) →
    leAt d 0 1 = 0x30 →
    op = leAt d 8 1 →
    0x80 ≤ op →
    (s.port p).cmd = none →
    s.linkState p = 5 →
    s.pagesActive = false →
    exec (.rawCommand ⟨p, false⟩) s = .next (State.portCommand { s with ev := s.ev.ringPop (160 + p) } p op (leAt d 9 1 % 16) (leAt d 12 4) (slice d 16 8) (leAt d 24 4) false).conclude) ∧
  (∀ (s : State) (p : Fin 16) (addr seq : BitVec 8) (value : BitVec 32) (c : PortCmd),
    s.alive = true →
    (s.port p).cmd = some c →
    s.linkState p = 5 →
    c.seq = seq.toNat →
    c.addr % 16 = addr.toNat % 16 →
    c.op ≠ 2 →
    (c.op = 0x10 → value.toNat = crc32c c.data) →
    exec (.resp p addr seq 0 value) s = .next (s.portResult p c 0 0 value.toNat).conclude) ∧
  (∀ (s : State) (p : Fin 16) (addr seq status : BitVec 8) (value : BitVec 32) (c : PortCmd),
    s.alive = true →
    (s.port p).cmd = some c →
    s.linkState p = 5 →
    c.seq = seq.toNat →
    c.addr % 16 = addr.toNat % 16 →
    c.op ≠ 2 →
    status.toNat ≠ 0 →
    exec (.resp p addr seq status value) s = .next (s.portResult p c 5 status.toNat value.toNat).conclude) ∧
  (∀ (s v : State) (p : Fin 16) (c : PortCmd),
    s.alive = true →
    (v = ((s.port p).alls.filter fun c => c.op != 2 && decide (c.sent + 1000000 ≤ s.clk.now)).foldl (fun s c => s.portOutcome p c 4 0 0) (s.updPort p fun x => { x with alls := x.alls.filter fun c => !(c.op != 2 && decide (c.sent + 1000000 ≤ s.clk.now)) })) →
    (v.port p).cmd = some c →
    c.op ≠ 2 →
    c.sent + 1000000 ≤ s.clk.now →
    exec (.commandTimeout p) s = .next (v.portResult p c 4 0 0).conclude) ∧
  (∀ (s u : State) (h : FopHead) (p : Fin 16),
    s.Admits h 2 (obj (portIdx p + 0x10) 1) →
    u = s.counted h →
    (u.port p).meas = none →
    u.pagesActive = false →
    u.linkState p = 5 →
    exec (.measure h p) s = .next ((u.measStart p false).fopReply h (s.ownAddr h.peer) 2 (obj (portIdx p + 0x10) 1) St.ok []).conclude) ∧
  (∀ (s u : State) (h : FopHead) (p : Fin 16),
    s.Admits h 2 (obj (portIdx p + 0x10) 1) →
    u = s.counted h →
    (u.port p).meas = none →
    u.pagesActive = false →
    u.linkState p = 5 →
    exec (.measureAndCaptureBaseline h p) s = .next ((u.measStart p true).fopReply h (s.ownAddr h.peer) 2 (obj (portIdx p + 0x10) 1) St.ok []).conclude) ∧
  (∀ (s : State) (p : Fin 16),
    s.alive = true →
    s.reg (measIdx p) 0x0A ≠ 0 →
    (s.port p).measAt + s.reg (measIdx p) 0x0A * 1000000000 ≤ s.clk.now →
    (s.port p).meas = none →
    s.pagesActive = false →
    s.linkState p = 5 →
    exec (.automaticMeasurement p) s = .next (s.measStart p false).conclude) ∧
  (∀ (s t : State) (p : Fin 16) (addr seq : BitVec 8) (crc : BitVec 32) (data : Bytes) (m : Meas),
    s.alive = true →
    s.measOut p = some m →
    s.linkState p = 5 →
    seq.toNat = m.seq →
    addr.toNat % 16 = m.seg / 4 + m.seg % 4 * 4 →
    (t = (s.set (measIdx p) 3 s.clk.now).updPort p fun x => { x with cmd := none }) →
    crc.toNat = crc32c data →
    data.length = 2048 →
    exec (.measFrame p addr seq 0 crc data) s = .next ((((t.readings p m.seg m.capture data).1.set (measIdx p) 6
          (min 16384 ((t.readings p m.seg m.capture data).1.reg (measIdx p) 6 + (t.readings p m.seg m.capture data).2))).segmentDone p m.seg 0 (t.readings p m.seg m.capture data).2
          ((t.readings p m.seg m.capture data).1.render.pending.length - s.render.pending.length)).measNext p m).conclude) ∧
  (∀ (s : State) (p : Fin 16) (m : Meas),
    s.alive = true →
    s.measOut p = some m →
    m.sent + 50000000 ≤ s.clk.now →
    exec (.measTimeout p) s = .next ((s.updPort p fun x => { x with cmd := none }).measFail p m true).conclude) ∧
  (∀ (s : State) (p : Fin 16) (j : BitVec 14) (t0 k : Nat),
    s.alive = true →
    sfind j.toNat (s.port p).windows = some (t0, k, false) →
    t0 + s.jetWindowNs p ≤ s.clk.now →
    k < s.reg (measIdx p) 8 →
    exec (.jetWindowClose p j) s = .next ((s.updPort p fun x => { x with windows := serase j.toNat x.windows }).bump (measIdx p) 0x0B).conclude) ∧
  (∀ (s u : State) (h : FopHead) (p : Fin 16) (mode : Nat),
    s.Admits h 2 (obj (0xF100 + p.val) 2) →
    u = s.counted h →
    u.unit (portUnit p) = 2 →
    mode = u.reg (0xF100 + p) 1 →
    mode ≠ 0 →
    mode ≠ 3 →
    (u.port p).loop = 0 →
    exec (.loopbackStart h p) s = .next (((State.updPort (((u.fresh.2.set (0xF100 + p) 3 0).set (0xF100 + p) 4 0).set (0xF100 + p) 5 0) p fun x => { x with loop := mode, loopAt := some u.clk.now, loopRun := u.fresh.1 }).linkTo p 7 0).fopReply h (s.ownAddr h.peer) 2 (obj (0xF100 + p.val) 2) St.ok []).conclude) ∧
  (∀ (s u : State) (h : FopHead) (p : Fin 16),
    s.Admits h 2 (obj (0xF100 + p.val) 2) →
    u = s.counted h →
    exec (.loopbackStop h p) s = .next ((u.loopEnd p).fopReply h (s.ownAddr h.peer) 2 (obj (0xF100 + p.val) 2) St.ok []).conclude)

/-- Every request in a state that its row of R275 names is accepted with result 0 and waits for the next tick; a stop takes the place of a start that waits; at the tick an accepted enable, disable, move, stop, gearing, set position, clear fault and feed has the effect of its row; a tick uses the latest drive entries, checks the step limit, lets the waiting requests act, moves paths and geared axes and sends the set-points; a status frame is kept entry by entry; a lost drive puts a retained axis into RETAINED and faults the group of a moving one. Rules: R273, R274, R275, R276, R279, R283, R284, R285, R286, R288, R289. Where the rules leave a choice, the model's choices of log entries 8, 35, 77, 98, 100 apply. -/
def Obligations.AxesAndDrives : Prop :=
  (∀ (s : State) (k : Nat),
    s.alive = true →
    k = s.clk.now / s.servoNs →
    s.reg 0x2000 6 < k →
    ∃ t u v w : State, t = [0, 1, 2, 3].foldl State.driveEntry (s.set 0x2000 6 k) ∧ u = (t.stepCheck k).actsAt k ∧
        v = u.motion.paths.foldl (fun s p => s.tickPath k p) u ∧ w = [0, 1, 2, 3].foldl (fun s a => if s.axisState a = 3 then s.tickGear a else s) v ∧
        exec .servoTick s = .next (State.sendSetpoints { w with motion := { w.motion with enc1 := w.enc1 } } k).conclude) ∧
  (∀ (s u : State) (h : FopHead) (x : Fin 4),
    s.Admits h 2 (obj (axisIdx x) 2) →
    u = s.counted h →
    u.axisState x = 0 →
    u.mot = true →
    u.driveOk x = true →
    exec (.enable h x) s = .next (((State.set { u with motion := { u.motion with acts := u.motion.acts ++ [((x : Nat), AxisAct.enable)] } } (axisIdx x) 3 0)).fopReply h (s.ownAddr h.peer) 2 (obj (axisIdx x) 2) St.ok []).conclude) ∧
  (∀ (s u : State) (h : FopHead) (x : Fin 4),
    s.Admits h 2 (obj (axisIdx x) 2) →
    u = s.counted h →
    u.axisState x = 1 →
    exec (.disable h x) s = .next (((State.set { u with motion := { u.motion with acts := u.motion.acts ++ [((x : Nat), AxisAct.disable)] } } (axisIdx x) 3 0)).fopReply h (s.ownAddr h.peer) 2 (obj (axisIdx x) 2) St.ok []).conclude) ∧
  (∀ (s u : State) (h : FopHead) (x : Fin 4),
    s.Admits h 2 (obj (axisIdx x) 2) →
    u = s.counted h →
    u.axisState x = 1 →
    u.mot = true →
    u.safe = false →
    (u.startMove x u.nextTick (u.reg (axisIdx x) 0x0C == 1) (u.i64 (axisIdx x) 0x0B) (u.reg (axisIdx x) 0x0D) false).2 = 0 →
    exec (.startMove h x) s = .next (((State.set { u with motion := { u.motion with acts := u.motion.acts ++ [((x : Nat), AxisAct.move)] } } (axisIdx x) 3 0)).fopReply h (s.ownAddr h.peer) 2 (obj (axisIdx x) 2) St.ok []).conclude) ∧
  (∀ (s u : State) (h : FopHead) (x : Fin 4),
    s.Admits h 2 (obj (axisIdx x) 2) →
    u = s.counted h →
    u.axisState x = 4 →
    u.mot = true →
    exec (.startMove h x) s = .next (((State.set { u with motion := { u.motion with acts := u.motion.acts ++ [((x : Nat), AxisAct.move)] } } (axisIdx x) 3 0)).fopReply h (s.ownAddr h.peer) 2 (obj (axisIdx x) 2) St.ok []).conclude) ∧
  (∀ (s u : State) (h : FopHead) (x : Fin 4),
    s.Admits h 2 (obj (axisIdx x) 2) →
    u = s.counted h →
    u.axisState x = 2 →
    exec (.stop h x) s = .next (((State.set { u with motion := { u.motion with acts := u.motion.acts ++ [((x : Nat), AxisAct.stop (u.decs 9))] } } (axisIdx x) 3 0)).fopReply h (s.ownAddr h.peer) 2 (obj (axisIdx x) 2) St.ok []).conclude) ∧
  (∀ (s u : State) (h : FopHead) (x : Fin 4),
    s.Admits h 2 (obj (axisIdx x) 2) →
    u = s.counted h →
    u.axisState x = 3 →
    exec (.stop h x) s = .next (((State.set { u with motion := { u.motion with acts := u.motion.acts ++ [((x : Nat), AxisAct.stop (u.decs 9))] } } (axisIdx x) 3 0)).fopReply h (s.ownAddr h.peer) 2 (obj (axisIdx x) 2) St.ok []).conclude) ∧
  (∀ (s u : State) (h : FopHead) (x : Fin 4),
    s.Admits h 2 (obj (axisIdx x) 2) →
    u = s.counted h →
    u.axisState x = 4 →
    exec (.stop h x) s = .next (((State.set { u with motion := { u.motion with acts := u.motion.acts ++ [((x : Nat), AxisAct.stop (u.decs 9))] } } (axisIdx x) 3 0)).fopReply h (s.ownAddr h.peer) 2 (obj (axisIdx x) 2) St.ok []).conclude) ∧
  (∀ (s u : State) (h : FopHead) (x : Fin 4),
    s.Admits h 2 (obj (axisIdx x) 2) →
    u = s.counted h →
    u.axisState x = 1 →
    ((u.motion.acts.filter fun e => !(e.1 == (x : Nat) && e.2.starts)).length ≠ u.motion.acts.length) →
    exec (.stop h x) s = .next (((State.set { u with motion := { u.motion with acts := u.motion.acts.filter fun e => !(e.1 == (x : Nat) && e.2.starts) } } (axisIdx x) 3 0)).fopReply h (s.ownAddr h.peer) 2 (obj (axisIdx x) 2) St.ok []).conclude) ∧
  (∀ (s u : State) (h : FopHead) (x : Fin 4),
    s.Admits h 2 (obj (axisIdx x) 2) →
    u = s.counted h →
    u.axisState x = 1 →
    u.mot = true →
    u.safe = false →
    u.i32 (axisIdx x) 0x0E ≠ 0 →
    u.reg (axisIdx x) 0x0F ≠ 0 →
    exec (.startGearing h x) s = .next (((State.set { u with motion := { u.motion with acts := u.motion.acts ++ [((x : Nat), AxisAct.gear)] } } (axisIdx x) 3 0)).fopReply h (s.ownAddr h.peer) 2 (obj (axisIdx x) 2) St.ok []).conclude) ∧
  (∀ (s u : State) (h : FopHead) (x : Fin 4),
    s.Admits h 2 (obj (axisIdx x) 2) →
    u = s.counted h →
    u.axisState x = 1 →
    exec (.setPosition h x) s = .next (((State.set { u with motion := { u.motion with acts := u.motion.acts ++ [((x : Nat), AxisAct.set)] } } (axisIdx x) 3 0)).fopReply h (s.ownAddr h.peer) 2 (obj (axisIdx x) 2) St.ok []).conclude) ∧
  (∀ (s u : State) (h : FopHead) (x : Fin 4),
    s.Admits h 2 (obj (axisIdx x) 2) →
    u = s.counted h →
    u.axisState x = 5 →
    u.driveOk x = true →
    u.mot = true →
    exec (.clearFault h x) s = .next (((State.set { u with motion := { u.motion with acts := u.motion.acts ++ [((x : Nat), AxisAct.clear)] } } (axisIdx x) 3 0)).fopReply h (s.ownAddr h.peer) 2 (obj (axisIdx x) 2) St.ok []).conclude) ∧
  (∀ (s : State) (x k : Nat),
    s.axisState x = 0 →
    s.mot = true →
    s.driveOk x = true →
    s.flag (axisIdx x) 0x16 = true →
    s.actAt x k .enable = (s.axisTo x 1 0, 0)) ∧
  (∀ (s : State) (x k : Nat),
    s.axisState x = 0 →
    s.mot = true →
    s.driveOk x = true →
    s.flag (axisIdx x) 0x16 = false →
    s.actAt x k .enable = ((s.setAxisPos x (s.i64 (axisIdx x) 0x1A * 2 ^ 32)).axisTo x 1 0, 0)) ∧
  (∀ (s : State) (x k : Nat),
    s.axisState x = 1 →
    s.actAt x k .disable = (s.axisTo x 0 0, 0)) ∧
  (∀ (s : State) (x k : Nat),
    s.axisState x = 1 →
    s.mot = true →
    s.safe = false →
    (s.startMove x k (s.reg (axisIdx x) 0x0C == 1) (s.i64 (axisIdx x) 0x0B) (s.reg (axisIdx x) 0x0D) false).2 = 0 →
    s.actAt x k .move = ((s.startMove x k (s.reg (axisIdx x) 0x0C == 1) (s.i64 (axisIdx x) 0x0B) (s.reg (axisIdx x) 0x0D) false).1, 0)) ∧
  (∀ (s : State) (x k : Nat) (d : List Nat),
    s.axisState x = 2 →
    s.actAt x k (.stop d) = (s.stopGroup x k d 0, 0)) ∧
  (∀ (s : State) (x k : Nat) (d : List Nat),
    s.axisState x = 3 →
    s.actAt x k (.stop d) = (s.stopGear x k d 0, 0)) ∧
  (∀ (s : State) (x k : Nat) (d : List Nat),
    s.axisState x = 4 →
    s.actAt x k (.stop d) = (s, 0)) ∧
  (∀ (s : State) (x k : Nat),
    s.axisState x = 1 →
    s.mot = true →
    s.safe = false →
    s.i32 (axisIdx x) 0x0E ≠ 0 →
    s.reg (axisIdx x) 0x0F ≠ 0 →
    s.actAt x k .gear = ((s.updAxis x fun y => { y with gear := some ⟨y.pos, s.enc1, s.i32 (axisIdx x) 0x0E, s.reg (axisIdx x) 0x0F, true⟩ }).axisTo x 3 0, 0)) ∧
  (∀ (s : State) (x k : Nat),
    s.axisState x = 1 →
    s.actAt x k .set = (((s.setAxisPos x (s.i64 (axisIdx x) 0x13 * 2 ^ 32)).set (axisIdx x) 0x16 1).backupAxis x, 0)) ∧
  (∀ (s : State) (x k : Nat),
    s.axisState x = 5 →
    s.driveOk x = true →
    s.mot = true →
    s.actAt x k .clear = (s.axisTo x 0 0, 0)) ∧
  (∀ (s t : State) (x k : Nat) (f : Int),
    s.axisState x = 1 →
    s.mot = true →
    s.safe = false →
    s.startMove x k true f 0 true = (t, 0) →
    s.actAt x k (.feed f) = ({ t with pos := { t.pos with feedPath := (t.axis x).path } }, 0)) ∧
  (∀ (s u : State) (h : FopHead) (x : Fin 4) (b : Bytes) (r : Ratio),
    s.Admits h 2 (obj (axisIdx x) 17) →
    u = s.counted h →
    b = u.bytes (axisIdx x) 0x10 0 16 →
    r = ⟨toSigned 64 (leAt b 0 8), toSigned 32 (leAt b 8 4), leAt b 12 4⟩ →
    (u.axis x).queue.length < 16 →
    r.num ≠ 0 →
    r.den ≠ 0 →
    exec (.gearQueueAppend h x) s = .next ((((u.updAxis x fun y => { y with queue := y.queue ++ [r], side := if y.queue.isEmpty then sideOf u.enc1 r.at_ else y.side }).set (axisIdx x) 0x12
        ((u.axis x).queue.length + 1)).set (axisIdx x) 3 0).fopReply h (s.ownAddr h.peer) 2 (obj (axisIdx x) 17) St.ok []).conclude) ∧
  (∀ (s u : State) (h : FopHead) (x : Fin 4),
    s.Admits h 2 (obj (axisIdx x) 17) →
    u = s.counted h →
    exec (.gearQueueFlush h x) s = .next ((((u.updAxis x fun y => { y with queue := [] }).set (axisIdx x) 0x12 0).set (axisIdx x) 3 0).fopReply h (s.ownAddr h.peer) 2 (obj (axisIdx x) 17) St.ok []).conclude) ∧
  (∀ (s : State) (src : Peer) (f : Bytes) (takes : Nat → Bool),
    s.alive = true →
    f.length = 84 →
    leAt f 0 2 = 0x434D →
    leAt f 2 1 = 1 →
    leAt f 3 1 = 2 →
    leAt f 80 4 = crc32c (f.take 80) →
    s.motion.sentCycles.contains (leAt f 4 2) = true →
    (takes = fun a => bit (leAt f 6 1) a && s.bytes (axisIdx a) 0x19 0 16 == peerBytes src) →
    ([0, 1, 2, 3].any takes) = true →
    exec (.statusFrame src f) s = .next (State.conclude ([0, 1, 2, 3].foldl (fun s a => if takes a then s.updAxis a fun x => { x with entry := some (toSigned 64 (leAt f (16 + 16 * a) 8), leAt f (28 + 16 * a) 2) } else s) s))) ∧
  (∀ (s : State) (x : Fin 4),
    s.alive = true →
    s.reg 0x2000 5 ≤ (s.axis x).missed →
    s.axisState x ≤ 1 →
    s.flag (axisIdx x) 0x17 = true →
    s.flag (axisIdx x) 0x16 = true →
    exec (.driveLoss x) s = .next (s.axisTo x 6 1).conclude) ∧
  (∀ (s : State) (x : Fin 4),
    s.alive = true →
    s.reg 0x2000 5 ≤ (s.axis x).missed →
    2 ≤ s.axisState x →
    s.axisState x ≤ 4 →
    exec (.driveLoss x) s = .next ((s.groupOf x).foldl (fun s i => ((s.set (axisIdx i) 0x16 0).raiseAt 203 2 i 10 4 0 0).faultAxis i 1) s).conclude)

/-- Sync, Follow_Up and Announce of the tracked domain are measured; delay messages set the delay; a message that passes through is corrected; a rebase enters the next epoch; a trigger fires at its edge; a capture keeps its time. Rules: R300, R301, R302, R305, R307, R308, R309, R311. Where the rules leave a choice, the model's choices of log entries 8, 11, 18, 19, 67, 68, 98, 108 apply. -/
def Obligations.NetworkTime : Prop :=
  (∀ (s : State) (t : PtpHead) (y : SyncBody) (b : Nat) (x : Int),
    s.alive = true →
    s.domOf t.domain.toNat t.transport = some b →
    s.fromParent b t.fn t.src.toNat = true →
    2 ≤ s.reg (domIdx b) 5 →
    y.twoStep = false →
    x = ptpNs y.origin.toNat + corrNs t.corr.toNat →
    exec (.sync t y) s = .next (((((s.set (domIdx b) 0x0B y.logInterval.toNat).updDom b fun d => { d with last := s.clk.now }).measureDom b x s.clk.now).askDelay b t.fn x s.clk.now)).conclude) ∧
  (∀ (s : State) (t : PtpHead) (y : SyncBody) (b : Nat),
    s.alive = true →
    s.domOf t.domain.toNat t.transport = some b →
    s.fromParent b t.fn t.src.toNat = true →
    2 ≤ s.reg (domIdx b) 5 →
    y.twoStep = true →
    exec (.sync t y) s = .next (((s.set (domIdx b) 0x0B y.logInterval.toNat).updDom b fun d => { d with last := s.clk.now }).updDom b fun d => { d with waiting := some (t.seq.toNat, s.clk.now, corrNs t.corr.toNat) }).conclude) ∧
  (∀ (s : State) (t : PtpHead) (origin : BitVec 80) (b q t2 : Nat) (c x : Int),
    s.alive = true →
    s.domOf t.domain.toNat t.transport = some b →
    (s.dom b).waiting = some (q, t2, c) →
    q = t.seq.toNat →
    s.fromParent b t.fn t.src.toNat = true →
    x = ptpNs origin.toNat + c + corrNs t.corr.toNat →
    exec (.followUp t origin) s = .next (((s.updDom b fun d => { d with waiting := none }).measureDom b x t2).askDelay b t.fn x t2).conclude) ∧
  (∀ (s : State) (t : PtpHead) (y : AnnounceBody) (b : Nat) (c p : Cand) (l : List Cand),
    s.alive = true →
    s.domOf t.domain.toNat t.transport = some b →
    c = ⟨t.fn, t.src.toNat, y.priority1.toNat, y.cls.toNat, y.accuracy.toNat, y.variance.toNat, y.priority2.toNat, y.identity.toNat⟩ →
    (l = c :: (s.dom b).cands.filter fun x => !(x.fn == c.fn && x.src == c.src)) →
    p = l.foldl Cand.pick c →
    ∃ u : State, u = ((s.updDom b fun d => { d with cands := l, parent := some p, waiting := if s.fromParent b p.fn p.src then d.waiting else none, delayReq := if s.fromParent b p.fn p.src then d.delayReq else none }).set
          (domIdx b) 9 p.identity).setBytes (domIdx b) 0x0A 0 (leBytes 1 p.priority1 ++ leBytes 1 p.cls ++ leBytes 1 p.accuracy ++ leBytes 2 p.variance ++ leBytes 1 p.priority2 ++ leBytes 1 p.fn ++ [0]) ∧
        exec (.announce t y) s = .next (State.conclude ((if u.reg (domIdx b) 5 = 1 then u.domTo b 2 else u).qualitySwitch b))) ∧
  (∀ (s : State) (t : PtpHead) (rx : BitVec 80) (b q t3 t2 : Nat) (t1 : Int),
    s.alive = true →
    s.domOf t.domain.toNat t.transport = some b →
    (s.dom b).delayReq = some (q, t3, t1, t2) →
    q = t.seq.toNat →
    s.fromParent b t.fn t.src.toNat = true →
    s.p2p b = false →
    exec (.delayResp t rx) s = .next ((s.updDom b fun d => { d with delayReq := none }).set (domIdx b) 7 (clampInt 0 4294967295 ((((t2 : Int) - t1) + ((ptpNs rx.toNat : Int) - corrNs t.corr.toNat - t3)) / 2)).toNat).conclude) ∧
  (∀ (s : State) (t : PtpHead) (b : Nat),
    s.alive = true →
    s.domOf t.domain.toNat t.transport = some b →
    s.p2p b = true →
    exec (.pdelayReq t) s = .next (s.send (.ptp t.fn t.transport) (ptpMessage 3 t.domain.toNat t.fn t.seq.toNat t.corr.toNat (zeros 10 ++ beBytes 10 t.src.toNat))).conclude) ∧
  (∀ (s : State) (t : PtpHead) (rx tx : BitVec 80) (b q t1 dl : Nat) (p : Cand),
    s.alive = true →
    s.domOf t.domain.toNat t.transport = some b →
    sfind t.fn (s.dom b).pdelayReq = some (q, t1) →
    q = t.seq.toNat →
    s.p2p b = true →
    dl = (clampInt 0 4294967295 (((s.clk.now - t1 : Nat) - ((ptpNs tx.toNat : Int) - ptpNs rx.toNat) - corrNs t.corr.toNat) / 2)).toNat →
    (s.dom b).parent = some p →
    p.fn = t.fn →
    exec (.pdelayResp t rx tx) s = .next ((s.updDom b fun d => { d with pdelayReq := serase t.fn d.pdelayReq, linkDelay := sset 0 d.linkDelay t.fn dl }).set (domIdx b) 7 dl).conclude) ∧
  (∀ (s : State) (fn : Fin 2) (tr : Fin 3) (m : Bytes) (r : BitVec 32),
    s.alive = true →
    s.reg 0x1804 0 = 1 →
    s.fnUp fn = true →
    s.fnUp (1 - fn) = true →
    34 ≤ m.length →
    s.domOf (leAt m 4 1) tr = none →
    leAt m 0 1 % 16 = 0 →
    bit (leAt m 6 1) 1 = false →
    exec (.transparentClockForward fn tr m r) s = .next (s.send (.ptp (1 - fn.val) tr) (addCorr m r.toNat)).conclude) ∧
  (∀ (s : State) (fn : Fin 2) (tr : Fin 3) (m : Bytes) (r : BitVec 32),
    s.alive = true →
    s.reg 0x1804 0 = 1 →
    s.fnUp fn = true →
    s.fnUp (1 - fn) = true →
    34 ≤ m.length →
    s.domOf (leAt m 4 1) tr = none →
    leAt m 0 1 % 16 = 9 →
    exec (.transparentClockForward fn tr m r) s = .next (s.send (.ptp (1 - fn.val) tr) m).conclude) ∧
  (∀ (s : State) (b : Bool),
    s.alive = true →
    s.reg (domIdx (b2n b)) 5 = 3 →
    (s.dom (b2n b)).last + syncNs (s.reg (domIdx (b2n b)) 0x0C) (s.reg (domIdx (b2n b)) 0x0B) ≤ s.clk.now →
    exec (.syncLossTimeout b) s = .next (((s.updDom (b2n b) fun d => { d with cands := [], parent := none, good := 0, bad := 0, waiting := none, delayReq := none }).bump (domIdx (b2n b)) 0x0E).domTo (b2n b) 1).conclude) ∧
  (∀ (s u : State) (h : FopHead) (b : Bool) (v : BitVec 8),
    s.Admits h 2 (obj (0x1010 + b2n b) 4) →
    u = s.counted h →
    v.toNat ≤ 1 →
    exec (.domainEnableWrite h b v) s = .next ((u.domainEnable (b2n b) v.toNat).fopReply h (s.ownAddr h.peer) 2 (obj (0x1010 + b2n b) 4) St.ok []).conclude) ∧
  (∀ (s u : State) (h : FopHead),
    s.Admits h 2 (obj 0x1000 9) →
    u = s.counted h →
    u.rebaseCheck = 0 →
    u.onBoard = false →
    exec (.rebaseCommand h) s = .next (((u.set 0x1000 0x0A 0).rebaseTo ((u.epoch + 1) % 2 ^ 16) (u.i64 0x1000 3 + u.i64 0x1000 7)).fopReply h (s.ownAddr h.peer) 2 (obj 0x1000 9) St.ok []).conclude) ∧
  (∀ (s : State),
    s.alive = true →
    s.reg 0x1000 0x0D = 1 →
    s.epoch = 0 →
    s.rebaseCheck = 0 →
    s.board.rebase = none →
    s.onBoard = false →
    exec .initialRebase s = .next ((s.set 0x1000 0x0A 0).rebaseTo 1 (s.i64 0x1000 3 + s.i64 0x1000 7)).conclude) ∧
  (∀ (s u : State) (h : FopHead) (t : Fin 4) (x : Nat) (e : Int),
    s.Admits h 2 (obj (0x1030 + t.val) 6) →
    u = s.counted h →
    x = 0x1030 + t →
    e = u.reg x 2 - u.i64 0x1000 3 →
    u.reg x 1 = 1 →
    u.reg x 7 ≠ 1 →
    u.clk.now + 1000 ≤ e →
    u.reg x 4 ≠ 0 →
    exec (.triggerArm h t) s = .next ((((u.set x 8 0).set x 7 1).setTrig t { u.trig t with due := some e.toNat }).fopReply h (s.ownAddr h.peer) 2 (obj (0x1030 + t.val) 6) St.ok []).conclude) ∧
  (∀ (s u : State) (h : FopHead) (t : Fin 4) (x : Nat),
    s.Admits h 2 (obj (0x1030 + t.val) 6) →
    u = s.counted h →
    x = 0x1030 + t →
    u.reg x 7 = 1 →
    exec (.triggerDisarm h t) s = .next ((((u.set x 8 0).set x 7 0).setTrig t { u.trig t with due := none }).fopReply h (s.ownAddr h.peer) 2 (obj (0x1030 + t.val) 6) St.ok []).conclude) ∧
  (∀ (s : State) (t : Fin 4) (x d : Nat),
    s.alive = true →
    x = 0x1030 + t →
    (s.trig t).due = some d →
    d ≤ s.clk.now →
    exec (.triggerEdge t) s = .next (let v := (s.setTrig t ⟨if s.reg x 1 == 1 then none else some (d + s.reg x 3), some (d + s.reg x 4)⟩).count x 9 32 1
          (if s.reg x 1 == 1 then v.set x 7 2 else v).raise (216 + t) 0 (d % 2 ^ 32)).conclude) ∧
  (∀ (s : State) (t : Fin 4) (d : Nat),
    s.alive = true →
    (s.trig t).off = some d →
    d ≤ s.clk.now →
    exec (.triggerPulseEnd t) s = .next (s.setTrig t { s.trig t with off := none }).conclude) ∧
  (∀ (s : State) (c : Fin 4) (up : Bool) (x t : Nat),
    s.alive = true →
    x = 0x1040 + c →
    (bit (s.reg x 1) (if up then 0 else 1) = true) →
    t = s.clk.now - s.reg x 2 →
    s.reg x 3 = 0xFF →
    exec (.captureEdge c up) s = .next ((((s.set x 4 t).set x 5 (s.epochAt t)).count x 6 32 1).raise (220 + c) 0 (t % 2 ^ 32 + b2n up * 2 ^ 32)).conclude)

/-- A temperature read keeps the readings; a refresh interval is postponed or paid; what arrives is accepted and one command issued; training results are kept. Rules: R324, R325, R326, R327, R328, R329, R330, R331, R332, R333, R334. Where the rules leave a choice, the model's choices of log entries 26, 27, 59, 62, 86, 98 apply. -/
def Obligations.DramServing : Prop :=
  (∀ (s v : State) (temps : List (List Int)) (t : Int) (ts : List Int),
    s.alive = true →
    (v = (List.zip (upTo 8) temps).foldl (fun s (i, l) => s.subTemps i l) s) →
    ((v.dram.subs.flatMap fun e => e.2.temps) = t :: ts) →
    ts.foldl max t ≤ 1488 →
    exec (.dramTemperatureRead temps) s = .next ({ v.set 0x6010 6 (ofSigned 16 (ts.foldl max t)) with dram := { (v.set 0x6010 6 (ofSigned 16 (ts.foldl max t))).dram with hot := false } }).conclude) ∧
  (∀ (s v w : State) (i : Fin 8) (rank : Fin 2) (at_ : Nat),
    s.alive = true →
    s.subIn i = true →
    rank.val < s.dramConf 1 →
    at_ = sget 0 (s.sub i).refAt rank →
    at_ ≤ s.clk.now →
    v = s.refreshBoundary i →
    (w = v.updSub i fun x => x.interval v.allBank rank ((if at_ = 0 then v.clk.now else at_) + v.refreshNs i)) →
    (w.sub i).forcedAt v.allBank rank w.refreshLimit = [] →
    exec (.refreshDue i rank) s = .next (w.set 0x6010 3 (max (w.reg 0x6010 3) ((w.sub i).debtOf rank))).conclude) ∧
  (∀ (s v w x : State) (i : Fin 8) (rank : Fin 2) (at_ : Nat) (l : List Nat),
    s.alive = true →
    s.subIn i = true →
    rank.val < s.dramConf 1 →
    at_ = sget 0 (s.sub i).refAt rank →
    at_ ≤ s.clk.now →
    v = s.refreshBoundary i →
    (w = v.updSub i fun x => x.interval v.allBank rank ((if at_ = 0 then v.clk.now else at_) + v.refreshNs i)) →
    (w.sub i).forcedAt v.allBank rank w.refreshLimit = l →
    x = w.forceRefresh i rank v.allBank l →
    exec (.refreshDue i rank) s = .next (x.set 0x6010 3 (max (x.reg 0x6010 3) ((x.sub i).debtOf rank))).conclude) ∧
  (∀ (s v : State) (i : Fin 8) (l : List Arrival) (r : DramReq),
    s.alive = true →
    s.subIn i = true →
    (v = (s.accept_ i l).updSub i fun x => x.payRefresh s.allBank) →
    (v.sub i).due = [] →
    (v.sub i).reads.find? (·.real) = some r →
    exec (.dramCommandIssue i l) s = .next ((v.updSub i fun x => x.issue (v.reg 0x6020 1) r).set 0x6040 3 (min (max (v.reg 0x6040 3) (v.clk.now - r.at_)) (2 ^ 32 - 1))).conclude) ∧
  (∀ (s : State) (i : Fin 8),
    s.alive = true →
    exec (.refreshWindowClear i) s = .next (s.updSub i fun x => { x with acts := [] }).conclude) ∧
  (∀ (s : State) (rfm : Bool) (l : List TrainResult),
    s.alive = true →
    s.dram.trained = false →
    s.boot.phase = .run →
    exec (.startupTrainingComplete false rfm l) s = .next ((upTo 8).foldl (fun s i => s.trainEvent i 5) (State.set { s with dram := { s.dram with trained := true } } 0x6020 4 (b2n rfm))).conclude) ∧
  (∀ (s v : State) (rfm : Bool) (t0 t1 t2 t3 t4 t5 t6 t7 : TrainResult),
    s.alive = true →
    s.dram.trained = false →
    s.boot.phase = .run →
    (([t0, t1, t2, t3, t4, t5, t6, t7].all fun t => s.passes7 t) = true) →
    (v = (List.zip (upTo 8) [t0, t1, t2, t3, t4, t5, t6, t7]).foldl (fun u (i, t) => (u.keepResult i t).trainEvent i 1) (State.set { s with dram := { s.dram with trained := true } } 0x6020 4 (b2n rfm))) →
    2 ≤ pairCount v.pairsIn →
    exec (.startupTrainingComplete true rfm [t0, t1, t2, t3, t4, t5, t6, t7]) s = .next ((((State.capNow { v with dram := { v.dram with copies := copiesOver v.pairsIn } }).setReady 6 true).setReady 7 true).setReady 8 true).sessionReady.conclude) ∧
  (∀ (s u : State) (h : FopHead),
    s.Admits h 2 (obj 0x6030 1) →
    u = s.counted h →
    ((upTo 8).filter u.subIn) ≠ [] →
    exec (.retrainAll h) s = .next ((((upTo 8).filter u.subIn).foldl (fun s i => s.scheduleTraining i) u).fopReply h (s.ownAddr h.peer) 2 (obj 0x6030 1) St.ok []).conclude) ∧
  (∀ (s u : State) (h : FopHead) (i : Nat),
    s.Admits h 2 (obj 0x6030 1) →
    u = s.counted h →
    i = u.reg 0x6030 2 →
    u.subIn i = true →
    exec (.retrainSubchannel h) s = .next ((u.scheduleTraining i).fopReply h (s.ownAddr h.peer) 2 (obj 0x6030 1) St.ok []).conclude) ∧
  (∀ (s : State) (i : Fin 8) (d : BitVec 16),
    s.alive = true →
    s.subIn i = true →
    s.reg 0x6030 6 < d.toNat →
    (s.sub i).run = false →
    (s.sub i).sched = false →
    exec (.driftSample i d) s = .next (s.scheduleTraining i).conclude) ∧
  (∀ (s : State) (i : Fin 8),
    s.alive = true →
    (s.sub i).sched = true →
    s.pagesActive = false →
    s.subIn i = true →
    exec (.retrainingStart i) s = .next ((s.updSub i fun x => { x with sched := false, run := true }).showTraining).conclude) ∧
  (∀ (s v w : State) (i : Fin 8) (t : TrainResult) (old : Bool),
    s.alive = true →
    (s.sub i).run = true →
    (v = (s.updSub i fun x => { x with run := false }).showTraining) →
    v.passes7 t = true →
    w = ((v.keepResult i t).set 0x6030 4 0).trainEvent i 3 →
    exec (.retrainingComplete i t old) s = .next (if w.subState i = 1 then w.subTo i 0 0 else w).conclude) ∧
  (∀ (s v : State) (i : Fin 8) (t : TrainResult),
    s.alive = true →
    (s.sub i).run = true →
    (v = (s.updSub i fun x => { x with run := false }).showTraining) →
    v.passes7 t = false →
    exec (.retrainingComplete i t true) s = .next (((v.set 0x6030 4 1).trainEvent i 4).subTo i 1 2).conclude)

/-- A leak takes one from the level; a window opens, takes writes of data and parity, and begins to close; a CRC unit resets, is fed and compares. Rules: R347, R349, R350, R354, R355, R356, R357. Where the rules leave a choice, the model's choices of log entries 8, 11, 17, 18, 19, 23, 71, 98 apply. -/
def Obligations.WindowsBucketsAndCrc : Prop :=
  (∀ (s : State) (c : Fin 12) (next : Nat),
    s.alive = true →
    next = s.leakAt c →
    next ≤ s.clk.now →
    exec (.leakInstant c) s = .next (State.leakOne { s with integ := { s.integ with leak := sset 0 s.integ.leak c next } } c (s.reg (clsIdx c) 3)).conclude) ∧
  (∀ (s u : State) (h : FopHead) (x : Nat) (v : State),
    s.Admits h 2 (obj 0xF000 3) →
    u = s.counted h →
    x = u.reg 0xF000 1 →
    u.reg 0xF000 4 = 0 →
    u.windowSize ≠ 0 →
    u.windowMayOpen x = true →
    v = (((u.set 0xF000 4 2).set 0xF000 5 0).set 0xF000 6 0).set 0xF000 7 0xFFFFFFFF →
    exec (.testWindowOpen h) s = .next ((State.windowOpened { v with integ := { v.integ with window := [] } } x).fopReply h (s.ownAddr h.peer) 2 (obj 0xF000 3) St.ok []).conclude) ∧
  (∀ (s u : State) (h : FopHead),
    s.Admits h 2 (obj 0xF000 3) →
    u = s.counted h →
    u.reg 0xF000 4 = 2 →
    exec (.testWindowClose h) s = .next (((u.set 0xF000 4 3).set 0xF000 5 0).fopReply h (s.ownAddr h.peer) 2 (obj 0xF000 3) St.ok []).conclude) ∧
  (∀ (s u : State) (h : FopHead) (off : BitVec 32) (d : Bytes),
    s.Admits h 0x0B (obj 0xF001 0) →
    u = s.counted h →
    d ≠ [] →
    d.length ≤ 1024 →
    off.toNat + d.length ≤ u.domSize 0xF001 0 →
    u.reg 0xF000 4 = 2 →
    u.lockedFor h.peer (obj 0xF001 0) = false →
    exec (.windowDataWrite h off d) s = .next (((u.windowWrite off.toNat (keptBytes 0xF001 off.toNat d)).rewatch 0xF001 0).fopReply h (s.ownAddr h.peer) 0x0B (obj 0xF001 0) St.ok []).conclude) ∧
  (∀ (s u : State) (h : FopHead) (off : BitVec 32) (d : Bytes),
    s.Admits h 0x0B (obj 0xF002 0) →
    u = s.counted h →
    d ≠ [] →
    d.length ≤ 1024 →
    off.toNat + d.length ≤ u.domSize 0xF002 0 →
    u.reg 0xF000 4 = 2 →
    u.lockedFor h.peer (obj 0xF002 0) = false →
    exec (.windowParityWrite h off d) s = .next (((u.parityWrite off.toNat (keptBytes 0xF002 off.toNat d)).rewatch 0xF002 0).fopReply h (s.ownAddr h.peer) 0x0B (obj 0xF002 0) St.ok []).conclude) ∧
  (∀ (s u : State) (h : FopHead) (c : Fin 8),
    s.Admits h 2 (obj (crcIdx c) 6) →
    u = s.counted h →
    u.crcOwned c = false →
    exec (.crcReset h c) s = .next ((u.crcReset c).fopReply h (s.ownAddr h.peer) 2 (obj (crcIdx c) 6) St.ok []).conclude) ∧
  (∀ (s u : State) (h : FopHead) (c : Fin 8) (w r : Nat),
    s.Admits h 2 (obj (crcIdx c) 6) →
    u = s.counted h →
    u.crcOwned c = false →
    w = (u.crcCfg c).1 →
    r = u.crcOut c (u.reg (crcIdx c) 7) →
    r = u.reg (crcIdx c) 9 % 2 ^ w →
    exec (.crcCompare h c) s = .next ((u.set (crcIdx c) 0x0A 1).fopReply h (s.ownAddr h.peer) 2 (obj (crcIdx c) 6) St.ok []).conclude) ∧
  (∀ (s u : State) (h : FopHead) (c : Fin 8) (w r : Nat),
    s.Admits h 2 (obj (crcIdx c) 6) →
    u = s.counted h →
    u.crcOwned c = false →
    w = (u.crcCfg c).1 →
    r = u.crcOut c (u.reg (crcIdx c) 7) →
    r ≠ u.reg (crcIdx c) 9 % 2 ^ w →
    exec (.crcCompare h c) s = .next (((u.set (crcIdx c) 0x0A 2).raise (240 + c) 0 (r + u.reg (crcIdx c) 9 * 2 ^ 32)).fopReply h (s.ownAddr h.peer) 2 (obj (crcIdx c) 6) St.ok []).conclude) ∧
  (∀ (s u : State) (h : FopHead) (c : Fin 8) (w : Fin 4) (v : BitVec 64),
    s.Admits h 2 (obj (crcIdx c) (0x0B + w.val)) →
    u = s.counted h →
    u.crcOwned c = false →
    v.toNat < 256 ^ (2 ^ w.val) →
    exec (.crcFeed h c w v) s = .next ((u.crcFeed c (leBytes (2 ^ w.val) v.toNat)).fopReply h (s.ownAddr h.peer) 2 (obj (crcIdx c) (0x0B + w.val)) St.ok []).conclude) ∧
  (∀ (s u : State) (h : FopHead) (c : Fin 8) (v : BitVec 32),
    s.Admits h 2 (obj (crcIdx c) 7) →
    u = s.counted h →
    u.crcOwned c = false →
    exec (.runningValueWrite h c v) s = .next ((u.crcPut c v.toNat).fopReply h (s.ownAddr h.peer) 2 (obj (crcIdx c) 7) St.ok []).conclude)

/-- Start, stop and resume move the channel; a descriptor is taken in; an element moves from source to destination and the descriptor ends DONE; the system controller claims and releases. Rules: R358, R360, R361, R363, R364, R365. Where the rules leave a choice, the model's choices of log entries 17, 25, 70, 78, 98 apply. -/
def Obligations.DmaChannels : Prop :=
  (∀ (s u : State) (h : FopHead) (n : Fin 32),
    s.Admits h 2 (obj (dmaIdx n) 5) →
    u = s.counted h →
    u.dmaState n = 0 →
    Ring.active u.ev (128 + n) = true →
    exec (.dmaStart h n) s = .next (((u.set (dmaIdx n) 6 1).set (dmaIdx n) 8 0).fopReply h (s.ownAddr h.peer) 2 (obj (dmaIdx n) 5) St.ok []).conclude) ∧
  (∀ (s u : State) (h : FopHead) (n : Fin 32),
    s.Admits h 2 (obj (dmaIdx n) 5) →
    u = s.counted h →
    u.dmaState n = 1 →
    u.dmaCur n = none →
    exec (.dmaStop h n) s = .next (((u.set (dmaIdx n) 6 0).set (dmaIdx n) 8 0).fopReply h (s.ownAddr h.peer) 2 (obj (dmaIdx n) 5) St.ok []).conclude) ∧
  (∀ (s u : State) (h : FopHead) (n : Fin 32),
    s.Admits h 2 (obj (dmaIdx n) 5) →
    u = s.counted h →
    u.dmaState n = 1 →
    (u.dmaCur n).isSome = true →
    exec (.dmaStop h n) s = .next ((((u.dmaFinish n 3).set (dmaIdx n) 6 0).set (dmaIdx n) 8 0).fopReply h (s.ownAddr h.peer) 2 (obj (dmaIdx n) 5) St.ok []).conclude) ∧
  (∀ (s u : State) (h : FopHead) (n : Fin 32),
    s.Admits h 2 (obj (dmaIdx n) 5) →
    u = s.counted h →
    u.dmaState n = 2 →
    exec (.dmaResume h n) s = .next (((u.set (dmaIdx n) 6 1).set (dmaIdx n) 8 0).fopReply h (s.ownAddr h.peer) 2 (obj (dmaIdx n) 5) St.ok []).conclude) ∧
  (∀ (s : State) (n : Nat),
    s.alive = true →
    s.claimsHeld < s.claimsWanted →
    ((upTo 32).reverse.find? (fun n => s.dmaState n == 0) = some n) →
    exec .dmaClaim s = .next ((s.set (dmaIdx n) 6 3).set (dmaIdx n) 7 1).conclude) ∧
  (∀ (s : State) (n : Fin 32),
    s.alive = true →
    s.dmaState n = 3 →
    s.claimsWanted < s.claimsHeld →
    exec (.dmaRelease n) s = .next ((s.set (dmaIdx n) 6 0).set (dmaIdx n) 7 0).conclude) ∧
  (∀ (s : State) (n : Fin 32) (d : Bytes) (src dst len e ix sub off : Nat),
    s.alive = true →
    s.dmaState n = 1 →
    s.dmaCur n = none →
    s.ev.ringHead (128 + n) = some (d, 0) →
    bit (leAt d 1 1) 0 = false →
    leAt d 0 1 = 0x40 →
    src = leAt d 8 8 →
    dst = leAt d 16 8 →
    len = leAt d 24 4 →
    e = s.dmaElem n →
    len ≠ 0 →
    len % e = 0 →
    endAligned e len (s.reg (dmaIdx n) 2 == 1) (endOf src) = true →
    endAligned e len (s.reg (dmaIdx n) 3 == 1) (endOf dst) = true →
    endOf dst = .object ix sub off →
    feedOf ix sub = none →
    exec (.dmaDescriptor ⟨n, false⟩) s = .next ((s.set (dmaIdx n) 9 0).setCur n (some ⟨src, dst, len, leAt d 4 4, s.ev.bank.get (qObj (128 + n) 3), 0, false, none⟩)).conclude) ∧
  (∀ (s t : State) (n : Fin 32) (c : DmaCur) (e m : Nat) (bs : Bytes) (from_ into : End),
    s.alive = true →
    s.dmaServed = some n.val →
    s.dmaCur n = some c →
    e = s.dmaElem n →
    (from_ = endOf (if (s.reg (dmaIdx n) 2 == 1) = true then c.src else c.src + c.moved)) →
    (into = endOf (if (s.reg (dmaIdx n) 3 == 1) = true then c.dst else c.dst + c.moved)) →
    State.endRead { s with integ := { s.integ with turn := n + 1 } } e (State.endBad { s with integ := { s.integ with turn := n + 1 } } e from_) from_ = .ok bs →
    State.endWrite { s with integ := { s.integ with turn := n + 1 } } bs (s.reg (dmaIdx n) 3 == 1) into = .ok t →
    m = c.moved + e →
    2 * m < c.len →
    exec (.dmaElement n .clean) s = .next ((t.set (dmaIdx n) 9 m).setCur n (some { c with moved := m })).conclude) ∧
  (∀ (s t : State) (n : Fin 32) (c : DmaCur) (e : Nat) (bs : Bytes) (from_ into : End),
    s.alive = true →
    s.dmaServed = some n.val →
    s.dmaCur n = some c →
    e = s.dmaElem n →
    (from_ = endOf (if (s.reg (dmaIdx n) 2 == 1) = true then c.src else c.src + c.moved)) →
    (into = endOf (if (s.reg (dmaIdx n) 3 == 1) = true then c.dst else c.dst + c.moved)) →
    State.endRead { s with integ := { s.integ with turn := n + 1 } } e (State.endBad { s with integ := { s.integ with turn := n + 1 } } e from_) from_ = .ok bs →
    State.endWrite { s with integ := { s.integ with turn := n + 1 } } bs (s.reg (dmaIdx n) 3 == 1) into = .ok t →
    c.half = true →
    c.len ≤ c.moved + e →
    exec (.dmaElement n .clean) s = .next ((((t.set (dmaIdx n) 9 (c.moved + e)).setCur n (some { c with moved := c.moved + e })).dmaFinish n 1).raise (81 + 3 * n) 0 c.seq).conclude)

/-- A window that closes below N counts as transient; a write of N or W closes it uncounted; a clear is refused while a cause is present or SELF is set and otherwise empties the records and leaves the safe state; command 2 enters it with cause 3. Rules: R372, R373, R374, R375, R379, R381, R382. Where the rules leave a choice, the model's choices of log entries 8, 11, 18, 19, 23, 62, 98 apply. -/
def Obligations.FaultCollector : Prop :=
  (∀ (s : State) (n : BitVec 8) (b : Bank),
    s.alive = true →
    s.ev.fstat 10 = false →
    s.ev.bank.get (wObj n.toNat 4) = 1 →
    s.ev.bank.get (wObj n.toNat 5) + s.ev.windowNs n.toNat ≤ s.clk.now →
    s.ev.bank.get (wObj n.toNat 6) < s.ev.bank.get (wObj n.toNat 1) →
    b = (s.ev.bump (wObj n.toNat 7)).bank →
    exec (.countingWindowClose n) s = .next ({ s with ev := { s.ev.bump (wObj n.toNat 7) with bank := (b.put (wObj n.toNat 4) 0).put (wObj n.toNat 6) 0 } }).conclude) ∧
  (∀ (s : State) (n : BitVec 8),
    s.alive = true →
    s.ev.fstat 10 = false →
    s.ev.bank.get (wObj n.toNat 4) = 1 →
    s.ev.bank.get (wObj n.toNat 5) + s.ev.windowNs n.toNat ≤ s.clk.now →
    s.ev.bank.get (wObj n.toNat 1) ≤ s.ev.bank.get (wObj n.toNat 6) →
    exec (.countingWindowClose n) s = .next ({ s with ev := { s.ev with bank := (s.ev.bank.put (wObj n.toNat 4) 0).put (wObj n.toNat 6) 0 } }).conclude) ∧
  (∀ (s u : State) (h : FopHead) (n : BitVec 8) (v : BitVec 32),
    s.Admits h 2 (obj (0x7900 + n.toNat) 1) →
    u = s.counted h →
    v.toNat ≤ 0xFFFF →
    (u.set (0x7900 + n.toNat) 1 v.toNat).reg (0x7900 + n.toNat) 4 = 1 →
    exec (.windowConfigurationWrite h n false v) s = .next ((((u.set (0x7900 + n.toNat) 1 v.toNat).set (0x7900 + n.toNat) 4 0).set (0x7900 + n.toNat) 6 0).fopReply h (s.ownAddr h.peer) 2 (obj (0x7900 + n.toNat) 1) St.ok []).conclude) ∧
  (∀ (s u : State) (h : FopHead) (n : BitVec 8) (v : BitVec 32),
    s.Admits h 2 (obj (0x7900 + n.toNat) 1) →
    u = s.counted h →
    v.toNat ≤ 0xFFFF →
    (u.set (0x7900 + n.toNat) 1 v.toNat).reg (0x7900 + n.toNat) 4 ≠ 1 →
    exec (.windowConfigurationWrite h n false v) s = .next ((u.set (0x7900 + n.toNat) 1 v.toNat).fopReply h (s.ownAddr h.peer) 2 (obj (0x7900 + n.toNat) 1) St.ok []).conclude) ∧
  (∀ (s u : State) (h : FopHead) (n : BitVec 8) (v : BitVec 32),
    s.Admits h 2 (obj (0x7900 + n.toNat) 2) →
    u = s.counted h →
    1 ≤ v.toNat →
    v.toNat ≤ 86400000 →
    (u.set (0x7900 + n.toNat) 2 v.toNat).reg (0x7900 + n.toNat) 4 = 1 →
    exec (.windowConfigurationWrite h n true v) s = .next ((((u.set (0x7900 + n.toNat) 2 v.toNat).set (0x7900 + n.toNat) 4 0).set (0x7900 + n.toNat) 6 0).fopReply h (s.ownAddr h.peer) 2 (obj (0x7900 + n.toNat) 2) St.ok []).conclude) ∧
  (∀ (s u : State) (h : FopHead) (n : BitVec 8) (v : BitVec 32),
    s.Admits h 2 (obj (0x7900 + n.toNat) 2) →
    u = s.counted h →
    1 ≤ v.toNat →
    v.toNat ≤ 86400000 →
    (u.set (0x7900 + n.toNat) 2 v.toNat).reg (0x7900 + n.toNat) 4 ≠ 1 →
    exec (.windowConfigurationWrite h n true v) s = .next ((u.set (0x7900 + n.toNat) 2 v.toNat).fopReply h (s.ownAddr h.peer) 2 (obj (0x7900 + n.toNat) 2) St.ok []).conclude) ∧
  (∀ (s u : State) (h : FopHead) (x y : State),
    s.Admits h 2 (obj 0x7800 2) →
    u = s.counted h →
    u.reg 0x7800 4 = 0 →
    u.ev.fstat 10 = false →
    x = ((u.setBytes 0x7801 0 0 (zeros 32)).setBytes 0x7802 0 0 (zeros 32)).set 0x7800 7 0 →
    (y = ([1, 2, 3, 8, 9, 11].foldl (fun s i => s.setFstat i false) x).set 0x7800 3 0) →
    exec (.faultClear h) s = .next ((if y.safe then y.leaveSafe else y).fopReply h (s.ownAddr h.peer) 2 (obj 0x7800 2) St.ok []).conclude) ∧
  (∀ (s u : State) (h : FopHead),
    s.Admits h 2 (obj 0x7800 2) →
    u = s.counted h →
    u.reg 0x7800 4 ≠ 0 →
    exec (.faultClear h) s = .next ((((u.set 0x7800 3 1).raise 250 0 (u.reg 0x7800 4)).causesAgain).fopReply h (s.ownAddr h.peer) 2 (obj 0x7800 2) St.refused []).conclude) ∧
  (∀ (s u : State) (h : FopHead),
    s.Admits h 2 (obj 0x7800 2) →
    u = s.counted h →
    u.reg 0x7800 4 = 0 →
    u.ev.fstat 10 = true →
    exec (.faultClear h) s = .next ((u.set 0x7800 3 2).fopReply h (s.ownAddr h.peer) 2 (obj 0x7800 2) St.refused []).conclude) ∧
  (∀ (s u : State) (h : FopHead) (v : State),
    s.Admits h 2 (obj 0x7800 2) →
    u = s.counted h →
    v = u.set 0x7800 3 0 →
    exec (.enterSafeState h) s = .next (State.fopReply { v with ev := v.ev.dueSafe 3 0xFF } h (s.ownAddr h.peer) 2 (obj 0x7800 2) St.ok []).conclude)

/-- A sample is kept and judged; the throttle ends after the hold; a droop lowers the factor to 12 and an interval raises it by one; a calibration run begins, and its result is applied or discarded. Rules: R394, R395, R396, R397, R398, R399, R400, R401, R402. Where the rules leave a choice, the model's choices of log entries 8, 36, 59, 61, 72, 87 apply. -/
def Obligations.TemperatureAndCalibration : Prop :=
  (∀ (s u v w : State) (readings l : List Int) (c : Fin 6) (on : List Nat) (rate : Nat → Int),
    s.alive = true →
    (l = (upTo 24).map fun i => clampInt (-32768) 32767 (readings.getD i 0)) →
    (on = (upTo 24).filter fun i => !bit (s.reg 0x0060 5) i) →
    (rate = fun i => s.rateOf l i) →
    (u = (s.setBytes 0x0061 0 0 (l.flatMap fun r => leBytes 2 (ofSigned 16 r))).setBytes 0x0060 8 0 ((upTo 24).flatMap fun i => leBytes 2 (ofSigned 16 (clampInt (-32768) 32767 (rate i))))) →
    (v = (upTo 24).foldl (fun t i => t.sensorCheck (s.reg 0x0060 5) l i) (((u.set 0x0060 7 (match hottest on l with | some i => ofSigned 16 (l.getD i 0) | none => u.reg 0x0060 7)).rateChecks on rate).criticalCheck on l).bandChecks) →
    (w = State.setReady { v with therm := { v.therm with hist := (l :: v.therm.hist).take 100 } } 37 (decide (16 ≤ ((upTo 24).countP fun i => !bit (v.reg 0x0060 5) i)))) →
    exec (.sensorSample readings c) s = .next (if c.val = 0 then w else { w with ev := w.ev.selfFault c.val }).conclude) ∧
  (∀ (s : State) (i : Nat),
    s.alive = true →
    s.therm.throttled = true →
    s.therm.lastWarm + s.reg 0x0060 3 * 1000000 ≤ s.clk.now →
    ((upTo 24).find? (fun i => !bit (s.reg 0x0060 5) i) = some i) →
    exec .throttleHoldExpiry s = .next (State.raiseAt { s with therm := { s.therm with throttled := false, restoring := true, thermAt := s.clk.now } } 8 2 (i + s.le 0x0060 8 (2 * i) 2 * 2 ^ 16) 7 6 0 0).conclude) ∧
  (∀ (s : State),
    s.alive = true →
    exec .droopDetection s = .next ((State.bump { s with therm := { s.therm with droopAt := s.clk.now } } 0x0050 4).factorTo 12 (s.reg 0x0060 9)).conclude) ∧
  (∀ (s u : State) (d r : Bool) (t : Nat),
    s.alive = true →
    d = (decide (s.therm.droop < 16) && s.intervalOver s.therm.droopAt) →
    r = (s.therm.restoring && s.intervalOver s.therm.thermAt) →
    (t = (if r = true then min 16 (s.reg 0x0060 9 + 1) else s.reg 0x0060 9)) →
    (u = { s with therm := { s.therm with restoring := s.therm.restoring && decide (t < 16), droopAt := if d = true then s.clk.now else s.therm.droopAt, thermAt := if r = true then s.clk.now else s.therm.thermAt } }) →
    exec .restoreInterval s = .next (u.factorTo (if d = true then s.therm.droop + 1 else s.therm.droop) t).conclude) ∧
  (∀ (s : State) (n : Fin 28),
    s.alive = true →
    (s.unitCalib n).running = false →
    n.val < 20 →
    s.linkWants n = true →
    exec (.calibrationRun n) s = .next (s.updCalib n fun c => { c with running := true }).conclude) ∧
  (∀ (s : State) (n : Fin 28),
    s.alive = true →
    (s.unitCalib n).running = false →
    20 ≤ n.val →
    s.tableWants (n.val - 20) = true →
    exec (.calibrationRun n) s = .next (s.updCalib n fun c => { c with running := true }).conclude) ∧
  (∀ (s : State) (n : Fin 28) (margin : BitVec 16) (load : BitVec 8) (i b : Nat),
    s.alive = true →
    (s.unitCalib n).running = true →
    n.val < 20 →
    i = linkSensor n →
    b = s.sensorBand i →
    s.reg 0x0070 0x0A ≤ margin.toNat →
    (s.unitCalib n).margin ≤ margin.toNat →
    exec (.calibrationComplete n margin load) s = .next ((s.calibTake n b margin.toNat).calibEnd n b load.toNat 0 (s.sensorTemp i)).conclude) ∧
  (∀ (s : State) (n : Fin 28) (margin : BitVec 16) (load : BitVec 8) (i b : Nat),
    s.alive = true →
    (s.unitCalib n).running = true →
    n.val < 20 →
    i = linkSensor n →
    b = s.sensorBand i →
    margin.toNat < s.reg 0x0070 0x0A →
    exec (.calibrationComplete n margin load) s = .next (s.calibEnd n b load.toNat 1 (s.sensorTemp i)).conclude) ∧
  (∀ (s : State) (n : Fin 28) (margin : BitVec 16) (load : BitVec 8) (m new : Int),
    s.alive = true →
    (s.unitCalib n).running = true →
    20 ≤ n.val →
    s.tableTemp (n.val - 20) = some m →
    new = clampInt (-32768) 32767 (m + toSigned 16 (s.le 0x0070 7 (2 * (n.val - 20)) 2)) →
    (new - toSigned 16 (s.tension (n.val - 20) 0 2)).natAbs ≤ s.reg 0x0070 6 →
    exec (.calibrationComplete n margin load) s = .next ((s.commitTables ((s.bytes 0x2862 0 0 640).take (48 * (n.val - 20)) ++ leBytes 2 (ofSigned 16 new) ++ (s.bytes 0x2862 0 0 640).drop (48 * (n.val - 20) + 2))).1.calibEnd n 0 load.toNat 0 m).conclude)

/-- POR_N low and a rail below its threshold hold the device; the release of the last of the two starts the ROM, with the straps and TEST_EN as sampled; watchdog, retry and boot timeout reset with cause 3; boot completes with E000; VBAT starts the AON domain empty. Rules: R405, R407, R408, R413, R414, R415, R457, R459, R461. Where the rules leave a choice, the model's choices of log entries 8, 39, 54, 56, 60, 75, 98, 107 apply. -/
def Obligations.ResetAndBoot : Prop :=
  (∀ (s h : State),
    h = s.hold →
    exec .porNLow s = .next (State.conclude { h with boot := { h.boot with porN := false } })) ∧
  (∀ (s : State),
    s.boot.phase ≠ .deep →
    exec .railUndervoltage s = .next (State.conclude { s.hold with boot := { s.hold.boot with railsOk := false } })) ∧
  (∀ (s r : State) (pins : ResetPins) (testEn : Bool),
    r = s.tapRun pins.low →
    s.boot.porN = false →
    s.aon.vbat = true →
    s.boot.railsOk = false →
    exec (.porNRelease pins testEn) s = .next (State.tapRun { r with boot := { r.boot with porN := true, straps := pins.straps, testEn := testEn }, aon := { r.aon with keepEn := true, mainEn := true } } pins.high).conclude) ∧
  (∀ (s r t : State) (pins : ResetPins) (testEn : Bool),
    r = s.tapRun pins.low →
    s.boot.porN = false →
    s.aon.vbat = true →
    s.boot.railsOk = true →
    s.boot.phase = .held →
    t = { r with boot := { r.boot with porN := true, straps := pins.straps, testEn := testEn, cause := 0 }, aon := { r.aon with keepEn := true, mainEn := true } } →
    exec (.porNRelease pins testEn) s = .next ((State.romBoot 4 t (if s.backupLost = true ∨ s.boot.cause = 0 then 1 else s.boot.cause) 0 (s.reg 0x8010 3)).tapRun pins.high).conclude) ∧
  (∀ (s t : State),
    s.aon.vbat = true →
    s.aon.mainEn = true →
    s.boot.railsOk = false →
    s.boot.porN = true →
    s.boot.phase = .held →
    t = { s with boot := { s.boot with railsOk := true, cause := 0 } } →
    exec .internalResetRelease s = .next (State.romBoot 4 t (if s.backupLost = true ∨ s.boot.cause = 0 then 1 else s.boot.cause) 0 (s.reg 0x8010 3)).conclude) ∧
  (∀ (s : State),
    s.aon.vbat = true →
    s.aon.mainEn = true →
    s.boot.railsOk = false →
    s.boot.porN = false →
    exec .internalResetRelease s = .next (State.conclude { s with boot := { s.boot with railsOk := true } })) ∧
  (∀ (s : State),
    s.aon.vbat = false →
    exec .vbatRise s = .next (State.conclude { s with aon := { vbat := true, keepEn := true, mainEn := true, backup := [], failed := 0 }, clk := { s.clk with lf := 0, lfRem := 0 }, boot := { s.boot with cause := 1 } })) ∧
  (∀ (s : State),
    s.alive = true →
    exec .watchdogExpiry s = .next (State.romBoot 4 s.abandonFlash 3 0 s.abandonShown).conclude) ∧
  (∀ (s : State),
    s.boot.phase = .romWait →
    s.boot.started + 1000000000 ≤ s.clk.now →
    exec .bootRetry s = .next (State.romBoot 4 s.abandonFlash 3 0 s.abandonShown).conclude) ∧
  (∀ (s : State),
    s.boot.phase = .boot →
    s.boot.started + 20000000000 ≤ s.clk.now →
    exec .bootTimeout s = .next (State.romBoot 4 s.abandonFlash 3 0 s.abandonShown).conclude) ∧
  (∀ (s t : State),
    s.boot.phase = .boot →
    s.boot.other = false →
    t = { s with boot := { s.boot with phase := .run, other := false }, aon := { s.aon with failed := 0 } } →
    exec .bootComplete s = .next ((t.set 0x8000 4 s.aon.failed).raise 0 0 (s.reg 0x8001 1 + s.reg 0x8000 3 * 2 ^ 32 + s.aon.failed * 2 ^ 40)).conclude) ∧
  (∀ (s t : State),
    s.boot.phase = .boot →
    s.boot.other = true →
    t = State.raise (State.set { s with boot := { s.boot with phase := .run, other := false }, aon := { s.aon with failed := 0 } } 0x8000 4 s.aon.failed) 0 0 (s.reg 0x8001 1 + s.reg 0x8000 3 * 2 ^ 32 + s.aon.failed * 2 ^ 40) →
    exec .bootComplete s = .next (((t.slotTo 1 (1 - s.reg 0x8000 7) 5 14).dirEdit 1 [(1, leBytes 1 (s.reg 0x8000 7))]).fwEvent 6 1 14 (s.reg 0x8001 1)).conclude) ∧
  (∀ (s u : State) (h : FopHead) (v : State),
    s.Admits h 2 (obj 0x8000 5) →
    u = s.counted h →
    u.pagesActive = false →
    v = u.set 0x8000 6 0 →
    exec (.resetCommand h) s = .next (State.fopReply { v with boot := { v.boot with due := .reset 5 } } h (s.ownAddr h.peer) 2 (obj 0x8000 5) St.ok []).conclude) ∧
  (∀ (s u : State) (h : FopHead),
    s.Admits h 2 (obj 0x8000 5) →
    u = s.counted h →
    u.pagesActive = true →
    exec (.resetCommand h) s = .next ((u.set 0x8000 6 1).fopReply h (s.ownAddr h.peer) 2 (obj 0x8000 5) St.refused []).conclude)

/-- VERIFY starts the checks, which end in VERIFIED or in IDLE with a code; INSTALL, ACTIVATE, REVERT and ABORT move the service; the activation boundary makes the slot TRIAL, its self-check confirms or rejects it. Rules: R416, R418, R419, R421, R422, R424. Where the rules leave a choice, the model's choices of log entries 8, 57, 63, 98, 111 apply. -/
def Obligations.FirmwareUpdate : Prop :=
  (∀ (s u : State) (h : FopHead),
    s.Admits h 2 (obj 0x8010 1) →
    u = s.counted h →
    u.updState = 0 →
    exec (.updateVerify h) s = .next (((State.set { u with update := ⟨[], [], 0, 0, 0, [], false⟩ } 0x8010 7 0).updTo 1 0 0).fopReply h (s.ownAddr h.peer) 2 (obj 0x8010 1) St.ok []).conclude) ∧
  (∀ (s : State) (e : Nat),
    s.alive = true →
    s.updState = 1 →
    s.containerCheck s.staged = .error e →
    exec .updateChecksComplete s = .next (s.updTo 0 0 e).conclude) ∧
  (∀ (s : State),
    s.alive = true →
    s.updState = 1 →
    exec .updateChecksComplete s = .next (State.conclude (match s.containerCheck s.staged with
        | .error e => s.updTo 0 0 e
        | .ok image => (((State.set { s with update := ⟨s.staged.take 256, image, leAt (s.staged.take 256) 6 1, 0, 0, [], false⟩ } 0x8010 5 (leAt (s.staged.take 256) 6 1)).set 0x8010 6 (leAt (s.staged.take 256) 8 4)).set 0x8010 7 image.length).updTo 2 1 0))) ∧
  (∀ (s u : State) (h : FopHead) (c slot : Nat) (v : State),
    s.Admits h 2 (obj 0x8010 1) →
    u = s.counted h →
    u.updState = 2 →
    c = u.update.comp →
    u.slotState c (u.runSlot c) ≠ 2 →
    u.slotState c (u.runSlot c) ≠ 3 →
    slot = 1 - u.activeSlot c →
    v = { u.slotTo c slot 0 0 with update := { u.update with slot := slot } } →
    exec (.updateInstall h) s = .next (((v.set 0x8010 7 0).updTo 3 0 0).fopReply h (s.ownAddr h.peer) 2 (obj 0x8010 1) St.ok []).conclude) ∧
  (∀ (s : State),
    s.alive = true →
    s.updState = 3 →
    s.dmaClaimed = true →
    exec (.installReadbackComplete true) s = .next (((s.slotFill s.update.comp s.update.slot 1 s.update.header s.update.image).set 0x8010 7 (256 + s.update.image.length)).updTo 4 2 0).conclude) ∧
  (∀ (s : State),
    s.alive = true →
    s.updState = 3 →
    s.dmaClaimed = true →
    exec (.installReadbackComplete false) s = .next (s.updTo 0 0 12).conclude) ∧
  (∀ (s u : State) (h : FopHead),
    s.Admits h 2 (obj 0x8010 1) →
    u = s.counted h →
    u.updState = 4 →
    u.update.comp ≠ 1 →
    exec (.updateActivate h) s = .next ((u.updTo 5 0 0).fopReply h (s.ownAddr h.peer) 2 (obj 0x8010 1) St.ok []).conclude) ∧
  (∀ (s u : State) (h : FopHead) (v w : State),
    s.Admits h 2 (obj 0x8010 1) →
    u = s.counted h →
    u.updState = 4 →
    u.update.comp = 1 →
    u.pagesActive = false →
    (([0, 1, 2, 3].any fun a => [2, 3, 4].contains (u.axisState a)) = false) →
    u.settingsBusy = false →
    v = u.dirEdit 1 [(1, leBytes 1 u.update.slot), (2 + u.update.slot, [2]), (20 + u.update.slot, [0])] →
    w = v.set 0x8010 3 0 →
    exec (.updateActivate h) s = .next (State.fopReply { w with boot := { v.boot with due := .reset 4 } } h (s.ownAddr h.peer) 2 (obj 0x8010 1) St.ok []).conclude) ∧
  (∀ (s v w : State) (n : Update),
    s.alive = true →
    s.updState = 5 →
    s.atBoundary s.update.comp = true →
    n = s.update →
    v = s.dirEdit n.comp [(1, leBytes 1 n.slot), (2 + n.slot, [2]), (20 + n.slot, [0])] →
    w = v.set 0x8001 n.comp (leAt n.header 8 4) →
    exec .activationBoundary s = .next (State.updTo { w with update := { n with trial := s.clk.now, served := (servedBits n.comp).filter s.ready } } 6 3 0).conclude) ∧
  (∀ (s : State),
    s.alive = true →
    s.updState = 6 →
    s.update.failing = true →
    s.atBoundary s.update.comp = true →
    exec .activationBoundary s = .next (s.updBack).conclude) ∧
  (∀ (s : State),
    s.alive = true →
    s.updState = 6 →
    s.update.failing = false →
    s.clk.now ≤ s.update.trial + 1000000000 →
    s.update.served.all s.ready = true →
    exec (.trialSelfCheck true) s = .next ((s.slotTo s.update.comp s.update.slot 4 0).updTo 0 4 0).conclude) ∧
  (∀ (s : State) (old : Nat) (n : Update),
    s.alive = true →
    s.updState = 6 →
    s.update.failing = false →
    s.atBoundary s.update.comp = true →
    n = s.update →
    old = leAt (s.slotHeader n.comp (1 - n.slot)) 8 4 →
    exec (.trialSelfCheck false) s = .next ((((((s.slotTo n.comp n.slot 5 15).dirEdit n.comp [(1, leBytes 1 (1 - n.slot))]).set 0x8001 n.comp old).updTo 0 5 15).fwEvent 6 n.comp 15 old)).conclude) ∧
  (∀ (s : State),
    s.alive = true →
    s.updState = 6 →
    s.update.failing = false →
    s.atBoundary s.update.comp = false →
    exec (.trialSelfCheck false) s = .next ({ s with update := { s.update with failing := true } }).conclude) ∧
  (∀ (s u : State) (h : FopHead) (c slot : Nat) (v : State) (r : State × Bool),
    s.Admits h 2 (obj 0x8010 1) →
    u = s.counted h →
    u.updState = 0 →
    c = u.reg 0x8010 8 →
    slot = 1 - u.activeSlot c →
    v = { u with update := ⟨u.slotHeader c slot, [], c, slot, 0, [], false⟩ } →
    (r = (if (u.slotSound c slot && u.slotVerifies c slot && u.compatibleWith c (u.slotHeader c slot)) = true then (if v.updGo.2 = true then v.updGo else u.updResult 2) else u.updResult 17)) →
    exec (.updateRevert h) s = .next (r.1.fopReply h (s.ownAddr h.peer) 2 (obj 0x8010 1) (if r.2 = true then St.ok else St.refused) []).conclude) ∧
  (∀ (s u : State) (h : FopHead),
    s.Admits h 2 (obj 0x8010 1) →
    u = s.counted h →
    u.updState = 2 →
    exec (.updateAbort h) s = .next ((u.updTo 0 0 0).fopReply h (s.ownAddr h.peer) 2 (obj 0x8010 1) St.ok []).conclude) ∧
  (∀ (s u : State) (h : FopHead),
    s.Admits h 2 (obj 0x8010 1) →
    u = s.counted h →
    u.updState = 4 →
    exec (.updateAbort h) s = .next (((u.slotTo u.update.comp u.update.slot 0 0).updTo 0 0 0).fopReply h (s.ownAddr h.peer) 2 (obj 0x8010 1) St.ok []).conclude)

/-- A write request opens a transfer and is acknowledged; a block is kept and acknowledged, the last one checked and written; an answer is sent again after 1 s; the UART opens, takes data in order, closes with the check, and ends recovery. Rules: R425, R426, R427. Where the rules leave a choice, the model's choices of log entries 8, 9, 57, 58 apply. -/
def Obligations.RomRecovery : Prop :=
  (∀ (s t : State) (p : Peer) (name : Bytes) (n : Nat),
    s.recovers false = true →
    s.recovery.peer = none →
    recoveryName name = some n →
    t = { s with recovery := { s.recovery with peer := some p, name := n, data := [], block := 1 } } →
    exec (.tftpWrq p name true false) s = .next (t.tftpAck p 0).conclude) ∧
  (∀ (s : State) (p : Peer) (name : Bytes) (octet : Bool),
    s.recovers false = true →
    exec (.tftpWrq p name octet true) s = .next (s.tftpNo p 2 []).conclude) ∧
  (∀ (s : State) (p q : Peer) (name : Bytes) (octet : Bool),
    s.recovers false = true →
    s.recovery.peer = some q →
    exec (.tftpWrq p name octet false) s = .next (s.tftpNo p 0 (ascii "BUSY")).conclude) ∧
  (∀ (s t : State) (p : Peer) (n : BitVec 16) (d : Bytes),
    s.recovers false = true →
    s.recovery.peer = some p →
    s.recovery.block = n.toNat →
    d.length = 512 →
    s.recovery.data.length + d.length ≤ fileRoom s.recovery.name →
    t = { s with recovery := { s.recovery with data := s.recovery.data ++ d, block := wrapAdd 16 n.toNat 1 } } →
    exec (.tftpData p n d) s = .next (t.tftpAck p n.toNat).conclude) ∧
  (∀ (s t : State) (p : Peer) (n : BitVec 16) (d : Bytes),
    s.recovers false = true →
    s.recovery.peer = some p →
    s.recovery.block = n.toNat →
    d.length < 512 →
    s.recovery.name = 5 →
    s.recovery.data.length + d.length ≤ fileRoom s.recovery.name →
    t = { s with recovery := { s.recovery with data := s.recovery.data ++ d, block := wrapAdd 16 n.toNat 1 } } →
    exec (.tftpData p n d) s = .next ((t.tftpAck p n.toNat).tftpClose.recoveryEnd).conclude) ∧
  (∀ (s t : State) (p : Peer) (n : BitVec 16) (d : Bytes) (code : Nat),
    s.recovers false = true →
    s.recovery.peer = some p →
    s.recovery.block = n.toNat →
    d.length < 512 →
    s.recovery.name ≠ 5 →
    s.recovery.data.length + d.length ≤ fileRoom s.recovery.name →
    t = { s with recovery := { s.recovery with data := s.recovery.data ++ d, block := wrapAdd 16 n.toNat 1 } } →
    code = recoveryCode t.recovery.name t.recovery.data →
    exec (.tftpData p n d) s = .next (State.conclude (if code = 0 then ((t.recoveryWrite t.recovery.data).tftpAck p n.toNat).tftpClose else (t.tftpNo p 0 (ascii "KYD" ++ decimal code)).tftpClose))) ∧
  (∀ (s v : State) (p : Peer),
    s.recovers false = true →
    s.recovery.peer = some p →
    s.recovery.sent + 1000000000 ≤ s.clk.now →
    s.recovery.sends < 5 →
    v = s.tftpAck p ((s.recovery.block + 65535) % 65536) →
    exec .tftpRetransmit s = .next (State.conclude { v with recovery := { v.recovery with sends := s.recovery.sends + 1 } })) ∧
  (∀ (s : State) (p : Peer),
    s.recovers false = true →
    s.recovery.peer = some p →
    s.recovery.sent + 1000000000 ≤ s.clk.now →
    5 ≤ s.recovery.sends →
    exec .tftpRetransmit s = .next s.tftpClose.conclude) ∧
  (∀ (s t : State) (f : UartFrame) (n : Nat),
    s.recovers true = true →
    f.good = true →
    recoveryName f.body = some n →
    t = { s with recovery := { s.recovery with uart := some n, data := [] } } →
    exec (.uartOpen f) s = .next (t.uartAnswer 1 0 0).conclude) ∧
  (∀ (s : State) (f : UartFrame),
    s.recovers true = true →
    f.good = true →
    recoveryName f.body = none →
    exec (.uartOpen f) s = .next (s.uartAnswer 1 1 0).conclude) ∧
  (∀ (s t : State) (f : UartFrame) (n : Nat) (d : Bytes),
    s.recovers true = true →
    f.good = true →
    s.recovery.uart = some n →
    f.body = leBytes 4 s.recovery.data.length ++ d →
    s.recovery.data.length < 2 ^ 32 →
    1 ≤ d.length →
    d.length ≤ 1024 →
    s.recovery.data.length + d.length ≤ fileRoom n →
    t = { s with recovery := { s.recovery with data := s.recovery.data ++ d } } →
    exec (.uartData f) s = .next (t.uartAnswer 2 0 0).conclude) ∧
  (∀ (s : State) (f : UartFrame),
    s.recovers true = true →
    f.good = true →
    s.recovery.uart = none →
    exec (.uartData f) s = .next (s.uartAnswer 2 2 0).conclude) ∧
  (∀ (s v : State) (f : UartFrame),
    s.recovers true = true →
    f.good = true →
    s.recovery.uart = some 5 →
    f.body.length = 4 →
    leAt f.body 0 4 = s.recovery.data.length →
    v = s.uartAnswer 3 0 0 →
    exec (.uartClose f) s = .next (State.recoveryEnd { v with recovery := { v.recovery with uart := none } }).conclude) ∧
  (∀ (s v : State) (f : UartFrame) (n : Nat),
    s.recovers true = true →
    f.good = true →
    s.recovery.uart = some n →
    n ≠ 5 →
    f.body.length = 4 →
    leAt f.body 0 4 = s.recovery.data.length →
    (v = (if recoveryCode n s.recovery.data = 0 then (s.recoveryWrite s.recovery.data).uartAnswer 3 0 0 else s.uartAnswer 3 4 (recoveryCode n s.recovery.data))) →
    exec (.uartClose f) s = .next (State.conclude { v with recovery := { v.recovery with uart := none } })) ∧
  (∀ (s : State) (f : UartFrame),
    s.recovers true = true →
    f.good = true →
    exec (.uartReset f) s = .next ((s.uartAnswer 4 0 0).recoveryEnd).conclude)

/-- SURGENT is forwarded, heard and judged; a member silent for 100 µs is missing; the master sends SURGENT, SPOS, STIME and POS_FULL when due; a follower locks and loses board time and position. Rules: R434, R435, R436, R437, R438, R439, R440, R447, R448. Where the rules leave a choice, the model's choices of log entries 8, 47, 48, 62, 63, 64, 66, 69 apply. -/
def Obligations.BoardRing : Prop :=
  (∀ (s v w x : State) (k : Fin 4) (o : SeamHead),
    s.alive = true →
    s.seamTakes k o.origin = true →
    v = s.forward k o.hops [0, 1, 2, 3] (leBytes 1 0xF0 ++ leBytes 1 (hopByte o.origin o.hops o.valid) ++ zeros 6) →
    w = { v with board := { v.board with heard := sset 0 v.board.heard o.origin (v.clk.now + 1), missing := setBit v.board.missing o.origin false } } →
    (x = (if bit v.board.missing o.origin = true then w.raise 71 0 (w.presentMap + 2 * 256) else w)) →
    exec (.surgent k o) s = .next (State.conclude (if (o.valid && !bit x.board.peerSafe o.origin) = true then State.peerFault { x with board := { x.board with peerSafe := setBit x.board.peerSafe o.origin o.valid } } o.origin false else State.peerCause { x with board := { x.board with peerSafe := setBit x.board.peerSafe o.origin o.valid } }))) ∧
  (∀ (s : State),
    s.alive = true →
    s.sendDue 0 10000 = true →
    s.ring = true →
    exec .surgentSend s = .next ((s.seamSend [0, 1, 2, 3] (leBytes 1 0xF0 ++ leBytes 1 (s.seamByte (s.safe && !s.board.peerOnly)) ++ zeros 6)).sentNow 0).conclude) ∧
  (∀ (s v w : State) (d : Fin 8) (h : Nat),
    s.alive = true →
    s.ring = true →
    d.val < s.members →
    d.val ≠ s.own →
    bit s.board.missing d = false →
    h = sget 0 s.board.heard d →
    ((if h = 0 then s.boot.started else h - 1) + 100000 ≤ s.clk.now) →
    v = { s with board := { s.board with missing := setBit s.board.missing d true } } →
    (w = v.raise 71 0 ((if bit v.presentMap d = true then v.presentMap - 2 ^ d.val else v.presentMap) + 256)) →
    exec (.missingMember d) s = .next (State.conclude (if (w.flag 0x8800 6 && !bit w.board.peerSafe d) = true then w.peerFault d true else w.peerCause))) ∧
  (∀ (s v w x : State) (k : Fin 4) (o : SeamHead) (count at_ : BitVec 24) (c t c0 t0 : Int),
    s.alive = true →
    s.seamTakes k o.origin = true →
    v = s.forward k o.hops [0] (leBytes 1 0xC3 ++ leBytes 1 (hopByte o.origin o.hops o.valid) ++ leBytes 3 count.toNat ++ leBytes 3 at_.toNat) →
    v.follows o.origin = true →
    v.board.spos = none →
    v.board.sposPort = 0 →
    c0 = v.pos.src →
    t0 = v.boardTime →
    c = nearest c0 24 count.toNat →
    t = nearest t0 24 at_.toNat →
    v.boardTime < t + (v.reg 0x8810 1 : Int) →
    o.valid = true →
    w = { v with board := { v.board with spos := some (c, t.toNat), sposPort := k + 1, sposAt := v.clk.now, sposRun := v.board.sposRun + 1 }, pos := { v.pos with future := v.pos.future ++ spread c0 c (t0 + (v.reg 0x8810 1 : Int) - v.offset) (t + (v.reg 0x8810 1 : Int) - v.offset) } } →
    x = w.posLock →
    exec (.spos k o count at_) s = .next (x).conclude) ∧
  (∀ (s : State) (c : Int) (t : Nat),
    s.alive = true →
    s.master = true →
    s.sendDue 1 (16 * s.ringBlock) = true →
    s.latestCount = (c, t) →
    exec .sposSend s = .next ((s.seamSend [0] (leBytes 1 0xC3 ++ leBytes 1 (s.seamByte s.pos.posOk) ++ leBytes 3 (ofSigned 24 c) ++ leBytes 3 t)).sentNow 1).conclude) ∧
  (∀ (s : State) (k : Fin 4) (o : SeamHead) (g : SeamMsg),
    s.alive = true →
    s.seamTakes k o.origin = true →
    g.good = true →
    s.board.seen.contains (o.origin.val, g.seq.toNat) = false →
    g.target = 0xFF →
    ∃ x y : State, x = s.forward k o.hops [g.lane.val] (leBytes 1 0xD2 ++ leBytes 1 (hopByte o.origin o.hops false) ++ (leBytes 1 g.seq.toNat ++ leBytes 1 1 ++ leBytes 1 g.target.toNat ++ leBytes 1 (ceilDiv g.body.length 8) ++ leBytes 1 g.count.toNat) ++ [0] ++ fit (8 * ceilDiv g.body.length 8) g.body
          ++ leBytes 1 0xE1 ++ leBytes 1 (hopByte o.origin o.hops false) ++ leBytes 1 g.seq.toNat ++ [0] ++ leBytes 4 (crc32c (fit (8 * ceilDiv g.body.length 8) g.body ++ (leBytes 1 g.seq.toNat ++ leBytes 1 1 ++ leBytes 1 g.target.toNat ++ leBytes 1 (ceilDiv g.body.length 8) ++ leBytes 1 g.count.toNat)))) ∧
        y = { x with board := { x.board with seen := (o.origin.val, g.seq.toNat) :: (x.board.seen.filter fun e => e.1 == o.origin.val).take 63 ++ x.board.seen.filter fun e => e.1 != o.origin.val } } ∧
        exec (.posFull k o g) s = .next (y.posFullIn o.origin g.body).conclude) ∧
  (∀ (s : State),
    s.alive = true →
    s.master = true →
    s.sendDue 3 10000000 = true →
    exec .posFullSend s = .next ((s.smsg 1 0xFF 0 s.posFull).sentNow 3).conclude) ∧
  (∀ (s v : State) (k : Fin 4) (o : SeamHead) (at_ : BitVec 48) (m : Int),
    s.alive = true →
    s.seamTakes k o.origin = true →
    m = nearest s.boardTime 48 at_.toNat + (s.seamLatency k : Int) →
    (v = s.forward k o.hops [0] (leBytes 1 0xCC ++ leBytes 1 (hopByte o.origin o.hops false) ++ leBytes 6 ((if s.follower && s.flag 0x8810 5 then s.boardTime else m) + (2 * s.ringBlock / 10 : Nat)).toNat)) →
    v.follower = true →
    o.origin.val = v.reg 0x8800 4 →
    v.reg 0x1000 5 = 1 →
    v.board.stimePort = 0 →
    exec (.stime k o at_) s = .next (State.stimeLock { v with board := { v.board with stimePort := k + 1 } } m).conclude) ∧
  (∀ (s : State),
    s.alive = true →
    s.master = true →
    s.sendDue 2 (64 * s.ringBlock) = true →
    exec .stimeSend s = .next ((s.seamSend [0] (leBytes 1 0xCC ++ leBytes 1 (s.seamByte false) ++ leBytes 6 s.clk.now)).sentNow 2).conclude) ∧
  (∀ (s v w : State) (t m : Nat),
    s.alive = true →
    s.flag 0x8810 5 = true →
    s.board.stime = some (t, m) →
    t + 10000 ≤ s.clk.now →
    v = s.set 0x8810 5 0 →
    w = { v with board := { s.board with stimes := 0, stime := none, stimePort := 0 } } →
    exec .stimeLoss s = .next ((if w.reg 0x1000 5 = 1 then w.steerTo 0 else w).boardLock 2 1).conclude) ∧
  (∀ (s : State),
    s.alive = true →
    s.follower = true →
    s.reg 0x2800 2 = 2 →
    s.board.sposAt + 128 * s.ringBlock / 10 ≤ s.clk.now →
    exec .sposGap s = .next (s.posUnlock 1).conclude) ∧
  (∀ (s : State) (k : Fin 4) (o : SeamHead) (g : SeamMsg),
    s.alive = true →
    s.seamTakes k o.origin = true →
    g.good = true →
    s.board.seen.contains (o.origin.val, g.seq.toNat) = false →
    g.target = 0xFF →
    ∃ x y : State, x = s.forward k o.hops [g.lane.val] (leBytes 1 0xD2 ++ leBytes 1 (hopByte o.origin o.hops false) ++ (leBytes 1 g.seq.toNat ++ leBytes 1 7 ++ leBytes 1 g.target.toNat ++ leBytes 1 (ceilDiv g.body.length 8) ++ leBytes 1 g.count.toNat) ++ [0] ++ fit (8 * ceilDiv g.body.length 8) g.body
          ++ leBytes 1 0xE1 ++ leBytes 1 (hopByte o.origin o.hops false) ++ leBytes 1 g.seq.toNat ++ [0] ++ leBytes 4 (crc32c (fit (8 * ceilDiv g.body.length 8) g.body ++ (leBytes 1 g.seq.toNat ++ leBytes 1 7 ++ leBytes 1 g.target.toNat ++ leBytes 1 (ceilDiv g.body.length 8) ++ leBytes 1 g.count.toNat)))) ∧
        y = { x with board := { x.board with seen := (o.origin.val, g.seq.toNat) :: (x.board.seen.filter fun e => e.1 == o.origin.val).take 63 ++ x.board.seen.filter fun e => e.1 != o.origin.val } } ∧
        exec (.rebase k o g) s = .next (y.rebaseIn o.origin g.body).conclude) ∧
  (∀ (s : State) (e : Nat) (b : Int) (t : Nat),
    s.alive = true →
    s.board.rebase = some (e, b, t) →
    (t : Int) ≤ s.boardTime →
    exec .rebaseApply s = .next (State.rebaseTo { s with board := { s.board with rebase := none } } e (if s.isMaster = true then b else b + s.offset)).conclude)

/-- The master opens a barrier for its next page and times it out; messages of SMSG are forwarded and acted on once; a USER frame is sent and received. Rules: R442, R443, R444, R445, R446, R450, R451. Where the rules leave a choice, the model's choices of log entries 8, 63, 65, 72, 76, 98 apply. -/
def Obligations.ReleaseBarrierAndMessages : Prop :=
  (∀ (s v : State) (p : Page) (q : Nat),
    s.alive = true →
    s.board.reopen = none →
    s.master = true →
    s.board.barrier = none →
    s.nextRelease = some p →
    s.releasable p = true →
    q = (s.startOf p.num).1 →
    v = s.smsg 2 0xFF 0 (leBytes 4 p.id ++ leBytes 4 p.len ++ leBytes 4 p.reps ++ leBytes 4 p.gap ++ leBytes 8 q) →
    exec .barrierStart s = .next (State.set { v with board := { v.board with barrier := some ⟨p.id, p.len, p.reps, p.gap, q, p.num, 2 ^ s.own, s.clk.now⟩ } } 0x8830 2 1).conclude) ∧
  (∀ (s : State) (k : Fin 4) (o : SeamHead) (g : SeamMsg),
    s.alive = true →
    s.seamTakes k o.origin = true →
    g.good = true →
    s.board.seen.contains (o.origin.val, g.seq.toNat) = false →
    g.target = 0xFF →
    ∃ x y : State, x = s.forward k o.hops [g.lane.val] (leBytes 1 0xD2 ++ leBytes 1 (hopByte o.origin o.hops false) ++ (leBytes 1 g.seq.toNat ++ leBytes 1 2 ++ leBytes 1 g.target.toNat ++ leBytes 1 (ceilDiv g.body.length 8) ++ leBytes 1 g.count.toNat) ++ [0] ++ fit (8 * ceilDiv g.body.length 8) g.body
          ++ leBytes 1 0xE1 ++ leBytes 1 (hopByte o.origin o.hops false) ++ leBytes 1 g.seq.toNat ++ [0] ++ leBytes 4 (crc32c (fit (8 * ceilDiv g.body.length 8) g.body ++ (leBytes 1 g.seq.toNat ++ leBytes 1 2 ++ leBytes 1 g.target.toNat ++ leBytes 1 (ceilDiv g.body.length 8) ++ leBytes 1 g.count.toNat)))) ∧
        y = { x with board := { x.board with seen := (o.origin.val, g.seq.toNat) :: (x.board.seen.filter fun e => e.1 == o.origin.val).take 63 ++ x.board.seen.filter fun e => e.1 != o.origin.val } } ∧
        exec (.barrierOpen k o g) s = .next (y.barrierOpen o.origin g.body).conclude) ∧
  (∀ (s : State) (k : Fin 4) (o : SeamHead) (g : SeamMsg),
    s.alive = true →
    s.seamTakes k o.origin = true →
    g.good = true →
    s.board.seen.contains (o.origin.val, g.seq.toNat) = false →
    g.target = 0xFF →
    ∃ x y : State, x = s.forward k o.hops [g.lane.val] (leBytes 1 0xD2 ++ leBytes 1 (hopByte o.origin o.hops false) ++ (leBytes 1 g.seq.toNat ++ leBytes 1 3 ++ leBytes 1 g.target.toNat ++ leBytes 1 (ceilDiv g.body.length 8) ++ leBytes 1 g.count.toNat) ++ [0] ++ fit (8 * ceilDiv g.body.length 8) g.body
          ++ leBytes 1 0xE1 ++ leBytes 1 (hopByte o.origin o.hops false) ++ leBytes 1 g.seq.toNat ++ [0] ++ leBytes 4 (crc32c (fit (8 * ceilDiv g.body.length 8) g.body ++ (leBytes 1 g.seq.toNat ++ leBytes 1 3 ++ leBytes 1 g.target.toNat ++ leBytes 1 (ceilDiv g.body.length 8) ++ leBytes 1 g.count.toNat)))) ∧
        y = { x with board := { x.board with seen := (o.origin.val, g.seq.toNat) :: (x.board.seen.filter fun e => e.1 == o.origin.val).take 63 ++ x.board.seen.filter fun e => e.1 != o.origin.val } } ∧
        exec (.vote k o g) s = .next (y.voteIn o.origin g.body).conclude) ∧
  (∀ (s : State) (k : Fin 4) (o : SeamHead) (g : SeamMsg),
    s.alive = true →
    s.seamTakes k o.origin = true →
    g.good = true →
    s.board.seen.contains (o.origin.val, g.seq.toNat) = false →
    g.target = 0xFF →
    ∃ x y : State, x = s.forward k o.hops [g.lane.val] (leBytes 1 0xD2 ++ leBytes 1 (hopByte o.origin o.hops false) ++ (leBytes 1 g.seq.toNat ++ leBytes 1 4 ++ leBytes 1 g.target.toNat ++ leBytes 1 (ceilDiv g.body.length 8) ++ leBytes 1 g.count.toNat) ++ [0] ++ fit (8 * ceilDiv g.body.length 8) g.body
          ++ leBytes 1 0xE1 ++ leBytes 1 (hopByte o.origin o.hops false) ++ leBytes 1 g.seq.toNat ++ [0] ++ leBytes 4 (crc32c (fit (8 * ceilDiv g.body.length 8) g.body ++ (leBytes 1 g.seq.toNat ++ leBytes 1 4 ++ leBytes 1 g.target.toNat ++ leBytes 1 (ceilDiv g.body.length 8) ++ leBytes 1 g.count.toNat)))) ∧
        y = { x with board := { x.board with seen := (o.origin.val, g.seq.toNat) :: (x.board.seen.filter fun e => e.1 == o.origin.val).take 63 ++ x.board.seen.filter fun e => e.1 != o.origin.val } } ∧
        exec (.release k o g) s = .next (y.releaseIn o.origin g.body).conclude) ∧
  (∀ (s : State) (k : Fin 4) (o : SeamHead) (g : SeamMsg),
    s.alive = true →
    s.seamTakes k o.origin = true →
    g.good = true →
    s.board.seen.contains (o.origin.val, g.seq.toNat) = false →
    g.target = 0xFF →
    ∃ x y : State, x = s.forward k o.hops [g.lane.val] (leBytes 1 0xD2 ++ leBytes 1 (hopByte o.origin o.hops false) ++ (leBytes 1 g.seq.toNat ++ leBytes 1 5 ++ leBytes 1 g.target.toNat ++ leBytes 1 (ceilDiv g.body.length 8) ++ leBytes 1 g.count.toNat) ++ [0] ++ fit (8 * ceilDiv g.body.length 8) g.body
          ++ leBytes 1 0xE1 ++ leBytes 1 (hopByte o.origin o.hops false) ++ leBytes 1 g.seq.toNat ++ [0] ++ leBytes 4 (crc32c (fit (8 * ceilDiv g.body.length 8) g.body ++ (leBytes 1 g.seq.toNat ++ leBytes 1 5 ++ leBytes 1 g.target.toNat ++ leBytes 1 (ceilDiv g.body.length 8) ++ leBytes 1 g.count.toNat)))) ∧
        y = { x with board := { x.board with seen := (o.origin.val, g.seq.toNat) :: (x.board.seen.filter fun e => e.1 == o.origin.val).take 63 ++ x.board.seen.filter fun e => e.1 != o.origin.val } } ∧
        exec (.frogMessage k o g) s = .next (y.frogIn o.origin g.body).conclude) ∧
  (∀ (s : State) (k : Fin 4) (o : SeamHead) (g : SeamMsg),
    s.alive = true →
    s.seamTakes k o.origin = true →
    g.good = true →
    s.board.seen.contains (o.origin.val, g.seq.toNat) = false →
    g.target = 0xFF →
    ∃ x y : State, x = s.forward k o.hops [g.lane.val] (leBytes 1 0xD2 ++ leBytes 1 (hopByte o.origin o.hops false) ++ (leBytes 1 g.seq.toNat ++ leBytes 1 6 ++ leBytes 1 g.target.toNat ++ leBytes 1 (ceilDiv g.body.length 8) ++ leBytes 1 g.count.toNat) ++ [0] ++ fit (8 * ceilDiv g.body.length 8) g.body
          ++ leBytes 1 0xE1 ++ leBytes 1 (hopByte o.origin o.hops false) ++ leBytes 1 g.seq.toNat ++ [0] ++ leBytes 4 (crc32c (fit (8 * ceilDiv g.body.length 8) g.body ++ (leBytes 1 g.seq.toNat ++ leBytes 1 6 ++ leBytes 1 g.target.toNat ++ leBytes 1 (ceilDiv g.body.length 8) ++ leBytes 1 g.count.toNat)))) ∧
        y = { x with board := { x.board with seen := (o.origin.val, g.seq.toNat) :: (x.board.seen.filter fun e => e.1 == o.origin.val).take 63 ++ x.board.seen.filter fun e => e.1 != o.origin.val } } ∧
        exec (.spoil k o g) s = .next (y.spoilIn g.body).conclude) ∧
  (∀ (s : State) (k : Fin 4) (o : SeamHead) (g : SeamMsg),
    s.alive = true →
    s.seamTakes k o.origin = true →
    g.good = true →
    s.board.seen.contains (o.origin.val, g.seq.toNat) = false →
    g.target = 0xFF →
    ∃ x y : State, x = s.forward k o.hops [g.lane.val] (leBytes 1 0xD2 ++ leBytes 1 (hopByte o.origin o.hops false) ++ (leBytes 1 g.seq.toNat ++ leBytes 1 8 ++ leBytes 1 g.target.toNat ++ leBytes 1 (ceilDiv g.body.length 8) ++ leBytes 1 g.count.toNat) ++ [0] ++ fit (8 * ceilDiv g.body.length 8) g.body
          ++ leBytes 1 0xE1 ++ leBytes 1 (hopByte o.origin o.hops false) ++ leBytes 1 g.seq.toNat ++ [0] ++ leBytes 4 (crc32c (fit (8 * ceilDiv g.body.length 8) g.body ++ (leBytes 1 g.seq.toNat ++ leBytes 1 8 ++ leBytes 1 g.target.toNat ++ leBytes 1 (ceilDiv g.body.length 8) ++ leBytes 1 g.count.toNat)))) ∧
        y = { x with board := { x.board with seen := (o.origin.val, g.seq.toNat) :: (x.board.seen.filter fun e => e.1 == o.origin.val).take 63 ++ x.board.seen.filter fun e => e.1 != o.origin.val } } ∧
        exec (.user k o g) s = .next (y.userIn o.origin g.count.toNat g.body).conclude) ∧
  (∀ (s : State) (b : Barrier),
    s.alive = true →
    s.board.barrier = some b →
    b.opened + s.reg 0x8830 1 * 1000000 ≤ s.clk.now →
    exec .barrierTimeout s = .next (s.barrierFail b 5 0).conclude) ∧
  (∀ (s : State) (t : Nat),
    s.alive = true →
    s.board.reopen = some t →
    t ≤ s.clk.now →
    exec .barrierReopenDelay s = .next (State.barrierStart { s with board := { s.board with reopen := none } }).conclude) ∧
  (∀ (s u : State) (h : FopHead) (n : BitVec 8),
    s.Admits h 2 (obj 0x8840 3) →
    u = s.counted h →
    1 < u.members →
    exec (.userSend h n) s = .next ((u.smsg 8 (u.reg 0x8840 1) n.toNat (u.bytes 0x8840 2 0 n.toNat)).fopReply h (s.ownAddr h.peer) 2 (obj 0x8840 3) St.ok []).conclude)

/-- A codec or cluster self-test sets its ready bit where what it needs is ready; the close of a test window returns the window to IDLE. Rules: R349, R414. Where the rules leave a choice, the model's choices of log entries 59, 71 apply. -/
def Obligations.BringUpTests : Prop :=
  (∀ (s : State),
    s.alive = true →
    s.ready 8 = true →
    exec (.functionSelfTestPassed .codec) s = .next ((s.setReady 9 true).feedEncoders).conclude) ∧
  (∀ (s : State) (c : Fin 4),
    s.alive = true →
    s.loaded 2 = true →
    s.ready 7 = true →
    s.unit (clusterUnit c) = 0 →
    exec (.functionSelfTestPassed (.cluster c)) s = .next (s.setReady (10 + c) true).conclude) ∧
  (∀ (s v : State),
    s.alive = true →
    s.reg 0xF000 4 = 3 →
    s.reg 0xF000 1 ≠ 0x0020 →
    s.reg 0xF000 1 ≠ 0x001B →
    v = s.set 0xF000 4 0 →
    exec .testWindowCloseComplete s = .next ({ v with integ := { s.integ with window := [] } }).conclude)

/-- For every state with a command c at the front of its queue, step is exec of c on the state with the rest of the queue. Rules: R13. The block interface: the queue is the model's (DESIGN CHOICE, log entry 4); R13 orders what commands do. -/
def Obligations.StepRunsTheFrontCommand : Prop :=
  (∀ (s : State) (c : Instr) (rest : List Instr),
    s.pending = c :: rest →
    step s = exec c { s with pending := rest })

/-- With an empty queue a step lets the time of the field idle pass: device time advances by RTCLK with its steering while the device runs, and the link lanes send what has come due in the order of R255; it advances by whole LFCLK periods in KEEP and DEEP, and stands in reset. How long an idle step takes is the model's choice (DESIGN CHOICE, log entry 4). Rules: R295, R303, R392. Where the rules leave a choice, the model's choices of log entries 52, 79 apply. -/
def Obligations.IdleStepLetsTimePass : Prop :=
  (∀ (s : State) (n : Nat),
    s.pending = [] →
    s.boot.phase = .run →
    s.aon.vbat = true →
    n = (s.idle * (1000000000 + s.i32 0x1000 4)).toNat + s.clk.frac →
    step s = .next { s with clk := { s.lfAfter s.idle with now := s.clk.now + n / 1000000000, frac := n % 1000000000 }, pos := { s.pos with gen := s.pos.gen + s.reg 0x2800 4 * (n / 1000000000) } }.lanesDue) ∧
  (∀ (s : State),
    s.pending = [] →
    s.boot.phase = .held →
    s.aon.vbat = true →
    step s = .next { s with clk := s.lfAfter s.idle }) ∧
  (∀ (s : State),
    s.pending = [] →
    (s.boot.phase = .deep ∨ s.boot.phase = .keep) →
    s.aon.vbat = true →
    step s = .next { s with clk := { s.lfAfter s.idle with now := s.clk.now + 30518 * ((s.clk.lfRem + s.idle) / 30518) } })

/-- The state after reset: an empty queue, held in reset with FAULT_N low, memories that list nothing, every value object of the dictionary at its Default, no sessions, pages, links, ports or transfers. Rules: R12, R461. Where the rules leave a choice, the model's choices of log entries 7 apply. -/
def Obligations.ResetLeavesTheDefaults : Prop :=
  ((∀ p ∈ objectPages, ∀ o ∈ p.2.2, ∀ i ∈ [0, o.count - 1], ∀ k ∈ [0, o.subs - 1], State.reset.reg (o.base + o.stride * i) (o.sub + k) = o.dflt)) ∧
  (State.reset.pending = [] ∧ State.reset.boot.phase = .held ∧ State.reset.faultN = false ∧ State.reset.safe = false ∧ State.reset.alive = false) ∧
  (State.reset.mem = [] ∧ State.reset.staging = [] ∧ State.reset.flash = [] ∧ State.reset.msp.sessions = [] ∧ State.reset.jobs.pages = [] ∧ State.reset.jobs.next = 1 ∧ State.reset.links = [] ∧ State.reset.ports = [] ∧ State.reset.fop = ⟨[], []⟩)

/-- For every command and state exec answers a next state: no fault, no refusal. Rules: R13, R36. -/
def Obligations.EveryCommandAnswers : Prop :=
  (∀ (c : Instr) (s : State),
    ∃ t : State, exec c s = .next t)

/-- With no occurrence raised, no safe-state entry due, no barrier open, no vote waiting, no page that has just become late, no decode under way or waiting, every segmented read marked or as its snapshot, and nothing owed, the end of a command is the state itself; so a quiet command leaves exactly what its effect says. Rules: R56, R62, R157, R202, R375, R443. Where the rules leave a choice, the model's choices of log entries 21, 65, 76 apply. -/
def Obligations.QuietEndChangesNothing : Prop :=
  (∀ (s : State),
    s.ev.occ = [] →
    s.ev.entry = 0 →
    s.board.barrier = none →
    s.board.vote = none →
    (s.starts.any (fun e => !e.1.st.active && !e.1.late && !e.2.2 && decide (e.2.1 ≤ s.row + s.margin)) = false) →
    s.render.decQueue = [] →
    s.render.decoders = [] →
    (s.fop.xfers.any (fun x => !x.isWrite && !x.changed && s.domRead (x.key / 256) (x.key % 256) 0 x.size != x.seen) = false) →
    s.boot.due = .none →
    s.conclude = s)

/-- A notice is only counted; SEV1 is counted and windowed; SEV2 to SEV4 are recorded too and set their status bit; SEV4 has the safe state entered; a test-origin occurrence is not collected. Rules: R368, R370, R372, R375, R382. -/
def Obligations.CollectorActsBySeverity : Prop :=
  (∀ (e : Ev) (o : Occ),
    o.test = false →
    e.started = true →
    e.fstat 10 = false →
    o.sev = 0 →
    e.collect o = e.countSev 0) ∧
  (∀ (e : Ev) (o : Occ),
    o.test = false →
    e.started = true →
    e.fstat 10 = false →
    o.sev = 1 →
    e.collect o = (e.countSev 1).windowCount o) ∧
  (∀ (e : Ev) (o : Occ),
    o.test = false →
    e.started = true →
    e.fstat 10 = false →
    o.sev = 2 →
    e.collect o = (((e.countSev 2).recordFault o).setFstat 3 true).windowCount o) ∧
  (∀ (e : Ev) (o : Occ),
    o.test = false →
    e.started = true →
    e.fstat 10 = false →
    o.sev = 3 →
    e.collect o = (((e.countSev 3).recordFault o).setFstat 2 true).windowCount o) ∧
  (∀ (e : Ev) (o : Occ),
    o.test = false →
    e.started = true →
    e.fstat 10 = false →
    o.sev = 4 →
    e.collect o = ((((e.countSev 4).recordFault o).setFstat 1 true).windowCount o).dueSafe (if o.lasting = true then 2 else 1) o.src) ∧
  (∀ (e : Ev) (o : Occ),
    o.test = true →
    e.collect o = e)

/-- While a page is RELEASED or PRINTING the reset command is refused with REFUSED and 0x8000:06 becomes 1; otherwise the reply is sent first, and the reset with cause 5 follows before the next command. Rules: R407. -/
def Obligations.ResetCommandAnswersFirst : Prop :=
  (∀ (s u : State) (h : FopHead),
    s.Admits h 2 (obj 0x8000 5) →
    u = s.counted h →
    u.pagesActive = true →
    exec (.resetCommand h) s = .next ((u.set 0x8000 6 1).fopReply h (s.ownAddr h.peer) 2 (obj 0x8000 5) St.refused []).conclude) ∧
  (∀ (s u : State) (h : FopHead) (v w : State),
    s.Admits h 2 (obj 0x8000 5) →
    u = s.counted h →
    u.pagesActive = false →
    v = u.set 0x8000 6 0 →
    w = State.settle (State.fopReply { v with boot := { v.boot with due := .reset 5 } } h (s.ownAddr h.peer) 2 (obj 0x8000 5) St.ok []) →
    exec (.resetCommand h) s = .next (State.settle (State.restart { w with boot := { w.boot with due := .none } } 5)))

/-- Seconds are floor(aligned / 10^9) mod 2^48 and nanoseconds aligned mod 10^9, also where aligned time is negative; 0x1002:01, :02 and :03 show them, and :03 holds both from one instant. Rules: R299. -/
def Obligations.ForerunnerView : Prop :=
  (∀ (s : State),
    (s.foreSec : Int) = s.aligned.fdiv 1000000000 % (2 ^ 48 : Int) ∧ (s.foreNs : Int) = s.aligned.fmod 1000000000 ∧ s.foreSec < 2 ^ 48 ∧ s.foreNs < 1000000000) ∧
  (∀ (s : State),
    s.value 0x1002 1 = s.foreSec ∧ s.value 0x1002 2 = s.foreNs ∧ s.domRead 0x1002 3 0 12 = leBytes 6 s.foreSec ++ leBytes 4 s.foreNs ++ leBytes 2 s.epoch)

/-- The prediction is the median edge predictor; the residual lies in its signed range; the mapped residual is 2e or −2e − 1; a decoder that adds s × e to P modulo 2^B gets the value back. Rules: R143. -/
def Obligations.MedianEdgePredictor : Prop :=
  (∀ (a b c d : Nat),
    (max a b ≤ c → Qtc.predict (a, b, c, d) = min a b) ∧ (c ≤ min a b → Qtc.predict (a, b, c, d) = max a b) ∧ (min a b < c → c < max a b → Qtc.predict (a, b, c, d) = (a : Int) + b - c)) ∧
  (∀ (p : Qtc.Par) (v : Nat) (pr g e : Int),
    1 ≤ p.b →
    v < 2 ^ p.b →
    0 ≤ pr →
    pr < (2 ^ p.b : Nat) →
    (g = 1 ∨ g = -1) →
    e = Qtc.residual p v pr g →
    -((2 ^ (p.b - 1) : Nat) : Int) ≤ e ∧ e < (2 ^ (p.b - 1) : Nat) ∧ (Qtc.mapRes e : Int) = (if 0 ≤ e then 2 * e else -2 * e - 1) ∧ Qtc.unmapRes (Qtc.mapRes e) = e ∧ ofSigned p.b (pr + g * e) = v)

/-- With base and remainder of Ys, the dose is 15 at base 15, else base + 1 where the remainder exceeds the array entry and base where not; the entry is the one at the jet's column and line under the phases. Rules: R175. -/
def Obligations.ThresholdScreen : Prop :=
  (∀ (r : Inputs) (plane x y ys idx t : Nat),
    idx = r.scr plane 4 + ((y + r.scr plane 8) % 2 ^ r.scr plane 6) * 2 ^ r.scr plane 5 + (x + r.scr plane 7) % 2 ^ r.scr plane 5 →
    t = leVal (r.bank.read (objAddr 0x4038 0 (2 * idx)) 2) % 2 ^ 12 →
    (ys / 2 ^ 12 = 15 → r.threshold plane x y ys = 15) ∧ (ys / 2 ^ 12 ≠ 15 → t < ys % 2 ^ 12 → r.threshold plane x y ys = ys / 2 ^ 12 + 1) ∧ (ys / 2 ^ 12 ≠ 15 → ys % 2 ^ 12 ≤ t → r.threshold plane x y ys = ys / 2 ^ 12))

/-- The bytes written read back, a byte outside them reads as before, and their parity is good again. Rules: R340, R342, R410. Where the rules leave a choice, the model's choices of log entries 26, 49 apply. -/
def Obligations.MemoriesHoldWhatIsWritten : Prop :=
  (∀ (s : State) (a : Nat) (d : Bytes),
    (s.memWrite a d).memRead a d.length = d ∧ (∀ b, (b < a ∨ a + d.length ≤ b) → (s.memWrite a d).memRead b 1 = s.memRead b 1) ∧ (∀ b, (b < a ∨ a + d.length ≤ b) → (s.memWrite a d).memBadIn b 1 = s.memBadIn b 1)) ∧
  (∀ (s : State) (a : Nat) (d : Bytes),
    (s.flashWrite a d).flashRead a d.length = d ∧ (∀ b, (b < a ∨ a + d.length ≤ b) → (s.flashWrite a d).flashRead b 1 = s.flashRead b 1))

/-- When PIPELINE_LINE works on line y of a page, none of the tiles it needs is lost and the tile cache does not lose one, every byte of DRAM outside the 8,192 bytes of each port-line of that line that the end of the strip finishes and the 128 bytes of its trailer reads as before. Rules: R163, R183, R198. Where the rules leave a choice, the model's choices of log entries 32 apply. -/
def Obligations.PipelineLineStoresOnlyItsLine : Prop :=
  (∀ (s t : State) (k : Fin 32) (waited : BitVec 32) (cache : Restored) (i : Nat) (jb : Job) (p : Page) (g : Gen) (n y b : Nat),
    s.boot.due = .none →
    s.stripJob k = some (i, jb, p) →
    s.genOf p.gen = some g →
    n = jb.stepOf k →
    y = jb.line p n →
    (((s.inputs p g).stripTiles k y).any (fun t => s.jobs.tileSt t == .lost) = false) →
    cache ≠ .lost →
    exec (.pipelineLine k waited cache) s = .next t →
    (∀ m ∈ g.finishes jb k (sset 0 jb.next k.val (jb.stepAfter p k n)) n, b < p.doseAddr y + 8192 * m ∨ p.doseAddr y + 8192 * m + 8192 ≤ b) →
    (b < p.trailerAddr y ∨ p.trailerAddr y + 128 ≤ b) →
    t.memRead b 1 = s.memRead b 1)

/-- A device producer writes slot PI mod N and advances PI; a full ring keeps every descriptor, counts the overflow and raises E253 once; an empty ring that took a whole descriptor of its queue and sequence gives it back unharmed. Rules: R69, R70, R71. -/
def Obligations.RingsAreFirstInFirstOut : Prop :=
  (∀ (e : Ev) (now epoch q : Nat) (mk : Nat → Bytes),
    Ring.active e q = true →
    Ring.held e q < Ring.size e q →
    e.ringPut now epoch q mk = (e.ringStore q (mk (e.bank.get (qObj q 2))), true)) ∧
  (∀ (e : Ev) (now epoch q : Nat) (mk : Nat → Bytes),
    Ring.active e q = true →
    Ring.size e q ≤ Ring.held e q →
    (e.ringPut now epoch q mk).2 = false ∧ (e.ringPut now epoch q mk).1.slots = e.slots ∧ (e.ringPut now epoch q mk).1.bank = e.bank.put (qObj q 6) (satAdd 32 (e.bank.get (qObj q 6)) 1) ∧
      (e.ringPut now epoch q mk).1.occ = (if sget false e.ringFull q = true then e.occ else e.occ ++ [Occ.plain 253 2 q now epoch])) ∧
  (∀ (e : Ev) (q pi : Nat) (d : Bytes),
    Ring.active e q = true →
    q < 256 →
    pi = e.bank.get (qObj q 2) →
    pi + 1 < 2 ^ 32 →
    e.bank.get (qObj q 3) = pi →
    d.length = 32 →
    leAt d 2 2 = q →
    leAt d 4 4 = pi →
    (e.ringStore q d).ringHead q = some (d, 0))

/-- Entering the safe state leaves the device in it, FAULT_N low, the entry cause in 0x7803:01 and the time in 0x7803:02. Rules: R375, R383, R468. Where the rules leave a choice, the model's choices of log entries 7, 23 apply. -/
def Obligations.SafeStateEntryShowsItself : Prop :=
  (∀ (s : State),
    s.ev.entry ≠ 0 →
    s.enterSafe.safe = true ∧ s.enterSafe.faultN = false ∧ s.enterSafe.reg 0x7803 1 = s.ev.entry ∧ (s.clk.now ≠ 0 → s.enterSafe.reg 0x7803 2 = s.clk.now))

/-- A command outside that list, with nothing owed before it, leaves the clock, the boot record, the idle time and the queue as they were. Rules: R295, R385, R405. -/
def Obligations.OnlyRestartsMoveClockAndBoot : Prop :=
  (∀ (c : Instr) (s t : State),
    mayRestart c = false →
    s.boot.due = .none →
    exec c s = .next t →
    t.clk = s.clk ∧ t.boot = s.boot ∧ t.idle = s.idle ∧ t.pending = s.pending)

/-- Any other command, with nothing owed before it, leaves every byte of flash, both settings copies, the record of the update service and that of recovery as they were. Rules: R38, R39, R411, R418. Where the rules leave a choice, the model's choices of log entries 49 apply. -/
def Obligations.OnlyUpdatesAndSettingsTouchFlash : Prop :=
  (∀ (c : Instr) (s t : State),
    mayRestart c = false →
    mayKeep c = false →
    s.boot.due = .none →
    exec c s = .next t →
    (∀ a n, t.flashRead a n = s.flashRead a n) ∧ t.copyA = s.copyA ∧ t.copyB = s.copyB ∧ t.update = s.update ∧ t.recovery = s.recovery)

/-- Any command outside those of page rendering and readout, builds, DRAM training, DMA, ranged and segmented writes, test windows, reset and power, with nothing owed before it, leaves every byte of DRAM with its parity and every byte of the staging as it was. Rules: R183, R317, R340, R418. -/
def Obligations.CommandsThatStoreNothing : Prop :=
  (∀ (c : Instr) (s t : State),
    mayRestart c = false →
    mayStore c = false →
    s.boot.due = .none →
    exec c s = .next t →
    (∀ a n, t.memRead a n = s.memRead a n) ∧ (∀ a n, t.memBadIn a n = s.memBadIn a n) ∧ t.staging = s.staging)

/-- When a step with a command at the front of the queue answers a next state, the queue holds exactly the rest, and an idle step leaves it empty: no command adds, drops or reorders commands (DESIGN CHOICE, log entry 4). Rules: R13. -/
def Obligations.QueueKeepsItsRest : Prop :=
  (∀ (s t : State),
    step s = .next t →
    t.pending = s.pending.tail)

/-- Every step leaves device time where it was or later, or starts it again at 0. Rules: R295, R406. -/
def Obligations.DeviceTimeNeverGoesBack : Prop :=
  (∀ (s t : State),
    step s = .next t →
    s.clk.now ≤ t.clk.now ∨ t.clk.now = 0)

/-- If no reset or sleep is owed before a step, none is owed after it. Rules: R45, R407, R418. -/
def Obligations.NothingIsOwedBetweenSteps : Prop :=
  (∀ (s t : State),
    s.boot.due = .none →
    step s = .next t →
    t.boot.due = .none)

/-- The reset state meets both invariants. Rules: R461. -/
def Obligations.NothingIsOwedAtReset : Prop :=
  (State.reset.boot.due = .none ∧ storesWf State.reset.mem State.reset.memBad State.reset.staging State.reset.flash = true)

/-- If DRAM, its parity marks, the staging and the flash are in canonical form before a step, they are after it, so that equal contents stay equal data. Rules: R340, R342, R410. -/
def Obligations.MemoriesStayCanonical : Prop :=
  (∀ (s t : State),
    storesWf s.mem s.memBad s.staging s.flash = true →
    step s = .next t →
    storesWf t.mem t.memBad t.staging t.flash = true)
end

