-- ==== Sys2Proof/Laws/Sparse.lean ====
section
/-! SUPPORT. Reads and writes of sparse maps, and their canonical form: keys that rise strictly, no entry that an unlisted key would read as. -/

namespace Sys2Proof.Machine

variable {α : Type}

/-! ## Canonical order -/

theorem srising_some_iff (lo : Nat) (m : Sparse α) :
    srising (some lo) m = true ↔ (∀ e ∈ m, lo < e.1) ∧ m.Pairwise fun a b => a.1 < b.1 := by
  induction m generalizing lo with
  | nil => simp [srising]
  | cons e m ih =>
    obtain ⟨k, v⟩ := e
    simp only [srising, Bool.and_eq_true, decide_eq_true_eq, ih, List.mem_cons, forall_eq_or_imp, List.pairwise_cons]
    constructor
    · rintro ⟨h, h1, h2⟩
      exact ⟨⟨h, fun e he => Nat.lt_trans h (h1 e he)⟩, h1, h2⟩
    · rintro ⟨⟨h, -⟩, h1, h2⟩
      exact ⟨h, h1, h2⟩

/-- Canonical order is pairwise order. -/
theorem srising_iff (m : Sparse α) : srising none m = true ↔ m.Pairwise fun a b => a.1 < b.1 := by
  cases m with
  | nil => simp [srising]
  | cons e m =>
    obtain ⟨k, v⟩ := e
    simp only [srising, srising_some_iff, List.pairwise_cons]

theorem mem_sinsert {k : Nat} {v : α} {m : Sparse α} {e : Nat × α} (h : e ∈ sinsert k v m) : e = (k, v) ∨ e ∈ m := by
  induction m with
  | nil => simpa [sinsert] using h
  | cons f m ih =>
    obtain ⟨k', v'⟩ := f
    unfold sinsert at h
    split at h
    · simpa using h
    · split at h
      · rcases List.mem_cons.1 h with h | h
        · exact .inl h
        · exact .inr (List.mem_cons_of_mem _ h)
      · rcases List.mem_cons.1 h with h | h
        · exact .inr (h ▸ List.mem_cons_self)
        · exact (ih h).imp_right (List.mem_cons_of_mem _)

theorem serase_sublist (k : Nat) (m : Sparse α) : (serase k m).Sublist m := by
  induction m with
  | nil => exact .slnil
  | cons e m ih =>
    obtain ⟨k', v'⟩ := e
    unfold serase
    split
    · exact List.sublist_cons_self _ _
    · exact ih.cons_cons _

/-- A write of a value keeps the order. -/
theorem srising_sinsert (k : Nat) (v : α) {m : Sparse α} (h : srising none m = true) : srising none (sinsert k v m) = true := by
  rw [srising_iff] at h ⊢
  induction m with
  | nil => simp [sinsert]
  | cons e m ih =>
    obtain ⟨k', v'⟩ := e
    have ⟨h1, h2⟩ := List.pairwise_cons.1 h
    unfold sinsert
    split
    · next hk =>
      refine List.pairwise_cons.2 ⟨fun e he => ?_, h⟩
      rcases List.mem_cons.1 he with rfl | he
      · exact hk
      · exact Nat.lt_trans hk (h1 e he)
    · split
      · next _ hk =>
        subst hk
        exact List.pairwise_cons.2 ⟨h1, h2⟩
      · next hn hne =>
        refine List.pairwise_cons.2 ⟨fun e he => ?_, ih h2⟩
        rcases mem_sinsert he with rfl | he
        · simp only at hn hne ⊢
          omega
        · exact h1 e he

/-- Taking a key out keeps the order. -/
theorem srising_serase (k : Nat) {m : Sparse α} (h : srising none m = true) : srising none (serase k m) = true := by
  rw [srising_iff] at h ⊢
  exact h.sublist (serase_sublist k m)

theorem srising_filter (p : Nat × α → Bool) {m : Sparse α} (h : srising none m = true) : srising none (m.filter p) = true := by
  rw [srising_iff] at h ⊢
  exact h.filter p

theorem srising_sset [DecidableEq α] (d : α) {m : Sparse α} (k : Nat) (v : α) (h : srising none m = true) : srising none (sset d m k v) = true := by
  unfold sset
  split
  · exact srising_serase k h
  · exact srising_sinsert k v h

/-! ## No default value listed -/

theorem sproper_iff [DecidableEq α] (d : Nat → α) (m : Sparse α) : sproper d m = true ↔ ∀ e ∈ m, e.2 ≠ d e.1 := by
  simp [sproper]

theorem sproper_sinsert [DecidableEq α] (d : Nat → α) (k : Nat) (v : α) {m : Sparse α} (hv : v ≠ d k) (h : sproper d m = true) :
    sproper d (sinsert k v m) = true := by
  rw [sproper_iff] at h ⊢
  intro e he
  rcases mem_sinsert he with rfl | he
  · exact hv
  · exact h e he

theorem sproper_serase [DecidableEq α] (d : Nat → α) (k : Nat) {m : Sparse α} (h : sproper d m = true) : sproper d (serase k m) = true := by
  rw [sproper_iff] at h ⊢
  exact fun e he => h e ((serase_sublist k m).subset he)

/-! ## Reads after writes -/

theorem sfind_sinsert (k j : Nat) (v : α) (m : Sparse α) : sfind j (sinsert k v m) = if j = k then some v else sfind j m := by
  induction m with
  | nil => simp only [sinsert, sfind, eq_comm]
  | cons e m ih =>
    obtain ⟨k', v'⟩ := e
    unfold sinsert
    split
    · simp only [sfind, eq_comm]
    · split
      · next hk =>
        subst hk
        simp only [sfind]
        by_cases h : k' = j
        · simp [h]
        · simp [h, Ne.symm h]
      · simp only [sfind, ih]
        by_cases h : k' = j
        · subst h
          simp_all
        · simp [h]

theorem sfind_none_of_lt {k : Nat} {m : Sparse α} (h : ∀ e ∈ m, k < e.1) : sfind k m = none := by
  induction m with
  | nil => rfl
  | cons e m ih =>
    obtain ⟨k', v'⟩ := e
    have hk := h _ List.mem_cons_self
    simp only at hk
    simp only [sfind]
    rw [if_neg (by omega)]
    exact ih fun e he => h e (List.mem_cons_of_mem _ he)

theorem sfind_serase (k j : Nat) {m : Sparse α} (h : srising none m = true) : sfind j (serase k m) = if j = k then none else sfind j m := by
  rw [srising_iff] at h
  induction m with
  | nil => simp [serase, sfind]
  | cons e m ih =>
    obtain ⟨k', v'⟩ := e
    have ⟨h1, h2⟩ := List.pairwise_cons.1 h
    unfold serase
    split
    · next hk =>
      subst hk
      by_cases hj : j = k'
      · subst hj
        simpa using sfind_none_of_lt h1
      · simp [sfind, hj, Ne.symm hj]
    · next hk =>
      simp only [sfind, ih h2]
      by_cases hj : k' = j
      · subst hj
        simp [hk]
      · simp [hj]

/-- Reading after writing: the written value at its key, the old ones elsewhere. -/
theorem sget_sset [DecidableEq α] (d : α) {m : Sparse α} (k j : Nat) (v : α) (h : srising none m = true) :
    sget d (sset d m k v) j = if j = k then v else sget d m j := by
  unfold sget sset
  split
  · next hv =>
    subst hv
    rw [sfind_serase k j h]
    split <;> rfl
  · rw [sfind_sinsert]
    split <;> rfl

/-! ## Runs of bytes -/

theorem numbered_bounds {a : Nat} {bs : Bytes} {e : Nat × Byte} (h : e ∈ numbered a bs) : a ≤ e.1 ∧ e.1 < a + bs.length := by
  induction bs generalizing a with
  | nil => simp [numbered] at h
  | cons b bs ih =>
    rcases List.mem_cons.1 h with rfl | h
    · simp
    · have := ih h
      simp only [List.length_cons]
      omega

theorem numbered_pairwise (a : Nat) (bs : Bytes) : (numbered a bs).Pairwise fun a b => a.1 < b.1 := by
  induction bs generalizing a with
  | nil => exact .nil
  | cons b bs ih =>
    refine List.pairwise_cons.2 ⟨fun e he => ?_, ih _⟩
    have := (numbered_bounds he).1
    simp only
    omega

/-- Entries below a, then entries from a to below b, then entries from b up. -/
theorem pairwise_parts {l m r : Sparse α} {a b : Nat} (hl : l.Pairwise fun x y => x.1 < y.1) (hm : m.Pairwise fun x y => x.1 < y.1)
    (hr : r.Pairwise fun x y => x.1 < y.1) (h1 : ∀ e ∈ l, e.1 < a) (h2 : ∀ e ∈ m, a ≤ e.1 ∧ e.1 < b) (h3 : ∀ e ∈ r, b ≤ e.1) (hab : a ≤ b) :
    (l ++ m ++ r).Pairwise fun x y => x.1 < y.1 := by
  refine List.pairwise_append.2 ⟨List.pairwise_append.2 ⟨hl, hm, fun x hx y hy => ?_⟩, hr, fun x hx y hy => ?_⟩
  · exact Nat.lt_of_lt_of_le (h1 x hx) (h2 y hy).1
  · rcases List.mem_append.1 hx with hx | hx
    · exact Nat.lt_of_lt_of_le (h1 x hx) (Nat.le_trans hab (h3 y hy))
    · exact Nat.lt_of_lt_of_le (h2 x hx).2 (h3 y hy)

/-- A write of a run of bytes keeps the order. -/
theorem srising_spatch (a : Nat) (bs : Bytes) {m : Sparse Byte} (h : srising none m = true) : srising none (spatch a bs m) = true := by
  rw [srising_iff] at h ⊢
  exact pairwise_parts (h.filter _) (numbered_pairwise a bs) (h.filter _) (fun e he => by simpa using (List.mem_filter.1 he).2)
    (fun e he => numbered_bounds he) (fun e he => by simpa using (List.mem_filter.1 he).2) (Nat.le_add_right _ _)

end Sys2Proof.Machine
end

