-- ==== Sys2Proof/Laws/Canon.lean ====
section
/-! SUPPORT. The canonical form of the memories and banks: what reads and writes of them keep, and rewriting lemmas for `State.canon`. -/

namespace Sys2Proof.Machine

/-! ## Banks -/

@[simp] theorem Bank.put_wf (b : Bank) (k v : Nat) (h : b.wf = true) : (b.put k v).wf = true := by
  simp only [Bank.wf, Bool.and_eq_true] at h ⊢
  obtain ⟨⟨⟨h1, h2⟩, h3⟩, h4⟩ := h
  refine ⟨⟨⟨?_, ?_⟩, h3⟩, h4⟩ <;> (simp only [Bank.put]; split)
  · exact srising_serase k h1
  · exact srising_sinsert k v h1
  · exact sproper_serase dflt k h2
  · next hv => exact sproper_sinsert dflt k v hv h2

@[simp] theorem Bank.putByte_wf (b : Bank) (a : Nat) (v : Byte) (h : b.wf = true) : (b.putByte a v).wf = true := by
  simp only [Bank.wf, Bool.and_eq_true] at h ⊢
  obtain ⟨⟨⟨h1, h2⟩, h3⟩, h4⟩ := h
  refine ⟨⟨⟨h1, h2⟩, ?_⟩, ?_⟩ <;> (simp only [Bank.putByte]; split)
  · exact srising_serase a h3
  · exact srising_sinsert a v h3
  · exact sproper_serase dfltByte a h4
  · next hv => exact sproper_sinsert dfltByte a v hv h4

@[simp] theorem Bank.write_wf (b : Bank) (a : Nat) (bs : Bytes) (h : b.wf = true) : (b.write a bs).wf = true := by
  induction bs generalizing a b with
  | nil => exact h
  | cons v bs ih => exact ih _ _ (b.putByte_wf a v h)

/-! ## States -/

@[simp] theorem State.canon_mk (main : Bank) (ev : Ev) (mem : Sparse Byte) (memBad : Sparse Bool) (staging : Sparse Byte) (flash : Sparse Byte) (copyA : Settings) (copyB : Settings) (fop : Fop) (clk : Clk) (time : TimeUnit) (aon : Aon) (therm : Therm) (calib : Sparse Calib) (boot : Boot) (update : Update) (recovery : Recovery) (jobs : Jobs) (msp : Msp) (render : Render) (store : Store) (lanes : Sparse Lane) (cmps : List LineCmp) (links : Sparse Link) (ports : Sparse Port) (pos : Pos) (fire : Fire) (motion : Motion) (dram : Dram) (integ : Integ) (board : Board) (units : Units) (wire : Sparse LaneOut) (tx : List Tx) (free : Nat) (idle : Nat) (pending : List Instr) :
    State.canon ⟨main, ev, mem, memBad, staging, flash, copyA, copyB, fop, clk, time, aon, therm, calib, boot, update, recovery, jobs, msp, render, store, lanes, cmps, links, ports, pos, fire, motion, dram, integ, board, units, wire, tx, free, idle, pending⟩ = (main.wf && ev.bank.wf && storesWf mem memBad staging flash) := rfl

@[simp] theorem State.canon_main (s : State) (h : s.canon = true) : s.main.wf = true := by
  simp only [State.canon, Bool.and_eq_true] at h
  exact h.1.1

@[simp] theorem State.canon_ev (s : State) (h : s.canon = true) : s.ev.bank.wf = true := by
  simp only [State.canon, Bool.and_eq_true] at h
  exact h.1.2

@[simp] theorem State.canon_stores (s : State) (h : s.canon = true) : storesWf s.mem s.memBad s.staging s.flash = true := by
  simp only [State.canon, Bool.and_eq_true] at h
  exact h.2

@[simp] theorem ite_canon (c : Prop) [Decidable c] (a b : State) : (if c then a else b).canon = if c then a.canon else b.canon := by
  split <;> rfl

@[simp] theorem ite_fst_canon {α : Type} (c : Prop) [Decidable c] (a b : State × α) :
    (if c then a else b).1.canon = if c then a.1.canon else b.1.canon := by
  split <;> rfl

@[simp] theorem foldl_canon {α : Type} (l : List α) (f : State → α → State) (s : State) (hf : ∀ s a, s.canon = true → (f s a).canon = true)
    (h : s.canon = true) : (l.foldl f s).canon = true := by
  induction l generalizing s with
  | nil => exact h
  | cons a l ih => exact ih _ (hf s a h)

@[simp] theorem foldl_ev_wf {α : Type} (l : List α) (f : Ev → α → Ev) (e : Ev) (hf : ∀ e a, e.bank.wf = true → (f e a).bank.wf = true)
    (h : e.bank.wf = true) : (l.foldl f e).bank.wf = true := by
  induction l generalizing e with
  | nil => exact h
  | cons a l ih => exact ih _ (hf e a h)

@[simp] theorem ite_ev_wf (c : Prop) [Decidable c] (a b : Ev) : (if c then a else b).bank.wf = if c then a.bank.wf else b.bank.wf := by
  split <;> rfl

@[simp] theorem ite_fst_ev_wf {α : Type} (c : Prop) [Decidable c] (a b : Ev × α) :
    (if c then a else b).1.bank.wf = if c then a.1.bank.wf else b.1.bank.wf := by
  split <;> rfl

/-! ## Memories -/

theorem storesWf_iff (mem : Sparse Byte) (bad : Sparse Bool) (staging flash : Sparse Byte) :
    storesWf mem bad staging flash = true ↔ srising none mem = true ∧ (srising none bad = true ∧ sproper (fun _ => false) bad = true)
      ∧ srising none staging = true ∧ srising none flash = true ∧ sproper (fun _ => 0xFF) flash = true := by
  simp only [storesWf, Memory.wf, Bool.and_eq_true, and_assoc]

theorem sproper_filter {α : Type} [DecidableEq α] (d : Nat → α) (p : Nat × α → Bool) {m : Sparse α} (h : sproper d m = true) :
    sproper d (m.filter p) = true := by
  rw [sproper_iff] at h ⊢
  exact fun e he => h e (List.mem_filter.1 he).1

/-- A write of DRAM keeps the canonical form. -/
@[simp] theorem State.memWrite_canon (s : State) (a : Nat) (bs : Bytes) (h : s.canon = true) : (s.memWrite a bs).canon = true := by
  simp only [State.memWrite, State.canon_mk, s.canon_main h, s.canon_ev h, Bool.true_and]
  have k := (storesWf_iff _ _ _ _).1 (s.canon_stores h)
  exact (storesWf_iff _ _ _ _).2 ⟨srising_spatch a bs k.1, ⟨srising_filter _ k.2.1.1, sproper_filter _ _ k.2.1.2⟩, k.2.2⟩

/-- A write of flash keeps the canonical form. -/
@[simp] theorem State.flashWrite_canon (s : State) (a : Nat) (bs : Bytes) (h : s.canon = true) : (s.flashWrite a bs).canon = true := by
  simp only [State.flashWrite, State.canon_mk, s.canon_main h, s.canon_ev h, Bool.true_and]
  have k := (storesWf_iff _ _ _ _).1 (s.canon_stores h)
  refine (storesWf_iff _ _ _ _).2 ⟨k.1, k.2.1, k.2.2.1, ?_, ?_⟩
  · have hr := (srising_iff _).1 k.2.2.2.1
    refine (srising_iff _).2 (pairwise_parts (hr.filter _) ((numbered_pairwise a bs).filter _) (hr.filter _)
      (fun e he => by simpa using (List.mem_filter.1 he).2) (fun e he => numbered_bounds (List.mem_filter.1 he).1)
      (fun e he => by simpa using (List.mem_filter.1 he).2) (Nat.le_add_right _ _))
  · refine (sproper_iff _ _).2 fun e he => ?_
    have hp := (sproper_iff _ _).1 k.2.2.2.2
    rcases List.mem_append.1 he with he | he
    · rcases List.mem_append.1 he with he | he
      · exact hp e (List.mem_filter.1 he).1
      · simpa using (List.mem_filter.1 he).2
    · exact hp e (List.mem_filter.1 he).1

end Sys2Proof.Machine
end

