-- ==== Sys2Proof/Laws/Outer.lean ====
section
/-! SUPPORT. Rewriting lemmas for what a state leaves alone (`State.outer`, `State.kept`, `State.ram`, and `State.still`, which is all three): a record update of another field, a choice, a fold. -/

namespace Sys2Proof.Machine

theorem State.still_outer {s t : State} (h : t.still = s.still) : t.outer = s.outer := congrArg (fun x => x.1) h
theorem State.still_kept {s t : State} (h : t.still = s.still) : t.kept = s.kept := congrArg (fun x => x.2.1) h
theorem State.still_ram {s t : State} (h : t.still = s.still) : t.ram = s.ram := congrArg (fun x => x.2.2) h

@[simp] theorem State.outer_mk (x : State) (main' : Bank) (ev' : Ev) (mem' : Sparse Byte) (memBad' : Sparse Bool) (staging' : Sparse Byte) (flash' : Sparse Byte) (copyA' : Settings) (copyB' : Settings) (fop' : Fop) (time' : TimeUnit) (aon' : Aon) (therm' : Therm) (calib' : Sparse Calib) (update' : Update) (recovery' : Recovery) (jobs' : Jobs) (msp' : Msp) (render' : Render) (store' : Store) (lanes' : Sparse Lane) (cmps' : List LineCmp) (links' : Sparse Link) (ports' : Sparse Port) (pos' : Pos) (fire' : Fire) (motion' : Motion) (dram' : Dram) (integ' : Integ) (board' : Board) (units' : Units) (wire' : Sparse LaneOut) (tx' : List Tx) (free' : Nat) :
    State.outer ⟨main', ev', mem', memBad', staging', flash', copyA', copyB', fop', x.clk, time', aon', therm', calib', x.boot, update', recovery', jobs', msp', render', store', lanes', cmps', links', ports', pos', fire', motion', dram', integ', board', units', wire', tx', free', x.idle, x.pending⟩ = x.outer := by cases x; rfl

@[simp] theorem State.kept_mk (x : State) (main' : Bank) (ev' : Ev) (mem' : Sparse Byte) (memBad' : Sparse Bool) (staging' : Sparse Byte) (fop' : Fop) (clk' : Clk) (time' : TimeUnit) (aon' : Aon) (therm' : Therm) (calib' : Sparse Calib) (boot' : Boot) (jobs' : Jobs) (msp' : Msp) (render' : Render) (store' : Store) (lanes' : Sparse Lane) (cmps' : List LineCmp) (links' : Sparse Link) (ports' : Sparse Port) (pos' : Pos) (fire' : Fire) (motion' : Motion) (dram' : Dram) (integ' : Integ) (board' : Board) (units' : Units) (wire' : Sparse LaneOut) (tx' : List Tx) (free' : Nat) (idle' : Nat) (pending' : List Instr) :
    State.kept ⟨main', ev', mem', memBad', staging', x.flash, x.copyA, x.copyB, fop', clk', time', aon', therm', calib', boot', x.update, x.recovery, jobs', msp', render', store', lanes', cmps', links', ports', pos', fire', motion', dram', integ', board', units', wire', tx', free', idle', pending'⟩ = x.kept := by cases x; rfl

@[simp] theorem State.ram_mk (x : State) (main' : Bank) (ev' : Ev) (flash' : Sparse Byte) (copyA' : Settings) (copyB' : Settings) (fop' : Fop) (clk' : Clk) (time' : TimeUnit) (aon' : Aon) (therm' : Therm) (calib' : Sparse Calib) (boot' : Boot) (update' : Update) (recovery' : Recovery) (jobs' : Jobs) (msp' : Msp) (render' : Render) (store' : Store) (lanes' : Sparse Lane) (cmps' : List LineCmp) (links' : Sparse Link) (ports' : Sparse Port) (pos' : Pos) (fire' : Fire) (motion' : Motion) (dram' : Dram) (integ' : Integ) (board' : Board) (units' : Units) (wire' : Sparse LaneOut) (tx' : List Tx) (free' : Nat) (idle' : Nat) (pending' : List Instr) :
    State.ram ⟨main', ev', x.mem, x.memBad, x.staging, flash', copyA', copyB', fop', clk', time', aon', therm', calib', boot', update', recovery', jobs', msp', render', store', lanes', cmps', links', ports', pos', fire', motion', dram', integ', board', units', wire', tx', free', idle', pending'⟩ = x.ram := by cases x; rfl

@[simp] theorem State.still_mk (x : State) (main' : Bank) (ev' : Ev) (fop' : Fop) (time' : TimeUnit) (aon' : Aon) (therm' : Therm) (calib' : Sparse Calib) (jobs' : Jobs) (msp' : Msp) (render' : Render) (store' : Store) (lanes' : Sparse Lane) (cmps' : List LineCmp) (links' : Sparse Link) (ports' : Sparse Port) (pos' : Pos) (fire' : Fire) (motion' : Motion) (dram' : Dram) (integ' : Integ) (board' : Board) (units' : Units) (wire' : Sparse LaneOut) (tx' : List Tx) (free' : Nat) :
    State.still ⟨main', ev', x.mem, x.memBad, x.staging, x.flash, x.copyA, x.copyB, fop', x.clk, time', aon', therm', calib', x.boot, x.update, x.recovery, jobs', msp', render', store', lanes', cmps', links', ports', pos', fire', motion', dram', integ', board', units', wire', tx', free', x.idle, x.pending⟩ = x.still := by cases x; rfl

@[simp] theorem ite_outer (c : Prop) [Decidable c] (a b : State) : (if c then a else b).outer = if c then a.outer else b.outer := by
  split <;> rfl

@[simp] theorem ite_fst_outer {α : Type} (c : Prop) [Decidable c] (a b : State × α) :
    (if c then a else b).1.outer = if c then a.1.outer else b.1.outer := by
  split <;> rfl

@[simp] theorem foldl_outer {α : Type} (l : List α) (f : State → α → State) (s : State) (h : ∀ s a, (f s a).outer = s.outer) :
    (l.foldl f s).outer = s.outer := by
  induction l generalizing s with
  | nil => rfl
  | cons a l ih => rw [List.foldl_cons, ih, h]

@[simp] theorem ite_kept (c : Prop) [Decidable c] (a b : State) : (if c then a else b).kept = if c then a.kept else b.kept := by
  split <;> rfl

@[simp] theorem ite_fst_kept {α : Type} (c : Prop) [Decidable c] (a b : State × α) :
    (if c then a else b).1.kept = if c then a.1.kept else b.1.kept := by
  split <;> rfl

@[simp] theorem foldl_kept {α : Type} (l : List α) (f : State → α → State) (s : State) (h : ∀ s a, (f s a).kept = s.kept) :
    (l.foldl f s).kept = s.kept := by
  induction l generalizing s with
  | nil => rfl
  | cons a l ih => rw [List.foldl_cons, ih, h]

@[simp] theorem ite_ram (c : Prop) [Decidable c] (a b : State) : (if c then a else b).ram = if c then a.ram else b.ram := by
  split <;> rfl

@[simp] theorem ite_fst_ram {α : Type} (c : Prop) [Decidable c] (a b : State × α) :
    (if c then a else b).1.ram = if c then a.1.ram else b.1.ram := by
  split <;> rfl

@[simp] theorem foldl_ram {α : Type} (l : List α) (f : State → α → State) (s : State) (h : ∀ s a, (f s a).ram = s.ram) :
    (l.foldl f s).ram = s.ram := by
  induction l generalizing s with
  | nil => rfl
  | cons a l ih => rw [List.foldl_cons, ih, h]

@[simp] theorem ite_still (c : Prop) [Decidable c] (a b : State) : (if c then a else b).still = if c then a.still else b.still := by
  split <;> rfl

@[simp] theorem ite_fst_still {α : Type} (c : Prop) [Decidable c] (a b : State × α) :
    (if c then a else b).1.still = if c then a.1.still else b.1.still := by
  split <;> rfl

@[simp] theorem foldl_still {α : Type} (l : List α) (f : State → α → State) (s : State) (h : ∀ s a, (f s a).still = s.still) :
    (l.foldl f s).still = s.still := by
  induction l generalizing s with
  | nil => rfl
  | cons a l ih => rw [List.foldl_cons, ih, h]

end Sys2Proof.Machine
end

