-- ==== Sys2Proof/Laws/OuterOps.lean ====
section
/-! SUPPORT. What the operations of Machine/Ops.lean leave alone: the queue, the idle time, the clock and the boot record (`outer`); flash, settings copies, update service and recovery (`kept`); the bytes of DRAM and staging (`ram`). -/

namespace Sys2Proof.Machine

@[simp] theorem State.put_still (s : State) (key : Nat) (v : Nat) : (State.put s key v).still = s.still := by
  unfold State.put; (try simp); all_goals ((repeat' split) <;> (first | with_reducible rfl | (simp; done) | (simp_all; done)))

@[simp] theorem State.put_outer (s : State) (key : Nat) (v : Nat) : (State.put s key v).outer = s.outer := State.still_outer (State.put_still s key v)

@[simp] theorem State.put_kept (s : State) (key : Nat) (v : Nat) : (State.put s key v).kept = s.kept := State.still_kept (State.put_still s key v)

@[simp] theorem State.put_ram (s : State) (key : Nat) (v : Nat) : (State.put s key v).ram = s.ram := State.still_ram (State.put_still s key v)

@[simp] theorem State.set_still (s : State) (idx : Nat) (sub : Nat) (v : Nat) : (State.set s idx sub v).still = s.still := by
  unfold State.set; (try simp); all_goals ((repeat' split) <;> (first | with_reducible rfl | (simp; done) | (simp_all; done)))

@[simp] theorem State.set_outer (s : State) (idx : Nat) (sub : Nat) (v : Nat) : (State.set s idx sub v).outer = s.outer := State.still_outer (State.set_still s idx sub v)

@[simp] theorem State.set_kept (s : State) (idx : Nat) (sub : Nat) (v : Nat) : (State.set s idx sub v).kept = s.kept := State.still_kept (State.set_still s idx sub v)

@[simp] theorem State.set_ram (s : State) (idx : Nat) (sub : Nat) (v : Nat) : (State.set s idx sub v).ram = s.ram := State.still_ram (State.set_still s idx sub v)

@[simp] theorem State.setI64_still (s : State) (idx : Nat) (sub : Nat) (v : Int) : (State.setI64 s idx sub v).still = s.still := by
  unfold State.setI64; (try simp); all_goals ((repeat' split) <;> (first | with_reducible rfl | (simp; done) | (simp_all; done)))

@[simp] theorem State.setI64_outer (s : State) (idx : Nat) (sub : Nat) (v : Int) : (State.setI64 s idx sub v).outer = s.outer := State.still_outer (State.setI64_still s idx sub v)

@[simp] theorem State.setI64_kept (s : State) (idx : Nat) (sub : Nat) (v : Int) : (State.setI64 s idx sub v).kept = s.kept := State.still_kept (State.setI64_still s idx sub v)

@[simp] theorem State.setI64_ram (s : State) (idx : Nat) (sub : Nat) (v : Int) : (State.setI64 s idx sub v).ram = s.ram := State.still_ram (State.setI64_still s idx sub v)

@[simp] theorem State.bump_still (s : State) (idx : Nat) (sub : Nat) : (State.bump s idx sub).still = s.still := by
  unfold State.bump; (try simp); all_goals ((repeat' split) <;> (first | with_reducible rfl | (simp; done) | (simp_all; done)))

@[simp] theorem State.bump_outer (s : State) (idx : Nat) (sub : Nat) : (State.bump s idx sub).outer = s.outer := State.still_outer (State.bump_still s idx sub)

@[simp] theorem State.bump_kept (s : State) (idx : Nat) (sub : Nat) : (State.bump s idx sub).kept = s.kept := State.still_kept (State.bump_still s idx sub)

@[simp] theorem State.bump_ram (s : State) (idx : Nat) (sub : Nat) : (State.bump s idx sub).ram = s.ram := State.still_ram (State.bump_still s idx sub)

@[simp] theorem State.count_still (s : State) (idx : Nat) (sub : Nat) (w : Nat) (n : Nat) : (State.count s idx sub w n).still = s.still := by
  unfold State.count; (try simp); all_goals ((repeat' split) <;> (first | with_reducible rfl | (simp; done) | (simp_all; done)))

@[simp] theorem State.count_outer (s : State) (idx : Nat) (sub : Nat) (w : Nat) (n : Nat) : (State.count s idx sub w n).outer = s.outer := State.still_outer (State.count_still s idx sub w n)

@[simp] theorem State.count_kept (s : State) (idx : Nat) (sub : Nat) (w : Nat) (n : Nat) : (State.count s idx sub w n).kept = s.kept := State.still_kept (State.count_still s idx sub w n)

@[simp] theorem State.count_ram (s : State) (idx : Nat) (sub : Nat) (w : Nat) (n : Nat) : (State.count s idx sub w n).ram = s.ram := State.still_ram (State.count_still s idx sub w n)

@[simp] theorem State.setBytes_still (s : State) (idx : Nat) (sub : Nat) (off : Nat) (bs : Bytes) : (State.setBytes s idx sub off bs).still = s.still := by
  unfold State.setBytes; (try simp); all_goals ((repeat' split) <;> (first | with_reducible rfl | (simp; done) | (simp_all; done)))

@[simp] theorem State.setBytes_outer (s : State) (idx : Nat) (sub : Nat) (off : Nat) (bs : Bytes) : (State.setBytes s idx sub off bs).outer = s.outer := State.still_outer (State.setBytes_still s idx sub off bs)

@[simp] theorem State.setBytes_kept (s : State) (idx : Nat) (sub : Nat) (off : Nat) (bs : Bytes) : (State.setBytes s idx sub off bs).kept = s.kept := State.still_kept (State.setBytes_still s idx sub off bs)

@[simp] theorem State.setBytes_ram (s : State) (idx : Nat) (sub : Nat) (off : Nat) (bs : Bytes) : (State.setBytes s idx sub off bs).ram = s.ram := State.still_ram (State.setBytes_still s idx sub off bs)

@[simp] theorem State.raise_still (s : State) (src : Nat) (sev : Nat) (detail : Nat) : (State.raise s src sev detail).still = s.still := by
  unfold State.raise; (try simp); all_goals ((repeat' split) <;> (first | with_reducible rfl | (simp; done) | (simp_all; done)))

@[simp] theorem State.raise_outer (s : State) (src : Nat) (sev : Nat) (detail : Nat) : (State.raise s src sev detail).outer = s.outer := State.still_outer (State.raise_still s src sev detail)

@[simp] theorem State.raise_kept (s : State) (src : Nat) (sev : Nat) (detail : Nat) : (State.raise s src sev detail).kept = s.kept := State.still_kept (State.raise_still s src sev detail)

@[simp] theorem State.raise_ram (s : State) (src : Nat) (sev : Nat) (detail : Nat) : (State.raise s src sev detail).ram = s.ram := State.still_ram (State.raise_still s src sev detail)

@[simp] theorem State.raiseAt_still (s : State) (src : Nat) (sev : Nat) (detail : Nat) (master : Nat) (access : Nat) (page : Nat) (addr : Nat) : (State.raiseAt s src sev detail master access page addr).still = s.still := by
  unfold State.raiseAt; (try simp); all_goals ((repeat' split) <;> (first | with_reducible rfl | (simp; done) | (simp_all; done)))

@[simp] theorem State.raiseAt_outer (s : State) (src : Nat) (sev : Nat) (detail : Nat) (master : Nat) (access : Nat) (page : Nat) (addr : Nat) : (State.raiseAt s src sev detail master access page addr).outer = s.outer := State.still_outer (State.raiseAt_still s src sev detail master access page addr)

@[simp] theorem State.raiseAt_kept (s : State) (src : Nat) (sev : Nat) (detail : Nat) (master : Nat) (access : Nat) (page : Nat) (addr : Nat) : (State.raiseAt s src sev detail master access page addr).kept = s.kept := State.still_kept (State.raiseAt_still s src sev detail master access page addr)

@[simp] theorem State.raiseAt_ram (s : State) (src : Nat) (sev : Nat) (detail : Nat) (master : Nat) (access : Nat) (page : Nat) (addr : Nat) : (State.raiseAt s src sev detail master access page addr).ram = s.ram := State.still_ram (State.raiseAt_still s src sev detail master access page addr)

@[simp] theorem State.sendBlocks_still (s : State) (c : Chan) (lane : Nat) (blocks : List Block) : (State.sendBlocks s c lane blocks).still = s.still := by
  unfold State.sendBlocks; (try simp); all_goals ((repeat' split) <;> (first | with_reducible rfl | (simp; done) | (simp_all; done)))

@[simp] theorem State.sendBlocks_outer (s : State) (c : Chan) (lane : Nat) (blocks : List Block) : (State.sendBlocks s c lane blocks).outer = s.outer := State.still_outer (State.sendBlocks_still s c lane blocks)

@[simp] theorem State.sendBlocks_kept (s : State) (c : Chan) (lane : Nat) (blocks : List Block) : (State.sendBlocks s c lane blocks).kept = s.kept := State.still_kept (State.sendBlocks_still s c lane blocks)

@[simp] theorem State.sendBlocks_ram (s : State) (c : Chan) (lane : Nat) (blocks : List Block) : (State.sendBlocks s c lane blocks).ram = s.ram := State.still_ram (State.sendBlocks_still s c lane blocks)

@[simp] theorem State.send_still (s : State) (c : Chan) (bs : Bytes) : (State.send s c bs).still = s.still := by
  unfold State.send; (try simp); all_goals ((repeat' split) <;> (first | with_reducible rfl | (simp; done) | (simp_all; done)))

@[simp] theorem State.send_outer (s : State) (c : Chan) (bs : Bytes) : (State.send s c bs).outer = s.outer := State.still_outer (State.send_still s c bs)

@[simp] theorem State.send_kept (s : State) (c : Chan) (bs : Bytes) : (State.send s c bs).kept = s.kept := State.still_kept (State.send_still s c bs)

@[simp] theorem State.send_ram (s : State) (c : Chan) (bs : Bytes) : (State.send s c bs).ram = s.ram := State.still_ram (State.send_still s c bs)

@[simp] theorem State.fresh_still (s : State) : (State.fresh s).2.still = s.still := by
  unfold State.fresh; (try simp); all_goals ((repeat' split) <;> (first | with_reducible rfl | (simp; done) | (simp_all; done)))

@[simp] theorem State.fresh_outer (s : State) : (State.fresh s).2.outer = s.outer := State.still_outer (State.fresh_still s)

@[simp] theorem State.fresh_kept (s : State) : (State.fresh s).2.kept = s.kept := State.still_kept (State.fresh_still s)

@[simp] theorem State.fresh_ram (s : State) : (State.fresh s).2.ram = s.ram := State.still_ram (State.fresh_still s)

@[simp] theorem State.setReady_still (s : State) (i : Nat) (b : Bool) : (State.setReady s i b).still = s.still := by
  unfold State.setReady; (try simp); all_goals ((repeat' split) <;> (first | with_reducible rfl | (simp; done) | (simp_all; done)))

@[simp] theorem State.setReady_outer (s : State) (i : Nat) (b : Bool) : (State.setReady s i b).outer = s.outer := State.still_outer (State.setReady_still s i b)

@[simp] theorem State.setReady_kept (s : State) (i : Nat) (b : Bool) : (State.setReady s i b).kept = s.kept := State.still_kept (State.setReady_still s i b)

@[simp] theorem State.setReady_ram (s : State) (i : Nat) (b : Bool) : (State.setReady s i b).ram = s.ram := State.still_ram (State.setReady_still s i b)

@[simp] theorem State.ringPut_still (s : State) (q : Nat) (ty : Nat) (p0 : Nat) (p1 : Nat) (p2 : Nat) : (State.ringPut s q ty p0 p1 p2).1.still = s.still := by
  unfold State.ringPut; (try simp); all_goals ((repeat' split) <;> (first | with_reducible rfl | (simp; done) | (simp_all; done)))

@[simp] theorem State.ringPut_outer (s : State) (q : Nat) (ty : Nat) (p0 : Nat) (p1 : Nat) (p2 : Nat) : (State.ringPut s q ty p0 p1 p2).1.outer = s.outer := State.still_outer (State.ringPut_still s q ty p0 p1 p2)

@[simp] theorem State.ringPut_kept (s : State) (q : Nat) (ty : Nat) (p0 : Nat) (p1 : Nat) (p2 : Nat) : (State.ringPut s q ty p0 p1 p2).1.kept = s.kept := State.still_kept (State.ringPut_still s q ty p0 p1 p2)

@[simp] theorem State.ringPut_ram (s : State) (q : Nat) (ty : Nat) (p0 : Nat) (p1 : Nat) (p2 : Nat) : (State.ringPut s q ty p0 p1 p2).1.ram = s.ram := State.still_ram (State.ringPut_still s q ty p0 p1 p2)

@[simp] theorem State.ringWrite_still (s : State) (q : Nat) (ty : Nat) (p0 : Nat) (p1 : Nat) (p2 : Nat) : (State.ringWrite s q ty p0 p1 p2).still = s.still := by
  unfold State.ringWrite; (try simp); all_goals ((repeat' split) <;> (first | with_reducible rfl | (simp; done) | (simp_all; done)))

@[simp] theorem State.ringWrite_outer (s : State) (q : Nat) (ty : Nat) (p0 : Nat) (p1 : Nat) (p2 : Nat) : (State.ringWrite s q ty p0 p1 p2).outer = s.outer := State.still_outer (State.ringWrite_still s q ty p0 p1 p2)

@[simp] theorem State.ringWrite_kept (s : State) (q : Nat) (ty : Nat) (p0 : Nat) (p1 : Nat) (p2 : Nat) : (State.ringWrite s q ty p0 p1 p2).kept = s.kept := State.still_kept (State.ringWrite_still s q ty p0 p1 p2)

@[simp] theorem State.ringWrite_ram (s : State) (q : Nat) (ty : Nat) (p0 : Nat) (p1 : Nat) (p2 : Nat) : (State.ringWrite s q ty p0 p1 p2).ram = s.ram := State.still_ram (State.ringWrite_still s q ty p0 p1 p2)

end Sys2Proof.Machine
end

