-- ==== Sys2Proof/Laws/OuterMsp.lean ====
section
/-! SUPPORT. What the operations of Machine/Msp.lean leave alone: the queue, the idle time, the clock and the boot record (`outer`); flash, settings copies, update service and recovery (`kept`); the bytes of DRAM and staging (`ram`). -/

namespace Sys2Proof.Machine

@[simp] theorem State.updSess_still (s : State) (n : Nat) (f : Session → Session) : (State.updSess s n f).still = s.still := by
  unfold State.updSess; (try simp); all_goals ((repeat' split) <;> (first | with_reducible rfl | (simp; done) | (simp_all; done)))

@[simp] theorem State.updSess_outer (s : State) (n : Nat) (f : Session → Session) : (State.updSess s n f).outer = s.outer := State.still_outer (State.updSess_still s n f)

@[simp] theorem State.updSess_kept (s : State) (n : Nat) (f : Session → Session) : (State.updSess s n f).kept = s.kept := State.still_kept (State.updSess_still s n f)

@[simp] theorem State.updSess_ram (s : State) (n : Nat) (f : Session → Session) : (State.updSess s n f).ram = s.ram := State.still_ram (State.updSess_still s n f)

@[simp] theorem State.sendToHost_still (s : State) (n : Nat) (flags : Nat) (count : Nat) (psn : Nat) (recs : Bytes) : (State.sendToHost s n flags count psn recs).still = s.still := by
  unfold State.sendToHost; (try simp); all_goals ((repeat' split) <;> (first | with_reducible rfl | (simp; done) | (simp_all; done)))

@[simp] theorem State.sendToHost_outer (s : State) (n : Nat) (flags : Nat) (count : Nat) (psn : Nat) (recs : Bytes) : (State.sendToHost s n flags count psn recs).outer = s.outer := State.still_outer (State.sendToHost_still s n flags count psn recs)

@[simp] theorem State.sendToHost_kept (s : State) (n : Nat) (flags : Nat) (count : Nat) (psn : Nat) (recs : Bytes) : (State.sendToHost s n flags count psn recs).kept = s.kept := State.still_kept (State.sendToHost_still s n flags count psn recs)

@[simp] theorem State.sendToHost_ram (s : State) (n : Nat) (flags : Nat) (count : Nat) (psn : Nat) (recs : Bytes) : (State.sendToHost s n flags count psn recs).ram = s.ram := State.still_ram (State.sendToHost_still s n flags count psn recs)

@[simp] theorem State.ackOnly_still (s : State) (n : Nat) : (State.ackOnly s n).still = s.still := by
  unfold State.ackOnly; (try simp); all_goals ((repeat' split) <;> (first | with_reducible rfl | (simp; done) | (simp_all; done)))

@[simp] theorem State.ackOnly_outer (s : State) (n : Nat) : (State.ackOnly s n).outer = s.outer := State.still_outer (State.ackOnly_still s n)

@[simp] theorem State.ackOnly_kept (s : State) (n : Nat) : (State.ackOnly s n).kept = s.kept := State.still_kept (State.ackOnly_still s n)

@[simp] theorem State.ackOnly_ram (s : State) (n : Nat) : (State.ackOnly s n).ram = s.ram := State.still_ram (State.ackOnly_still s n)

@[simp] theorem State.setReserved_still (s : State) (n : Nat) (v : Nat) : (State.setReserved s n v).still = s.still := by
  unfold State.setReserved; (try simp); all_goals ((repeat' split) <;> (first | with_reducible rfl | (simp; done) | (simp_all; done)))

@[simp] theorem State.setReserved_outer (s : State) (n : Nat) (v : Nat) : (State.setReserved s n v).outer = s.outer := State.still_outer (State.setReserved_still s n v)

@[simp] theorem State.setReserved_kept (s : State) (n : Nat) (v : Nat) : (State.setReserved s n v).kept = s.kept := State.still_kept (State.setReserved_still s n v)

@[simp] theorem State.setReserved_ram (s : State) (n : Nat) (v : Nat) : (State.setReserved s n v).ram = s.ram := State.still_ram (State.setReserved_still s n v)

@[simp] theorem State.putCompletion_still (s : State) (n : Nat) (ty : Nat) (body : Bytes) : (State.putCompletion s n ty body).still = s.still := by
  unfold State.putCompletion; (try simp); all_goals ((repeat' split) <;> (first | with_reducible rfl | (simp; done) | (simp_all; done)))

@[simp] theorem State.putCompletion_outer (s : State) (n : Nat) (ty : Nat) (body : Bytes) : (State.putCompletion s n ty body).outer = s.outer := State.still_outer (State.putCompletion_still s n ty body)

@[simp] theorem State.putCompletion_kept (s : State) (n : Nat) (ty : Nat) (body : Bytes) : (State.putCompletion s n ty body).kept = s.kept := State.still_kept (State.putCompletion_still s n ty body)

@[simp] theorem State.putCompletion_ram (s : State) (n : Nat) (ty : Nat) (body : Bytes) : (State.putCompletion s n ty body).ram = s.ram := State.still_ram (State.putCompletion_still s n ty body)

@[simp] theorem State.completeReserved_still (s : State) (n : Nat) (ty : Nat) (body : Bytes) : (State.completeReserved s n ty body).still = s.still := by
  unfold State.completeReserved; (try simp); all_goals ((repeat' split) <;> (first | with_reducible rfl | (simp; done) | (simp_all; done)))

@[simp] theorem State.completeReserved_outer (s : State) (n : Nat) (ty : Nat) (body : Bytes) : (State.completeReserved s n ty body).outer = s.outer := State.still_outer (State.completeReserved_still s n ty body)

@[simp] theorem State.completeReserved_kept (s : State) (n : Nat) (ty : Nat) (body : Bytes) : (State.completeReserved s n ty body).kept = s.kept := State.still_kept (State.completeReserved_still s n ty body)

@[simp] theorem State.completeReserved_ram (s : State) (n : Nat) (ty : Nat) (body : Bytes) : (State.completeReserved s n ty body).ram = s.ram := State.still_ram (State.completeReserved_still s n ty body)

@[simp] theorem State.completeFree_still (s : State) (n : Nat) (ty : Nat) (body : Bytes) : (State.completeFree s n ty body).1.still = s.still := by
  unfold State.completeFree; (try simp); all_goals ((repeat' split) <;> (first | with_reducible rfl | (simp; done) | (simp_all; done)))

@[simp] theorem State.completeFree_outer (s : State) (n : Nat) (ty : Nat) (body : Bytes) : (State.completeFree s n ty body).1.outer = s.outer := State.still_outer (State.completeFree_still s n ty body)

@[simp] theorem State.completeFree_kept (s : State) (n : Nat) (ty : Nat) (body : Bytes) : (State.completeFree s n ty body).1.kept = s.kept := State.still_kept (State.completeFree_still s n ty body)

@[simp] theorem State.completeFree_ram (s : State) (n : Nat) (ty : Nat) (body : Bytes) : (State.completeFree s n ty body).1.ram = s.ram := State.still_ram (State.completeFree_still s n ty body)

@[simp] theorem State.reply_still (s : State) (n : Nat) (r : Req) (status : Nat) (detail : Nat) : (State.reply s n r status detail).still = s.still := by
  unfold State.reply; (try simp); all_goals ((repeat' split) <;> (first | with_reducible rfl | (simp; done) | (simp_all; done)))

@[simp] theorem State.reply_outer (s : State) (n : Nat) (r : Req) (status : Nat) (detail : Nat) : (State.reply s n r status detail).outer = s.outer := State.still_outer (State.reply_still s n r status detail)

@[simp] theorem State.reply_kept (s : State) (n : Nat) (r : Req) (status : Nat) (detail : Nat) : (State.reply s n r status detail).kept = s.kept := State.still_kept (State.reply_still s n r status detail)

@[simp] theorem State.reply_ram (s : State) (n : Nat) (r : Req) (status : Nat) (detail : Nat) : (State.reply s n r status detail).ram = s.ram := State.still_ram (State.reply_still s n r status detail)

end Sys2Proof.Machine
end

