-- ==== Sys2Proof/Laws/OuterPages.lean ====
section
/-! SUPPORT. What the operations of Machine/Pages.lean leave alone: the queue, the idle time, the clock and the boot record (`outer`); flash, settings copies, update service and recovery (`kept`); the bytes of DRAM and staging (`ram`). -/

namespace Sys2Proof.Machine

@[simp] theorem State.seamSend_still (s : State) (lanes : List Nat) (b : Bytes) : (State.seamSend s lanes b).still = s.still := by
  unfold State.seamSend; (try simp); all_goals ((repeat' split) <;> (first | with_reducible rfl | (simp; done) | (simp_all; done)))

@[simp] theorem State.seamSend_outer (s : State) (lanes : List Nat) (b : Bytes) : (State.seamSend s lanes b).outer = s.outer := State.still_outer (State.seamSend_still s lanes b)

@[simp] theorem State.seamSend_kept (s : State) (lanes : List Nat) (b : Bytes) : (State.seamSend s lanes b).kept = s.kept := State.still_kept (State.seamSend_still s lanes b)

@[simp] theorem State.seamSend_ram (s : State) (lanes : List Nat) (b : Bytes) : (State.seamSend s lanes b).ram = s.ram := State.still_ram (State.seamSend_still s lanes b)

@[simp] theorem State.smsg_still (s : State) (kind : Nat) (target : Nat) (user : Nat) (body : Bytes) : (State.smsg s kind target user body).still = s.still := by
  unfold State.smsg; (try simp); all_goals ((repeat' split) <;> (first | with_reducible rfl | (simp; done) | (simp_all; done)))

@[simp] theorem State.smsg_outer (s : State) (kind : Nat) (target : Nat) (user : Nat) (body : Bytes) : (State.smsg s kind target user body).outer = s.outer := State.still_outer (State.smsg_still s kind target user body)

@[simp] theorem State.smsg_kept (s : State) (kind : Nat) (target : Nat) (user : Nat) (body : Bytes) : (State.smsg s kind target user body).kept = s.kept := State.still_kept (State.smsg_still s kind target user body)

@[simp] theorem State.smsg_ram (s : State) (kind : Nat) (target : Nat) (user : Nat) (body : Bytes) : (State.smsg s kind target user body).ram = s.ram := State.still_ram (State.smsg_still s kind target user body)

@[simp] theorem State.updPage_still (s : State) (num : Nat) (f : Page → Page) : (State.updPage s num f).still = s.still := by
  unfold State.updPage; (try simp); all_goals ((repeat' split) <;> (first | with_reducible rfl | (simp; done) | (simp_all; done)))

@[simp] theorem State.updPage_outer (s : State) (num : Nat) (f : Page → Page) : (State.updPage s num f).outer = s.outer := State.still_outer (State.updPage_still s num f)

@[simp] theorem State.updPage_kept (s : State) (num : Nat) (f : Page → Page) : (State.updPage s num f).kept = s.kept := State.still_kept (State.updPage_still s num f)

@[simp] theorem State.updPage_ram (s : State) (num : Nat) (f : Page → Page) : (State.updPage s num f).ram = s.ram := State.still_ram (State.updPage_still s num f)

@[simp] theorem State.checkLate_still (s : State) : (State.checkLate s).still = s.still := by
  unfold State.checkLate; (try simp); all_goals ((repeat' split) <;> (first | with_reducible rfl | (simp; done) | (simp_all; done)))

@[simp] theorem State.checkLate_outer (s : State) : (State.checkLate s).outer = s.outer := State.still_outer (State.checkLate_still s)

@[simp] theorem State.checkLate_kept (s : State) : (State.checkLate s).kept = s.kept := State.still_kept (State.checkLate_still s)

@[simp] theorem State.checkLate_ram (s : State) : (State.checkLate s).ram = s.ram := State.still_ram (State.checkLate_still s)

@[simp] theorem State.updLane_still (s : State) (mk : Nat) (f : Lane → Lane) : (State.updLane s mk f).still = s.still := by
  unfold State.updLane; (try simp); all_goals ((repeat' split) <;> (first | with_reducible rfl | (simp; done) | (simp_all; done)))

@[simp] theorem State.updLane_outer (s : State) (mk : Nat) (f : Lane → Lane) : (State.updLane s mk f).outer = s.outer := State.still_outer (State.updLane_still s mk f)

@[simp] theorem State.updLane_kept (s : State) (mk : Nat) (f : Lane → Lane) : (State.updLane s mk f).kept = s.kept := State.still_kept (State.updLane_still s mk f)

@[simp] theorem State.updLane_ram (s : State) (mk : Nat) (f : Lane → Lane) : (State.updLane s mk f).ram = s.ram := State.still_ram (State.updLane_still s mk f)

@[simp] theorem State.dropCmpsOf_still (s : State) (num : Nat) (inst : Nat) : (State.dropCmpsOf s num inst).still = s.still := by
  unfold State.dropCmpsOf; (try simp); all_goals ((repeat' split) <;> (first | with_reducible rfl | (simp; done) | (simp_all; done)))

@[simp] theorem State.dropCmpsOf_outer (s : State) (num : Nat) (inst : Nat) : (State.dropCmpsOf s num inst).outer = s.outer := State.still_outer (State.dropCmpsOf_still s num inst)

@[simp] theorem State.dropCmpsOf_kept (s : State) (num : Nat) (inst : Nat) : (State.dropCmpsOf s num inst).kept = s.kept := State.still_kept (State.dropCmpsOf_still s num inst)

@[simp] theorem State.dropCmpsOf_ram (s : State) (num : Nat) (inst : Nat) : (State.dropCmpsOf s num inst).ram = s.ram := State.still_ram (State.dropCmpsOf_still s num inst)

@[simp] theorem State.dropSlices_still (s : State) (num : Nat) (fromInst : Nat) : (State.dropSlices s num fromInst).still = s.still := by
  unfold State.dropSlices; (try simp); all_goals ((repeat' split) <;> (first | with_reducible rfl | (simp; done) | (simp_all; done)))

@[simp] theorem State.dropSlices_outer (s : State) (num : Nat) (fromInst : Nat) : (State.dropSlices s num fromInst).outer = s.outer := State.still_outer (State.dropSlices_still s num fromInst)

@[simp] theorem State.dropSlices_kept (s : State) (num : Nat) (fromInst : Nat) : (State.dropSlices s num fromInst).kept = s.kept := State.still_kept (State.dropSlices_still s num fromInst)

@[simp] theorem State.dropSlices_ram (s : State) (num : Nat) (fromInst : Nat) : (State.dropSlices s num fromInst).ram = s.ram := State.still_ram (State.dropSlices_still s num fromInst)

@[simp] theorem State.repairEvent_still (s : State) (r : Repair) (outcome : Nat) : (State.repairEvent s r outcome).still = s.still := by
  unfold State.repairEvent; (try simp); all_goals ((repeat' split) <;> (first | with_reducible rfl | (simp; done) | (simp_all; done)))

@[simp] theorem State.repairEvent_outer (s : State) (r : Repair) (outcome : Nat) : (State.repairEvent s r outcome).outer = s.outer := State.still_outer (State.repairEvent_still s r outcome)

@[simp] theorem State.repairEvent_kept (s : State) (r : Repair) (outcome : Nat) : (State.repairEvent s r outcome).kept = s.kept := State.still_kept (State.repairEvent_still s r outcome)

@[simp] theorem State.repairEvent_ram (s : State) (r : Repair) (outcome : Nat) : (State.repairEvent s r outcome).ram = s.ram := State.still_ram (State.repairEvent_still s r outcome)

@[simp] theorem State.abandonRepairs_still (s : State) (num : Nat) : (State.abandonRepairs s num).still = s.still := by
  unfold State.abandonRepairs; (try simp); all_goals ((repeat' split) <;> (first | with_reducible rfl | (simp; done) | (simp_all; done)))

@[simp] theorem State.abandonRepairs_outer (s : State) (num : Nat) : (State.abandonRepairs s num).outer = s.outer := State.still_outer (State.abandonRepairs_still s num)

@[simp] theorem State.abandonRepairs_kept (s : State) (num : Nat) : (State.abandonRepairs s num).kept = s.kept := State.still_kept (State.abandonRepairs_still s num)

@[simp] theorem State.abandonRepairs_ram (s : State) (num : Nat) : (State.abandonRepairs s num).ram = s.ram := State.still_ram (State.abandonRepairs_still s num)

@[simp] theorem State.retire_still (s : State) (num : Nat) : (State.retire s num).still = s.still := by
  unfold State.retire; (try simp); all_goals ((repeat' split) <;> (first | with_reducible rfl | (simp; done) | (simp_all; done)))

@[simp] theorem State.retire_outer (s : State) (num : Nat) : (State.retire s num).outer = s.outer := State.still_outer (State.retire_still s num)

@[simp] theorem State.retire_kept (s : State) (num : Nat) : (State.retire s num).kept = s.kept := State.still_kept (State.retire_still s num)

@[simp] theorem State.retire_ram (s : State) (num : Nat) : (State.retire s num).ram = s.ram := State.still_ram (State.retire_still s num)

@[simp] theorem State.finish_still (s : State) (num : Nat) (st : PageSt) : (State.finish s num st).still = s.still := by
  unfold State.finish; (try simp); all_goals ((repeat' split) <;> (first | with_reducible rfl | (simp; done) | (simp_all; done)))

@[simp] theorem State.finish_outer (s : State) (num : Nat) (st : PageSt) : (State.finish s num st).outer = s.outer := State.still_outer (State.finish_still s num st)

@[simp] theorem State.finish_kept (s : State) (num : Nat) (st : PageSt) : (State.finish s num st).kept = s.kept := State.still_kept (State.finish_still s num st)

@[simp] theorem State.finish_ram (s : State) (num : Nat) (st : PageSt) : (State.finish s num st).ram = s.ram := State.still_ram (State.finish_still s num st)

@[simp] theorem State.flushEvents_still (s : State) (n : Nat) : (State.flushEvents s n).still = s.still := by
  unfold State.flushEvents; (try simp); all_goals ((repeat' split) <;> (first | with_reducible rfl | (simp; done) | (simp_all; done)))

@[simp] theorem State.flushEvents_outer (s : State) (n : Nat) : (State.flushEvents s n).outer = s.outer := State.still_outer (State.flushEvents_still s n)

@[simp] theorem State.flushEvents_kept (s : State) (n : Nat) : (State.flushEvents s n).kept = s.kept := State.still_kept (State.flushEvents_still s n)

@[simp] theorem State.flushEvents_ram (s : State) (n : Nat) : (State.flushEvents s n).ram = s.ram := State.still_ram (State.flushEvents_still s n)

@[simp] theorem State.fail_still (s : State) (num : Nat) (reason : Nat) : (State.fail s num reason).still = s.still := by
  unfold State.fail; (try simp); all_goals ((repeat' split) <;> (first | with_reducible rfl | (simp; done) | (simp_all; done)))

@[simp] theorem State.fail_outer (s : State) (num : Nat) (reason : Nat) : (State.fail s num reason).outer = s.outer := State.still_outer (State.fail_still s num reason)

@[simp] theorem State.fail_kept (s : State) (num : Nat) (reason : Nat) : (State.fail s num reason).kept = s.kept := State.still_kept (State.fail_still s num reason)

@[simp] theorem State.fail_ram (s : State) (num : Nat) (reason : Nat) : (State.fail s num reason).ram = s.ram := State.still_ram (State.fail_still s num reason)

@[simp] theorem State.froggedBy_still (s : State) (num : Nat) (origin : Nat) : (State.froggedBy s num origin).still = s.still := by
  unfold State.froggedBy; (try simp); all_goals ((repeat' split) <;> (first | with_reducible rfl | (simp; done) | (simp_all; done)))

@[simp] theorem State.froggedBy_outer (s : State) (num : Nat) (origin : Nat) : (State.froggedBy s num origin).outer = s.outer := State.still_outer (State.froggedBy_still s num origin)

@[simp] theorem State.froggedBy_kept (s : State) (num : Nat) (origin : Nat) : (State.froggedBy s num origin).kept = s.kept := State.still_kept (State.froggedBy_still s num origin)

@[simp] theorem State.froggedBy_ram (s : State) (num : Nat) (origin : Nat) : (State.froggedBy s num origin).ram = s.ram := State.still_ram (State.froggedBy_still s num origin)

@[simp] theorem State.rerender_still (s : State) (num : Nat) : (State.rerender s num).still = s.still := by
  unfold State.rerender; (try simp); all_goals ((repeat' split) <;> (first | with_reducible rfl | (simp; done) | (simp_all; done)))

@[simp] theorem State.rerender_outer (s : State) (num : Nat) : (State.rerender s num).outer = s.outer := State.still_outer (State.rerender_still s num)

@[simp] theorem State.rerender_kept (s : State) (num : Nat) : (State.rerender s num).kept = s.kept := State.still_kept (State.rerender_still s num)

@[simp] theorem State.rerender_ram (s : State) (num : Nat) : (State.rerender s num).ram = s.ram := State.still_ram (State.rerender_still s num)

@[simp] theorem State.endAfter_still (s : State) (num : Nat) (n : Nat) : (State.endAfter s num n).still = s.still := by
  unfold State.endAfter; (try simp); all_goals ((repeat' split) <;> (first | with_reducible rfl | (simp; done) | (simp_all; done)))

@[simp] theorem State.endAfter_outer (s : State) (num : Nat) (n : Nat) : (State.endAfter s num n).outer = s.outer := State.still_outer (State.endAfter_still s num n)

@[simp] theorem State.endAfter_kept (s : State) (num : Nat) (n : Nat) : (State.endAfter s num n).kept = s.kept := State.still_kept (State.endAfter_still s num n)

@[simp] theorem State.endAfter_ram (s : State) (num : Nat) (n : Nat) : (State.endAfter s num n).ram = s.ram := State.still_ram (State.endAfter_still s num n)

@[simp] theorem State.endCurrent_still (s : State) (num : Nat) : (State.endCurrent s num).still = s.still := by
  unfold State.endCurrent; (try simp); all_goals ((repeat' split) <;> (first | with_reducible rfl | (simp; done) | (simp_all; done)))

@[simp] theorem State.endCurrent_outer (s : State) (num : Nat) : (State.endCurrent s num).outer = s.outer := State.still_outer (State.endCurrent_still s num)

@[simp] theorem State.endCurrent_kept (s : State) (num : Nat) : (State.endCurrent s num).kept = s.kept := State.still_kept (State.endCurrent_still s num)

@[simp] theorem State.endCurrent_ram (s : State) (num : Nat) : (State.endCurrent s num).ram = s.ram := State.still_ram (State.endCurrent_still s num)

@[simp] theorem State.spoilPulse_still (s : State) (i : Inst) : (State.spoilPulse s i).still = s.still := by
  unfold State.spoilPulse; (try simp); all_goals ((repeat' split) <;> (first | with_reducible rfl | (simp; done) | (simp_all; done)))

@[simp] theorem State.spoilPulse_outer (s : State) (i : Inst) : (State.spoilPulse s i).outer = s.outer := State.still_outer (State.spoilPulse_still s i)

@[simp] theorem State.spoilPulse_kept (s : State) (i : Inst) : (State.spoilPulse s i).kept = s.kept := State.still_kept (State.spoilPulse_still s i)

@[simp] theorem State.spoilPulse_ram (s : State) (i : Inst) : (State.spoilPulse s i).ram = s.ram := State.still_ram (State.spoilPulse_still s i)

@[simp] theorem State.updInst_still (s : State) (num : Nat) (idx : Nat) (f : Inst → Inst) : (State.updInst s num idx f).still = s.still := by
  unfold State.updInst; (try simp); all_goals ((repeat' split) <;> (first | with_reducible rfl | (simp; done) | (simp_all; done)))

@[simp] theorem State.updInst_outer (s : State) (num : Nat) (idx : Nat) (f : Inst → Inst) : (State.updInst s num idx f).outer = s.outer := State.still_outer (State.updInst_still s num idx f)

@[simp] theorem State.updInst_kept (s : State) (num : Nat) (idx : Nat) (f : Inst → Inst) : (State.updInst s num idx f).kept = s.kept := State.still_kept (State.updInst_still s num idx f)

@[simp] theorem State.updInst_ram (s : State) (num : Nat) (idx : Nat) (f : Inst → Inst) : (State.updInst s num idx f).ram = s.ram := State.still_ram (State.updInst_still s num idx f)

@[simp] theorem State.spoil_still (s : State) (num : Nat) (idx : Nat) (reason : Nat) (line : Nat) (port : Nat) : (State.spoil s num idx reason line port).still = s.still := by
  unfold State.spoil; (try simp); all_goals ((repeat' split) <;> (first | with_reducible rfl | (simp; done) | (simp_all; done)))

@[simp] theorem State.spoil_outer (s : State) (num : Nat) (idx : Nat) (reason : Nat) (line : Nat) (port : Nat) : (State.spoil s num idx reason line port).outer = s.outer := State.still_outer (State.spoil_still s num idx reason line port)

@[simp] theorem State.spoil_kept (s : State) (num : Nat) (idx : Nat) (reason : Nat) (line : Nat) (port : Nat) : (State.spoil s num idx reason line port).kept = s.kept := State.still_kept (State.spoil_still s num idx reason line port)

@[simp] theorem State.spoil_ram (s : State) (num : Nat) (idx : Nat) (reason : Nat) (line : Nat) (port : Nat) : (State.spoil s num idx reason line port).ram = s.ram := State.still_ram (State.spoil_still s num idx reason line port)

@[simp] theorem State.spoilCurrent_still (s : State) (num : Nat) (reason : Nat) : (State.spoilCurrent s num reason).still = s.still := by
  unfold State.spoilCurrent; (try simp); all_goals ((repeat' split) <;> (first | with_reducible rfl | (simp; done) | (simp_all; done)))

@[simp] theorem State.spoilCurrent_outer (s : State) (num : Nat) (reason : Nat) : (State.spoilCurrent s num reason).outer = s.outer := State.still_outer (State.spoilCurrent_still s num reason)

@[simp] theorem State.spoilCurrent_kept (s : State) (num : Nat) (reason : Nat) : (State.spoilCurrent s num reason).kept = s.kept := State.still_kept (State.spoilCurrent_still s num reason)

@[simp] theorem State.spoilCurrent_ram (s : State) (num : Nat) (reason : Nat) : (State.spoilCurrent s num reason).ram = s.ram := State.still_ram (State.spoilCurrent_still s num reason)

@[simp] theorem State.spoilPrinting_still (s : State) (reason : Nat) : (State.spoilPrinting s reason).still = s.still := by
  unfold State.spoilPrinting; (try simp); all_goals ((repeat' split) <;> (first | with_reducible rfl | (simp; done) | (simp_all; done)))

@[simp] theorem State.spoilPrinting_outer (s : State) (reason : Nat) : (State.spoilPrinting s reason).outer = s.outer := State.still_outer (State.spoilPrinting_still s reason)

@[simp] theorem State.spoilPrinting_kept (s : State) (reason : Nat) : (State.spoilPrinting s reason).kept = s.kept := State.still_kept (State.spoilPrinting_still s reason)

@[simp] theorem State.spoilPrinting_ram (s : State) (reason : Nat) : (State.spoilPrinting s reason).ram = s.ram := State.still_ram (State.spoilPrinting_still s reason)

@[simp] theorem State.spoilOther_still (s : State) (num : Nat) : (State.spoilOther s num).still = s.still := by
  unfold State.spoilOther; (try simp); all_goals ((repeat' split) <;> (first | with_reducible rfl | (simp; done) | (simp_all; done)))

@[simp] theorem State.spoilOther_outer (s : State) (num : Nat) : (State.spoilOther s num).outer = s.outer := State.still_outer (State.spoilOther_still s num)

@[simp] theorem State.spoilOther_kept (s : State) (num : Nat) : (State.spoilOther s num).kept = s.kept := State.still_kept (State.spoilOther_still s num)

@[simp] theorem State.spoilOther_ram (s : State) (num : Nat) : (State.spoilOther s num).ram = s.ram := State.still_ram (State.spoilOther_still s num)

@[simp] theorem State.castOn_still (s : State) (num : Nat) (idx : Nat) (lo : Nat) (hi : Nat) : (State.castOn s num idx lo hi).still = s.still := by
  unfold State.castOn; (try simp); all_goals ((repeat' split) <;> (first | with_reducible rfl | (simp; done) | (simp_all; done)))

@[simp] theorem State.castOn_outer (s : State) (num : Nat) (idx : Nat) (lo : Nat) (hi : Nat) : (State.castOn s num idx lo hi).outer = s.outer := State.still_outer (State.castOn_still s num idx lo hi)

@[simp] theorem State.castOn_kept (s : State) (num : Nat) (idx : Nat) (lo : Nat) (hi : Nat) : (State.castOn s num idx lo hi).kept = s.kept := State.still_kept (State.castOn_still s num idx lo hi)

@[simp] theorem State.castOn_ram (s : State) (num : Nat) (idx : Nat) (lo : Nat) (hi : Nat) : (State.castOn s num idx lo hi).ram = s.ram := State.still_ram (State.castOn_still s num idx lo hi)

@[simp] theorem State.bindOff_still (s : State) (num : Nat) (idx : Nat) : (State.bindOff s num idx).still = s.still := by
  unfold State.bindOff; (try simp); all_goals ((repeat' split) <;> (first | with_reducible rfl | (simp; done) | (simp_all; done)))

@[simp] theorem State.bindOff_outer (s : State) (num : Nat) (idx : Nat) : (State.bindOff s num idx).outer = s.outer := State.still_outer (State.bindOff_still s num idx)

@[simp] theorem State.bindOff_kept (s : State) (num : Nat) (idx : Nat) : (State.bindOff s num idx).kept = s.kept := State.still_kept (State.bindOff_still s num idx)

@[simp] theorem State.bindOff_ram (s : State) (num : Nat) (idx : Nat) : (State.bindOff s num idx).ram = s.ram := State.still_ram (State.bindOff_still s num idx)

@[simp] theorem State.withdraw_still (s : State) (num : Nat) : (State.withdraw s num).still = s.still := by
  unfold State.withdraw; (try simp); all_goals ((repeat' split) <;> (first | with_reducible rfl | (simp; done) | (simp_all; done)))

@[simp] theorem State.withdraw_outer (s : State) (num : Nat) : (State.withdraw s num).outer = s.outer := State.still_outer (State.withdraw_still s num)

@[simp] theorem State.withdraw_kept (s : State) (num : Nat) : (State.withdraw s num).kept = s.kept := State.still_kept (State.withdraw_still s num)

@[simp] theorem State.withdraw_ram (s : State) (num : Nat) : (State.withdraw s num).ram = s.ram := State.still_ram (State.withdraw_still s num)

@[simp] theorem State.frogPage_still (s : State) (num : Nat) (origin : Nat) (fromMaster : Bool) : (State.frogPage s num origin fromMaster).1.still = s.still := by
  unfold State.frogPage; (try simp); all_goals ((repeat' split) <;> (first | with_reducible rfl | (simp; done) | (simp_all; done)))

@[simp] theorem State.frogPage_outer (s : State) (num : Nat) (origin : Nat) (fromMaster : Bool) : (State.frogPage s num origin fromMaster).1.outer = s.outer := State.still_outer (State.frogPage_still s num origin fromMaster)

@[simp] theorem State.frogPage_kept (s : State) (num : Nat) (origin : Nat) (fromMaster : Bool) : (State.frogPage s num origin fromMaster).1.kept = s.kept := State.still_kept (State.frogPage_still s num origin fromMaster)

@[simp] theorem State.frogPage_ram (s : State) (num : Nat) (origin : Nat) (fromMaster : Bool) : (State.frogPage s num origin fromMaster).1.ram = s.ram := State.still_ram (State.frogPage_still s num origin fromMaster)

@[simp] theorem State.closePages_still (s : State) (ns : Nat) : (State.closePages s ns).still = s.still := by
  unfold State.closePages; (try simp); all_goals ((repeat' split) <;> (first | with_reducible rfl | (simp; done) | (simp_all; done)))

@[simp] theorem State.closePages_outer (s : State) (ns : Nat) : (State.closePages s ns).outer = s.outer := State.still_outer (State.closePages_still s ns)

@[simp] theorem State.closePages_kept (s : State) (ns : Nat) : (State.closePages s ns).kept = s.kept := State.still_kept (State.closePages_still s ns)

@[simp] theorem State.closePages_ram (s : State) (ns : Nat) : (State.closePages s ns).ram = s.ram := State.still_ram (State.closePages_still s ns)

@[simp] theorem State.pulsesOf_still (s : State) (num : Nat) : (State.pulsesOf s num).still = s.still := by
  unfold State.pulsesOf; (try simp); all_goals ((repeat' split) <;> (first | with_reducible rfl | (simp; done) | (simp_all; done)))

@[simp] theorem State.pulsesOf_outer (s : State) (num : Nat) : (State.pulsesOf s num).outer = s.outer := State.still_outer (State.pulsesOf_still s num)

@[simp] theorem State.pulsesOf_kept (s : State) (num : Nat) : (State.pulsesOf s num).kept = s.kept := State.still_kept (State.pulsesOf_still s num)

@[simp] theorem State.pulsesOf_ram (s : State) (num : Nat) : (State.pulsesOf s num).ram = s.ram := State.still_ram (State.pulsesOf_still s num)

@[simp] theorem State.safePages_still (s : State) : (State.safePages s).still = s.still := by
  unfold State.safePages; (try simp); all_goals ((repeat' split) <;> (first | with_reducible rfl | (simp; done) | (simp_all; done)))

@[simp] theorem State.safePages_outer (s : State) : (State.safePages s).outer = s.outer := State.still_outer (State.safePages_still s)

@[simp] theorem State.safePages_kept (s : State) : (State.safePages s).kept = s.kept := State.still_kept (State.safePages_still s)

@[simp] theorem State.safePages_ram (s : State) : (State.safePages s).ram = s.ram := State.still_ram (State.safePages_still s)

end Sys2Proof.Machine
end

