-- ==== Sys2Proof/Laws/OuterIntegrity.lean ====
section
/-! SUPPORT. What the operations of Machine/Integrity.lean leave alone: the queue, the idle time, the clock and the boot record (`outer`); flash, settings copies, update service and recovery (`kept`); the bytes of DRAM and staging (`ram`). -/

namespace Sys2Proof.Machine

@[simp] theorem State.memWrite_outer (s : State) (a : Nat) (bs : Bytes) : (State.memWrite s a bs).outer = s.outer := by
  unfold State.memWrite; (try simp); all_goals ((repeat' split) <;> (first | with_reducible rfl | (simp; done) | (simp_all; done)))

@[simp] theorem State.memWrite_kept (s : State) (a : Nat) (bs : Bytes) : (State.memWrite s a bs).kept = s.kept := by
  unfold State.memWrite; (try simp); all_goals ((repeat' split) <;> (first | with_reducible rfl | (simp; done) | (simp_all; done)))

@[simp] theorem State.bucketAdd_still (s : State) (c : Nat) : (State.bucketAdd s c).still = s.still := by
  unfold State.bucketAdd; (try simp); all_goals ((repeat' split) <;> (first | with_reducible rfl | (simp; done) | (simp_all; done)))

@[simp] theorem State.bucketAdd_outer (s : State) (c : Nat) : (State.bucketAdd s c).outer = s.outer := State.still_outer (State.bucketAdd_still s c)

@[simp] theorem State.bucketAdd_kept (s : State) (c : Nat) : (State.bucketAdd s c).kept = s.kept := State.still_kept (State.bucketAdd_still s c)

@[simp] theorem State.bucketAdd_ram (s : State) (c : Nat) : (State.bucketAdd s c).ram = s.ram := State.still_ram (State.bucketAdd_still s c)

@[simp] theorem State.parityError_still (s : State) (c : Nat) (array : Nat) (outcome : Nat) (reader : Nat) (loc : Nat) (page : Nat) : (State.parityError s c array outcome reader loc page).still = s.still := by
  unfold State.parityError; (try simp); all_goals ((repeat' split) <;> (first | with_reducible rfl | (simp; done) | (simp_all; done)))

@[simp] theorem State.parityError_outer (s : State) (c : Nat) (array : Nat) (outcome : Nat) (reader : Nat) (loc : Nat) (page : Nat) : (State.parityError s c array outcome reader loc page).outer = s.outer := State.still_outer (State.parityError_still s c array outcome reader loc page)

@[simp] theorem State.parityError_kept (s : State) (c : Nat) (array : Nat) (outcome : Nat) (reader : Nat) (loc : Nat) (page : Nat) : (State.parityError s c array outcome reader loc page).kept = s.kept := State.still_kept (State.parityError_still s c array outcome reader loc page)

@[simp] theorem State.parityError_ram (s : State) (c : Nat) (array : Nat) (outcome : Nat) (reader : Nat) (loc : Nat) (page : Nat) : (State.parityError s c array outcome reader loc page).ram = s.ram := State.still_ram (State.parityError_still s c array outcome reader loc page)

@[simp] theorem State.parityIn_still (s : State) (c : Nat) (array : Nat) (outcome : Nat) (reader : Nat) (base : Nat) (size : Nat) (page : Nat) : (State.parityIn s c array outcome reader base size page).still = s.still := by
  unfold State.parityIn; (try simp); all_goals ((repeat' split) <;> (first | with_reducible rfl | (simp; done) | (simp_all; done)))

@[simp] theorem State.parityIn_outer (s : State) (c : Nat) (array : Nat) (outcome : Nat) (reader : Nat) (base : Nat) (size : Nat) (page : Nat) : (State.parityIn s c array outcome reader base size page).outer = s.outer := State.still_outer (State.parityIn_still s c array outcome reader base size page)

@[simp] theorem State.parityIn_kept (s : State) (c : Nat) (array : Nat) (outcome : Nat) (reader : Nat) (base : Nat) (size : Nat) (page : Nat) : (State.parityIn s c array outcome reader base size page).kept = s.kept := State.still_kept (State.parityIn_still s c array outcome reader base size page)

@[simp] theorem State.parityIn_ram (s : State) (c : Nat) (array : Nat) (outcome : Nat) (reader : Nat) (base : Nat) (size : Nat) (page : Nat) : (State.parityIn s c array outcome reader base size page).ram = s.ram := State.still_ram (State.parityIn_still s c array outcome reader base size page)

@[simp] theorem State.parityCache_still (s : State) (outcome : Nat) (page : Nat) : (State.parityCache s outcome page).still = s.still := by
  unfold State.parityCache; (try simp); all_goals ((repeat' split) <;> (first | with_reducible rfl | (simp; done) | (simp_all; done)))

@[simp] theorem State.parityCache_outer (s : State) (outcome : Nat) (page : Nat) : (State.parityCache s outcome page).outer = s.outer := State.still_outer (State.parityCache_still s outcome page)

@[simp] theorem State.parityCache_kept (s : State) (outcome : Nat) (page : Nat) : (State.parityCache s outcome page).kept = s.kept := State.still_kept (State.parityCache_still s outcome page)

@[simp] theorem State.parityCache_ram (s : State) (outcome : Nat) (page : Nat) : (State.parityCache s outcome page).ram = s.ram := State.still_ram (State.parityCache_still s outcome page)

@[simp] theorem State.poisonSeen_still (s : State) (c : Nat) (consumer : Nat) (master : Nat) (sev : Nat) (page : Nat) : (State.poisonSeen s c consumer master sev page).still = s.still := by
  unfold State.poisonSeen; (try simp); all_goals ((repeat' split) <;> (first | with_reducible rfl | (simp; done) | (simp_all; done)))

@[simp] theorem State.poisonSeen_outer (s : State) (c : Nat) (consumer : Nat) (master : Nat) (sev : Nat) (page : Nat) : (State.poisonSeen s c consumer master sev page).outer = s.outer := State.still_outer (State.poisonSeen_still s c consumer master sev page)

@[simp] theorem State.poisonSeen_kept (s : State) (c : Nat) (consumer : Nat) (master : Nat) (sev : Nat) (page : Nat) : (State.poisonSeen s c consumer master sev page).kept = s.kept := State.still_kept (State.poisonSeen_still s c consumer master sev page)

@[simp] theorem State.poisonSeen_ram (s : State) (c : Nat) (consumer : Nat) (master : Nat) (sev : Nat) (page : Nat) : (State.poisonSeen s c consumer master sev page).ram = s.ram := State.still_ram (State.poisonSeen_still s c consumer master sev page)

@[simp] theorem State.poisonConsumed_still (s : State) (c : Nat) (consumer : Nat) (sev : Nat) (page : Nat) : (State.poisonConsumed s c consumer sev page).still = s.still := by
  unfold State.poisonConsumed; (try simp); all_goals ((repeat' split) <;> (first | with_reducible rfl | (simp; done) | (simp_all; done)))

@[simp] theorem State.poisonConsumed_outer (s : State) (c : Nat) (consumer : Nat) (sev : Nat) (page : Nat) : (State.poisonConsumed s c consumer sev page).outer = s.outer := State.still_outer (State.poisonConsumed_still s c consumer sev page)

@[simp] theorem State.poisonConsumed_kept (s : State) (c : Nat) (consumer : Nat) (sev : Nat) (page : Nat) : (State.poisonConsumed s c consumer sev page).kept = s.kept := State.still_kept (State.poisonConsumed_still s c consumer sev page)

@[simp] theorem State.poisonConsumed_ram (s : State) (c : Nat) (consumer : Nat) (sev : Nat) (page : Nat) : (State.poisonConsumed s c consumer sev page).ram = s.ram := State.still_ram (State.poisonConsumed_still s c consumer sev page)

@[simp] theorem State.ringFault_still (s : State) (q : Nat) (cause : Nat) : (State.ringFault s q cause).still = s.still := by
  unfold State.ringFault; (try simp); all_goals ((repeat' split) <;> (first | with_reducible rfl | (simp; done) | (simp_all; done)))

@[simp] theorem State.ringFault_outer (s : State) (q : Nat) (cause : Nat) : (State.ringFault s q cause).outer = s.outer := State.still_outer (State.ringFault_still s q cause)

@[simp] theorem State.ringFault_kept (s : State) (q : Nat) (cause : Nat) : (State.ringFault s q cause).kept = s.kept := State.still_kept (State.ringFault_still s q cause)

@[simp] theorem State.ringFault_ram (s : State) (q : Nat) (cause : Nat) : (State.ringFault s q cause).ram = s.ram := State.still_ram (State.ringFault_still s q cause)

@[simp] theorem State.ringTake_still (s : State) (q : Nat) : (State.ringTake s q).1.still = s.still := by
  unfold State.ringTake; (try simp); all_goals ((repeat' split) <;> (first | with_reducible rfl | (simp; done) | (simp_all; done)))

@[simp] theorem State.ringTake_outer (s : State) (q : Nat) : (State.ringTake s q).1.outer = s.outer := State.still_outer (State.ringTake_still s q)

@[simp] theorem State.ringTake_kept (s : State) (q : Nat) : (State.ringTake s q).1.kept = s.kept := State.still_kept (State.ringTake_still s q)

@[simp] theorem State.ringTake_ram (s : State) (q : Nat) : (State.ringTake s q).1.ram = s.ram := State.still_ram (State.ringTake_still s q)

@[simp] theorem State.ringRead_still (s : State) (q : Nat) (bad : Bool) : (State.ringRead s q bad).still = s.still := by
  unfold State.ringRead; (try simp); all_goals ((repeat' split) <;> (first | with_reducible rfl | (simp; done) | (simp_all; done)))

@[simp] theorem State.ringRead_outer (s : State) (q : Nat) (bad : Bool) : (State.ringRead s q bad).outer = s.outer := State.still_outer (State.ringRead_still s q bad)

@[simp] theorem State.ringRead_kept (s : State) (q : Nat) (bad : Bool) : (State.ringRead s q bad).kept = s.kept := State.still_kept (State.ringRead_still s q bad)

@[simp] theorem State.ringRead_ram (s : State) (q : Nat) (bad : Bool) : (State.ringRead s q bad).ram = s.ram := State.still_ram (State.ringRead_still s q bad)

@[simp] theorem State.leakOne_still (s : State) (c lvl : Nat) : (s.leakOne c lvl).still = s.still := by
  cases lvl with
  | zero => rfl
  | succ n => simp [State.leakOne]

@[simp] theorem State.leakOne_outer (s : State) (c lvl : Nat) : (s.leakOne c lvl).outer = s.outer := State.still_outer (State.leakOne_still s c lvl)

@[simp] theorem State.leakOne_kept (s : State) (c lvl : Nat) : (s.leakOne c lvl).kept = s.kept := State.still_kept (State.leakOne_still s c lvl)

@[simp] theorem State.leakOne_ram (s : State) (c lvl : Nat) : (s.leakOne c lvl).ram = s.ram := State.still_ram (State.leakOne_still s c lvl)

@[simp] theorem State.leak_still (s : State) (c : Nat) : (State.leak s c).still = s.still := by
  unfold State.leak; (try simp); all_goals ((repeat' split) <;> (first | with_reducible rfl | (simp; done) | (simp_all; done)))

@[simp] theorem State.leak_outer (s : State) (c : Nat) : (State.leak s c).outer = s.outer := State.still_outer (State.leak_still s c)

@[simp] theorem State.leak_kept (s : State) (c : Nat) : (State.leak s c).kept = s.kept := State.still_kept (State.leak_still s c)

@[simp] theorem State.leak_ram (s : State) (c : Nat) : (State.leak s c).ram = s.ram := State.still_ram (State.leak_still s c)

@[simp] theorem State.leakBase_still (s : State) (c : Nat) : (State.leakBase s c).still = s.still := by
  unfold State.leakBase; (try simp); all_goals ((repeat' split) <;> (first | with_reducible rfl | (simp; done) | (simp_all; done)))

@[simp] theorem State.leakBase_outer (s : State) (c : Nat) : (State.leakBase s c).outer = s.outer := State.still_outer (State.leakBase_still s c)

@[simp] theorem State.leakBase_kept (s : State) (c : Nat) : (State.leakBase s c).kept = s.kept := State.still_kept (State.leakBase_still s c)

@[simp] theorem State.leakBase_ram (s : State) (c : Nat) : (State.leakBase s c).ram = s.ram := State.still_ram (State.leakBase_still s c)

@[simp] theorem State.crcReset_still (s : State) (u : Nat) : (State.crcReset s u).still = s.still := by
  unfold State.crcReset; (try simp); all_goals ((repeat' split) <;> (first | with_reducible rfl | (simp; done) | (simp_all; done)))

@[simp] theorem State.crcReset_outer (s : State) (u : Nat) : (State.crcReset s u).outer = s.outer := State.still_outer (State.crcReset_still s u)

@[simp] theorem State.crcReset_kept (s : State) (u : Nat) : (State.crcReset s u).kept = s.kept := State.still_kept (State.crcReset_still s u)

@[simp] theorem State.crcReset_ram (s : State) (u : Nat) : (State.crcReset s u).ram = s.ram := State.still_ram (State.crcReset_still s u)

@[simp] theorem State.crcPut_still (s : State) (u : Nat) (r : Nat) : (State.crcPut s u r).still = s.still := by
  unfold State.crcPut; (try simp); all_goals ((repeat' split) <;> (first | with_reducible rfl | (simp; done) | (simp_all; done)))

@[simp] theorem State.crcPut_outer (s : State) (u : Nat) (r : Nat) : (State.crcPut s u r).outer = s.outer := State.still_outer (State.crcPut_still s u r)

@[simp] theorem State.crcPut_kept (s : State) (u : Nat) (r : Nat) : (State.crcPut s u r).kept = s.kept := State.still_kept (State.crcPut_still s u r)

@[simp] theorem State.crcPut_ram (s : State) (u : Nat) (r : Nat) : (State.crcPut s u r).ram = s.ram := State.still_ram (State.crcPut_still s u r)

@[simp] theorem State.crcFeed_still (s : State) (u : Nat) (bs : Bytes) : (State.crcFeed s u bs).still = s.still := by
  unfold State.crcFeed; (try simp); all_goals ((repeat' split) <;> (first | with_reducible rfl | (simp; done) | (simp_all; done)))

@[simp] theorem State.crcFeed_outer (s : State) (u : Nat) (bs : Bytes) : (State.crcFeed s u bs).outer = s.outer := State.still_outer (State.crcFeed_still s u bs)

@[simp] theorem State.crcFeed_kept (s : State) (u : Nat) (bs : Bytes) : (State.crcFeed s u bs).kept = s.kept := State.still_kept (State.crcFeed_still s u bs)

@[simp] theorem State.crcFeed_ram (s : State) (u : Nat) (bs : Bytes) : (State.crcFeed s u bs).ram = s.ram := State.still_ram (State.crcFeed_still s u bs)

@[simp] theorem State.crcCompare_still (s : State) (u : Nat) : (State.crcCompare s u).still = s.still := by
  unfold State.crcCompare; (try simp); all_goals ((repeat' split) <;> (first | with_reducible rfl | (simp; done) | (simp_all; done)))

@[simp] theorem State.crcCompare_outer (s : State) (u : Nat) : (State.crcCompare s u).outer = s.outer := State.still_outer (State.crcCompare_still s u)

@[simp] theorem State.crcCompare_kept (s : State) (u : Nat) : (State.crcCompare s u).kept = s.kept := State.still_kept (State.crcCompare_still s u)

@[simp] theorem State.crcCompare_ram (s : State) (u : Nat) : (State.crcCompare s u).ram = s.ram := State.still_ram (State.crcCompare_still s u)

end Sys2Proof.Machine
end

