-- ==== Sys2Proof/Laws/OuterFop.lean ====
section
/-! SUPPORT. What the operations of Machine/Fop.lean leave alone: the queue, the idle time, the clock and the boot record (`outer`); flash, settings copies, update service and recovery (`kept`); the bytes of DRAM and staging (`ram`). -/

namespace Sys2Proof.Machine

@[simp] theorem State.updClient_still (s : State) (p : Peer) (f : Client → Client) : (State.updClient s p f).still = s.still := by
  unfold State.updClient; (try simp); all_goals ((repeat' split) <;> (first | with_reducible rfl | (simp; done) | (simp_all; done)))

@[simp] theorem State.updClient_outer (s : State) (p : Peer) (f : Client → Client) : (State.updClient s p f).outer = s.outer := State.still_outer (State.updClient_still s p f)

@[simp] theorem State.updClient_kept (s : State) (p : Peer) (f : Client → Client) : (State.updClient s p f).kept = s.kept := State.still_kept (State.updClient_still s p f)

@[simp] theorem State.updClient_ram (s : State) (p : Peer) (f : Client → Client) : (State.updClient s p f).ram = s.ram := State.still_ram (State.updClient_still s p f)

@[simp] theorem State.fopReply_still (s : State) (h : FopHead) (own : Nat) (op : Nat) (key : Nat) (status : Nat) (payload : Bytes) : (State.fopReply s h own op key status payload).still = s.still := by
  unfold State.fopReply; (try simp); all_goals ((repeat' split) <;> (first | with_reducible rfl | (simp; done) | (simp_all; done)))

@[simp] theorem State.fopReply_outer (s : State) (h : FopHead) (own : Nat) (op : Nat) (key : Nat) (status : Nat) (payload : Bytes) : (State.fopReply s h own op key status payload).outer = s.outer := State.still_outer (State.fopReply_still s h own op key status payload)

@[simp] theorem State.fopReply_kept (s : State) (h : FopHead) (own : Nat) (op : Nat) (key : Nat) (status : Nat) (payload : Bytes) : (State.fopReply s h own op key status payload).kept = s.kept := State.still_kept (State.fopReply_still s h own op key status payload)

@[simp] theorem State.fopReply_ram (s : State) (h : FopHead) (own : Nat) (op : Nat) (key : Nat) (status : Nat) (payload : Bytes) : (State.fopReply s h own op key status payload).ram = s.ram := State.still_ram (State.fopReply_still s h own op key status payload)

@[simp] theorem State.touchClient_still (s : State) (p : Peer) : (State.touchClient s p).still = s.still := by
  unfold State.touchClient; (try simp); all_goals ((repeat' split) <;> (first | with_reducible rfl | (simp; done) | (simp_all; done)))

@[simp] theorem State.touchClient_outer (s : State) (p : Peer) : (State.touchClient s p).outer = s.outer := State.still_outer (State.touchClient_still s p)

@[simp] theorem State.touchClient_kept (s : State) (p : Peer) : (State.touchClient s p).kept = s.kept := State.still_kept (State.touchClient_still s p)

@[simp] theorem State.touchClient_ram (s : State) (p : Peer) : (State.touchClient s p).ram = s.ram := State.still_ram (State.touchClient_still s p)

@[simp] theorem State.fopCount_still (s : State) : (State.fopCount s).still = s.still := by
  unfold State.fopCount; (try simp); all_goals ((repeat' split) <;> (first | with_reducible rfl | (simp; done) | (simp_all; done)))

@[simp] theorem State.fopCount_outer (s : State) : (State.fopCount s).outer = s.outer := State.still_outer (State.fopCount_still s)

@[simp] theorem State.fopCount_kept (s : State) : (State.fopCount s).kept = s.kept := State.still_kept (State.fopCount_still s)

@[simp] theorem State.fopCount_ram (s : State) : (State.fopCount s).ram = s.ram := State.still_ram (State.fopCount_still s)

@[simp] theorem State.serve_outer (s : State) (h : FopHead) (op key : Nat) (act : State → State × Nat × Bytes)
    (ha : ∀ s, (act s).1.outer = s.outer) : (s.serve h op key act).outer = s.outer := by
  unfold State.serve
  dsimp only
  split
  · rfl
  · split
    · simp
    · split
      · simp
      · split
        · simp
        · split <;> simp [ha]

@[simp] theorem State.serve_kept (s : State) (h : FopHead) (op key : Nat) (act : State → State × Nat × Bytes)
    (ha : ∀ s, (act s).1.kept = s.kept) : (s.serve h op key act).kept = s.kept := by
  unfold State.serve
  dsimp only
  split
  · rfl
  · split
    · simp
    · split
      · simp
      · split
        · simp
        · split <;> simp [ha]

@[simp] theorem State.serve_ram (s : State) (h : FopHead) (op key : Nat) (act : State → State × Nat × Bytes)
    (ha : ∀ s, (act s).1.ram = s.ram) : (s.serve h op key act).ram = s.ram := by
  unfold State.serve
  dsimp only
  split
  · rfl
  · split
    · simp
    · split
      · simp
      · split
        · simp
        · split <;> simp [ha]

@[simp] theorem State.serveCmd_outer (s : State) (h : FopHead) (key : Nat) (act : State → State × Bool)
    (ha : ∀ s, (act s).1.outer = s.outer) : (s.serveCmd h key act).outer = s.outer := by
  unfold State.serveCmd
  simp [ha]

@[simp] theorem State.serveCmd_kept (s : State) (h : FopHead) (key : Nat) (act : State → State × Bool)
    (ha : ∀ s, (act s).1.kept = s.kept) : (s.serveCmd h key act).kept = s.kept := by
  unfold State.serveCmd
  simp [ha]

@[simp] theorem State.serveCmd_ram (s : State) (h : FopHead) (key : Nat) (act : State → State × Bool)
    (ha : ∀ s, (act s).1.ram = s.ram) : (s.serveCmd h key act).ram = s.ram := by
  unfold State.serveCmd
  simp [ha]

end Sys2Proof.Machine
end

