-- ==== Sys2Proof/Laws/OuterAxes.lean ====
section
/-! SUPPORT. What the operations of Machine/Axes.lean leave alone: the queue, the idle time, the clock and the boot record (`outer`); flash, settings copies, update service and recovery (`kept`); the bytes of DRAM and staging (`ram`). -/

namespace Sys2Proof.Machine

@[simp] theorem State.posCheck_still (s : State) : (State.posCheck s).still = s.still := by
  unfold State.posCheck; (try simp); all_goals ((repeat' split) <;> (first | with_reducible rfl | (simp; done) | (simp_all; done)))

@[simp] theorem State.posCheck_outer (s : State) : (State.posCheck s).outer = s.outer := State.still_outer (State.posCheck_still s)

@[simp] theorem State.posCheck_kept (s : State) : (State.posCheck s).kept = s.kept := State.still_kept (State.posCheck_still s)

@[simp] theorem State.posCheck_ram (s : State) : (State.posCheck s).ram = s.ram := State.still_ram (State.posCheck_still s)

@[simp] theorem State.updAxis_still (s : State) (a : Nat) (f : Axis → Axis) : (State.updAxis s a f).still = s.still := by
  unfold State.updAxis; (try simp); all_goals ((repeat' split) <;> (first | with_reducible rfl | (simp; done) | (simp_all; done)))

@[simp] theorem State.updAxis_outer (s : State) (a : Nat) (f : Axis → Axis) : (State.updAxis s a f).outer = s.outer := State.still_outer (State.updAxis_still s a f)

@[simp] theorem State.updAxis_kept (s : State) (a : Nat) (f : Axis → Axis) : (State.updAxis s a f).kept = s.kept := State.still_kept (State.updAxis_still s a f)

@[simp] theorem State.updAxis_ram (s : State) (a : Nat) (f : Axis → Axis) : (State.updAxis s a f).ram = s.ram := State.still_ram (State.updAxis_still s a f)

@[simp] theorem State.setAxisPos_still (s : State) (a : Nat) (p : Int) : (State.setAxisPos s a p).still = s.still := by
  unfold State.setAxisPos; (try simp); all_goals ((repeat' split) <;> (first | with_reducible rfl | (simp; done) | (simp_all; done)))

@[simp] theorem State.setAxisPos_outer (s : State) (a : Nat) (p : Int) : (State.setAxisPos s a p).outer = s.outer := State.still_outer (State.setAxisPos_still s a p)

@[simp] theorem State.setAxisPos_kept (s : State) (a : Nat) (p : Int) : (State.setAxisPos s a p).kept = s.kept := State.still_kept (State.setAxisPos_still s a p)

@[simp] theorem State.setAxisPos_ram (s : State) (a : Nat) (p : Int) : (State.setAxisPos s a p).ram = s.ram := State.still_ram (State.setAxisPos_still s a p)

@[simp] theorem State.setAxisVel_still (s : State) (a : Nat) (v : Int) : (State.setAxisVel s a v).still = s.still := by
  unfold State.setAxisVel; (try simp); all_goals ((repeat' split) <;> (first | with_reducible rfl | (simp; done) | (simp_all; done)))

@[simp] theorem State.setAxisVel_outer (s : State) (a : Nat) (v : Int) : (State.setAxisVel s a v).outer = s.outer := State.still_outer (State.setAxisVel_still s a v)

@[simp] theorem State.setAxisVel_kept (s : State) (a : Nat) (v : Int) : (State.setAxisVel s a v).kept = s.kept := State.still_kept (State.setAxisVel_still s a v)

@[simp] theorem State.setAxisVel_ram (s : State) (a : Nat) (v : Int) : (State.setAxisVel s a v).ram = s.ram := State.still_ram (State.setAxisVel_still s a v)

@[simp] theorem State.putBackup_still (s : State) (b : Bytes) : (State.putBackup s b).still = s.still := by
  unfold State.putBackup; (try simp); all_goals ((repeat' split) <;> (first | with_reducible rfl | (simp; done) | (simp_all; done)))

@[simp] theorem State.putBackup_outer (s : State) (b : Bytes) : (State.putBackup s b).outer = s.outer := State.still_outer (State.putBackup_still s b)

@[simp] theorem State.putBackup_kept (s : State) (b : Bytes) : (State.putBackup s b).kept = s.kept := State.still_kept (State.putBackup_still s b)

@[simp] theorem State.putBackup_ram (s : State) (b : Bytes) : (State.putBackup s b).ram = s.ram := State.still_ram (State.putBackup_still s b)

@[simp] theorem State.noteReason_still (s : State) (reason : Nat) : (State.noteReason s reason).still = s.still := by
  unfold State.noteReason; (try simp); all_goals ((repeat' split) <;> (first | with_reducible rfl | (simp; done) | (simp_all; done)))

@[simp] theorem State.noteReason_outer (s : State) (reason : Nat) : (State.noteReason s reason).outer = s.outer := State.still_outer (State.noteReason_still s reason)

@[simp] theorem State.noteReason_kept (s : State) (reason : Nat) : (State.noteReason s reason).kept = s.kept := State.still_kept (State.noteReason_still s reason)

@[simp] theorem State.noteReason_ram (s : State) (reason : Nat) : (State.noteReason s reason).ram = s.ram := State.still_ram (State.noteReason_still s reason)

@[simp] theorem State.backupAxis_still (s : State) (a : Nat) : (State.backupAxis s a).still = s.still := by
  unfold State.backupAxis; (try simp); all_goals ((repeat' split) <;> (first | with_reducible rfl | (simp; done) | (simp_all; done)))

@[simp] theorem State.backupAxis_outer (s : State) (a : Nat) : (State.backupAxis s a).outer = s.outer := State.still_outer (State.backupAxis_still s a)

@[simp] theorem State.backupAxis_kept (s : State) (a : Nat) : (State.backupAxis s a).kept = s.kept := State.still_kept (State.backupAxis_still s a)

@[simp] theorem State.backupAxis_ram (s : State) (a : Nat) : (State.backupAxis s a).ram = s.ram := State.still_ram (State.backupAxis_still s a)

@[simp] theorem State.axisTo_still (s : State) (a : Nat) (new : Nat) (cause : Nat) : (State.axisTo s a new cause).still = s.still := by
  unfold State.axisTo; (try simp); all_goals ((repeat' split) <;> (first | with_reducible rfl | (simp; done) | (simp_all; done)))

@[simp] theorem State.axisTo_outer (s : State) (a : Nat) (new : Nat) (cause : Nat) : (State.axisTo s a new cause).outer = s.outer := State.still_outer (State.axisTo_still s a new cause)

@[simp] theorem State.axisTo_kept (s : State) (a : Nat) (new : Nat) (cause : Nat) : (State.axisTo s a new cause).kept = s.kept := State.still_kept (State.axisTo_still s a new cause)

@[simp] theorem State.axisTo_ram (s : State) (a : Nat) (new : Nat) (cause : Nat) : (State.axisTo s a new cause).ram = s.ram := State.still_ram (State.axisTo_still s a new cause)

@[simp] theorem State.startMove_still (s : State) (a : Nat) (k : Nat) (relative : Bool) (target : Int) (mask : Nat) (feed : Bool) : (State.startMove s a k relative target mask feed).1.still = s.still := by
  unfold State.startMove; (try simp); all_goals ((repeat' split) <;> (first | with_reducible rfl | (simp; done) | (simp_all; done)))

@[simp] theorem State.startMove_outer (s : State) (a : Nat) (k : Nat) (relative : Bool) (target : Int) (mask : Nat) (feed : Bool) : (State.startMove s a k relative target mask feed).1.outer = s.outer := State.still_outer (State.startMove_still s a k relative target mask feed)

@[simp] theorem State.startMove_kept (s : State) (a : Nat) (k : Nat) (relative : Bool) (target : Int) (mask : Nat) (feed : Bool) : (State.startMove s a k relative target mask feed).1.kept = s.kept := State.still_kept (State.startMove_still s a k relative target mask feed)

@[simp] theorem State.startMove_ram (s : State) (a : Nat) (k : Nat) (relative : Bool) (target : Int) (mask : Nat) (feed : Bool) : (State.startMove s a k relative target mask feed).1.ram = s.ram := State.still_ram (State.startMove_still s a k relative target mask feed)

@[simp] theorem State.stopGroup_still (s : State) (a : Nat) (k : Nat) (decs : List Nat) (cause : Nat) : (State.stopGroup s a k decs cause).still = s.still := by
  unfold State.stopGroup; (try simp); all_goals ((repeat' split) <;> (first | with_reducible rfl | (simp; done) | (simp_all; done)))

@[simp] theorem State.stopGroup_outer (s : State) (a : Nat) (k : Nat) (decs : List Nat) (cause : Nat) : (State.stopGroup s a k decs cause).outer = s.outer := State.still_outer (State.stopGroup_still s a k decs cause)

@[simp] theorem State.stopGroup_kept (s : State) (a : Nat) (k : Nat) (decs : List Nat) (cause : Nat) : (State.stopGroup s a k decs cause).kept = s.kept := State.still_kept (State.stopGroup_still s a k decs cause)

@[simp] theorem State.stopGroup_ram (s : State) (a : Nat) (k : Nat) (decs : List Nat) (cause : Nat) : (State.stopGroup s a k decs cause).ram = s.ram := State.still_ram (State.stopGroup_still s a k decs cause)

@[simp] theorem State.stopGear_still (s : State) (a : Nat) (k : Nat) (decs : List Nat) (cause : Nat) : (State.stopGear s a k decs cause).still = s.still := by
  unfold State.stopGear; (try simp); all_goals ((repeat' split) <;> (first | with_reducible rfl | (simp; done) | (simp_all; done)))

@[simp] theorem State.stopGear_outer (s : State) (a : Nat) (k : Nat) (decs : List Nat) (cause : Nat) : (State.stopGear s a k decs cause).outer = s.outer := State.still_outer (State.stopGear_still s a k decs cause)

@[simp] theorem State.stopGear_kept (s : State) (a : Nat) (k : Nat) (decs : List Nat) (cause : Nat) : (State.stopGear s a k decs cause).kept = s.kept := State.still_kept (State.stopGear_still s a k decs cause)

@[simp] theorem State.stopGear_ram (s : State) (a : Nat) (k : Nat) (decs : List Nat) (cause : Nat) : (State.stopGear s a k decs cause).ram = s.ram := State.still_ram (State.stopGear_still s a k decs cause)

@[simp] theorem State.stopAxis_still (s : State) (a : Nat) (k : Nat) (decs : List Nat) (cause : Nat) : (State.stopAxis s a k decs cause).still = s.still := by
  unfold State.stopAxis; (try simp); all_goals ((repeat' split) <;> (first | with_reducible rfl | (simp; done) | (simp_all; done)))

@[simp] theorem State.stopAxis_outer (s : State) (a : Nat) (k : Nat) (decs : List Nat) (cause : Nat) : (State.stopAxis s a k decs cause).outer = s.outer := State.still_outer (State.stopAxis_still s a k decs cause)

@[simp] theorem State.stopAxis_kept (s : State) (a : Nat) (k : Nat) (decs : List Nat) (cause : Nat) : (State.stopAxis s a k decs cause).kept = s.kept := State.still_kept (State.stopAxis_still s a k decs cause)

@[simp] theorem State.stopAxis_ram (s : State) (a : Nat) (k : Nat) (decs : List Nat) (cause : Nat) : (State.stopAxis s a k decs cause).ram = s.ram := State.still_ram (State.stopAxis_still s a k decs cause)

@[simp] theorem State.safeAxes_still (s : State) : (State.safeAxes s).still = s.still := by
  unfold State.safeAxes; (try simp); all_goals ((repeat' split) <;> (first | with_reducible rfl | (simp; done) | (simp_all; done)))

@[simp] theorem State.safeAxes_outer (s : State) : (State.safeAxes s).outer = s.outer := State.still_outer (State.safeAxes_still s)

@[simp] theorem State.safeAxes_kept (s : State) : (State.safeAxes s).kept = s.kept := State.still_kept (State.safeAxes_still s)

@[simp] theorem State.safeAxes_ram (s : State) : (State.safeAxes s).ram = s.ram := State.still_ram (State.safeAxes_still s)

@[simp] theorem State.actEnable_still (s : State) (a : Nat) : (State.actEnable s a).1.still = s.still := by
  unfold State.actEnable; (try simp); all_goals ((repeat' split) <;> (first | with_reducible rfl | (simp; done) | (simp_all; done)))

@[simp] theorem State.actEnable_outer (s : State) (a : Nat) : (State.actEnable s a).1.outer = s.outer := State.still_outer (State.actEnable_still s a)

@[simp] theorem State.actEnable_kept (s : State) (a : Nat) : (State.actEnable s a).1.kept = s.kept := State.still_kept (State.actEnable_still s a)

@[simp] theorem State.actEnable_ram (s : State) (a : Nat) : (State.actEnable s a).1.ram = s.ram := State.still_ram (State.actEnable_still s a)

@[simp] theorem State.actStart_still (s : State) (a : Nat) (start : State × Nat) (h : start.1.still = s.still) : (State.actStart s a start).1.still = s.still := by
  unfold State.actStart; (repeat' split) <;> first | rfl | exact h

@[simp] theorem State.actStart_outer (s : State) (a : Nat) (start : State × Nat) (h : start.1.outer = s.outer) : (State.actStart s a start).1.outer = s.outer := by
  unfold State.actStart; (repeat' split) <;> first | rfl | exact h

@[simp] theorem State.actStart_kept (s : State) (a : Nat) (start : State × Nat) (h : start.1.kept = s.kept) : (State.actStart s a start).1.kept = s.kept := by
  unfold State.actStart; (repeat' split) <;> first | rfl | exact h

@[simp] theorem State.actStart_ram (s : State) (a : Nat) (start : State × Nat) (h : start.1.ram = s.ram) : (State.actStart s a start).1.ram = s.ram := by
  unfold State.actStart; (repeat' split) <;> first | rfl | exact h

@[simp] theorem State.actGear_still (s : State) (a : Nat) : (State.actGear s a).1.still = s.still := by
  unfold State.actGear; (try simp); all_goals ((repeat' split) <;> (first | with_reducible rfl | (simp; done) | (simp_all; done)))

@[simp] theorem State.actGear_outer (s : State) (a : Nat) : (State.actGear s a).1.outer = s.outer := State.still_outer (State.actGear_still s a)

@[simp] theorem State.actGear_kept (s : State) (a : Nat) : (State.actGear s a).1.kept = s.kept := State.still_kept (State.actGear_still s a)

@[simp] theorem State.actGear_ram (s : State) (a : Nat) : (State.actGear s a).1.ram = s.ram := State.still_ram (State.actGear_still s a)

@[simp] theorem State.actClear_still (s : State) (a : Nat) : (State.actClear s a).1.still = s.still := by
  unfold State.actClear; (try simp); all_goals ((repeat' split) <;> (first | with_reducible rfl | (simp; done) | (simp_all; done)))

@[simp] theorem State.actClear_outer (s : State) (a : Nat) : (State.actClear s a).1.outer = s.outer := State.still_outer (State.actClear_still s a)

@[simp] theorem State.actClear_kept (s : State) (a : Nat) : (State.actClear s a).1.kept = s.kept := State.still_kept (State.actClear_still s a)

@[simp] theorem State.actClear_ram (s : State) (a : Nat) : (State.actClear s a).1.ram = s.ram := State.still_ram (State.actClear_still s a)

@[simp] theorem State.actAt_still (s : State) (a : Nat) (k : Nat) (act : AxisAct) : (State.actAt s a k act).1.still = s.still := by
  cases act <;> simp [State.actAt] <;> (repeat' split) <;> simp

@[simp] theorem State.actAt_outer (s : State) (a : Nat) (k : Nat) (act : AxisAct) : (State.actAt s a k act).1.outer = s.outer := State.still_outer (State.actAt_still s a k act)

@[simp] theorem State.actAt_kept (s : State) (a : Nat) (k : Nat) (act : AxisAct) : (State.actAt s a k act).1.kept = s.kept := State.still_kept (State.actAt_still s a k act)

@[simp] theorem State.actAt_ram (s : State) (a : Nat) (k : Nat) (act : AxisAct) : (State.actAt s a k act).1.ram = s.ram := State.still_ram (State.actAt_still s a k act)

@[simp] theorem State.axisAnswer_still (s : State) (a : Nat) (r : Nat) : (State.axisAnswer s a r).1.still = s.still := by
  unfold State.axisAnswer; (try simp); all_goals ((repeat' split) <;> (first | with_reducible rfl | (simp; done) | (simp_all; done)))

@[simp] theorem State.axisAnswer_outer (s : State) (a : Nat) (r : Nat) : (State.axisAnswer s a r).1.outer = s.outer := State.still_outer (State.axisAnswer_still s a r)

@[simp] theorem State.axisAnswer_kept (s : State) (a : Nat) (r : Nat) : (State.axisAnswer s a r).1.kept = s.kept := State.still_kept (State.axisAnswer_still s a r)

@[simp] theorem State.axisAnswer_ram (s : State) (a : Nat) (r : Nat) : (State.axisAnswer s a r).1.ram = s.ram := State.still_ram (State.axisAnswer_still s a r)

@[simp] theorem State.axisRequest_still (s : State) (a : Nat) (act : AxisAct) : (State.axisRequest s a act).1.still = s.still := by
  unfold State.axisRequest; dsimp only; (repeat' split) <;> simp

@[simp] theorem State.axisRequest_outer (s : State) (a : Nat) (act : AxisAct) : (State.axisRequest s a act).1.outer = s.outer := State.still_outer (State.axisRequest_still s a act)

@[simp] theorem State.axisRequest_kept (s : State) (a : Nat) (act : AxisAct) : (State.axisRequest s a act).1.kept = s.kept := State.still_kept (State.axisRequest_still s a act)

@[simp] theorem State.axisRequest_ram (s : State) (a : Nat) (act : AxisAct) : (State.axisRequest s a act).1.ram = s.ram := State.still_ram (State.axisRequest_still s a act)

@[simp] theorem State.actsAt_still (s : State) (k : Nat) : (State.actsAt s k).still = s.still := by
  unfold State.actsAt; dsimp only; rw [foldl_still]
  · simp
  · intro s a; (repeat' split) <;> simp

@[simp] theorem State.actsAt_outer (s : State) (k : Nat) : (State.actsAt s k).outer = s.outer := State.still_outer (State.actsAt_still s k)

@[simp] theorem State.actsAt_kept (s : State) (k : Nat) : (State.actsAt s k).kept = s.kept := State.still_kept (State.actsAt_still s k)

@[simp] theorem State.actsAt_ram (s : State) (k : Nat) : (State.actsAt s k).ram = s.ram := State.still_ram (State.actsAt_still s k)

@[simp] theorem State.gearAppend_still (s : State) (a : Nat) : (State.gearAppend s a).1.still = s.still := by
  unfold State.gearAppend; (try simp); all_goals ((repeat' split) <;> (first | with_reducible rfl | (simp; done) | (simp_all; done)))

@[simp] theorem State.gearAppend_outer (s : State) (a : Nat) : (State.gearAppend s a).1.outer = s.outer := State.still_outer (State.gearAppend_still s a)

@[simp] theorem State.gearAppend_kept (s : State) (a : Nat) : (State.gearAppend s a).1.kept = s.kept := State.still_kept (State.gearAppend_still s a)

@[simp] theorem State.gearAppend_ram (s : State) (a : Nat) : (State.gearAppend s a).1.ram = s.ram := State.still_ram (State.gearAppend_still s a)

@[simp] theorem State.gearFlush_still (s : State) (a : Nat) : (State.gearFlush s a).1.still = s.still := by
  unfold State.gearFlush; (try simp); all_goals ((repeat' split) <;> (first | with_reducible rfl | (simp; done) | (simp_all; done)))

@[simp] theorem State.gearFlush_outer (s : State) (a : Nat) : (State.gearFlush s a).1.outer = s.outer := State.still_outer (State.gearFlush_still s a)

@[simp] theorem State.gearFlush_kept (s : State) (a : Nat) : (State.gearFlush s a).1.kept = s.kept := State.still_kept (State.gearFlush_still s a)

@[simp] theorem State.gearFlush_ram (s : State) (a : Nat) : (State.gearFlush s a).1.ram = s.ram := State.still_ram (State.gearFlush_still s a)

@[simp] theorem State.masterLost_still (s : State) (k : Nat) : (State.masterLost s k).still = s.still := by
  unfold State.masterLost; (try simp); all_goals ((repeat' split) <;> (first | with_reducible rfl | (simp; done) | (simp_all; done)))

@[simp] theorem State.masterLost_outer (s : State) (k : Nat) : (State.masterLost s k).outer = s.outer := State.still_outer (State.masterLost_still s k)

@[simp] theorem State.masterLost_kept (s : State) (k : Nat) : (State.masterLost s k).kept = s.kept := State.still_kept (State.masterLost_still s k)

@[simp] theorem State.masterLost_ram (s : State) (k : Nat) : (State.masterLost s k).ram = s.ram := State.still_ram (State.masterLost_still s k)

end Sys2Proof.Machine
end

