-- ==== Sys2Proof/Laws/OuterPosition.lean ====
section
/-! SUPPORT. What the operations of Machine/Position.lean leave alone: the queue, the idle time, the clock and the boot record (`outer`); flash, settings copies, update service and recovery (`kept`); the bytes of DRAM and staging (`ram`). -/

namespace Sys2Proof.Machine

@[simp] theorem State.clampEvents_still (s : State) (n : Nat) : (State.clampEvents s n).still = s.still := by
  unfold State.clampEvents; (try simp); all_goals ((repeat' split) <;> (first | with_reducible rfl | (simp; done) | (simp_all; done)))

@[simp] theorem State.clampEvents_outer (s : State) (n : Nat) : (State.clampEvents s n).outer = s.outer := State.still_outer (State.clampEvents_still s n)

@[simp] theorem State.clampEvents_kept (s : State) (n : Nat) : (State.clampEvents s n).kept = s.kept := State.still_kept (State.clampEvents_still s n)

@[simp] theorem State.clampEvents_ram (s : State) (n : Nat) : (State.clampEvents s n).ram = s.ram := State.still_ram (State.clampEvents_still s n)

@[simp] theorem State.feedDoneNow_still (s : State) : (State.feedDoneNow s).still = s.still := by
  unfold State.feedDoneNow; (try simp); all_goals ((repeat' split) <;> (first | with_reducible rfl | (simp; done) | (simp_all; done)))

@[simp] theorem State.feedDoneNow_outer (s : State) : (State.feedDoneNow s).outer = s.outer := State.still_outer (State.feedDoneNow_still s)

@[simp] theorem State.feedDoneNow_kept (s : State) : (State.feedDoneNow s).kept = s.kept := State.still_kept (State.feedDoneNow_still s)

@[simp] theorem State.feedDoneNow_ram (s : State) : (State.feedDoneNow s).ram = s.ram := State.still_ram (State.feedDoneNow_still s)

@[simp] theorem State.startFeed_still (s : State) : (State.startFeed s).still = s.still := by
  unfold State.startFeed; (try simp); all_goals ((repeat' split) <;> (first | with_reducible rfl | (simp; done) | (simp_all; done)))

@[simp] theorem State.startFeed_outer (s : State) : (State.startFeed s).outer = s.outer := State.still_outer (State.startFeed_still s)

@[simp] theorem State.startFeed_kept (s : State) : (State.startFeed s).kept = s.kept := State.still_kept (State.startFeed_still s)

@[simp] theorem State.startFeed_ram (s : State) : (State.startFeed s).ram = s.ram := State.still_ram (State.startFeed_still s)

@[simp] theorem State.checkFeed_still (s : State) : (State.checkFeed s).still = s.still := by
  unfold State.checkFeed; (try simp); all_goals ((repeat' split) <;> (first | with_reducible rfl | (simp; done) | (simp_all; done)))

@[simp] theorem State.checkFeed_outer (s : State) : (State.checkFeed s).outer = s.outer := State.still_outer (State.checkFeed_still s)

@[simp] theorem State.checkFeed_kept (s : State) : (State.checkFeed s).kept = s.kept := State.still_kept (State.checkFeed_still s)

@[simp] theorem State.checkFeed_ram (s : State) : (State.checkFeed s).ram = s.ram := State.still_ram (State.checkFeed_still s)

@[simp] theorem State.unported_still (s : State) : (State.unported s).still = s.still := by
  unfold State.unported
  apply foldl_still; intro s p
  split
  · rfl
  · apply foldl_still; intro s i
    (repeat' split) <;> simp <;> split <;> simp

@[simp] theorem State.unported_outer (s : State) : (State.unported s).outer = s.outer := State.still_outer (State.unported_still s)

@[simp] theorem State.unported_kept (s : State) : (State.unported s).kept = s.kept := State.still_kept (State.unported_still s)

@[simp] theorem State.unported_ram (s : State) : (State.unported s).ram = s.ram := State.still_ram (State.unported_still s)

@[simp] theorem State.passStarting_still (s : State) (t : Nat) : (State.passStarting s t).still = s.still := by
  unfold State.passStarting; (try simp); all_goals ((repeat' split) <;> (first | with_reducible rfl | (simp; done) | (simp_all; done)))

@[simp] theorem State.passStarting_outer (s : State) (t : Nat) : (State.passStarting s t).outer = s.outer := State.still_outer (State.passStarting_still s t)

@[simp] theorem State.passStarting_kept (s : State) (t : Nat) : (State.passStarting s t).kept = s.kept := State.still_kept (State.passStarting_still s t)

@[simp] theorem State.passStarting_ram (s : State) (t : Nat) : (State.passStarting s t).ram = s.ram := State.still_ram (State.passStarting_still s t)

@[simp] theorem State.advance_still (s : State) (t : Nat) : (State.advance s t).still = s.still := by
  unfold State.advance; (try simp); all_goals ((repeat' split) <;> (first | with_reducible rfl | (simp; done) | (simp_all; done)))

@[simp] theorem State.advance_outer (s : State) (t : Nat) : (State.advance s t).outer = s.outer := State.still_outer (State.advance_still s t)

@[simp] theorem State.advance_kept (s : State) (t : Nat) : (State.advance s t).kept = s.kept := State.still_kept (State.advance_still s t)

@[simp] theorem State.advance_ram (s : State) (t : Nat) : (State.advance s t).ram = s.ram := State.still_ram (State.advance_still s t)

@[simp] theorem State.subTick_still (s : State) : (State.subTick s).still = s.still := by
  unfold State.subTick; (try simp); all_goals ((repeat' split) <;> (first | with_reducible rfl | (simp; done) | (simp_all; done)))

@[simp] theorem State.subTick_outer (s : State) : (State.subTick s).outer = s.outer := State.still_outer (State.subTick_still s)

@[simp] theorem State.subTick_kept (s : State) : (State.subTick s).kept = s.kept := State.still_kept (State.subTick_still s)

@[simp] theorem State.subTick_ram (s : State) : (State.subTick s).ram = s.ram := State.still_ram (State.subTick_still s)

@[simp] theorem State.restartClock_still (s : State) : (State.restartClock s).still = s.still := by
  unfold State.restartClock; (try simp); all_goals ((repeat' split) <;> (first | with_reducible rfl | (simp; done) | (simp_all; done)))

@[simp] theorem State.restartClock_outer (s : State) : (State.restartClock s).outer = s.outer := State.still_outer (State.restartClock_still s)

@[simp] theorem State.restartClock_kept (s : State) : (State.restartClock s).kept = s.kept := State.still_kept (State.restartClock_still s)

@[simp] theorem State.restartClock_ram (s : State) : (State.restartClock s).ram = s.ram := State.still_ram (State.restartClock_still s)

@[simp] theorem State.nextPass_still (s : State) : (State.nextPass s).still = s.still := by
  unfold State.nextPass; (try simp); all_goals ((repeat' split) <;> (first | with_reducible rfl | (simp; done) | (simp_all; done)))

@[simp] theorem State.nextPass_outer (s : State) : (State.nextPass s).outer = s.outer := State.still_outer (State.nextPass_still s)

@[simp] theorem State.nextPass_kept (s : State) : (State.nextPass s).kept = s.kept := State.still_kept (State.nextPass_still s)

@[simp] theorem State.nextPass_ram (s : State) : (State.nextPass s).ram = s.ram := State.still_ram (State.nextPass_still s)

@[simp] theorem State.reversal_still (s : State) : (State.reversal s).still = s.still := by
  unfold State.reversal; (try simp); all_goals ((repeat' split) <;> (first | with_reducible rfl | (simp; done) | (simp_all; done)))

@[simp] theorem State.reversal_outer (s : State) : (State.reversal s).outer = s.outer := State.still_outer (State.reversal_still s)

@[simp] theorem State.reversal_kept (s : State) : (State.reversal s).kept = s.kept := State.still_kept (State.reversal_still s)

@[simp] theorem State.reversal_ram (s : State) : (State.reversal s).ram = s.ram := State.still_ram (State.reversal_still s)

@[simp] theorem State.track_still (s : State) (q : Int) (t : Nat) : (State.track s q t).still = s.still := by
  unfold State.track; (try simp); all_goals ((repeat' split) <;> (first | with_reducible rfl | (simp; done) | (simp_all; done)))

@[simp] theorem State.track_outer (s : State) (q : Int) (t : Nat) : (State.track s q t).outer = s.outer := State.still_outer (State.track_still s q t)

@[simp] theorem State.track_kept (s : State) (q : Int) (t : Nat) : (State.track s q t).kept = s.kept := State.still_kept (State.track_still s q t)

@[simp] theorem State.track_ram (s : State) (q : Int) (t : Nat) : (State.track s q t).ram = s.ram := State.still_ram (State.track_still s q t)

@[simp] theorem State.present_still (s : State) (c : Int) (t : Nat) : (State.present s c t).still = s.still := by
  unfold State.present; (try simp); all_goals ((repeat' split) <;> (first | with_reducible rfl | (simp; done) | (simp_all; done)))

@[simp] theorem State.present_outer (s : State) (c : Int) (t : Nat) : (State.present s c t).outer = s.outer := State.still_outer (State.present_still s c t)

@[simp] theorem State.present_kept (s : State) (c : Int) (t : Nat) : (State.present s c t).kept = s.kept := State.still_kept (State.present_still s c t)

@[simp] theorem State.present_ram (s : State) (c : Int) (t : Nat) : (State.present s c t).ram = s.ram := State.still_ram (State.present_still s c t)

@[simp] theorem State.ownCount_still (s : State) (c : Int) (t : Nat) : (State.ownCount s c t).still = s.still := by
  unfold State.ownCount; (try simp); all_goals ((repeat' split) <;> (first | with_reducible rfl | (simp; done) | (simp_all; done)))

@[simp] theorem State.ownCount_outer (s : State) (c : Int) (t : Nat) : (State.ownCount s c t).outer = s.outer := State.still_outer (State.ownCount_still s c t)

@[simp] theorem State.ownCount_kept (s : State) (c : Int) (t : Nat) : (State.ownCount s c t).kept = s.kept := State.still_kept (State.ownCount_still s c t)

@[simp] theorem State.ownCount_ram (s : State) (c : Int) (t : Nat) : (State.ownCount s c t).ram = s.ram := State.still_ram (State.ownCount_still s c t)

@[simp] theorem State.illegalEdge_still (s : State) (e : Nat) : (State.illegalEdge s e).still = s.still := by
  unfold State.illegalEdge; (try simp); all_goals ((repeat' split) <;> (first | with_reducible rfl | (simp; done) | (simp_all; done)))

@[simp] theorem State.illegalEdge_outer (s : State) (e : Nat) : (State.illegalEdge s e).outer = s.outer := State.still_outer (State.illegalEdge_still s e)

@[simp] theorem State.illegalEdge_kept (s : State) (e : Nat) : (State.illegalEdge s e).kept = s.kept := State.still_kept (State.illegalEdge_still s e)

@[simp] theorem State.illegalEdge_ram (s : State) (e : Nat) : (State.illegalEdge s e).ram = s.ram := State.still_ram (State.illegalEdge_still s e)

@[simp] theorem State.encoderEdge_still (s : State) (e : Nat) (a : Bool) (b : Bool) (t : Nat) : (State.encoderEdge s e a b t).still = s.still := by
  unfold State.encoderEdge; (try simp); all_goals ((repeat' split) <;> (first | with_reducible rfl | (simp; done) | (simp_all; done)))

@[simp] theorem State.encoderEdge_outer (s : State) (e : Nat) (a : Bool) (b : Bool) (t : Nat) : (State.encoderEdge s e a b t).outer = s.outer := State.still_outer (State.encoderEdge_still s e a b t)

@[simp] theorem State.encoderEdge_kept (s : State) (e : Nat) (a : Bool) (b : Bool) (t : Nat) : (State.encoderEdge s e a b t).kept = s.kept := State.still_kept (State.encoderEdge_still s e a b t)

@[simp] theorem State.encoderEdge_ram (s : State) (e : Nat) (a : Bool) (b : Bool) (t : Nat) : (State.encoderEdge s e a b t).ram = s.ram := State.still_ram (State.encoderEdge_still s e a b t)

@[simp] theorem State.acceptOne_still (s : State) (e : Nat) (k : Nat) (t : Nat) : (State.acceptOne s e k t).still = s.still := by
  unfold State.acceptOne; (try simp); all_goals ((repeat' split) <;> (first | with_reducible rfl | (simp; done) | (simp_all; done)))

@[simp] theorem State.acceptOne_outer (s : State) (e : Nat) (k : Nat) (t : Nat) : (State.acceptOne s e k t).outer = s.outer := State.still_outer (State.acceptOne_still s e k t)

@[simp] theorem State.acceptOne_kept (s : State) (e : Nat) (k : Nat) (t : Nat) : (State.acceptOne s e k t).kept = s.kept := State.still_kept (State.acceptOne_still s e k t)

@[simp] theorem State.acceptOne_ram (s : State) (e : Nat) (k : Nat) (t : Nat) : (State.acceptOne s e k t).ram = s.ram := State.still_ram (State.acceptOne_still s e k t)

@[simp] theorem State.acceptLevels_still (s : State) (e : Nat) (bound : Nat) : (State.acceptLevels s e bound).still = s.still := by
  unfold State.acceptLevels; (try simp); all_goals ((repeat' split) <;> (first | with_reducible rfl | (simp; done) | (simp_all; done)))

@[simp] theorem State.acceptLevels_outer (s : State) (e : Nat) (bound : Nat) : (State.acceptLevels s e bound).outer = s.outer := State.still_outer (State.acceptLevels_still s e bound)

@[simp] theorem State.acceptLevels_kept (s : State) (e : Nat) (bound : Nat) : (State.acceptLevels s e bound).kept = s.kept := State.still_kept (State.acceptLevels_still s e bound)

@[simp] theorem State.acceptLevels_ram (s : State) (e : Nat) (bound : Nat) : (State.acceptLevels s e bound).ram = s.ram := State.still_ram (State.acceptLevels_still s e bound)

@[simp] theorem State.samplePins_still (s : State) (e : Nat) (a : Bool) (b : Bool) : (State.samplePins s e a b).still = s.still := by
  unfold State.samplePins; (try simp); all_goals ((repeat' split) <;> (first | with_reducible rfl | (simp; done) | (simp_all; done)))

@[simp] theorem State.samplePins_outer (s : State) (e : Nat) (a : Bool) (b : Bool) : (State.samplePins s e a b).outer = s.outer := State.still_outer (State.samplePins_still s e a b)

@[simp] theorem State.samplePins_kept (s : State) (e : Nat) (a : Bool) (b : Bool) : (State.samplePins s e a b).kept = s.kept := State.still_kept (State.samplePins_still s e a b)

@[simp] theorem State.samplePins_ram (s : State) (e : Nat) (a : Bool) (b : Bool) : (State.samplePins s e a b).ram = s.ram := State.still_ram (State.samplePins_still s e a b)

@[simp] theorem State.encoderPins_still (s : State) (e : Nat) (a : Bool) (b : Bool) : (State.encoderPins s e a b).still = s.still := by
  unfold State.encoderPins; (try simp); all_goals ((repeat' split) <;> (first | with_reducible rfl | (simp; done) | (simp_all; done)))

@[simp] theorem State.encoderPins_outer (s : State) (e : Nat) (a : Bool) (b : Bool) : (State.encoderPins s e a b).outer = s.outer := State.still_outer (State.encoderPins_still s e a b)

@[simp] theorem State.encoderPins_kept (s : State) (e : Nat) (a : Bool) (b : Bool) : (State.encoderPins s e a b).kept = s.kept := State.still_kept (State.encoderPins_still s e a b)

@[simp] theorem State.encoderPins_ram (s : State) (e : Nat) (a : Bool) (b : Bool) : (State.encoderPins s e a b).ram = s.ram := State.still_ram (State.encoderPins_still s e a b)

@[simp] theorem State.otherStep_still (s : State) : (State.otherStep s).still = s.still := by
  unfold State.otherStep; (try simp); all_goals ((repeat' split) <;> (first | with_reducible rfl | (simp; done) | (simp_all; done)))

@[simp] theorem State.otherStep_outer (s : State) : (State.otherStep s).outer = s.outer := State.still_outer (State.otherStep_still s)

@[simp] theorem State.otherStep_kept (s : State) : (State.otherStep s).kept = s.kept := State.still_kept (State.otherStep_still s)

@[simp] theorem State.otherStep_ram (s : State) : (State.otherStep s).ram = s.ram := State.still_ram (State.otherStep_still s)

@[simp] theorem State.sourceStep_still (s : State) : (State.sourceStep s).still = s.still := by
  unfold State.sourceStep; (try simp); all_goals ((repeat' split) <;> (first | with_reducible rfl | (simp; done) | (simp_all; done)))

@[simp] theorem State.sourceStep_outer (s : State) : (State.sourceStep s).outer = s.outer := State.still_outer (State.sourceStep_still s)

@[simp] theorem State.sourceStep_kept (s : State) : (State.sourceStep s).kept = s.kept := State.still_kept (State.sourceStep_still s)

@[simp] theorem State.sourceStep_ram (s : State) : (State.sourceStep s).ram = s.ram := State.still_ram (State.sourceStep_still s)

@[simp] theorem State.indexEdge_still (s0 : State) (e : Nat) : (State.indexEdge s0 e).still = s0.still := by
  unfold State.indexEdge; (try simp); all_goals ((repeat' split) <;> (first | with_reducible rfl | (simp; done) | (simp_all; done)))

@[simp] theorem State.indexEdge_outer (s0 : State) (e : Nat) : (State.indexEdge s0 e).outer = s0.outer := State.still_outer (State.indexEdge_still s0 e)

@[simp] theorem State.indexEdge_kept (s0 : State) (e : Nat) : (State.indexEdge s0 e).kept = s0.kept := State.still_kept (State.indexEdge_still s0 e)

@[simp] theorem State.indexEdge_ram (s0 : State) (e : Nat) : (State.indexEdge s0 e).ram = s0.ram := State.still_ram (State.indexEdge_still s0 e)

@[simp] theorem State.anchor_still (s : State) (q : Int) (p : Nat) : (State.anchor s q p).still = s.still := by
  unfold State.anchor; (try simp); all_goals ((repeat' split) <;> (first | with_reducible rfl | (simp; done) | (simp_all; done)))

@[simp] theorem State.anchor_outer (s : State) (q : Int) (p : Nat) : (State.anchor s q p).outer = s.outer := State.still_outer (State.anchor_still s q p)

@[simp] theorem State.anchor_kept (s : State) (q : Int) (p : Nat) : (State.anchor s q p).kept = s.kept := State.still_kept (State.anchor_still s q p)

@[simp] theorem State.anchor_ram (s : State) (q : Int) (p : Nat) : (State.anchor s q p).ram = s.ram := State.still_ram (State.anchor_still s q p)

@[simp] theorem State.sourceChange_still (s : State) (src : Nat) (axis : Nat) : (State.sourceChange s src axis).still = s.still := by
  unfold State.sourceChange; (try simp); all_goals ((repeat' split) <;> (first | with_reducible rfl | (simp; done) | (simp_all; done)))

@[simp] theorem State.sourceChange_outer (s : State) (src : Nat) (axis : Nat) : (State.sourceChange s src axis).outer = s.outer := State.still_outer (State.sourceChange_still s src axis)

@[simp] theorem State.sourceChange_kept (s : State) (src : Nat) (axis : Nat) : (State.sourceChange s src axis).kept = s.kept := State.still_kept (State.sourceChange_still s src axis)

@[simp] theorem State.sourceChange_ram (s : State) (src : Nat) (axis : Nat) : (State.sourceChange s src axis).ram = s.ram := State.still_ram (State.sourceChange_still s src axis)

@[simp] theorem State.pitchChange_still (s : State) (p : Nat) : (State.pitchChange s p).still = s.still := by
  unfold State.pitchChange; (try simp); all_goals ((repeat' split) <;> (first | with_reducible rfl | (simp; done) | (simp_all; done)))

@[simp] theorem State.pitchChange_outer (s : State) (p : Nat) : (State.pitchChange s p).outer = s.outer := State.still_outer (State.pitchChange_still s p)

@[simp] theorem State.pitchChange_kept (s : State) (p : Nat) : (State.pitchChange s p).kept = s.kept := State.still_kept (State.pitchChange_still s p)

@[simp] theorem State.pitchChange_ram (s : State) (p : Nat) : (State.pitchChange s p).ram = s.ram := State.still_ram (State.pitchChange_still s p)

@[simp] theorem State.modeChange_still (s : State) (m : Nat) : (State.modeChange s m).still = s.still := by
  unfold State.modeChange; (try simp); all_goals ((repeat' split) <;> (first | with_reducible rfl | (simp; done) | (simp_all; done)))

@[simp] theorem State.modeChange_outer (s : State) (m : Nat) : (State.modeChange s m).outer = s.outer := State.still_outer (State.modeChange_still s m)

@[simp] theorem State.modeChange_kept (s : State) (m : Nat) : (State.modeChange s m).kept = s.kept := State.still_kept (State.modeChange_still s m)

@[simp] theorem State.modeChange_ram (s : State) (m : Nat) : (State.modeChange s m).ram = s.ram := State.still_ram (State.modeChange_still s m)

@[simp] theorem State.setRow_still (s : State) : (State.setRow s).1.still = s.still := by
  unfold State.setRow; (try simp); all_goals ((repeat' split) <;> (first | with_reducible rfl | (simp; done) | (simp_all; done)))

@[simp] theorem State.setRow_outer (s : State) : (State.setRow s).1.outer = s.outer := State.still_outer (State.setRow_still s)

@[simp] theorem State.setRow_kept (s : State) : (State.setRow s).1.kept = s.kept := State.still_kept (State.setRow_still s)

@[simp] theorem State.setRow_ram (s : State) : (State.setRow s).1.ram = s.ram := State.still_ram (State.setRow_still s)

@[simp] theorem State.seqArm_still (s : State) : (State.seqArm s).1.still = s.still := by
  unfold State.seqArm; (try simp); all_goals ((repeat' split) <;> (first | with_reducible rfl | (simp; done) | (simp_all; done)))

@[simp] theorem State.seqArm_outer (s : State) : (State.seqArm s).1.outer = s.outer := State.still_outer (State.seqArm_still s)

@[simp] theorem State.seqArm_kept (s : State) : (State.seqArm s).1.kept = s.kept := State.still_kept (State.seqArm_still s)

@[simp] theorem State.seqArm_ram (s : State) : (State.seqArm s).1.ram = s.ram := State.still_ram (State.seqArm_still s)

@[simp] theorem State.seqStop_still (s : State) : (State.seqStop s).1.still = s.still := by
  unfold State.seqStop; (try simp); all_goals ((repeat' split) <;> (first | with_reducible rfl | (simp; done) | (simp_all; done)))

@[simp] theorem State.seqStop_outer (s : State) : (State.seqStop s).1.outer = s.outer := State.still_outer (State.seqStop_still s)

@[simp] theorem State.seqStop_kept (s : State) : (State.seqStop s).1.kept = s.kept := State.still_kept (State.seqStop_still s)

@[simp] theorem State.seqStop_ram (s : State) : (State.seqStop s).1.ram = s.ram := State.still_ram (State.seqStop_still s)

@[simp] theorem State.feedCheck_still (s : State) : (State.feedCheck s).still = s.still := by
  unfold State.feedCheck; (try simp); all_goals ((repeat' split) <;> (first | with_reducible rfl | (simp; done) | (simp_all; done)))

@[simp] theorem State.feedCheck_outer (s : State) : (State.feedCheck s).outer = s.outer := State.still_outer (State.feedCheck_still s)

@[simp] theorem State.feedCheck_kept (s : State) : (State.feedCheck s).kept = s.kept := State.still_kept (State.feedCheck_still s)

@[simp] theorem State.feedCheck_ram (s : State) : (State.feedCheck s).ram = s.ram := State.still_ram (State.feedCheck_still s)

@[simp] theorem State.measureRate_still (s : State) : (State.measureRate s).still = s.still := by
  unfold State.measureRate; (try simp); all_goals ((repeat' split) <;> (first | with_reducible rfl | (simp; done) | (simp_all; done)))

@[simp] theorem State.measureRate_outer (s : State) : (State.measureRate s).outer = s.outer := State.still_outer (State.measureRate_still s)

@[simp] theorem State.measureRate_kept (s : State) : (State.measureRate s).kept = s.kept := State.still_kept (State.measureRate_still s)

@[simp] theorem State.measureRate_ram (s : State) : (State.measureRate s).ram = s.ram := State.still_ram (State.measureRate_still s)

end Sys2Proof.Machine
end

