-- ==== Sys2Proof/Laws/OuterMotion.lean ====
section
/-! SUPPORT. What the operations of Machine/Motion.lean leave alone: the queue, the idle time, the clock and the boot record (`outer`); flash, settings copies, update service and recovery (`kept`); the bytes of DRAM and staging (`ram`). -/

namespace Sys2Proof.Machine

@[simp] theorem State.leavePath_still (s : State) (a : Nat) : (State.leavePath s a).still = s.still := by
  unfold State.leavePath; (try simp); all_goals ((repeat' split) <;> (first | with_reducible rfl | (simp; done) | (simp_all; done)))

@[simp] theorem State.leavePath_outer (s : State) (a : Nat) : (State.leavePath s a).outer = s.outer := State.still_outer (State.leavePath_still s a)

@[simp] theorem State.leavePath_kept (s : State) (a : Nat) : (State.leavePath s a).kept = s.kept := State.still_kept (State.leavePath_still s a)

@[simp] theorem State.leavePath_ram (s : State) (a : Nat) : (State.leavePath s a).ram = s.ram := State.still_ram (State.leavePath_still s a)

@[simp] theorem State.faultAxis_still (s : State) (a : Nat) (cause : Nat) : (State.faultAxis s a cause).still = s.still := by
  unfold State.faultAxis; (try simp); all_goals ((repeat' split) <;> (first | with_reducible rfl | (simp; done) | (simp_all; done)))

@[simp] theorem State.faultAxis_outer (s : State) (a : Nat) (cause : Nat) : (State.faultAxis s a cause).outer = s.outer := State.still_outer (State.faultAxis_still s a cause)

@[simp] theorem State.faultAxis_kept (s : State) (a : Nat) (cause : Nat) : (State.faultAxis s a cause).kept = s.kept := State.still_kept (State.faultAxis_still s a cause)

@[simp] theorem State.faultAxis_ram (s : State) (a : Nat) (cause : Nat) : (State.faultAxis s a cause).ram = s.ram := State.still_ram (State.faultAxis_still s a cause)

@[simp] theorem State.motCheck_still (s : State) : (State.motCheck s).still = s.still := by
  unfold State.motCheck; (try simp); all_goals ((repeat' split) <;> (first | with_reducible rfl | (simp; done) | (simp_all; done)))

@[simp] theorem State.motCheck_outer (s : State) : (State.motCheck s).outer = s.outer := State.still_outer (State.motCheck_still s)

@[simp] theorem State.motCheck_kept (s : State) : (State.motCheck s).kept = s.kept := State.still_kept (State.motCheck_still s)

@[simp] theorem State.motCheck_ram (s : State) : (State.motCheck s).ram = s.ram := State.still_ram (State.motCheck_still s)

@[simp] theorem State.tickPath_still (s : State) (k : Nat) (p : Path) : (State.tickPath s k p).still = s.still := by
  unfold State.tickPath; (try simp); all_goals ((repeat' split) <;> (first | with_reducible rfl | (simp; done) | (simp_all; done)))

@[simp] theorem State.tickPath_outer (s : State) (k : Nat) (p : Path) : (State.tickPath s k p).outer = s.outer := State.still_outer (State.tickPath_still s k p)

@[simp] theorem State.tickPath_kept (s : State) (k : Nat) (p : Path) : (State.tickPath s k p).kept = s.kept := State.still_kept (State.tickPath_still s k p)

@[simp] theorem State.tickPath_ram (s : State) (k : Nat) (p : Path) : (State.tickPath s k p).ram = s.ram := State.still_ram (State.tickPath_still s k p)

@[simp] theorem State.tickGear_still (s : State) (a : Nat) : (State.tickGear s a).still = s.still := by
  unfold State.tickGear; (try simp); all_goals ((repeat' split) <;> (first | with_reducible rfl | (simp; done) | (simp_all; done)))

@[simp] theorem State.tickGear_outer (s : State) (a : Nat) : (State.tickGear s a).outer = s.outer := State.still_outer (State.tickGear_still s a)

@[simp] theorem State.tickGear_kept (s : State) (a : Nat) : (State.tickGear s a).kept = s.kept := State.still_kept (State.tickGear_still s a)

@[simp] theorem State.tickGear_ram (s : State) (a : Nat) : (State.tickGear s a).ram = s.ram := State.still_ram (State.tickGear_still s a)

@[simp] theorem State.driveEntry_still (s : State) (a : Nat) : (State.driveEntry s a).still = s.still := by
  unfold State.driveEntry; (try simp); all_goals ((repeat' split) <;> (first | with_reducible rfl | (simp; done) | (simp_all; done)))

@[simp] theorem State.driveEntry_outer (s : State) (a : Nat) : (State.driveEntry s a).outer = s.outer := State.still_outer (State.driveEntry_still s a)

@[simp] theorem State.driveEntry_kept (s : State) (a : Nat) : (State.driveEntry s a).kept = s.kept := State.still_kept (State.driveEntry_still s a)

@[simp] theorem State.driveEntry_ram (s : State) (a : Nat) : (State.driveEntry s a).ram = s.ram := State.still_ram (State.driveEntry_still s a)

@[simp] theorem State.stepCheck_still (s : State) (k : Nat) : (State.stepCheck s k).still = s.still := by
  unfold State.stepCheck; (try simp); all_goals ((repeat' split) <;> (first | with_reducible rfl | (simp; done) | (simp_all; done)))

@[simp] theorem State.stepCheck_outer (s : State) (k : Nat) : (State.stepCheck s k).outer = s.outer := State.still_outer (State.stepCheck_still s k)

@[simp] theorem State.stepCheck_kept (s : State) (k : Nat) : (State.stepCheck s k).kept = s.kept := State.still_kept (State.stepCheck_still s k)

@[simp] theorem State.stepCheck_ram (s : State) (k : Nat) : (State.stepCheck s k).ram = s.ram := State.still_ram (State.stepCheck_still s k)

@[simp] theorem State.sendSetpoints_still (s : State) (k : Nat) : (State.sendSetpoints s k).still = s.still := by
  unfold State.sendSetpoints; (try simp); all_goals ((repeat' split) <;> (first | with_reducible rfl | (simp; done) | (simp_all; done)))

@[simp] theorem State.sendSetpoints_outer (s : State) (k : Nat) : (State.sendSetpoints s k).outer = s.outer := State.still_outer (State.sendSetpoints_still s k)

@[simp] theorem State.sendSetpoints_kept (s : State) (k : Nat) : (State.sendSetpoints s k).kept = s.kept := State.still_kept (State.sendSetpoints_still s k)

@[simp] theorem State.sendSetpoints_ram (s : State) (k : Nat) : (State.sendSetpoints s k).ram = s.ram := State.still_ram (State.sendSetpoints_still s k)

@[simp] theorem State.servoTick_still (s : State) : (State.servoTick s).still = s.still := by
  unfold State.servoTick; (try simp); all_goals ((repeat' split) <;> (first | with_reducible rfl | (simp; done) | (simp_all; done)))

@[simp] theorem State.servoTick_outer (s : State) : (State.servoTick s).outer = s.outer := State.still_outer (State.servoTick_still s)

@[simp] theorem State.servoTick_kept (s : State) : (State.servoTick s).kept = s.kept := State.still_kept (State.servoTick_still s)

@[simp] theorem State.servoTick_ram (s : State) : (State.servoTick s).ram = s.ram := State.still_ram (State.servoTick_still s)

@[simp] theorem State.statusFrame_still (s : State) (src : Peer) (f : Bytes) : (State.statusFrame s src f).still = s.still := by
  unfold State.statusFrame; (try simp); all_goals ((repeat' split) <;> (first | with_reducible rfl | (simp; done) | (simp_all; done)))

@[simp] theorem State.statusFrame_outer (s : State) (src : Peer) (f : Bytes) : (State.statusFrame s src f).outer = s.outer := State.still_outer (State.statusFrame_still s src f)

@[simp] theorem State.statusFrame_kept (s : State) (src : Peer) (f : Bytes) : (State.statusFrame s src f).kept = s.kept := State.still_kept (State.statusFrame_still s src f)

@[simp] theorem State.statusFrame_ram (s : State) (src : Peer) (f : Bytes) : (State.statusFrame s src f).ram = s.ram := State.still_ram (State.statusFrame_still s src f)

@[simp] theorem State.driveLoss_still (s : State) (a : Nat) : (State.driveLoss s a).still = s.still := by
  unfold State.driveLoss; (try simp); all_goals ((repeat' split) <;> (first | with_reducible rfl | (simp; done) | (simp_all; done)))

@[simp] theorem State.driveLoss_outer (s : State) (a : Nat) : (State.driveLoss s a).outer = s.outer := State.still_outer (State.driveLoss_still s a)

@[simp] theorem State.driveLoss_kept (s : State) (a : Nat) : (State.driveLoss s a).kept = s.kept := State.still_kept (State.driveLoss_still s a)

@[simp] theorem State.driveLoss_ram (s : State) (a : Nat) : (State.driveLoss s a).ram = s.ram := State.still_ram (State.driveLoss_still s a)

@[simp] theorem State.storeAxes_still (s : State) : (State.storeAxes s).still = s.still := by
  unfold State.storeAxes; (try simp); all_goals ((repeat' split) <;> (first | with_reducible rfl | (simp; done) | (simp_all; done)))

@[simp] theorem State.storeAxes_outer (s : State) : (State.storeAxes s).outer = s.outer := State.still_outer (State.storeAxes_still s)

@[simp] theorem State.storeAxes_kept (s : State) : (State.storeAxes s).kept = s.kept := State.still_kept (State.storeAxes_still s)

@[simp] theorem State.storeAxes_ram (s : State) : (State.storeAxes s).ram = s.ram := State.still_ram (State.storeAxes_still s)

@[simp] theorem State.axisFree_still (s : State) (a : Nat) : (State.axisFree s a).still = s.still := by
  unfold State.axisFree; (try simp); all_goals ((repeat' split) <;> (first | with_reducible rfl | (simp; done) | (simp_all; done)))

@[simp] theorem State.axisFree_outer (s : State) (a : Nat) : (State.axisFree s a).outer = s.outer := State.still_outer (State.axisFree_still s a)

@[simp] theorem State.axisFree_kept (s : State) (a : Nat) : (State.axisFree s a).kept = s.kept := State.still_kept (State.axisFree_still s a)

@[simp] theorem State.axisFree_ram (s : State) (a : Nat) : (State.axisFree s a).ram = s.ram := State.still_ram (State.axisFree_still s a)

@[simp] theorem State.restoreAxes_still (s : State) (lost : Bool) : (State.restoreAxes s lost).still = s.still := by
  unfold State.restoreAxes; (try simp); all_goals ((repeat' split) <;> (first | with_reducible rfl | (simp; done) | (simp_all; done)))

@[simp] theorem State.restoreAxes_outer (s : State) (lost : Bool) : (State.restoreAxes s lost).outer = s.outer := State.still_outer (State.restoreAxes_still s lost)

@[simp] theorem State.restoreAxes_kept (s : State) (lost : Bool) : (State.restoreAxes s lost).kept = s.kept := State.still_kept (State.restoreAxes_still s lost)

@[simp] theorem State.restoreAxes_ram (s : State) (lost : Bool) : (State.restoreAxes s lost).ram = s.ram := State.still_ram (State.restoreAxes_still s lost)

end Sys2Proof.Machine
end

