-- ==== Sys2Proof/Laws/OuterSensors.lean ====
section
/-! SUPPORT. What the operations of Machine/Sensors.lean leave alone: the queue, the idle time, the clock and the boot record (`outer`); flash, settings copies, update service and recovery (`kept`); the bytes of DRAM and staging (`ram`). -/

namespace Sys2Proof.Machine

@[simp] theorem State.updCalib_still (s : State) (u : Nat) (f : Calib → Calib) : (State.updCalib s u f).still = s.still := by
  unfold State.updCalib; (try simp); all_goals ((repeat' split) <;> (first | with_reducible rfl | (simp; done) | (simp_all; done)))

@[simp] theorem State.updCalib_outer (s : State) (u : Nat) (f : Calib → Calib) : (State.updCalib s u f).outer = s.outer := State.still_outer (State.updCalib_still s u f)

@[simp] theorem State.updCalib_kept (s : State) (u : Nat) (f : Calib → Calib) : (State.updCalib s u f).kept = s.kept := State.still_kept (State.updCalib_still s u f)

@[simp] theorem State.updCalib_ram (s : State) (u : Nat) (f : Calib → Calib) : (State.updCalib s u f).ram = s.ram := State.still_ram (State.updCalib_still s u f)

@[simp] theorem State.calibRecord_still (s : State) (u : Nat) (band : Nat) (load : Nat) (outcome : Nat) (temp : Int) : (State.calibRecord s u band load outcome temp).still = s.still := by
  unfold State.calibRecord; (try simp); all_goals ((repeat' split) <;> (first | with_reducible rfl | (simp; done) | (simp_all; done)))

@[simp] theorem State.calibRecord_outer (s : State) (u : Nat) (band : Nat) (load : Nat) (outcome : Nat) (temp : Int) : (State.calibRecord s u band load outcome temp).outer = s.outer := State.still_outer (State.calibRecord_still s u band load outcome temp)

@[simp] theorem State.calibRecord_kept (s : State) (u : Nat) (band : Nat) (load : Nat) (outcome : Nat) (temp : Int) : (State.calibRecord s u band load outcome temp).kept = s.kept := State.still_kept (State.calibRecord_still s u band load outcome temp)

@[simp] theorem State.calibRecord_ram (s : State) (u : Nat) (band : Nat) (load : Nat) (outcome : Nat) (temp : Int) : (State.calibRecord s u band load outcome temp).ram = s.ram := State.still_ram (State.calibRecord_still s u band load outcome temp)

@[simp] theorem State.calibEnd_still (s : State) (u : Nat) (band : Nat) (load : Nat) (reason : Nat) (temp : Int) : (State.calibEnd s u band load reason temp).still = s.still := by
  unfold State.calibEnd; (try simp); all_goals ((repeat' split) <;> (first | with_reducible rfl | (simp; done) | (simp_all; done)))

@[simp] theorem State.calibEnd_outer (s : State) (u : Nat) (band : Nat) (load : Nat) (reason : Nat) (temp : Int) : (State.calibEnd s u band load reason temp).outer = s.outer := State.still_outer (State.calibEnd_still s u band load reason temp)

@[simp] theorem State.calibEnd_kept (s : State) (u : Nat) (band : Nat) (load : Nat) (reason : Nat) (temp : Int) : (State.calibEnd s u band load reason temp).kept = s.kept := State.still_kept (State.calibEnd_still s u band load reason temp)

@[simp] theorem State.calibEnd_ram (s : State) (u : Nat) (band : Nat) (load : Nat) (reason : Nat) (temp : Int) : (State.calibEnd s u band load reason temp).ram = s.ram := State.still_ram (State.calibEnd_still s u band load reason temp)

@[simp] theorem State.calibTake_still (s : State) (u : Nat) (band : Nat) (margin : Nat) : (State.calibTake s u band margin).still = s.still := by
  unfold State.calibTake; (try simp); all_goals ((repeat' split) <;> (first | with_reducible rfl | (simp; done) | (simp_all; done)))

@[simp] theorem State.calibTake_outer (s : State) (u : Nat) (band : Nat) (margin : Nat) : (State.calibTake s u band margin).outer = s.outer := State.still_outer (State.calibTake_still s u band margin)

@[simp] theorem State.calibTake_kept (s : State) (u : Nat) (band : Nat) (margin : Nat) : (State.calibTake s u band margin).kept = s.kept := State.still_kept (State.calibTake_still s u band margin)

@[simp] theorem State.calibTake_ram (s : State) (u : Nat) (band : Nat) (margin : Nat) : (State.calibTake s u band margin).ram = s.ram := State.still_ram (State.calibTake_still s u band margin)

end Sys2Proof.Machine
end

