-- ==== Sys2Proof/Laws/OuterLinks.lean ====
section
/-! SUPPORT. What the operations of Machine/Links.lean leave alone: the queue, the idle time, the clock and the boot record (`outer`); flash, settings copies, update service and recovery (`kept`); the bytes of DRAM and staging (`ram`). -/

namespace Sys2Proof.Machine

@[simp] theorem State.unitTo_still (s : State) (u : Nat) (new : Nat) : (State.unitTo s u new).still = s.still := by
  unfold State.unitTo; (try simp); all_goals ((repeat' split) <;> (first | with_reducible rfl | (simp; done) | (simp_all; done)))

@[simp] theorem State.unitTo_outer (s : State) (u : Nat) (new : Nat) : (State.unitTo s u new).outer = s.outer := State.still_outer (State.unitTo_still s u new)

@[simp] theorem State.unitTo_kept (s : State) (u : Nat) (new : Nat) : (State.unitTo s u new).kept = s.kept := State.still_kept (State.unitTo_still s u new)

@[simp] theorem State.unitTo_ram (s : State) (u : Nat) (new : Nat) : (State.unitTo s u new).ram = s.ram := State.still_ram (State.unitTo_still s u new)

@[simp] theorem State.updLink_still (s : State) (l : Nat) (f : Link → Link) : (State.updLink s l f).still = s.still := by
  unfold State.updLink; (try simp); all_goals ((repeat' split) <;> (first | with_reducible rfl | (simp; done) | (simp_all; done)))

@[simp] theorem State.updLink_outer (s : State) (l : Nat) (f : Link → Link) : (State.updLink s l f).outer = s.outer := State.still_outer (State.updLink_still s l f)

@[simp] theorem State.updLink_kept (s : State) (l : Nat) (f : Link → Link) : (State.updLink s l f).kept = s.kept := State.still_kept (State.updLink_still s l f)

@[simp] theorem State.updLink_ram (s : State) (l : Nat) (f : Link → Link) : (State.updLink s l f).ram = s.ram := State.still_ram (State.updLink_still s l f)

@[simp] theorem State.updPort_still (s : State) (n : Nat) (f : Port → Port) : (State.updPort s n f).still = s.still := by
  unfold State.updPort; (try simp); all_goals ((repeat' split) <;> (first | with_reducible rfl | (simp; done) | (simp_all; done)))

@[simp] theorem State.updPort_outer (s : State) (n : Nat) (f : Port → Port) : (State.updPort s n f).outer = s.outer := State.still_outer (State.updPort_still s n f)

@[simp] theorem State.updPort_kept (s : State) (n : Nat) (f : Port → Port) : (State.updPort s n f).kept = s.kept := State.still_kept (State.updPort_still s n f)

@[simp] theorem State.updPort_ram (s : State) (n : Nat) (f : Port → Port) : (State.updPort s n f).ram = s.ram := State.still_ram (State.updPort_still s n f)

@[simp] theorem State.down_still (s : State) (n : Nat) (m : Nat) (b : Bytes) : (State.down s n m b).still = s.still := by
  unfold State.down; (try simp); all_goals ((repeat' split) <;> (first | with_reducible rfl | (simp; done) | (simp_all; done)))

@[simp] theorem State.down_outer (s : State) (n : Nat) (m : Nat) (b : Bytes) : (State.down s n m b).outer = s.outer := State.still_outer (State.down_still s n m b)

@[simp] theorem State.down_kept (s : State) (n : Nat) (m : Nat) (b : Bytes) : (State.down s n m b).kept = s.kept := State.still_kept (State.down_still s n m b)

@[simp] theorem State.down_ram (s : State) (n : Nat) (m : Nat) (b : Bytes) : (State.down s n m b).ram = s.ram := State.still_ram (State.down_still s n m b)

@[simp] theorem State.portAll_still (s : State) (n : Nat) (op : Nat) : (State.portAll s n op).still = s.still := by
  unfold State.portAll; (try simp); all_goals ((repeat' split) <;> (first | with_reducible rfl | (simp; done) | (simp_all; done)))

@[simp] theorem State.portAll_outer (s : State) (n : Nat) (op : Nat) : (State.portAll s n op).outer = s.outer := State.still_outer (State.portAll_still s n op)

@[simp] theorem State.portAll_kept (s : State) (n : Nat) (op : Nat) : (State.portAll s n op).kept = s.kept := State.still_kept (State.portAll_still s n op)

@[simp] theorem State.portAll_ram (s : State) (n : Nat) (op : Nat) : (State.portAll s n op).ram = s.ram := State.still_ram (State.portAll_still s n op)

@[simp] theorem State.allPorts_still (s : State) (op : Nat) : (State.allPorts s op).still = s.still := by
  unfold State.allPorts; (try simp); all_goals ((repeat' split) <;> (first | with_reducible rfl | (simp; done) | (simp_all; done)))

@[simp] theorem State.allPorts_outer (s : State) (op : Nat) : (State.allPorts s op).outer = s.outer := State.still_outer (State.allPorts_still s op)

@[simp] theorem State.allPorts_kept (s : State) (op : Nat) : (State.allPorts s op).kept = s.kept := State.still_kept (State.allPorts_still s op)

@[simp] theorem State.allPorts_ram (s : State) (op : Nat) : (State.allPorts s op).ram = s.ram := State.still_ram (State.allPorts_still s op)

@[simp] theorem State.portCommand_still (s : State) (n : Nat) (op : Nat) (addr : Nat) (arg : Nat) (data : Bytes) (tag : Nat) (own : Bool) : (State.portCommand s n op addr arg data tag own).still = s.still := by
  unfold State.portCommand; (try simp); all_goals ((repeat' split) <;> (first | with_reducible rfl | (simp; done) | (simp_all; done)))

@[simp] theorem State.portCommand_outer (s : State) (n : Nat) (op : Nat) (addr : Nat) (arg : Nat) (data : Bytes) (tag : Nat) (own : Bool) : (State.portCommand s n op addr arg data tag own).outer = s.outer := State.still_outer (State.portCommand_still s n op addr arg data tag own)

@[simp] theorem State.portCommand_kept (s : State) (n : Nat) (op : Nat) (addr : Nat) (arg : Nat) (data : Bytes) (tag : Nat) (own : Bool) : (State.portCommand s n op addr arg data tag own).kept = s.kept := State.still_kept (State.portCommand_still s n op addr arg data tag own)

@[simp] theorem State.portCommand_ram (s : State) (n : Nat) (op : Nat) (addr : Nat) (arg : Nat) (data : Bytes) (tag : Nat) (own : Bool) : (State.portCommand s n op addr arg data tag own).ram = s.ram := State.still_ram (State.portCommand_still s n op addr arg data tag own)

@[simp] theorem State.portOwnSend_still (s : State) (n : Nat) (op : Nat) : (State.portOwnSend s n op).still = s.still := by
  unfold State.portOwnSend; (try simp); all_goals ((repeat' split) <;> (first | with_reducible rfl | (simp; done) | (simp_all; done)))

@[simp] theorem State.portOwnSend_outer (s : State) (n : Nat) (op : Nat) : (State.portOwnSend s n op).outer = s.outer := State.still_outer (State.portOwnSend_still s n op)

@[simp] theorem State.portOwnSend_kept (s : State) (n : Nat) (op : Nat) : (State.portOwnSend s n op).kept = s.kept := State.still_kept (State.portOwnSend_still s n op)

@[simp] theorem State.portOwnSend_ram (s : State) (n : Nat) (op : Nat) : (State.portOwnSend s n op).ram = s.ram := State.still_ram (State.portOwnSend_still s n op)

@[simp] theorem State.portNext_still (s : State) (n : Nat) : (State.portNext s n).still = s.still := by
  unfold State.portNext; (try simp); all_goals ((repeat' split) <;> (first | with_reducible rfl | (simp; done) | (simp_all; done)))

@[simp] theorem State.portNext_outer (s : State) (n : Nat) : (State.portNext s n).outer = s.outer := State.still_outer (State.portNext_still s n)

@[simp] theorem State.portNext_kept (s : State) (n : Nat) : (State.portNext s n).kept = s.kept := State.still_kept (State.portNext_still s n)

@[simp] theorem State.portNext_ram (s : State) (n : Nat) : (State.portNext s n).ram = s.ram := State.still_ram (State.portNext_still s n)

@[simp] theorem State.portOwn_still (s : State) (n : Nat) (op : Nat) : (State.portOwn s n op).still = s.still := by
  unfold State.portOwn; (try simp); all_goals ((repeat' split) <;> (first | with_reducible rfl | (simp; done) | (simp_all; done)))

@[simp] theorem State.portOwn_outer (s : State) (n : Nat) (op : Nat) : (State.portOwn s n op).outer = s.outer := State.still_outer (State.portOwn_still s n op)

@[simp] theorem State.portOwn_kept (s : State) (n : Nat) (op : Nat) : (State.portOwn s n op).kept = s.kept := State.still_kept (State.portOwn_still s n op)

@[simp] theorem State.portOwn_ram (s : State) (n : Nat) (op : Nat) : (State.portOwn s n op).ram = s.ram := State.still_ram (State.portOwn_still s n op)

@[simp] theorem State.tempPeriod_still (s : State) (n : Nat) : (State.tempPeriod s n).still = s.still := by
  unfold State.tempPeriod; (try simp); all_goals ((repeat' split) <;> (first | with_reducible rfl | (simp; done) | (simp_all; done)))

@[simp] theorem State.tempPeriod_outer (s : State) (n : Nat) : (State.tempPeriod s n).outer = s.outer := State.still_outer (State.tempPeriod_still s n)

@[simp] theorem State.tempPeriod_kept (s : State) (n : Nat) : (State.tempPeriod s n).kept = s.kept := State.still_kept (State.tempPeriod_still s n)

@[simp] theorem State.tempPeriod_ram (s : State) (n : Nat) : (State.tempPeriod s n).ram = s.ram := State.still_ram (State.tempPeriod_still s n)

@[simp] theorem State.clearSlots_still (s : State) (n : Nat) : (State.clearSlots s n).still = s.still := by
  unfold State.clearSlots; (try simp); all_goals ((repeat' split) <;> (first | with_reducible rfl | (simp; done) | (simp_all; done)))

@[simp] theorem State.clearSlots_outer (s : State) (n : Nat) : (State.clearSlots s n).outer = s.outer := State.still_outer (State.clearSlots_still s n)

@[simp] theorem State.clearSlots_kept (s : State) (n : Nat) : (State.clearSlots s n).kept = s.kept := State.still_kept (State.clearSlots_still s n)

@[simp] theorem State.clearSlots_ram (s : State) (n : Nat) : (State.clearSlots s n).ram = s.ram := State.still_ram (State.clearSlots_still s n)

@[simp] theorem State.linkTo_still (s : State) (l : Nat) (new : Nat) (cause : Nat) : (State.linkTo s l new cause).still = s.still := by
  unfold State.linkTo; (try simp); all_goals ((repeat' split) <;> (first | with_reducible rfl | (simp; done) | (simp_all; done)))

@[simp] theorem State.linkTo_outer (s : State) (l : Nat) (new : Nat) (cause : Nat) : (State.linkTo s l new cause).outer = s.outer := State.still_outer (State.linkTo_still s l new cause)

@[simp] theorem State.linkTo_kept (s : State) (l : Nat) (new : Nat) (cause : Nat) : (State.linkTo s l new cause).kept = s.kept := State.still_kept (State.linkTo_still s l new cause)

@[simp] theorem State.linkTo_ram (s : State) (l : Nat) (new : Nat) (cause : Nat) : (State.linkTo s l new cause).ram = s.ram := State.still_ram (State.linkTo_still s l new cause)

@[simp] theorem State.linkUp_still (s : State) (l : Nat) : (State.linkUp s l).still = s.still := by
  unfold State.linkUp; (try simp); all_goals ((repeat' split) <;> (first | with_reducible rfl | (simp; done) | (simp_all; done)))

@[simp] theorem State.linkUp_outer (s : State) (l : Nat) : (State.linkUp s l).outer = s.outer := State.still_outer (State.linkUp_still s l)

@[simp] theorem State.linkUp_kept (s : State) (l : Nat) : (State.linkUp s l).kept = s.kept := State.still_kept (State.linkUp_still s l)

@[simp] theorem State.linkUp_ram (s : State) (l : Nat) : (State.linkUp s l).ram = s.ram := State.still_ram (State.linkUp_still s l)

@[simp] theorem State.blockError_still (s : State) (l : Nat) : (State.blockError s l).still = s.still := by
  unfold State.blockError; (try simp); all_goals ((repeat' split) <;> (first | with_reducible rfl | (simp; done) | (simp_all; done)))

@[simp] theorem State.blockError_outer (s : State) (l : Nat) : (State.blockError s l).outer = s.outer := State.still_outer (State.blockError_still s l)

@[simp] theorem State.blockError_kept (s : State) (l : Nat) : (State.blockError s l).kept = s.kept := State.still_kept (State.blockError_still s l)

@[simp] theorem State.blockError_ram (s : State) (l : Nat) : (State.blockError s l).ram = s.ram := State.still_ram (State.blockError_still s l)

@[simp] theorem State.quietLanes_still (s : State) (l : Nat) : (State.quietLanes s l).still = s.still := by
  unfold State.quietLanes; (try simp); all_goals ((repeat' split) <;> (first | with_reducible rfl | (simp; done) | (simp_all; done)))

@[simp] theorem State.quietLanes_outer (s : State) (l : Nat) : (State.quietLanes s l).outer = s.outer := State.still_outer (State.quietLanes_still s l)

@[simp] theorem State.quietLanes_kept (s : State) (l : Nat) : (State.quietLanes s l).kept = s.kept := State.still_kept (State.quietLanes_still s l)

@[simp] theorem State.quietLanes_ram (s : State) (l : Nat) : (State.quietLanes s l).ram = s.ram := State.still_ram (State.quietLanes_still s l)

@[simp] theorem State.linkStop_still (s : State) (l : Nat) : (State.linkStop s l).still = s.still := by
  unfold State.linkStop; (try simp); all_goals ((repeat' split) <;> (first | with_reducible rfl | (simp; done) | (simp_all; done)))

@[simp] theorem State.linkStop_outer (s : State) (l : Nat) : (State.linkStop s l).outer = s.outer := State.still_outer (State.linkStop_still s l)

@[simp] theorem State.linkStop_kept (s : State) (l : Nat) : (State.linkStop s l).kept = s.kept := State.still_kept (State.linkStop_still s l)

@[simp] theorem State.linkStop_ram (s : State) (l : Nat) : (State.linkStop s l).ram = s.ram := State.still_ram (State.linkStop_still s l)

@[simp] theorem State.linkWait_still (s : State) (l : Nat) (cause : Nat) : (State.linkWait s l cause).still = s.still := by
  unfold State.linkWait; (try simp); all_goals ((repeat' split) <;> (first | with_reducible rfl | (simp; done) | (simp_all; done)))

@[simp] theorem State.linkWait_outer (s : State) (l : Nat) (cause : Nat) : (State.linkWait s l cause).outer = s.outer := State.still_outer (State.linkWait_still s l cause)

@[simp] theorem State.linkWait_kept (s : State) (l : Nat) (cause : Nat) : (State.linkWait s l cause).kept = s.kept := State.still_kept (State.linkWait_still s l cause)

@[simp] theorem State.linkWait_ram (s : State) (l : Nat) (cause : Nat) : (State.linkWait s l cause).ram = s.ram := State.still_ram (State.linkWait_still s l cause)

@[simp] theorem State.seedLanes_still (s : State) (l : Nat) (tb : Nat) : (State.seedLanes s l tb).still = s.still := by
  unfold State.seedLanes; (try simp); all_goals ((repeat' split) <;> (first | with_reducible rfl | (simp; done) | (simp_all; done)))

@[simp] theorem State.seedLanes_outer (s : State) (l : Nat) (tb : Nat) : (State.seedLanes s l tb).outer = s.outer := State.still_outer (State.seedLanes_still s l tb)

@[simp] theorem State.seedLanes_kept (s : State) (l : Nat) (tb : Nat) : (State.seedLanes s l tb).kept = s.kept := State.still_kept (State.seedLanes_still s l tb)

@[simp] theorem State.seedLanes_ram (s : State) (l : Nat) (tb : Nat) : (State.seedLanes s l tb).ram = s.ram := State.still_ram (State.seedLanes_still s l tb)

@[simp] theorem State.idleLanes_still (s : State) (l : Nat) : (State.idleLanes s l).still = s.still := by
  unfold State.idleLanes; (try simp); all_goals ((repeat' split) <;> (first | with_reducible rfl | (simp; done) | (simp_all; done)))

@[simp] theorem State.idleLanes_outer (s : State) (l : Nat) : (State.idleLanes s l).outer = s.outer := State.still_outer (State.idleLanes_still s l)

@[simp] theorem State.idleLanes_kept (s : State) (l : Nat) : (State.idleLanes s l).kept = s.kept := State.still_kept (State.idleLanes_still s l)

@[simp] theorem State.idleLanes_ram (s : State) (l : Nat) : (State.idleLanes s l).ram = s.ram := State.still_ram (State.idleLanes_still s l)

@[simp] theorem State.linkBegin_still (s : State) (l : Nat) : (State.linkBegin s l).still = s.still := by
  unfold State.linkBegin; (try simp); all_goals ((repeat' split) <;> (first | with_reducible rfl | (simp; done) | (simp_all; done)))

@[simp] theorem State.linkBegin_outer (s : State) (l : Nat) : (State.linkBegin s l).outer = s.outer := State.still_outer (State.linkBegin_still s l)

@[simp] theorem State.linkBegin_kept (s : State) (l : Nat) : (State.linkBegin s l).kept = s.kept := State.still_kept (State.linkBegin_still s l)

@[simp] theorem State.linkBegin_ram (s : State) (l : Nat) : (State.linkBegin s l).ram = s.ram := State.still_ram (State.linkBegin_still s l)

@[simp] theorem State.linkStart_still (s : State) (l : Nat) : (State.linkStart s l).still = s.still := by
  unfold State.linkStart; (try simp); all_goals ((repeat' split) <;> (first | with_reducible rfl | (simp; done) | (simp_all; done)))

@[simp] theorem State.linkStart_outer (s : State) (l : Nat) : (State.linkStart s l).outer = s.outer := State.still_outer (State.linkStart_still s l)

@[simp] theorem State.linkStart_kept (s : State) (l : Nat) : (State.linkStart s l).kept = s.kept := State.still_kept (State.linkStart_still s l)

@[simp] theorem State.linkStart_ram (s : State) (l : Nat) : (State.linkStart s l).ram = s.ram := State.still_ram (State.linkStart_still s l)

@[simp] theorem State.sweepOut_still (s : State) (l : Nat) (preset : Nat) (step : Nat) : (State.sweepOut s l preset step).still = s.still := by
  unfold State.sweepOut; (try simp); all_goals ((repeat' split) <;> (first | with_reducible rfl | (simp; done) | (simp_all; done)))

@[simp] theorem State.sweepOut_outer (s : State) (l : Nat) (preset : Nat) (step : Nat) : (State.sweepOut s l preset step).outer = s.outer := State.still_outer (State.sweepOut_still s l preset step)

@[simp] theorem State.sweepOut_kept (s : State) (l : Nat) (preset : Nat) (step : Nat) : (State.sweepOut s l preset step).kept = s.kept := State.still_kept (State.sweepOut_still s l preset step)

@[simp] theorem State.sweepOut_ram (s : State) (l : Nat) (preset : Nat) (step : Nat) : (State.sweepOut s l preset step).ram = s.ram := State.still_ram (State.sweepOut_still s l preset step)

@[simp] theorem State.rxck_still (s : State) (l : Nat) : (State.rxck s l).still = s.still := by
  unfold State.rxck; (try simp); all_goals ((repeat' split) <;> (first | with_reducible rfl | (simp; done) | (simp_all; done)))

@[simp] theorem State.rxck_outer (s : State) (l : Nat) : (State.rxck s l).outer = s.outer := State.still_outer (State.rxck_still s l)

@[simp] theorem State.rxck_kept (s : State) (l : Nat) : (State.rxck s l).kept = s.kept := State.still_kept (State.rxck_still s l)

@[simp] theorem State.rxck_ram (s : State) (l : Nat) : (State.rxck s l).ram = s.ram := State.still_ram (State.rxck_still s l)

@[simp] theorem State.presetStep_still (s : State) (l : Nat) : (State.presetStep s l).still = s.still := by
  unfold State.presetStep; (try simp); all_goals ((repeat' split) <;> (first | with_reducible rfl | (simp; done) | (simp_all; done)))

@[simp] theorem State.presetStep_outer (s : State) (l : Nat) : (State.presetStep s l).outer = s.outer := State.still_outer (State.presetStep_still s l)

@[simp] theorem State.presetStep_kept (s : State) (l : Nat) : (State.presetStep s l).kept = s.kept := State.still_kept (State.presetStep_still s l)

@[simp] theorem State.presetStep_ram (s : State) (l : Nat) : (State.presetStep s l).ram = s.ram := State.still_ram (State.presetStep_still s l)

@[simp] theorem State.polarityTrial_still (s : State) (l : Nat) : (State.polarityTrial s l).still = s.still := by
  unfold State.polarityTrial; (try simp); all_goals ((repeat' split) <;> (first | with_reducible rfl | (simp; done) | (simp_all; done)))

@[simp] theorem State.polarityTrial_outer (s : State) (l : Nat) : (State.polarityTrial s l).outer = s.outer := State.still_outer (State.polarityTrial_still s l)

@[simp] theorem State.polarityTrial_kept (s : State) (l : Nat) : (State.polarityTrial s l).kept = s.kept := State.still_kept (State.polarityTrial_still s l)

@[simp] theorem State.polarityTrial_ram (s : State) (l : Nat) : (State.polarityTrial s l).ram = s.ram := State.still_ram (State.polarityTrial_still s l)

@[simp] theorem State.resumeSending_still (s : State) (port : Nat) : (State.resumeSending s port).still = s.still := by
  unfold State.resumeSending; (try simp); all_goals ((repeat' split) <;> (first | with_reducible rfl | (simp; done) | (simp_all; done)))

@[simp] theorem State.resumeSending_outer (s : State) (port : Nat) : (State.resumeSending s port).outer = s.outer := State.still_outer (State.resumeSending_still s port)

@[simp] theorem State.resumeSending_kept (s : State) (port : Nat) : (State.resumeSending s port).kept = s.kept := State.still_kept (State.resumeSending_still s port)

@[simp] theorem State.resumeSending_ram (s : State) (port : Nat) : (State.resumeSending s port).ram = s.ram := State.still_ram (State.resumeSending_still s port)

@[simp] theorem State.portActive_still (s : State) (n : Nat) (mods : Nat) (depth : Nat) : (State.portActive s n mods depth).still = s.still := by
  unfold State.portActive; (try simp); all_goals ((repeat' split) <;> (first | with_reducible rfl | (simp; done) | (simp_all; done)))

@[simp] theorem State.portActive_outer (s : State) (n : Nat) (mods : Nat) (depth : Nat) : (State.portActive s n mods depth).outer = s.outer := State.still_outer (State.portActive_still s n mods depth)

@[simp] theorem State.portActive_kept (s : State) (n : Nat) (mods : Nat) (depth : Nat) : (State.portActive s n mods depth).kept = s.kept := State.still_kept (State.portActive_still s n mods depth)

@[simp] theorem State.portActive_ram (s : State) (n : Nat) (mods : Nat) (depth : Nat) : (State.portActive s n mods depth).ram = s.ram := State.still_ram (State.portActive_still s n mods depth)

@[simp] theorem State.sendCaps_still (s : State) (l : Nat) : (State.sendCaps s l).still = s.still := by
  unfold State.sendCaps; (try simp); all_goals ((repeat' split) <;> (first | with_reducible rfl | (simp; done) | (simp_all; done)))

@[simp] theorem State.sendCaps_outer (s : State) (l : Nat) : (State.sendCaps s l).outer = s.outer := State.still_outer (State.sendCaps_still s l)

@[simp] theorem State.sendCaps_kept (s : State) (l : Nat) : (State.sendCaps s l).kept = s.kept := State.still_kept (State.sendCaps_still s l)

@[simp] theorem State.sendCaps_ram (s : State) (l : Nat) : (State.sendCaps s l).ram = s.ram := State.still_ram (State.sendCaps_still s l)

@[simp] theorem State.lockRow_still (s : State) (l : Nat) : (State.lockRow s l).still = s.still := by
  unfold State.lockRow; (try simp); all_goals ((repeat' split) <;> (first | with_reducible rfl | (simp; done) | (simp_all; done)))

@[simp] theorem State.lockRow_outer (s : State) (l : Nat) : (State.lockRow s l).outer = s.outer := State.still_outer (State.lockRow_still s l)

@[simp] theorem State.lockRow_kept (s : State) (l : Nat) : (State.lockRow s l).kept = s.kept := State.still_kept (State.lockRow_still s l)

@[simp] theorem State.lockRow_ram (s : State) (l : Nat) : (State.lockRow s l).ram = s.ram := State.still_ram (State.lockRow_still s l)

@[simp] theorem State.trainBlock_still (s : State) (l : Nat) (status : Nat) (presets : Nat) : (State.trainBlock s l status presets).still = s.still := by
  unfold State.trainBlock; (try simp); all_goals ((repeat' split) <;> (first | with_reducible rfl | (simp; done) | (simp_all; done)))

@[simp] theorem State.trainBlock_outer (s : State) (l : Nat) (status : Nat) (presets : Nat) : (State.trainBlock s l status presets).outer = s.outer := State.still_outer (State.trainBlock_still s l status presets)

@[simp] theorem State.trainBlock_kept (s : State) (l : Nat) (status : Nat) (presets : Nat) : (State.trainBlock s l status presets).kept = s.kept := State.still_kept (State.trainBlock_still s l status presets)

@[simp] theorem State.trainBlock_ram (s : State) (l : Nat) (status : Nat) (presets : Nat) : (State.trainBlock s l status presets).ram = s.ram := State.still_ram (State.trainBlock_still s l status presets)

@[simp] theorem State.uplinkHeader_still (s : State) (l : Nat) (h : BitVec 2) : (State.uplinkHeader s l h).still = s.still := by
  unfold State.uplinkHeader; (try simp); all_goals ((repeat' split) <;> (first | with_reducible rfl | (simp; done) | (simp_all; done)))

@[simp] theorem State.uplinkHeader_outer (s : State) (l : Nat) (h : BitVec 2) : (State.uplinkHeader s l h).outer = s.outer := State.still_outer (State.uplinkHeader_still s l h)

@[simp] theorem State.uplinkHeader_kept (s : State) (l : Nat) (h : BitVec 2) : (State.uplinkHeader s l h).kept = s.kept := State.still_kept (State.uplinkHeader_still s l h)

@[simp] theorem State.uplinkHeader_ram (s : State) (l : Nat) (h : BitVec 2) : (State.uplinkHeader s l h).ram = s.ram := State.still_ram (State.uplinkHeader_still s l h)

@[simp] theorem State.blockLock_still (s : State) (l : Nat) (headers : List (BitVec 2)) : (State.blockLock s l headers).still = s.still := by
  unfold State.blockLock; (try simp); all_goals ((repeat' split) <;> (first | with_reducible rfl | (simp; done) | (simp_all; done)))

@[simp] theorem State.blockLock_outer (s : State) (l : Nat) (headers : List (BitVec 2)) : (State.blockLock s l headers).outer = s.outer := State.still_outer (State.blockLock_still s l headers)

@[simp] theorem State.blockLock_kept (s : State) (l : Nat) (headers : List (BitVec 2)) : (State.blockLock s l headers).kept = s.kept := State.still_kept (State.blockLock_still s l headers)

@[simp] theorem State.blockLock_ram (s : State) (l : Nat) (headers : List (BitVec 2)) : (State.blockLock s l headers).ram = s.ram := State.still_ram (State.blockLock_still s l headers)

@[simp] theorem State.capsIn_still (s : State) (l : Nat) (control : Bool) (b : Bytes) : (State.capsIn s l control b).still = s.still := by
  unfold State.capsIn; (try simp); all_goals ((repeat' split) <;> (first | with_reducible rfl | (simp; done) | (simp_all; done)))

@[simp] theorem State.capsIn_outer (s : State) (l : Nat) (control : Bool) (b : Bytes) : (State.capsIn s l control b).outer = s.outer := State.still_outer (State.capsIn_still s l control b)

@[simp] theorem State.capsIn_kept (s : State) (l : Nat) (control : Bool) (b : Bytes) : (State.capsIn s l control b).kept = s.kept := State.still_kept (State.capsIn_still s l control b)

@[simp] theorem State.capsIn_ram (s : State) (l : Nat) (control : Bool) (b : Bytes) : (State.capsIn s l control b).ram = s.ram := State.still_ram (State.capsIn_still s l control b)

@[simp] theorem State.capsSend_still (s : State) (l : Nat) : (State.capsSend s l).still = s.still := by
  unfold State.capsSend; (try simp); all_goals ((repeat' split) <;> (first | with_reducible rfl | (simp; done) | (simp_all; done)))

@[simp] theorem State.capsSend_outer (s : State) (l : Nat) : (State.capsSend s l).outer = s.outer := State.still_outer (State.capsSend_still s l)

@[simp] theorem State.capsSend_kept (s : State) (l : Nat) : (State.capsSend s l).kept = s.kept := State.still_kept (State.capsSend_still s l)

@[simp] theorem State.capsSend_ram (s : State) (l : Nat) : (State.capsSend s l).ram = s.ram := State.still_ram (State.capsSend_still s l)

@[simp] theorem State.timerRow_still (s : State) (l : Nat) (st : Nat) (ns : Nat) (cause : Nat) : (State.timerRow s l st ns cause).still = s.still := by
  unfold State.timerRow; (try simp); all_goals ((repeat' split) <;> (first | with_reducible rfl | (simp; done) | (simp_all; done)))

@[simp] theorem State.timerRow_outer (s : State) (l : Nat) (st : Nat) (ns : Nat) (cause : Nat) : (State.timerRow s l st ns cause).outer = s.outer := State.still_outer (State.timerRow_still s l st ns cause)

@[simp] theorem State.timerRow_kept (s : State) (l : Nat) (st : Nat) (ns : Nat) (cause : Nat) : (State.timerRow s l st ns cause).kept = s.kept := State.still_kept (State.timerRow_still s l st ns cause)

@[simp] theorem State.timerRow_ram (s : State) (l : Nat) (st : Nat) (ns : Nat) (cause : Nat) : (State.timerRow s l st ns cause).ram = s.ram := State.still_ram (State.timerRow_still s l st ns cause)

@[simp] theorem State.linkLost_still (s : State) (l : Nat) : (State.linkLost s l).still = s.still := by
  unfold State.linkLost; (try simp); all_goals ((repeat' split) <;> (first | with_reducible rfl | (simp; done) | (simp_all; done)))

@[simp] theorem State.linkLost_outer (s : State) (l : Nat) : (State.linkLost s l).outer = s.outer := State.still_outer (State.linkLost_still s l)

@[simp] theorem State.linkLost_kept (s : State) (l : Nat) : (State.linkLost s l).kept = s.kept := State.still_kept (State.linkLost_still s l)

@[simp] theorem State.linkLost_ram (s : State) (l : Nat) : (State.linkLost s l).ram = s.ram := State.still_ram (State.linkLost_still s l)

@[simp] theorem State.waitExpired_still (s : State) (l : Nat) : (State.waitExpired s l).still = s.still := by
  unfold State.waitExpired; (try simp); all_goals ((repeat' split) <;> (first | with_reducible rfl | (simp; done) | (simp_all; done)))

@[simp] theorem State.waitExpired_outer (s : State) (l : Nat) : (State.waitExpired s l).outer = s.outer := State.still_outer (State.waitExpired_still s l)

@[simp] theorem State.waitExpired_kept (s : State) (l : Nat) : (State.waitExpired s l).kept = s.kept := State.still_kept (State.waitExpired_still s l)

@[simp] theorem State.waitExpired_ram (s : State) (l : Nat) : (State.waitExpired s l).ram = s.ram := State.still_ram (State.waitExpired_still s l)

@[simp] theorem State.loopStart_still (s : State) (n : Nat) : (State.loopStart s n).1.still = s.still := by
  unfold State.loopStart; (try simp); all_goals ((repeat' split) <;> (first | with_reducible rfl | (simp; done) | (simp_all; done)))

@[simp] theorem State.loopStart_outer (s : State) (n : Nat) : (State.loopStart s n).1.outer = s.outer := State.still_outer (State.loopStart_still s n)

@[simp] theorem State.loopStart_kept (s : State) (n : Nat) : (State.loopStart s n).1.kept = s.kept := State.still_kept (State.loopStart_still s n)

@[simp] theorem State.loopStart_ram (s : State) (n : Nat) : (State.loopStart s n).1.ram = s.ram := State.still_ram (State.loopStart_still s n)

end Sys2Proof.Machine
end

