-- ==== Sys2Proof/Laws/OuterPageStore.lean ====
section
/-! SUPPORT. What the operations of Machine/PageStore.lean leave alone: the queue, the idle time, the clock and the boot record (`outer`); flash, settings copies, update service and recovery (`kept`); the bytes of DRAM and staging (`ram`). -/

namespace Sys2Proof.Machine

@[simp] theorem State.takeChunks_still (n : Nat) (s : State) (free got : List Nat) : (s.takeChunks n free got).1.still = s.still := by
  induction n generalizing s free got with
  | zero => rfl
  | succ n ih => simp [State.takeChunks, ih, State.fresh]

@[simp] theorem State.takeChunks_outer (n : Nat) (s : State) (free got : List Nat) : (s.takeChunks n free got).1.outer = s.outer := State.still_outer (State.takeChunks_still n s free got)

@[simp] theorem State.takeChunks_kept (n : Nat) (s : State) (free got : List Nat) : (s.takeChunks n free got).1.kept = s.kept := State.still_kept (State.takeChunks_still n s free got)

@[simp] theorem State.takeChunks_ram (n : Nat) (s : State) (free got : List Nat) : (s.takeChunks n free got).1.ram = s.ram := State.still_ram (State.takeChunks_still n s free got)

@[simp] theorem State.poisonStore_outer (s : State) (p : Page) (y : Nat) (mask : Nat) : (State.poisonStore s p y mask).outer = s.outer := by
  unfold State.poisonStore; (try simp); all_goals ((repeat' split) <;> (first | with_reducible rfl | (simp; done) | (simp_all; done)))

@[simp] theorem State.poisonStore_kept (s : State) (p : Page) (y : Nat) (mask : Nat) : (State.poisonStore s p y mask).kept = s.kept := by
  unfold State.poisonStore; (try simp); all_goals ((repeat' split) <;> (first | with_reducible rfl | (simp; done) | (simp_all; done)))

@[simp] theorem State.updSlices_still (s : State) (num : Nat) (line : Nat) (ports : Nat) (f : Slice → Slice) : (State.updSlices s num line ports f).still = s.still := by
  unfold State.updSlices; (try simp); all_goals ((repeat' split) <;> (first | with_reducible rfl | (simp; done) | (simp_all; done)))

@[simp] theorem State.updSlices_outer (s : State) (num : Nat) (line : Nat) (ports : Nat) (f : Slice → Slice) : (State.updSlices s num line ports f).outer = s.outer := State.still_outer (State.updSlices_still s num line ports f)

@[simp] theorem State.updSlices_kept (s : State) (num : Nat) (line : Nat) (ports : Nat) (f : Slice → Slice) : (State.updSlices s num line ports f).kept = s.kept := State.still_kept (State.updSlices_still s num line ports f)

@[simp] theorem State.updSlices_ram (s : State) (num : Nat) (line : Nat) (ports : Nat) (f : Slice → Slice) : (State.updSlices s num line ports f).ram = s.ram := State.still_ram (State.updSlices_still s num line ports f)

@[simp] theorem State.storePoison_outer (s : State) (num : Nat) (line : Nat) (ports : Nat) : (State.storePoison s num line ports).outer = s.outer := by
  unfold State.storePoison; (try simp); all_goals ((repeat' split) <;> (first | with_reducible rfl | (simp; done) | (simp_all; done)))

@[simp] theorem State.storePoison_kept (s : State) (num : Nat) (line : Nat) (ports : Nat) : (State.storePoison s num line ports).kept = s.kept := by
  unfold State.storePoison; (try simp); all_goals ((repeat' split) <;> (first | with_reducible rfl | (simp; done) | (simp_all; done)))

@[simp] theorem State.dropRepair_outer (s : State) (r : Repair) : (State.dropRepair s r).outer = s.outer := by
  unfold State.dropRepair; (try simp); all_goals ((repeat' split) <;> (first | with_reducible rfl | (simp; done) | (simp_all; done)))

@[simp] theorem State.dropRepair_kept (s : State) (r : Repair) : (State.dropRepair s r).kept = s.kept := by
  unfold State.dropRepair; (try simp); all_goals ((repeat' split) <;> (first | with_reducible rfl | (simp; done) | (simp_all; done)))

@[simp] theorem State.keepFine_still (s : State) (mk : Nat) : (State.keepFine s mk).still = s.still := by
  unfold State.keepFine; (try simp); all_goals ((repeat' split) <;> (first | with_reducible rfl | (simp; done) | (simp_all; done)))

@[simp] theorem State.keepFine_outer (s : State) (mk : Nat) : (State.keepFine s mk).outer = s.outer := State.still_outer (State.keepFine_still s mk)

@[simp] theorem State.keepFine_kept (s : State) (mk : Nat) : (State.keepFine s mk).kept = s.kept := State.still_kept (State.keepFine_still s mk)

@[simp] theorem State.keepFine_ram (s : State) (mk : Nat) : (State.keepFine s mk).ram = s.ram := State.still_ram (State.keepFine_still s mk)

end Sys2Proof.Machine
end

