-- ==== Sys2Proof/Laws/OuterRender.lean ====
section
/-! SUPPORT. What the operations of Machine/Render.lean leave alone: the queue, the idle time, the clock and the boot record (`outer`); flash, settings copies, update service and recovery (`kept`); the bytes of DRAM and staging (`ram`). -/

namespace Sys2Proof.Machine

@[simp] theorem State.updJob_still (s : State) (i : Nat) (f : Job → Job) : (State.updJob s i f).still = s.still := by
  unfold State.updJob; (try simp); all_goals ((repeat' split) <;> (first | with_reducible rfl | (simp; done) | (simp_all; done)))

@[simp] theorem State.updJob_outer (s : State) (i : Nat) (f : Job → Job) : (State.updJob s i f).outer = s.outer := State.still_outer (State.updJob_still s i f)

@[simp] theorem State.updJob_kept (s : State) (i : Nat) (f : Job → Job) : (State.updJob s i f).kept = s.kept := State.still_kept (State.updJob_still s i f)

@[simp] theorem State.updJob_ram (s : State) (i : Nat) (f : Job → Job) : (State.updJob s i f).ram = s.ram := State.still_ram (State.updJob_still s i f)

@[simp] theorem State.feedDecoders_still (s : State) : (State.feedDecoders s).still = s.still := by
  unfold State.feedDecoders
  apply foldl_still; intro s a
  (repeat' split) <;> simp

@[simp] theorem State.feedDecoders_outer (s : State) : (State.feedDecoders s).outer = s.outer := State.still_outer (State.feedDecoders_still s)

@[simp] theorem State.feedDecoders_kept (s : State) : (State.feedDecoders s).kept = s.kept := State.still_kept (State.feedDecoders_still s)

@[simp] theorem State.feedDecoders_ram (s : State) : (State.feedDecoders s).ram = s.ram := State.still_ram (State.feedDecoders_still s)

@[simp] theorem State.askTiles_still (s : State) (ts : List TileRef) : (State.askTiles s ts).still = s.still := by
  unfold State.askTiles; (try simp); all_goals ((repeat' split) <;> (first | with_reducible rfl | (simp; done) | (simp_all; done)))

@[simp] theorem State.askTiles_outer (s : State) (ts : List TileRef) : (State.askTiles s ts).outer = s.outer := State.still_outer (State.askTiles_still s ts)

@[simp] theorem State.askTiles_kept (s : State) (ts : List TileRef) : (State.askTiles s ts).kept = s.kept := State.still_kept (State.askTiles_still s ts)

@[simp] theorem State.askTiles_ram (s : State) (ts : List TileRef) : (State.askTiles s ts).ram = s.ram := State.still_ram (State.askTiles_still s ts)

@[simp] theorem State.abandonDecodes_still (s : State) : (State.abandonDecodes s).still = s.still := by
  unfold State.abandonDecodes; (try simp); all_goals ((repeat' split) <;> (first | with_reducible rfl | (simp; done) | (simp_all; done)))

@[simp] theorem State.abandonDecodes_outer (s : State) : (State.abandonDecodes s).outer = s.outer := State.still_outer (State.abandonDecodes_still s)

@[simp] theorem State.abandonDecodes_kept (s : State) : (State.abandonDecodes s).kept = s.kept := State.still_kept (State.abandonDecodes_still s)

@[simp] theorem State.abandonDecodes_ram (s : State) : (State.abandonDecodes s).ram = s.ram := State.still_ram (State.abandonDecodes_still s)

@[simp] theorem State.evict_still (s : State) (need n : Nat) : (s.evict need n).still = s.still := by
  induction n generalizing s with
  | zero => rfl
  | succ n ih => unfold State.evict; (repeat' split) <;> simp [ih]

@[simp] theorem State.evict_outer (s : State) (need n : Nat) : (s.evict need n).outer = s.outer := State.still_outer (State.evict_still s need n)

@[simp] theorem State.evict_kept (s : State) (need n : Nat) : (s.evict need n).kept = s.kept := State.still_kept (State.evict_still s need n)

@[simp] theorem State.evict_ram (s : State) (need n : Nat) : (s.evict need n).ram = s.ram := State.still_ram (State.evict_still s need n)

@[simp] theorem State.thrash_still (s : State) (t : TileRef) (n : Nat) : (State.thrash s t n).still = s.still := by
  unfold State.thrash; apply foldl_still; intro s a; (repeat' split) <;> simp

@[simp] theorem State.thrash_outer (s : State) (t : TileRef) (n : Nat) : (State.thrash s t n).outer = s.outer := State.still_outer (State.thrash_still s t n)

@[simp] theorem State.thrash_kept (s : State) (t : TileRef) (n : Nat) : (State.thrash s t n).kept = s.kept := State.still_kept (State.thrash_still s t n)

@[simp] theorem State.thrash_ram (s : State) (t : TileRef) (n : Nat) : (State.thrash s t n).ram = s.ram := State.still_ram (State.thrash_still s t n)

@[simp] theorem State.tileLost_still (s : State) (t : TileRef) : (State.tileLost s t).still = s.still := by
  unfold State.tileLost; (try simp); all_goals ((repeat' split) <;> (first | with_reducible rfl | (simp; done) | (simp_all; done)))

@[simp] theorem State.tileLost_outer (s : State) (t : TileRef) : (State.tileLost s t).outer = s.outer := State.still_outer (State.tileLost_still s t)

@[simp] theorem State.tileLost_kept (s : State) (t : TileRef) : (State.tileLost s t).kept = s.kept := State.still_kept (State.tileLost_still s t)

@[simp] theorem State.tileLost_ram (s : State) (t : TileRef) : (State.tileLost s t).ram = s.ram := State.still_ram (State.tileLost_still s t)

@[simp] theorem State.sourceLost_outer (s : State) (jb : Job) (reason : Nat) : (State.sourceLost s jb reason).outer = s.outer := by
  unfold State.sourceLost; (try simp); all_goals ((repeat' split) <;> (first | with_reducible rfl | (simp; done) | (simp_all; done)))

@[simp] theorem State.sourceLost_kept (s : State) (jb : Job) (reason : Nat) : (State.sourceLost s jb reason).kept = s.kept := by
  unfold State.sourceLost; (try simp); all_goals ((repeat' split) <;> (first | with_reducible rfl | (simp; done) | (simp_all; done)))

@[simp] theorem State.parityTile_still (s : State) (t : TileRef) : (State.parityTile s t).still = s.still := by
  unfold State.parityTile; (try simp); all_goals ((repeat' split) <;> (first | with_reducible rfl | (simp; done) | (simp_all; done)))

@[simp] theorem State.parityTile_outer (s : State) (t : TileRef) : (State.parityTile s t).outer = s.outer := State.still_outer (State.parityTile_still s t)

@[simp] theorem State.parityTile_kept (s : State) (t : TileRef) : (State.parityTile s t).kept = s.kept := State.still_kept (State.parityTile_still s t)

@[simp] theorem State.parityTile_ram (s : State) (t : TileRef) : (State.parityTile s t).ram = s.ram := State.still_ram (State.parityTile_still s t)

@[simp] theorem State.decodeDone_still (s : State) (d : Nat) (bad : Bool) : (State.decodeDone s d bad).still = s.still := by
  unfold State.decodeDone; (try simp); all_goals ((repeat' split) <;> (first | with_reducible rfl | (simp; done) | (simp_all; done)))

@[simp] theorem State.decodeDone_outer (s : State) (d : Nat) (bad : Bool) : (State.decodeDone s d bad).outer = s.outer := State.still_outer (State.decodeDone_still s d bad)

@[simp] theorem State.decodeDone_kept (s : State) (d : Nat) (bad : Bool) : (State.decodeDone s d bad).kept = s.kept := State.still_kept (State.decodeDone_still s d bad)

@[simp] theorem State.decodeDone_ram (s : State) (d : Nat) (bad : Bool) : (State.decodeDone s d bad).ram = s.ram := State.still_ram (State.decodeDone_still s d bad)

@[simp] theorem State.stalled_still (s : State) (d : Nat) (sub : Nat) (x : Decoder) (words : Nat) (w : Qtc.Walk) : (State.stalled s d sub x words w).still = s.still := by
  unfold State.stalled; (try simp); all_goals ((repeat' split) <;> (first | with_reducible rfl | (simp; done) | (simp_all; done)))

@[simp] theorem State.stalled_outer (s : State) (d : Nat) (sub : Nat) (x : Decoder) (words : Nat) (w : Qtc.Walk) : (State.stalled s d sub x words w).outer = s.outer := State.still_outer (State.stalled_still s d sub x words w)

@[simp] theorem State.stalled_kept (s : State) (d : Nat) (sub : Nat) (x : Decoder) (words : Nat) (w : Qtc.Walk) : (State.stalled s d sub x words w).kept = s.kept := State.still_kept (State.stalled_still s d sub x words w)

@[simp] theorem State.stalled_ram (s : State) (d : Nat) (sub : Nat) (x : Decoder) (words : Nat) (w : Qtc.Walk) : (State.stalled s d sub x words w).ram = s.ram := State.still_ram (State.stalled_still s d sub x words w)

@[simp] theorem State.inputStall_still (s : State) (d : Nat) (words : Nat) : (State.inputStall s d words).still = s.still := by
  unfold State.inputStall; (try simp); all_goals ((repeat' split) <;> (first | with_reducible rfl | (simp; done) | (simp_all; done)))

@[simp] theorem State.inputStall_outer (s : State) (d : Nat) (words : Nat) : (State.inputStall s d words).outer = s.outer := State.still_outer (State.inputStall_still s d words)

@[simp] theorem State.inputStall_kept (s : State) (d : Nat) (words : Nat) : (State.inputStall s d words).kept = s.kept := State.still_kept (State.inputStall_still s d words)

@[simp] theorem State.inputStall_ram (s : State) (d : Nat) (words : Nat) : (State.inputStall s d words).ram = s.ram := State.still_ram (State.inputStall_still s d words)

@[simp] theorem State.outputStall_still (s : State) (d : Nat) (samples : Nat) (words : Nat) : (State.outputStall s d samples words).still = s.still := by
  unfold State.outputStall; (try simp); all_goals ((repeat' split) <;> (first | with_reducible rfl | (simp; done) | (simp_all; done)))

@[simp] theorem State.outputStall_outer (s : State) (d : Nat) (samples : Nat) (words : Nat) : (State.outputStall s d samples words).outer = s.outer := State.still_outer (State.outputStall_still s d samples words)

@[simp] theorem State.outputStall_kept (s : State) (d : Nat) (samples : Nat) (words : Nat) : (State.outputStall s d samples words).kept = s.kept := State.still_kept (State.outputStall_still s d samples words)

@[simp] theorem State.outputStall_ram (s : State) (d : Nat) (samples : Nat) (words : Nat) : (State.outputStall s d samples words).ram = s.ram := State.still_ram (State.outputStall_still s d samples words)

@[simp] theorem State.renderPage_still (s : State) (p : Page) (hidden : Bool) : (State.renderPage s p hidden).still = s.still := by
  unfold State.renderPage; (try simp); all_goals ((repeat' split) <;> (first | with_reducible rfl | (simp; done) | (simp_all; done)))

@[simp] theorem State.renderPage_outer (s : State) (p : Page) (hidden : Bool) : (State.renderPage s p hidden).outer = s.outer := State.still_outer (State.renderPage_still s p hidden)

@[simp] theorem State.renderPage_kept (s : State) (p : Page) (hidden : Bool) : (State.renderPage s p hidden).kept = s.kept := State.still_kept (State.renderPage_still s p hidden)

@[simp] theorem State.renderPage_ram (s : State) (p : Page) (hidden : Bool) : (State.renderPage s p hidden).ram = s.ram := State.still_ram (State.renderPage_still s p hidden)

@[simp] theorem State.renderStart_still (s : State) : (State.renderStart s).still = s.still := by
  unfold State.renderStart; (try simp); all_goals ((repeat' split) <;> (first | with_reducible rfl | (simp; done) | (simp_all; done)))

@[simp] theorem State.renderStart_outer (s : State) : (State.renderStart s).outer = s.outer := State.still_outer (State.renderStart_still s)

@[simp] theorem State.renderStart_kept (s : State) : (State.renderStart s).kept = s.kept := State.still_kept (State.renderStart_still s)

@[simp] theorem State.renderStart_ram (s : State) : (State.renderStart s).ram = s.ram := State.still_ram (State.renderStart_still s)

@[simp] theorem State.holdEnd_still (s : State) : (State.holdEnd s).still = s.still := by
  unfold State.holdEnd; (try simp); all_goals ((repeat' split) <;> (first | with_reducible rfl | (simp; done) | (simp_all; done)))

@[simp] theorem State.holdEnd_outer (s : State) : (State.holdEnd s).outer = s.outer := State.still_outer (State.holdEnd_still s)

@[simp] theorem State.holdEnd_kept (s : State) : (State.holdEnd s).kept = s.kept := State.still_kept (State.holdEnd_still s)

@[simp] theorem State.holdEnd_ram (s : State) : (State.holdEnd s).ram = s.ram := State.still_ram (State.holdEnd_still s)

@[simp] theorem State.walkLine_outer (s : State) (chart : Restored) : (State.walkLine s chart).outer = s.outer := by
  unfold State.walkLine; (try simp); all_goals ((repeat' split) <;> (first | with_reducible rfl | (simp; done) | (simp_all; done)))

@[simp] theorem State.walkLine_kept (s : State) (chart : Restored) : (State.walkLine s chart).kept = s.kept := by
  unfold State.walkLine; (try simp); all_goals ((repeat' split) <;> (first | with_reducible rfl | (simp; done) | (simp_all; done)))

@[simp] theorem State.writePortLine_outer (s : State) (p : Page) (g : Gen) (jb : Job) (n : Nat) (y : Nat) : (State.writePortLine s p g jb n y).outer = s.outer := by
  unfold State.writePortLine; (try simp); all_goals ((repeat' split) <;> (first | with_reducible rfl | (simp; done) | (simp_all; done)))

@[simp] theorem State.writePortLine_kept (s : State) (p : Page) (g : Gen) (jb : Job) (n : Nat) (y : Nat) : (State.writePortLine s p g jb n y).kept = s.kept := by
  unfold State.writePortLine; (try simp); all_goals ((repeat' split) <;> (first | with_reducible rfl | (simp; done) | (simp_all; done)))

@[simp] theorem State.writePortLines_outer (s : State) (g : Gen) (jb : Job) (y : Nat) (ns : List Nat) : (State.writePortLines s g jb y ns).outer = s.outer := by
  unfold State.writePortLines; apply foldl_outer; intro s n; (repeat' split) <;> simp

@[simp] theorem State.writePortLines_kept (s : State) (g : Gen) (jb : Job) (y : Nat) (ns : List Nat) : (State.writePortLines s g jb y ns).kept = s.kept := by
  unfold State.writePortLines; apply foldl_kept; intro s n; (repeat' split) <;> simp

@[simp] theorem State.cacheFault_outer (s : State) (jb : Job) (need : List TileRef) (cache : Restored) : (State.cacheFault s jb need cache).outer = s.outer := by
  unfold State.cacheFault; (try simp); all_goals ((repeat' split) <;> (first | with_reducible rfl | (simp; done) | (simp_all; done)))

@[simp] theorem State.cacheFault_kept (s : State) (jb : Job) (need : List TileRef) (cache : Restored) : (State.cacheFault s jb need cache).kept = s.kept := by
  unfold State.cacheFault; (try simp); all_goals ((repeat' split) <;> (first | with_reducible rfl | (simp; done) | (simp_all; done)))

@[simp] theorem State.pipeLine_outer (s : State) (k : Nat) (waited : Nat) (cache : Restored) : (State.pipeLine s k waited cache).outer = s.outer := by
  unfold State.pipeLine; (try simp); all_goals ((repeat' split) <;> (first | with_reducible rfl | (simp; done) | (simp_all; done)))

@[simp] theorem State.pipeLine_kept (s : State) (k : Nat) (waited : Nat) (cache : Restored) : (State.pipeLine s k waited cache).kept = s.kept := by
  unfold State.pipeLine; (try simp); all_goals ((repeat' split) <;> (first | with_reducible rfl | (simp; done) | (simp_all; done)))

@[simp] theorem State.lastStrip_still (s : State) : (State.lastStrip s).still = s.still := by
  unfold State.lastStrip; (try simp); all_goals ((repeat' split) <;> (first | with_reducible rfl | (simp; done) | (simp_all; done)))

@[simp] theorem State.lastStrip_outer (s : State) : (State.lastStrip s).outer = s.outer := State.still_outer (State.lastStrip_still s)

@[simp] theorem State.lastStrip_kept (s : State) : (State.lastStrip s).kept = s.kept := State.still_kept (State.lastStrip_still s)

@[simp] theorem State.lastStrip_ram (s : State) : (State.lastStrip s).ram = s.ram := State.still_ram (State.lastStrip_still s)

@[simp] theorem State.lineParity_still (s : State) (p : Page) (y : Nat) (bad : Bool) (outcome : Nat) : (State.lineParity s p y bad outcome).still = s.still := by
  unfold State.lineParity; (try simp); all_goals ((repeat' split) <;> (first | with_reducible rfl | (simp; done) | (simp_all; done)))

@[simp] theorem State.lineParity_outer (s : State) (p : Page) (y : Nat) (bad : Bool) (outcome : Nat) : (State.lineParity s p y bad outcome).outer = s.outer := State.still_outer (State.lineParity_still s p y bad outcome)

@[simp] theorem State.lineParity_kept (s : State) (p : Page) (y : Nat) (bad : Bool) (outcome : Nat) : (State.lineParity s p y bad outcome).kept = s.kept := State.still_kept (State.lineParity_still s p y bad outcome)

@[simp] theorem State.lineParity_ram (s : State) (p : Page) (y : Nat) (bad : Bool) (outcome : Nat) : (State.lineParity s p y bad outcome).ram = s.ram := State.still_ram (State.lineParity_still s p y bad outcome)

@[simp] theorem State.verifyEnd_still (s : State) (bad : List Nat) : (State.verifyEnd s bad).still = s.still := by
  unfold State.verifyEnd; (try simp); all_goals ((repeat' split) <;> (first | with_reducible rfl | (simp; done) | (simp_all; done)))

@[simp] theorem State.verifyEnd_outer (s : State) (bad : List Nat) : (State.verifyEnd s bad).outer = s.outer := State.still_outer (State.verifyEnd_still s bad)

@[simp] theorem State.verifyEnd_kept (s : State) (bad : List Nat) : (State.verifyEnd s bad).kept = s.kept := State.still_kept (State.verifyEnd_still s bad)

@[simp] theorem State.verifyEnd_ram (s : State) (bad : List Nat) : (State.verifyEnd s bad).ram = s.ram := State.still_ram (State.verifyEnd_still s bad)

@[simp] theorem State.releasePage_still (s : State) (num : Nat) (start : Nat) : (State.releasePage s num start).still = s.still := by
  unfold State.releasePage; (try simp); all_goals ((repeat' split) <;> (first | with_reducible rfl | (simp; done) | (simp_all; done)))

@[simp] theorem State.releasePage_outer (s : State) (num : Nat) (start : Nat) : (State.releasePage s num start).outer = s.outer := State.still_outer (State.releasePage_still s num start)

@[simp] theorem State.releasePage_kept (s : State) (num : Nat) (start : Nat) : (State.releasePage s num start).kept = s.kept := State.still_kept (State.releasePage_still s num start)

@[simp] theorem State.releasePage_ram (s : State) (num : Nat) (start : Nat) : (State.releasePage s num start).ram = s.ram := State.still_ram (State.releasePage_still s num start)

@[simp] theorem State.pageRelease_still (s : State) : (State.pageRelease s).still = s.still := by
  unfold State.pageRelease; (try simp); all_goals ((repeat' split) <;> (first | with_reducible rfl | (simp; done) | (simp_all; done)))

@[simp] theorem State.pageRelease_outer (s : State) : (State.pageRelease s).outer = s.outer := State.still_outer (State.pageRelease_still s)

@[simp] theorem State.pageRelease_kept (s : State) : (State.pageRelease s).kept = s.kept := State.still_kept (State.pageRelease_still s)

@[simp] theorem State.pageRelease_ram (s : State) : (State.pageRelease s).ram = s.ram := State.still_ram (State.pageRelease_still s)

@[simp] theorem State.pendJet_still (s : State) (j : Nat) : (State.pendJet s j).still = s.still := by
  unfold State.pendJet; (try simp); all_goals ((repeat' split) <;> (first | with_reducible rfl | (simp; done) | (simp_all; done)))

@[simp] theorem State.pendJet_outer (s : State) (j : Nat) : (State.pendJet s j).outer = s.outer := State.still_outer (State.pendJet_still s j)

@[simp] theorem State.pendJet_kept (s : State) (j : Nat) : (State.pendJet s j).kept = s.kept := State.still_kept (State.pendJet_still s j)

@[simp] theorem State.pendJet_ram (s : State) (j : Nat) : (State.pendJet s j).ram = s.ram := State.still_ram (State.pendJet_still s j)

@[simp] theorem State.clearPending_still (s : State) : (State.clearPending s).still = s.still := by
  unfold State.clearPending; (try simp); all_goals ((repeat' split) <;> (first | with_reducible rfl | (simp; done) | (simp_all; done)))

@[simp] theorem State.clearPending_outer (s : State) : (State.clearPending s).outer = s.outer := State.still_outer (State.clearPending_still s)

@[simp] theorem State.clearPending_kept (s : State) : (State.clearPending s).kept = s.kept := State.still_kept (State.clearPending_still s)

@[simp] theorem State.clearPending_ram (s : State) : (State.clearPending s).ram = s.ram := State.still_ram (State.clearPending_still s)

end Sys2Proof.Machine
end

