-- ==== Sys2Proof/Laws/OuterTables.lean ====
section
/-! SUPPORT. What the operations of Machine/Tables.lean leave alone: the queue, the idle time, the clock and the boot record (`outer`); flash, settings copies, update service and recovery (`kept`); the bytes of DRAM and staging (`ram`). -/

namespace Sys2Proof.Machine

@[simp] theorem State.buildResult_still (s : State) (r : Nat) (ok : Bool) : (State.buildResult s r ok).1.still = s.still := by
  unfold State.buildResult; (try simp); all_goals ((repeat' split) <;> (first | with_reducible rfl | (simp; done) | (simp_all; done)))

@[simp] theorem State.buildResult_outer (s : State) (r : Nat) (ok : Bool) : (State.buildResult s r ok).1.outer = s.outer := State.still_outer (State.buildResult_still s r ok)

@[simp] theorem State.buildResult_kept (s : State) (r : Nat) (ok : Bool) : (State.buildResult s r ok).1.kept = s.kept := State.still_kept (State.buildResult_still s r ok)

@[simp] theorem State.buildResult_ram (s : State) (r : Nat) (ok : Bool) : (State.buildResult s r ok).1.ram = s.ram := State.still_ram (State.buildResult_still s r ok)

@[simp] theorem State.dropUnbound_outer (s : State) : (State.dropUnbound s).outer = s.outer := by
  unfold State.dropUnbound; dsimp only
  rw [foldl_outer, foldl_outer]
  · intro s a; (repeat' split) <;> simp
  · intro s a; (repeat' split) <;> simp

@[simp] theorem State.dropUnbound_kept (s : State) : (State.dropUnbound s).kept = s.kept := by
  unfold State.dropUnbound; dsimp only
  rw [foldl_kept, foldl_kept]
  · intro s a; (repeat' split) <;> simp
  · intro s a; (repeat' split) <;> simp

@[simp] theorem State.cloneStart_outer (s : State) (why : Option BuildWhy) : (State.cloneStart s why).outer = s.outer := by
  unfold State.cloneStart; (try simp); all_goals ((repeat' split) <;> (first | with_reducible rfl | (simp; done) | (simp_all; done)))

@[simp] theorem State.cloneStart_kept (s : State) (why : Option BuildWhy) : (State.cloneStart s why).kept = s.kept := by
  unfold State.cloneStart; (try simp); all_goals ((repeat' split) <;> (first | with_reducible rfl | (simp; done) | (simp_all; done)))

@[simp] theorem State.buildClone_outer (s : State) : (State.buildClone s).1.outer = s.outer := by
  unfold State.buildClone; (try simp); all_goals ((repeat' split) <;> (first | with_reducible rfl | (simp; done) | (simp_all; done)))

@[simp] theorem State.buildClone_kept (s : State) : (State.buildClone s).1.kept = s.kept := by
  unfold State.buildClone; (try simp); all_goals ((repeat' split) <;> (first | with_reducible rfl | (simp; done) | (simp_all; done)))

@[simp] theorem State.buildCommit_still (s : State) : (State.buildCommit s).1.still = s.still := by
  unfold State.buildCommit; (try simp); all_goals ((repeat' split) <;> (first | with_reducible rfl | (simp; done) | (simp_all; done)))

@[simp] theorem State.buildCommit_outer (s : State) : (State.buildCommit s).1.outer = s.outer := State.still_outer (State.buildCommit_still s)

@[simp] theorem State.buildCommit_kept (s : State) : (State.buildCommit s).1.kept = s.kept := State.still_kept (State.buildCommit_still s)

@[simp] theorem State.buildCommit_ram (s : State) : (State.buildCommit s).1.ram = s.ram := State.still_ram (State.buildCommit_still s)

@[simp] theorem State.buildDiscard_still (s : State) : (State.buildDiscard s).1.still = s.still := by
  unfold State.buildDiscard; (try simp); all_goals ((repeat' split) <;> (first | with_reducible rfl | (simp; done) | (simp_all; done)))

@[simp] theorem State.buildDiscard_outer (s : State) : (State.buildDiscard s).1.outer = s.outer := State.still_outer (State.buildDiscard_still s)

@[simp] theorem State.buildDiscard_kept (s : State) : (State.buildDiscard s).1.kept = s.kept := State.still_kept (State.buildDiscard_still s)

@[simp] theorem State.buildDiscard_ram (s : State) : (State.buildDiscard s).1.ram = s.ram := State.still_ram (State.buildDiscard_still s)

@[simp] theorem State.darnJets_still (s : State) (jets : List Nat) : (State.darnJets s jets).still = s.still := by
  unfold State.darnJets; (try simp); all_goals ((repeat' split) <;> (first | with_reducible rfl | (simp; done) | (simp_all; done)))

@[simp] theorem State.darnJets_outer (s : State) (jets : List Nat) : (State.darnJets s jets).outer = s.outer := State.still_outer (State.darnJets_still s jets)

@[simp] theorem State.darnJets_kept (s : State) (jets : List Nat) : (State.darnJets s jets).kept = s.kept := State.still_kept (State.darnJets_still s jets)

@[simp] theorem State.darnJets_ram (s : State) (jets : List Nat) : (State.darnJets s jets).ram = s.ram := State.still_ram (State.darnJets_still s jets)

@[simp] theorem State.setStates_still (s : State) (l : List (Nat × Nat)) : (State.setStates s l).still = s.still := by
  unfold State.setStates; (try simp); all_goals ((repeat' split) <;> (first | with_reducible rfl | (simp; done) | (simp_all; done)))

@[simp] theorem State.setStates_outer (s : State) (l : List (Nat × Nat)) : (State.setStates s l).outer = s.outer := State.still_outer (State.setStates_still s l)

@[simp] theorem State.setStates_kept (s : State) (l : List (Nat × Nat)) : (State.setStates s l).kept = s.kept := State.still_kept (State.setStates_still s l)

@[simp] theorem State.setStates_ram (s : State) (l : List (Nat × Nat)) : (State.setStates s l).ram = s.ram := State.still_ram (State.setStates_still s l)

@[simp] theorem State.keepStates_still (s : State) (had : List (Nat × Nat)) : (State.keepStates s had).still = s.still := by
  unfold State.keepStates; (try simp); all_goals ((repeat' split) <;> (first | with_reducible rfl | (simp; done) | (simp_all; done)))

@[simp] theorem State.keepStates_outer (s : State) (had : List (Nat × Nat)) : (State.keepStates s had).outer = s.outer := State.still_outer (State.keepStates_still s had)

@[simp] theorem State.keepStates_kept (s : State) (had : List (Nat × Nat)) : (State.keepStates s had).kept = s.kept := State.still_kept (State.keepStates_still s had)

@[simp] theorem State.keepStates_ram (s : State) (had : List (Nat × Nat)) : (State.keepStates s had).ram = s.ram := State.still_ram (State.keepStates_still s had)

@[simp] theorem State.keepDarned_still (s : State) (jets : List Nat) : (State.keepDarned s jets).still = s.still := by
  unfold State.keepDarned; (try simp); all_goals ((repeat' split) <;> (first | with_reducible rfl | (simp; done) | (simp_all; done)))

@[simp] theorem State.keepDarned_outer (s : State) (jets : List Nat) : (State.keepDarned s jets).outer = s.outer := State.still_outer (State.keepDarned_still s jets)

@[simp] theorem State.keepDarned_kept (s : State) (jets : List Nat) : (State.keepDarned s jets).kept = s.kept := State.still_kept (State.keepDarned_still s jets)

@[simp] theorem State.keepDarned_ram (s : State) (jets : List Nat) : (State.keepDarned s jets).ram = s.ram := State.still_ram (State.keepDarned_still s jets)

@[simp] theorem State.darnWith_still (s : State) (jets : List Nat) : (State.darnWith s jets).still = s.still := by
  unfold State.darnWith; (try simp); all_goals ((repeat' split) <;> (first | with_reducible rfl | (simp; done) | (simp_all; done)))

@[simp] theorem State.darnWith_outer (s : State) (jets : List Nat) : (State.darnWith s jets).outer = s.outer := State.still_outer (State.darnWith_still s jets)

@[simp] theorem State.darnWith_kept (s : State) (jets : List Nat) : (State.darnWith s jets).kept = s.kept := State.still_kept (State.darnWith_still s jets)

@[simp] theorem State.darnWith_ram (s : State) (jets : List Nat) : (State.darnWith s jets).ram = s.ram := State.still_ram (State.darnWith_still s jets)

@[simp] theorem State.drainEdit_still (s : State) (n : Nat) : (State.drainEdit s n).still = s.still := by
  unfold State.drainEdit; (try simp); all_goals ((repeat' split) <;> (first | with_reducible rfl | (simp; done) | (simp_all; done)))

@[simp] theorem State.drainEdit_outer (s : State) (n : Nat) : (State.drainEdit s n).outer = s.outer := State.still_outer (State.drainEdit_still s n)

@[simp] theorem State.drainEdit_kept (s : State) (n : Nat) : (State.drainEdit s n).kept = s.kept := State.still_kept (State.drainEdit_still s n)

@[simp] theorem State.drainEdit_ram (s : State) (n : Nat) : (State.drainEdit s n).ram = s.ram := State.still_ram (State.drainEdit_still s n)

@[simp] theorem State.undarnPort_still (s : State) (n : Nat) : (State.undarnPort s n).still = s.still := by
  unfold State.undarnPort; (try simp); all_goals ((repeat' split) <;> (first | with_reducible rfl | (simp; done) | (simp_all; done)))

@[simp] theorem State.undarnPort_outer (s : State) (n : Nat) : (State.undarnPort s n).outer = s.outer := State.still_outer (State.undarnPort_still s n)

@[simp] theorem State.undarnPort_kept (s : State) (n : Nat) : (State.undarnPort s n).kept = s.kept := State.still_kept (State.undarnPort_still s n)

@[simp] theorem State.undarnPort_ram (s : State) (n : Nat) : (State.undarnPort s n).ram = s.ram := State.still_ram (State.undarnPort_still s n)

@[simp] theorem State.backEdit_still (s : State) (n : Nat) : (State.backEdit s n).still = s.still := by
  unfold State.backEdit; (try simp); all_goals ((repeat' split) <;> (first | with_reducible rfl | (simp; done) | (simp_all; done)))

@[simp] theorem State.backEdit_outer (s : State) (n : Nat) : (State.backEdit s n).outer = s.outer := State.still_outer (State.backEdit_still s n)

@[simp] theorem State.backEdit_kept (s : State) (n : Nat) : (State.backEdit s n).kept = s.kept := State.still_kept (State.backEdit_still s n)

@[simp] theorem State.backEdit_ram (s : State) (n : Nat) : (State.backEdit s n).ram = s.ram := State.still_ram (State.backEdit_still s n)

@[simp] theorem State.stitchEdit_still (s : State) : (State.stitchEdit s).still = s.still := by
  unfold State.stitchEdit; (try simp); all_goals ((repeat' split) <;> (first | with_reducible rfl | (simp; done) | (simp_all; done)))

@[simp] theorem State.stitchEdit_outer (s : State) : (State.stitchEdit s).outer = s.outer := State.still_outer (State.stitchEdit_still s)

@[simp] theorem State.stitchEdit_kept (s : State) : (State.stitchEdit s).kept = s.kept := State.still_kept (State.stitchEdit_still s)

@[simp] theorem State.stitchEdit_ram (s : State) : (State.stitchEdit s).ram = s.ram := State.still_ram (State.stitchEdit_still s)

@[simp] theorem State.deviceEdit_still (s : State) (why : BuildWhy) : (State.deviceEdit s why).still = s.still := by
  unfold State.deviceEdit; (try simp); all_goals ((repeat' split) <;> (first | with_reducible rfl | (simp; done) | (simp_all; done)))

@[simp] theorem State.deviceEdit_outer (s : State) (why : BuildWhy) : (State.deviceEdit s why).outer = s.outer := State.still_outer (State.deviceEdit_still s why)

@[simp] theorem State.deviceEdit_kept (s : State) (why : BuildWhy) : (State.deviceEdit s why).kept = s.kept := State.still_kept (State.deviceEdit_still s why)

@[simp] theorem State.deviceEdit_ram (s : State) (why : BuildWhy) : (State.deviceEdit s why).ram = s.ram := State.still_ram (State.deviceEdit_still s why)

@[simp] theorem State.cloneDone_still (s : State) : (State.cloneDone s).still = s.still := by
  unfold State.cloneDone; (try simp); all_goals ((repeat' split) <;> (first | with_reducible rfl | (simp; done) | (simp_all; done)))

@[simp] theorem State.cloneDone_outer (s : State) : (State.cloneDone s).outer = s.outer := State.still_outer (State.cloneDone_still s)

@[simp] theorem State.cloneDone_kept (s : State) : (State.cloneDone s).kept = s.kept := State.still_kept (State.cloneDone_still s)

@[simp] theorem State.cloneDone_ram (s : State) : (State.cloneDone s).ram = s.ram := State.still_ram (State.cloneDone_still s)

@[simp] theorem State.checksDone_still (s : State) : (State.checksDone s).still = s.still := by
  unfold State.checksDone; (try simp); all_goals ((repeat' split) <;> (first | with_reducible rfl | (simp; done) | (simp_all; done)))

@[simp] theorem State.checksDone_outer (s : State) : (State.checksDone s).outer = s.outer := State.still_outer (State.checksDone_still s)

@[simp] theorem State.checksDone_kept (s : State) : (State.checksDone s).kept = s.kept := State.still_kept (State.checksDone_still s)

@[simp] theorem State.checksDone_ram (s : State) : (State.checksDone s).ram = s.ram := State.still_ram (State.checksDone_still s)

@[simp] theorem State.rerenderOlder_still (s : State) : (State.rerenderOlder s).still = s.still := by
  unfold State.rerenderOlder; (try simp); all_goals ((repeat' split) <;> (first | with_reducible rfl | (simp; done) | (simp_all; done)))

@[simp] theorem State.rerenderOlder_outer (s : State) : (State.rerenderOlder s).outer = s.outer := State.still_outer (State.rerenderOlder_still s)

@[simp] theorem State.rerenderOlder_kept (s : State) : (State.rerenderOlder s).kept = s.kept := State.still_kept (State.rerenderOlder_still s)

@[simp] theorem State.rerenderOlder_ram (s : State) : (State.rerenderOlder s).ram = s.ram := State.still_ram (State.rerenderOlder_still s)

@[simp] theorem State.swap_outer (s : State) : (State.swap s).outer = s.outer := by
  unfold State.swap; (try simp); all_goals ((repeat' split) <;> (first | with_reducible rfl | (simp; done) | (simp_all; done)))

@[simp] theorem State.swap_kept (s : State) : (State.swap s).kept = s.kept := by
  unfold State.swap; (try simp); all_goals ((repeat' split) <;> (first | with_reducible rfl | (simp; done) | (simp_all; done)))

@[simp] theorem State.deviceBuild_outer (s : State) : (State.deviceBuild s).outer = s.outer := by
  unfold State.deviceBuild; (try simp); all_goals ((repeat' split) <;> (first | with_reducible rfl | (simp; done) | (simp_all; done)))

@[simp] theorem State.deviceBuild_kept (s : State) : (State.deviceBuild s).kept = s.kept := by
  unfold State.deviceBuild; (try simp); all_goals ((repeat' split) <;> (first | with_reducible rfl | (simp; done) | (simp_all; done)))

@[simp] theorem State.scReload_still (s : State) (loc : Nat) (good : Bool) : (State.scReload s loc good).still = s.still := by
  unfold State.scReload; (try simp); all_goals ((repeat' split) <;> (first | with_reducible rfl | (simp; done) | (simp_all; done)))

@[simp] theorem State.scReload_outer (s : State) (loc : Nat) (good : Bool) : (State.scReload s loc good).outer = s.outer := State.still_outer (State.scReload_still s loc good)

@[simp] theorem State.scReload_kept (s : State) (loc : Nat) (good : Bool) : (State.scReload s loc good).kept = s.kept := State.still_kept (State.scReload_still s loc good)

@[simp] theorem State.scReload_ram (s : State) (loc : Nat) (good : Bool) : (State.scReload s loc good).ram = s.ram := State.still_ram (State.scReload_still s loc good)

@[simp] theorem State.tableReload_still (s : State) (w : TableWord) (good : Bool) : (State.tableReload s w good).still = s.still := by
  unfold State.tableReload; (try simp); all_goals ((repeat' split) <;> (first | with_reducible rfl | (simp; done) | (simp_all; done)))

@[simp] theorem State.tableReload_outer (s : State) (w : TableWord) (good : Bool) : (State.tableReload s w good).outer = s.outer := State.still_outer (State.tableReload_still s w good)

@[simp] theorem State.tableReload_kept (s : State) (w : TableWord) (good : Bool) : (State.tableReload s w good).kept = s.kept := State.still_kept (State.tableReload_still s w good)

@[simp] theorem State.tableReload_ram (s : State) (w : TableWord) (good : Bool) : (State.tableReload s w good).ram = s.ram := State.still_ram (State.tableReload_still s w good)

end Sys2Proof.Machine
end

