-- ==== Sys2Proof/Laws/OuterReadout.lean ====
section
/-! SUPPORT. What the operations of Machine/Readout.lean leave alone: the queue, the idle time, the clock and the boot record (`outer`); flash, settings copies, update service and recovery (`kept`); the bytes of DRAM and staging (`ram`). -/

namespace Sys2Proof.Machine

@[simp] theorem State.updSlice_still (s : State) (mk : Nat) (p : Page) (n : Nat) (f : Slice → Slice) : (State.updSlice s mk p n f).still = s.still := by
  unfold State.updSlice; (try simp); all_goals ((repeat' split) <;> (first | with_reducible rfl | (simp; done) | (simp_all; done)))

@[simp] theorem State.updSlice_outer (s : State) (mk : Nat) (p : Page) (n : Nat) (f : Slice → Slice) : (State.updSlice s mk p n f).outer = s.outer := State.still_outer (State.updSlice_still s mk p n f)

@[simp] theorem State.updSlice_kept (s : State) (mk : Nat) (p : Page) (n : Nat) (f : Slice → Slice) : (State.updSlice s mk p n f).kept = s.kept := State.still_kept (State.updSlice_still s mk p n f)

@[simp] theorem State.updSlice_ram (s : State) (mk : Nat) (p : Page) (n : Nat) (f : Slice → Slice) : (State.updSlice s mk p n f).ram = s.ram := State.still_ram (State.updSlice_still s mk p n f)

@[simp] theorem State.dropCmps_still (s : State) (num : Nat) (inst : Nat) (line : Nat) (ports : Nat) : (State.dropCmps s num inst line ports).still = s.still := by
  unfold State.dropCmps; (try simp); all_goals ((repeat' split) <;> (first | with_reducible rfl | (simp; done) | (simp_all; done)))

@[simp] theorem State.dropCmps_outer (s : State) (num : Nat) (inst : Nat) (line : Nat) (ports : Nat) : (State.dropCmps s num inst line ports).outer = s.outer := State.still_outer (State.dropCmps_still s num inst line ports)

@[simp] theorem State.dropCmps_kept (s : State) (num : Nat) (inst : Nat) (line : Nat) (ports : Nat) : (State.dropCmps s num inst line ports).kept = s.kept := State.still_kept (State.dropCmps_still s num inst line ports)

@[simp] theorem State.dropCmps_ram (s : State) (num : Nat) (inst : Nat) (line : Nat) (ports : Nat) : (State.dropCmps s num inst line ports).ram = s.ram := State.still_ram (State.dropCmps_still s num inst line ports)

@[simp] theorem State.judged_still (s : State) (p : Page) (inst : Nat) (line : Nat) (n : Nat) : (State.judged s p inst line n).still = s.still := by
  unfold State.judged; (try simp); all_goals ((repeat' split) <;> (first | with_reducible rfl | (simp; done) | (simp_all; done)))

@[simp] theorem State.judged_outer (s : State) (p : Page) (inst : Nat) (line : Nat) (n : Nat) : (State.judged s p inst line n).outer = s.outer := State.still_outer (State.judged_still s p inst line n)

@[simp] theorem State.judged_kept (s : State) (p : Page) (inst : Nat) (line : Nat) (n : Nat) : (State.judged s p inst line n).kept = s.kept := State.still_kept (State.judged_still s p inst line n)

@[simp] theorem State.judged_ram (s : State) (p : Page) (inst : Nat) (line : Nat) (n : Nat) : (State.judged s p inst line n).ram = s.ram := State.still_ram (State.judged_still s p inst line n)

@[simp] theorem State.queueRepair_still (s : State) (num : Nat) (line : Nat) (port : Nat) (ports : Nat) (left : Nat) (fetch : Option Nat) : (State.queueRepair s num line port ports left fetch).still = s.still := by
  unfold State.queueRepair; (try simp); all_goals ((repeat' split) <;> (first | with_reducible rfl | (simp; done) | (simp_all; done)))

@[simp] theorem State.queueRepair_outer (s : State) (num : Nat) (line : Nat) (port : Nat) (ports : Nat) (left : Nat) (fetch : Option Nat) : (State.queueRepair s num line port ports left fetch).outer = s.outer := State.still_outer (State.queueRepair_still s num line port ports left fetch)

@[simp] theorem State.queueRepair_kept (s : State) (num : Nat) (line : Nat) (port : Nat) (ports : Nat) (left : Nat) (fetch : Option Nat) : (State.queueRepair s num line port ports left fetch).kept = s.kept := State.still_kept (State.queueRepair_still s num line port ports left fetch)

@[simp] theorem State.queueRepair_ram (s : State) (num : Nat) (line : Nat) (port : Nat) (ports : Nat) (left : Nat) (fetch : Option Nat) : (State.queueRepair s num line port ports left fetch).ram = s.ram := State.still_ram (State.queueRepair_still s num line port ports left fetch)

@[simp] theorem State.storeError_outer (s : State) (p : Page) (inst : Nat) (line : Nat) (ports : Nat) : (State.storeError s p inst line ports).outer = s.outer := by
  unfold State.storeError; (try simp); all_goals ((repeat' split) <;> (first | with_reducible rfl | (simp; done) | (simp_all; done)))

@[simp] theorem State.storeError_kept (s : State) (p : Page) (inst : Nat) (line : Nat) (ports : Nat) : (State.storeError s p inst line ports).kept = s.kept := by
  unfold State.storeError; (try simp); all_goals ((repeat' split) <;> (first | with_reducible rfl | (simp; done) | (simp_all; done)))

@[simp] theorem State.markSlices_still (s : State) (p : Page) (inst : Nat) (line : Nat) (n : Nat) (reason : Nat) : (State.markSlices s p inst line n reason).still = s.still := by
  unfold State.markSlices; (try simp); all_goals ((repeat' split) <;> (first | with_reducible rfl | (simp; done) | (simp_all; done)))

@[simp] theorem State.markSlices_outer (s : State) (p : Page) (inst : Nat) (line : Nat) (n : Nat) (reason : Nat) : (State.markSlices s p inst line n reason).outer = s.outer := State.still_outer (State.markSlices_still s p inst line n reason)

@[simp] theorem State.markSlices_kept (s : State) (p : Page) (inst : Nat) (line : Nat) (n : Nat) (reason : Nat) : (State.markSlices s p inst line n reason).kept = s.kept := State.still_kept (State.markSlices_still s p inst line n reason)

@[simp] theorem State.markSlices_ram (s : State) (p : Page) (inst : Nat) (line : Nat) (n : Nat) (reason : Nat) : (State.markSlices s p inst line n reason).ram = s.ram := State.still_ram (State.markSlices_still s p inst line n reason)

@[simp] theorem State.markLines_still (s : State) (p : Page) (inst : Nat) (line : Nat) (ports : Nat) (reason : Nat) : (State.markLines s p inst line ports reason).still = s.still := by
  unfold State.markLines; (try simp); all_goals ((repeat' split) <;> (first | with_reducible rfl | (simp; done) | (simp_all; done)))

@[simp] theorem State.markLines_outer (s : State) (p : Page) (inst : Nat) (line : Nat) (ports : Nat) (reason : Nat) : (State.markLines s p inst line ports reason).outer = s.outer := State.still_outer (State.markLines_still s p inst line ports reason)

@[simp] theorem State.markLines_kept (s : State) (p : Page) (inst : Nat) (line : Nat) (ports : Nat) (reason : Nat) : (State.markLines s p inst line ports reason).kept = s.kept := State.still_kept (State.markLines_still s p inst line ports reason)

@[simp] theorem State.markLines_ram (s : State) (p : Page) (inst : Nat) (line : Nat) (ports : Nat) (reason : Nat) : (State.markLines s p inst line ports reason).ram = s.ram := State.still_ram (State.markLines_still s p inst line ports reason)

@[simp] theorem State.proveLines_still (s : State) (p : Page) (inst : Nat) (line : Nat) (ports : Nat) : (State.proveLines s p inst line ports).still = s.still := by
  unfold State.proveLines; (try simp); all_goals ((repeat' split) <;> (first | with_reducible rfl | (simp; done) | (simp_all; done)))

@[simp] theorem State.proveLines_outer (s : State) (p : Page) (inst : Nat) (line : Nat) (ports : Nat) : (State.proveLines s p inst line ports).outer = s.outer := State.still_outer (State.proveLines_still s p inst line ports)

@[simp] theorem State.proveLines_kept (s : State) (p : Page) (inst : Nat) (line : Nat) (ports : Nat) : (State.proveLines s p inst line ports).kept = s.kept := State.still_kept (State.proveLines_still s p inst line ports)

@[simp] theorem State.proveLines_ram (s : State) (p : Page) (inst : Nat) (line : Nat) (ports : Nat) : (State.proveLines s p inst line ports).ram = s.ram := State.still_ram (State.proveLines_still s p inst line ports)

@[simp] theorem State.readUncarried_still (s : State) (p : Page) (inst : Nat) (line : Nat) : (State.readUncarried s p inst line).still = s.still := by
  unfold State.readUncarried; (try simp); all_goals ((repeat' split) <;> (first | with_reducible rfl | (simp; done) | (simp_all; done)))

@[simp] theorem State.readUncarried_outer (s : State) (p : Page) (inst : Nat) (line : Nat) : (State.readUncarried s p inst line).outer = s.outer := State.still_outer (State.readUncarried_still s p inst line)

@[simp] theorem State.readUncarried_kept (s : State) (p : Page) (inst : Nat) (line : Nat) : (State.readUncarried s p inst line).kept = s.kept := State.still_kept (State.readUncarried_still s p inst line)

@[simp] theorem State.readUncarried_ram (s : State) (p : Page) (inst : Nat) (line : Nat) : (State.readUncarried s p inst line).ram = s.ram := State.still_ram (State.readUncarried_still s p inst line)

@[simp] theorem State.trailerFailed_outer (s0 : State) (p : Page) (inst : Nat) (line : Nat) (late : Bool) (parity : Bool) : (State.trailerFailed s0 p inst line late parity).outer = s0.outer := by
  unfold State.trailerFailed; (try simp); all_goals ((repeat' split) <;> (first | with_reducible rfl | (simp; done) | (simp_all; done)))

@[simp] theorem State.trailerFailed_kept (s0 : State) (p : Page) (inst : Nat) (line : Nat) (late : Bool) (parity : Bool) : (State.trailerFailed s0 p inst line late parity).kept = s0.kept := by
  unfold State.trailerFailed; (try simp); all_goals ((repeat' split) <;> (first | with_reducible rfl | (simp; done) | (simp_all; done)))

@[simp] theorem State.trailersDue_outer (s : State) (mk : Nat) (due : Nat → Nat → Nat → Bool) : (State.trailersDue s mk due).outer = s.outer := by
  unfold State.trailersDue; apply foldl_outer; intro s a; (repeat' split) <;> simp

@[simp] theorem State.trailersDue_kept (s : State) (mk : Nat) (due : Nat → Nat → Nat → Bool) : (State.trailersDue s mk due).kept = s.kept := by
  unfold State.trailersDue; apply foldl_kept; intro s a; (repeat' split) <;> simp

@[simp] theorem State.judge_outer (s : State) (p : Page) (inst : Nat) (line : Nat) (n : Nat) (parity : Bool) : (State.judge s p inst line n parity).outer = s.outer := by
  unfold State.judge; (try simp); all_goals ((repeat' split) <;> (first | with_reducible rfl | (simp; done) | (simp_all; done)))

@[simp] theorem State.judge_kept (s : State) (p : Page) (inst : Nat) (line : Nat) (n : Nat) (parity : Bool) : (State.judge s p inst line n parity).kept = s.kept := by
  unfold State.judge; (try simp); all_goals ((repeat' split) <;> (first | with_reducible rfl | (simp; done) | (simp_all; done)))

@[simp] theorem State.sliceFetch_outer (s : State) (mk : Nat) (f : ReadFault) : (State.sliceFetch s mk f).outer = s.outer := by
  unfold State.sliceFetch; (try simp); all_goals ((repeat' split) <;> (first | with_reducible rfl | (simp; done) | (simp_all; done)))

@[simp] theorem State.sliceFetch_kept (s : State) (mk : Nat) (f : ReadFault) : (State.sliceFetch s mk f).kept = s.kept := by
  unfold State.sliceFetch; (try simp); all_goals ((repeat' split) <;> (first | with_reducible rfl | (simp; done) | (simp_all; done)))

@[simp] theorem State.repairStart_outer (s : State) : (State.repairStart s).outer = s.outer := by
  unfold State.repairStart; (try simp); all_goals ((repeat' split) <;> (first | with_reducible rfl | (simp; done) | (simp_all; done)))

@[simp] theorem State.repairStart_kept (s : State) : (State.repairStart s).kept = s.kept := by
  unfold State.repairStart; (try simp); all_goals ((repeat' split) <;> (first | with_reducible rfl | (simp; done) | (simp_all; done)))

@[simp] theorem State.refetchLine_still (s : State) (p : Page) (line : Nat) : (State.refetchLine s p line).still = s.still := by
  unfold State.refetchLine; (try simp); all_goals ((repeat' split) <;> (first | with_reducible rfl | (simp; done) | (simp_all; done)))

@[simp] theorem State.refetchLine_outer (s : State) (p : Page) (line : Nat) : (State.refetchLine s p line).outer = s.outer := State.still_outer (State.refetchLine_still s p line)

@[simp] theorem State.refetchLine_kept (s : State) (p : Page) (line : Nat) : (State.refetchLine s p line).kept = s.kept := State.still_kept (State.refetchLine_still s p line)

@[simp] theorem State.refetchLine_ram (s : State) (p : Page) (line : Nat) : (State.refetchLine s p line).ram = s.ram := State.still_ram (State.refetchLine_still s p line)

@[simp] theorem State.repairDone_outer (s : State) : (State.repairDone s).outer = s.outer := by
  unfold State.repairDone; (try simp); all_goals ((repeat' split) <;> (first | with_reducible rfl | (simp; done) | (simp_all; done)))

@[simp] theorem State.repairDone_kept (s : State) : (State.repairDone s).kept = s.kept := by
  unfold State.repairDone; (try simp); all_goals ((repeat' split) <;> (first | with_reducible rfl | (simp; done) | (simp_all; done)))

@[simp] theorem State.sendSlice_still (s : State) (mk : Nat) (p : Page) (n : Nat) (x : Slice) : (State.sendSlice s mk p n x).still = s.still := by
  unfold State.sendSlice; (try simp); all_goals ((repeat' split) <;> (first | with_reducible rfl | (simp; done) | (simp_all; done)))

@[simp] theorem State.sendSlice_outer (s : State) (mk : Nat) (p : Page) (n : Nat) (x : Slice) : (State.sendSlice s mk p n x).outer = s.outer := State.still_outer (State.sendSlice_still s mk p n x)

@[simp] theorem State.sendSlice_kept (s : State) (mk : Nat) (p : Page) (n : Nat) (x : Slice) : (State.sendSlice s mk p n x).kept = s.kept := State.still_kept (State.sendSlice_still s mk p n x)

@[simp] theorem State.sendSlice_ram (s : State) (mk : Nat) (p : Page) (n : Nat) (x : Slice) : (State.sendSlice s mk p n x).ram = s.ram := State.still_ram (State.sendSlice_still s mk p n x)

@[simp] theorem State.sliceSend_outer (s : State) (mk : Nat) (bad : Bool) : (State.sliceSend s mk bad).outer = s.outer := by
  unfold State.sliceSend; (try simp); all_goals ((repeat' split) <;> (first | with_reducible rfl | (simp; done) | (simp_all; done)))

@[simp] theorem State.sliceSend_kept (s : State) (mk : Nat) (bad : Bool) : (State.sliceSend s mk bad).kept = s.kept := by
  unfold State.sliceSend; (try simp); all_goals ((repeat' split) <;> (first | with_reducible rfl | (simp; done) | (simp_all; done)))

@[simp] theorem State.sendDeadline_outer (s : State) (mk : Nat) : (State.sendDeadline s mk).outer = s.outer := by
  unfold State.sendDeadline
  extract_lets s1
  have h1 : s1.outer = s.outer := by simp [s1]
  clear_value s1
  (repeat' split) <;> simp_all

@[simp] theorem State.sendDeadline_kept (s : State) (mk : Nat) : (State.sendDeadline s mk).kept = s.kept := by
  unfold State.sendDeadline
  extract_lets s1
  have h1 : s1.kept = s.kept := by simp [s1]
  clear_value s1
  (repeat' split) <;> simp_all

@[simp] theorem State.echo_still (s : State) (mk : Nat) (tag : Nat) (crc : Nat) : (State.echo s mk tag crc).still = s.still := by
  unfold State.echo; (try simp); all_goals ((repeat' split) <;> (first | with_reducible rfl | (simp; done) | (simp_all; done)))

@[simp] theorem State.echo_outer (s : State) (mk : Nat) (tag : Nat) (crc : Nat) : (State.echo s mk tag crc).outer = s.outer := State.still_outer (State.echo_still s mk tag crc)

@[simp] theorem State.echo_kept (s : State) (mk : Nat) (tag : Nat) (crc : Nat) : (State.echo s mk tag crc).kept = s.kept := State.still_kept (State.echo_still s mk tag crc)

@[simp] theorem State.echo_ram (s : State) (mk : Nat) (tag : Nat) (crc : Nat) : (State.echo s mk tag crc).ram = s.ram := State.still_ram (State.echo_still s mk tag crc)

@[simp] theorem State.reverify_outer (s : State) (num : Nat) (line : Nat) (bad : Bool) : (State.reverify s num line bad).outer = s.outer := by
  unfold State.reverify; (try simp); all_goals ((repeat' split) <;> (first | with_reducible rfl | (simp; done) | (simp_all; done)))

@[simp] theorem State.reverify_kept (s : State) (num : Nat) (line : Nat) (bad : Bool) : (State.reverify s num line bad).kept = s.kept := by
  unfold State.reverify; (try simp); all_goals ((repeat' split) <;> (first | with_reducible rfl | (simp; done) | (simp_all; done)))

end Sys2Proof.Machine
end

