-- ==== Sys2Proof/Laws/OuterFire.lean ====
section
/-! SUPPORT. What the operations of Machine/Fire.lean leave alone: the queue, the idle time, the clock and the boot record (`outer`); flash, settings copies, update service and recovery (`kept`); the bytes of DRAM and staging (`ram`). -/

namespace Sys2Proof.Machine

@[simp] theorem State.preheat_still (s : State) (seg : Nat) : (State.preheat s seg).1.still = s.still := by
  unfold State.preheat; (try simp); all_goals ((repeat' split) <;> (first | with_reducible rfl | (simp; done) | (simp_all; done)))

@[simp] theorem State.preheat_outer (s : State) (seg : Nat) : (State.preheat s seg).1.outer = s.outer := State.still_outer (State.preheat_still s seg)

@[simp] theorem State.preheat_kept (s : State) (seg : Nat) : (State.preheat s seg).1.kept = s.kept := State.still_kept (State.preheat_still s seg)

@[simp] theorem State.preheat_ram (s : State) (seg : Nat) : (State.preheat s seg).1.ram = s.ram := State.still_ram (State.preheat_still s seg)

@[simp] theorem State.commitTables_still (s : State) (b : Bytes) : (State.commitTables s b).1.still = s.still := by
  unfold State.commitTables; (try simp); all_goals ((repeat' split) <;> (first | with_reducible rfl | (simp; done) | (simp_all; done)))

@[simp] theorem State.commitTables_outer (s : State) (b : Bytes) : (State.commitTables s b).1.outer = s.outer := State.still_outer (State.commitTables_still s b)

@[simp] theorem State.commitTables_kept (s : State) (b : Bytes) : (State.commitTables s b).1.kept = s.kept := State.still_kept (State.commitTables_still s b)

@[simp] theorem State.commitTables_ram (s : State) (b : Bytes) : (State.commitTables s b).1.ram = s.ram := State.still_ram (State.commitTables_still s b)

@[simp] theorem State.tensionCommit_still (s : State) : (State.tensionCommit s).1.still = s.still := by
  unfold State.tensionCommit; (try simp); all_goals ((repeat' split) <;> (first | with_reducible rfl | (simp; done) | (simp_all; done)))

@[simp] theorem State.tensionCommit_outer (s : State) : (State.tensionCommit s).1.outer = s.outer := State.still_outer (State.tensionCommit_still s)

@[simp] theorem State.tensionCommit_kept (s : State) : (State.tensionCommit s).1.kept = s.kept := State.still_kept (State.tensionCommit_still s)

@[simp] theorem State.tensionCommit_ram (s : State) : (State.tensionCommit s).1.ram = s.ram := State.still_ram (State.tensionCommit_still s)

@[simp] theorem State.segReport_still (s : State) (seg : Nat) (v : Nat) : (State.segReport s seg v).still = s.still := by
  unfold State.segReport; (try simp); all_goals ((repeat' split) <;> (first | with_reducible rfl | (simp; done) | (simp_all; done)))

@[simp] theorem State.segReport_outer (s : State) (seg : Nat) (v : Nat) : (State.segReport s seg v).outer = s.outer := State.still_outer (State.segReport_still s seg v)

@[simp] theorem State.segReport_kept (s : State) (seg : Nat) (v : Nat) : (State.segReport s seg v).kept = s.kept := State.still_kept (State.segReport_still s seg v)

@[simp] theorem State.segReport_ram (s : State) (seg : Nat) (v : Nat) : (State.segReport s seg v).ram = s.ram := State.still_ram (State.segReport_still s seg v)

@[simp] theorem State.temp_still (s : State) (mk : Nat) (t : Nat) : (State.temp s mk t).still = s.still := by
  unfold State.temp; (try simp); all_goals ((repeat' split) <;> (first | with_reducible rfl | (simp; done) | (simp_all; done)))

@[simp] theorem State.temp_outer (s : State) (mk : Nat) (t : Nat) : (State.temp s mk t).outer = s.outer := State.still_outer (State.temp_still s mk t)

@[simp] theorem State.temp_kept (s : State) (mk : Nat) (t : Nat) : (State.temp s mk t).kept = s.kept := State.still_kept (State.temp_still s mk t)

@[simp] theorem State.temp_ram (s : State) (mk : Nat) (t : Nat) : (State.temp s mk t).ram = s.ram := State.still_ram (State.temp_still s mk t)

@[simp] theorem State.tempStale_still (s : State) (seg : Nat) : (State.tempStale s seg).still = s.still := by
  unfold State.tempStale; (try simp); all_goals ((repeat' split) <;> (first | with_reducible rfl | (simp; done) | (simp_all; done)))

@[simp] theorem State.tempStale_outer (s : State) (seg : Nat) : (State.tempStale s seg).outer = s.outer := State.still_outer (State.tempStale_still s seg)

@[simp] theorem State.tempStale_kept (s : State) (seg : Nat) : (State.tempStale s seg).kept = s.kept := State.still_kept (State.tempStale_still s seg)

@[simp] theorem State.tempStale_ram (s : State) (seg : Nat) : (State.tempStale s seg).ram = s.ram := State.still_ram (State.tempStale_still s seg)

@[simp] theorem State.fireBlock_still (s : State) (mk : Nat) (tag : Nat) (enables : Nat) (heat : List Nat) : (State.fireBlock s mk tag enables heat).still = s.still := by
  unfold State.fireBlock; (try simp); all_goals ((repeat' split) <;> (first | with_reducible rfl | (simp; done) | (simp_all; done)))

@[simp] theorem State.fireBlock_outer (s : State) (mk : Nat) (tag : Nat) (enables : Nat) (heat : List Nat) : (State.fireBlock s mk tag enables heat).outer = s.outer := State.still_outer (State.fireBlock_still s mk tag enables heat)

@[simp] theorem State.fireBlock_kept (s : State) (mk : Nat) (tag : Nat) (enables : Nat) (heat : List Nat) : (State.fireBlock s mk tag enables heat).kept = s.kept := State.still_kept (State.fireBlock_still s mk tag enables heat)

@[simp] theorem State.fireBlock_ram (s : State) (mk : Nat) (tag : Nat) (enables : Nat) (heat : List Nat) : (State.fireBlock s mk tag enables heat).ram = s.ram := State.still_ram (State.fireBlock_still s mk tag enables heat)

@[simp] theorem State.withdrawnFree_still (s : State) (mk : Nat) : (State.withdrawnFree s mk).still = s.still := by
  unfold State.withdrawnFree; (try simp); all_goals ((repeat' split) <;> (first | with_reducible rfl | (simp; done) | (simp_all; done)))

@[simp] theorem State.withdrawnFree_outer (s : State) (mk : Nat) : (State.withdrawnFree s mk).outer = s.outer := State.still_outer (State.withdrawnFree_still s mk)

@[simp] theorem State.withdrawnFree_kept (s : State) (mk : Nat) : (State.withdrawnFree s mk).kept = s.kept := State.still_kept (State.withdrawnFree_still s mk)

@[simp] theorem State.withdrawnFree_ram (s : State) (mk : Nat) : (State.withdrawnFree s mk).ram = s.ram := State.still_ram (State.withdrawnFree_still s mk)

@[simp] theorem State.preheats_still (s : State) (mk : Nat) : (State.preheats s mk).1.still = s.still := by
  unfold State.preheats
  suffices h : ∀ (l : List Nat) (a : State × List Nat), (l.foldl (fun a k =>
      ((a.1.preheat (4 * mk + k)).1, a.2 ++ [(a.1.preheat (4 * mk + k)).2])) a).1.still = a.1.still from h _ (s, [])
  intro l
  induction l with
  | nil => intro a; rfl
  | cons i l ih => intro a; rw [List.foldl_cons, ih]; simp

@[simp] theorem State.preheats_outer (s : State) (mk : Nat) : (State.preheats s mk).1.outer = s.outer := State.still_outer (State.preheats_still s mk)

@[simp] theorem State.preheats_kept (s : State) (mk : Nat) : (State.preheats s mk).1.kept = s.kept := State.still_kept (State.preheats_still s mk)

@[simp] theorem State.preheats_ram (s : State) (mk : Nat) : (State.preheats s mk).1.ram = s.ram := State.still_ram (State.preheats_still s mk)

@[simp] theorem State.consume_still (s : State) (x : Slice) : (State.consume s x).still = s.still := by
  unfold State.consume; (try simp); all_goals ((repeat' split) <;> (first | with_reducible rfl | (simp; done) | (simp_all; done)))

@[simp] theorem State.consume_outer (s : State) (x : Slice) : (State.consume s x).outer = s.outer := State.still_outer (State.consume_still s x)

@[simp] theorem State.consume_kept (s : State) (x : Slice) : (State.consume s x).kept = s.kept := State.still_kept (State.consume_still s x)

@[simp] theorem State.consume_ram (s : State) (x : Slice) : (State.consume s x).ram = s.ram := State.still_ram (State.consume_still s x)

@[simp] theorem State.slowCheck_still (s : State) (p : Page) (n : Nat) (mk : Nat) (lam : Nat) : (State.slowCheck s p n mk lam).still = s.still := by
  unfold State.slowCheck; (try simp); all_goals ((repeat' split) <;> (first | with_reducible rfl | (simp; done) | (simp_all; done)))

@[simp] theorem State.slowCheck_outer (s : State) (p : Page) (n : Nat) (mk : Nat) (lam : Nat) : (State.slowCheck s p n mk lam).outer = s.outer := State.still_outer (State.slowCheck_still s p n mk lam)

@[simp] theorem State.slowCheck_kept (s : State) (p : Page) (n : Nat) (mk : Nat) (lam : Nat) : (State.slowCheck s p n mk lam).kept = s.kept := State.still_kept (State.slowCheck_still s p n mk lam)

@[simp] theorem State.slowCheck_ram (s : State) (p : Page) (n : Nat) (mk : Nat) (lam : Nat) : (State.slowCheck s p n mk lam).ram = s.ram := State.still_ram (State.slowCheck_still s p n mk lam)

@[simp] theorem State.fireSpoils_still (s : State) (p : Page) (inst : Nat) (y : Nat) (mk : Nat) (x : Option Slice) (why : List Nat) : (State.fireSpoils s p inst y mk x why).still = s.still := by
  unfold State.fireSpoils; (try simp); all_goals ((repeat' split) <;> (first | with_reducible rfl | (simp; done) | (simp_all; done)))

@[simp] theorem State.fireSpoils_outer (s : State) (p : Page) (inst : Nat) (y : Nat) (mk : Nat) (x : Option Slice) (why : List Nat) : (State.fireSpoils s p inst y mk x why).outer = s.outer := State.still_outer (State.fireSpoils_still s p inst y mk x why)

@[simp] theorem State.fireSpoils_kept (s : State) (p : Page) (inst : Nat) (y : Nat) (mk : Nat) (x : Option Slice) (why : List Nat) : (State.fireSpoils s p inst y mk x why).kept = s.kept := State.still_kept (State.fireSpoils_still s p inst y mk x why)

@[simp] theorem State.fireSpoils_ram (s : State) (p : Page) (inst : Nat) (y : Nat) (mk : Nat) (x : Option Slice) (why : List Nat) : (State.fireSpoils s p inst y mk x why).ram = s.ram := State.still_ram (State.fireSpoils_still s p inst y mk x why)

@[simp] theorem State.fireSend_still (s : State) (p : Page) (row : Nat) (mk : Nat) (x : Option Slice) : (State.fireSend s p row mk x).still = s.still := by
  unfold State.fireSend; (try simp); all_goals ((repeat' split) <;> (first | with_reducible rfl | (simp; done) | (simp_all; done)))

@[simp] theorem State.fireSend_outer (s : State) (p : Page) (row : Nat) (mk : Nat) (x : Option Slice) : (State.fireSend s p row mk x).outer = s.outer := State.still_outer (State.fireSend_still s p row mk x)

@[simp] theorem State.fireSend_kept (s : State) (p : Page) (row : Nat) (mk : Nat) (x : Option Slice) : (State.fireSend s p row mk x).kept = s.kept := State.still_kept (State.fireSend_still s p row mk x)

@[simp] theorem State.fireSend_ram (s : State) (p : Page) (row : Nat) (mk : Nat) (x : Option Slice) : (State.fireSend s p row mk x).ram = s.ram := State.still_ram (State.fireSend_still s p row mk x)

@[simp] theorem State.fireTaken_still (s : State) (p : Page) (inst : Nat) (y : Nat) (mk : Nat) (out : Nat) (x : Option Slice) : (State.fireTaken s p inst y mk out x).still = s.still := by
  unfold State.fireTaken; (try simp); all_goals ((repeat' split) <;> (first | with_reducible rfl | (simp; done) | (simp_all; done)))

@[simp] theorem State.fireTaken_outer (s : State) (p : Page) (inst : Nat) (y : Nat) (mk : Nat) (out : Nat) (x : Option Slice) : (State.fireTaken s p inst y mk out x).outer = s.outer := State.still_outer (State.fireTaken_still s p inst y mk out x)

@[simp] theorem State.fireTaken_kept (s : State) (p : Page) (inst : Nat) (y : Nat) (mk : Nat) (out : Nat) (x : Option Slice) : (State.fireTaken s p inst y mk out x).kept = s.kept := State.still_kept (State.fireTaken_still s p inst y mk out x)

@[simp] theorem State.fireTaken_ram (s : State) (p : Page) (inst : Nat) (y : Nat) (mk : Nat) (out : Nat) (x : Option Slice) : (State.fireTaken s p inst y mk out x).ram = s.ram := State.still_ram (State.fireTaken_still s p inst y mk out x)

@[simp] theorem State.firePassed_still (s : State) (p : Page) (n : Nat) (mk : Nat) : (State.firePassed s p n mk).still = s.still := by
  unfold State.firePassed; (try simp); all_goals ((repeat' split) <;> (first | with_reducible rfl | (simp; done) | (simp_all; done)))

@[simp] theorem State.firePassed_outer (s : State) (p : Page) (n : Nat) (mk : Nat) : (State.firePassed s p n mk).outer = s.outer := State.still_outer (State.firePassed_still s p n mk)

@[simp] theorem State.firePassed_kept (s : State) (p : Page) (n : Nat) (mk : Nat) : (State.firePassed s p n mk).kept = s.kept := State.still_kept (State.firePassed_still s p n mk)

@[simp] theorem State.firePassed_ram (s : State) (p : Page) (n : Nat) (mk : Nat) : (State.firePassed s p n mk).ram = s.ram := State.still_ram (State.firePassed_still s p n mk)

@[simp] theorem State.fireInstant_outer (s : State) (mk : Nat) : (State.fireInstant s mk).outer = s.outer := by
  unfold State.fireInstant; (try simp); all_goals ((repeat' split) <;> (first | with_reducible rfl | (simp; done) | (simp_all; done)))

@[simp] theorem State.fireInstant_kept (s : State) (mk : Nat) : (State.fireInstant s mk).kept = s.kept := by
  unfold State.fireInstant; (try simp); all_goals ((repeat' split) <;> (first | with_reducible rfl | (simp; done) | (simp_all; done)))

@[simp] theorem State.spoilLow_still (s : State) : (State.spoilLow s).still = s.still := by
  unfold State.spoilLow; (try simp); all_goals ((repeat' split) <;> (first | with_reducible rfl | (simp; done) | (simp_all; done)))

@[simp] theorem State.spoilLow_outer (s : State) : (State.spoilLow s).outer = s.outer := State.still_outer (State.spoilLow_still s)

@[simp] theorem State.spoilLow_kept (s : State) : (State.spoilLow s).kept = s.kept := State.still_kept (State.spoilLow_still s)

@[simp] theorem State.spoilLow_ram (s : State) : (State.spoilLow s).ram = s.ram := State.still_ram (State.spoilLow_still s)

@[simp] theorem State.spoilHigh_still (s : State) : (State.spoilHigh s).still = s.still := by
  unfold State.spoilHigh; (try simp); all_goals ((repeat' split) <;> (first | with_reducible rfl | (simp; done) | (simp_all; done)))

@[simp] theorem State.spoilHigh_outer (s : State) : (State.spoilHigh s).outer = s.outer := State.still_outer (State.spoilHigh_still s)

@[simp] theorem State.spoilHigh_kept (s : State) : (State.spoilHigh s).kept = s.kept := State.still_kept (State.spoilHigh_still s)

@[simp] theorem State.spoilHigh_ram (s : State) : (State.spoilHigh s).ram = s.ram := State.still_ram (State.spoilHigh_still s)

@[simp] theorem State.spoilPulseEnd_still (s : State) : (State.spoilPulseEnd s).still = s.still := by
  unfold State.spoilPulseEnd; (try simp); all_goals ((repeat' split) <;> (first | with_reducible rfl | (simp; done) | (simp_all; done)))

@[simp] theorem State.spoilPulseEnd_outer (s : State) : (State.spoilPulseEnd s).outer = s.outer := State.still_outer (State.spoilPulseEnd_still s)

@[simp] theorem State.spoilPulseEnd_kept (s : State) : (State.spoilPulseEnd s).kept = s.kept := State.still_kept (State.spoilPulseEnd_still s)

@[simp] theorem State.spoilPulseEnd_ram (s : State) : (State.spoilPulseEnd s).ram = s.ram := State.still_ram (State.spoilPulseEnd_still s)

end Sys2Proof.Machine
end

