-- ==== Sys2Proof/Laws/OuterPorts.lean ====
section
/-! SUPPORT. What the operations of Machine/Ports.lean leave alone: the queue, the idle time, the clock and the boot record (`outer`); flash, settings copies, update service and recovery (`kept`); the bytes of DRAM and staging (`ram`). -/

namespace Sys2Proof.Machine

@[simp] theorem State.portAnswer_still (s : State) (n : Nat) (op : Nat) (addr : Nat) (status : Nat) (far : Nat) (value : Nat) (tag : Nat) : (State.portAnswer s n op addr status far value tag).still = s.still := by
  unfold State.portAnswer; (try simp); all_goals ((repeat' split) <;> (first | with_reducible rfl | (simp; done) | (simp_all; done)))

@[simp] theorem State.portAnswer_outer (s : State) (n : Nat) (op : Nat) (addr : Nat) (status : Nat) (far : Nat) (value : Nat) (tag : Nat) : (State.portAnswer s n op addr status far value tag).outer = s.outer := State.still_outer (State.portAnswer_still s n op addr status far value tag)

@[simp] theorem State.portAnswer_kept (s : State) (n : Nat) (op : Nat) (addr : Nat) (status : Nat) (far : Nat) (value : Nat) (tag : Nat) : (State.portAnswer s n op addr status far value tag).kept = s.kept := State.still_kept (State.portAnswer_still s n op addr status far value tag)

@[simp] theorem State.portAnswer_ram (s : State) (n : Nat) (op : Nat) (addr : Nat) (status : Nat) (far : Nat) (value : Nat) (tag : Nat) : (State.portAnswer s n op addr status far value tag).ram = s.ram := State.still_ram (State.portAnswer_still s n op addr status far value tag)

@[simp] theorem State.portSubmit_still (s0 : State) (n : Nat) (p : Nat → Bool) (bad : Bool) : (State.portSubmit s0 n p bad).still = s0.still := by
  unfold State.portSubmit; (try simp); all_goals ((repeat' split) <;> (first | with_reducible rfl | (simp; done) | (simp_all; done)))

@[simp] theorem State.portSubmit_outer (s0 : State) (n : Nat) (p : Nat → Bool) (bad : Bool) : (State.portSubmit s0 n p bad).outer = s0.outer := State.still_outer (State.portSubmit_still s0 n p bad)

@[simp] theorem State.portSubmit_kept (s0 : State) (n : Nat) (p : Nat → Bool) (bad : Bool) : (State.portSubmit s0 n p bad).kept = s0.kept := State.still_kept (State.portSubmit_still s0 n p bad)

@[simp] theorem State.portSubmit_ram (s0 : State) (n : Nat) (p : Nat → Bool) (bad : Bool) : (State.portSubmit s0 n p bad).ram = s0.ram := State.still_ram (State.portSubmit_still s0 n p bad)

@[simp] theorem State.portFree_still (s : State) (n : Nat) : (State.portFree s n).still = s.still := by
  unfold State.portFree; (try simp); all_goals ((repeat' split) <;> (first | with_reducible rfl | (simp; done) | (simp_all; done)))

@[simp] theorem State.portFree_outer (s : State) (n : Nat) : (State.portFree s n).outer = s.outer := State.still_outer (State.portFree_still s n)

@[simp] theorem State.portFree_kept (s : State) (n : Nat) : (State.portFree s n).kept = s.kept := State.still_kept (State.portFree_still s n)

@[simp] theorem State.portFree_ram (s : State) (n : Nat) : (State.portFree s n).ram = s.ram := State.still_ram (State.portFree_still s n)

@[simp] theorem State.portOutcome_still (s : State) (n : Nat) (c : PortCmd) (status : Nat) (far : Nat) (value : Nat) : (State.portOutcome s n c status far value).still = s.still := by
  unfold State.portOutcome; (try simp); all_goals ((repeat' split) <;> (first | with_reducible rfl | (simp; done) | (simp_all; done)))

@[simp] theorem State.portOutcome_outer (s : State) (n : Nat) (c : PortCmd) (status : Nat) (far : Nat) (value : Nat) : (State.portOutcome s n c status far value).outer = s.outer := State.still_outer (State.portOutcome_still s n c status far value)

@[simp] theorem State.portOutcome_kept (s : State) (n : Nat) (c : PortCmd) (status : Nat) (far : Nat) (value : Nat) : (State.portOutcome s n c status far value).kept = s.kept := State.still_kept (State.portOutcome_still s n c status far value)

@[simp] theorem State.portOutcome_ram (s : State) (n : Nat) (c : PortCmd) (status : Nat) (far : Nat) (value : Nat) : (State.portOutcome s n c status far value).ram = s.ram := State.still_ram (State.portOutcome_still s n c status far value)

@[simp] theorem State.loopBegins_still (s : State) (n : Nat) : (State.loopBegins s n).still = s.still := by
  unfold State.loopBegins; (try simp); all_goals ((repeat' split) <;> (first | with_reducible rfl | (simp; done) | (simp_all; done)))

@[simp] theorem State.loopBegins_outer (s : State) (n : Nat) : (State.loopBegins s n).outer = s.outer := State.still_outer (State.loopBegins_still s n)

@[simp] theorem State.loopBegins_kept (s : State) (n : Nat) : (State.loopBegins s n).kept = s.kept := State.still_kept (State.loopBegins_still s n)

@[simp] theorem State.loopBegins_ram (s : State) (n : Nat) : (State.loopBegins s n).ram = s.ram := State.still_ram (State.loopBegins_still s n)

@[simp] theorem State.portResult_still (s : State) (n : Nat) (c : PortCmd) (status : Nat) (far : Nat) (value : Nat) : (State.portResult s n c status far value).still = s.still := by
  unfold State.portResult; (try simp); all_goals ((repeat' split) <;> (first | with_reducible rfl | (simp; done) | (simp_all; done)))

@[simp] theorem State.portResult_outer (s : State) (n : Nat) (c : PortCmd) (status : Nat) (far : Nat) (value : Nat) : (State.portResult s n c status far value).outer = s.outer := State.still_outer (State.portResult_still s n c status far value)

@[simp] theorem State.portResult_kept (s : State) (n : Nat) (c : PortCmd) (status : Nat) (far : Nat) (value : Nat) : (State.portResult s n c status far value).kept = s.kept := State.still_kept (State.portResult_still s n c status far value)

@[simp] theorem State.portResult_ram (s : State) (n : Nat) (c : PortCmd) (status : Nat) (far : Nat) (value : Nat) : (State.portResult s n c status far value).ram = s.ram := State.still_ram (State.portResult_still s n c status far value)

@[simp] theorem State.resp_still (s : State) (n : Nat) (addr : Nat) (seq : Nat) (status : Nat) (value : Nat) : (State.resp s n addr seq status value).still = s.still := by
  unfold State.resp; (try simp); all_goals ((repeat' split) <;> (first | with_reducible rfl | (simp; done) | (simp_all; done)))

@[simp] theorem State.resp_outer (s : State) (n : Nat) (addr : Nat) (seq : Nat) (status : Nat) (value : Nat) : (State.resp s n addr seq status value).outer = s.outer := State.still_outer (State.resp_still s n addr seq status value)

@[simp] theorem State.resp_kept (s : State) (n : Nat) (addr : Nat) (seq : Nat) (status : Nat) (value : Nat) : (State.resp s n addr seq status value).kept = s.kept := State.still_kept (State.resp_still s n addr seq status value)

@[simp] theorem State.resp_ram (s : State) (n : Nat) (addr : Nat) (seq : Nat) (status : Nat) (value : Nat) : (State.resp s n addr seq status value).ram = s.ram := State.still_ram (State.resp_still s n addr seq status value)

@[simp] theorem State.cmdTimeout_still (s : State) (n : Nat) : (State.cmdTimeout s n).still = s.still := by
  unfold State.cmdTimeout; (try simp); all_goals ((repeat' split) <;> (first | with_reducible rfl | (simp; done) | (simp_all; done)))

@[simp] theorem State.cmdTimeout_outer (s : State) (n : Nat) : (State.cmdTimeout s n).outer = s.outer := State.still_outer (State.cmdTimeout_still s n)

@[simp] theorem State.cmdTimeout_kept (s : State) (n : Nat) : (State.cmdTimeout s n).kept = s.kept := State.still_kept (State.cmdTimeout_still s n)

@[simp] theorem State.cmdTimeout_ram (s : State) (n : Nat) : (State.cmdTimeout s n).ram = s.ram := State.still_ram (State.cmdTimeout_still s n)

@[simp] theorem State.measNext_still (s : State) (n : Nat) (m : Meas) : (State.measNext s n m).still = s.still := by
  unfold State.measNext; (try simp); all_goals ((repeat' split) <;> (first | with_reducible rfl | (simp; done) | (simp_all; done)))

@[simp] theorem State.measNext_outer (s : State) (n : Nat) (m : Meas) : (State.measNext s n m).outer = s.outer := State.still_outer (State.measNext_still s n m)

@[simp] theorem State.measNext_kept (s : State) (n : Nat) (m : Meas) : (State.measNext s n m).kept = s.kept := State.still_kept (State.measNext_still s n m)

@[simp] theorem State.measNext_ram (s : State) (n : Nat) (m : Meas) : (State.measNext s n m).ram = s.ram := State.still_ram (State.measNext_still s n m)

@[simp] theorem State.declareJet_still (s : State) (n : Nat) (j : Nat) : (State.declareJet s n j).still = s.still := by
  unfold State.declareJet; (try simp); all_goals ((repeat' split) <;> (first | with_reducible rfl | (simp; done) | (simp_all; done)))

@[simp] theorem State.declareJet_outer (s : State) (n : Nat) (j : Nat) : (State.declareJet s n j).outer = s.outer := State.still_outer (State.declareJet_still s n j)

@[simp] theorem State.declareJet_kept (s : State) (n : Nat) (j : Nat) : (State.declareJet s n j).kept = s.kept := State.still_kept (State.declareJet_still s n j)

@[simp] theorem State.declareJet_ram (s : State) (n : Nat) (j : Nat) : (State.declareJet s n j).ram = s.ram := State.still_ram (State.declareJet_still s n j)

@[simp] theorem State.jetWindowEnd_still (s : State) (n : Nat) (j : Nat) (w : Nat × Nat × Bool) : (State.jetWindowEnd s n j w).still = s.still := by
  unfold State.jetWindowEnd; (try simp); all_goals ((repeat' split) <;> (first | with_reducible rfl | (simp; done) | (simp_all; done)))

@[simp] theorem State.jetWindowEnd_outer (s : State) (n : Nat) (j : Nat) (w : Nat × Nat × Bool) : (State.jetWindowEnd s n j w).outer = s.outer := State.still_outer (State.jetWindowEnd_still s n j w)

@[simp] theorem State.jetWindowEnd_kept (s : State) (n : Nat) (j : Nat) (w : Nat × Nat × Bool) : (State.jetWindowEnd s n j w).kept = s.kept := State.still_kept (State.jetWindowEnd_still s n j w)

@[simp] theorem State.jetWindowEnd_ram (s : State) (n : Nat) (j : Nat) (w : Nat × Nat × Bool) : (State.jetWindowEnd s n j w).ram = s.ram := State.still_ram (State.jetWindowEnd_still s n j w)

@[simp] theorem State.jetClose_still (s : State) (n : Nat) (j : Nat) : (State.jetClose s n j).still = s.still := by
  unfold State.jetClose; (try simp); all_goals ((repeat' split) <;> (first | with_reducible rfl | (simp; done) | (simp_all; done)))

@[simp] theorem State.jetClose_outer (s : State) (n : Nat) (j : Nat) : (State.jetClose s n j).outer = s.outer := State.still_outer (State.jetClose_still s n j)

@[simp] theorem State.jetClose_kept (s : State) (n : Nat) (j : Nat) : (State.jetClose s n j).kept = s.kept := State.still_kept (State.jetClose_still s n j)

@[simp] theorem State.jetClose_ram (s : State) (n : Nat) (j : Nat) : (State.jetClose s n j).ram = s.ram := State.still_ram (State.jetClose_still s n j)

@[simp] theorem State.jetCount_still (s : State) (n : Nat) (j : Nat) : (State.jetCount s n j).still = s.still := by
  unfold State.jetCount; (try simp); all_goals ((repeat' split) <;> (first | with_reducible rfl | (simp; done) | (simp_all; done)))

@[simp] theorem State.jetCount_outer (s : State) (n : Nat) (j : Nat) : (State.jetCount s n j).outer = s.outer := State.still_outer (State.jetCount_still s n j)

@[simp] theorem State.jetCount_kept (s : State) (n : Nat) (j : Nat) : (State.jetCount s n j).kept = s.kept := State.still_kept (State.jetCount_still s n j)

@[simp] theorem State.jetCount_ram (s : State) (n : Nat) (j : Nat) : (State.jetCount s n j).ram = s.ram := State.still_ram (State.jetCount_still s n j)

@[simp] theorem State.measStart_still (s : State) (n : Nat) (capture : Bool) : (State.measStart s n capture).still = s.still := by
  unfold State.measStart; (try simp); all_goals ((repeat' split) <;> (first | with_reducible rfl | (simp; done) | (simp_all; done)))

@[simp] theorem State.measStart_outer (s : State) (n : Nat) (capture : Bool) : (State.measStart s n capture).outer = s.outer := State.still_outer (State.measStart_still s n capture)

@[simp] theorem State.measStart_kept (s : State) (n : Nat) (capture : Bool) : (State.measStart s n capture).kept = s.kept := State.still_kept (State.measStart_still s n capture)

@[simp] theorem State.measStart_ram (s : State) (n : Nat) (capture : Bool) : (State.measStart s n capture).ram = s.ram := State.still_ram (State.measStart_still s n capture)

@[simp] theorem State.measCommand_still (s : State) (n : Nat) (capture : Bool) : (State.measCommand s n capture).1.still = s.still := by
  unfold State.measCommand; (try simp); all_goals ((repeat' split) <;> (first | with_reducible rfl | (simp; done) | (simp_all; done)))

@[simp] theorem State.measCommand_outer (s : State) (n : Nat) (capture : Bool) : (State.measCommand s n capture).1.outer = s.outer := State.still_outer (State.measCommand_still s n capture)

@[simp] theorem State.measCommand_kept (s : State) (n : Nat) (capture : Bool) : (State.measCommand s n capture).1.kept = s.kept := State.still_kept (State.measCommand_still s n capture)

@[simp] theorem State.measCommand_ram (s : State) (n : Nat) (capture : Bool) : (State.measCommand s n capture).1.ram = s.ram := State.still_ram (State.measCommand_still s n capture)

@[simp] theorem State.measAuto_still (s : State) (n : Nat) : (State.measAuto s n).still = s.still := by
  unfold State.measAuto; (try simp); all_goals ((repeat' split) <;> (first | with_reducible rfl | (simp; done) | (simp_all; done)))

@[simp] theorem State.measAuto_outer (s : State) (n : Nat) : (State.measAuto s n).outer = s.outer := State.still_outer (State.measAuto_still s n)

@[simp] theorem State.measAuto_kept (s : State) (n : Nat) : (State.measAuto s n).kept = s.kept := State.still_kept (State.measAuto_still s n)

@[simp] theorem State.measAuto_ram (s : State) (n : Nat) : (State.measAuto s n).ram = s.ram := State.still_ram (State.measAuto_still s n)

@[simp] theorem State.reading_still (s : State) (n : Nat) (j : Nat) (c : Nat) (capture : Bool) : (State.reading s n j c capture).1.still = s.still := by
  unfold State.reading; (try simp); all_goals ((repeat' split) <;> (first | with_reducible rfl | (simp; done) | (simp_all; done)))

@[simp] theorem State.reading_outer (s : State) (n : Nat) (j : Nat) (c : Nat) (capture : Bool) : (State.reading s n j c capture).1.outer = s.outer := State.still_outer (State.reading_still s n j c capture)

@[simp] theorem State.reading_kept (s : State) (n : Nat) (j : Nat) (c : Nat) (capture : Bool) : (State.reading s n j c capture).1.kept = s.kept := State.still_kept (State.reading_still s n j c capture)

@[simp] theorem State.reading_ram (s : State) (n : Nat) (j : Nat) (c : Nat) (capture : Bool) : (State.reading s n j c capture).1.ram = s.ram := State.still_ram (State.reading_still s n j c capture)

@[simp] theorem State.readings_still (s : State) (n : Nat) (g : Nat) (capture : Bool) (data : Bytes) : (State.readings s n g capture data).1.still = s.still := by
  unfold State.readings
  suffices h : ∀ (l : List Nat) (a : State × Nat), (l.foldl (fun a i =>
      ((a.1.reading n (1024 * g + i) (leAt data (2 * i) 2 % 4096) capture).1,
        if (a.1.reading n (1024 * g + i) (leAt data (2 * i) 2 % 4096) capture).2 then a.2 + 1 else a.2)) a).1.still = a.1.still from h _ (s, 0)
  intro l
  induction l with
  | nil => intro a; rfl
  | cons i l ih => intro a; rw [List.foldl_cons, ih]; simp

@[simp] theorem State.readings_outer (s : State) (n : Nat) (g : Nat) (capture : Bool) (data : Bytes) : (State.readings s n g capture data).1.outer = s.outer := State.still_outer (State.readings_still s n g capture data)

@[simp] theorem State.readings_kept (s : State) (n : Nat) (g : Nat) (capture : Bool) (data : Bytes) : (State.readings s n g capture data).1.kept = s.kept := State.still_kept (State.readings_still s n g capture data)

@[simp] theorem State.readings_ram (s : State) (n : Nat) (g : Nat) (capture : Bool) (data : Bytes) : (State.readings s n g capture data).1.ram = s.ram := State.still_ram (State.readings_still s n g capture data)

@[simp] theorem State.segmentDone_still (s : State) (n : Nat) (g : Nat) (status : Nat) (out : Nat) (dead : Nat) : (State.segmentDone s n g status out dead).still = s.still := by
  unfold State.segmentDone; (try simp); all_goals ((repeat' split) <;> (first | with_reducible rfl | (simp; done) | (simp_all; done)))

@[simp] theorem State.segmentDone_outer (s : State) (n : Nat) (g : Nat) (status : Nat) (out : Nat) (dead : Nat) : (State.segmentDone s n g status out dead).outer = s.outer := State.still_outer (State.segmentDone_still s n g status out dead)

@[simp] theorem State.segmentDone_kept (s : State) (n : Nat) (g : Nat) (status : Nat) (out : Nat) (dead : Nat) : (State.segmentDone s n g status out dead).kept = s.kept := State.still_kept (State.segmentDone_still s n g status out dead)

@[simp] theorem State.segmentDone_ram (s : State) (n : Nat) (g : Nat) (status : Nat) (out : Nat) (dead : Nat) : (State.segmentDone s n g status out dead).ram = s.ram := State.still_ram (State.segmentDone_still s n g status out dead)

@[simp] theorem State.measFail_still (s : State) (n : Nat) (m : Meas) (again : Bool) : (State.measFail s n m again).still = s.still := by
  unfold State.measFail; (try simp); all_goals ((repeat' split) <;> (first | with_reducible rfl | (simp; done) | (simp_all; done)))

@[simp] theorem State.measFail_outer (s : State) (n : Nat) (m : Meas) (again : Bool) : (State.measFail s n m again).outer = s.outer := State.still_outer (State.measFail_still s n m again)

@[simp] theorem State.measFail_kept (s : State) (n : Nat) (m : Meas) (again : Bool) : (State.measFail s n m again).kept = s.kept := State.still_kept (State.measFail_still s n m again)

@[simp] theorem State.measFail_ram (s : State) (n : Nat) (m : Meas) (again : Bool) : (State.measFail s n m again).ram = s.ram := State.still_ram (State.measFail_still s n m again)

@[simp] theorem State.measFrame_still (s : State) (n : Nat) (addr : Nat) (seq : Nat) (status : Nat) (crc : Nat) (data : Bytes) : (State.measFrame s n addr seq status crc data).still = s.still := by
  unfold State.measFrame; (try simp); all_goals ((repeat' split) <;> (first | with_reducible rfl | (simp; done) | (simp_all; done)))

@[simp] theorem State.measFrame_outer (s : State) (n : Nat) (addr : Nat) (seq : Nat) (status : Nat) (crc : Nat) (data : Bytes) : (State.measFrame s n addr seq status crc data).outer = s.outer := State.still_outer (State.measFrame_still s n addr seq status crc data)

@[simp] theorem State.measFrame_kept (s : State) (n : Nat) (addr : Nat) (seq : Nat) (status : Nat) (crc : Nat) (data : Bytes) : (State.measFrame s n addr seq status crc data).kept = s.kept := State.still_kept (State.measFrame_still s n addr seq status crc data)

@[simp] theorem State.measFrame_ram (s : State) (n : Nat) (addr : Nat) (seq : Nat) (status : Nat) (crc : Nat) (data : Bytes) : (State.measFrame s n addr seq status crc data).ram = s.ram := State.still_ram (State.measFrame_still s n addr seq status crc data)

@[simp] theorem State.measTimeout_still (s : State) (n : Nat) : (State.measTimeout s n).still = s.still := by
  unfold State.measTimeout; (try simp); all_goals ((repeat' split) <;> (first | with_reducible rfl | (simp; done) | (simp_all; done)))

@[simp] theorem State.measTimeout_outer (s : State) (n : Nat) : (State.measTimeout s n).outer = s.outer := State.still_outer (State.measTimeout_still s n)

@[simp] theorem State.measTimeout_kept (s : State) (n : Nat) : (State.measTimeout s n).kept = s.kept := State.still_kept (State.measTimeout_still s n)

@[simp] theorem State.measTimeout_ram (s : State) (n : Nat) : (State.measTimeout s n).ram = s.ram := State.still_ram (State.measTimeout_still s n)

@[simp] theorem State.loopFarEnd_still (s : State) (n : Nat) : (State.loopFarEnd s n).still = s.still := by
  unfold State.loopFarEnd; (try simp); all_goals ((repeat' split) <;> (first | with_reducible rfl | (simp; done) | (simp_all; done)))

@[simp] theorem State.loopFarEnd_outer (s : State) (n : Nat) : (State.loopFarEnd s n).outer = s.outer := State.still_outer (State.loopFarEnd_still s n)

@[simp] theorem State.loopFarEnd_kept (s : State) (n : Nat) : (State.loopFarEnd s n).kept = s.kept := State.still_kept (State.loopFarEnd_still s n)

@[simp] theorem State.loopFarEnd_ram (s : State) (n : Nat) : (State.loopFarEnd s n).ram = s.ram := State.still_ram (State.loopFarEnd_still s n)

@[simp] theorem State.loopEnd_still (s : State) (n : Nat) : (State.loopEnd s n).still = s.still := by
  unfold State.loopEnd; (try simp); all_goals ((repeat' split) <;> (first | with_reducible rfl | (simp; done) | (simp_all; done)))

@[simp] theorem State.loopEnd_outer (s : State) (n : Nat) : (State.loopEnd s n).outer = s.outer := State.still_outer (State.loopEnd_still s n)

@[simp] theorem State.loopEnd_kept (s : State) (n : Nat) : (State.loopEnd s n).kept = s.kept := State.still_kept (State.loopEnd_still s n)

@[simp] theorem State.loopEnd_ram (s : State) (n : Nat) : (State.loopEnd s n).ram = s.ram := State.still_ram (State.loopEnd_still s n)

@[simp] theorem State.loopStop_still (s : State) (n : Nat) : (State.loopStop s n).1.still = s.still := by
  unfold State.loopStop; (try simp); all_goals ((repeat' split) <;> (first | with_reducible rfl | (simp; done) | (simp_all; done)))

@[simp] theorem State.loopStop_outer (s : State) (n : Nat) : (State.loopStop s n).1.outer = s.outer := State.still_outer (State.loopStop_still s n)

@[simp] theorem State.loopStop_kept (s : State) (n : Nat) : (State.loopStop s n).1.kept = s.kept := State.still_kept (State.loopStop_still s n)

@[simp] theorem State.loopStop_ram (s : State) (n : Nat) : (State.loopStop s n).1.ram = s.ram := State.still_ram (State.loopStop_still s n)

end Sys2Proof.Machine
end

