-- ==== Sys2Proof/Laws/OuterUnits.lean ====
section
/-! SUPPORT. What the operations of Machine/Units.lean leave alone: the queue, the idle time, the clock and the boot record (`outer`); flash, settings copies, update service and recovery (`kept`); the bytes of DRAM and staging (`ram`). -/

namespace Sys2Proof.Machine

@[simp] theorem State.subTo_still (s : State) (i : Nat) (new : Nat) (cause : Nat) : (State.subTo s i new cause).still = s.still := by
  unfold State.subTo; (try simp); all_goals ((repeat' split) <;> (first | with_reducible rfl | (simp; done) | (simp_all; done)))

@[simp] theorem State.subTo_outer (s : State) (i : Nat) (new : Nat) (cause : Nat) : (State.subTo s i new cause).outer = s.outer := State.still_outer (State.subTo_still s i new cause)

@[simp] theorem State.subTo_kept (s : State) (i : Nat) (new : Nat) (cause : Nat) : (State.subTo s i new cause).kept = s.kept := State.still_kept (State.subTo_still s i new cause)

@[simp] theorem State.subTo_ram (s : State) (i : Nat) (new : Nat) (cause : Nat) : (State.subTo s i new cause).ram = s.ram := State.still_ram (State.subTo_still s i new cause)

@[simp] theorem State.pairTo_still (s : State) (p : Nat) (new : Nat) (cause : Nat) : (State.pairTo s p new cause).still = s.still := by
  unfold State.pairTo; (try simp); all_goals ((repeat' split) <;> (first | with_reducible rfl | (simp; done) | (simp_all; done)))

@[simp] theorem State.pairTo_outer (s : State) (p : Nat) (new : Nat) (cause : Nat) : (State.pairTo s p new cause).outer = s.outer := State.still_outer (State.pairTo_still s p new cause)

@[simp] theorem State.pairTo_kept (s : State) (p : Nat) (new : Nat) (cause : Nat) : (State.pairTo s p new cause).kept = s.kept := State.still_kept (State.pairTo_still s p new cause)

@[simp] theorem State.pairTo_ram (s : State) (p : Nat) (new : Nat) (cause : Nat) : (State.pairTo s p new cause).ram = s.ram := State.still_ram (State.pairTo_still s p new cause)

@[simp] theorem State.capNow_still (s : State) : (State.capNow s).still = s.still := by
  unfold State.capNow; (try simp); all_goals ((repeat' split) <;> (first | with_reducible rfl | (simp; done) | (simp_all; done)))

@[simp] theorem State.capNow_outer (s : State) : (State.capNow s).outer = s.outer := State.still_outer (State.capNow_still s)

@[simp] theorem State.capNow_kept (s : State) : (State.capNow s).kept = s.kept := State.still_kept (State.capNow_still s)

@[simp] theorem State.capNow_ram (s : State) : (State.capNow s).ram = s.ram := State.still_ram (State.capNow_still s)

@[simp] theorem State.unitResult_still (s : State) (r : Nat) (ok : Bool) : (State.unitResult s r ok).1.still = s.still := by
  unfold State.unitResult; (try simp); all_goals ((repeat' split) <;> (first | with_reducible rfl | (simp; done) | (simp_all; done)))

@[simp] theorem State.unitResult_outer (s : State) (r : Nat) (ok : Bool) : (State.unitResult s r ok).1.outer = s.outer := State.still_outer (State.unitResult_still s r ok)

@[simp] theorem State.unitResult_kept (s : State) (r : Nat) (ok : Bool) : (State.unitResult s r ok).1.kept = s.kept := State.still_kept (State.unitResult_still s r ok)

@[simp] theorem State.unitResult_ram (s : State) (r : Nat) (ok : Bool) : (State.unitResult s r ok).1.ram = s.ram := State.still_ram (State.unitResult_still s r ok)

@[simp] theorem State.rerenderAll_still (s : State) : (State.rerenderAll s).still = s.still := by
  unfold State.rerenderAll; (try simp); all_goals ((repeat' split) <;> (first | with_reducible rfl | (simp; done) | (simp_all; done)))

@[simp] theorem State.rerenderAll_outer (s : State) : (State.rerenderAll s).outer = s.outer := State.still_outer (State.rerenderAll_still s)

@[simp] theorem State.rerenderAll_kept (s : State) : (State.rerenderAll s).kept = s.kept := State.still_kept (State.rerenderAll_still s)

@[simp] theorem State.rerenderAll_ram (s : State) : (State.rerenderAll s).ram = s.ram := State.still_ram (State.rerenderAll_still s)

@[simp] theorem State.drainStart_still (s : State) (u : Nat) : (State.drainStart s u).still = s.still := by
  unfold State.drainStart; (try simp); all_goals ((repeat' split) <;> (first | with_reducible rfl | (simp; done) | (simp_all; done)))

@[simp] theorem State.drainStart_outer (s : State) (u : Nat) : (State.drainStart s u).outer = s.outer := State.still_outer (State.drainStart_still s u)

@[simp] theorem State.drainStart_kept (s : State) (u : Nat) : (State.drainStart s u).kept = s.kept := State.still_kept (State.drainStart_still s u)

@[simp] theorem State.drainStart_ram (s : State) (u : Nat) : (State.drainStart s u).ram = s.ram := State.still_ram (State.drainStart_still s u)

@[simp] theorem State.unitTakeOut_still (s : State) : (State.unitTakeOut s).1.still = s.still := by
  unfold State.unitTakeOut; (try simp); all_goals ((repeat' split) <;> (first | with_reducible rfl | (simp; done) | (simp_all; done)))

@[simp] theorem State.unitTakeOut_outer (s : State) : (State.unitTakeOut s).1.outer = s.outer := State.still_outer (State.unitTakeOut_still s)

@[simp] theorem State.unitTakeOut_kept (s : State) : (State.unitTakeOut s).1.kept = s.kept := State.still_kept (State.unitTakeOut_still s)

@[simp] theorem State.unitTakeOut_ram (s : State) : (State.unitTakeOut s).1.ram = s.ram := State.still_ram (State.unitTakeOut_still s)

@[simp] theorem State.unitReturn_still (s : State) : (State.unitReturn s).1.still = s.still := by
  unfold State.unitReturn; (try simp); all_goals ((repeat' split) <;> (first | with_reducible rfl | (simp; done) | (simp_all; done)))

@[simp] theorem State.unitReturn_outer (s : State) : (State.unitReturn s).1.outer = s.outer := State.still_outer (State.unitReturn_still s)

@[simp] theorem State.unitReturn_kept (s : State) : (State.unitReturn s).1.kept = s.kept := State.still_kept (State.unitReturn_still s)

@[simp] theorem State.unitReturn_ram (s : State) : (State.unitReturn s).1.ram = s.ram := State.still_ram (State.unitReturn_still s)

@[simp] theorem State.migrate_still (s : State) : (State.migrate s).still = s.still := by
  unfold State.migrate; (try simp); all_goals ((repeat' split) <;> (first | with_reducible rfl | (simp; done) | (simp_all; done)))

@[simp] theorem State.migrate_outer (s : State) : (State.migrate s).outer = s.outer := State.still_outer (State.migrate_still s)

@[simp] theorem State.migrate_kept (s : State) : (State.migrate s).kept = s.kept := State.still_kept (State.migrate_still s)

@[simp] theorem State.migrate_ram (s : State) : (State.migrate s).ram = s.ram := State.still_ram (State.migrate_still s)

@[simp] theorem State.drainComplete_still (s : State) (u : Nat) : (State.drainComplete s u).still = s.still := by
  unfold State.drainComplete; (try simp); all_goals ((repeat' split) <;> (first | with_reducible rfl | (simp; done) | (simp_all; done)))

@[simp] theorem State.drainComplete_outer (s : State) (u : Nat) : (State.drainComplete s u).outer = s.outer := State.still_outer (State.drainComplete_still s u)

@[simp] theorem State.drainComplete_kept (s : State) (u : Nat) : (State.drainComplete s u).kept = s.kept := State.still_kept (State.drainComplete_still s u)

@[simp] theorem State.drainComplete_ram (s : State) (u : Nat) : (State.drainComplete s u).ram = s.ram := State.still_ram (State.drainComplete_still s u)

@[simp] theorem State.bringUpPasses_still (s : State) (u : Nat) : (State.bringUpPasses s u).still = s.still := by
  unfold State.bringUpPasses; (try simp); all_goals ((repeat' split) <;> (first | with_reducible rfl | (simp; done) | (simp_all; done)))

@[simp] theorem State.bringUpPasses_outer (s : State) (u : Nat) : (State.bringUpPasses s u).outer = s.outer := State.still_outer (State.bringUpPasses_still s u)

@[simp] theorem State.bringUpPasses_kept (s : State) (u : Nat) : (State.bringUpPasses s u).kept = s.kept := State.still_kept (State.bringUpPasses_still s u)

@[simp] theorem State.bringUpPasses_ram (s : State) (u : Nat) : (State.bringUpPasses s u).ram = s.ram := State.still_ram (State.bringUpPasses_still s u)

@[simp] theorem State.bringUpFails_still (s : State) (u : Nat) : (State.bringUpFails s u).still = s.still := by
  unfold State.bringUpFails; (try simp); all_goals ((repeat' split) <;> (first | with_reducible rfl | (simp; done) | (simp_all; done)))

@[simp] theorem State.bringUpFails_outer (s : State) (u : Nat) : (State.bringUpFails s u).outer = s.outer := State.still_outer (State.bringUpFails_still s u)

@[simp] theorem State.bringUpFails_kept (s : State) (u : Nat) : (State.bringUpFails s u).kept = s.kept := State.still_kept (State.bringUpFails_still s u)

@[simp] theorem State.bringUpFails_ram (s : State) (u : Nat) : (State.bringUpFails s u).ram = s.ram := State.still_ram (State.bringUpFails_still s u)

@[simp] theorem State.poisonLines_outer (s : State) (p : Page) : (State.poisonLines s p).outer = s.outer := by
  unfold State.poisonLines; (try simp); all_goals ((repeat' split) <;> (first | with_reducible rfl | (simp; done) | (simp_all; done)))

@[simp] theorem State.poisonLines_kept (s : State) (p : Page) : (State.poisonLines s p).kept = s.kept := by
  unfold State.poisonLines; (try simp); all_goals ((repeat' split) <;> (first | with_reducible rfl | (simp; done) | (simp_all; done)))

@[simp] theorem State.loseTiles_still (s : State) (pair : Nat) : (State.loseTiles s pair).still = s.still := by
  unfold State.loseTiles; (try simp); all_goals ((repeat' split) <;> (first | with_reducible rfl | (simp; done) | (simp_all; done)))

@[simp] theorem State.loseTiles_outer (s : State) (pair : Nat) : (State.loseTiles s pair).outer = s.outer := State.still_outer (State.loseTiles_still s pair)

@[simp] theorem State.loseTiles_kept (s : State) (pair : Nat) : (State.loseTiles s pair).kept = s.kept := State.still_kept (State.loseTiles_still s pair)

@[simp] theorem State.loseTiles_ram (s : State) (pair : Nat) : (State.loseTiles s pair).ram = s.ram := State.still_ram (State.loseTiles_still s pair)

@[simp] theorem State.retirePair_outer (s : State) (p : Nat) (cause : Nat) : (State.retirePair s p cause).outer = s.outer := by
  unfold State.retirePair; (try simp); all_goals ((repeat' split) <;> (first | with_reducible rfl | (simp; done) | (simp_all; done)))

@[simp] theorem State.retirePair_kept (s : State) (p : Nat) (cause : Nat) : (State.retirePair s p cause).kept = s.kept := by
  unfold State.retirePair; (try simp); all_goals ((repeat' split) <;> (first | with_reducible rfl | (simp; done) | (simp_all; done)))

end Sys2Proof.Machine
end

