-- ==== Sys2Proof/Laws/OuterDram.lean ====
section
/-! SUPPORT. What the operations of Machine/Dram.lean leave alone: the queue, the idle time, the clock and the boot record (`outer`); flash, settings copies, update service and recovery (`kept`); the bytes of DRAM and staging (`ram`). -/

namespace Sys2Proof.Machine

@[simp] theorem State.updSub_still (s : State) (i : Nat) (f : Sub → Sub) : (State.updSub s i f).still = s.still := by
  unfold State.updSub; (try simp); all_goals ((repeat' split) <;> (first | with_reducible rfl | (simp; done) | (simp_all; done)))

@[simp] theorem State.updSub_outer (s : State) (i : Nat) (f : Sub → Sub) : (State.updSub s i f).outer = s.outer := State.still_outer (State.updSub_still s i f)

@[simp] theorem State.updSub_kept (s : State) (i : Nat) (f : Sub → Sub) : (State.updSub s i f).kept = s.kept := State.still_kept (State.updSub_still s i f)

@[simp] theorem State.updSub_ram (s : State) (i : Nat) (f : Sub → Sub) : (State.updSub s i f).ram = s.ram := State.still_ram (State.updSub_still s i f)

@[simp] theorem State.trainEvent_still (s : State) (i : Nat) (kind : Nat) : (State.trainEvent s i kind).still = s.still := by
  unfold State.trainEvent; (try simp); all_goals ((repeat' split) <;> (first | with_reducible rfl | (simp; done) | (simp_all; done)))

@[simp] theorem State.trainEvent_outer (s : State) (i : Nat) (kind : Nat) : (State.trainEvent s i kind).outer = s.outer := State.still_outer (State.trainEvent_still s i kind)

@[simp] theorem State.trainEvent_kept (s : State) (i : Nat) (kind : Nat) : (State.trainEvent s i kind).kept = s.kept := State.still_kept (State.trainEvent_still s i kind)

@[simp] theorem State.trainEvent_ram (s : State) (i : Nat) (kind : Nat) : (State.trainEvent s i kind).ram = s.ram := State.still_ram (State.trainEvent_still s i kind)

@[simp] theorem State.dramEvent_still (s : State) (i : Nat) (kind : Nat) (x : Nat) : (State.dramEvent s i kind x).still = s.still := by
  unfold State.dramEvent; (try simp); all_goals ((repeat' split) <;> (first | with_reducible rfl | (simp; done) | (simp_all; done)))

@[simp] theorem State.dramEvent_outer (s : State) (i : Nat) (kind : Nat) (x : Nat) : (State.dramEvent s i kind x).outer = s.outer := State.still_outer (State.dramEvent_still s i kind x)

@[simp] theorem State.dramEvent_kept (s : State) (i : Nat) (kind : Nat) (x : Nat) : (State.dramEvent s i kind x).kept = s.kept := State.still_kept (State.dramEvent_still s i kind x)

@[simp] theorem State.dramEvent_ram (s : State) (i : Nat) (kind : Nat) (x : Nat) : (State.dramEvent s i kind x).ram = s.ram := State.still_ram (State.dramEvent_still s i kind x)

@[simp] theorem State.showTraining_still (s : State) : (State.showTraining s).still = s.still := by
  unfold State.showTraining; (try simp); all_goals ((repeat' split) <;> (first | with_reducible rfl | (simp; done) | (simp_all; done)))

@[simp] theorem State.showTraining_outer (s : State) : (State.showTraining s).outer = s.outer := State.still_outer (State.showTraining_still s)

@[simp] theorem State.showTraining_kept (s : State) : (State.showTraining s).kept = s.kept := State.still_kept (State.showTraining_still s)

@[simp] theorem State.showTraining_ram (s : State) : (State.showTraining s).ram = s.ram := State.still_ram (State.showTraining_still s)

@[simp] theorem State.scheduleTraining_still (s : State) (i : Nat) : (State.scheduleTraining s i).still = s.still := by
  unfold State.scheduleTraining; (try simp); all_goals ((repeat' split) <;> (first | with_reducible rfl | (simp; done) | (simp_all; done)))

@[simp] theorem State.scheduleTraining_outer (s : State) (i : Nat) : (State.scheduleTraining s i).outer = s.outer := State.still_outer (State.scheduleTraining_still s i)

@[simp] theorem State.scheduleTraining_kept (s : State) (i : Nat) : (State.scheduleTraining s i).kept = s.kept := State.still_kept (State.scheduleTraining_still s i)

@[simp] theorem State.scheduleTraining_ram (s : State) (i : Nat) : (State.scheduleTraining s i).ram = s.ram := State.still_ram (State.scheduleTraining_still s i)

@[simp] theorem State.retrainAll_still (s : State) : (State.retrainAll s).1.still = s.still := by
  unfold State.retrainAll; (try simp); all_goals ((repeat' split) <;> (first | with_reducible rfl | (simp; done) | (simp_all; done)))

@[simp] theorem State.retrainAll_outer (s : State) : (State.retrainAll s).1.outer = s.outer := State.still_outer (State.retrainAll_still s)

@[simp] theorem State.retrainAll_kept (s : State) : (State.retrainAll s).1.kept = s.kept := State.still_kept (State.retrainAll_still s)

@[simp] theorem State.retrainAll_ram (s : State) : (State.retrainAll s).1.ram = s.ram := State.still_ram (State.retrainAll_still s)

@[simp] theorem State.retrainOne_still (s : State) : (State.retrainOne s).1.still = s.still := by
  unfold State.retrainOne; (try simp); all_goals ((repeat' split) <;> (first | with_reducible rfl | (simp; done) | (simp_all; done)))

@[simp] theorem State.retrainOne_outer (s : State) : (State.retrainOne s).1.outer = s.outer := State.still_outer (State.retrainOne_still s)

@[simp] theorem State.retrainOne_kept (s : State) : (State.retrainOne s).1.kept = s.kept := State.still_kept (State.retrainOne_still s)

@[simp] theorem State.retrainOne_ram (s : State) : (State.retrainOne s).1.ram = s.ram := State.still_ram (State.retrainOne_still s)

@[simp] theorem State.driftSample_still (s : State) (i : Nat) (drift : Nat) : (State.driftSample s i drift).still = s.still := by
  unfold State.driftSample; (try simp); all_goals ((repeat' split) <;> (first | with_reducible rfl | (simp; done) | (simp_all; done)))

@[simp] theorem State.driftSample_outer (s : State) (i : Nat) (drift : Nat) : (State.driftSample s i drift).outer = s.outer := State.still_outer (State.driftSample_still s i drift)

@[simp] theorem State.driftSample_kept (s : State) (i : Nat) (drift : Nat) : (State.driftSample s i drift).kept = s.kept := State.still_kept (State.driftSample_still s i drift)

@[simp] theorem State.driftSample_ram (s : State) (i : Nat) (drift : Nat) : (State.driftSample s i drift).ram = s.ram := State.still_ram (State.driftSample_still s i drift)

@[simp] theorem State.bandTo_still (s : State) (i : Nat) (b : Nat) : (State.bandTo s i b).still = s.still := by
  unfold State.bandTo; (try simp); all_goals ((repeat' split) <;> (first | with_reducible rfl | (simp; done) | (simp_all; done)))

@[simp] theorem State.bandTo_outer (s : State) (i : Nat) (b : Nat) : (State.bandTo s i b).outer = s.outer := State.still_outer (State.bandTo_still s i b)

@[simp] theorem State.bandTo_kept (s : State) (i : Nat) (b : Nat) : (State.bandTo s i b).kept = s.kept := State.still_kept (State.bandTo_still s i b)

@[simp] theorem State.bandTo_ram (s : State) (i : Nat) (b : Nat) : (State.bandTo s i b).ram = s.ram := State.still_ram (State.bandTo_still s i b)

@[simp] theorem State.subTemps_still (s : State) (i : Nat) (l : List Int) : (State.subTemps s i l).still = s.still := by
  unfold State.subTemps; (try simp); all_goals ((repeat' split) <;> (first | with_reducible rfl | (simp; done) | (simp_all; done)))

@[simp] theorem State.subTemps_outer (s : State) (i : Nat) (l : List Int) : (State.subTemps s i l).outer = s.outer := State.still_outer (State.subTemps_still s i l)

@[simp] theorem State.subTemps_kept (s : State) (i : Nat) (l : List Int) : (State.subTemps s i l).kept = s.kept := State.still_kept (State.subTemps_still s i l)

@[simp] theorem State.subTemps_ram (s : State) (i : Nat) (l : List Int) : (State.subTemps s i l).ram = s.ram := State.still_ram (State.subTemps_still s i l)

@[simp] theorem State.dramTemps_still (s : State) (temps : List (List Int)) : (State.dramTemps s temps).still = s.still := by
  unfold State.dramTemps; (try simp); all_goals ((repeat' split) <;> (first | with_reducible rfl | (simp; done) | (simp_all; done)))

@[simp] theorem State.dramTemps_outer (s : State) (temps : List (List Int)) : (State.dramTemps s temps).outer = s.outer := State.still_outer (State.dramTemps_still s temps)

@[simp] theorem State.dramTemps_kept (s : State) (temps : List (List Int)) : (State.dramTemps s temps).kept = s.kept := State.still_kept (State.dramTemps_still s temps)

@[simp] theorem State.dramTemps_ram (s : State) (temps : List (List Int)) : (State.dramTemps s temps).ram = s.ram := State.still_ram (State.dramTemps_still s temps)

@[simp] theorem State.refreshBoundary_still (s : State) (i : Nat) : (State.refreshBoundary s i).still = s.still := by
  unfold State.refreshBoundary; (try simp); all_goals ((repeat' split) <;> (first | with_reducible rfl | (simp; done) | (simp_all; done)))

@[simp] theorem State.refreshBoundary_outer (s : State) (i : Nat) : (State.refreshBoundary s i).outer = s.outer := State.still_outer (State.refreshBoundary_still s i)

@[simp] theorem State.refreshBoundary_kept (s : State) (i : Nat) : (State.refreshBoundary s i).kept = s.kept := State.still_kept (State.refreshBoundary_still s i)

@[simp] theorem State.refreshBoundary_ram (s : State) (i : Nat) : (State.refreshBoundary s i).ram = s.ram := State.still_ram (State.refreshBoundary_still s i)

@[simp] theorem State.forceRefresh_still (s : State) (i : Nat) (rank : Nat) (all : Bool) (l : List Nat) : (State.forceRefresh s i rank all l).still = s.still := by
  unfold State.forceRefresh; (try simp); all_goals ((repeat' split) <;> (first | with_reducible rfl | (simp; done) | (simp_all; done)))

@[simp] theorem State.forceRefresh_outer (s : State) (i : Nat) (rank : Nat) (all : Bool) (l : List Nat) : (State.forceRefresh s i rank all l).outer = s.outer := State.still_outer (State.forceRefresh_still s i rank all l)

@[simp] theorem State.forceRefresh_kept (s : State) (i : Nat) (rank : Nat) (all : Bool) (l : List Nat) : (State.forceRefresh s i rank all l).kept = s.kept := State.still_kept (State.forceRefresh_still s i rank all l)

@[simp] theorem State.forceRefresh_ram (s : State) (i : Nat) (rank : Nat) (all : Bool) (l : List Nat) : (State.forceRefresh s i rank all l).ram = s.ram := State.still_ram (State.forceRefresh_still s i rank all l)

@[simp] theorem State.refreshDue_still (s : State) (i : Nat) (rank : Nat) : (State.refreshDue s i rank).still = s.still := by
  unfold State.refreshDue; (try simp); all_goals ((repeat' split) <;> (first | with_reducible rfl | (simp; done) | (simp_all; done)))

@[simp] theorem State.refreshDue_outer (s : State) (i : Nat) (rank : Nat) : (State.refreshDue s i rank).outer = s.outer := State.still_outer (State.refreshDue_still s i rank)

@[simp] theorem State.refreshDue_kept (s : State) (i : Nat) (rank : Nat) : (State.refreshDue s i rank).kept = s.kept := State.still_kept (State.refreshDue_still s i rank)

@[simp] theorem State.refreshDue_ram (s : State) (i : Nat) (rank : Nat) : (State.refreshDue s i rank).ram = s.ram := State.still_ram (State.refreshDue_still s i rank)

@[simp] theorem State.windowClear_still (s : State) (i : Nat) : (State.windowClear s i).still = s.still := by
  unfold State.windowClear; (try simp); all_goals ((repeat' split) <;> (first | with_reducible rfl | (simp; done) | (simp_all; done)))

@[simp] theorem State.windowClear_outer (s : State) (i : Nat) : (State.windowClear s i).outer = s.outer := State.still_outer (State.windowClear_still s i)

@[simp] theorem State.windowClear_kept (s : State) (i : Nat) : (State.windowClear s i).kept = s.kept := State.still_kept (State.windowClear_still s i)

@[simp] theorem State.windowClear_ram (s : State) (i : Nat) : (State.windowClear s i).ram = s.ram := State.still_ram (State.windowClear_still s i)

@[simp] theorem State.acceptRead_still (s : State) (i : Nat) (r : DramReq) : (State.acceptRead s i r).still = s.still := by
  unfold State.acceptRead; (try simp); all_goals ((repeat' split) <;> (first | with_reducible rfl | (simp; done) | (simp_all; done)))

@[simp] theorem State.acceptRead_outer (s : State) (i : Nat) (r : DramReq) : (State.acceptRead s i r).outer = s.outer := State.still_outer (State.acceptRead_still s i r)

@[simp] theorem State.acceptRead_kept (s : State) (i : Nat) (r : DramReq) : (State.acceptRead s i r).kept = s.kept := State.still_kept (State.acceptRead_still s i r)

@[simp] theorem State.acceptRead_ram (s : State) (i : Nat) (r : DramReq) : (State.acceptRead s i r).ram = s.ram := State.still_ram (State.acceptRead_still s i r)

@[simp] theorem State.accept__still (s : State) (i : Nat) (l : List Arrival) : (State.accept_ s i l).still = s.still := by
  unfold State.accept_; (try simp); all_goals ((repeat' split) <;> (first | with_reducible rfl | (simp; done) | (simp_all; done)))

@[simp] theorem State.accept__outer (s : State) (i : Nat) (l : List Arrival) : (State.accept_ s i l).outer = s.outer := State.still_outer (State.accept__still s i l)

@[simp] theorem State.accept__kept (s : State) (i : Nat) (l : List Arrival) : (State.accept_ s i l).kept = s.kept := State.still_kept (State.accept__still s i l)

@[simp] theorem State.accept__ram (s : State) (i : Nat) (l : List Arrival) : (State.accept_ s i l).ram = s.ram := State.still_ram (State.accept__still s i l)

@[simp] theorem State.mitigate_still (s : State) (i : Nat) (bank : Nat) (row : Nat) (rest : List (Nat × Nat)) : (State.mitigate s i bank row rest).still = s.still := by
  unfold State.mitigate; (try simp); all_goals ((repeat' split) <;> (first | with_reducible rfl | (simp; done) | (simp_all; done)))

@[simp] theorem State.mitigate_outer (s : State) (i : Nat) (bank : Nat) (row : Nat) (rest : List (Nat × Nat)) : (State.mitigate s i bank row rest).outer = s.outer := State.still_outer (State.mitigate_still s i bank row rest)

@[simp] theorem State.mitigate_kept (s : State) (i : Nat) (bank : Nat) (row : Nat) (rest : List (Nat × Nat)) : (State.mitigate s i bank row rest).kept = s.kept := State.still_kept (State.mitigate_still s i bank row rest)

@[simp] theorem State.mitigate_ram (s : State) (i : Nat) (bank : Nat) (row : Nat) (rest : List (Nat × Nat)) : (State.mitigate s i bank row rest).ram = s.ram := State.still_ram (State.mitigate_still s i bank row rest)

@[simp] theorem State.issueNext_still (s : State) (i : Nat) : (State.issueNext s i).still = s.still := by
  unfold State.issueNext; (try simp); all_goals ((repeat' split) <;> (first | with_reducible rfl | (simp; done) | (simp_all; done)))

@[simp] theorem State.issueNext_outer (s : State) (i : Nat) : (State.issueNext s i).outer = s.outer := State.still_outer (State.issueNext_still s i)

@[simp] theorem State.issueNext_kept (s : State) (i : Nat) : (State.issueNext s i).kept = s.kept := State.still_kept (State.issueNext_still s i)

@[simp] theorem State.issueNext_ram (s : State) (i : Nat) : (State.issueNext s i).ram = s.ram := State.still_ram (State.issueNext_still s i)

@[simp] theorem State.dramIssue_still (s : State) (i : Nat) (l : List Arrival) : (State.dramIssue s i l).still = s.still := by
  unfold State.dramIssue; (try simp); all_goals ((repeat' split) <;> (first | with_reducible rfl | (simp; done) | (simp_all; done)))

@[simp] theorem State.dramIssue_outer (s : State) (i : Nat) (l : List Arrival) : (State.dramIssue s i l).outer = s.outer := State.still_outer (State.dramIssue_still s i l)

@[simp] theorem State.dramIssue_kept (s : State) (i : Nat) (l : List Arrival) : (State.dramIssue s i l).kept = s.kept := State.still_kept (State.dramIssue_still s i l)

@[simp] theorem State.dramIssue_ram (s : State) (i : Nat) (l : List Arrival) : (State.dramIssue s i l).ram = s.ram := State.still_ram (State.dramIssue_still s i l)

@[simp] theorem State.keepResult_still (s : State) (i : Nat) (t : TrainResult) : (State.keepResult s i t).still = s.still := by
  unfold State.keepResult; (try simp); all_goals ((repeat' split) <;> (first | with_reducible rfl | (simp; done) | (simp_all; done)))

@[simp] theorem State.keepResult_outer (s : State) (i : Nat) (t : TrainResult) : (State.keepResult s i t).outer = s.outer := State.still_outer (State.keepResult_still s i t)

@[simp] theorem State.keepResult_kept (s : State) (i : Nat) (t : TrainResult) : (State.keepResult s i t).kept = s.kept := State.still_kept (State.keepResult_still s i t)

@[simp] theorem State.keepResult_ram (s : State) (i : Nat) (t : TrainResult) : (State.keepResult s i t).ram = s.ram := State.still_ram (State.keepResult_still s i t)

@[simp] theorem State.retrainStart_still (s : State) (i : Nat) : (State.retrainStart s i).still = s.still := by
  unfold State.retrainStart; (try simp); all_goals ((repeat' split) <;> (first | with_reducible rfl | (simp; done) | (simp_all; done)))

@[simp] theorem State.retrainStart_outer (s : State) (i : Nat) : (State.retrainStart s i).outer = s.outer := State.still_outer (State.retrainStart_still s i)

@[simp] theorem State.retrainStart_kept (s : State) (i : Nat) : (State.retrainStart s i).kept = s.kept := State.still_kept (State.retrainStart_still s i)

@[simp] theorem State.retrainStart_ram (s : State) (i : Nat) : (State.retrainStart s i).ram = s.ram := State.still_ram (State.retrainStart_still s i)

@[simp] theorem State.retrainDone_outer (s : State) (i : Nat) (t : TrainResult) (oldPasses : Bool) : (State.retrainDone s i t oldPasses).outer = s.outer := by
  unfold State.retrainDone; (try simp); all_goals ((repeat' split) <;> (first | with_reducible rfl | (simp; done) | (simp_all; done)))

@[simp] theorem State.retrainDone_kept (s : State) (i : Nat) (t : TrainResult) (oldPasses : Bool) : (State.retrainDone s i t oldPasses).kept = s.kept := by
  unfold State.retrainDone; (try simp); all_goals ((repeat' split) <;> (first | with_reducible rfl | (simp; done) | (simp_all; done)))

@[simp] theorem State.sessionReady_still (s : State) : (State.sessionReady s).still = s.still := by
  unfold State.sessionReady; (try simp); all_goals ((repeat' split) <;> (first | with_reducible rfl | (simp; done) | (simp_all; done)))

@[simp] theorem State.sessionReady_outer (s : State) : (State.sessionReady s).outer = s.outer := State.still_outer (State.sessionReady_still s)

@[simp] theorem State.sessionReady_kept (s : State) : (State.sessionReady s).kept = s.kept := State.still_kept (State.sessionReady_still s)

@[simp] theorem State.sessionReady_ram (s : State) : (State.sessionReady s).ram = s.ram := State.still_ram (State.sessionReady_still s)

@[simp] theorem State.startupTrained_outer (s : State) (answer : Bool) (rfm : Bool) (results : List TrainResult) : (State.startupTrained s answer rfm results).outer = s.outer := by
  unfold State.startupTrained
  split
  · rfl
  · extract_lets good d0 s1 s2 s3 d4 s4
    have h2 : s2.outer = s.outer := by
      refine (foldl_outer _ _ _ ?_).trans (by simp [s1])
      intro s i
      split <;> simp
    have h3 : s3.outer = s2.outer := by
      apply foldl_outer; intro s i
      simp
    clear_value s2
    (repeat' split) <;> simp_all [s4]

@[simp] theorem State.startupTrained_kept (s : State) (answer : Bool) (rfm : Bool) (results : List TrainResult) : (State.startupTrained s answer rfm results).kept = s.kept := by
  unfold State.startupTrained
  split
  · rfl
  · extract_lets good d0 s1 s2 s3 d4 s4
    have h2 : s2.kept = s.kept := by
      refine (foldl_kept _ _ _ ?_).trans (by simp [s1])
      intro s i
      split <;> simp
    have h3 : s3.kept = s2.kept := by
      apply foldl_kept; intro s i
      simp
    clear_value s2
    (repeat' split) <;> simp_all [s4]

end Sys2Proof.Machine
end

