-- ==== Sys2Proof/Laws/OuterSessions.lean ====
section
/-! SUPPORT. What the operations of Machine/Sessions.lean leave alone: the queue, the idle time, the clock and the boot record (`outer`); flash, settings copies, update service and recovery (`kept`); the bytes of DRAM and staging (`ram`). -/

namespace Sys2Proof.Machine

@[simp] theorem State.feedEncoders_still (s : State) : (State.feedEncoders s).still = s.still := by
  unfold State.feedEncoders
  split
  · rfl
  · apply foldl_still; intro s a
    (repeat' split) <;> simp

@[simp] theorem State.feedEncoders_outer (s : State) : (State.feedEncoders s).outer = s.outer := State.still_outer (State.feedEncoders_still s)

@[simp] theorem State.feedEncoders_kept (s : State) : (State.feedEncoders s).kept = s.kept := State.still_kept (State.feedEncoders_still s)

@[simp] theorem State.feedEncoders_ram (s : State) : (State.feedEncoders s).ram = s.ram := State.still_ram (State.feedEncoders_still s)

@[simp] theorem State.readbackOut_still (s : State) (n k : Nat) : (s.readbackOut n k).still = s.still := by
  induction k generalizing s with
  | zero => rfl
  | succ k ih =>
    unfold State.readbackOut
    split
    · rfl
    · split
      · rfl
      · dsimp only
        split <;> simp [ih]

@[simp] theorem State.readbackOut_outer (s : State) (n k : Nat) : (s.readbackOut n k).outer = s.outer := State.still_outer (State.readbackOut_still s n k)

@[simp] theorem State.readbackOut_kept (s : State) (n k : Nat) : (s.readbackOut n k).kept = s.kept := State.still_kept (State.readbackOut_still s n k)

@[simp] theorem State.readbackOut_ram (s : State) (n k : Nat) : (s.readbackOut n k).ram = s.ram := State.still_ram (State.readbackOut_still s n k)

@[simp] theorem State.readbackPump_still (s : State) (n : Nat) : (State.readbackPump s n).still = s.still := by
  unfold State.readbackPump; (try simp); all_goals ((repeat' split) <;> (first | with_reducible rfl | (simp; done) | (simp_all; done)))

@[simp] theorem State.readbackPump_outer (s : State) (n : Nat) : (State.readbackPump s n).outer = s.outer := State.still_outer (State.readbackPump_still s n)

@[simp] theorem State.readbackPump_kept (s : State) (n : Nat) : (State.readbackPump s n).kept = s.kept := State.still_kept (State.readbackPump_still s n)

@[simp] theorem State.readbackPump_ram (s : State) (n : Nat) : (State.readbackPump s n).ram = s.ram := State.still_ram (State.readbackPump_still s n)

@[simp] theorem State.pump_still (s : State) (n : Nat) : (State.pump s n).still = s.still := by
  unfold State.pump
  split
  · simp
  · suffices h : ∀ (l : List (Nat × Bytes)) (a : State × List (Nat × Bytes)), (l.foldl (fun a w =>
        if (a.1.completeFree n w.1 w.2).2 = true then ((a.1.completeFree n w.1 w.2).1, a.2) else (a.1, a.2 ++ [w])) a).1.still = a.1.still by
      simp [h]
    intro l
    induction l with
    | nil => intro a; rfl
    | cons i l ih => intro a; rw [List.foldl_cons, ih]; split <;> simp

@[simp] theorem State.pump_outer (s : State) (n : Nat) : (State.pump s n).outer = s.outer := State.still_outer (State.pump_still s n)

@[simp] theorem State.pump_kept (s : State) (n : Nat) : (State.pump s n).kept = s.kept := State.still_kept (State.pump_still s n)

@[simp] theorem State.pump_ram (s : State) (n : Nat) : (State.pump s n).ram = s.ram := State.still_ram (State.pump_still s n)

@[simp] theorem State.sendClose_still (s : State) (n : Nat) : (State.sendClose s n).still = s.still := by
  unfold State.sendClose; (try simp); all_goals ((repeat' split) <;> (first | with_reducible rfl | (simp; done) | (simp_all; done)))

@[simp] theorem State.sendClose_outer (s : State) (n : Nat) : (State.sendClose s n).outer = s.outer := State.still_outer (State.sendClose_still s n)

@[simp] theorem State.sendClose_kept (s : State) (n : Nat) : (State.sendClose s n).kept = s.kept := State.still_kept (State.sendClose_still s n)

@[simp] theorem State.sendClose_ram (s : State) (n : Nat) : (State.sendClose s n).ram = s.ram := State.still_ram (State.sendClose_still s n)

@[simp] theorem State.closeSession_still (s : State) (n : Nat) (reason : Nat) : (State.closeSession s n reason).still = s.still := by
  unfold State.closeSession; (try simp); all_goals ((repeat' split) <;> (first | with_reducible rfl | (simp; done) | (simp_all; done)))

@[simp] theorem State.closeSession_outer (s : State) (n : Nat) (reason : Nat) : (State.closeSession s n reason).outer = s.outer := State.still_outer (State.closeSession_still s n reason)

@[simp] theorem State.closeSession_kept (s : State) (n : Nat) (reason : Nat) : (State.closeSession s n reason).kept = s.kept := State.still_kept (State.closeSession_still s n reason)

@[simp] theorem State.closeSession_ram (s : State) (n : Nat) (reason : Nat) : (State.closeSession s n reason).ram = s.ram := State.still_ram (State.closeSession_still s n reason)

@[simp] theorem State.closeComplete_still (s : State) (n : Nat) : (State.closeComplete s n).still = s.still := by
  unfold State.closeComplete; (try simp); all_goals ((repeat' split) <;> (first | with_reducible rfl | (simp; done) | (simp_all; done)))

@[simp] theorem State.closeComplete_outer (s : State) (n : Nat) : (State.closeComplete s n).outer = s.outer := State.still_outer (State.closeComplete_still s n)

@[simp] theorem State.closeComplete_kept (s : State) (n : Nat) : (State.closeComplete s n).kept = s.kept := State.still_kept (State.closeComplete_still s n)

@[simp] theorem State.closeComplete_ram (s : State) (n : Nat) : (State.closeComplete s n).ram = s.ram := State.still_ram (State.closeComplete_still s n)

@[simp] theorem State.closeResend_still (s : State) (n : Nat) : (State.closeResend s n).still = s.still := by
  unfold State.closeResend; (try simp); all_goals ((repeat' split) <;> (first | with_reducible rfl | (simp; done) | (simp_all; done)))

@[simp] theorem State.closeResend_outer (s : State) (n : Nat) : (State.closeResend s n).outer = s.outer := State.still_outer (State.closeResend_still s n)

@[simp] theorem State.closeResend_kept (s : State) (n : Nat) : (State.closeResend s n).kept = s.kept := State.still_kept (State.closeResend_still s n)

@[simp] theorem State.closeResend_ram (s : State) (n : Nat) : (State.closeResend s n).ram = s.ram := State.still_ram (State.closeResend_still s n)

@[simp] theorem State.keepAlive_still (s : State) (n : Nat) : (State.keepAlive s n).still = s.still := by
  unfold State.keepAlive; (try simp); all_goals ((repeat' split) <;> (first | with_reducible rfl | (simp; done) | (simp_all; done)))

@[simp] theorem State.keepAlive_outer (s : State) (n : Nat) : (State.keepAlive s n).outer = s.outer := State.still_outer (State.keepAlive_still s n)

@[simp] theorem State.keepAlive_kept (s : State) (n : Nat) : (State.keepAlive s n).kept = s.kept := State.still_kept (State.keepAlive_still s n)

@[simp] theorem State.keepAlive_ram (s : State) (n : Nat) : (State.keepAlive s n).ram = s.ram := State.still_ram (State.keepAlive_still s n)

@[simp] theorem State.idleAck_still (s : State) (n : Nat) : (State.idleAck s n).still = s.still := by
  unfold State.idleAck; (try simp); all_goals ((repeat' split) <;> (first | with_reducible rfl | (simp; done) | (simp_all; done)))

@[simp] theorem State.idleAck_outer (s : State) (n : Nat) : (State.idleAck s n).outer = s.outer := State.still_outer (State.idleAck_still s n)

@[simp] theorem State.idleAck_kept (s : State) (n : Nat) : (State.idleAck s n).kept = s.kept := State.still_kept (State.idleAck_still s n)

@[simp] theorem State.idleAck_ram (s : State) (n : Nat) : (State.idleAck s n).ram = s.ram := State.still_ram (State.idleAck_still s n)

@[simp] theorem State.pressClose_still (s : State) (n : Nat) : (State.pressClose s n).1.still = s.still := by
  unfold State.pressClose; (try simp); all_goals ((repeat' split) <;> (first | with_reducible rfl | (simp; done) | (simp_all; done)))

@[simp] theorem State.pressClose_outer (s : State) (n : Nat) : (State.pressClose s n).1.outer = s.outer := State.still_outer (State.pressClose_still s n)

@[simp] theorem State.pressClose_kept (s : State) (n : Nat) : (State.pressClose s n).1.kept = s.kept := State.still_kept (State.pressClose_still s n)

@[simp] theorem State.pressClose_ram (s : State) (n : Nat) : (State.pressClose s n).1.ram = s.ram := State.still_ram (State.pressClose_still s n)

@[simp] theorem State.credEnable_still (s : State) (slot : Nat) (v : Nat) : (State.credEnable s slot v).still = s.still := by
  unfold State.credEnable; (try simp); all_goals ((repeat' split) <;> (first | with_reducible rfl | (simp; done) | (simp_all; done)))

@[simp] theorem State.credEnable_outer (s : State) (slot : Nat) (v : Nat) : (State.credEnable s slot v).outer = s.outer := State.still_outer (State.credEnable_still s slot v)

@[simp] theorem State.credEnable_kept (s : State) (slot : Nat) (v : Nat) : (State.credEnable s slot v).kept = s.kept := State.still_kept (State.credEnable_still s slot v)

@[simp] theorem State.credEnable_ram (s : State) (slot : Nat) (v : Nat) : (State.credEnable s slot v).ram = s.ram := State.still_ram (State.credEnable_still s slot v)

@[simp] theorem State.resend_still (s : State) (n : Nat) (p : Sent) : (State.resend s n p).still = s.still := by
  unfold State.resend; (try simp); all_goals ((repeat' split) <;> (first | with_reducible rfl | (simp; done) | (simp_all; done)))

@[simp] theorem State.resend_outer (s : State) (n : Nat) (p : Sent) : (State.resend s n p).outer = s.outer := State.still_outer (State.resend_still s n p)

@[simp] theorem State.resend_kept (s : State) (n : Nat) (p : Sent) : (State.resend s n p).kept = s.kept := State.still_kept (State.resend_still s n p)

@[simp] theorem State.resend_ram (s : State) (n : Nat) (p : Sent) : (State.resend s n p).ram = s.ram := State.still_ram (State.resend_still s n p)

@[simp] theorem State.freeSlots_still (s : State) (n u k : Nat) : (s.freeSlots n u k).still = s.still := by
  induction k generalizing s with
  | zero => rfl
  | succ k ih => unfold State.freeSlots; dsimp only; split <;> simp [ih]

@[simp] theorem State.freeSlots_outer (s : State) (n u k : Nat) : (s.freeSlots n u k).outer = s.outer := State.still_outer (State.freeSlots_still s n u k)

@[simp] theorem State.freeSlots_kept (s : State) (n u k : Nat) : (s.freeSlots n u k).kept = s.kept := State.still_kept (State.freeSlots_still s n u k)

@[simp] theorem State.freeSlots_ram (s : State) (n u k : Nat) : (s.freeSlots n u k).ram = s.ram := State.still_ram (State.freeSlots_still s n u k)

@[simp] theorem State.ackIn_still (s : State) (n : Nat) (ack : Nat) (sack : Nat) (credit : Nat) : (State.ackIn s n ack sack credit).still = s.still := by
  unfold State.ackIn; (try simp); all_goals ((repeat' split) <;> (first | with_reducible rfl | (simp; done) | (simp_all; done)))

@[simp] theorem State.ackIn_outer (s : State) (n : Nat) (ack : Nat) (sack : Nat) (credit : Nat) : (State.ackIn s n ack sack credit).outer = s.outer := State.still_outer (State.ackIn_still s n ack sack credit)

@[simp] theorem State.ackIn_kept (s : State) (n : Nat) (ack : Nat) (sack : Nat) (credit : Nat) : (State.ackIn s n ack sack credit).kept = s.kept := State.still_kept (State.ackIn_still s n ack sack credit)

@[simp] theorem State.ackIn_ram (s : State) (n : Nat) (ack : Nat) (sack : Nat) (credit : Nat) : (State.ackIn s n ack sack credit).ram = s.ram := State.still_ram (State.ackIn_still s n ack sack credit)

@[simp] theorem State.retransmit_still (s : State) (n : Nat) (psn : Nat) : (State.retransmit s n psn).still = s.still := by
  unfold State.retransmit; (try simp); all_goals ((repeat' split) <;> (first | with_reducible rfl | (simp; done) | (simp_all; done)))

@[simp] theorem State.retransmit_outer (s : State) (n : Nat) (psn : Nat) : (State.retransmit s n psn).outer = s.outer := State.still_outer (State.retransmit_still s n psn)

@[simp] theorem State.retransmit_kept (s : State) (n : Nat) (psn : Nat) : (State.retransmit s n psn).kept = s.kept := State.still_kept (State.retransmit_still s n psn)

@[simp] theorem State.retransmit_ram (s : State) (n : Nat) (psn : Nat) : (State.retransmit s n psn).ram = s.ram := State.still_ram (State.retransmit_still s n psn)

@[simp] theorem State.ackTimer_still (s : State) (n : Nat) : (State.ackTimer s n).still = s.still := by
  unfold State.ackTimer; (try simp); all_goals ((repeat' split) <;> (first | with_reducible rfl | (simp; done) | (simp_all; done)))

@[simp] theorem State.ackTimer_outer (s : State) (n : Nat) : (State.ackTimer s n).outer = s.outer := State.still_outer (State.ackTimer_still s n)

@[simp] theorem State.ackTimer_kept (s : State) (n : Nat) : (State.ackTimer s n).kept = s.kept := State.still_kept (State.ackTimer_still s n)

@[simp] theorem State.ackTimer_ram (s : State) (n : Nat) : (State.ackTimer s n).ram = s.ram := State.still_ram (State.ackTimer_still s n)

@[simp] theorem State.completionSend_still (s : State) (n : Nat) : (State.completionSend s n).still = s.still := by
  unfold State.completionSend; (try simp); all_goals ((repeat' split) <;> (first | with_reducible rfl | (simp; done) | (simp_all; done)))

@[simp] theorem State.completionSend_outer (s : State) (n : Nat) : (State.completionSend s n).outer = s.outer := State.still_outer (State.completionSend_still s n)

@[simp] theorem State.completionSend_kept (s : State) (n : Nat) : (State.completionSend s n).kept = s.kept := State.still_kept (State.completionSend_still s n)

@[simp] theorem State.completionSend_ram (s : State) (n : Nat) : (State.completionSend s n).ram = s.ram := State.still_ram (State.completionSend_still s n)

@[simp] theorem State.takeReq_still (s : State) (n : Nat) : (State.takeReq s n).still = s.still := by
  unfold State.takeReq; (try simp); all_goals ((repeat' split) <;> (first | with_reducible rfl | (simp; done) | (simp_all; done)))

@[simp] theorem State.takeReq_outer (s : State) (n : Nat) : (State.takeReq s n).outer = s.outer := State.still_outer (State.takeReq_still s n)

@[simp] theorem State.takeReq_kept (s : State) (n : Nat) : (State.takeReq s n).kept = s.kept := State.still_kept (State.takeReq_still s n)

@[simp] theorem State.takeReq_ram (s : State) (n : Nat) : (State.takeReq s n).ram = s.ram := State.still_ram (State.takeReq_still s n)

@[simp] theorem State.lostFound_still (s : State) (r : Req) : (State.lostFound s r).still = s.still := by
  unfold State.lostFound; (try simp); all_goals ((repeat' split) <;> (first | with_reducible rfl | (simp; done) | (simp_all; done)))

@[simp] theorem State.lostFound_outer (s : State) (r : Req) : (State.lostFound s r).outer = s.outer := State.still_outer (State.lostFound_still s r)

@[simp] theorem State.lostFound_kept (s : State) (r : Req) : (State.lostFound s r).kept = s.kept := State.still_kept (State.lostFound_still s r)

@[simp] theorem State.lostFound_ram (s : State) (r : Req) : (State.lostFound s r).ram = s.ram := State.still_ram (State.lostFound_still s r)

@[simp] theorem State.stock_still (s : State) (n k : Nat) : (s.stock n k).still = s.still := by
  induction k generalizing s with
  | zero => rfl
  | succ k ih => unfold State.stock; (repeat' split) <;> simp [ih]

@[simp] theorem State.stock_outer (s : State) (n k : Nat) : (s.stock n k).outer = s.outer := State.still_outer (State.stock_still s n k)

@[simp] theorem State.stock_kept (s : State) (n k : Nat) : (s.stock n k).kept = s.kept := State.still_kept (State.stock_still s n k)

@[simp] theorem State.stock_ram (s : State) (n k : Nat) : (s.stock n k).ram = s.ram := State.still_ram (State.stock_still s n k)

@[simp] theorem State.stockAll_still (s : State) (n : Nat) : (State.stockAll s n).still = s.still := by
  unfold State.stockAll; simp

@[simp] theorem State.stockAll_outer (s : State) (n : Nat) : (State.stockAll s n).outer = s.outer := State.still_outer (State.stockAll_still s n)

@[simp] theorem State.stockAll_kept (s : State) (n : Nat) : (State.stockAll s n).kept = s.kept := State.still_kept (State.stockAll_still s n)

@[simp] theorem State.stockAll_ram (s : State) (n : Nat) : (State.stockAll s n).ram = s.ram := State.still_ram (State.stockAll_still s n)

@[simp] theorem State.placeReq_still (s : State) (n : Nat) (r : Req) : (State.placeReq s n r).still = s.still := by
  unfold State.placeReq; (try simp); all_goals ((repeat' split) <;> (first | with_reducible rfl | (simp; done) | (simp_all; done)))

@[simp] theorem State.placeReq_outer (s : State) (n : Nat) (r : Req) : (State.placeReq s n r).outer = s.outer := State.still_outer (State.placeReq_still s n r)

@[simp] theorem State.placeReq_kept (s : State) (n : Nat) (r : Req) : (State.placeReq s n r).kept = s.kept := State.still_kept (State.placeReq_still s n r)

@[simp] theorem State.placeReq_ram (s : State) (n : Nat) (r : Req) : (State.placeReq s n r).ram = s.ram := State.still_ram (State.placeReq_still s n r)

@[simp] theorem State.recordIn_still (s : State) (n : Nat) (r : MspRec) (lost : List (Nat × LostAt)) : (State.recordIn s n r lost).still = s.still := by
  unfold State.recordIn; (try simp); all_goals ((repeat' split) <;> (first | with_reducible rfl | (simp; done) | (simp_all; done)))

@[simp] theorem State.recordIn_outer (s : State) (n : Nat) (r : MspRec) (lost : List (Nat × LostAt)) : (State.recordIn s n r lost).outer = s.outer := State.still_outer (State.recordIn_still s n r lost)

@[simp] theorem State.recordIn_kept (s : State) (n : Nat) (r : MspRec) (lost : List (Nat × LostAt)) : (State.recordIn s n r lost).kept = s.kept := State.still_kept (State.recordIn_still s n r lost)

@[simp] theorem State.recordIn_ram (s : State) (n : Nat) (r : MspRec) (lost : List (Nat × LostAt)) : (State.recordIn s n r lost).ram = s.ram := State.still_ram (State.recordIn_still s n r lost)

@[simp] theorem State.drainHeld_still (s : State) (n : Nat) (k : Nat) : (s.drainHeld n k).still = s.still := by
  induction k generalizing s with
  | zero => rfl
  | succ k ih => unfold State.drainHeld; split <;> simp [ih]

@[simp] theorem State.drainHeld_outer (s : State) (n : Nat) (k : Nat) : (s.drainHeld n k).outer = s.outer := State.still_outer (State.drainHeld_still s n k)

@[simp] theorem State.drainHeld_kept (s : State) (n : Nat) (k : Nat) : (s.drainHeld n k).kept = s.kept := State.still_kept (State.drainHeld_still s n k)

@[simp] theorem State.drainHeld_ram (s : State) (n : Nat) (k : Nat) : (s.drainHeld n k).ram = s.ram := State.still_ram (State.drainHeld_still s n k)

@[simp] theorem State.sequenced_still (s : State) (n : Nat) (psn : Nat) (ackNow : Bool) (recs : Bytes) (lost : List (Nat × LostAt)) : (State.sequenced s n psn ackNow recs lost).still = s.still := by
  unfold State.sequenced; (try simp); all_goals ((repeat' split) <;> (first | with_reducible rfl | (simp; done) | (simp_all; done)))

@[simp] theorem State.sequenced_outer (s : State) (n : Nat) (psn : Nat) (ackNow : Bool) (recs : Bytes) (lost : List (Nat × LostAt)) : (State.sequenced s n psn ackNow recs lost).outer = s.outer := State.still_outer (State.sequenced_still s n psn ackNow recs lost)

@[simp] theorem State.sequenced_kept (s : State) (n : Nat) (psn : Nat) (ackNow : Bool) (recs : Bytes) (lost : List (Nat × LostAt)) : (State.sequenced s n psn ackNow recs lost).kept = s.kept := State.still_kept (State.sequenced_still s n psn ackNow recs lost)

@[simp] theorem State.sequenced_ram (s : State) (n : Nat) (psn : Nat) (ackNow : Bool) (recs : Bytes) (lost : List (Nat × LostAt)) : (State.sequenced s n psn ackNow recs lost).ram = s.ram := State.still_ram (State.sequenced_still s n psn ackNow recs lost)

@[simp] theorem State.sendOpen_still (s : State) (src : HostAddr) (ty : Nat) (body : Bytes) : (State.sendOpen s src ty body).still = s.still := by
  unfold State.sendOpen; (try simp); all_goals ((repeat' split) <;> (first | with_reducible rfl | (simp; done) | (simp_all; done)))

@[simp] theorem State.sendOpen_outer (s : State) (src : HostAddr) (ty : Nat) (body : Bytes) : (State.sendOpen s src ty body).outer = s.outer := State.still_outer (State.sendOpen_still s src ty body)

@[simp] theorem State.sendOpen_kept (s : State) (src : HostAddr) (ty : Nat) (body : Bytes) : (State.sendOpen s src ty body).kept = s.kept := State.still_kept (State.sendOpen_still s src ty body)

@[simp] theorem State.sendOpen_ram (s : State) (src : HostAddr) (ty : Nat) (body : Bytes) : (State.sendOpen s src ty body).ram = s.ram := State.still_ram (State.sendOpen_still s src ty body)

@[simp] theorem State.reject_still (s : State) (src : HostAddr) (reason : Nat) (handle : Nat) (slot : Nat) : (State.reject s src reason handle slot).still = s.still := by
  unfold State.reject; (try simp); all_goals ((repeat' split) <;> (first | with_reducible rfl | (simp; done) | (simp_all; done)))

@[simp] theorem State.reject_outer (s : State) (src : HostAddr) (reason : Nat) (handle : Nat) (slot : Nat) : (State.reject s src reason handle slot).outer = s.outer := State.still_outer (State.reject_still s src reason handle slot)

@[simp] theorem State.reject_kept (s : State) (src : HostAddr) (reason : Nat) (handle : Nat) (slot : Nat) : (State.reject s src reason handle slot).kept = s.kept := State.still_kept (State.reject_still s src reason handle slot)

@[simp] theorem State.reject_ram (s : State) (src : HostAddr) (reason : Nat) (handle : Nat) (slot : Nat) : (State.reject s src reason handle slot).ram = s.ram := State.still_ram (State.reject_still s src reason handle slot)

@[simp] theorem State.openIn_still (s : State) (src : HostAddr) (version : Nat) (b : Bytes) : (State.openIn s src version b).still = s.still := by
  unfold State.openIn; (try simp); all_goals ((repeat' split) <;> (first | with_reducible rfl | (simp; done) | (simp_all; done)))

@[simp] theorem State.openIn_outer (s : State) (src : HostAddr) (version : Nat) (b : Bytes) : (State.openIn s src version b).outer = s.outer := State.still_outer (State.openIn_still s src version b)

@[simp] theorem State.openIn_kept (s : State) (src : HostAddr) (version : Nat) (b : Bytes) : (State.openIn s src version b).kept = s.kept := State.still_kept (State.openIn_still s src version b)

@[simp] theorem State.openIn_ram (s : State) (src : HostAddr) (version : Nat) (b : Bytes) : (State.openIn s src version b).ram = s.ram := State.still_ram (State.openIn_still s src version b)

@[simp] theorem State.authFail_still (s : State) (slot : Nat) : (State.authFail s slot).still = s.still := by
  unfold State.authFail; (try simp); all_goals ((repeat' split) <;> (first | with_reducible rfl | (simp; done) | (simp_all; done)))

@[simp] theorem State.authFail_outer (s : State) (slot : Nat) : (State.authFail s slot).outer = s.outer := State.still_outer (State.authFail_still s slot)

@[simp] theorem State.authFail_kept (s : State) (slot : Nat) : (State.authFail s slot).kept = s.kept := State.still_kept (State.authFail_still s slot)

@[simp] theorem State.authFail_ram (s : State) (slot : Nat) : (State.authFail s slot).ram = s.ram := State.still_ram (State.authFail_still s slot)

@[simp] theorem State.accept_still (s : State) (o : Opening) (proof : Bytes) : (State.accept s o proof).still = s.still := by
  unfold State.accept; (try simp); all_goals ((repeat' split) <;> (first | with_reducible rfl | (simp; done) | (simp_all; done)))

@[simp] theorem State.accept_outer (s : State) (o : Opening) (proof : Bytes) : (State.accept s o proof).outer = s.outer := State.still_outer (State.accept_still s o proof)

@[simp] theorem State.accept_kept (s : State) (o : Opening) (proof : Bytes) : (State.accept s o proof).kept = s.kept := State.still_kept (State.accept_still s o proof)

@[simp] theorem State.accept_ram (s : State) (o : Opening) (proof : Bytes) : (State.accept s o proof).ram = s.ram := State.still_ram (State.accept_still s o proof)

@[simp] theorem State.proofIn_still (s : State) (src : HostAddr) (b : Bytes) : (State.proofIn s src b).still = s.still := by
  unfold State.proofIn; (try simp); all_goals ((repeat' split) <;> (first | with_reducible rfl | (simp; done) | (simp_all; done)))

@[simp] theorem State.proofIn_outer (s : State) (src : HostAddr) (b : Bytes) : (State.proofIn s src b).outer = s.outer := State.still_outer (State.proofIn_still s src b)

@[simp] theorem State.proofIn_kept (s : State) (src : HostAddr) (b : Bytes) : (State.proofIn s src b).kept = s.kept := State.still_kept (State.proofIn_still s src b)

@[simp] theorem State.proofIn_ram (s : State) (src : HostAddr) (b : Bytes) : (State.proofIn s src b).ram = s.ram := State.still_ram (State.proofIn_still s src b)

@[simp] theorem State.pendingExpiry_still (s : State) (handle : Nat) : (State.pendingExpiry s handle).still = s.still := by
  unfold State.pendingExpiry; (try simp); all_goals ((repeat' split) <;> (first | with_reducible rfl | (simp; done) | (simp_all; done)))

@[simp] theorem State.pendingExpiry_outer (s : State) (handle : Nat) : (State.pendingExpiry s handle).outer = s.outer := State.still_outer (State.pendingExpiry_still s handle)

@[simp] theorem State.pendingExpiry_kept (s : State) (handle : Nat) : (State.pendingExpiry s handle).kept = s.kept := State.still_kept (State.pendingExpiry_still s handle)

@[simp] theorem State.pendingExpiry_ram (s : State) (handle : Nat) : (State.pendingExpiry s handle).ram = s.ram := State.still_ram (State.pendingExpiry_still s handle)

@[simp] theorem State.lockExpiry_still (s : State) (slot : Nat) : (State.lockExpiry s slot).still = s.still := by
  unfold State.lockExpiry; (try simp); all_goals ((repeat' split) <;> (first | with_reducible rfl | (simp; done) | (simp_all; done)))

@[simp] theorem State.lockExpiry_outer (s : State) (slot : Nat) : (State.lockExpiry s slot).outer = s.outer := State.still_outer (State.lockExpiry_still s slot)

@[simp] theorem State.lockExpiry_kept (s : State) (slot : Nat) : (State.lockExpiry s slot).kept = s.kept := State.still_kept (State.lockExpiry_still s slot)

@[simp] theorem State.lockExpiry_ram (s : State) (slot : Nat) : (State.lockExpiry s slot).ram = s.ram := State.still_ram (State.lockExpiry_still s slot)

@[simp] theorem State.mspDrop_still (s : State) : (State.mspDrop s).still = s.still := by
  unfold State.mspDrop; (try simp); all_goals ((repeat' split) <;> (first | with_reducible rfl | (simp; done) | (simp_all; done)))

@[simp] theorem State.mspDrop_outer (s : State) : (State.mspDrop s).outer = s.outer := State.still_outer (State.mspDrop_still s)

@[simp] theorem State.mspDrop_kept (s : State) : (State.mspDrop s).kept = s.kept := State.still_kept (State.mspDrop_still s)

@[simp] theorem State.mspDrop_ram (s : State) : (State.mspDrop s).ram = s.ram := State.still_ram (State.mspDrop_still s)

@[simp] theorem State.sessionIn_still (s : State) (n : Nat) (src : HostAddr) (b : Bytes) (recs : Bytes) (lost : List (Nat × LostAt)) : (State.sessionIn s n src b recs lost).still = s.still := by
  unfold State.sessionIn; (try simp); all_goals ((repeat' split) <;> (first | with_reducible rfl | (simp; done) | (simp_all; done)))

@[simp] theorem State.sessionIn_outer (s : State) (n : Nat) (src : HostAddr) (b : Bytes) (recs : Bytes) (lost : List (Nat × LostAt)) : (State.sessionIn s n src b recs lost).outer = s.outer := State.still_outer (State.sessionIn_still s n src b recs lost)

@[simp] theorem State.sessionIn_kept (s : State) (n : Nat) (src : HostAddr) (b : Bytes) (recs : Bytes) (lost : List (Nat × LostAt)) : (State.sessionIn s n src b recs lost).kept = s.kept := State.still_kept (State.sessionIn_still s n src b recs lost)

@[simp] theorem State.sessionIn_ram (s : State) (n : Nat) (src : HostAddr) (b : Bytes) (recs : Bytes) (lost : List (Nat × LostAt)) : (State.sessionIn s n src b recs lost).ram = s.ram := State.still_ram (State.sessionIn_still s n src b recs lost)

@[simp] theorem State.packetIn_still (s : State) (k : MspPacket) : (State.packetIn s k).still = s.still := by
  unfold State.packetIn; (try simp); all_goals ((repeat' split) <;> (first | with_reducible rfl | (simp; done) | (simp_all; done)))

@[simp] theorem State.packetIn_outer (s : State) (k : MspPacket) : (State.packetIn s k).outer = s.outer := State.still_outer (State.packetIn_still s k)

@[simp] theorem State.packetIn_kept (s : State) (k : MspPacket) : (State.packetIn s k).kept = s.kept := State.still_kept (State.packetIn_still s k)

@[simp] theorem State.packetIn_ram (s : State) (k : MspPacket) : (State.packetIn s k).ram = s.ram := State.still_ram (State.packetIn_still s k)

end Sys2Proof.Machine
end

