-- ==== Sys2Proof/Laws/OuterRequests.lean ====
section
/-! SUPPORT. What the operations of Machine/Requests.lean leave alone: the queue, the idle time, the clock and the boot record (`outer`); flash, settings copies, update service and recovery (`kept`); the bytes of DRAM and staging (`ram`). -/

namespace Sys2Proof.Machine

@[simp] theorem State.request_outer (s : State) (n : Nat) (want : Req → Bool) (act : State → Session → Req → State)
    (ha : ∀ s x r, (act s x r).outer = s.outer) : (s.request n want act).outer = s.outer := by
  unfold State.request
  (repeat' split) <;> simp [ha]

@[simp] theorem State.request_kept (s : State) (n : Nat) (want : Req → Bool) (act : State → Session → Req → State)
    (ha : ∀ s x r, (act s x r).kept = s.kept) : (s.request n want act).kept = s.kept := by
  unfold State.request
  (repeat' split) <;> simp [ha]

@[simp] theorem State.request_ram (s : State) (n : Nat) (want : Req → Bool) (act : State → Session → Req → State)
    (ha : ∀ s x r, (act s x r).ram = s.ram) : (s.request n want act).ram = s.ram := by
  unfold State.request
  (repeat' split) <;> simp [ha]

@[simp] theorem State.objectCreate_still (s : State) (n : Nat) (x : Session) (r : Req) : (State.objectCreate s n x r).still = s.still := by
  unfold State.objectCreate; (try simp); all_goals ((repeat' split) <;> (first | with_reducible rfl | (simp; done) | (simp_all; done)))

@[simp] theorem State.objectCreate_outer (s : State) (n : Nat) (x : Session) (r : Req) : (State.objectCreate s n x r).outer = s.outer := State.still_outer (State.objectCreate_still s n x r)

@[simp] theorem State.objectCreate_kept (s : State) (n : Nat) (x : Session) (r : Req) : (State.objectCreate s n x r).kept = s.kept := State.still_kept (State.objectCreate_still s n x r)

@[simp] theorem State.objectCreate_ram (s : State) (n : Nat) (x : Session) (r : Req) : (State.objectCreate s n x r).ram = s.ram := State.still_ram (State.objectCreate_still s n x r)

@[simp] theorem State.updObj_still (s : State) (ns : Nat) (id : Nat) (f : StashObj → StashObj) : (State.updObj s ns id f).still = s.still := by
  unfold State.updObj; (try simp); all_goals ((repeat' split) <;> (first | with_reducible rfl | (simp; done) | (simp_all; done)))

@[simp] theorem State.updObj_outer (s : State) (ns : Nat) (id : Nat) (f : StashObj → StashObj) : (State.updObj s ns id f).outer = s.outer := State.still_outer (State.updObj_still s ns id f)

@[simp] theorem State.updObj_kept (s : State) (ns : Nat) (id : Nat) (f : StashObj → StashObj) : (State.updObj s ns id f).kept = s.kept := State.still_kept (State.updObj_still s ns id f)

@[simp] theorem State.updObj_ram (s : State) (ns : Nat) (id : Nat) (f : StashObj → StashObj) : (State.updObj s ns id f).ram = s.ram := State.still_ram (State.updObj_still s ns id f)

@[simp] theorem State.updTile_still (s : State) (ns : Nat) (id : Nat) (i : Nat) (f : Tile → Tile) : (State.updTile s ns id i f).still = s.still := by
  unfold State.updTile; (try simp); all_goals ((repeat' split) <;> (first | with_reducible rfl | (simp; done) | (simp_all; done)))

@[simp] theorem State.updTile_outer (s : State) (ns : Nat) (id : Nat) (i : Nat) (f : Tile → Tile) : (State.updTile s ns id i f).outer = s.outer := State.still_outer (State.updTile_still s ns id i f)

@[simp] theorem State.updTile_kept (s : State) (ns : Nat) (id : Nat) (i : Nat) (f : Tile → Tile) : (State.updTile s ns id i f).kept = s.kept := State.still_kept (State.updTile_still s ns id i f)

@[simp] theorem State.updTile_ram (s : State) (ns : Nat) (id : Nat) (i : Nat) (f : Tile → Tile) : (State.updTile s ns id i f).ram = s.ram := State.still_ram (State.updTile_still s ns id i f)

@[simp] theorem State.objectData_still (s : State) (n : Nat) (x : Session) (r : Req) : (State.objectData s n x r).still = s.still := by
  unfold State.objectData; (try simp); all_goals ((repeat' split) <;> (first | with_reducible rfl | (simp; done) | (simp_all; done)))

@[simp] theorem State.objectData_outer (s : State) (n : Nat) (x : Session) (r : Req) : (State.objectData s n x r).outer = s.outer := State.still_outer (State.objectData_still s n x r)

@[simp] theorem State.objectData_kept (s : State) (n : Nat) (x : Session) (r : Req) : (State.objectData s n x r).kept = s.kept := State.still_kept (State.objectData_still s n x r)

@[simp] theorem State.objectData_ram (s : State) (n : Nat) (x : Session) (r : Req) : (State.objectData s n x r).ram = s.ram := State.still_ram (State.objectData_still s n x r)

@[simp] theorem State.stashWrite_outer (s : State) (a : Nat) (bs : Bytes) : (State.stashWrite s a bs).outer = s.outer := by
  unfold State.stashWrite; (try simp); all_goals ((repeat' split) <;> (first | with_reducible rfl | (simp; done) | (simp_all; done)))

@[simp] theorem State.stashWrite_kept (s : State) (a : Nat) (bs : Bytes) : (State.stashWrite s a bs).kept = s.kept := by
  unfold State.stashWrite; (try simp); all_goals ((repeat' split) <;> (first | with_reducible rfl | (simp; done) | (simp_all; done)))

@[simp] theorem State.tileDone_outer (s : State) (n : Nat) (x : Session) (o : StashObj) (i : Nat) (t : Tile) (block : Bytes) : (State.tileDone s n x o i t block).outer = s.outer := by
  unfold State.tileDone; (try simp); all_goals ((repeat' split) <;> (first | with_reducible rfl | (simp; done) | (simp_all; done)))

@[simp] theorem State.tileDone_kept (s : State) (n : Nat) (x : Session) (o : StashObj) (i : Nat) (t : Tile) (block : Bytes) : (State.tileDone s n x o i t block).kept = s.kept := by
  unfold State.tileDone; (try simp); all_goals ((repeat' split) <;> (first | with_reducible rfl | (simp; done) | (simp_all; done)))

@[simp] theorem State.codecReply_still (s : State) (n : Nat) (num : Nat) (status : Nat) (detail : Nat) : (State.codecReply s n num status detail).still = s.still := by
  unfold State.codecReply; (try simp); all_goals ((repeat' split) <;> (first | with_reducible rfl | (simp; done) | (simp_all; done)))

@[simp] theorem State.codecReply_outer (s : State) (n : Nat) (num : Nat) (status : Nat) (detail : Nat) : (State.codecReply s n num status detail).outer = s.outer := State.still_outer (State.codecReply_still s n num status detail)

@[simp] theorem State.codecReply_kept (s : State) (n : Nat) (num : Nat) (status : Nat) (detail : Nat) : (State.codecReply s n num status detail).kept = s.kept := State.still_kept (State.codecReply_still s n num status detail)

@[simp] theorem State.codecReply_ram (s : State) (n : Nat) (num : Nat) (status : Nat) (detail : Nat) : (State.codecReply s n num status detail).ram = s.ram := State.still_ram (State.codecReply_still s n num status detail)

@[simp] theorem State.tileCodec_outer (s : State) (n : Nat) : (State.tileCodec s n).outer = s.outer := by
  unfold State.tileCodec; (try simp); all_goals ((repeat' split) <;> (first | with_reducible rfl | (simp; done) | (simp_all; done)))

@[simp] theorem State.tileCodec_kept (s : State) (n : Nat) : (State.tileCodec s n).kept = s.kept := by
  unfold State.tileCodec; (try simp); all_goals ((repeat' split) <;> (first | with_reducible rfl | (simp; done) | (simp_all; done)))

@[simp] theorem State.encoded_still (s : State) (samples : Nat) (bytes : Nat) : (State.encoded s samples bytes).still = s.still := by
  unfold State.encoded; (try simp); all_goals ((repeat' split) <;> (first | with_reducible rfl | (simp; done) | (simp_all; done)))

@[simp] theorem State.encoded_outer (s : State) (samples : Nat) (bytes : Nat) : (State.encoded s samples bytes).outer = s.outer := State.still_outer (State.encoded_still s samples bytes)

@[simp] theorem State.encoded_kept (s : State) (samples : Nat) (bytes : Nat) : (State.encoded s samples bytes).kept = s.kept := State.still_kept (State.encoded_still s samples bytes)

@[simp] theorem State.encoded_ram (s : State) (samples : Nat) (bytes : Nat) : (State.encoded s samples bytes).ram = s.ram := State.still_ram (State.encoded_still s samples bytes)

@[simp] theorem State.encodeDone_still (s : State) (e : Nat) : (State.encodeDone s e).still = s.still := by
  unfold State.encodeDone; (try simp); all_goals ((repeat' split) <;> (first | with_reducible rfl | (simp; done) | (simp_all; done)))

@[simp] theorem State.encodeDone_outer (s : State) (e : Nat) : (State.encodeDone s e).outer = s.outer := State.still_outer (State.encodeDone_still s e)

@[simp] theorem State.encodeDone_kept (s : State) (e : Nat) : (State.encodeDone s e).kept = s.kept := State.still_kept (State.encodeDone_still s e)

@[simp] theorem State.encodeDone_ram (s : State) (e : Nat) : (State.encodeDone s e).ram = s.ram := State.still_ram (State.encodeDone_still s e)

@[simp] theorem State.objectDelete_still (s : State) (n : Nat) (x : Session) (r : Req) : (State.objectDelete s n x r).still = s.still := by
  unfold State.objectDelete; (try simp); all_goals ((repeat' split) <;> (first | with_reducible rfl | (simp; done) | (simp_all; done)))

@[simp] theorem State.objectDelete_outer (s : State) (n : Nat) (x : Session) (r : Req) : (State.objectDelete s n x r).outer = s.outer := State.still_outer (State.objectDelete_still s n x r)

@[simp] theorem State.objectDelete_kept (s : State) (n : Nat) (x : Session) (r : Req) : (State.objectDelete s n x r).kept = s.kept := State.still_kept (State.objectDelete_still s n x r)

@[simp] theorem State.objectDelete_ram (s : State) (n : Nat) (x : Session) (r : Req) : (State.objectDelete s n x r).ram = s.ram := State.still_ram (State.objectDelete_still s n x r)

@[simp] theorem State.groupDefine_still (s : State) (n : Nat) (x : Session) (r : Req) : (State.groupDefine s n x r).still = s.still := by
  unfold State.groupDefine; (try simp); all_goals ((repeat' split) <;> (first | with_reducible rfl | (simp; done) | (simp_all; done)))

@[simp] theorem State.groupDefine_outer (s : State) (n : Nat) (x : Session) (r : Req) : (State.groupDefine s n x r).outer = s.outer := State.still_outer (State.groupDefine_still s n x r)

@[simp] theorem State.groupDefine_kept (s : State) (n : Nat) (x : Session) (r : Req) : (State.groupDefine s n x r).kept = s.kept := State.still_kept (State.groupDefine_still s n x r)

@[simp] theorem State.groupDefine_ram (s : State) (n : Nat) (x : Session) (r : Req) : (State.groupDefine s n x r).ram = s.ram := State.still_ram (State.groupDefine_still s n x r)

@[simp] theorem State.pageDefine_still (s : State) (n : Nat) (x : Session) (r : Req) : (State.pageDefine s n x r).still = s.still := by
  unfold State.pageDefine; (try simp); all_goals ((repeat' split) <;> (first | with_reducible rfl | (simp; done) | (simp_all; done)))

@[simp] theorem State.pageDefine_outer (s : State) (n : Nat) (x : Session) (r : Req) : (State.pageDefine s n x r).outer = s.outer := State.still_outer (State.pageDefine_still s n x r)

@[simp] theorem State.pageDefine_kept (s : State) (n : Nat) (x : Session) (r : Req) : (State.pageDefine s n x r).kept = s.kept := State.still_kept (State.pageDefine_still s n x r)

@[simp] theorem State.pageDefine_ram (s : State) (n : Nat) (x : Session) (r : Req) : (State.pageDefine s n x r).ram = s.ram := State.still_ram (State.pageDefine_still s n x r)

@[simp] theorem State.renderRequest_still (s : State) (n : Nat) (x : Session) (r : Req) : (State.renderRequest s n x r).still = s.still := by
  unfold State.renderRequest; (try simp); all_goals ((repeat' split) <;> (first | with_reducible rfl | (simp; done) | (simp_all; done)))

@[simp] theorem State.renderRequest_outer (s : State) (n : Nat) (x : Session) (r : Req) : (State.renderRequest s n x r).outer = s.outer := State.still_outer (State.renderRequest_still s n x r)

@[simp] theorem State.renderRequest_kept (s : State) (n : Nat) (x : Session) (r : Req) : (State.renderRequest s n x r).kept = s.kept := State.still_kept (State.renderRequest_still s n x r)

@[simp] theorem State.renderRequest_ram (s : State) (n : Nat) (x : Session) (r : Req) : (State.renderRequest s n x r).ram = s.ram := State.still_ram (State.renderRequest_still s n x r)

@[simp] theorem State.frogRequest_still (s : State) (n : Nat) (x : Session) (r : Req) : (State.frogRequest s n x r).still = s.still := by
  unfold State.frogRequest; (try simp); all_goals ((repeat' split) <;> (first | with_reducible rfl | (simp; done) | (simp_all; done)))

@[simp] theorem State.frogRequest_outer (s : State) (n : Nat) (x : Session) (r : Req) : (State.frogRequest s n x r).outer = s.outer := State.still_outer (State.frogRequest_still s n x r)

@[simp] theorem State.frogRequest_kept (s : State) (n : Nat) (x : Session) (r : Req) : (State.frogRequest s n x r).kept = s.kept := State.still_kept (State.frogRequest_still s n x r)

@[simp] theorem State.frogRequest_ram (s : State) (n : Nat) (x : Session) (r : Req) : (State.frogRequest s n x r).ram = s.ram := State.still_ram (State.frogRequest_still s n x r)

@[simp] theorem State.query_still (s : State) (n : Nat) (x : Session) (r : Req) : (State.query s n x r).still = s.still := by
  unfold State.query; (try simp); all_goals ((repeat' split) <;> (first | with_reducible rfl | (simp; done) | (simp_all; done)))

@[simp] theorem State.query_outer (s : State) (n : Nat) (x : Session) (r : Req) : (State.query s n x r).outer = s.outer := State.still_outer (State.query_still s n x r)

@[simp] theorem State.query_kept (s : State) (n : Nat) (x : Session) (r : Req) : (State.query s n x r).kept = s.kept := State.still_kept (State.query_still s n x r)

@[simp] theorem State.query_ram (s : State) (n : Nat) (x : Session) (r : Req) : (State.query s n x r).ram = s.ram := State.still_ram (State.query_still s n x r)

@[simp] theorem State.readbackRequest_still (s : State) (n : Nat) (x : Session) (r : Req) : (State.readbackRequest s n x r).still = s.still := by
  unfold State.readbackRequest; (try simp); all_goals ((repeat' split) <;> (first | with_reducible rfl | (simp; done) | (simp_all; done)))

@[simp] theorem State.readbackRequest_outer (s : State) (n : Nat) (x : Session) (r : Req) : (State.readbackRequest s n x r).outer = s.outer := State.still_outer (State.readbackRequest_still s n x r)

@[simp] theorem State.readbackRequest_kept (s : State) (n : Nat) (x : Session) (r : Req) : (State.readbackRequest s n x r).kept = s.kept := State.still_kept (State.readbackRequest_still s n x r)

@[simp] theorem State.readbackRequest_ram (s : State) (n : Nat) (x : Session) (r : Req) : (State.readbackRequest s n x r).ram = s.ram := State.still_ram (State.readbackRequest_still s n x r)

@[simp] theorem State.sendAll_still (s : State) (n k : Nat) : (s.sendAll n k).still = s.still := by
  induction k generalizing s with
  | zero => rfl
  | succ k ih => unfold State.sendAll; split <;> simp [ih]

@[simp] theorem State.sendAll_outer (s : State) (n k : Nat) : (s.sendAll n k).outer = s.outer := State.still_outer (State.sendAll_still s n k)

@[simp] theorem State.sendAll_kept (s : State) (n k : Nat) : (s.sendAll n k).kept = s.kept := State.still_kept (State.sendAll_still s n k)

@[simp] theorem State.sendAll_ram (s : State) (n k : Nat) : (s.sendAll n k).ram = s.ram := State.still_ram (State.sendAll_still s n k)

@[simp] theorem State.closeRequest_still (s : State) (n : Nat) (x : Session) (r : Req) : (State.closeRequest s n x r).still = s.still := by
  unfold State.closeRequest; split <;> simp

@[simp] theorem State.closeRequest_outer (s : State) (n : Nat) (x : Session) (r : Req) : (State.closeRequest s n x r).outer = s.outer := State.still_outer (State.closeRequest_still s n x r)

@[simp] theorem State.closeRequest_kept (s : State) (n : Nat) (x : Session) (r : Req) : (State.closeRequest s n x r).kept = s.kept := State.still_kept (State.closeRequest_still s n x r)

@[simp] theorem State.closeRequest_ram (s : State) (n : Nat) (x : Session) (r : Req) : (State.closeRequest s n x r).ram = s.ram := State.still_ram (State.closeRequest_still s n x r)

end Sys2Proof.Machine
end

