-- ==== Sys2Proof/Laws/OuterNetwork.lean ====
section
/-! SUPPORT. What the operations of Machine/Network.lean leave alone: the queue, the idle time, the clock and the boot record (`outer`); flash, settings copies, update service and recovery (`kept`); the bytes of DRAM and staging (`ram`). -/

namespace Sys2Proof.Machine

@[simp] theorem State.heTo_still (s : State) (he : Nat) (st : Nat) : (State.heTo s he st).still = s.still := by
  unfold State.heTo; (try simp); all_goals ((repeat' split) <;> (first | with_reducible rfl | (simp; done) | (simp_all; done)))

@[simp] theorem State.heTo_outer (s : State) (he : Nat) (st : Nat) : (State.heTo s he st).outer = s.outer := State.still_outer (State.heTo_still s he st)

@[simp] theorem State.heTo_kept (s : State) (he : Nat) (st : Nat) : (State.heTo s he st).kept = s.kept := State.still_kept (State.heTo_still s he st)

@[simp] theorem State.heTo_ram (s : State) (he : Nat) (st : Nat) : (State.heTo s he st).ram = s.ram := State.still_ram (State.heTo_still s he st)

@[simp] theorem State.heStart_still (s : State) (he : Nat) : (State.heStart s he).still = s.still := by
  unfold State.heStart; (try simp); all_goals ((repeat' split) <;> (first | with_reducible rfl | (simp; done) | (simp_all; done)))

@[simp] theorem State.heStart_outer (s : State) (he : Nat) : (State.heStart s he).outer = s.outer := State.still_outer (State.heStart_still s he)

@[simp] theorem State.heStart_kept (s : State) (he : Nat) : (State.heStart s he).kept = s.kept := State.still_kept (State.heStart_still s he)

@[simp] theorem State.heStart_ram (s : State) (he : Nat) : (State.heStart s he).ram = s.ram := State.still_ram (State.heStart_still s he)

@[simp] theorem State.hostMode_still (s : State) (he : Nat) (v : Nat) : (State.hostMode s he v).still = s.still := by
  unfold State.hostMode; (try simp); all_goals ((repeat' split) <;> (first | with_reducible rfl | (simp; done) | (simp_all; done)))

@[simp] theorem State.hostMode_outer (s : State) (he : Nat) (v : Nat) : (State.hostMode s he v).outer = s.outer := State.still_outer (State.hostMode_still s he v)

@[simp] theorem State.hostMode_kept (s : State) (he : Nat) (v : Nat) : (State.hostMode s he v).kept = s.kept := State.still_kept (State.hostMode_still s he v)

@[simp] theorem State.hostMode_ram (s : State) (he : Nat) (v : Nat) : (State.hostMode s he v).ram = s.ram := State.still_ram (State.hostMode_still s he v)

@[simp] theorem State.hostLink_still (s : State) (he : Nat) (st : Nat) : (State.hostLink s he st).still = s.still := by
  unfold State.hostLink; (try simp); all_goals ((repeat' split) <;> (first | with_reducible rfl | (simp; done) | (simp_all; done)))

@[simp] theorem State.hostLink_outer (s : State) (he : Nat) (st : Nat) : (State.hostLink s he st).outer = s.outer := State.still_outer (State.hostLink_still s he st)

@[simp] theorem State.hostLink_kept (s : State) (he : Nat) (st : Nat) : (State.hostLink s he st).kept = s.kept := State.still_kept (State.hostLink_still s he st)

@[simp] theorem State.hostLink_ram (s : State) (he : Nat) (st : Nat) : (State.hostLink s he st).ram = s.ram := State.still_ram (State.hostLink_still s he st)

@[simp] theorem State.arp_still (s : State) (port : Nat) (mac : Nat) (ip : Nat) (target : Nat) : (State.arp s port mac ip target).still = s.still := by
  unfold State.arp; (try simp); all_goals ((repeat' split) <;> (first | with_reducible rfl | (simp; done) | (simp_all; done)))

@[simp] theorem State.arp_outer (s : State) (port : Nat) (mac : Nat) (ip : Nat) (target : Nat) : (State.arp s port mac ip target).outer = s.outer := State.still_outer (State.arp_still s port mac ip target)

@[simp] theorem State.arp_kept (s : State) (port : Nat) (mac : Nat) (ip : Nat) (target : Nat) : (State.arp s port mac ip target).kept = s.kept := State.still_kept (State.arp_still s port mac ip target)

@[simp] theorem State.arp_ram (s : State) (port : Nat) (mac : Nat) (ip : Nat) (target : Nat) : (State.arp s port mac ip target).ram = s.ram := State.still_ram (State.arp_still s port mac ip target)

@[simp] theorem State.neighbour_still (s : State) (he : Nat) (mac : Nat) (src : Nat) (target : Nat) : (State.neighbour s he mac src target).still = s.still := by
  unfold State.neighbour; (try simp); all_goals ((repeat' split) <;> (first | with_reducible rfl | (simp; done) | (simp_all; done)))

@[simp] theorem State.neighbour_outer (s : State) (he : Nat) (mac : Nat) (src : Nat) (target : Nat) : (State.neighbour s he mac src target).outer = s.outer := State.still_outer (State.neighbour_still s he mac src target)

@[simp] theorem State.neighbour_kept (s : State) (he : Nat) (mac : Nat) (src : Nat) (target : Nat) : (State.neighbour s he mac src target).kept = s.kept := State.still_kept (State.neighbour_still s he mac src target)

@[simp] theorem State.neighbour_ram (s : State) (he : Nat) (mac : Nat) (src : Nat) (target : Nat) : (State.neighbour s he mac src target).ram = s.ram := State.still_ram (State.neighbour_still s he mac src target)

@[simp] theorem State.fopReady_still (s : State) : (State.fopReady s).still = s.still := by
  unfold State.fopReady; (try simp); all_goals ((repeat' split) <;> (first | with_reducible rfl | (simp; done) | (simp_all; done)))

@[simp] theorem State.fopReady_outer (s : State) : (State.fopReady s).outer = s.outer := State.still_outer (State.fopReady_still s)

@[simp] theorem State.fopReady_kept (s : State) : (State.fopReady s).kept = s.kept := State.still_kept (State.fopReady_still s)

@[simp] theorem State.fopReady_ram (s : State) : (State.fopReady s).ram = s.ram := State.still_ram (State.fopReady_still s)

@[simp] theorem State.fieldLink_still (s : State) (fn : Nat) (st : Nat) : (State.fieldLink s fn st).still = s.still := by
  unfold State.fieldLink; (try simp); all_goals ((repeat' split) <;> (first | with_reducible rfl | (simp; done) | (simp_all; done)))

@[simp] theorem State.fieldLink_outer (s : State) (fn : Nat) (st : Nat) : (State.fieldLink s fn st).outer = s.outer := State.still_outer (State.fieldLink_still s fn st)

@[simp] theorem State.fieldLink_kept (s : State) (fn : Nat) (st : Nat) : (State.fieldLink s fn st).kept = s.kept := State.still_kept (State.fieldLink_still s fn st)

@[simp] theorem State.fieldLink_ram (s : State) (fn : Nat) (st : Nat) : (State.fieldLink s fn st).ram = s.ram := State.still_ram (State.fieldLink_still s fn st)

@[simp] theorem State.passThrough_still (s : State) (fn : Nat) (dst : Nat) (frame : Bytes) : (State.passThrough s fn dst frame).still = s.still := by
  unfold State.passThrough; (try simp); all_goals ((repeat' split) <;> (first | with_reducible rfl | (simp; done) | (simp_all; done)))

@[simp] theorem State.passThrough_outer (s : State) (fn : Nat) (dst : Nat) (frame : Bytes) : (State.passThrough s fn dst frame).outer = s.outer := State.still_outer (State.passThrough_still s fn dst frame)

@[simp] theorem State.passThrough_kept (s : State) (fn : Nat) (dst : Nat) (frame : Bytes) : (State.passThrough s fn dst frame).kept = s.kept := State.still_kept (State.passThrough_still s fn dst frame)

@[simp] theorem State.passThrough_ram (s : State) (fn : Nat) (dst : Nat) (frame : Bytes) : (State.passThrough s fn dst frame).ram = s.ram := State.still_ram (State.passThrough_still s fn dst frame)

end Sys2Proof.Machine
end

