-- ==== Sys2Proof/Laws/OuterTime.lean ====
section
/-! SUPPORT. What the operations of Machine/Time.lean leave alone: the queue, the idle time, the clock and the boot record (`outer`); flash, settings copies, update service and recovery (`kept`); the bytes of DRAM and staging (`ram`). -/

namespace Sys2Proof.Machine

@[simp] theorem State.updDom_still (s : State) (b : Nat) (f : Dom → Dom) : (State.updDom s b f).still = s.still := by
  unfold State.updDom; (try simp); all_goals ((repeat' split) <;> (first | with_reducible rfl | (simp; done) | (simp_all; done)))

@[simp] theorem State.updDom_outer (s : State) (b : Nat) (f : Dom → Dom) : (State.updDom s b f).outer = s.outer := State.still_outer (State.updDom_still s b f)

@[simp] theorem State.updDom_kept (s : State) (b : Nat) (f : Dom → Dom) : (State.updDom s b f).kept = s.kept := State.still_kept (State.updDom_still s b f)

@[simp] theorem State.updDom_ram (s : State) (b : Nat) (f : Dom → Dom) : (State.updDom s b f).ram = s.ram := State.still_ram (State.updDom_still s b f)

@[simp] theorem State.pendingTo_still (s : State) (p : Bool) : (State.pendingTo s p).still = s.still := by
  unfold State.pendingTo; (try simp); all_goals ((repeat' split) <;> (first | with_reducible rfl | (simp; done) | (simp_all; done)))

@[simp] theorem State.pendingTo_outer (s : State) (p : Bool) : (State.pendingTo s p).outer = s.outer := State.still_outer (State.pendingTo_still s p)

@[simp] theorem State.pendingTo_kept (s : State) (p : Bool) : (State.pendingTo s p).kept = s.kept := State.still_kept (State.pendingTo_still s p)

@[simp] theorem State.pendingTo_ram (s : State) (p : Bool) : (State.pendingTo s p).ram = s.ram := State.still_ram (State.pendingTo_still s p)

@[simp] theorem State.steerTo_still (s : State) (n : Nat) : (State.steerTo s n).still = s.still := by
  unfold State.steerTo; (try simp); all_goals ((repeat' split) <;> (first | with_reducible rfl | (simp; done) | (simp_all; done)))

@[simp] theorem State.steerTo_outer (s : State) (n : Nat) : (State.steerTo s n).outer = s.outer := State.still_outer (State.steerTo_still s n)

@[simp] theorem State.steerTo_kept (s : State) (n : Nat) : (State.steerTo s n).kept = s.kept := State.still_kept (State.steerTo_still s n)

@[simp] theorem State.steerTo_ram (s : State) (n : Nat) : (State.steerTo s n).ram = s.ram := State.still_ram (State.steerTo_still s n)

@[simp] theorem State.steer_still (s : State) : (State.steer s).still = s.still := by
  unfold State.steer; (try simp); all_goals ((repeat' split) <;> (first | with_reducible rfl | (simp; done) | (simp_all; done)))

@[simp] theorem State.steer_outer (s : State) : (State.steer s).outer = s.outer := State.still_outer (State.steer_still s)

@[simp] theorem State.steer_kept (s : State) : (State.steer s).kept = s.kept := State.still_kept (State.steer_still s)

@[simp] theorem State.steer_ram (s : State) : (State.steer s).ram = s.ram := State.still_ram (State.steer_still s)

@[simp] theorem State.switchDom_still (s : State) (b : Nat) (cause : Nat) : (State.switchDom s b cause).still = s.still := by
  unfold State.switchDom; (try simp); all_goals ((repeat' split) <;> (first | with_reducible rfl | (simp; done) | (simp_all; done)))

@[simp] theorem State.switchDom_outer (s : State) (b : Nat) (cause : Nat) : (State.switchDom s b cause).outer = s.outer := State.still_outer (State.switchDom_still s b cause)

@[simp] theorem State.switchDom_kept (s : State) (b : Nat) (cause : Nat) : (State.switchDom s b cause).kept = s.kept := State.still_kept (State.switchDom_still s b cause)

@[simp] theorem State.switchDom_ram (s : State) (b : Nat) (cause : Nat) : (State.switchDom s b cause).ram = s.ram := State.still_ram (State.switchDom_still s b cause)

@[simp] theorem State.domLock_still (s : State) (b : Nat) : (State.domLock s b).still = s.still := by
  unfold State.domLock; (try simp); all_goals ((repeat' split) <;> (first | with_reducible rfl | (simp; done) | (simp_all; done)))

@[simp] theorem State.domLock_outer (s : State) (b : Nat) : (State.domLock s b).outer = s.outer := State.still_outer (State.domLock_still s b)

@[simp] theorem State.domLock_kept (s : State) (b : Nat) : (State.domLock s b).kept = s.kept := State.still_kept (State.domLock_still s b)

@[simp] theorem State.domLock_ram (s : State) (b : Nat) : (State.domLock s b).ram = s.ram := State.still_ram (State.domLock_still s b)

@[simp] theorem State.domUnlock_still (s : State) (b : Nat) : (State.domUnlock s b).still = s.still := by
  unfold State.domUnlock; (try simp); all_goals ((repeat' split) <;> (first | with_reducible rfl | (simp; done) | (simp_all; done)))

@[simp] theorem State.domUnlock_outer (s : State) (b : Nat) : (State.domUnlock s b).outer = s.outer := State.still_outer (State.domUnlock_still s b)

@[simp] theorem State.domUnlock_kept (s : State) (b : Nat) : (State.domUnlock s b).kept = s.kept := State.still_kept (State.domUnlock_still s b)

@[simp] theorem State.domUnlock_ram (s : State) (b : Nat) : (State.domUnlock s b).ram = s.ram := State.still_ram (State.domUnlock_still s b)

@[simp] theorem State.domTo_still (s : State) (b : Nat) (new : Nat) : (State.domTo s b new).still = s.still := by
  unfold State.domTo; (try simp); all_goals ((repeat' split) <;> (first | with_reducible rfl | (simp; done) | (simp_all; done)))

@[simp] theorem State.domTo_outer (s : State) (b : Nat) (new : Nat) : (State.domTo s b new).outer = s.outer := State.still_outer (State.domTo_still s b new)

@[simp] theorem State.domTo_kept (s : State) (b : Nat) (new : Nat) : (State.domTo s b new).kept = s.kept := State.still_kept (State.domTo_still s b new)

@[simp] theorem State.domTo_ram (s : State) (b : Nat) (new : Nat) : (State.domTo s b new).ram = s.ram := State.still_ram (State.domTo_still s b new)

@[simp] theorem State.domainEnable_still (s : State) (b : Nat) (v : Nat) : (State.domainEnable s b v).still = s.still := by
  unfold State.domainEnable; (try simp); all_goals ((repeat' split) <;> (first | with_reducible rfl | (simp; done) | (simp_all; done)))

@[simp] theorem State.domainEnable_outer (s : State) (b : Nat) (v : Nat) : (State.domainEnable s b v).outer = s.outer := State.still_outer (State.domainEnable_still s b v)

@[simp] theorem State.domainEnable_kept (s : State) (b : Nat) (v : Nat) : (State.domainEnable s b v).kept = s.kept := State.still_kept (State.domainEnable_still s b v)

@[simp] theorem State.domainEnable_ram (s : State) (b : Nat) (v : Nat) : (State.domainEnable s b v).ram = s.ram := State.still_ram (State.domainEnable_still s b v)

@[simp] theorem State.askDelay_still (s : State) (b : Nat) (fn : Nat) (origin : Int) (ingress : Nat) : (State.askDelay s b fn origin ingress).still = s.still := by
  unfold State.askDelay; (try simp); all_goals ((repeat' split) <;> (first | with_reducible rfl | (simp; done) | (simp_all; done)))

@[simp] theorem State.askDelay_outer (s : State) (b : Nat) (fn : Nat) (origin : Int) (ingress : Nat) : (State.askDelay s b fn origin ingress).outer = s.outer := State.still_outer (State.askDelay_still s b fn origin ingress)

@[simp] theorem State.askDelay_kept (s : State) (b : Nat) (fn : Nat) (origin : Int) (ingress : Nat) : (State.askDelay s b fn origin ingress).kept = s.kept := State.still_kept (State.askDelay_still s b fn origin ingress)

@[simp] theorem State.askDelay_ram (s : State) (b : Nat) (fn : Nat) (origin : Int) (ingress : Nat) : (State.askDelay s b fn origin ingress).ram = s.ram := State.still_ram (State.askDelay_still s b fn origin ingress)

@[simp] theorem State.residual_still (s : State) (b : Nat) (r : Int) : (State.residual s b r).still = s.still := by
  unfold State.residual; (try simp); all_goals ((repeat' split) <;> (first | with_reducible rfl | (simp; done) | (simp_all; done)))

@[simp] theorem State.residual_outer (s : State) (b : Nat) (r : Int) : (State.residual s b r).outer = s.outer := State.still_outer (State.residual_still s b r)

@[simp] theorem State.residual_kept (s : State) (b : Nat) (r : Int) : (State.residual s b r).kept = s.kept := State.still_kept (State.residual_still s b r)

@[simp] theorem State.residual_ram (s : State) (b : Nat) (r : Int) : (State.residual s b r).ram = s.ram := State.still_ram (State.residual_still s b r)

@[simp] theorem State.measureDom_still (s : State) (b : Nat) (origin : Int) (ingress : Nat) : (State.measureDom s b origin ingress).still = s.still := by
  unfold State.measureDom; (try simp); all_goals ((repeat' split) <;> (first | with_reducible rfl | (simp; done) | (simp_all; done)))

@[simp] theorem State.measureDom_outer (s : State) (b : Nat) (origin : Int) (ingress : Nat) : (State.measureDom s b origin ingress).outer = s.outer := State.still_outer (State.measureDom_still s b origin ingress)

@[simp] theorem State.measureDom_kept (s : State) (b : Nat) (origin : Int) (ingress : Nat) : (State.measureDom s b origin ingress).kept = s.kept := State.still_kept (State.measureDom_still s b origin ingress)

@[simp] theorem State.measureDom_ram (s : State) (b : Nat) (origin : Int) (ingress : Nat) : (State.measureDom s b origin ingress).ram = s.ram := State.still_ram (State.measureDom_still s b origin ingress)

@[simp] theorem State.ptpSync_still (s : State) (domain : Nat) (transport : Nat) (fn : Nat) (src : Nat) (seq : Nat) (corr : Nat) (twoStep : Bool) (logInterval : Nat) (origin : Nat) : (State.ptpSync s domain transport fn src seq corr twoStep logInterval origin).still = s.still := by
  unfold State.ptpSync; (try simp); all_goals ((repeat' split) <;> (first | with_reducible rfl | (simp; done) | (simp_all; done)))

@[simp] theorem State.ptpSync_outer (s : State) (domain : Nat) (transport : Nat) (fn : Nat) (src : Nat) (seq : Nat) (corr : Nat) (twoStep : Bool) (logInterval : Nat) (origin : Nat) : (State.ptpSync s domain transport fn src seq corr twoStep logInterval origin).outer = s.outer := State.still_outer (State.ptpSync_still s domain transport fn src seq corr twoStep logInterval origin)

@[simp] theorem State.ptpSync_kept (s : State) (domain : Nat) (transport : Nat) (fn : Nat) (src : Nat) (seq : Nat) (corr : Nat) (twoStep : Bool) (logInterval : Nat) (origin : Nat) : (State.ptpSync s domain transport fn src seq corr twoStep logInterval origin).kept = s.kept := State.still_kept (State.ptpSync_still s domain transport fn src seq corr twoStep logInterval origin)

@[simp] theorem State.ptpSync_ram (s : State) (domain : Nat) (transport : Nat) (fn : Nat) (src : Nat) (seq : Nat) (corr : Nat) (twoStep : Bool) (logInterval : Nat) (origin : Nat) : (State.ptpSync s domain transport fn src seq corr twoStep logInterval origin).ram = s.ram := State.still_ram (State.ptpSync_still s domain transport fn src seq corr twoStep logInterval origin)

@[simp] theorem State.followUp_still (s : State) (domain : Nat) (transport : Nat) (fn : Nat) (src : Nat) (seq : Nat) (corr : Nat) (origin : Nat) : (State.followUp s domain transport fn src seq corr origin).still = s.still := by
  unfold State.followUp; (try simp); all_goals ((repeat' split) <;> (first | with_reducible rfl | (simp; done) | (simp_all; done)))

@[simp] theorem State.followUp_outer (s : State) (domain : Nat) (transport : Nat) (fn : Nat) (src : Nat) (seq : Nat) (corr : Nat) (origin : Nat) : (State.followUp s domain transport fn src seq corr origin).outer = s.outer := State.still_outer (State.followUp_still s domain transport fn src seq corr origin)

@[simp] theorem State.followUp_kept (s : State) (domain : Nat) (transport : Nat) (fn : Nat) (src : Nat) (seq : Nat) (corr : Nat) (origin : Nat) : (State.followUp s domain transport fn src seq corr origin).kept = s.kept := State.still_kept (State.followUp_still s domain transport fn src seq corr origin)

@[simp] theorem State.followUp_ram (s : State) (domain : Nat) (transport : Nat) (fn : Nat) (src : Nat) (seq : Nat) (corr : Nat) (origin : Nat) : (State.followUp s domain transport fn src seq corr origin).ram = s.ram := State.still_ram (State.followUp_still s domain transport fn src seq corr origin)

@[simp] theorem State.delayResp_still (s : State) (domain : Nat) (transport : Nat) (fn : Nat) (src : Nat) (seq : Nat) (corr : Nat) (rx : Nat) : (State.delayResp s domain transport fn src seq corr rx).still = s.still := by
  unfold State.delayResp; (try simp); all_goals ((repeat' split) <;> (first | with_reducible rfl | (simp; done) | (simp_all; done)))

@[simp] theorem State.delayResp_outer (s : State) (domain : Nat) (transport : Nat) (fn : Nat) (src : Nat) (seq : Nat) (corr : Nat) (rx : Nat) : (State.delayResp s domain transport fn src seq corr rx).outer = s.outer := State.still_outer (State.delayResp_still s domain transport fn src seq corr rx)

@[simp] theorem State.delayResp_kept (s : State) (domain : Nat) (transport : Nat) (fn : Nat) (src : Nat) (seq : Nat) (corr : Nat) (rx : Nat) : (State.delayResp s domain transport fn src seq corr rx).kept = s.kept := State.still_kept (State.delayResp_still s domain transport fn src seq corr rx)

@[simp] theorem State.delayResp_ram (s : State) (domain : Nat) (transport : Nat) (fn : Nat) (src : Nat) (seq : Nat) (corr : Nat) (rx : Nat) : (State.delayResp s domain transport fn src seq corr rx).ram = s.ram := State.still_ram (State.delayResp_still s domain transport fn src seq corr rx)

@[simp] theorem State.pdelayAsked_still (s : State) (domain : Nat) (transport : Nat) (fn : Nat) (src : Nat) (seq : Nat) (corr : Nat) : (State.pdelayAsked s domain transport fn src seq corr).still = s.still := by
  unfold State.pdelayAsked; (try simp); all_goals ((repeat' split) <;> (first | with_reducible rfl | (simp; done) | (simp_all; done)))

@[simp] theorem State.pdelayAsked_outer (s : State) (domain : Nat) (transport : Nat) (fn : Nat) (src : Nat) (seq : Nat) (corr : Nat) : (State.pdelayAsked s domain transport fn src seq corr).outer = s.outer := State.still_outer (State.pdelayAsked_still s domain transport fn src seq corr)

@[simp] theorem State.pdelayAsked_kept (s : State) (domain : Nat) (transport : Nat) (fn : Nat) (src : Nat) (seq : Nat) (corr : Nat) : (State.pdelayAsked s domain transport fn src seq corr).kept = s.kept := State.still_kept (State.pdelayAsked_still s domain transport fn src seq corr)

@[simp] theorem State.pdelayAsked_ram (s : State) (domain : Nat) (transport : Nat) (fn : Nat) (src : Nat) (seq : Nat) (corr : Nat) : (State.pdelayAsked s domain transport fn src seq corr).ram = s.ram := State.still_ram (State.pdelayAsked_still s domain transport fn src seq corr)

@[simp] theorem State.pdelayResp_still (s : State) (domain : Nat) (transport : Nat) (fn : Nat) (seq : Nat) (corr : Nat) (rx : Nat) (tx : Nat) : (State.pdelayResp s domain transport fn seq corr rx tx).still = s.still := by
  unfold State.pdelayResp; (try simp); all_goals ((repeat' split) <;> (first | with_reducible rfl | (simp; done) | (simp_all; done)))

@[simp] theorem State.pdelayResp_outer (s : State) (domain : Nat) (transport : Nat) (fn : Nat) (seq : Nat) (corr : Nat) (rx : Nat) (tx : Nat) : (State.pdelayResp s domain transport fn seq corr rx tx).outer = s.outer := State.still_outer (State.pdelayResp_still s domain transport fn seq corr rx tx)

@[simp] theorem State.pdelayResp_kept (s : State) (domain : Nat) (transport : Nat) (fn : Nat) (seq : Nat) (corr : Nat) (rx : Nat) (tx : Nat) : (State.pdelayResp s domain transport fn seq corr rx tx).kept = s.kept := State.still_kept (State.pdelayResp_still s domain transport fn seq corr rx tx)

@[simp] theorem State.pdelayResp_ram (s : State) (domain : Nat) (transport : Nat) (fn : Nat) (seq : Nat) (corr : Nat) (rx : Nat) (tx : Nat) : (State.pdelayResp s domain transport fn seq corr rx tx).ram = s.ram := State.still_ram (State.pdelayResp_still s domain transport fn seq corr rx tx)

@[simp] theorem State.qualitySwitch_still (s : State) (b : Nat) : (State.qualitySwitch s b).still = s.still := by
  unfold State.qualitySwitch; (try simp); all_goals ((repeat' split) <;> (first | with_reducible rfl | (simp; done) | (simp_all; done)))

@[simp] theorem State.qualitySwitch_outer (s : State) (b : Nat) : (State.qualitySwitch s b).outer = s.outer := State.still_outer (State.qualitySwitch_still s b)

@[simp] theorem State.qualitySwitch_kept (s : State) (b : Nat) : (State.qualitySwitch s b).kept = s.kept := State.still_kept (State.qualitySwitch_still s b)

@[simp] theorem State.qualitySwitch_ram (s : State) (b : Nat) : (State.qualitySwitch s b).ram = s.ram := State.still_ram (State.qualitySwitch_still s b)

@[simp] theorem State.announced_still (s : State) (domain : Nat) (transport : Nat) (c : Cand) : (State.announced s domain transport c).still = s.still := by
  unfold State.announced; (try simp); all_goals ((repeat' split) <;> (first | with_reducible rfl | (simp; done) | (simp_all; done)))

@[simp] theorem State.announced_outer (s : State) (domain : Nat) (transport : Nat) (c : Cand) : (State.announced s domain transport c).outer = s.outer := State.still_outer (State.announced_still s domain transport c)

@[simp] theorem State.announced_kept (s : State) (domain : Nat) (transport : Nat) (c : Cand) : (State.announced s domain transport c).kept = s.kept := State.still_kept (State.announced_still s domain transport c)

@[simp] theorem State.announced_ram (s : State) (domain : Nat) (transport : Nat) (c : Cand) : (State.announced s domain transport c).ram = s.ram := State.still_ram (State.announced_still s domain transport c)

@[simp] theorem State.syncLost_still (s : State) (b : Nat) : (State.syncLost s b).still = s.still := by
  unfold State.syncLost; (try simp); all_goals ((repeat' split) <;> (first | with_reducible rfl | (simp; done) | (simp_all; done)))

@[simp] theorem State.syncLost_outer (s : State) (b : Nat) : (State.syncLost s b).outer = s.outer := State.still_outer (State.syncLost_still s b)

@[simp] theorem State.syncLost_kept (s : State) (b : Nat) : (State.syncLost s b).kept = s.kept := State.still_kept (State.syncLost_still s b)

@[simp] theorem State.syncLost_ram (s : State) (b : Nat) : (State.syncLost s b).ram = s.ram := State.still_ram (State.syncLost_still s b)

@[simp] theorem State.timeSource_still (s : State) (v : Nat) : (State.timeSource s v).still = s.still := by
  unfold State.timeSource; (try simp); all_goals ((repeat' split) <;> (first | with_reducible rfl | (simp; done) | (simp_all; done)))

@[simp] theorem State.timeSource_outer (s : State) (v : Nat) : (State.timeSource s v).outer = s.outer := State.still_outer (State.timeSource_still s v)

@[simp] theorem State.timeSource_kept (s : State) (v : Nat) : (State.timeSource s v).kept = s.kept := State.still_kept (State.timeSource_still s v)

@[simp] theorem State.timeSource_ram (s : State) (v : Nat) : (State.timeSource s v).ram = s.ram := State.still_ram (State.timeSource_still s v)

@[simp] theorem State.ptpForward_still (s : State) (fn : Nat) (transport : Nat) (m : Bytes) (residence : Nat) : (State.ptpForward s fn transport m residence).still = s.still := by
  unfold State.ptpForward; (try simp); all_goals ((repeat' split) <;> (first | with_reducible rfl | (simp; done) | (simp_all; done)))

@[simp] theorem State.ptpForward_outer (s : State) (fn : Nat) (transport : Nat) (m : Bytes) (residence : Nat) : (State.ptpForward s fn transport m residence).outer = s.outer := State.still_outer (State.ptpForward_still s fn transport m residence)

@[simp] theorem State.ptpForward_kept (s : State) (fn : Nat) (transport : Nat) (m : Bytes) (residence : Nat) : (State.ptpForward s fn transport m residence).kept = s.kept := State.still_kept (State.ptpForward_still s fn transport m residence)

@[simp] theorem State.ptpForward_ram (s : State) (fn : Nat) (transport : Nat) (m : Bytes) (residence : Nat) : (State.ptpForward s fn transport m residence).ram = s.ram := State.still_ram (State.ptpForward_still s fn transport m residence)

@[simp] theorem State.setTrig_still (s : State) (t : Nat) (x : Trig) : (State.setTrig s t x).still = s.still := by
  unfold State.setTrig; (try simp); all_goals ((repeat' split) <;> (first | with_reducible rfl | (simp; done) | (simp_all; done)))

@[simp] theorem State.setTrig_outer (s : State) (t : Nat) (x : Trig) : (State.setTrig s t x).outer = s.outer := State.still_outer (State.setTrig_still s t x)

@[simp] theorem State.setTrig_kept (s : State) (t : Nat) (x : Trig) : (State.setTrig s t x).kept = s.kept := State.still_kept (State.setTrig_still s t x)

@[simp] theorem State.setTrig_ram (s : State) (t : Nat) (x : Trig) : (State.setTrig s t x).ram = s.ram := State.still_ram (State.setTrig_still s t x)

@[simp] theorem State.triggerArm_still (s : State) (t : Nat) : (State.triggerArm s t).1.still = s.still := by
  unfold State.triggerArm; (try simp); all_goals ((repeat' split) <;> (first | with_reducible rfl | (simp; done) | (simp_all; done)))

@[simp] theorem State.triggerArm_outer (s : State) (t : Nat) : (State.triggerArm s t).1.outer = s.outer := State.still_outer (State.triggerArm_still s t)

@[simp] theorem State.triggerArm_kept (s : State) (t : Nat) : (State.triggerArm s t).1.kept = s.kept := State.still_kept (State.triggerArm_still s t)

@[simp] theorem State.triggerArm_ram (s : State) (t : Nat) : (State.triggerArm s t).1.ram = s.ram := State.still_ram (State.triggerArm_still s t)

@[simp] theorem State.triggerDisarm_still (s : State) (t : Nat) : (State.triggerDisarm s t).1.still = s.still := by
  unfold State.triggerDisarm; (try simp); all_goals ((repeat' split) <;> (first | with_reducible rfl | (simp; done) | (simp_all; done)))

@[simp] theorem State.triggerDisarm_outer (s : State) (t : Nat) : (State.triggerDisarm s t).1.outer = s.outer := State.still_outer (State.triggerDisarm_still s t)

@[simp] theorem State.triggerDisarm_kept (s : State) (t : Nat) : (State.triggerDisarm s t).1.kept = s.kept := State.still_kept (State.triggerDisarm_still s t)

@[simp] theorem State.triggerDisarm_ram (s : State) (t : Nat) : (State.triggerDisarm s t).1.ram = s.ram := State.still_ram (State.triggerDisarm_still s t)

@[simp] theorem State.triggerEdge_still (s : State) (t : Nat) : (State.triggerEdge s t).still = s.still := by
  unfold State.triggerEdge; (try simp); all_goals ((repeat' split) <;> (first | with_reducible rfl | (simp; done) | (simp_all; done)))

@[simp] theorem State.triggerEdge_outer (s : State) (t : Nat) : (State.triggerEdge s t).outer = s.outer := State.still_outer (State.triggerEdge_still s t)

@[simp] theorem State.triggerEdge_kept (s : State) (t : Nat) : (State.triggerEdge s t).kept = s.kept := State.still_kept (State.triggerEdge_still s t)

@[simp] theorem State.triggerEdge_ram (s : State) (t : Nat) : (State.triggerEdge s t).ram = s.ram := State.still_ram (State.triggerEdge_still s t)

@[simp] theorem State.triggerPulseEnd_still (s : State) (t : Nat) : (State.triggerPulseEnd s t).still = s.still := by
  unfold State.triggerPulseEnd; (try simp); all_goals ((repeat' split) <;> (first | with_reducible rfl | (simp; done) | (simp_all; done)))

@[simp] theorem State.triggerPulseEnd_outer (s : State) (t : Nat) : (State.triggerPulseEnd s t).outer = s.outer := State.still_outer (State.triggerPulseEnd_still s t)

@[simp] theorem State.triggerPulseEnd_kept (s : State) (t : Nat) : (State.triggerPulseEnd s t).kept = s.kept := State.still_kept (State.triggerPulseEnd_still s t)

@[simp] theorem State.triggerPulseEnd_ram (s : State) (t : Nat) : (State.triggerPulseEnd s t).ram = s.ram := State.still_ram (State.triggerPulseEnd_still s t)

@[simp] theorem State.rebaseTriggers_still (s : State) : (State.rebaseTriggers s).still = s.still := by
  unfold State.rebaseTriggers; (try simp); all_goals ((repeat' split) <;> (first | with_reducible rfl | (simp; done) | (simp_all; done)))

@[simp] theorem State.rebaseTriggers_outer (s : State) : (State.rebaseTriggers s).outer = s.outer := State.still_outer (State.rebaseTriggers_still s)

@[simp] theorem State.rebaseTriggers_kept (s : State) : (State.rebaseTriggers s).kept = s.kept := State.still_kept (State.rebaseTriggers_still s)

@[simp] theorem State.rebaseTriggers_ram (s : State) : (State.rebaseTriggers s).ram = s.ram := State.still_ram (State.rebaseTriggers_still s)

@[simp] theorem State.rebaseTo_still (s0 : State) (epoch : Nat) (a : Int) : (State.rebaseTo s0 epoch a).still = s0.still := by
  unfold State.rebaseTo; (try simp); all_goals ((repeat' split) <;> (first | with_reducible rfl | (simp; done) | (simp_all; done)))

@[simp] theorem State.rebaseTo_outer (s0 : State) (epoch : Nat) (a : Int) : (State.rebaseTo s0 epoch a).outer = s0.outer := State.still_outer (State.rebaseTo_still s0 epoch a)

@[simp] theorem State.rebaseTo_kept (s0 : State) (epoch : Nat) (a : Int) : (State.rebaseTo s0 epoch a).kept = s0.kept := State.still_kept (State.rebaseTo_still s0 epoch a)

@[simp] theorem State.rebaseTo_ram (s0 : State) (epoch : Nat) (a : Int) : (State.rebaseTo s0 epoch a).ram = s0.ram := State.still_ram (State.rebaseTo_still s0 epoch a)

@[simp] theorem State.rebaseStart_still (s : State) : (State.rebaseStart s).still = s.still := by
  unfold State.rebaseStart; (try simp); all_goals ((repeat' split) <;> (first | with_reducible rfl | (simp; done) | (simp_all; done)))

@[simp] theorem State.rebaseStart_outer (s : State) : (State.rebaseStart s).outer = s.outer := State.still_outer (State.rebaseStart_still s)

@[simp] theorem State.rebaseStart_kept (s : State) : (State.rebaseStart s).kept = s.kept := State.still_kept (State.rebaseStart_still s)

@[simp] theorem State.rebaseStart_ram (s : State) : (State.rebaseStart s).ram = s.ram := State.still_ram (State.rebaseStart_still s)

@[simp] theorem State.rebaseCommand_still (s : State) : (State.rebaseCommand s).1.still = s.still := by
  unfold State.rebaseCommand; (try simp); all_goals ((repeat' split) <;> (first | with_reducible rfl | (simp; done) | (simp_all; done)))

@[simp] theorem State.rebaseCommand_outer (s : State) : (State.rebaseCommand s).1.outer = s.outer := State.still_outer (State.rebaseCommand_still s)

@[simp] theorem State.rebaseCommand_kept (s : State) : (State.rebaseCommand s).1.kept = s.kept := State.still_kept (State.rebaseCommand_still s)

@[simp] theorem State.rebaseCommand_ram (s : State) : (State.rebaseCommand s).1.ram = s.ram := State.still_ram (State.rebaseCommand_still s)

@[simp] theorem State.initialRebase_still (s : State) : (State.initialRebase s).still = s.still := by
  unfold State.initialRebase; (try simp); all_goals ((repeat' split) <;> (first | with_reducible rfl | (simp; done) | (simp_all; done)))

@[simp] theorem State.initialRebase_outer (s : State) : (State.initialRebase s).outer = s.outer := State.still_outer (State.initialRebase_still s)

@[simp] theorem State.initialRebase_kept (s : State) : (State.initialRebase s).kept = s.kept := State.still_kept (State.initialRebase_still s)

@[simp] theorem State.initialRebase_ram (s : State) : (State.initialRebase s).ram = s.ram := State.still_ram (State.initialRebase_still s)

@[simp] theorem State.captureEdge_still (s : State) (c : Nat) (rising : Bool) : (State.captureEdge s c rising).still = s.still := by
  unfold State.captureEdge; (try simp); all_goals ((repeat' split) <;> (first | with_reducible rfl | (simp; done) | (simp_all; done)))

@[simp] theorem State.captureEdge_outer (s : State) (c : Nat) (rising : Bool) : (State.captureEdge s c rising).outer = s.outer := State.still_outer (State.captureEdge_still s c rising)

@[simp] theorem State.captureEdge_kept (s : State) (c : Nat) (rising : Bool) : (State.captureEdge s c rising).kept = s.kept := State.still_kept (State.captureEdge_still s c rising)

@[simp] theorem State.captureEdge_ram (s : State) (c : Nat) (rising : Bool) : (State.captureEdge s c rising).ram = s.ram := State.still_ram (State.captureEdge_still s c rising)

end Sys2Proof.Machine
end

