-- ==== Sys2Proof/Laws/OuterBoard.lean ====
section
/-! SUPPORT. What the operations of Machine/Board.lean leave alone: the queue, the idle time, the clock and the boot record (`outer`); flash, settings copies, update service and recovery (`kept`); the bytes of DRAM and staging (`ram`). -/

namespace Sys2Proof.Machine

@[simp] theorem State.forward_still (s : State) (k : Nat) (hops : Nat) (lanes : List Nat) (b : Bytes) : (State.forward s k hops lanes b).still = s.still := by
  unfold State.forward; (try simp); all_goals ((repeat' split) <;> (first | with_reducible rfl | (simp; done) | (simp_all; done)))

@[simp] theorem State.forward_outer (s : State) (k : Nat) (hops : Nat) (lanes : List Nat) (b : Bytes) : (State.forward s k hops lanes b).outer = s.outer := State.still_outer (State.forward_still s k hops lanes b)

@[simp] theorem State.forward_kept (s : State) (k : Nat) (hops : Nat) (lanes : List Nat) (b : Bytes) : (State.forward s k hops lanes b).kept = s.kept := State.still_kept (State.forward_still s k hops lanes b)

@[simp] theorem State.forward_ram (s : State) (k : Nat) (hops : Nat) (lanes : List Nat) (b : Bytes) : (State.forward s k hops lanes b).ram = s.ram := State.still_ram (State.forward_still s k hops lanes b)

@[simp] theorem State.sentNow_still (s : State) (i : Nat) : (State.sentNow s i).still = s.still := by
  unfold State.sentNow; (try simp); all_goals ((repeat' split) <;> (first | with_reducible rfl | (simp; done) | (simp_all; done)))

@[simp] theorem State.sentNow_outer (s : State) (i : Nat) : (State.sentNow s i).outer = s.outer := State.still_outer (State.sentNow_still s i)

@[simp] theorem State.sentNow_kept (s : State) (i : Nat) : (State.sentNow s i).kept = s.kept := State.still_kept (State.sentNow_still s i)

@[simp] theorem State.sentNow_ram (s : State) (i : Nat) : (State.sentNow s i).ram = s.ram := State.still_ram (State.sentNow_still s i)

@[simp] theorem State.boardLock_still (s : State) (sev : Nat) (cause : Nat) : (State.boardLock s sev cause).still = s.still := by
  unfold State.boardLock; (try simp); all_goals ((repeat' split) <;> (first | with_reducible rfl | (simp; done) | (simp_all; done)))

@[simp] theorem State.boardLock_outer (s : State) (sev : Nat) (cause : Nat) : (State.boardLock s sev cause).outer = s.outer := State.still_outer (State.boardLock_still s sev cause)

@[simp] theorem State.boardLock_kept (s : State) (sev : Nat) (cause : Nat) : (State.boardLock s sev cause).kept = s.kept := State.still_kept (State.boardLock_still s sev cause)

@[simp] theorem State.boardLock_ram (s : State) (sev : Nat) (cause : Nat) : (State.boardLock s sev cause).ram = s.ram := State.still_ram (State.boardLock_still s sev cause)

@[simp] theorem State.peerCause_still (s : State) : (State.peerCause s).still = s.still := by
  unfold State.peerCause; (try simp); all_goals ((repeat' split) <;> (first | with_reducible rfl | (simp; done) | (simp_all; done)))

@[simp] theorem State.peerCause_outer (s : State) : (State.peerCause s).outer = s.outer := State.still_outer (State.peerCause_still s)

@[simp] theorem State.peerCause_kept (s : State) : (State.peerCause s).kept = s.kept := State.still_kept (State.peerCause_still s)

@[simp] theorem State.peerCause_ram (s : State) : (State.peerCause s).ram = s.ram := State.still_ram (State.peerCause_still s)

@[simp] theorem State.peerFault_still (s : State) (d : Nat) (missing : Bool) : (State.peerFault s d missing).still = s.still := by
  unfold State.peerFault; (try simp); all_goals ((repeat' split) <;> (first | with_reducible rfl | (simp; done) | (simp_all; done)))

@[simp] theorem State.peerFault_outer (s : State) (d : Nat) (missing : Bool) : (State.peerFault s d missing).outer = s.outer := State.still_outer (State.peerFault_still s d missing)

@[simp] theorem State.peerFault_kept (s : State) (d : Nat) (missing : Bool) : (State.peerFault s d missing).kept = s.kept := State.still_kept (State.peerFault_still s d missing)

@[simp] theorem State.peerFault_ram (s : State) (d : Nat) (missing : Bool) : (State.peerFault s d missing).ram = s.ram := State.still_ram (State.peerFault_still s d missing)

@[simp] theorem State.surgentNow_still (s : State) : (State.surgentNow s).still = s.still := by
  unfold State.surgentNow; (try simp); all_goals ((repeat' split) <;> (first | with_reducible rfl | (simp; done) | (simp_all; done)))

@[simp] theorem State.surgentNow_outer (s : State) : (State.surgentNow s).outer = s.outer := State.still_outer (State.surgentNow_still s)

@[simp] theorem State.surgentNow_kept (s : State) : (State.surgentNow s).kept = s.kept := State.still_kept (State.surgentNow_still s)

@[simp] theorem State.surgentNow_ram (s : State) : (State.surgentNow s).ram = s.ram := State.still_ram (State.surgentNow_still s)

@[simp] theorem State.surgentSend_still (s : State) : (State.surgentSend s).still = s.still := by
  unfold State.surgentSend; (try simp); all_goals ((repeat' split) <;> (first | with_reducible rfl | (simp; done) | (simp_all; done)))

@[simp] theorem State.surgentSend_outer (s : State) : (State.surgentSend s).outer = s.outer := State.still_outer (State.surgentSend_still s)

@[simp] theorem State.surgentSend_kept (s : State) : (State.surgentSend s).kept = s.kept := State.still_kept (State.surgentSend_still s)

@[simp] theorem State.surgentSend_ram (s : State) : (State.surgentSend s).ram = s.ram := State.still_ram (State.surgentSend_still s)

@[simp] theorem State.surgent_still (s : State) (k : Nat) (d : Nat) (hops : Nat) (safe : Bool) : (State.surgent s k d hops safe).still = s.still := by
  unfold State.surgent; (try simp); all_goals ((repeat' split) <;> (first | with_reducible rfl | (simp; done) | (simp_all; done)))

@[simp] theorem State.surgent_outer (s : State) (k : Nat) (d : Nat) (hops : Nat) (safe : Bool) : (State.surgent s k d hops safe).outer = s.outer := State.still_outer (State.surgent_still s k d hops safe)

@[simp] theorem State.surgent_kept (s : State) (k : Nat) (d : Nat) (hops : Nat) (safe : Bool) : (State.surgent s k d hops safe).kept = s.kept := State.still_kept (State.surgent_still s k d hops safe)

@[simp] theorem State.surgent_ram (s : State) (k : Nat) (d : Nat) (hops : Nat) (safe : Bool) : (State.surgent s k d hops safe).ram = s.ram := State.still_ram (State.surgent_still s k d hops safe)

@[simp] theorem State.missingMember_still (s : State) (d : Nat) : (State.missingMember s d).still = s.still := by
  unfold State.missingMember; (try simp); all_goals ((repeat' split) <;> (first | with_reducible rfl | (simp; done) | (simp_all; done)))

@[simp] theorem State.missingMember_outer (s : State) (d : Nat) : (State.missingMember s d).outer = s.outer := State.still_outer (State.missingMember_still s d)

@[simp] theorem State.missingMember_kept (s : State) (d : Nat) : (State.missingMember s d).kept = s.kept := State.still_kept (State.missingMember_still s d)

@[simp] theorem State.missingMember_ram (s : State) (d : Nat) : (State.missingMember s d).ram = s.ram := State.still_ram (State.missingMember_still s d)

@[simp] theorem State.missingFault_still (s : State) (v : Nat) : (State.missingFault s v).still = s.still := by
  unfold State.missingFault; (try simp); all_goals ((repeat' split) <;> (first | with_reducible rfl | (simp; done) | (simp_all; done)))

@[simp] theorem State.missingFault_outer (s : State) (v : Nat) : (State.missingFault s v).outer = s.outer := State.still_outer (State.missingFault_still s v)

@[simp] theorem State.missingFault_kept (s : State) (v : Nat) : (State.missingFault s v).kept = s.kept := State.still_kept (State.missingFault_still s v)

@[simp] theorem State.missingFault_ram (s : State) (v : Nat) : (State.missingFault s v).ram = s.ram := State.still_ram (State.missingFault_still s v)

@[simp] theorem State.stimeSend_still (s : State) : (State.stimeSend s).still = s.still := by
  unfold State.stimeSend; (try simp); all_goals ((repeat' split) <;> (first | with_reducible rfl | (simp; done) | (simp_all; done)))

@[simp] theorem State.stimeSend_outer (s : State) : (State.stimeSend s).outer = s.outer := State.still_outer (State.stimeSend_still s)

@[simp] theorem State.stimeSend_kept (s : State) : (State.stimeSend s).kept = s.kept := State.still_kept (State.stimeSend_still s)

@[simp] theorem State.stimeSend_ram (s : State) : (State.stimeSend s).ram = s.ram := State.still_ram (State.stimeSend_still s)

@[simp] theorem State.stimeLock_still (s : State) (m : Int) : (State.stimeLock s m).still = s.still := by
  unfold State.stimeLock; (try simp); all_goals ((repeat' split) <;> (first | with_reducible rfl | (simp; done) | (simp_all; done)))

@[simp] theorem State.stimeLock_outer (s : State) (m : Int) : (State.stimeLock s m).outer = s.outer := State.still_outer (State.stimeLock_still s m)

@[simp] theorem State.stimeLock_kept (s : State) (m : Int) : (State.stimeLock s m).kept = s.kept := State.still_kept (State.stimeLock_still s m)

@[simp] theorem State.stimeLock_ram (s : State) (m : Int) : (State.stimeLock s m).ram = s.ram := State.still_ram (State.stimeLock_still s m)

@[simp] theorem State.stimeIn_still (s : State) (k : Nat) (d : Nat) (hops : Nat) (at_ : Nat) : (State.stimeIn s k d hops at_).still = s.still := by
  unfold State.stimeIn; (try simp); all_goals ((repeat' split) <;> (first | with_reducible rfl | (simp; done) | (simp_all; done)))

@[simp] theorem State.stimeIn_outer (s : State) (k : Nat) (d : Nat) (hops : Nat) (at_ : Nat) : (State.stimeIn s k d hops at_).outer = s.outer := State.still_outer (State.stimeIn_still s k d hops at_)

@[simp] theorem State.stimeIn_kept (s : State) (k : Nat) (d : Nat) (hops : Nat) (at_ : Nat) : (State.stimeIn s k d hops at_).kept = s.kept := State.still_kept (State.stimeIn_still s k d hops at_)

@[simp] theorem State.stimeIn_ram (s : State) (k : Nat) (d : Nat) (hops : Nat) (at_ : Nat) : (State.stimeIn s k d hops at_).ram = s.ram := State.still_ram (State.stimeIn_still s k d hops at_)

@[simp] theorem State.stimeLoss_still (s : State) : (State.stimeLoss s).still = s.still := by
  unfold State.stimeLoss; (try simp); all_goals ((repeat' split) <;> (first | with_reducible rfl | (simp; done) | (simp_all; done)))

@[simp] theorem State.stimeLoss_outer (s : State) : (State.stimeLoss s).outer = s.outer := State.still_outer (State.stimeLoss_still s)

@[simp] theorem State.stimeLoss_kept (s : State) : (State.stimeLoss s).kept = s.kept := State.still_kept (State.stimeLoss_still s)

@[simp] theorem State.stimeLoss_ram (s : State) : (State.stimeLoss s).ram = s.ram := State.still_ram (State.stimeLoss_still s)

@[simp] theorem State.rebaseIn_still (s : State) (d : Nat) (b : Bytes) : (State.rebaseIn s d b).still = s.still := by
  unfold State.rebaseIn; (try simp); all_goals ((repeat' split) <;> (first | with_reducible rfl | (simp; done) | (simp_all; done)))

@[simp] theorem State.rebaseIn_outer (s : State) (d : Nat) (b : Bytes) : (State.rebaseIn s d b).outer = s.outer := State.still_outer (State.rebaseIn_still s d b)

@[simp] theorem State.rebaseIn_kept (s : State) (d : Nat) (b : Bytes) : (State.rebaseIn s d b).kept = s.kept := State.still_kept (State.rebaseIn_still s d b)

@[simp] theorem State.rebaseIn_ram (s : State) (d : Nat) (b : Bytes) : (State.rebaseIn s d b).ram = s.ram := State.still_ram (State.rebaseIn_still s d b)

@[simp] theorem State.rebaseApply_still (s : State) : (State.rebaseApply s).still = s.still := by
  unfold State.rebaseApply; (repeat' split) <;> simp

@[simp] theorem State.rebaseApply_outer (s : State) : (State.rebaseApply s).outer = s.outer := State.still_outer (State.rebaseApply_still s)

@[simp] theorem State.rebaseApply_kept (s : State) : (State.rebaseApply s).kept = s.kept := State.still_kept (State.rebaseApply_still s)

@[simp] theorem State.rebaseApply_ram (s : State) : (State.rebaseApply s).ram = s.ram := State.still_ram (State.rebaseApply_still s)

@[simp] theorem State.sposSend_still (s : State) : (State.sposSend s).still = s.still := by
  unfold State.sposSend; (try simp); all_goals ((repeat' split) <;> (first | with_reducible rfl | (simp; done) | (simp_all; done)))

@[simp] theorem State.sposSend_outer (s : State) : (State.sposSend s).outer = s.outer := State.still_outer (State.sposSend_still s)

@[simp] theorem State.sposSend_kept (s : State) : (State.sposSend s).kept = s.kept := State.still_kept (State.sposSend_still s)

@[simp] theorem State.sposSend_ram (s : State) : (State.sposSend s).ram = s.ram := State.still_ram (State.sposSend_still s)

@[simp] theorem State.posFullSend_still (s : State) : (State.posFullSend s).still = s.still := by
  unfold State.posFullSend; (try simp); all_goals ((repeat' split) <;> (first | with_reducible rfl | (simp; done) | (simp_all; done)))

@[simp] theorem State.posFullSend_outer (s : State) : (State.posFullSend s).outer = s.outer := State.still_outer (State.posFullSend_still s)

@[simp] theorem State.posFullSend_kept (s : State) : (State.posFullSend s).kept = s.kept := State.still_kept (State.posFullSend_still s)

@[simp] theorem State.posFullSend_ram (s : State) : (State.posFullSend s).ram = s.ram := State.still_ram (State.posFullSend_still s)

@[simp] theorem State.posUnlock_still (s : State) (cause : Nat) : (State.posUnlock s cause).still = s.still := by
  unfold State.posUnlock; (try simp); all_goals ((repeat' split) <;> (first | with_reducible rfl | (simp; done) | (simp_all; done)))

@[simp] theorem State.posUnlock_outer (s : State) (cause : Nat) : (State.posUnlock s cause).outer = s.outer := State.still_outer (State.posUnlock_still s cause)

@[simp] theorem State.posUnlock_kept (s : State) (cause : Nat) : (State.posUnlock s cause).kept = s.kept := State.still_kept (State.posUnlock_still s cause)

@[simp] theorem State.posUnlock_ram (s : State) (cause : Nat) : (State.posUnlock s cause).ram = s.ram := State.still_ram (State.posUnlock_still s cause)

@[simp] theorem State.posLock_still (s : State) : (State.posLock s).still = s.still := by
  unfold State.posLock; (try simp); all_goals ((repeat' split) <;> (first | with_reducible rfl | (simp; done) | (simp_all; done)))

@[simp] theorem State.posLock_outer (s : State) : (State.posLock s).outer = s.outer := State.still_outer (State.posLock_still s)

@[simp] theorem State.posLock_kept (s : State) : (State.posLock s).kept = s.kept := State.still_kept (State.posLock_still s)

@[simp] theorem State.posLock_ram (s : State) : (State.posLock s).ram = s.ram := State.still_ram (State.posLock_still s)

@[simp] theorem State.sposIn_still (s : State) (k : Nat) (d : Nat) (hops : Nat) (valid : Bool) (count : Nat) (at_ : Nat) : (State.sposIn s k d hops valid count at_).still = s.still := by
  unfold State.sposIn; (try simp); all_goals ((repeat' split) <;> (first | with_reducible rfl | (simp; done) | (simp_all; done)))

@[simp] theorem State.sposIn_outer (s : State) (k : Nat) (d : Nat) (hops : Nat) (valid : Bool) (count : Nat) (at_ : Nat) : (State.sposIn s k d hops valid count at_).outer = s.outer := State.still_outer (State.sposIn_still s k d hops valid count at_)

@[simp] theorem State.sposIn_kept (s : State) (k : Nat) (d : Nat) (hops : Nat) (valid : Bool) (count : Nat) (at_ : Nat) : (State.sposIn s k d hops valid count at_).kept = s.kept := State.still_kept (State.sposIn_still s k d hops valid count at_)

@[simp] theorem State.sposIn_ram (s : State) (k : Nat) (d : Nat) (hops : Nat) (valid : Bool) (count : Nat) (at_ : Nat) : (State.sposIn s k d hops valid count at_).ram = s.ram := State.still_ram (State.sposIn_still s k d hops valid count at_)

@[simp] theorem State.sposGap_still (s : State) : (State.sposGap s).still = s.still := by
  unfold State.sposGap; (try simp); all_goals ((repeat' split) <;> (first | with_reducible rfl | (simp; done) | (simp_all; done)))

@[simp] theorem State.sposGap_outer (s : State) : (State.sposGap s).outer = s.outer := State.still_outer (State.sposGap_still s)

@[simp] theorem State.sposGap_kept (s : State) : (State.sposGap s).kept = s.kept := State.still_kept (State.sposGap_still s)

@[simp] theorem State.sposGap_ram (s : State) : (State.sposGap s).ram = s.ram := State.still_ram (State.sposGap_still s)

@[simp] theorem State.posFullIn_still (s : State) (d : Nat) (b : Bytes) : (State.posFullIn s d b).still = s.still := by
  unfold State.posFullIn; (try simp); all_goals ((repeat' split) <;> (first | with_reducible rfl | (simp; done) | (simp_all; done)))

@[simp] theorem State.posFullIn_outer (s : State) (d : Nat) (b : Bytes) : (State.posFullIn s d b).outer = s.outer := State.still_outer (State.posFullIn_still s d b)

@[simp] theorem State.posFullIn_kept (s : State) (d : Nat) (b : Bytes) : (State.posFullIn s d b).kept = s.kept := State.still_kept (State.posFullIn_still s d b)

@[simp] theorem State.posFullIn_ram (s : State) (d : Nat) (b : Bytes) : (State.posFullIn s d b).ram = s.ram := State.still_ram (State.posFullIn_still s d b)

@[simp] theorem State.smsgIn_outer (s : State) (k d hops kind lane seq target count : Nat) (body : Bytes) (good : Bool) (act : State → State)
    (ha : ∀ s, (act s).outer = s.outer) : (s.smsgIn k d hops kind lane seq target count body good act).outer = s.outer := by
  unfold State.smsgIn
  (repeat' split) <;> simp [ha]

@[simp] theorem State.smsgIn_kept (s : State) (k d hops kind lane seq target count : Nat) (body : Bytes) (good : Bool) (act : State → State)
    (ha : ∀ s, (act s).kept = s.kept) : (s.smsgIn k d hops kind lane seq target count body good act).kept = s.kept := by
  unfold State.smsgIn
  (repeat' split) <;> simp [ha]

@[simp] theorem State.smsgIn_ram (s : State) (k d hops kind lane seq target count : Nat) (body : Bytes) (good : Bool) (act : State → State)
    (ha : ∀ s, (act s).ram = s.ram) : (s.smsgIn k d hops kind lane seq target count body good act).ram = s.ram := by
  unfold State.smsgIn
  (repeat' split) <;> simp [ha]

@[simp] theorem State.barrierStart_still (s : State) : (State.barrierStart s).still = s.still := by
  unfold State.barrierStart; (try simp); all_goals ((repeat' split) <;> (first | with_reducible rfl | (simp; done) | (simp_all; done)))

@[simp] theorem State.barrierStart_outer (s : State) : (State.barrierStart s).outer = s.outer := State.still_outer (State.barrierStart_still s)

@[simp] theorem State.barrierStart_kept (s : State) : (State.barrierStart s).kept = s.kept := State.still_kept (State.barrierStart_still s)

@[simp] theorem State.barrierStart_ram (s : State) : (State.barrierStart s).ram = s.ram := State.still_ram (State.barrierStart_still s)

@[simp] theorem State.barrierFail_still (s : State) (b : Barrier) (cause : Nat) (dev : Nat) : (State.barrierFail s b cause dev).still = s.still := by
  unfold State.barrierFail; (try simp); all_goals ((repeat' split) <;> (first | with_reducible rfl | (simp; done) | (simp_all; done)))

@[simp] theorem State.barrierFail_outer (s : State) (b : Barrier) (cause : Nat) (dev : Nat) : (State.barrierFail s b cause dev).outer = s.outer := State.still_outer (State.barrierFail_still s b cause dev)

@[simp] theorem State.barrierFail_kept (s : State) (b : Barrier) (cause : Nat) (dev : Nat) : (State.barrierFail s b cause dev).kept = s.kept := State.still_kept (State.barrierFail_still s b cause dev)

@[simp] theorem State.barrierFail_ram (s : State) (b : Barrier) (cause : Nat) (dev : Nat) : (State.barrierFail s b cause dev).ram = s.ram := State.still_ram (State.barrierFail_still s b cause dev)

@[simp] theorem State.barrierClose_still (s : State) : (State.barrierClose s).still = s.still := by
  unfold State.barrierClose; (try simp); all_goals ((repeat' split) <;> (first | with_reducible rfl | (simp; done) | (simp_all; done)))

@[simp] theorem State.barrierClose_outer (s : State) : (State.barrierClose s).outer = s.outer := State.still_outer (State.barrierClose_still s)

@[simp] theorem State.barrierClose_kept (s : State) : (State.barrierClose s).kept = s.kept := State.still_kept (State.barrierClose_still s)

@[simp] theorem State.barrierClose_ram (s : State) : (State.barrierClose s).ram = s.ram := State.still_ram (State.barrierClose_still s)

@[simp] theorem State.voteIn_still (s : State) (d : Nat) (body : Bytes) : (State.voteIn s d body).still = s.still := by
  unfold State.voteIn; (try simp); all_goals ((repeat' split) <;> (first | with_reducible rfl | (simp; done) | (simp_all; done)))

@[simp] theorem State.voteIn_outer (s : State) (d : Nat) (body : Bytes) : (State.voteIn s d body).outer = s.outer := State.still_outer (State.voteIn_still s d body)

@[simp] theorem State.voteIn_kept (s : State) (d : Nat) (body : Bytes) : (State.voteIn s d body).kept = s.kept := State.still_kept (State.voteIn_still s d body)

@[simp] theorem State.voteIn_ram (s : State) (d : Nat) (body : Bytes) : (State.voteIn s d body).ram = s.ram := State.still_ram (State.voteIn_still s d body)

@[simp] theorem State.barrierTimeout_still (s : State) : (State.barrierTimeout s).still = s.still := by
  unfold State.barrierTimeout; (try simp); all_goals ((repeat' split) <;> (first | with_reducible rfl | (simp; done) | (simp_all; done)))

@[simp] theorem State.barrierTimeout_outer (s : State) : (State.barrierTimeout s).outer = s.outer := State.still_outer (State.barrierTimeout_still s)

@[simp] theorem State.barrierTimeout_kept (s : State) : (State.barrierTimeout s).kept = s.kept := State.still_kept (State.barrierTimeout_still s)

@[simp] theorem State.barrierTimeout_ram (s : State) : (State.barrierTimeout s).ram = s.ram := State.still_ram (State.barrierTimeout_still s)

@[simp] theorem State.barrierReopen_still (s : State) : (State.barrierReopen s).still = s.still := by
  unfold State.barrierReopen; (try simp); all_goals ((repeat' split) <;> (first | with_reducible rfl | (simp; done) | (simp_all; done)))

@[simp] theorem State.barrierReopen_outer (s : State) : (State.barrierReopen s).outer = s.outer := State.still_outer (State.barrierReopen_still s)

@[simp] theorem State.barrierReopen_kept (s : State) : (State.barrierReopen s).kept = s.kept := State.still_kept (State.barrierReopen_still s)

@[simp] theorem State.barrierReopen_ram (s : State) : (State.barrierReopen s).ram = s.ram := State.still_ram (State.barrierReopen_still s)

@[simp] theorem State.castVote_still (s : State) (b : Barrier) (cause : Nat) : (State.castVote s b cause).still = s.still := by
  unfold State.castVote; (try simp); all_goals ((repeat' split) <;> (first | with_reducible rfl | (simp; done) | (simp_all; done)))

@[simp] theorem State.castVote_outer (s : State) (b : Barrier) (cause : Nat) : (State.castVote s b cause).outer = s.outer := State.still_outer (State.castVote_still s b cause)

@[simp] theorem State.castVote_kept (s : State) (b : Barrier) (cause : Nat) : (State.castVote s b cause).kept = s.kept := State.still_kept (State.castVote_still s b cause)

@[simp] theorem State.castVote_ram (s : State) (b : Barrier) (cause : Nat) : (State.castVote s b cause).ram = s.ram := State.still_ram (State.castVote_still s b cause)

@[simp] theorem State.decideVote_still (s : State) (b : Barrier) : (State.decideVote s b).still = s.still := by
  unfold State.decideVote; (try simp); all_goals ((repeat' split) <;> (first | with_reducible rfl | (simp; done) | (simp_all; done)))

@[simp] theorem State.decideVote_outer (s : State) (b : Barrier) : (State.decideVote s b).outer = s.outer := State.still_outer (State.decideVote_still s b)

@[simp] theorem State.decideVote_kept (s : State) (b : Barrier) : (State.decideVote s b).kept = s.kept := State.still_kept (State.decideVote_still s b)

@[simp] theorem State.decideVote_ram (s : State) (b : Barrier) : (State.decideVote s b).ram = s.ram := State.still_ram (State.decideVote_still s b)

@[simp] theorem State.barrierOpen_still (s : State) (d : Nat) (body : Bytes) : (State.barrierOpen s d body).still = s.still := by
  unfold State.barrierOpen; (try simp); all_goals ((repeat' split) <;> (first | with_reducible rfl | (simp; done) | (simp_all; done)))

@[simp] theorem State.barrierOpen_outer (s : State) (d : Nat) (body : Bytes) : (State.barrierOpen s d body).outer = s.outer := State.still_outer (State.barrierOpen_still s d body)

@[simp] theorem State.barrierOpen_kept (s : State) (d : Nat) (body : Bytes) : (State.barrierOpen s d body).kept = s.kept := State.still_kept (State.barrierOpen_still s d body)

@[simp] theorem State.barrierOpen_ram (s : State) (d : Nat) (body : Bytes) : (State.barrierOpen s d body).ram = s.ram := State.still_ram (State.barrierOpen_still s d body)

@[simp] theorem State.waitingVote_still (s : State) : (State.waitingVote s).still = s.still := by
  unfold State.waitingVote; (try simp); all_goals ((repeat' split) <;> (first | with_reducible rfl | (simp; done) | (simp_all; done)))

@[simp] theorem State.waitingVote_outer (s : State) : (State.waitingVote s).outer = s.outer := State.still_outer (State.waitingVote_still s)

@[simp] theorem State.waitingVote_kept (s : State) : (State.waitingVote s).kept = s.kept := State.still_kept (State.waitingVote_still s)

@[simp] theorem State.waitingVote_ram (s : State) : (State.waitingVote s).ram = s.ram := State.still_ram (State.waitingVote_still s)

@[simp] theorem State.releaseIn_still (s : State) (d : Nat) (body : Bytes) : (State.releaseIn s d body).still = s.still := by
  unfold State.releaseIn; (try simp); all_goals ((repeat' split) <;> (first | with_reducible rfl | (simp; done) | (simp_all; done)))

@[simp] theorem State.releaseIn_outer (s : State) (d : Nat) (body : Bytes) : (State.releaseIn s d body).outer = s.outer := State.still_outer (State.releaseIn_still s d body)

@[simp] theorem State.releaseIn_kept (s : State) (d : Nat) (body : Bytes) : (State.releaseIn s d body).kept = s.kept := State.still_kept (State.releaseIn_still s d body)

@[simp] theorem State.releaseIn_ram (s : State) (d : Nat) (body : Bytes) : (State.releaseIn s d body).ram = s.ram := State.still_ram (State.releaseIn_still s d body)

@[simp] theorem State.frogIn_still (s : State) (d : Nat) (body : Bytes) : (State.frogIn s d body).still = s.still := by
  unfold State.frogIn; (try simp); all_goals ((repeat' split) <;> (first | with_reducible rfl | (simp; done) | (simp_all; done)))

@[simp] theorem State.frogIn_outer (s : State) (d : Nat) (body : Bytes) : (State.frogIn s d body).outer = s.outer := State.still_outer (State.frogIn_still s d body)

@[simp] theorem State.frogIn_kept (s : State) (d : Nat) (body : Bytes) : (State.frogIn s d body).kept = s.kept := State.still_kept (State.frogIn_still s d body)

@[simp] theorem State.frogIn_ram (s : State) (d : Nat) (body : Bytes) : (State.frogIn s d body).ram = s.ram := State.still_ram (State.frogIn_still s d body)

@[simp] theorem State.spoilIn_still (s : State) (body : Bytes) : (State.spoilIn s body).still = s.still := by
  unfold State.spoilIn; (try simp); all_goals ((repeat' split) <;> (first | with_reducible rfl | (simp; done) | (simp_all; done)))

@[simp] theorem State.spoilIn_outer (s : State) (body : Bytes) : (State.spoilIn s body).outer = s.outer := State.still_outer (State.spoilIn_still s body)

@[simp] theorem State.spoilIn_kept (s : State) (body : Bytes) : (State.spoilIn s body).kept = s.kept := State.still_kept (State.spoilIn_still s body)

@[simp] theorem State.spoilIn_ram (s : State) (body : Bytes) : (State.spoilIn s body).ram = s.ram := State.still_ram (State.spoilIn_still s body)

@[simp] theorem State.userIn_still (s : State) (d : Nat) (count : Nat) (body : Bytes) : (State.userIn s d count body).still = s.still := by
  unfold State.userIn; dsimp only; split <;> simp

@[simp] theorem State.userIn_outer (s : State) (d : Nat) (count : Nat) (body : Bytes) : (State.userIn s d count body).outer = s.outer := State.still_outer (State.userIn_still s d count body)

@[simp] theorem State.userIn_kept (s : State) (d : Nat) (count : Nat) (body : Bytes) : (State.userIn s d count body).kept = s.kept := State.still_kept (State.userIn_still s d count body)

@[simp] theorem State.userIn_ram (s : State) (d : Nat) (count : Nat) (body : Bytes) : (State.userIn s d count body).ram = s.ram := State.still_ram (State.userIn_still s d count body)

@[simp] theorem State.userSend_still (s : State) (n : Nat) : (State.userSend s n).1.still = s.still := by
  unfold State.userSend; (try simp); all_goals ((repeat' split) <;> (first | with_reducible rfl | (simp; done) | (simp_all; done)))

@[simp] theorem State.userSend_outer (s : State) (n : Nat) : (State.userSend s n).1.outer = s.outer := State.still_outer (State.userSend_still s n)

@[simp] theorem State.userSend_kept (s : State) (n : Nat) : (State.userSend s n).1.kept = s.kept := State.still_kept (State.userSend_still s n)

@[simp] theorem State.userSend_ram (s : State) (n : Nat) : (State.userSend s n).1.ram = s.ram := State.still_ram (State.userSend_still s n)

end Sys2Proof.Machine
end

