-- ==== Sys2Proof/Laws/OuterFlash.lean ====
section
/-! SUPPORT. What the operations of Machine/Flash.lean leave alone: the queue, the idle time, the clock and the boot record (`outer`); flash, settings copies, update service and recovery (`kept`); the bytes of DRAM and staging (`ram`). -/

namespace Sys2Proof.Machine

@[simp] theorem State.flashWrite_outer (s : State) (a : Nat) (bs : Bytes) : (State.flashWrite s a bs).outer = s.outer := by
  unfold State.flashWrite; (try simp); all_goals ((repeat' split) <;> (first | with_reducible rfl | (simp; done) | (simp_all; done)))

@[simp] theorem State.flashWrite_ram (s : State) (a : Nat) (bs : Bytes) : (State.flashWrite s a bs).ram = s.ram := by
  unfold State.flashWrite; (try simp); all_goals ((repeat' split) <;> (first | with_reducible rfl | (simp; done) | (simp_all; done)))

@[simp] theorem State.dirWrite_outer (s : State) (b : Bytes) : (State.dirWrite s b).outer = s.outer := by
  unfold State.dirWrite; (try simp); all_goals ((repeat' split) <;> (first | with_reducible rfl | (simp; done) | (simp_all; done)))

@[simp] theorem State.dirWrite_ram (s : State) (b : Bytes) : (State.dirWrite s b).ram = s.ram := by
  unfold State.dirWrite; (try simp); all_goals ((repeat' split) <;> (first | with_reducible rfl | (simp; done) | (simp_all; done)))

@[simp] theorem State.dirEdit_outer (s : State) (c : Nat) (l : List (Nat × Bytes)) : (State.dirEdit s c l).outer = s.outer := by
  unfold State.dirEdit; (try simp); all_goals ((repeat' split) <;> (first | with_reducible rfl | (simp; done) | (simp_all; done)))

@[simp] theorem State.dirEdit_ram (s : State) (c : Nat) (l : List (Nat × Bytes)) : (State.dirEdit s c l).ram = s.ram := by
  unfold State.dirEdit; (try simp); all_goals ((repeat' split) <;> (first | with_reducible rfl | (simp; done) | (simp_all; done)))

@[simp] theorem State.slotTo_outer (s : State) (c : Nat) (slot : Nat) (st : Nat) (reason : Nat) : (State.slotTo s c slot st reason).outer = s.outer := by
  unfold State.slotTo; (try simp); all_goals ((repeat' split) <;> (first | with_reducible rfl | (simp; done) | (simp_all; done)))

@[simp] theorem State.slotTo_ram (s : State) (c : Nat) (slot : Nat) (st : Nat) (reason : Nat) : (State.slotTo s c slot st reason).ram = s.ram := by
  unfold State.slotTo; (try simp); all_goals ((repeat' split) <;> (first | with_reducible rfl | (simp; done) | (simp_all; done)))

end Sys2Proof.Machine
end

