-- ==== Sys2Proof/Laws/OuterDomains.lean ====
section
/-! SUPPORT. What the operations of Machine/Domains.lean leave alone: the queue, the idle time, the clock and the boot record (`outer`); flash, settings copies, update service and recovery (`kept`); the bytes of DRAM and staging (`ram`). -/

namespace Sys2Proof.Machine

@[simp] theorem State.windowPut_outer (s : State) (off : Nat) (v : Byte) (good : Bool) : (State.windowPut s off v good).outer = s.outer := by
  unfold State.windowPut; (try simp); all_goals ((repeat' split) <;> (first | with_reducible rfl | (simp; done) | (simp_all; done)))

@[simp] theorem State.windowPut_kept (s : State) (off : Nat) (v : Byte) (good : Bool) : (State.windowPut s off v good).kept = s.kept := by
  unfold State.windowPut; (try simp); all_goals ((repeat' split) <;> (first | with_reducible rfl | (simp; done) | (simp_all; done)))

@[simp] theorem State.windowWrite_outer (s : State) (off : Nat) (bs : Bytes) : (State.windowWrite s off bs).outer = s.outer := by
  unfold State.windowWrite; (try simp); all_goals ((repeat' split) <;> (first | with_reducible rfl | (simp; done) | (simp_all; done)))

@[simp] theorem State.windowWrite_kept (s : State) (off : Nat) (bs : Bytes) : (State.windowWrite s off bs).kept = s.kept := by
  unfold State.windowWrite; (try simp); all_goals ((repeat' split) <;> (first | with_reducible rfl | (simp; done) | (simp_all; done)))

@[simp] theorem State.parityWrite_outer (s : State) (off : Nat) (bs : Bytes) : (State.parityWrite s off bs).outer = s.outer := by
  unfold State.parityWrite; (try simp); all_goals ((repeat' split) <;> (first | with_reducible rfl | (simp; done) | (simp_all; done)))

@[simp] theorem State.parityWrite_kept (s : State) (off : Nat) (bs : Bytes) : (State.parityWrite s off bs).kept = s.kept := by
  unfold State.parityWrite; (try simp); all_goals ((repeat' split) <;> (first | with_reducible rfl | (simp; done) | (simp_all; done)))

@[simp] theorem State.windowCheck_still (s : State) (off : Nat) (n : Nat) : (State.windowCheck s off n).still = s.still := by
  unfold State.windowCheck; (try simp); all_goals ((repeat' split) <;> (first | with_reducible rfl | (simp; done) | (simp_all; done)))

@[simp] theorem State.windowCheck_outer (s : State) (off : Nat) (n : Nat) : (State.windowCheck s off n).outer = s.outer := State.still_outer (State.windowCheck_still s off n)

@[simp] theorem State.windowCheck_kept (s : State) (off : Nat) (n : Nat) : (State.windowCheck s off n).kept = s.kept := State.still_kept (State.windowCheck_still s off n)

@[simp] theorem State.windowCheck_ram (s : State) (off : Nat) (n : Nat) : (State.windowCheck s off n).ram = s.ram := State.still_ram (State.windowCheck_still s off n)

@[simp] theorem State.ringPatch_still (s : State) (q : Nat) (off : Nat) (bs : Bytes) : (State.ringPatch s q off bs).still = s.still := by
  unfold State.ringPatch; apply foldl_still; intro s a; simp

@[simp] theorem State.ringPatch_outer (s : State) (q : Nat) (off : Nat) (bs : Bytes) : (State.ringPatch s q off bs).outer = s.outer := State.still_outer (State.ringPatch_still s q off bs)

@[simp] theorem State.ringPatch_kept (s : State) (q : Nat) (off : Nat) (bs : Bytes) : (State.ringPatch s q off bs).kept = s.kept := State.still_kept (State.ringPatch_still s q off bs)

@[simp] theorem State.ringPatch_ram (s : State) (q : Nat) (off : Nat) (bs : Bytes) : (State.ringPatch s q off bs).ram = s.ram := State.still_ram (State.ringPatch_still s q off bs)

@[simp] theorem State.readCheck_still (s : State) (idx : Nat) (off : Nat) (n : Nat) : (State.readCheck s idx off n).still = s.still := by
  unfold State.readCheck; (try simp); all_goals ((repeat' split) <;> (first | with_reducible rfl | (simp; done) | (simp_all; done)))

@[simp] theorem State.readCheck_outer (s : State) (idx : Nat) (off : Nat) (n : Nat) : (State.readCheck s idx off n).outer = s.outer := State.still_outer (State.readCheck_still s idx off n)

@[simp] theorem State.readCheck_kept (s : State) (idx : Nat) (off : Nat) (n : Nat) : (State.readCheck s idx off n).kept = s.kept := State.still_kept (State.readCheck_still s idx off n)

@[simp] theorem State.readCheck_ram (s : State) (idx : Nat) (off : Nat) (n : Nat) : (State.readCheck s idx off n).ram = s.ram := State.still_ram (State.readCheck_still s idx off n)

@[simp] theorem State.domWrite_outer (s : State) (idx : Nat) (sub : Nat) (off : Nat) (bytes : Bytes) : (State.domWrite s idx sub off bytes).outer = s.outer := by
  unfold State.domWrite; (try simp); all_goals ((repeat' split) <;> (first | with_reducible rfl | (simp; done) | (simp_all; done)))

@[simp] theorem State.domWrite_kept (s : State) (idx : Nat) (sub : Nat) (off : Nat) (bytes : Bytes) : (State.domWrite s idx sub off bytes).kept = s.kept := by
  unfold State.domWrite; (try simp); all_goals ((repeat' split) <;> (first | with_reducible rfl | (simp; done) | (simp_all; done)))

@[simp] theorem State.rewatch_still (s : State) (idx : Nat) (sub : Nat) : (State.rewatch s idx sub).still = s.still := by
  unfold State.rewatch; (try simp); all_goals ((repeat' split) <;> (first | with_reducible rfl | (simp; done) | (simp_all; done)))

@[simp] theorem State.rewatch_outer (s : State) (idx : Nat) (sub : Nat) : (State.rewatch s idx sub).outer = s.outer := State.still_outer (State.rewatch_still s idx sub)

@[simp] theorem State.rewatch_kept (s : State) (idx : Nat) (sub : Nat) : (State.rewatch s idx sub).kept = s.kept := State.still_kept (State.rewatch_still s idx sub)

@[simp] theorem State.rewatch_ram (s : State) (idx : Nat) (sub : Nat) : (State.rewatch s idx sub).ram = s.ram := State.still_ram (State.rewatch_still s idx sub)

@[simp] theorem State.watchReads_still (s : State) : (State.watchReads s).still = s.still := by
  unfold State.watchReads; (try simp); all_goals ((repeat' split) <;> (first | with_reducible rfl | (simp; done) | (simp_all; done)))

@[simp] theorem State.watchReads_outer (s : State) : (State.watchReads s).outer = s.outer := State.still_outer (State.watchReads_still s)

@[simp] theorem State.watchReads_kept (s : State) : (State.watchReads s).kept = s.kept := State.still_kept (State.watchReads_still s)

@[simp] theorem State.watchReads_ram (s : State) : (State.watchReads s).ram = s.ram := State.still_ram (State.watchReads_still s)

end Sys2Proof.Machine
end

