-- ==== Sys2Proof/Laws/OuterDma.lean ====
section
/-! SUPPORT. What the operations of Machine/Dma.lean leave alone: the queue, the idle time, the clock and the boot record (`outer`); flash, settings copies, update service and recovery (`kept`); the bytes of DRAM and staging (`ram`). -/

namespace Sys2Proof.Machine

@[simp] theorem State.setCur_still (s : State) (n : Nat) (c : Option DmaCur) : (State.setCur s n c).still = s.still := by
  unfold State.setCur; (try simp); all_goals ((repeat' split) <;> (first | with_reducible rfl | (simp; done) | (simp_all; done)))

@[simp] theorem State.setCur_outer (s : State) (n : Nat) (c : Option DmaCur) : (State.setCur s n c).outer = s.outer := State.still_outer (State.setCur_still s n c)

@[simp] theorem State.setCur_kept (s : State) (n : Nat) (c : Option DmaCur) : (State.setCur s n c).kept = s.kept := State.still_kept (State.setCur_still s n c)

@[simp] theorem State.setCur_ram (s : State) (n : Nat) (c : Option DmaCur) : (State.setCur s n c).ram = s.ram := State.still_ram (State.setCur_still s n c)

@[simp] theorem State.dmaFinish_still (s : State) (n : Nat) (status : Nat) : (State.dmaFinish s n status).still = s.still := by
  unfold State.dmaFinish; (try simp); all_goals ((repeat' split) <;> (first | with_reducible rfl | (simp; done) | (simp_all; done)))

@[simp] theorem State.dmaFinish_outer (s : State) (n : Nat) (status : Nat) : (State.dmaFinish s n status).outer = s.outer := State.still_outer (State.dmaFinish_still s n status)

@[simp] theorem State.dmaFinish_kept (s : State) (n : Nat) (status : Nat) : (State.dmaFinish s n status).kept = s.kept := State.still_kept (State.dmaFinish_still s n status)

@[simp] theorem State.dmaFinish_ram (s : State) (n : Nat) (status : Nat) : (State.dmaFinish s n status).ram = s.ram := State.still_ram (State.dmaFinish_still s n status)

@[simp] theorem State.dmaHalt_still (s : State) (n : Nat) (status : Nat) (addr : Nat) (dir : Nat) : (State.dmaHalt s n status addr dir).still = s.still := by
  unfold State.dmaHalt; (try simp); all_goals ((repeat' split) <;> (first | with_reducible rfl | (simp; done) | (simp_all; done)))

@[simp] theorem State.dmaHalt_outer (s : State) (n : Nat) (status : Nat) (addr : Nat) (dir : Nat) : (State.dmaHalt s n status addr dir).outer = s.outer := State.still_outer (State.dmaHalt_still s n status addr dir)

@[simp] theorem State.dmaHalt_kept (s : State) (n : Nat) (status : Nat) (addr : Nat) (dir : Nat) : (State.dmaHalt s n status addr dir).kept = s.kept := State.still_kept (State.dmaHalt_still s n status addr dir)

@[simp] theorem State.dmaHalt_ram (s : State) (n : Nat) (status : Nat) (addr : Nat) (dir : Nat) : (State.dmaHalt s n status addr dir).ram = s.ram := State.still_ram (State.dmaHalt_still s n status addr dir)

@[simp] theorem State.dmaResult_still (s : State) (n : Nat) (r : Nat) : (State.dmaResult s n r).still = s.still := by
  unfold State.dmaResult; (try simp); all_goals ((repeat' split) <;> (first | with_reducible rfl | (simp; done) | (simp_all; done)))

@[simp] theorem State.dmaResult_outer (s : State) (n : Nat) (r : Nat) : (State.dmaResult s n r).outer = s.outer := State.still_outer (State.dmaResult_still s n r)

@[simp] theorem State.dmaResult_kept (s : State) (n : Nat) (r : Nat) : (State.dmaResult s n r).kept = s.kept := State.still_kept (State.dmaResult_still s n r)

@[simp] theorem State.dmaResult_ram (s : State) (n : Nat) (r : Nat) : (State.dmaResult s n r).ram = s.ram := State.still_ram (State.dmaResult_still s n r)

@[simp] theorem State.dmaStart_still (s : State) (n : Nat) : (State.dmaStart s n).1.still = s.still := by
  unfold State.dmaStart; (try simp); all_goals ((repeat' split) <;> (first | with_reducible rfl | (simp; done) | (simp_all; done)))

@[simp] theorem State.dmaStart_outer (s : State) (n : Nat) : (State.dmaStart s n).1.outer = s.outer := State.still_outer (State.dmaStart_still s n)

@[simp] theorem State.dmaStart_kept (s : State) (n : Nat) : (State.dmaStart s n).1.kept = s.kept := State.still_kept (State.dmaStart_still s n)

@[simp] theorem State.dmaStart_ram (s : State) (n : Nat) : (State.dmaStart s n).1.ram = s.ram := State.still_ram (State.dmaStart_still s n)

@[simp] theorem State.dmaStop_still (s : State) (n : Nat) : (State.dmaStop s n).1.still = s.still := by
  unfold State.dmaStop; (try simp); all_goals ((repeat' split) <;> (first | with_reducible rfl | (simp; done) | (simp_all; done)))

@[simp] theorem State.dmaStop_outer (s : State) (n : Nat) : (State.dmaStop s n).1.outer = s.outer := State.still_outer (State.dmaStop_still s n)

@[simp] theorem State.dmaStop_kept (s : State) (n : Nat) : (State.dmaStop s n).1.kept = s.kept := State.still_kept (State.dmaStop_still s n)

@[simp] theorem State.dmaStop_ram (s : State) (n : Nat) : (State.dmaStop s n).1.ram = s.ram := State.still_ram (State.dmaStop_still s n)

@[simp] theorem State.dmaResume_still (s : State) (n : Nat) : (State.dmaResume s n).1.still = s.still := by
  unfold State.dmaResume; (try simp); all_goals ((repeat' split) <;> (first | with_reducible rfl | (simp; done) | (simp_all; done)))

@[simp] theorem State.dmaResume_outer (s : State) (n : Nat) : (State.dmaResume s n).1.outer = s.outer := State.still_outer (State.dmaResume_still s n)

@[simp] theorem State.dmaResume_kept (s : State) (n : Nat) : (State.dmaResume s n).1.kept = s.kept := State.still_kept (State.dmaResume_still s n)

@[simp] theorem State.dmaResume_ram (s : State) (n : Nat) : (State.dmaResume s n).1.ram = s.ram := State.still_ram (State.dmaResume_still s n)

@[simp] theorem State.dmaClaim_still (s : State) : (State.dmaClaim s).still = s.still := by
  unfold State.dmaClaim; (try simp); all_goals ((repeat' split) <;> (first | with_reducible rfl | (simp; done) | (simp_all; done)))

@[simp] theorem State.dmaClaim_outer (s : State) : (State.dmaClaim s).outer = s.outer := State.still_outer (State.dmaClaim_still s)

@[simp] theorem State.dmaClaim_kept (s : State) : (State.dmaClaim s).kept = s.kept := State.still_kept (State.dmaClaim_still s)

@[simp] theorem State.dmaClaim_ram (s : State) : (State.dmaClaim s).ram = s.ram := State.still_ram (State.dmaClaim_still s)

@[simp] theorem State.dmaRelease_still (s : State) (n : Nat) : (State.dmaRelease s n).still = s.still := by
  unfold State.dmaRelease; (try simp); all_goals ((repeat' split) <;> (first | with_reducible rfl | (simp; done) | (simp_all; done)))

@[simp] theorem State.dmaRelease_outer (s : State) (n : Nat) : (State.dmaRelease s n).outer = s.outer := State.still_outer (State.dmaRelease_still s n)

@[simp] theorem State.dmaRelease_kept (s : State) (n : Nat) : (State.dmaRelease s n).kept = s.kept := State.still_kept (State.dmaRelease_still s n)

@[simp] theorem State.dmaRelease_ram (s : State) (n : Nat) : (State.dmaRelease s n).ram = s.ram := State.still_ram (State.dmaRelease_still s n)

@[simp] theorem State.dmaParity_still (s : State) (e : Nat) (outcome : Nat) (x : End) : (State.dmaParity s e outcome x).still = s.still := by
  cases x <;> simp only [State.dmaParity] <;> (repeat' split) <;> simp

@[simp] theorem State.dmaParity_outer (s : State) (e : Nat) (outcome : Nat) (x : End) : (State.dmaParity s e outcome x).outer = s.outer := State.still_outer (State.dmaParity_still s e outcome x)

@[simp] theorem State.dmaParity_kept (s : State) (e : Nat) (outcome : Nat) (x : End) : (State.dmaParity s e outcome x).kept = s.kept := State.still_kept (State.dmaParity_still s e outcome x)

@[simp] theorem State.dmaParity_ram (s : State) (e : Nat) (outcome : Nat) (x : End) : (State.dmaParity s e outcome x).ram = s.ram := State.still_ram (State.dmaParity_still s e outcome x)

@[simp] theorem State.dmaDescriptor_still (s0 : State) (n : Nat) (bad : Bool) : (State.dmaDescriptor s0 n bad).still = s0.still := by
  unfold State.dmaDescriptor; (try simp); all_goals ((repeat' split) <;> (first | with_reducible rfl | (simp; done) | (simp_all; done)))

@[simp] theorem State.dmaDescriptor_outer (s0 : State) (n : Nat) (bad : Bool) : (State.dmaDescriptor s0 n bad).outer = s0.outer := State.still_outer (State.dmaDescriptor_still s0 n bad)

@[simp] theorem State.dmaDescriptor_kept (s0 : State) (n : Nat) (bad : Bool) : (State.dmaDescriptor s0 n bad).kept = s0.kept := State.still_kept (State.dmaDescriptor_still s0 n bad)

@[simp] theorem State.dmaDescriptor_ram (s0 : State) (n : Nat) (bad : Bool) : (State.dmaDescriptor s0 n bad).ram = s0.ram := State.still_ram (State.dmaDescriptor_still s0 n bad)

theorem State.endWrite_outer (s t : State) (bs : Bytes) (fixed : Bool) (e : End) (h : s.endWrite bs fixed e = .ok t) : t.outer = s.outer := by
  unfold State.endWrite at h
  (repeat' split at h) <;> simp at h <;> subst h <;> simp

theorem State.endWrite_kept (s t : State) (bs : Bytes) (fixed : Bool) (e : End) (h : s.endWrite bs fixed e = .ok t) : t.kept = s.kept := by
  unfold State.endWrite at h
  (repeat' split at h) <;> simp at h <;> subst h <;> simp

@[simp] theorem State.dmaElement_outer (s : State) (n : Nat) (read : Restored) : (State.dmaElement s n read).outer = s.outer := by
  unfold State.dmaElement
  split
  · rfl
  · split
    · rfl
    · dsimp only
      split
      · split <;> simp
      · split
        · split <;> simp
        · next h =>
          have h1 := State.endWrite_outer _ _ _ _ _ h
          split <;> split <;> simp [h1] <;> split <;> simp

@[simp] theorem State.dmaElement_kept (s : State) (n : Nat) (read : Restored) : (State.dmaElement s n read).kept = s.kept := by
  unfold State.dmaElement
  split
  · rfl
  · split
    · rfl
    · dsimp only
      split
      · split <;> simp
      · split
        · split <;> simp
        · next h =>
          have h1 := State.endWrite_kept _ _ _ _ _ h
          split <;> split <;> simp [h1] <;> split <;> simp

@[simp] theorem State.dmaStopAll_still (s : State) : (State.dmaStopAll s).still = s.still := by
  unfold State.dmaStopAll; (try simp); all_goals ((repeat' split) <;> (first | with_reducible rfl | (simp; done) | (simp_all; done)))

@[simp] theorem State.dmaStopAll_outer (s : State) : (State.dmaStopAll s).outer = s.outer := State.still_outer (State.dmaStopAll_still s)

@[simp] theorem State.dmaStopAll_kept (s : State) : (State.dmaStopAll s).kept = s.kept := State.still_kept (State.dmaStopAll_still s)

@[simp] theorem State.dmaStopAll_ram (s : State) : (State.dmaStopAll s).ram = s.ram := State.still_ram (State.dmaStopAll_still s)

@[simp] theorem State.windowOpened_outer (s : State) (a : Nat) : (State.windowOpened s a).outer = s.outer := by
  unfold State.windowOpened; (try simp); all_goals ((repeat' split) <;> (first | with_reducible rfl | (simp; done) | (simp_all; done)))

@[simp] theorem State.windowOpened_kept (s : State) (a : Nat) : (State.windowOpened s a).kept = s.kept := by
  unfold State.windowOpened; (try simp); all_goals ((repeat' split) <;> (first | with_reducible rfl | (simp; done) | (simp_all; done)))

@[simp] theorem State.windowOpen_outer (s : State) : (State.windowOpen s).1.outer = s.outer := by
  unfold State.windowOpen; (try simp); all_goals ((repeat' split) <;> (first | with_reducible rfl | (simp; done) | (simp_all; done)))

@[simp] theorem State.windowOpen_kept (s : State) : (State.windowOpen s).1.kept = s.kept := by
  unfold State.windowOpen; (try simp); all_goals ((repeat' split) <;> (first | with_reducible rfl | (simp; done) | (simp_all; done)))

@[simp] theorem State.windowClose_still (s : State) : (State.windowClose s).1.still = s.still := by
  unfold State.windowClose; (try simp); all_goals ((repeat' split) <;> (first | with_reducible rfl | (simp; done) | (simp_all; done)))

@[simp] theorem State.windowClose_outer (s : State) : (State.windowClose s).1.outer = s.outer := State.still_outer (State.windowClose_still s)

@[simp] theorem State.windowClose_kept (s : State) : (State.windowClose s).1.kept = s.kept := State.still_kept (State.windowClose_still s)

@[simp] theorem State.windowClose_ram (s : State) : (State.windowClose s).1.ram = s.ram := State.still_ram (State.windowClose_still s)

@[simp] theorem State.windowClosed_outer (s : State) : (State.windowClosed s).outer = s.outer := by
  unfold State.windowClosed; (try simp); all_goals ((repeat' split) <;> (first | with_reducible rfl | (simp; done) | (simp_all; done)))

@[simp] theorem State.windowClosed_kept (s : State) : (State.windowClosed s).kept = s.kept := by
  unfold State.windowClosed; (try simp); all_goals ((repeat' split) <;> (first | with_reducible rfl | (simp; done) | (simp_all; done)))

end Sys2Proof.Machine
end

