-- ==== Sys2Proof/Laws/OuterThermal.lean ====
section
/-! SUPPORT. What the operations of Machine/Thermal.lean leave alone: the queue, the idle time, the clock and the boot record (`outer`); flash, settings copies, update service and recovery (`kept`); the bytes of DRAM and staging (`ram`). -/

namespace Sys2Proof.Machine

@[simp] theorem State.factorTo_still (s : State) (droop : Nat) (thermal : Nat) : (State.factorTo s droop thermal).still = s.still := by
  unfold State.factorTo; (try simp); all_goals ((repeat' split) <;> (first | with_reducible rfl | (simp; done) | (simp_all; done)))

@[simp] theorem State.factorTo_outer (s : State) (droop : Nat) (thermal : Nat) : (State.factorTo s droop thermal).outer = s.outer := State.still_outer (State.factorTo_still s droop thermal)

@[simp] theorem State.factorTo_kept (s : State) (droop : Nat) (thermal : Nat) : (State.factorTo s droop thermal).kept = s.kept := State.still_kept (State.factorTo_still s droop thermal)

@[simp] theorem State.factorTo_ram (s : State) (droop : Nat) (thermal : Nat) : (State.factorTo s droop thermal).ram = s.ram := State.still_ram (State.factorTo_still s droop thermal)

@[simp] theorem State.droop_still (s : State) : (State.droop s).still = s.still := by
  unfold State.droop; (try simp); all_goals ((repeat' split) <;> (first | with_reducible rfl | (simp; done) | (simp_all; done)))

@[simp] theorem State.droop_outer (s : State) : (State.droop s).outer = s.outer := State.still_outer (State.droop_still s)

@[simp] theorem State.droop_kept (s : State) : (State.droop s).kept = s.kept := State.still_kept (State.droop_still s)

@[simp] theorem State.droop_ram (s : State) : (State.droop s).ram = s.ram := State.still_ram (State.droop_still s)

@[simp] theorem State.restoreStep_still (s : State) : (State.restoreStep s).still = s.still := by
  unfold State.restoreStep; (try simp); all_goals ((repeat' split) <;> (first | with_reducible rfl | (simp; done) | (simp_all; done)))

@[simp] theorem State.restoreStep_outer (s : State) : (State.restoreStep s).outer = s.outer := State.still_outer (State.restoreStep_still s)

@[simp] theorem State.restoreStep_kept (s : State) : (State.restoreStep s).kept = s.kept := State.still_kept (State.restoreStep_still s)

@[simp] theorem State.restoreStep_ram (s : State) : (State.restoreStep s).ram = s.ram := State.still_ram (State.restoreStep_still s)

@[simp] theorem State.sensorCheck_still (s : State) (ex : Nat) (readings : List Int) (i : Nat) : (State.sensorCheck s ex readings i).still = s.still := by
  unfold State.sensorCheck; (try simp); all_goals ((repeat' split) <;> (first | with_reducible rfl | (simp; done) | (simp_all; done)))

@[simp] theorem State.sensorCheck_outer (s : State) (ex : Nat) (readings : List Int) (i : Nat) : (State.sensorCheck s ex readings i).outer = s.outer := State.still_outer (State.sensorCheck_still s ex readings i)

@[simp] theorem State.sensorCheck_kept (s : State) (ex : Nat) (readings : List Int) (i : Nat) : (State.sensorCheck s ex readings i).kept = s.kept := State.still_kept (State.sensorCheck_still s ex readings i)

@[simp] theorem State.sensorCheck_ram (s : State) (ex : Nat) (readings : List Int) (i : Nat) : (State.sensorCheck s ex readings i).ram = s.ram := State.still_ram (State.sensorCheck_still s ex readings i)

@[simp] theorem State.rateChecks_still (s : State) (on : List Nat) (rate : Nat → Int) : (State.rateChecks s on rate).still = s.still := by
  unfold State.rateChecks; (try simp); all_goals ((repeat' split) <;> (first | with_reducible rfl | (simp; done) | (simp_all; done)))

@[simp] theorem State.rateChecks_outer (s : State) (on : List Nat) (rate : Nat → Int) : (State.rateChecks s on rate).outer = s.outer := State.still_outer (State.rateChecks_still s on rate)

@[simp] theorem State.rateChecks_kept (s : State) (on : List Nat) (rate : Nat → Int) : (State.rateChecks s on rate).kept = s.kept := State.still_kept (State.rateChecks_still s on rate)

@[simp] theorem State.rateChecks_ram (s : State) (on : List Nat) (rate : Nat → Int) : (State.rateChecks s on rate).ram = s.ram := State.still_ram (State.rateChecks_still s on rate)

@[simp] theorem State.throttleExpiry_still (s : State) : (State.throttleExpiry s).still = s.still := by
  unfold State.throttleExpiry; (try simp); all_goals ((repeat' split) <;> (first | with_reducible rfl | (simp; done) | (simp_all; done)))

@[simp] theorem State.throttleExpiry_outer (s : State) : (State.throttleExpiry s).outer = s.outer := State.still_outer (State.throttleExpiry_still s)

@[simp] theorem State.throttleExpiry_kept (s : State) : (State.throttleExpiry s).kept = s.kept := State.still_kept (State.throttleExpiry_still s)

@[simp] theorem State.throttleExpiry_ram (s : State) : (State.throttleExpiry s).ram = s.ram := State.still_ram (State.throttleExpiry_still s)

@[simp] theorem State.critical_still (s : State) (i : Nat) : (State.critical s i).still = s.still := by
  unfold State.critical; (try simp); all_goals ((repeat' split) <;> (first | with_reducible rfl | (simp; done) | (simp_all; done)))

@[simp] theorem State.critical_outer (s : State) (i : Nat) : (State.critical s i).outer = s.outer := State.still_outer (State.critical_still s i)

@[simp] theorem State.critical_kept (s : State) (i : Nat) : (State.critical s i).kept = s.kept := State.still_kept (State.critical_still s i)

@[simp] theorem State.critical_ram (s : State) (i : Nat) : (State.critical s i).ram = s.ram := State.still_ram (State.critical_still s i)

@[simp] theorem State.criticalCheck_still (s : State) (on : List Nat) (readings : List Int) : (State.criticalCheck s on readings).still = s.still := by
  unfold State.criticalCheck; (try simp); all_goals ((repeat' split) <;> (first | with_reducible rfl | (simp; done) | (simp_all; done)))

@[simp] theorem State.criticalCheck_outer (s : State) (on : List Nat) (readings : List Int) : (State.criticalCheck s on readings).outer = s.outer := State.still_outer (State.criticalCheck_still s on readings)

@[simp] theorem State.criticalCheck_kept (s : State) (on : List Nat) (readings : List Int) : (State.criticalCheck s on readings).kept = s.kept := State.still_kept (State.criticalCheck_still s on readings)

@[simp] theorem State.criticalCheck_ram (s : State) (on : List Nat) (readings : List Int) : (State.criticalCheck s on readings).ram = s.ram := State.still_ram (State.criticalCheck_still s on readings)

@[simp] theorem State.bandMoved_still (s : State) (l : Nat) (band : Nat) : (State.bandMoved s l band).still = s.still := by
  unfold State.bandMoved; (try simp); all_goals ((repeat' split) <;> (first | with_reducible rfl | (simp; done) | (simp_all; done)))

@[simp] theorem State.bandMoved_outer (s : State) (l : Nat) (band : Nat) : (State.bandMoved s l band).outer = s.outer := State.still_outer (State.bandMoved_still s l band)

@[simp] theorem State.bandMoved_kept (s : State) (l : Nat) (band : Nat) : (State.bandMoved s l band).kept = s.kept := State.still_kept (State.bandMoved_still s l band)

@[simp] theorem State.bandMoved_ram (s : State) (l : Nat) (band : Nat) : (State.bandMoved s l band).ram = s.ram := State.still_ram (State.bandMoved_still s l band)

@[simp] theorem State.bandChecks_still (s : State) : (State.bandChecks s).still = s.still := by
  unfold State.bandChecks; (try simp); all_goals ((repeat' split) <;> (first | with_reducible rfl | (simp; done) | (simp_all; done)))

@[simp] theorem State.bandChecks_outer (s : State) : (State.bandChecks s).outer = s.outer := State.still_outer (State.bandChecks_still s)

@[simp] theorem State.bandChecks_kept (s : State) : (State.bandChecks s).kept = s.kept := State.still_kept (State.bandChecks_still s)

@[simp] theorem State.bandChecks_ram (s : State) : (State.bandChecks s).ram = s.ram := State.still_ram (State.bandChecks_still s)

@[simp] theorem State.sensorSample_still (s : State) (readings : List Int) (self : Nat) : (State.sensorSample s readings self).still = s.still := by
  unfold State.sensorSample; (try simp); all_goals ((repeat' split) <;> (first | with_reducible rfl | (simp; done) | (simp_all; done)))

@[simp] theorem State.sensorSample_outer (s : State) (readings : List Int) (self : Nat) : (State.sensorSample s readings self).outer = s.outer := State.still_outer (State.sensorSample_still s readings self)

@[simp] theorem State.sensorSample_kept (s : State) (readings : List Int) (self : Nat) : (State.sensorSample s readings self).kept = s.kept := State.still_kept (State.sensorSample_still s readings self)

@[simp] theorem State.sensorSample_ram (s : State) (readings : List Int) (self : Nat) : (State.sensorSample s readings self).ram = s.ram := State.still_ram (State.sensorSample_still s readings self)

@[simp] theorem State.calibRun_still (s : State) (u : Nat) : (State.calibRun s u).still = s.still := by
  unfold State.calibRun; (try simp); all_goals ((repeat' split) <;> (first | with_reducible rfl | (simp; done) | (simp_all; done)))

@[simp] theorem State.calibRun_outer (s : State) (u : Nat) : (State.calibRun s u).outer = s.outer := State.still_outer (State.calibRun_still s u)

@[simp] theorem State.calibRun_kept (s : State) (u : Nat) : (State.calibRun s u).kept = s.kept := State.still_kept (State.calibRun_still s u)

@[simp] theorem State.calibRun_ram (s : State) (u : Nat) : (State.calibRun s u).ram = s.ram := State.still_ram (State.calibRun_still s u)

@[simp] theorem State.calibDone_still (s : State) (u : Nat) (margin : Nat) (load : Nat) : (State.calibDone s u margin load).still = s.still := by
  unfold State.calibDone; (try simp); all_goals ((repeat' split) <;> (first | with_reducible rfl | (simp; done) | (simp_all; done)))

@[simp] theorem State.calibDone_outer (s : State) (u : Nat) (margin : Nat) (load : Nat) : (State.calibDone s u margin load).outer = s.outer := State.still_outer (State.calibDone_still s u margin load)

@[simp] theorem State.calibDone_kept (s : State) (u : Nat) (margin : Nat) (load : Nat) : (State.calibDone s u margin load).kept = s.kept := State.still_kept (State.calibDone_still s u margin load)

@[simp] theorem State.calibDone_ram (s : State) (u : Nat) (margin : Nat) (load : Nat) : (State.calibDone s u margin load).ram = s.ram := State.still_ram (State.calibDone_still s u margin load)

end Sys2Proof.Machine
end

