-- ==== Sys2Proof/Laws/OuterSettle.lean ====
section
/-! SUPPORT. What the operations of Machine/Settle.lean leave alone: the queue, the idle time, the clock and the boot record (`outer`); flash, settings copies, update service and recovery (`kept`); the bytes of DRAM and staging (`ram`). -/

namespace Sys2Proof.Machine

@[simp] theorem State.take_still (s : State) : (State.take s).still = s.still := by
  unfold State.take; (try simp); all_goals ((repeat' split) <;> (first | with_reducible rfl | (simp; done) | (simp_all; done)))

@[simp] theorem State.take_outer (s : State) : (State.take s).outer = s.outer := State.still_outer (State.take_still s)

@[simp] theorem State.take_kept (s : State) : (State.take s).kept = s.kept := State.still_kept (State.take_still s)

@[simp] theorem State.take_ram (s : State) : (State.take s).ram = s.ram := State.still_ram (State.take_still s)

@[simp] theorem State.setFstat_still (s : State) (i : Nat) (b : Bool) : (State.setFstat s i b).still = s.still := by
  unfold State.setFstat; (try simp); all_goals ((repeat' split) <;> (first | with_reducible rfl | (simp; done) | (simp_all; done)))

@[simp] theorem State.setFstat_outer (s : State) (i : Nat) (b : Bool) : (State.setFstat s i b).outer = s.outer := State.still_outer (State.setFstat_still s i b)

@[simp] theorem State.setFstat_kept (s : State) (i : Nat) (b : Bool) : (State.setFstat s i b).kept = s.kept := State.still_kept (State.setFstat_still s i b)

@[simp] theorem State.setFstat_ram (s : State) (i : Nat) (b : Bool) : (State.setFstat s i b).ram = s.ram := State.still_ram (State.setFstat_still s i b)

@[simp] theorem State.safeEvent_still (s : State) (entered : Bool) (cause : Nat) (src : Nat) : (State.safeEvent s entered cause src).still = s.still := by
  unfold State.safeEvent; (try simp); all_goals ((repeat' split) <;> (first | with_reducible rfl | (simp; done) | (simp_all; done)))

@[simp] theorem State.safeEvent_outer (s : State) (entered : Bool) (cause : Nat) (src : Nat) : (State.safeEvent s entered cause src).outer = s.outer := State.still_outer (State.safeEvent_still s entered cause src)

@[simp] theorem State.safeEvent_kept (s : State) (entered : Bool) (cause : Nat) (src : Nat) : (State.safeEvent s entered cause src).kept = s.kept := State.still_kept (State.safeEvent_still s entered cause src)

@[simp] theorem State.safeEvent_ram (s : State) (entered : Bool) (cause : Nat) (src : Nat) : (State.safeEvent s entered cause src).ram = s.ram := State.still_ram (State.safeEvent_still s entered cause src)

@[simp] theorem State.enterSafe_still (s : State) : (State.enterSafe s).still = s.still := by
  unfold State.enterSafe; (try simp); all_goals ((repeat' split) <;> (first | with_reducible rfl | (simp; done) | (simp_all; done)))

@[simp] theorem State.enterSafe_outer (s : State) : (State.enterSafe s).outer = s.outer := State.still_outer (State.enterSafe_still s)

@[simp] theorem State.enterSafe_kept (s : State) : (State.enterSafe s).kept = s.kept := State.still_kept (State.enterSafe_still s)

@[simp] theorem State.enterSafe_ram (s : State) : (State.enterSafe s).ram = s.ram := State.still_ram (State.enterSafe_still s)

@[simp] theorem State.stayOut_still (s : State) : (State.stayOut s).still = s.still := by
  unfold State.stayOut; (try simp); all_goals ((repeat' split) <;> (first | with_reducible rfl | (simp; done) | (simp_all; done)))

@[simp] theorem State.stayOut_outer (s : State) : (State.stayOut s).outer = s.outer := State.still_outer (State.stayOut_still s)

@[simp] theorem State.stayOut_kept (s : State) : (State.stayOut s).kept = s.kept := State.still_kept (State.stayOut_still s)

@[simp] theorem State.stayOut_ram (s : State) : (State.stayOut s).ram = s.ram := State.still_ram (State.stayOut_still s)

@[simp] theorem State.entered_still (s : State) : (State.entered s).still = s.still := by
  unfold State.entered; (try simp); all_goals ((repeat' split) <;> (first | with_reducible rfl | (simp; done) | (simp_all; done)))

@[simp] theorem State.entered_outer (s : State) : (State.entered s).outer = s.outer := State.still_outer (State.entered_still s)

@[simp] theorem State.entered_kept (s : State) : (State.entered s).kept = s.kept := State.still_kept (State.entered_still s)

@[simp] theorem State.entered_ram (s : State) : (State.entered s).ram = s.ram := State.still_ram (State.entered_still s)

@[simp] theorem State.settle_still (s : State) : (State.settle s).still = s.still := by
  unfold State.settle; (try simp); all_goals ((repeat' split) <;> (first | with_reducible rfl | (simp; done) | (simp_all; done)))

@[simp] theorem State.settle_outer (s : State) : (State.settle s).outer = s.outer := State.still_outer (State.settle_still s)

@[simp] theorem State.settle_kept (s : State) : (State.settle s).kept = s.kept := State.still_kept (State.settle_still s)

@[simp] theorem State.settle_ram (s : State) : (State.settle s).ram = s.ram := State.still_ram (State.settle_still s)

@[simp] theorem State.causesAgain_still (s : State) : (State.causesAgain s).still = s.still := by
  unfold State.causesAgain; (try simp); all_goals ((repeat' split) <;> (first | with_reducible rfl | (simp; done) | (simp_all; done)))

@[simp] theorem State.causesAgain_outer (s : State) : (State.causesAgain s).outer = s.outer := State.still_outer (State.causesAgain_still s)

@[simp] theorem State.causesAgain_kept (s : State) : (State.causesAgain s).kept = s.kept := State.still_kept (State.causesAgain_still s)

@[simp] theorem State.causesAgain_ram (s : State) : (State.causesAgain s).ram = s.ram := State.still_ram (State.causesAgain_still s)

@[simp] theorem State.leaveSafe_still (s : State) : (State.leaveSafe s).still = s.still := by
  unfold State.leaveSafe; (try simp); all_goals ((repeat' split) <;> (first | with_reducible rfl | (simp; done) | (simp_all; done)))

@[simp] theorem State.leaveSafe_outer (s : State) : (State.leaveSafe s).outer = s.outer := State.still_outer (State.leaveSafe_still s)

@[simp] theorem State.leaveSafe_kept (s : State) : (State.leaveSafe s).kept = s.kept := State.still_kept (State.leaveSafe_still s)

@[simp] theorem State.leaveSafe_ram (s : State) : (State.leaveSafe s).ram = s.ram := State.still_ram (State.leaveSafe_still s)

@[simp] theorem State.faultClear_still (s : State) : (State.faultClear s).1.still = s.still := by
  unfold State.faultClear; dsimp only; (repeat' split) <;> simp

@[simp] theorem State.faultClear_outer (s : State) : (State.faultClear s).1.outer = s.outer := State.still_outer (State.faultClear_still s)

@[simp] theorem State.faultClear_kept (s : State) : (State.faultClear s).1.kept = s.kept := State.still_kept (State.faultClear_still s)

@[simp] theorem State.faultClear_ram (s : State) : (State.faultClear s).1.ram = s.ram := State.still_ram (State.faultClear_still s)

@[simp] theorem State.commandSafe_still (s : State) : (State.commandSafe s).1.still = s.still := by
  unfold State.commandSafe; (try simp); all_goals ((repeat' split) <;> (first | with_reducible rfl | (simp; done) | (simp_all; done)))

@[simp] theorem State.commandSafe_outer (s : State) : (State.commandSafe s).1.outer = s.outer := State.still_outer (State.commandSafe_still s)

@[simp] theorem State.commandSafe_kept (s : State) : (State.commandSafe s).1.kept = s.kept := State.still_kept (State.commandSafe_still s)

@[simp] theorem State.commandSafe_ram (s : State) : (State.commandSafe s).1.ram = s.ram := State.still_ram (State.commandSafe_still s)

@[simp] theorem State.windowConfig_still (s : State) (n : Nat) (sub : Nat) (v : Nat) : (State.windowConfig s n sub v).still = s.still := by
  unfold State.windowConfig; (try simp); all_goals ((repeat' split) <;> (first | with_reducible rfl | (simp; done) | (simp_all; done)))

@[simp] theorem State.windowConfig_outer (s : State) (n : Nat) (sub : Nat) (v : Nat) : (State.windowConfig s n sub v).outer = s.outer := State.still_outer (State.windowConfig_still s n sub v)

@[simp] theorem State.windowConfig_kept (s : State) (n : Nat) (sub : Nat) (v : Nat) : (State.windowConfig s n sub v).kept = s.kept := State.still_kept (State.windowConfig_still s n sub v)

@[simp] theorem State.windowConfig_ram (s : State) (n : Nat) (sub : Nat) (v : Nat) : (State.windowConfig s n sub v).ram = s.ram := State.still_ram (State.windowConfig_still s n sub v)

@[simp] theorem State.countingClose_still (s : State) (n : Nat) : (State.countingClose s n).still = s.still := by
  unfold State.countingClose; (try simp); all_goals ((repeat' split) <;> (first | with_reducible rfl | (simp; done) | (simp_all; done)))

@[simp] theorem State.countingClose_outer (s : State) (n : Nat) : (State.countingClose s n).outer = s.outer := State.still_outer (State.countingClose_still s n)

@[simp] theorem State.countingClose_kept (s : State) (n : Nat) : (State.countingClose s n).kept = s.kept := State.still_kept (State.countingClose_still s n)

@[simp] theorem State.countingClose_ram (s : State) (n : Nat) : (State.countingClose s n).ram = s.ram := State.still_ram (State.countingClose_still s n)

end Sys2Proof.Machine
end

