-- ==== Sys2Proof/Laws/OuterTap.lean ====
section
/-! SUPPORT. What the operations of Machine/Tap.lean leave alone: the queue, the idle time, the clock and the boot record (`outer`); flash, settings copies, update service and recovery (`kept`); the bytes of DRAM and staging (`ram`). -/

namespace Sys2Proof.Machine

@[simp] theorem State.tapRun_kept (s : State) (l : List TapClock) : (State.tapRun s l).kept = s.kept := by
  unfold State.tapRun; (try simp); all_goals ((repeat' split) <;> (first | with_reducible rfl | (simp; done) | (simp_all; done)))

@[simp] theorem State.tapRun_ram (s : State) (l : List TapClock) : (State.tapRun s l).ram = s.ram := by
  unfold State.tapRun; (try simp); all_goals ((repeat' split) <;> (first | with_reducible rfl | (simp; done) | (simp_all; done)))

end Sys2Proof.Machine
end

