-- ==== Sys2Proof/Laws/OuterBoot.lean ====
section
/-! SUPPORT. What the operations of Machine/Boot.lean leave alone: the queue, the idle time, the clock and the boot record (`outer`); flash, settings copies, update service and recovery (`kept`); the bytes of DRAM and staging (`ram`). -/

namespace Sys2Proof.Machine

@[simp] theorem State.putByteAt_still (s : State) (a : Nat) (v : Byte) : (State.putByteAt s a v).still = s.still := by
  unfold State.putByteAt; (try simp); all_goals ((repeat' split) <;> (first | with_reducible rfl | (simp; done) | (simp_all; done)))

@[simp] theorem State.putByteAt_outer (s : State) (a : Nat) (v : Byte) : (State.putByteAt s a v).outer = s.outer := State.still_outer (State.putByteAt_still s a v)

@[simp] theorem State.putByteAt_kept (s : State) (a : Nat) (v : Byte) : (State.putByteAt s a v).kept = s.kept := State.still_kept (State.putByteAt_still s a v)

@[simp] theorem State.putByteAt_ram (s : State) (a : Nat) (v : Byte) : (State.putByteAt s a v).ram = s.ram := State.still_ram (State.putByteAt_still s a v)

@[simp] theorem State.putCopy_outer (s : State) (b : Bool) (c : Settings) : (State.putCopy s b c).outer = s.outer := by
  unfold State.putCopy; (try simp); all_goals ((repeat' split) <;> (first | with_reducible rfl | (simp; done) | (simp_all; done)))

@[simp] theorem State.putCopy_ram (s : State) (b : Bool) (c : Settings) : (State.putCopy s b c).ram = s.ram := by
  unfold State.putCopy; (try simp); all_goals ((repeat' split) <;> (first | with_reducible rfl | (simp; done) | (simp_all; done)))

@[simp] theorem State.settingsSave_outer (s : State) : (State.settingsSave s).outer = s.outer := by
  unfold State.settingsSave; (try simp); all_goals ((repeat' split) <;> (first | with_reducible rfl | (simp; done) | (simp_all; done)))

@[simp] theorem State.settingsSave_ram (s : State) : (State.settingsSave s).ram = s.ram := by
  unfold State.settingsSave; (try simp); all_goals ((repeat' split) <;> (first | with_reducible rfl | (simp; done) | (simp_all; done)))

@[simp] theorem State.settingsErase_still (s : State) : (State.settingsErase s).still = s.still := by
  unfold State.settingsErase; (try simp); all_goals ((repeat' split) <;> (first | with_reducible rfl | (simp; done) | (simp_all; done)))

@[simp] theorem State.settingsErase_outer (s : State) : (State.settingsErase s).outer = s.outer := State.still_outer (State.settingsErase_still s)

@[simp] theorem State.settingsErase_kept (s : State) : (State.settingsErase s).kept = s.kept := State.still_kept (State.settingsErase_still s)

@[simp] theorem State.settingsErase_ram (s : State) : (State.settingsErase s).ram = s.ram := State.still_ram (State.settingsErase_still s)

@[simp] theorem State.settingsDone_outer (s : State) (good : Bool) : (State.settingsDone s good).outer = s.outer := by
  unfold State.settingsDone; (try simp); all_goals ((repeat' split) <;> (first | with_reducible rfl | (simp; done) | (simp_all; done)))

@[simp] theorem State.settingsDone_ram (s : State) (good : Bool) : (State.settingsDone s good).ram = s.ram := by
  unfold State.settingsDone; (try simp); all_goals ((repeat' split) <;> (first | with_reducible rfl | (simp; done) | (simp_all; done)))

@[simp] theorem State.loadCopy_still (s : State) (c : Settings) : (State.loadCopy s c).still = s.still := by
  unfold State.loadCopy; (try simp); all_goals ((repeat' split) <;> (first | with_reducible rfl | (simp; done) | (simp_all; done)))

@[simp] theorem State.loadCopy_outer (s : State) (c : Settings) : (State.loadCopy s c).outer = s.outer := State.still_outer (State.loadCopy_still s c)

@[simp] theorem State.loadCopy_kept (s : State) (c : Settings) : (State.loadCopy s c).kept = s.kept := State.still_kept (State.loadCopy_still s c)

@[simp] theorem State.loadCopy_ram (s : State) (c : Settings) : (State.loadCopy s c).ram = s.ram := State.still_ram (State.loadCopy_still s c)

@[simp] theorem State.fwEvent_still (s : State) (kind : Nat) (comp : Nat) (result : Nat) (version : Nat) : (State.fwEvent s kind comp result version).still = s.still := by
  unfold State.fwEvent; (try simp); all_goals ((repeat' split) <;> (first | with_reducible rfl | (simp; done) | (simp_all; done)))

@[simp] theorem State.fwEvent_outer (s : State) (kind : Nat) (comp : Nat) (result : Nat) (version : Nat) : (State.fwEvent s kind comp result version).outer = s.outer := State.still_outer (State.fwEvent_still s kind comp result version)

@[simp] theorem State.fwEvent_kept (s : State) (kind : Nat) (comp : Nat) (result : Nat) (version : Nat) : (State.fwEvent s kind comp result version).kept = s.kept := State.still_kept (State.fwEvent_still s kind comp result version)

@[simp] theorem State.fwEvent_ram (s : State) (kind : Nat) (comp : Nat) (result : Nat) (version : Nat) : (State.fwEvent s kind comp result version).ram = s.ram := State.still_ram (State.fwEvent_still s kind comp result version)

@[simp] theorem State.settingsStart_outer (s : State) (slot : Nat) : (State.settingsStart s slot).1.outer = s.outer := by
  unfold State.settingsStart; (try simp); all_goals ((repeat' split) <;> (first | with_reducible rfl | (simp; done) | (simp_all; done)))

@[simp] theorem State.settingsStart_ram (s : State) (slot : Nat) : (State.settingsStart s slot).1.ram = s.ram := by
  unfold State.settingsStart; (try simp); all_goals ((repeat' split) <;> (first | with_reducible rfl | (simp; done) | (simp_all; done)))

@[simp] theorem State.abandonFlash_outer (s : State) : (State.abandonFlash s).outer = s.outer := by
  unfold State.abandonFlash; (try simp); all_goals ((repeat' split) <;> (first | with_reducible rfl | (simp; done) | (simp_all; done)))

@[simp] theorem State.abandonFlash_ram (s : State) : (State.abandonFlash s).ram = s.ram := by
  unfold State.abandonFlash; (try simp); all_goals ((repeat' split) <;> (first | with_reducible rfl | (simp; done) | (simp_all; done)))

@[simp] theorem State.loadComponent_outer (s : State) (c : Nat) : (State.loadComponent s c).outer = s.outer := by
  unfold State.loadComponent; (try simp); all_goals ((repeat' split) <;> (first | with_reducible rfl | (simp; done) | (simp_all; done)))

@[simp] theorem State.loadComponent_ram (s : State) (c : Nat) : (State.loadComponent s c).ram = s.ram := by
  unfold State.loadComponent; (try simp); all_goals ((repeat' split) <;> (first | with_reducible rfl | (simp; done) | (simp_all; done)))

@[simp] theorem State.firmwareRing_still (s : State) (q : Nat) : (State.firmwareRing s q).still = s.still := by
  unfold State.firmwareRing; (try simp); all_goals ((repeat' split) <;> (first | with_reducible rfl | (simp; done) | (simp_all; done)))

@[simp] theorem State.firmwareRing_outer (s : State) (q : Nat) : (State.firmwareRing s q).outer = s.outer := State.still_outer (State.firmwareRing_still s q)

@[simp] theorem State.firmwareRing_kept (s : State) (q : Nat) : (State.firmwareRing s q).kept = s.kept := State.still_kept (State.firmwareRing_still s q)

@[simp] theorem State.firmwareRing_ram (s : State) (q : Nat) : (State.firmwareRing s q).ram = s.ram := State.still_ram (State.firmwareRing_still s q)

@[simp] theorem State.startFunctions_outer (s : State) (cause : Nat) (wake : Nat) : (State.startFunctions s cause wake).outer = s.outer := by
  unfold State.startFunctions; (try simp); all_goals ((repeat' split) <;> (first | with_reducible rfl | (simp; done) | (simp_all; done)))

@[simp] theorem State.startFunctions_ram (s : State) (cause : Nat) (wake : Nat) : (State.startFunctions s cause wake).ram = s.ram := by
  unfold State.startFunctions; (try simp); all_goals ((repeat' split) <;> (first | with_reducible rfl | (simp; done) | (simp_all; done)))

@[simp] theorem State.scStart_ram (s : State) (slot : Nat) (cause : Nat) (shown : Nat) : (State.scStart s slot cause shown).1.ram = s.ram := by
  unfold State.scStart; (try simp); all_goals ((repeat' split) <;> (first | with_reducible rfl | (simp; done) | (simp_all; done)))

@[simp] theorem State.noteOther_kept (s : State) (other : Bool) : (State.noteOther s other).kept = s.kept := by
  unfold State.noteOther; (try simp); all_goals ((repeat' split) <;> (first | with_reducible rfl | (simp; done) | (simp_all; done)))

@[simp] theorem State.noteOther_ram (s : State) (other : Bool) : (State.noteOther s other).ram = s.ram := by
  unfold State.noteOther; (try simp); all_goals ((repeat' split) <;> (first | with_reducible rfl | (simp; done) | (simp_all; done)))

@[simp] theorem State.vbatRise_kept (s : State) : (State.vbatRise s).kept = s.kept := by
  unfold State.vbatRise; (try simp); all_goals ((repeat' split) <;> (first | with_reducible rfl | (simp; done) | (simp_all; done)))

@[simp] theorem State.vbatRise_ram (s : State) : (State.vbatRise s).ram = s.ram := by
  unfold State.vbatRise; (try simp); all_goals ((repeat' split) <;> (first | with_reducible rfl | (simp; done) | (simp_all; done)))

@[simp] theorem State.bootDone_ram (s : State) : (State.bootDone s).ram = s.ram := by
  unfold State.bootDone; (try simp); all_goals ((repeat' split) <;> (first | with_reducible rfl | (simp; done) | (simp_all; done)))

@[simp] theorem State.resetCommand_kept (s : State) : (State.resetCommand s).1.kept = s.kept := by
  unfold State.resetCommand; (try simp); all_goals ((repeat' split) <;> (first | with_reducible rfl | (simp; done) | (simp_all; done)))

@[simp] theorem State.resetCommand_ram (s : State) : (State.resetCommand s).1.ram = s.ram := by
  unfold State.resetCommand; (try simp); all_goals ((repeat' split) <;> (first | with_reducible rfl | (simp; done) | (simp_all; done)))

@[simp] theorem State.selfTestCodec_still (s : State) : (State.selfTestCodec s).still = s.still := by
  unfold State.selfTestCodec; (try simp); all_goals ((repeat' split) <;> (first | with_reducible rfl | (simp; done) | (simp_all; done)))

@[simp] theorem State.selfTestCodec_outer (s : State) : (State.selfTestCodec s).outer = s.outer := State.still_outer (State.selfTestCodec_still s)

@[simp] theorem State.selfTestCodec_kept (s : State) : (State.selfTestCodec s).kept = s.kept := State.still_kept (State.selfTestCodec_still s)

@[simp] theorem State.selfTestCodec_ram (s : State) : (State.selfTestCodec s).ram = s.ram := State.still_ram (State.selfTestCodec_still s)

@[simp] theorem State.selfTestCluster_still (s : State) (c : Nat) : (State.selfTestCluster s c).still = s.still := by
  unfold State.selfTestCluster; (try simp); all_goals ((repeat' split) <;> (first | with_reducible rfl | (simp; done) | (simp_all; done)))

@[simp] theorem State.selfTestCluster_outer (s : State) (c : Nat) : (State.selfTestCluster s c).outer = s.outer := State.still_outer (State.selfTestCluster_still s c)

@[simp] theorem State.selfTestCluster_kept (s : State) (c : Nat) : (State.selfTestCluster s c).kept = s.kept := State.still_kept (State.selfTestCluster_still s c)

@[simp] theorem State.selfTestCluster_ram (s : State) (c : Nat) : (State.selfTestCluster s c).ram = s.ram := State.still_ram (State.selfTestCluster_still s c)

end Sys2Proof.Machine
end

