-- ==== Sys2Proof/Laws/OuterPower.lean ====
section
/-! SUPPORT. What the operations of Machine/Power.lean leave alone: the queue, the idle time, the clock and the boot record (`outer`); flash, settings copies, update service and recovery (`kept`); the bytes of DRAM and staging (`ram`). -/

namespace Sys2Proof.Machine

@[simp] theorem State.endSession_still (s : State) (n : Nat) : (State.endSession s n).still = s.still := by
  unfold State.endSession; (try simp); all_goals ((repeat' split) <;> (first | with_reducible rfl | (simp; done) | (simp_all; done)))

@[simp] theorem State.endSession_outer (s : State) (n : Nat) : (State.endSession s n).outer = s.outer := State.still_outer (State.endSession_still s n)

@[simp] theorem State.endSession_kept (s : State) (n : Nat) : (State.endSession s n).kept = s.kept := State.still_kept (State.endSession_still s n)

@[simp] theorem State.endSession_ram (s : State) (n : Nat) : (State.endSession s n).ram = s.ram := State.still_ram (State.endSession_still s n)

@[simp] theorem State.storeEntry_still (s : State) (prev : Nat) : (State.storeEntry s prev).still = s.still := by
  unfold State.storeEntry; (try simp); all_goals ((repeat' split) <;> (first | with_reducible rfl | (simp; done) | (simp_all; done)))

@[simp] theorem State.storeEntry_outer (s : State) (prev : Nat) : (State.storeEntry s prev).outer = s.outer := State.still_outer (State.storeEntry_still s prev)

@[simp] theorem State.storeEntry_kept (s : State) (prev : Nat) : (State.storeEntry s prev).kept = s.kept := State.still_kept (State.storeEntry_still s prev)

@[simp] theorem State.storeEntry_ram (s : State) (prev : Nat) : (State.storeEntry s prev).ram = s.ram := State.still_ram (State.storeEntry_still s prev)

@[simp] theorem State.abandonUpdate_outer (s : State) : (State.abandonUpdate s).outer = s.outer := by
  unfold State.abandonUpdate; (try simp); all_goals ((repeat' split) <;> (first | with_reducible rfl | (simp; done) | (simp_all; done)))

@[simp] theorem State.abandonUpdate_ram (s : State) : (State.abandonUpdate s).ram = s.ram := by
  unfold State.abandonUpdate; (try simp); all_goals ((repeat' split) <;> (first | with_reducible rfl | (simp; done) | (simp_all; done)))

@[simp] theorem State.frogRest_still (s : State) : (State.frogRest s).still = s.still := by
  unfold State.frogRest; (try simp); all_goals ((repeat' split) <;> (first | with_reducible rfl | (simp; done) | (simp_all; done)))

@[simp] theorem State.frogRest_outer (s : State) : (State.frogRest s).outer = s.outer := State.still_outer (State.frogRest_still s)

@[simp] theorem State.frogRest_kept (s : State) : (State.frogRest s).kept = s.kept := State.still_kept (State.frogRest_still s)

@[simp] theorem State.frogRest_ram (s : State) : (State.frogRest s).ram = s.ram := State.still_ram (State.frogRest_still s)

@[simp] theorem State.powerRequest_kept (s : State) (want : Nat) : (State.powerRequest s want).1.kept = s.kept := by
  unfold State.powerRequest; (try simp); all_goals ((repeat' split) <;> (first | with_reducible rfl | (simp; done) | (simp_all; done)))

@[simp] theorem State.powerRequest_ram (s : State) (want : Nat) : (State.powerRequest s want).1.ram = s.ram := by
  unfold State.powerRequest; (try simp); all_goals ((repeat' split) <;> (first | with_reducible rfl | (simp; done) | (simp_all; done)))

@[simp] theorem State.keepExit_kept (s : State) (source : Nat) : (State.keepExit s source).kept = s.kept := by
  unfold State.keepExit; (try simp); all_goals ((repeat' split) <;> (first | with_reducible rfl | (simp; done) | (simp_all; done)))

@[simp] theorem State.keepExit_ram (s : State) (source : Nat) : (State.keepExit s source).ram = s.ram := by
  unfold State.keepExit; (try simp); all_goals ((repeat' split) <;> (first | with_reducible rfl | (simp; done) | (simp_all; done)))

end Sys2Proof.Machine
end

