-- ==== Sys2Proof/Laws/OuterUpdate.lean ====
section
/-! SUPPORT. What the operations of Machine/Update.lean leave alone: the queue, the idle time, the clock and the boot record (`outer`); flash, settings copies, update service and recovery (`kept`); the bytes of DRAM and staging (`ram`). -/

namespace Sys2Proof.Machine

@[simp] theorem State.updResult_still (s : State) (r : Nat) : (State.updResult s r).1.still = s.still := by
  unfold State.updResult; (try simp); all_goals ((repeat' split) <;> (first | with_reducible rfl | (simp; done) | (simp_all; done)))

@[simp] theorem State.updResult_outer (s : State) (r : Nat) : (State.updResult s r).1.outer = s.outer := State.still_outer (State.updResult_still s r)

@[simp] theorem State.updResult_kept (s : State) (r : Nat) : (State.updResult s r).1.kept = s.kept := State.still_kept (State.updResult_still s r)

@[simp] theorem State.updResult_ram (s : State) (r : Nat) : (State.updResult s r).1.ram = s.ram := State.still_ram (State.updResult_still s r)

@[simp] theorem State.updTo_still (s : State) (st : Nat) (kind : Nat) (result : Nat) : (State.updTo s st kind result).still = s.still := by
  unfold State.updTo; (try simp); all_goals ((repeat' split) <;> (first | with_reducible rfl | (simp; done) | (simp_all; done)))

@[simp] theorem State.updTo_outer (s : State) (st : Nat) (kind : Nat) (result : Nat) : (State.updTo s st kind result).outer = s.outer := State.still_outer (State.updTo_still s st kind result)

@[simp] theorem State.updTo_kept (s : State) (st : Nat) (kind : Nat) (result : Nat) : (State.updTo s st kind result).kept = s.kept := State.still_kept (State.updTo_still s st kind result)

@[simp] theorem State.updTo_ram (s : State) (st : Nat) (kind : Nat) (result : Nat) : (State.updTo s st kind result).ram = s.ram := State.still_ram (State.updTo_still s st kind result)

@[simp] theorem State.updVerify_outer (s : State) : (State.updVerify s).1.outer = s.outer := by
  unfold State.updVerify; (try simp); all_goals ((repeat' split) <;> (first | with_reducible rfl | (simp; done) | (simp_all; done)))

@[simp] theorem State.updVerify_ram (s : State) : (State.updVerify s).1.ram = s.ram := by
  unfold State.updVerify; (try simp); all_goals ((repeat' split) <;> (first | with_reducible rfl | (simp; done) | (simp_all; done)))

@[simp] theorem State.updChecked_outer (s : State) : (State.updChecked s).outer = s.outer := by
  unfold State.updChecked; (try simp); all_goals ((repeat' split) <;> (first | with_reducible rfl | (simp; done) | (simp_all; done)))

@[simp] theorem State.updChecked_ram (s : State) : (State.updChecked s).ram = s.ram := by
  unfold State.updChecked; (try simp); all_goals ((repeat' split) <;> (first | with_reducible rfl | (simp; done) | (simp_all; done)))

@[simp] theorem State.updInstall_outer (s : State) : (State.updInstall s).1.outer = s.outer := by
  unfold State.updInstall; (try simp); all_goals ((repeat' split) <;> (first | with_reducible rfl | (simp; done) | (simp_all; done)))

@[simp] theorem State.updInstall_ram (s : State) : (State.updInstall s).1.ram = s.ram := by
  unfold State.updInstall; (try simp); all_goals ((repeat' split) <;> (first | with_reducible rfl | (simp; done) | (simp_all; done)))

@[simp] theorem State.slotFill_outer (s : State) (c : Nat) (slot : Nat) (st : Nat) (h : Bytes) (image : Bytes) : (State.slotFill s c slot st h image).outer = s.outer := by
  unfold State.slotFill; (try simp); all_goals ((repeat' split) <;> (first | with_reducible rfl | (simp; done) | (simp_all; done)))

@[simp] theorem State.slotFill_ram (s : State) (c : Nat) (slot : Nat) (st : Nat) (h : Bytes) (image : Bytes) : (State.slotFill s c slot st h image).ram = s.ram := by
  unfold State.slotFill; (try simp); all_goals ((repeat' split) <;> (first | with_reducible rfl | (simp; done) | (simp_all; done)))

@[simp] theorem State.updInstalled_outer (s : State) (good : Bool) : (State.updInstalled s good).outer = s.outer := by
  unfold State.updInstalled; (try simp); all_goals ((repeat' split) <;> (first | with_reducible rfl | (simp; done) | (simp_all; done)))

@[simp] theorem State.updInstalled_ram (s : State) (good : Bool) : (State.updInstalled s good).ram = s.ram := by
  unfold State.updInstalled; (try simp); all_goals ((repeat' split) <;> (first | with_reducible rfl | (simp; done) | (simp_all; done)))

@[simp] theorem State.updGo_ram (s : State) : (State.updGo s).1.ram = s.ram := by
  unfold State.updGo; (try simp); all_goals ((repeat' split) <;> (first | with_reducible rfl | (simp; done) | (simp_all; done)))

@[simp] theorem State.updActivate_ram (s : State) : (State.updActivate s).1.ram = s.ram := by
  unfold State.updActivate; (try simp); all_goals ((repeat' split) <;> (first | with_reducible rfl | (simp; done) | (simp_all; done)))

@[simp] theorem State.updBack_outer (s : State) : (State.updBack s).outer = s.outer := by
  unfold State.updBack; (try simp); all_goals ((repeat' split) <;> (first | with_reducible rfl | (simp; done) | (simp_all; done)))

@[simp] theorem State.updBack_ram (s : State) : (State.updBack s).ram = s.ram := by
  unfold State.updBack; (try simp); all_goals ((repeat' split) <;> (first | with_reducible rfl | (simp; done) | (simp_all; done)))

@[simp] theorem State.updBoundary_outer (s : State) : (State.updBoundary s).outer = s.outer := by
  unfold State.updBoundary; (try simp); all_goals ((repeat' split) <;> (first | with_reducible rfl | (simp; done) | (simp_all; done)))

@[simp] theorem State.updBoundary_ram (s : State) : (State.updBoundary s).ram = s.ram := by
  unfold State.updBoundary; (try simp); all_goals ((repeat' split) <;> (first | with_reducible rfl | (simp; done) | (simp_all; done)))

@[simp] theorem State.updTrial_outer (s : State) (good : Bool) : (State.updTrial s good).outer = s.outer := by
  unfold State.updTrial; (try simp); all_goals ((repeat' split) <;> (first | with_reducible rfl | (simp; done) | (simp_all; done)))

@[simp] theorem State.updTrial_ram (s : State) (good : Bool) : (State.updTrial s good).ram = s.ram := by
  unfold State.updTrial; (try simp); all_goals ((repeat' split) <;> (first | with_reducible rfl | (simp; done) | (simp_all; done)))

@[simp] theorem State.updRevert_ram (s : State) : (State.updRevert s).1.ram = s.ram := by
  unfold State.updRevert; (try simp); all_goals ((repeat' split) <;> (first | with_reducible rfl | (simp; done) | (simp_all; done)))

@[simp] theorem State.updAbort_outer (s : State) : (State.updAbort s).1.outer = s.outer := by
  unfold State.updAbort; (try simp); all_goals ((repeat' split) <;> (first | with_reducible rfl | (simp; done) | (simp_all; done)))

@[simp] theorem State.updAbort_ram (s : State) : (State.updAbort s).1.ram = s.ram := by
  unfold State.updAbort; (try simp); all_goals ((repeat' split) <;> (first | with_reducible rfl | (simp; done) | (simp_all; done)))

end Sys2Proof.Machine
end

