-- ==== Sys2Proof/Laws/OuterRecovery.lean ====
section
/-! SUPPORT. What the operations of Machine/Recovery.lean leave alone: the queue, the idle time, the clock and the boot record (`outer`); flash, settings copies, update service and recovery (`kept`); the bytes of DRAM and staging (`ram`). -/

namespace Sys2Proof.Machine

@[simp] theorem State.recoveryWrite_outer (s : State) (b : Bytes) : (State.recoveryWrite s b).outer = s.outer := by
  unfold State.recoveryWrite; (try simp); all_goals ((repeat' split) <;> (first | with_reducible rfl | (simp; done) | (simp_all; done)))

@[simp] theorem State.recoveryWrite_ram (s : State) (b : Bytes) : (State.recoveryWrite s b).ram = s.ram := by
  unfold State.recoveryWrite; (try simp); all_goals ((repeat' split) <;> (first | with_reducible rfl | (simp; done) | (simp_all; done)))

@[simp] theorem State.recoveryEnd_ram (s : State) : (State.recoveryEnd s).ram = s.ram := by
  unfold State.recoveryEnd; (try simp); all_goals ((repeat' split) <;> (first | with_reducible rfl | (simp; done) | (simp_all; done)))

@[simp] theorem State.tftpNo_still (s : State) (p : Peer) (code : Nat) (text : Bytes) : (State.tftpNo s p code text).still = s.still := by
  unfold State.tftpNo; (try simp); all_goals ((repeat' split) <;> (first | with_reducible rfl | (simp; done) | (simp_all; done)))

@[simp] theorem State.tftpNo_outer (s : State) (p : Peer) (code : Nat) (text : Bytes) : (State.tftpNo s p code text).outer = s.outer := State.still_outer (State.tftpNo_still s p code text)

@[simp] theorem State.tftpNo_kept (s : State) (p : Peer) (code : Nat) (text : Bytes) : (State.tftpNo s p code text).kept = s.kept := State.still_kept (State.tftpNo_still s p code text)

@[simp] theorem State.tftpNo_ram (s : State) (p : Peer) (code : Nat) (text : Bytes) : (State.tftpNo s p code text).ram = s.ram := State.still_ram (State.tftpNo_still s p code text)

@[simp] theorem State.tftpAck_outer (s : State) (p : Peer) (n : Nat) : (State.tftpAck s p n).outer = s.outer := by
  unfold State.tftpAck; (try simp); all_goals ((repeat' split) <;> (first | with_reducible rfl | (simp; done) | (simp_all; done)))

@[simp] theorem State.tftpAck_ram (s : State) (p : Peer) (n : Nat) : (State.tftpAck s p n).ram = s.ram := by
  unfold State.tftpAck; (try simp); all_goals ((repeat' split) <;> (first | with_reducible rfl | (simp; done) | (simp_all; done)))

@[simp] theorem State.tftpClose_outer (s : State) : (State.tftpClose s).outer = s.outer := by
  unfold State.tftpClose; (try simp); all_goals ((repeat' split) <;> (first | with_reducible rfl | (simp; done) | (simp_all; done)))

@[simp] theorem State.tftpClose_ram (s : State) : (State.tftpClose s).ram = s.ram := by
  unfold State.tftpClose; (try simp); all_goals ((repeat' split) <;> (first | with_reducible rfl | (simp; done) | (simp_all; done)))

@[simp] theorem State.tftpRequest_outer (s : State) (p : Peer) (name : Bytes) (octet : Bool) (read : Bool) : (State.tftpRequest s p name octet read).outer = s.outer := by
  unfold State.tftpRequest; (try simp); all_goals ((repeat' split) <;> (first | with_reducible rfl | (simp; done) | (simp_all; done)))

@[simp] theorem State.tftpRequest_ram (s : State) (p : Peer) (name : Bytes) (octet : Bool) (read : Bool) : (State.tftpRequest s p name octet read).ram = s.ram := by
  unfold State.tftpRequest; (try simp); all_goals ((repeat' split) <;> (first | with_reducible rfl | (simp; done) | (simp_all; done)))

@[simp] theorem State.tftpEnd_ram (s : State) (p : Peer) (n : Nat) : (State.tftpEnd s p n).ram = s.ram := by
  unfold State.tftpEnd; (try simp); all_goals ((repeat' split) <;> (first | with_reducible rfl | (simp; done) | (simp_all; done)))

@[simp] theorem State.tftpBlock_ram (s : State) (p : Peer) (n : Nat) (d : Bytes) : (State.tftpBlock s p n d).ram = s.ram := by
  unfold State.tftpBlock; (try simp); all_goals ((repeat' split) <;> (first | with_reducible rfl | (simp; done) | (simp_all; done)))

@[simp] theorem State.tftpAgain_outer (s : State) : (State.tftpAgain s).outer = s.outer := by
  unfold State.tftpAgain; (try simp); all_goals ((repeat' split) <;> (first | with_reducible rfl | (simp; done) | (simp_all; done)))

@[simp] theorem State.tftpAgain_ram (s : State) : (State.tftpAgain s).ram = s.ram := by
  unfold State.tftpAgain; (try simp); all_goals ((repeat' split) <;> (first | with_reducible rfl | (simp; done) | (simp_all; done)))

@[simp] theorem State.uartAnswer_still (s : State) (ty : Nat) (status : Nat) (result : Nat) : (State.uartAnswer s ty status result).still = s.still := by
  unfold State.uartAnswer; (try simp); all_goals ((repeat' split) <;> (first | with_reducible rfl | (simp; done) | (simp_all; done)))

@[simp] theorem State.uartAnswer_outer (s : State) (ty : Nat) (status : Nat) (result : Nat) : (State.uartAnswer s ty status result).outer = s.outer := State.still_outer (State.uartAnswer_still s ty status result)

@[simp] theorem State.uartAnswer_kept (s : State) (ty : Nat) (status : Nat) (result : Nat) : (State.uartAnswer s ty status result).kept = s.kept := State.still_kept (State.uartAnswer_still s ty status result)

@[simp] theorem State.uartAnswer_ram (s : State) (ty : Nat) (status : Nat) (result : Nat) : (State.uartAnswer s ty status result).ram = s.ram := State.still_ram (State.uartAnswer_still s ty status result)

@[simp] theorem State.uartOpen_outer (s : State) (good : Bool) (name : Bytes) : (State.uartOpen s good name).outer = s.outer := by
  unfold State.uartOpen; (try simp); all_goals ((repeat' split) <;> (first | with_reducible rfl | (simp; done) | (simp_all; done)))

@[simp] theorem State.uartOpen_ram (s : State) (good : Bool) (name : Bytes) : (State.uartOpen s good name).ram = s.ram := by
  unfold State.uartOpen; (try simp); all_goals ((repeat' split) <;> (first | with_reducible rfl | (simp; done) | (simp_all; done)))

@[simp] theorem State.uartData_outer (s : State) (good : Bool) (body : Bytes) : (State.uartData s good body).outer = s.outer := by
  unfold State.uartData; (try simp); all_goals ((repeat' split) <;> (first | with_reducible rfl | (simp; done) | (simp_all; done)))

@[simp] theorem State.uartData_ram (s : State) (good : Bool) (body : Bytes) : (State.uartData s good body).ram = s.ram := by
  unfold State.uartData; (try simp); all_goals ((repeat' split) <;> (first | with_reducible rfl | (simp; done) | (simp_all; done)))

@[simp] theorem State.uartClose_ram (s : State) (good : Bool) (body : Bytes) : (State.uartClose s good body).ram = s.ram := by
  unfold State.uartClose; (try simp); all_goals ((repeat' split) <;> (first | with_reducible rfl | (simp; done) | (simp_all; done)))

@[simp] theorem State.uartReset_ram (s : State) (good : Bool) : (State.uartReset s good).ram = s.ram := by
  unfold State.uartReset; (try simp); all_goals ((repeat' split) <;> (first | with_reducible rfl | (simp; done) | (simp_all; done)))

end Sys2Proof.Machine
end

