-- ==== Sys2Proof/Laws/OuterQueues.lean ====
section
/-! SUPPORT. What the operations of Machine/Queues.lean leave alone: the queue, the idle time, the clock and the boot record (`outer`); flash, settings copies, update service and recovery (`kept`); the bytes of DRAM and staging (`ram`). -/

namespace Sys2Proof.Machine

@[simp] theorem State.queueResult_still (s : State) (q : Nat) (r : Nat) (status : Nat) : (State.queueResult s q r status).1.still = s.still := by
  unfold State.queueResult; (try simp); all_goals ((repeat' split) <;> (first | with_reducible rfl | (simp; done) | (simp_all; done)))

@[simp] theorem State.queueResult_outer (s : State) (q : Nat) (r : Nat) (status : Nat) : (State.queueResult s q r status).1.outer = s.outer := State.still_outer (State.queueResult_still s q r status)

@[simp] theorem State.queueResult_kept (s : State) (q : Nat) (r : Nat) (status : Nat) : (State.queueResult s q r status).1.kept = s.kept := State.still_kept (State.queueResult_still s q r status)

@[simp] theorem State.queueResult_ram (s : State) (q : Nat) (r : Nat) (status : Nat) : (State.queueResult s q r status).1.ram = s.ram := State.still_ram (State.queueResult_still s q r status)

@[simp] theorem State.queueAllocate_still (s : State) (q : Nat) : (State.queueAllocate s q).1.still = s.still := by
  unfold State.queueAllocate; (try simp); all_goals ((repeat' split) <;> (first | with_reducible rfl | (simp; done) | (simp_all; done)))

@[simp] theorem State.queueAllocate_outer (s : State) (q : Nat) : (State.queueAllocate s q).1.outer = s.outer := State.still_outer (State.queueAllocate_still s q)

@[simp] theorem State.queueAllocate_kept (s : State) (q : Nat) : (State.queueAllocate s q).1.kept = s.kept := State.still_kept (State.queueAllocate_still s q)

@[simp] theorem State.queueAllocate_ram (s : State) (q : Nat) : (State.queueAllocate s q).1.ram = s.ram := State.still_ram (State.queueAllocate_still s q)

@[simp] theorem State.queueRelease_still (s : State) (q : Nat) : (State.queueRelease s q).1.still = s.still := by
  unfold State.queueRelease; (try simp); all_goals ((repeat' split) <;> (first | with_reducible rfl | (simp; done) | (simp_all; done)))

@[simp] theorem State.queueRelease_outer (s : State) (q : Nat) : (State.queueRelease s q).1.outer = s.outer := State.still_outer (State.queueRelease_still s q)

@[simp] theorem State.queueRelease_kept (s : State) (q : Nat) : (State.queueRelease s q).1.kept = s.kept := State.still_kept (State.queueRelease_still s q)

@[simp] theorem State.queueRelease_ram (s : State) (q : Nat) : (State.queueRelease s q).1.ram = s.ram := State.still_ram (State.queueRelease_still s q)

@[simp] theorem State.indexRefused_still (s : State) (q : Nat) (v : Nat) : (State.indexRefused s q v).1.still = s.still := by
  unfold State.indexRefused; (try simp); all_goals ((repeat' split) <;> (first | with_reducible rfl | (simp; done) | (simp_all; done)))

@[simp] theorem State.indexRefused_outer (s : State) (q : Nat) (v : Nat) : (State.indexRefused s q v).1.outer = s.outer := State.still_outer (State.indexRefused_still s q v)

@[simp] theorem State.indexRefused_kept (s : State) (q : Nat) (v : Nat) : (State.indexRefused s q v).1.kept = s.kept := State.still_kept (State.indexRefused_still s q v)

@[simp] theorem State.indexRefused_ram (s : State) (q : Nat) (v : Nat) : (State.indexRefused s q v).1.ram = s.ram := State.still_ram (State.indexRefused_still s q v)

@[simp] theorem State.producerWrite_still (s : State) (q : Nat) (v : Nat) : (State.producerWrite s q v).1.still = s.still := by
  unfold State.producerWrite; (try simp); all_goals ((repeat' split) <;> (first | with_reducible rfl | (simp; done) | (simp_all; done)))

@[simp] theorem State.producerWrite_outer (s : State) (q : Nat) (v : Nat) : (State.producerWrite s q v).1.outer = s.outer := State.still_outer (State.producerWrite_still s q v)

@[simp] theorem State.producerWrite_kept (s : State) (q : Nat) (v : Nat) : (State.producerWrite s q v).1.kept = s.kept := State.still_kept (State.producerWrite_still s q v)

@[simp] theorem State.producerWrite_ram (s : State) (q : Nat) (v : Nat) : (State.producerWrite s q v).1.ram = s.ram := State.still_ram (State.producerWrite_still s q v)

@[simp] theorem State.consumerWrite_still (s : State) (q : Nat) (v : Nat) : (State.consumerWrite s q v).1.still = s.still := by
  unfold State.consumerWrite; (try simp); all_goals ((repeat' split) <;> (first | with_reducible rfl | (simp; done) | (simp_all; done)))

@[simp] theorem State.consumerWrite_outer (s : State) (q : Nat) (v : Nat) : (State.consumerWrite s q v).1.outer = s.outer := State.still_outer (State.consumerWrite_still s q v)

@[simp] theorem State.consumerWrite_kept (s : State) (q : Nat) (v : Nat) : (State.consumerWrite s q v).1.kept = s.kept := State.still_kept (State.consumerWrite_still s q v)

@[simp] theorem State.consumerWrite_ram (s : State) (q : Nat) (v : Nat) : (State.consumerWrite s q v).1.ram = s.ram := State.still_ram (State.consumerWrite_still s q v)

@[simp] theorem State.eventClear_still (s : State) (n : Nat) : (State.eventClear s n).still = s.still := by
  unfold State.eventClear; (try simp); all_goals ((repeat' split) <;> (first | with_reducible rfl | (simp; done) | (simp_all; done)))

@[simp] theorem State.eventClear_outer (s : State) (n : Nat) : (State.eventClear s n).outer = s.outer := State.still_outer (State.eventClear_still s n)

@[simp] theorem State.eventClear_kept (s : State) (n : Nat) : (State.eventClear s n).kept = s.kept := State.still_kept (State.eventClear_still s n)

@[simp] theorem State.eventClear_ram (s : State) (n : Nat) : (State.eventClear s n).ram = s.ram := State.still_ram (State.eventClear_still s n)

@[simp] theorem State.printResult_still (s : State) (r : Nat) : (State.printResult s r).1.still = s.still := by
  unfold State.printResult; (try simp); all_goals ((repeat' split) <;> (first | with_reducible rfl | (simp; done) | (simp_all; done)))

@[simp] theorem State.printResult_outer (s : State) (r : Nat) : (State.printResult s r).1.outer = s.outer := State.still_outer (State.printResult_still s r)

@[simp] theorem State.printResult_kept (s : State) (r : Nat) : (State.printResult s r).1.kept = s.kept := State.still_kept (State.printResult_still s r)

@[simp] theorem State.printResult_ram (s : State) (r : Nat) : (State.printResult s r).1.ram = s.ram := State.still_ram (State.printResult_still s r)

@[simp] theorem State.queueFrog_still (s : State) : (State.queueFrog s).1.still = s.still := by
  unfold State.queueFrog; (try simp); all_goals ((repeat' split) <;> (first | with_reducible rfl | (simp; done) | (simp_all; done)))

@[simp] theorem State.queueFrog_outer (s : State) : (State.queueFrog s).1.outer = s.outer := State.still_outer (State.queueFrog_still s)

@[simp] theorem State.queueFrog_kept (s : State) : (State.queueFrog s).1.kept = s.kept := State.still_kept (State.queueFrog_still s)

@[simp] theorem State.queueFrog_ram (s : State) : (State.queueFrog s).1.ram = s.ram := State.still_ram (State.queueFrog_still s)

@[simp] theorem State.queueMove_still (s : State) (ref : Option Nat) : (State.queueMove s ref).1.still = s.still := by
  unfold State.queueMove; (try simp); all_goals ((repeat' split) <;> (first | with_reducible rfl | (simp; done) | (simp_all; done)))

@[simp] theorem State.queueMove_outer (s : State) (ref : Option Nat) : (State.queueMove s ref).1.outer = s.outer := State.still_outer (State.queueMove_still s ref)

@[simp] theorem State.queueMove_kept (s : State) (ref : Option Nat) : (State.queueMove s ref).1.kept = s.kept := State.still_kept (State.queueMove_still s ref)

@[simp] theorem State.queueMove_ram (s : State) (ref : Option Nat) : (State.queueMove s ref).1.ram = s.ram := State.still_ram (State.queueMove_still s ref)

@[simp] theorem State.queueBefore_still (s : State) : (State.queueBefore s).1.still = s.still := by
  unfold State.queueBefore; (try simp); all_goals ((repeat' split) <;> (first | with_reducible rfl | (simp; done) | (simp_all; done)))

@[simp] theorem State.queueBefore_outer (s : State) : (State.queueBefore s).1.outer = s.outer := State.still_outer (State.queueBefore_still s)

@[simp] theorem State.queueBefore_kept (s : State) : (State.queueBefore s).1.kept = s.kept := State.still_kept (State.queueBefore_still s)

@[simp] theorem State.queueBefore_ram (s : State) : (State.queueBefore s).1.ram = s.ram := State.still_ram (State.queueBefore_still s)

@[simp] theorem State.queueTail_still (s : State) : (State.queueTail s).1.still = s.still := by
  unfold State.queueTail; (try simp); all_goals ((repeat' split) <;> (first | with_reducible rfl | (simp; done) | (simp_all; done)))

@[simp] theorem State.queueTail_outer (s : State) : (State.queueTail s).1.outer = s.outer := State.still_outer (State.queueTail_still s)

@[simp] theorem State.queueTail_kept (s : State) : (State.queueTail s).1.kept = s.kept := State.still_kept (State.queueTail_still s)

@[simp] theorem State.queueTail_ram (s : State) : (State.queueTail s).1.ram = s.ram := State.still_ram (State.queueTail_still s)

end Sys2Proof.Machine
end

