-- ==== Sys2Proof/Laws/OuterValues.lean ====
section
/-! SUPPORT. What the operations of Machine/Values.lean leave alone: the queue, the idle time, the clock and the boot record (`outer`); flash, settings copies, update service and recovery (`kept`); the bytes of DRAM and staging (`ram`). -/

namespace Sys2Proof.Machine

@[simp] theorem State.storeSize_still (s : State) (v : Nat) : (State.storeSize s v).still = s.still := by
  unfold State.storeSize; (try simp); all_goals ((repeat' split) <;> (first | with_reducible rfl | (simp; done) | (simp_all; done)))

@[simp] theorem State.storeSize_outer (s : State) (v : Nat) : (State.storeSize s v).outer = s.outer := State.still_outer (State.storeSize_still s v)

@[simp] theorem State.storeSize_kept (s : State) (v : Nat) : (State.storeSize s v).kept = s.kept := State.still_kept (State.storeSize_still s v)

@[simp] theorem State.storeSize_ram (s : State) (v : Nat) : (State.storeSize s v).ram = s.ram := State.still_ram (State.storeSize_still s v)

@[simp] theorem State.bucketCapacity_still (s : State) (idx : Nat) (v : Nat) : (State.bucketCapacity s idx v).still = s.still := by
  unfold State.bucketCapacity; (try simp); all_goals ((repeat' split) <;> (first | with_reducible rfl | (simp; done) | (simp_all; done)))

@[simp] theorem State.bucketCapacity_outer (s : State) (idx : Nat) (v : Nat) : (State.bucketCapacity s idx v).outer = s.outer := State.still_outer (State.bucketCapacity_still s idx v)

@[simp] theorem State.bucketCapacity_kept (s : State) (idx : Nat) (v : Nat) : (State.bucketCapacity s idx v).kept = s.kept := State.still_kept (State.bucketCapacity_still s idx v)

@[simp] theorem State.bucketCapacity_ram (s : State) (idx : Nat) (v : Nat) : (State.bucketCapacity s idx v).ram = s.ram := State.still_ram (State.bucketCapacity_still s idx v)

@[simp] theorem State.put'_still (s : State) (idx : Nat) (sub : Nat) (v : Nat) : (State.put' s idx sub v).still = s.still := by
  unfold State.put'; (try simp); all_goals ((repeat' split) <;> (first | with_reducible rfl | (simp; done) | (simp_all; done)))

@[simp] theorem State.put'_outer (s : State) (idx : Nat) (sub : Nat) (v : Nat) : (State.put' s idx sub v).outer = s.outer := State.still_outer (State.put'_still s idx sub v)

@[simp] theorem State.put'_kept (s : State) (idx : Nat) (sub : Nat) (v : Nat) : (State.put' s idx sub v).kept = s.kept := State.still_kept (State.put'_still s idx sub v)

@[simp] theorem State.put'_ram (s : State) (idx : Nat) (sub : Nat) (v : Nat) : (State.put' s idx sub v).ram = s.ram := State.still_ram (State.put'_still s idx sub v)

@[simp] theorem State.writeScalar_still (s : State) (idx : Nat) (sub : Nat) (v : Nat) : (State.writeScalar s idx sub v).1.still = s.still := by
  unfold State.writeScalar; (try simp); all_goals ((repeat' split) <;> (first | with_reducible rfl | (simp; done) | (simp_all; done)))

@[simp] theorem State.writeScalar_outer (s : State) (idx : Nat) (sub : Nat) (v : Nat) : (State.writeScalar s idx sub v).1.outer = s.outer := State.still_outer (State.writeScalar_still s idx sub v)

@[simp] theorem State.writeScalar_kept (s : State) (idx : Nat) (sub : Nat) (v : Nat) : (State.writeScalar s idx sub v).1.kept = s.kept := State.still_kept (State.writeScalar_still s idx sub v)

@[simp] theorem State.writeScalar_ram (s : State) (idx : Nat) (sub : Nat) (v : Nat) : (State.writeScalar s idx sub v).1.ram = s.ram := State.still_ram (State.writeScalar_still s idx sub v)

@[simp] theorem State.writeDomain_outer (s : State) (idx : Nat) (sub : Nat) (off : Nat) (b : Bytes) : (State.writeDomain s idx sub off b).1.outer = s.outer := by
  unfold State.writeDomain; (try simp); all_goals ((repeat' split) <;> (first | with_reducible rfl | (simp; done) | (simp_all; done)))

@[simp] theorem State.writeDomain_kept (s : State) (idx : Nat) (sub : Nat) (off : Nat) (b : Bytes) : (State.writeDomain s idx sub off b).1.kept = s.kept := by
  unfold State.writeDomain; (try simp); all_goals ((repeat' split) <;> (first | with_reducible rfl | (simp; done) | (simp_all; done)))

end Sys2Proof.Machine
end

