-- ==== Sys2Proof/Laws/OuterControl.lean ====
section
/-! SUPPORT. What the operations of Machine/Control.lean leave alone: the queue, the idle time, the clock and the boot record (`outer`); flash, settings copies, update service and recovery (`kept`); the bytes of DRAM and staging (`ram`). -/

namespace Sys2Proof.Machine

@[simp] theorem accepted_still (s : State) : (accepted s).1.still = s.still := by
  unfold accepted; (try simp); all_goals ((repeat' split) <;> (first | with_reducible rfl | (simp; done) | (simp_all; done)))

@[simp] theorem accepted_outer (s : State) : (accepted s).1.outer = s.outer := State.still_outer (accepted_still s)

@[simp] theorem accepted_kept (s : State) : (accepted s).1.kept = s.kept := State.still_kept (accepted_still s)

@[simp] theorem accepted_ram (s : State) : (accepted s).1.ram = s.ram := State.still_ram (accepted_still s)

@[simp] theorem State.settingsCommand_outer (s : State) (erase : Bool) : (State.settingsCommand s erase).1.outer = s.outer := by
  unfold State.settingsCommand; (try simp); all_goals ((repeat' split) <;> (first | with_reducible rfl | (simp; done) | (simp_all; done)))

@[simp] theorem State.settingsCommand_ram (s : State) (erase : Bool) : (State.settingsCommand s erase).1.ram = s.ram := by
  unfold State.settingsCommand; (try simp); all_goals ((repeat' split) <;> (first | with_reducible rfl | (simp; done) | (simp_all; done)))

@[simp] theorem State.crcCommand_still (s : State) (u : Nat) (compare : Bool) : (State.crcCommand s u compare).1.still = s.still := by
  unfold State.crcCommand; (try simp); all_goals ((repeat' split) <;> (first | with_reducible rfl | (simp; done) | (simp_all; done)))

@[simp] theorem State.crcCommand_outer (s : State) (u : Nat) (compare : Bool) : (State.crcCommand s u compare).1.outer = s.outer := State.still_outer (State.crcCommand_still s u compare)

@[simp] theorem State.crcCommand_kept (s : State) (u : Nat) (compare : Bool) : (State.crcCommand s u compare).1.kept = s.kept := State.still_kept (State.crcCommand_still s u compare)

@[simp] theorem State.crcCommand_ram (s : State) (u : Nat) (compare : Bool) : (State.crcCommand s u compare).1.ram = s.ram := State.still_ram (State.crcCommand_still s u compare)

@[simp] theorem State.axisCommand_still (s : State) (a : Nat) (v : Nat) : (State.axisCommand s a v).1.still = s.still := by
  unfold State.axisCommand; simp

@[simp] theorem State.axisCommand_outer (s : State) (a : Nat) (v : Nat) : (State.axisCommand s a v).1.outer = s.outer := State.still_outer (State.axisCommand_still s a v)

@[simp] theorem State.axisCommand_kept (s : State) (a : Nat) (v : Nat) : (State.axisCommand s a v).1.kept = s.kept := State.still_kept (State.axisCommand_still s a v)

@[simp] theorem State.axisCommand_ram (s : State) (a : Nat) (v : Nat) : (State.axisCommand s a v).1.ram = s.ram := State.still_ram (State.axisCommand_still s a v)

@[simp] theorem State.updCommand_ram (s : State) (v : Nat) : (State.updCommand s v).1.ram = s.ram := by
  unfold State.updCommand; (try simp); all_goals ((repeat' split) <;> (first | with_reducible rfl | (simp; done) | (simp_all; done)))

@[simp] theorem State.printCommand_still (s : State) (v : Nat) : (State.printCommand s v).1.still = s.still := by
  unfold State.printCommand; (try simp); all_goals ((repeat' split) <;> (first | with_reducible rfl | (simp; done) | (simp_all; done)))

@[simp] theorem State.printCommand_outer (s : State) (v : Nat) : (State.printCommand s v).1.outer = s.outer := State.still_outer (State.printCommand_still s v)

@[simp] theorem State.printCommand_kept (s : State) (v : Nat) : (State.printCommand s v).1.kept = s.kept := State.still_kept (State.printCommand_still s v)

@[simp] theorem State.printCommand_ram (s : State) (v : Nat) : (State.printCommand s v).1.ram = s.ram := State.still_ram (State.printCommand_still s v)

@[simp] theorem State.buildCommand_outer (s : State) (v : Nat) : (State.buildCommand s v).1.outer = s.outer := by
  unfold State.buildCommand; (try simp); all_goals ((repeat' split) <;> (first | with_reducible rfl | (simp; done) | (simp_all; done)))

@[simp] theorem State.buildCommand_kept (s : State) (v : Nat) : (State.buildCommand s v).1.kept = s.kept := by
  unfold State.buildCommand; (try simp); all_goals ((repeat' split) <;> (first | with_reducible rfl | (simp; done) | (simp_all; done)))

@[simp] theorem State.dmaCommand_still (s : State) (n : Nat) (v : Nat) : (State.dmaCommand s n v).1.still = s.still := by
  unfold State.dmaCommand; (try simp); all_goals ((repeat' split) <;> (first | with_reducible rfl | (simp; done) | (simp_all; done)))

@[simp] theorem State.dmaCommand_outer (s : State) (n : Nat) (v : Nat) : (State.dmaCommand s n v).1.outer = s.outer := State.still_outer (State.dmaCommand_still s n v)

@[simp] theorem State.dmaCommand_kept (s : State) (n : Nat) (v : Nat) : (State.dmaCommand s n v).1.kept = s.kept := State.still_kept (State.dmaCommand_still s n v)

@[simp] theorem State.dmaCommand_ram (s : State) (n : Nat) (v : Nat) : (State.dmaCommand s n v).1.ram = s.ram := State.still_ram (State.dmaCommand_still s n v)

end Sys2Proof.Machine
end

