-- ==== Sys2Proof/Laws/OuterPress.lean ====
section
/-! SUPPORT. What the operations of Machine/Press.lean leave alone: the queue, the idle time, the clock and the boot record (`outer`); flash, settings copies, update service and recovery (`kept`); the bytes of DRAM and staging (`ram`). -/

namespace Sys2Proof.Machine

@[simp] theorem State.answers_still (s : State) (status : Nat) : (State.answers s status).1.still = s.still := by
  unfold State.answers; (try simp); all_goals ((repeat' split) <;> (first | with_reducible rfl | (simp; done) | (simp_all; done)))

@[simp] theorem State.answers_outer (s : State) (status : Nat) : (State.answers s status).1.outer = s.outer := State.still_outer (State.answers_still s status)

@[simp] theorem State.answers_kept (s : State) (status : Nat) : (State.answers s status).1.kept = s.kept := State.still_kept (State.answers_still s status)

@[simp] theorem State.answers_ram (s : State) (status : Nat) : (State.answers s status).1.ram = s.ram := State.still_ram (State.answers_still s status)

@[simp] theorem State.doRead_still (s : State) (idx : Nat) (sub : Nat) (payload : Bytes) : (State.doRead s idx sub payload).1.still = s.still := by
  unfold State.doRead; (try simp); all_goals ((repeat' split) <;> (first | with_reducible rfl | (simp; done) | (simp_all; done)))

@[simp] theorem State.doRead_outer (s : State) (idx : Nat) (sub : Nat) (payload : Bytes) : (State.doRead s idx sub payload).1.outer = s.outer := State.still_outer (State.doRead_still s idx sub payload)

@[simp] theorem State.doRead_kept (s : State) (idx : Nat) (sub : Nat) (payload : Bytes) : (State.doRead s idx sub payload).1.kept = s.kept := State.still_kept (State.doRead_still s idx sub payload)

@[simp] theorem State.doRead_ram (s : State) (idx : Nat) (sub : Nat) (payload : Bytes) : (State.doRead s idx sub payload).1.ram = s.ram := State.still_ram (State.doRead_still s idx sub payload)

@[simp] theorem State.request'_outer (s : State) (m : FopMsg) (op : Nat) (act : State → Nat → Nat → Bytes → State × Nat × Bytes)
    (ha : ∀ s, (act s m.index.toNat m.sub.toNat m.payload).1.outer = s.outer) : (s.request' m op act).outer = s.outer := by
  unfold State.request'
  simp [ha]

@[simp] theorem State.request'_kept (s : State) (m : FopMsg) (op : Nat) (act : State → Nat → Nat → Bytes → State × Nat × Bytes)
    (ha : ∀ s, (act s m.index.toNat m.sub.toNat m.payload).1.kept = s.kept) : (s.request' m op act).kept = s.kept := by
  unfold State.request'
  simp [ha]

@[simp] theorem State.request'_ram (s : State) (m : FopMsg) (op : Nat) (act : State → Nat → Nat → Bytes → State × Nat × Bytes)
    (ha : ∀ s, (act s m.index.toNat m.sub.toNat m.payload).1.ram = s.ram) : (s.request' m op act).ram = s.ram := by
  unfold State.request'
  simp [ha]

@[simp] theorem State.fopRead_outer (s : State) (m : FopMsg) : (State.fopRead s m).outer = s.outer := by
  unfold State.fopRead; (try simp); all_goals ((repeat' split) <;> (first | with_reducible rfl | (simp; done) | (simp_all; done)))

@[simp] theorem State.fopRead_kept (s : State) (m : FopMsg) : (State.fopRead s m).kept = s.kept := by
  unfold State.fopRead; (try simp); all_goals ((repeat' split) <;> (first | with_reducible rfl | (simp; done) | (simp_all; done)))

@[simp] theorem State.fopRead_ram (s : State) (m : FopMsg) : (State.fopRead s m).ram = s.ram := by
  unfold State.fopRead; (try simp); all_goals ((repeat' split) <;> (first | with_reducible rfl | (simp; done) | (simp_all; done)))

@[simp] theorem State.segOpen_still (s : State) (p : Peer) (idx : Nat) (sub : Nat) (write : Bool) (size : Nat) (data : Bytes) (reply : Nat → Bytes) : (State.segOpen s p idx sub write size data reply).1.still = s.still := by
  unfold State.segOpen; (try simp); all_goals ((repeat' split) <;> (first | with_reducible rfl | (simp; done) | (simp_all; done)))

@[simp] theorem State.segOpen_outer (s : State) (p : Peer) (idx : Nat) (sub : Nat) (write : Bool) (size : Nat) (data : Bytes) (reply : Nat → Bytes) : (State.segOpen s p idx sub write size data reply).1.outer = s.outer := State.still_outer (State.segOpen_still s p idx sub write size data reply)

@[simp] theorem State.segOpen_kept (s : State) (p : Peer) (idx : Nat) (sub : Nat) (write : Bool) (size : Nat) (data : Bytes) (reply : Nat → Bytes) : (State.segOpen s p idx sub write size data reply).1.kept = s.kept := State.still_kept (State.segOpen_still s p idx sub write size data reply)

@[simp] theorem State.segOpen_ram (s : State) (p : Peer) (idx : Nat) (sub : Nat) (write : Bool) (size : Nat) (data : Bytes) (reply : Nat → Bytes) : (State.segOpen s p idx sub write size data reply).1.ram = s.ram := State.still_ram (State.segOpen_still s p idx sub write size data reply)

@[simp] theorem State.segReadInit_still (s : State) (p : Peer) (idx : Nat) (sub : Nat) (payload : Bytes) : (State.segReadInit s p idx sub payload).1.still = s.still := by
  unfold State.segReadInit; (try simp); all_goals ((repeat' split) <;> (first | with_reducible rfl | (simp; done) | (simp_all; done)))

@[simp] theorem State.segReadInit_outer (s : State) (p : Peer) (idx : Nat) (sub : Nat) (payload : Bytes) : (State.segReadInit s p idx sub payload).1.outer = s.outer := State.still_outer (State.segReadInit_still s p idx sub payload)

@[simp] theorem State.segReadInit_kept (s : State) (p : Peer) (idx : Nat) (sub : Nat) (payload : Bytes) : (State.segReadInit s p idx sub payload).1.kept = s.kept := State.still_kept (State.segReadInit_still s p idx sub payload)

@[simp] theorem State.segReadInit_ram (s : State) (p : Peer) (idx : Nat) (sub : Nat) (payload : Bytes) : (State.segReadInit s p idx sub payload).1.ram = s.ram := State.still_ram (State.segReadInit_still s p idx sub payload)

@[simp] theorem State.segWriteInit_still (s : State) (p : Peer) (idx : Nat) (sub : Nat) (payload : Bytes) : (State.segWriteInit s p idx sub payload).1.still = s.still := by
  unfold State.segWriteInit; (try simp); all_goals ((repeat' split) <;> (first | with_reducible rfl | (simp; done) | (simp_all; done)))

@[simp] theorem State.segWriteInit_outer (s : State) (p : Peer) (idx : Nat) (sub : Nat) (payload : Bytes) : (State.segWriteInit s p idx sub payload).1.outer = s.outer := State.still_outer (State.segWriteInit_still s p idx sub payload)

@[simp] theorem State.segWriteInit_kept (s : State) (p : Peer) (idx : Nat) (sub : Nat) (payload : Bytes) : (State.segWriteInit s p idx sub payload).1.kept = s.kept := State.still_kept (State.segWriteInit_still s p idx sub payload)

@[simp] theorem State.segWriteInit_ram (s : State) (p : Peer) (idx : Nat) (sub : Nat) (payload : Bytes) : (State.segWriteInit s p idx sub payload).1.ram = s.ram := State.still_ram (State.segWriteInit_still s p idx sub payload)

@[simp] theorem State.updXfer_still (s : State) (h : Nat) (f : Xfer → Xfer) : (State.updXfer s h f).still = s.still := by
  unfold State.updXfer; (try simp); all_goals ((repeat' split) <;> (first | with_reducible rfl | (simp; done) | (simp_all; done)))

@[simp] theorem State.updXfer_outer (s : State) (h : Nat) (f : Xfer → Xfer) : (State.updXfer s h f).outer = s.outer := State.still_outer (State.updXfer_still s h f)

@[simp] theorem State.updXfer_kept (s : State) (h : Nat) (f : Xfer → Xfer) : (State.updXfer s h f).kept = s.kept := State.still_kept (State.updXfer_still s h f)

@[simp] theorem State.updXfer_ram (s : State) (h : Nat) (f : Xfer → Xfer) : (State.updXfer s h f).ram = s.ram := State.still_ram (State.updXfer_still s h f)

@[simp] theorem State.endXfer_still (s : State) (h : Nat) : (State.endXfer s h).still = s.still := by
  unfold State.endXfer; (try simp); all_goals ((repeat' split) <;> (first | with_reducible rfl | (simp; done) | (simp_all; done)))

@[simp] theorem State.endXfer_outer (s : State) (h : Nat) : (State.endXfer s h).outer = s.outer := State.still_outer (State.endXfer_still s h)

@[simp] theorem State.endXfer_kept (s : State) (h : Nat) : (State.endXfer s h).kept = s.kept := State.still_kept (State.endXfer_still s h)

@[simp] theorem State.endXfer_ram (s : State) (h : Nat) : (State.endXfer s h).ram = s.ram := State.still_ram (State.endXfer_still s h)

@[simp] theorem State.onTransfer_outer (s : State) (p : Peer) (idx sub : Nat) (payload : Bytes) (fits abort : Bool) (dir : Option Bool) (act : State → Xfer → State × Nat × Bytes) (ha : ∀ s x, (act s x).1.outer = s.outer) : (s.onTransfer p idx sub payload fits abort dir act).1.outer = s.outer := by
  unfold State.onTransfer; (repeat' split) <;> simp [ha]

@[simp] theorem State.onTransfer_kept (s : State) (p : Peer) (idx sub : Nat) (payload : Bytes) (fits abort : Bool) (dir : Option Bool) (act : State → Xfer → State × Nat × Bytes) (ha : ∀ s x, (act s x).1.kept = s.kept) : (s.onTransfer p idx sub payload fits abort dir act).1.kept = s.kept := by
  unfold State.onTransfer; (repeat' split) <;> simp [ha]

@[simp] theorem State.onTransfer_ram (s : State) (p : Peer) (idx sub : Nat) (payload : Bytes) (fits abort : Bool) (dir : Option Bool) (act : State → Xfer → State × Nat × Bytes) (ha : ∀ s x, (act s x).1.ram = s.ram) : (s.onTransfer p idx sub payload fits abort dir act).1.ram = s.ram := by
  unfold State.onTransfer; (repeat' split) <;> simp [ha]

@[simp] theorem State.segReadData_outer (s : State) (p : Peer) (idx : Nat) (sub : Nat) (payload : Bytes) : (State.segReadData s p idx sub payload).1.outer = s.outer := by
  unfold State.segReadData; apply State.onTransfer_outer; intro s x; dsimp only; (repeat' split) <;> simp

@[simp] theorem State.segReadData_kept (s : State) (p : Peer) (idx : Nat) (sub : Nat) (payload : Bytes) : (State.segReadData s p idx sub payload).1.kept = s.kept := by
  unfold State.segReadData; apply State.onTransfer_kept; intro s x; dsimp only; (repeat' split) <;> simp

@[simp] theorem State.segReadData_ram (s : State) (p : Peer) (idx : Nat) (sub : Nat) (payload : Bytes) : (State.segReadData s p idx sub payload).1.ram = s.ram := by
  unfold State.segReadData; apply State.onTransfer_ram; intro s x; dsimp only; (repeat' split) <;> simp

@[simp] theorem State.segWriteData_outer (s : State) (p : Peer) (idx : Nat) (sub : Nat) (payload : Bytes) : (State.segWriteData s p idx sub payload).1.outer = s.outer := by
  unfold State.segWriteData; apply State.onTransfer_outer; intro s x; dsimp only; (repeat' split) <;> simp

@[simp] theorem State.segWriteData_kept (s : State) (p : Peer) (idx : Nat) (sub : Nat) (payload : Bytes) : (State.segWriteData s p idx sub payload).1.kept = s.kept := by
  unfold State.segWriteData; apply State.onTransfer_kept; intro s x; dsimp only; (repeat' split) <;> simp

@[simp] theorem State.segWriteData_ram (s : State) (p : Peer) (idx : Nat) (sub : Nat) (payload : Bytes) : (State.segWriteData s p idx sub payload).1.ram = s.ram := by
  unfold State.segWriteData; apply State.onTransfer_ram; intro s x; dsimp only; (repeat' split) <;> simp

@[simp] theorem State.segEnd_outer (s : State) (p : Peer) (idx : Nat) (sub : Nat) (payload : Bytes) : (State.segEnd s p idx sub payload).1.outer = s.outer := by
  unfold State.segEnd; apply State.onTransfer_outer; intro s x; dsimp only; (repeat' split) <;> simp

@[simp] theorem State.segEnd_kept (s : State) (p : Peer) (idx : Nat) (sub : Nat) (payload : Bytes) : (State.segEnd s p idx sub payload).1.kept = s.kept := by
  unfold State.segEnd; apply State.onTransfer_kept; intro s x; dsimp only; (repeat' split) <;> simp

@[simp] theorem State.segAbort_outer (s : State) (p : Peer) (idx : Nat) (sub : Nat) (payload : Bytes) : (State.segAbort s p idx sub payload).1.outer = s.outer := by
  unfold State.segAbort; apply State.onTransfer_outer; intro s x; simp

@[simp] theorem State.segAbort_kept (s : State) (p : Peer) (idx : Nat) (sub : Nat) (payload : Bytes) : (State.segAbort s p idx sub payload).1.kept = s.kept := by
  unfold State.segAbort; apply State.onTransfer_kept; intro s x; simp

@[simp] theorem State.segAbort_ram (s : State) (p : Peer) (idx : Nat) (sub : Nat) (payload : Bytes) : (State.segAbort s p idx sub payload).1.ram = s.ram := by
  unfold State.segAbort; apply State.onTransfer_ram; intro s x; simp

@[simp] theorem State.segQueueFull_still (s : State) (h : FopHead) : (State.segQueueFull s h).still = s.still := by
  unfold State.segQueueFull; (try simp); all_goals ((repeat' split) <;> (first | with_reducible rfl | (simp; done) | (simp_all; done)))

@[simp] theorem State.segQueueFull_outer (s : State) (h : FopHead) : (State.segQueueFull s h).outer = s.outer := State.still_outer (State.segQueueFull_still s h)

@[simp] theorem State.segQueueFull_kept (s : State) (h : FopHead) : (State.segQueueFull s h).kept = s.kept := State.still_kept (State.segQueueFull_still s h)

@[simp] theorem State.segQueueFull_ram (s : State) (h : FopHead) : (State.segQueueFull s h).ram = s.ram := State.still_ram (State.segQueueFull_still s h)

@[simp] theorem State.segTimeout_still (s : State) (h : Nat) : (State.segTimeout s h).still = s.still := by
  unfold State.segTimeout; (try simp); all_goals ((repeat' split) <;> (first | with_reducible rfl | (simp; done) | (simp_all; done)))

@[simp] theorem State.segTimeout_outer (s : State) (h : Nat) : (State.segTimeout s h).outer = s.outer := State.still_outer (State.segTimeout_still s h)

@[simp] theorem State.segTimeout_kept (s : State) (h : Nat) : (State.segTimeout s h).kept = s.kept := State.still_kept (State.segTimeout_still s h)

@[simp] theorem State.segTimeout_ram (s : State) (h : Nat) : (State.segTimeout s h).ram = s.ram := State.still_ram (State.segTimeout_still s h)

@[simp] theorem State.rangeRead_still (s : State) (idx : Nat) (sub : Nat) (payload : Bytes) : (State.rangeRead s idx sub payload).1.still = s.still := by
  unfold State.rangeRead; (try simp); all_goals ((repeat' split) <;> (first | with_reducible rfl | (simp; done) | (simp_all; done)))

@[simp] theorem State.rangeRead_outer (s : State) (idx : Nat) (sub : Nat) (payload : Bytes) : (State.rangeRead s idx sub payload).1.outer = s.outer := State.still_outer (State.rangeRead_still s idx sub payload)

@[simp] theorem State.rangeRead_kept (s : State) (idx : Nat) (sub : Nat) (payload : Bytes) : (State.rangeRead s idx sub payload).1.kept = s.kept := State.still_kept (State.rangeRead_still s idx sub payload)

@[simp] theorem State.rangeRead_ram (s : State) (idx : Nat) (sub : Nat) (payload : Bytes) : (State.rangeRead s idx sub payload).1.ram = s.ram := State.still_ram (State.rangeRead_still s idx sub payload)

@[simp] theorem State.rangeWrite_outer (s : State) (p : Peer) (idx : Nat) (sub : Nat) (payload : Bytes) : (State.rangeWrite s p idx sub payload).1.outer = s.outer := by
  unfold State.rangeWrite; (try simp); all_goals ((repeat' split) <;> (first | with_reducible rfl | (simp; done) | (simp_all; done)))

@[simp] theorem State.rangeWrite_kept (s : State) (p : Peer) (idx : Nat) (sub : Nat) (payload : Bytes) : (State.rangeWrite s p idx sub payload).1.kept = s.kept := by
  unfold State.rangeWrite; (try simp); all_goals ((repeat' split) <;> (first | with_reducible rfl | (simp; done) | (simp_all; done)))

@[simp] theorem State.updSlot_still (s : State) (k : Nat) (f : NotifySlot → NotifySlot) : (State.updSlot s k f).still = s.still := by
  unfold State.updSlot; (try simp); all_goals ((repeat' split) <;> (first | with_reducible rfl | (simp; done) | (simp_all; done)))

@[simp] theorem State.updSlot_outer (s : State) (k : Nat) (f : NotifySlot → NotifySlot) : (State.updSlot s k f).outer = s.outer := State.still_outer (State.updSlot_still s k f)

@[simp] theorem State.updSlot_kept (s : State) (k : Nat) (f : NotifySlot → NotifySlot) : (State.updSlot s k f).kept = s.kept := State.still_kept (State.updSlot_still s k f)

@[simp] theorem State.updSlot_ram (s : State) (k : Nat) (f : NotifySlot → NotifySlot) : (State.updSlot s k f).ram = s.ram := State.still_ram (State.updSlot_still s k f)

@[simp] theorem State.dropNotice_still (s : State) (k : Nat) (d : Bytes) (hasTarget : Bool) : (State.dropNotice s k d hasTarget).still = s.still := by
  unfold State.dropNotice; (try simp); all_goals ((repeat' split) <;> (first | with_reducible rfl | (simp; done) | (simp_all; done)))

@[simp] theorem State.dropNotice_outer (s : State) (k : Nat) (d : Bytes) (hasTarget : Bool) : (State.dropNotice s k d hasTarget).outer = s.outer := State.still_outer (State.dropNotice_still s k d hasTarget)

@[simp] theorem State.dropNotice_kept (s : State) (k : Nat) (d : Bytes) (hasTarget : Bool) : (State.dropNotice s k d hasTarget).kept = s.kept := State.still_kept (State.dropNotice_still s k d hasTarget)

@[simp] theorem State.dropNotice_ram (s : State) (k : Nat) (d : Bytes) (hasTarget : Bool) : (State.dropNotice s k d hasTarget).ram = s.ram := State.still_ram (State.dropNotice_still s k d hasTarget)

@[simp] theorem State.showTarget_still (s : State) (k : Nat) (p : Option Peer) : (State.showTarget s k p).still = s.still := by
  unfold State.showTarget; (try simp); all_goals ((repeat' split) <;> (first | with_reducible rfl | (simp; done) | (simp_all; done)))

@[simp] theorem State.showTarget_outer (s : State) (k : Nat) (p : Option Peer) : (State.showTarget s k p).outer = s.outer := State.still_outer (State.showTarget_still s k p)

@[simp] theorem State.showTarget_kept (s : State) (k : Nat) (p : Option Peer) : (State.showTarget s k p).kept = s.kept := State.still_kept (State.showTarget_still s k p)

@[simp] theorem State.showTarget_ram (s : State) (k : Nat) (p : Option Peer) : (State.showTarget s k p).ram = s.ram := State.still_ram (State.showTarget_still s k p)

@[simp] theorem State.subscribe_still (s : State) (p : Peer) (idx : Nat) (sub : Nat) (payload : Bytes) : (State.subscribe s p idx sub payload).1.still = s.still := by
  unfold State.subscribe; (try simp); all_goals ((repeat' split) <;> (first | with_reducible rfl | (simp; done) | (simp_all; done)))

@[simp] theorem State.subscribe_outer (s : State) (p : Peer) (idx : Nat) (sub : Nat) (payload : Bytes) : (State.subscribe s p idx sub payload).1.outer = s.outer := State.still_outer (State.subscribe_still s p idx sub payload)

@[simp] theorem State.subscribe_kept (s : State) (p : Peer) (idx : Nat) (sub : Nat) (payload : Bytes) : (State.subscribe s p idx sub payload).1.kept = s.kept := State.still_kept (State.subscribe_still s p idx sub payload)

@[simp] theorem State.subscribe_ram (s : State) (p : Peer) (idx : Nat) (sub : Nat) (payload : Bytes) : (State.subscribe s p idx sub payload).1.ram = s.ram := State.still_ram (State.subscribe_still s p idx sub payload)

@[simp] theorem State.sendNotice_still (s : State) (p : Peer) (tid : Nat) (d : Bytes) : (State.sendNotice s p tid d).still = s.still := by
  unfold State.sendNotice; (try simp); all_goals ((repeat' split) <;> (first | with_reducible rfl | (simp; done) | (simp_all; done)))

@[simp] theorem State.sendNotice_outer (s : State) (p : Peer) (tid : Nat) (d : Bytes) : (State.sendNotice s p tid d).outer = s.outer := State.still_outer (State.sendNotice_still s p tid d)

@[simp] theorem State.sendNotice_kept (s : State) (p : Peer) (tid : Nat) (d : Bytes) : (State.sendNotice s p tid d).kept = s.kept := State.still_kept (State.sendNotice_still s p tid d)

@[simp] theorem State.sendNotice_ram (s : State) (p : Peer) (tid : Nat) (d : Bytes) : (State.sendNotice s p tid d).ram = s.ram := State.still_ram (State.sendNotice_still s p tid d)

@[simp] theorem State.notifySend_still (s : State) (k : Nat) : (State.notifySend s k).still = s.still := by
  unfold State.notifySend; (try simp); all_goals ((repeat' split) <;> (first | with_reducible rfl | (simp; done) | (simp_all; done)))

@[simp] theorem State.notifySend_outer (s : State) (k : Nat) : (State.notifySend s k).outer = s.outer := State.still_outer (State.notifySend_still s k)

@[simp] theorem State.notifySend_kept (s : State) (k : Nat) : (State.notifySend s k).kept = s.kept := State.still_kept (State.notifySend_still s k)

@[simp] theorem State.notifySend_ram (s : State) (k : Nat) : (State.notifySend s k).ram = s.ram := State.still_ram (State.notifySend_still s k)

@[simp] theorem State.notifyResend_still (s : State) (k : Nat) (tid : Nat) : (State.notifyResend s k tid).still = s.still := by
  unfold State.notifyResend; (try simp); all_goals ((repeat' split) <;> (first | with_reducible rfl | (simp; done) | (simp_all; done)))

@[simp] theorem State.notifyResend_outer (s : State) (k : Nat) (tid : Nat) : (State.notifyResend s k tid).outer = s.outer := State.still_outer (State.notifyResend_still s k tid)

@[simp] theorem State.notifyResend_kept (s : State) (k : Nat) (tid : Nat) : (State.notifyResend s k tid).kept = s.kept := State.still_kept (State.notifyResend_still s k tid)

@[simp] theorem State.notifyResend_ram (s : State) (k : Nat) (tid : Nat) : (State.notifyResend s k tid).ram = s.ram := State.still_ram (State.notifyResend_still s k tid)

@[simp] theorem State.notifyAck_still (s : State) (p : Peer) (tid : Nat) : (State.notifyAck s p tid).still = s.still := by
  unfold State.notifyAck; (try simp); all_goals ((repeat' split) <;> (first | with_reducible rfl | (simp; done) | (simp_all; done)))

@[simp] theorem State.notifyAck_outer (s : State) (p : Peer) (tid : Nat) : (State.notifyAck s p tid).outer = s.outer := State.still_outer (State.notifyAck_still s p tid)

@[simp] theorem State.notifyAck_kept (s : State) (p : Peer) (tid : Nat) : (State.notifyAck s p tid).kept = s.kept := State.still_kept (State.notifyAck_still s p tid)

@[simp] theorem State.notifyAck_ram (s : State) (p : Peer) (tid : Nat) : (State.notifyAck s p tid).ram = s.ram := State.still_ram (State.notifyAck_still s p tid)

@[simp] theorem State.clientRelease_still (s : State) (p : Peer) : (State.clientRelease s p).still = s.still := by
  unfold State.clientRelease; (try simp); all_goals ((repeat' split) <;> (first | with_reducible rfl | (simp; done) | (simp_all; done)))

@[simp] theorem State.clientRelease_outer (s : State) (p : Peer) : (State.clientRelease s p).outer = s.outer := State.still_outer (State.clientRelease_still s p)

@[simp] theorem State.clientRelease_kept (s : State) (p : Peer) : (State.clientRelease s p).kept = s.kept := State.still_kept (State.clientRelease_still s p)

@[simp] theorem State.clientRelease_ram (s : State) (p : Peer) : (State.clientRelease s p).ram = s.ram := State.still_ram (State.clientRelease_still s p)

@[simp] theorem State.cacheExpiry_still (s : State) (p : Peer) (tid : Nat) : (State.cacheExpiry s p tid).still = s.still := by
  unfold State.cacheExpiry; (try simp); all_goals ((repeat' split) <;> (first | with_reducible rfl | (simp; done) | (simp_all; done)))

@[simp] theorem State.cacheExpiry_outer (s : State) (p : Peer) (tid : Nat) : (State.cacheExpiry s p tid).outer = s.outer := State.still_outer (State.cacheExpiry_still s p tid)

@[simp] theorem State.cacheExpiry_kept (s : State) (p : Peer) (tid : Nat) : (State.cacheExpiry s p tid).kept = s.kept := State.still_kept (State.cacheExpiry_still s p tid)

@[simp] theorem State.cacheExpiry_ram (s : State) (p : Peer) (tid : Nat) : (State.cacheExpiry s p tid).ram = s.ram := State.still_ram (State.cacheExpiry_still s p tid)

@[simp] theorem State.fopOther_outer (s : State) (p : Peer) (b : Bytes) : (State.fopOther s p b).outer = s.outer := by
  unfold State.fopOther; (try simp); all_goals ((repeat' split) <;> (first | with_reducible rfl | (simp; done) | (simp_all; done)))

@[simp] theorem State.fopOther_kept (s : State) (p : Peer) (b : Bytes) : (State.fopOther s p b).kept = s.kept := by
  unfold State.fopOther; (try simp); all_goals ((repeat' split) <;> (first | with_reducible rfl | (simp; done) | (simp_all; done)))

@[simp] theorem State.fopOther_ram (s : State) (p : Peer) (b : Bytes) : (State.fopOther s p b).ram = s.ram := by
  unfold State.fopOther; (try simp); all_goals ((repeat' split) <;> (first | with_reducible rfl | (simp; done) | (simp_all; done)))

end Sys2Proof.Machine
end

