-- ==== Sys2Proof/Laws/OuterRows.lean ====
section
/-! SUPPORT. What the operations of Machine/Rows.lean leave alone: the queue, the idle time, the clock and the boot record (`outer`); flash, settings copies, update service and recovery (`kept`); the bytes of DRAM and staging (`ram`). -/

namespace Sys2Proof.Machine

@[simp] theorem State.awake_outer (s : State) (f : State → State) (hf : (f s).outer = s.outer) : (s.awake f).outer = s.outer := by
  unfold State.awake
  split <;> simp [hf]

@[simp] theorem State.awake_kept (s : State) (f : State → State) (hf : (f s).kept = s.kept) : (s.awake f).kept = s.kept := by
  unfold State.awake
  split <;> simp [hf]

@[simp] theorem State.awake_ram (s : State) (f : State → State) (hf : (f s).ram = s.ram) : (s.awake f).ram = s.ram := by
  unfold State.awake
  split <;> simp [hf]

@[simp] theorem State.serveStatus_outer (s : State) (h : FopHead) (key : Nat) (act : State → State × Nat)
    (ha : ∀ s, (act s).1.outer = s.outer) : (s.serveStatus h key act).outer = s.outer := by
  unfold State.serveStatus
  simp [ha]

@[simp] theorem State.serveStatus_kept (s : State) (h : FopHead) (key : Nat) (act : State → State × Nat)
    (ha : ∀ s, (act s).1.kept = s.kept) : (s.serveStatus h key act).kept = s.kept := by
  unfold State.serveStatus
  simp [ha]

@[simp] theorem State.serveStatus_ram (s : State) (h : FopHead) (key : Nat) (act : State → State × Nat)
    (ha : ∀ s, (act s).1.ram = s.ram) : (s.serveStatus h key act).ram = s.ram := by
  unfold State.serveStatus
  simp [ha]

@[simp] theorem State.openPacket_still (s : State) (ty : Nat) (k : MspPacket) : (State.openPacket s ty k).still = s.still := by
  unfold State.openPacket; (try simp); all_goals ((repeat' split) <;> (first | with_reducible rfl | (simp; done) | (simp_all; done)))

@[simp] theorem State.openPacket_outer (s : State) (ty : Nat) (k : MspPacket) : (State.openPacket s ty k).outer = s.outer := State.still_outer (State.openPacket_still s ty k)

@[simp] theorem State.openPacket_kept (s : State) (ty : Nat) (k : MspPacket) : (State.openPacket s ty k).kept = s.kept := State.still_kept (State.openPacket_still s ty k)

@[simp] theorem State.openPacket_ram (s : State) (ty : Nat) (k : MspPacket) : (State.openPacket s ty k).ram = s.ram := State.still_ram (State.openPacket_still s ty k)

@[simp] theorem State.smsgOf_outer (s : State) (k : Fin 4) (o : SeamHead) (g : SeamMsg) (kind : Nat) (act : State → State)
    (ha : ∀ s, (act s).outer = s.outer) : (s.smsgOf k o g kind act).outer = s.outer := by
  unfold State.smsgOf
  simp [ha]

@[simp] theorem State.smsgOf_kept (s : State) (k : Fin 4) (o : SeamHead) (g : SeamMsg) (kind : Nat) (act : State → State)
    (ha : ∀ s, (act s).kept = s.kept) : (s.smsgOf k o g kind act).kept = s.kept := by
  unfold State.smsgOf
  simp [ha]

@[simp] theorem State.smsgOf_ram (s : State) (k : Fin 4) (o : SeamHead) (g : SeamMsg) (kind : Nat) (act : State → State)
    (ha : ∀ s, (act s).ram = s.ram) : (s.smsgOf k o g kind act).ram = s.ram := by
  unfold State.smsgOf
  simp [ha]

end Sys2Proof.Machine
end

