-- ==== Sys2Proof/Laws/Carries.lean ====
section
/-! SUPPORT. The operations that change the boot record: resets, boot, power states, and the commands behind whose reply a reset or a sleep falls due. -/

namespace Sys2Proof.Machine

theorem State.Carries.refl (s : State) : s.Carries s := ⟨rfl, rfl, .inl rfl⟩

theorem State.Carries.trans {s t u : State} (h : s.Carries t) (k : t.Carries u) : s.Carries u :=
  ⟨k.1.trans h.1, k.2.1.trans h.2.1, k.2.2.elim (fun e => h.2.2.imp e.trans e.trans) .inr⟩

theorem State.carries_of_outer {s t : State} (h : t.outer = s.outer) : s.Carries t := by
  simp only [State.outer, Prod.mk.injEq] at h
  exact ⟨h.1, h.2.1, .inl (congrArg Clk.now h.2.2.1)⟩

theorem State.boot_of_outer {s t : State} (h : t.outer = s.outer) : t.boot = s.boot := by
  simp only [State.outer, Prod.mk.injEq] at h
  exact h.2.2.2

/-- An update of the boot record alone carries everything over. -/
theorem State.carries_boot (s : State) (b : Boot) : s.Carries { s with boot := b } := ⟨rfl, rfl, .inl rfl⟩

theorem State.cleared_carries (s : State) (cause : Nat) : s.Carries (s.cleared cause) := by
  refine ⟨rfl, rfl, ?_⟩
  simp only [State.cleared]
  split <;> simp

@[simp] theorem State.cleared_due (s : State) (cause : Nat) : (s.cleared cause).boot.due = .none := rfl

@[simp] theorem State.romChoice_outer (s : State) : s.romChoice.2.1.outer = s.outer := by
  unfold State.romChoice
  dsimp only
  split
  · simp
  · simp
  · split <;> simp

theorem State.scStart_carries (s : State) (slot cause shown : Nat) : s.Carries (s.scStart slot cause shown).1 := by
  unfold State.scStart
  extract_lets h s1 s2 b e s3 s4 old s5
  have h2 : s2.outer = s.outer := by simp [s2, s1]
  clear_value s2
  have h3 : s2.Carries s3 := ⟨rfl, rfl, .inl rfl⟩
  have h4 : s4.outer = s3.outer := by
    simp only [s4]
    split <;> simp
  have h5 : (s5.settingsStart slot).1.outer = s4.outer := by
    rw [State.settingsStart_outer]
    simp only [s5]
    split <;> simp
  exact (State.carries_of_outer h2).trans (h3.trans (State.carries_of_outer (h5.trans h4)))

theorem State.scStart_due (s : State) (slot cause shown : Nat) : (s.scStart slot cause shown).1.boot.due = s.boot.due := by
  unfold State.scStart
  extract_lets h s1 s2 b e s3 s4 old s5
  have h2 : s2.outer = s.outer := by simp [s2, s1]
  clear_value s2
  have h3 : s3.boot.due = s2.boot.due := rfl
  have h4 : s4.outer = s3.outer := by
    simp only [s4]
    split <;> simp
  have h5 : (s5.settingsStart slot).1.outer = s4.outer := by
    rw [State.settingsStart_outer]
    simp only [s5]
    split <;> simp
  rw [State.boot_of_outer (h5.trans h4), h3, State.boot_of_outer h2]

/-- One pass of the ROM carries the queue over and leaves what is owed as it was. -/
theorem State.romOnce_carries (s : State) (cause wake shown : Nat) :
    s.Carries (s.romOnce cause wake shown).1 ∧ (s.romOnce cause wake shown).1.boot.due = s.boot.due := by
  unfold State.romOnce
  split
  · exact ⟨s.carries_boot _, rfl⟩
  · split
    · exact ⟨s.carries_boot _, rfl⟩
    · have h2 := State.romChoice_outer { s with aon := { s.aon with failed := s.aon.failed + 1 } }
      generalize State.romChoice _ = r at h2
      obtain ⟨slot, s2, other, result⟩ := r
      replace h2 : s2.outer = s.outer := h2
      have c2 := State.carries_of_outer h2
      have d2 := congrArg Boot.due (State.boot_of_outer h2)
      dsimp only
      split
      · exact ⟨c2.trans (s2.carries_boot _), d2⟩
      · next _ n oth _ =>
        generalize (if result ≠ 0 then result else shown) = sh
        have c3 := c2.trans (State.scStart_carries s2 n cause sh)
        have d3 := (State.scStart_due s2 n cause sh).trans d2
        generalize s2.scStart n cause _ = q at c3 d3
        obtain ⟨s3, ok⟩ := q
        dsimp only at c3 d3 ⊢
        split
        · have h4 := State.startFunctions_outer s3 cause wake
          generalize s3.startFunctions cause wake = s4 at h4
          exact ⟨(c3.trans (State.carries_of_outer h4)).trans (s4.carries_boot _), (congrArg Boot.due (State.boot_of_outer h4)).trans d3⟩
        · exact ⟨c3, d3⟩

/-- A boot from the ROM carries the queue over, and owes nothing unless it runs out of restarts. -/
theorem State.romBoot_carries (k : Nat) (s : State) (cause wake shown : Nat) :
    s.Carries (State.romBoot k s cause wake shown) ∧ ((k = 0 → s.boot.due = .none) → (State.romBoot k s cause wake shown).boot.due = .none) := by
  induction k generalizing s cause wake shown with
  | zero => exact ⟨.refl s, fun h => h rfl⟩
  | succ k ih =>
    rw [State.romBoot]
    have hr := State.romOnce_carries (s.cleared cause) cause wake shown
    have hc := (s.cleared_carries cause).trans hr.1
    have hd := hr.2.trans (s.cleared_due cause)
    generalize (s.cleared cause).romOnce cause wake shown = r at hc hd ⊢
    split
    · exact ⟨hc.trans (ih _ _ _ _).1, fun _ => (ih _ _ _ _).2 fun _ => hd⟩
    · exact ⟨hc, fun _ => hd⟩

theorem State.restart_carries (s : State) (cause : Nat) : s.Carries (s.restart cause) := by
  unfold State.restart
  exact (State.carries_of_outer (by simp)).trans (State.romBoot_carries 4 _ _ _ _).1

@[simp] theorem State.restart_due (s : State) (cause : Nat) : (s.restart cause).boot.due = .none :=
  (State.romBoot_carries 4 _ _ _ _).2 fun h => by contradiction

theorem State.hold_carries (s : State) : s.Carries s.hold := by
  unfold State.hold
  have h := (State.carries_of_outer (State.abandonFlash_outer s)).trans (s.abandonFlash.cleared_carries 2)
  exact h.trans ⟨rfl, rfl, .inl rfl⟩

theorem State.leaveReset_carries (s : State) : s.Carries s.leaveReset := by
  unfold State.leaveReset
  split
  · exact (s.carries_boot _).trans (State.romBoot_carries 4 _ _ _ _).1
  · exact .refl s

theorem State.sleep_carries (s : State) (st : Nat) : s.Carries (s.sleep st) ∧ (s.sleep st).boot.due = s.boot.due := by
  unfold State.sleep
  extract_lets prev s1 s2 m s3 s4 s5 s6 r d s7
  have h6 : s6.outer = s.outer := by
    have h2 : s2.outer = s.outer := by
      refine (State.frogRest_outer _).trans ((foldl_outer _ _ _ ?_).trans (by simp [s1]))
      intro s n; simp
    have h3 : s3.outer = s2.outer := by
      clear_value s2
      simp [s3]
    have h4 : s4.outer = s3.outer := by
      clear_value s3
      simp [s4]
    have h5 : s5.outer = s4.outer := by
      clear_value s4
      simp [s5]
    clear_value s5
    simp only [s6]
    split <;> simp [h5, h4, h3, h2]
  clear_value s6
  have h7 : s7.outer = s.outer := h6
  have c7 := State.carries_of_outer h7
  have d7 := congrArg Boot.due (State.boot_of_outer h7)
  clear_value s7
  split
  · exact ⟨c7.trans ⟨rfl, rfl, .inl rfl⟩, d7⟩
  · exact ⟨c7.trans ⟨rfl, rfl, .inl rfl⟩, d7⟩

theorem State.fallDue_carries (s : State) : s.Carries s.fallDue ∧ s.fallDue.boot.due = .none := by
  unfold State.fallDue
  dsimp only
  split
  · exact ⟨s.carries_boot _, rfl⟩
  · exact ⟨(s.carries_boot _).trans (State.sleep_carries _ _).1, (State.sleep_carries _ _).2.trans rfl⟩
  · exact ⟨(s.carries_boot _).trans (State.restart_carries _ _), State.restart_due _ _⟩

/-- The end of a command carries the queue over and leaves nothing owed. -/
theorem State.conclude_carries (s : State) : s.Carries s.conclude ∧ s.conclude.boot.due = .none := by
  unfold State.conclude
  have h := State.carries_of_outer s.settle_outer
  split
  · next hd => exact ⟨h, hd⟩
  · have k := State.fallDue_carries s.settle
    exact ⟨(h.trans k.1).trans (State.carries_of_outer (State.settle_outer _)),
      (congrArg Boot.due (State.boot_of_outer (State.settle_outer _))).trans k.2⟩

/-- Nothing owed: the end of a command leaves alone what `State.still` names. -/
theorem State.conclude_still (s : State) (h : s.boot.due = .none) : s.conclude.still = s.still := by
  have k : s.settle.boot.due = .none := (congrArg Boot.due (State.boot_of_outer s.settle_outer)).trans h
  unfold State.conclude
  rw [if_pos k]
  exact s.settle_still

end Sys2Proof.Machine
end

