-- ==== Sys2Proof/Laws/CarriesCommands.lean ====
section
/-! SUPPORT. Commands that change the boot record, or behind whose reply a reset or a sleep falls due, carry the queue over. -/

namespace Sys2Proof.Machine

/-- Composes with operations that leave the boot record alone. -/
theorem State.Carries.outer {s t u : State} (h : s.Carries t) (k : u.outer = t.outer) : s.Carries u := h.trans (State.carries_of_outer k)

theorem State.outer_carries {s t u : State} (k : t.outer = s.outer) (h : t.Carries u) : s.Carries u := (State.carries_of_outer k).trans h

/-! ## Update, recovery -/

theorem State.updGo_carries (s : State) : s.Carries s.updGo.1 := by
  unfold State.updGo
  split
  · exact State.carries_of_outer (by simp)
  · split
    · exact State.carries_of_outer (by simp)
    · dsimp only
      exact State.outer_carries (State.set_outer _ _ _ _ |>.trans (State.dirEdit_outer _ _ _)) (State.carries_boot _ _)

theorem State.updActivate_carries (s : State) : s.Carries s.updActivate.1 := by
  unfold State.updActivate
  split
  · exact State.carries_of_outer (by simp)
  · exact s.updGo_carries

theorem State.updRevert_carries (s : State) : s.Carries s.updRevert.1 := by
  unfold State.updRevert
  split
  · exact State.carries_of_outer (by simp)
  · dsimp only
    split
    · split
      · exact State.outer_carries (t := { s with update := _ }) (by simp) (State.updGo_carries _)
      · exact State.carries_of_outer (by simp)
    · exact State.carries_of_outer (by simp)

theorem State.updCommand_carries (s : State) (v : Nat) : s.Carries (s.updCommand v).1 := by
  unfold State.updCommand
  split
  · exact State.carries_of_outer (by simp)
  · exact State.carries_of_outer (by simp)
  · exact s.updActivate_carries
  · exact s.updRevert_carries
  · exact State.carries_of_outer (by simp)

theorem State.recoveryEnd_carries (s : State) : s.Carries s.recoveryEnd := ⟨rfl, rfl, .inl rfl⟩

theorem State.tftpEnd_carries (s : State) (p : Peer) (n : Nat) : s.Carries (s.tftpEnd p n) := by
  unfold State.tftpEnd
  dsimp only
  split
  · exact State.outer_carries (by simp) (State.recoveryEnd_carries _)
  · split <;> exact State.carries_of_outer (by simp)

theorem State.tftpBlock_carries (s : State) (p : Peer) (n : Nat) (d : Bytes) : s.Carries (s.tftpBlock p n d) := by
  unfold State.tftpBlock
  iterate 5
    split
    · exact State.carries_of_outer (by simp)
  dsimp only
  split
  · exact State.carries_of_outer (by simp)
  · exact State.outer_carries (t := { s with recovery := _ }) (by simp) (State.tftpEnd_carries _ _ _)

theorem State.uartClose_carries (s : State) (good : Bool) (body : Bytes) : s.Carries (s.uartClose good body) := by
  unfold State.uartClose
  split
  · exact .refl s
  · split
    · exact State.carries_of_outer (by simp)
    · split
      · exact State.carries_of_outer (by simp)
      · dsimp only
        split
        · exact State.outer_carries (t := { s.uartAnswer 3 0 0 with recovery := _ }) (by simp) (State.recoveryEnd_carries _)
        · split <;> exact State.carries_of_outer (by simp)

theorem State.uartReset_carries (s : State) (good : Bool) : s.Carries (s.uartReset good) := by
  unfold State.uartReset
  split
  · exact .refl s
  · exact State.outer_carries (by simp) (State.recoveryEnd_carries _)

/-! ## Power -/

theorem State.powerRequest_carries (s : State) (want : Nat) : s.Carries (s.powerRequest want).1 := by
  unfold State.powerRequest
  dsimp only
  iterate 5
    split
    · exact State.carries_of_outer (by simp)
  exact State.outer_carries (State.set_outer _ _ _ _) (State.carries_boot _ _)

theorem State.keepExit_carries (s : State) (source : Nat) : s.Carries (s.keepExit source) := by
  unfold State.keepExit
  extract_lets lost reason b a s1 s2 s3 s4
  have h1 : s.Carries s1 := ⟨rfl, rfl, .inl rfl⟩
  have h2 : s2.outer = s1.outer := by simp [s2]
  have h3 : s3.outer = s2.outer := by
    clear_value s2
    simp [s3]
  have h4 : s4.outer = s3.outer := by
    clear_value s3
    simp [s4]
  clear_value s4
  refine State.Carries.outer (t := s4) (h1.outer (h4.trans (h3.trans h2))) ?_
  simp

theorem State.deepExit_carries (s : State) (source : Nat) : s.Carries (s.deepExit source) := by
  unfold State.deepExit
  have h := State.romBoot_carries 4 { s with aon := { s.aon with keepEn := true, mainEn := true }, boot := { s.boot with railsOk := true } } (if s.backupLost then 1 else 8) source (s.reg 0x8010 3)
  exact State.Carries.trans ⟨rfl, rfl, .inl rfl⟩ h.1

theorem State.wake_carries (s : State) (source : Nat) : s.Carries (s.wake source) := by
  unfold State.wake
  split
  · exact .refl s
  · split
    · exact s.keepExit_carries source
    · split
      · exact .refl s
      · exact s.deepExit_carries source
    · exact .refl s

theorem State.wakePin_carries (s : State) : s.Carries s.wakePin := s.wake_carries 1

theorem State.rtcAlarm_carries (s : State) : s.Carries s.rtcAlarm := by
  unfold State.rtcAlarm
  split
  · exact s.wake_carries 2
  · exact .refl s

theorem State.wakeFrame_carries (s : State) (p : Peer) : s.Carries (s.wakeFrame p) := by
  unfold State.wakeFrame
  split
  · exact s.wake_carries 3
  · exact .refl s

/-! ## Reset pins, rails, watchdog -/

theorem State.vbatRise_carries (s : State) : s.Carries s.vbatRise := by
  unfold State.vbatRise
  split
  · exact .refl s
  · exact ⟨rfl, rfl, .inl rfl⟩

theorem State.tapRun_carries (s : State) (l : List TapClock) : s.Carries (s.tapRun l) := s.carries_boot _

theorem State.porHigh_carries (s : State) (straps : Nat) (testEn : Bool) : s.Carries (s.porHigh straps testEn) := by
  unfold State.porHigh
  dsimp only
  split
  · exact .refl s
  · exact State.Carries.trans (t := { s with boot := _, aon := _ }) ⟨rfl, rfl, .inl rfl⟩ (State.leaveReset_carries _)

theorem State.railsGood_carries (s : State) : s.Carries s.railsGood := by
  unfold State.railsGood
  split
  · exact (s.carries_boot _).trans (State.leaveReset_carries _)
  · exact .refl s

theorem State.porRelease_carries (s : State) (pins : ResetPins) (testEn : Bool) : s.Carries (s.porRelease pins testEn) :=
  ((s.tapRun_carries pins.low).trans (State.porHigh_carries _ _ _)).trans (State.tapRun_carries _ _)

theorem State.porLow_carries (s : State) : s.Carries s.porLow := (State.hold_carries s).trans (State.carries_boot _ _)

theorem State.railLow_carries (s : State) : s.Carries s.railLow := by
  unfold State.railLow
  split
  · exact .refl s
  · exact s.hold_carries.trans (State.carries_boot _ _)

theorem State.watchdog_carries (s : State) : s.Carries s.watchdog := by
  unfold State.watchdog
  split
  · exact s.restart_carries 3
  · exact .refl s

theorem State.bootRetry_carries (s : State) : s.Carries s.bootRetry := by
  unfold State.bootRetry
  split
  · exact s.restart_carries 3
  · exact .refl s

theorem State.bootTimeout_carries (s : State) : s.Carries s.bootTimeout := by
  unfold State.bootTimeout
  split
  · exact s.restart_carries 3
  · exact .refl s

theorem State.bootDone_carries (s : State) : s.Carries s.bootDone := by
  unfold State.bootDone
  split
  · exact .refl s
  · extract_lets n slot b a s1 s2
    have h1 : s.Carries s1 :=
      State.Carries.outer (t := { s with boot := { s.boot with phase := .run, other := false }, aon := { s.aon with failed := 0 } })
        ⟨rfl, rfl, .inl rfl⟩ (State.set_outer _ _ _ _)
    have h2 : s2.outer = s1.outer := State.raise_outer _ _ _ _
    clear_value s2
    split
    · exact (h1.outer h2).outer (by simp)
    · exact h1.outer h2

theorem State.resetCommand_carries (s : State) : s.Carries s.resetCommand.1 := by
  unfold State.resetCommand
  split
  · exact State.carries_of_outer (by simp)
  · exact State.outer_carries (State.set_outer _ _ _ _) (State.carries_boot _ _)

/-! ## FOP -/

theorem State.asStatus_carries (s : State) (r : State × Bool) (h : s.Carries r.1) : s.Carries (asStatus r).1 := h

/-- A command object of any kind carries the queue over. -/
theorem State.command_carries (s : State) (idx sub v : Nat) : s.Carries (s.command idx sub v).1 := by
  unfold State.command
  by_cases h1 : idx = 0x0030
  · subst h1
    exact s.powerRequest_carries v
  · by_cases h2 : idx = 0x8000
    · subst h2
      exact s.resetCommand_carries
    · by_cases h3 : idx = 0x8010
      · subst h3
        exact s.updCommand_carries v
      · rw [if_neg h1, if_neg h2, if_neg h3]
        (repeat' split) <;> exact State.carries_of_outer (by simp [asStatus, accepted])

theorem State.doWrite_carries (s : State) (p : Peer) (idx sub : Nat) (payload : Bytes) : s.Carries (s.doWrite p idx sub payload).1 := by
  unfold State.doWrite
  split
  · exact State.carries_of_outer (by simp)
  · split
    · dsimp only
      (repeat' split) <;> exact State.carries_of_outer (by simp)
    · split
      · exact State.carries_of_outer (by simp)
      · split
        · split
          · exact s.command_carries _ _ _
          · exact State.carries_of_outer (by simp)
        · exact State.carries_of_outer (by simp)

theorem State.serve_carries (s : State) (h : FopHead) (op key : Nat) (act : State → State × Nat × Bytes)
    (ha : ∀ s : State, s.Carries (act s).1) : s.Carries (s.serve h op key act) := by
  unfold State.serve
  split
  · exact .refl s
  · dsimp only
    iterate 3
      split
      · exact State.carries_of_outer (by simp)
    split
    · exact State.carries_of_outer (by simp)
    · exact State.Carries.outer (State.outer_carries (by simp) (ha _)) (State.fopReply_outer _ _ _ _ _ _ _)

theorem State.serveCmd_carries (s : State) (h : FopHead) (key : Nat) (act : State → State × Bool)
    (ha : ∀ s : State, s.Carries (act s).1) : s.Carries (s.serveCmd h key act) := s.serve_carries h 2 key _ ha

theorem State.wrote_carries (s : State) (h : FopHead) (idx sub n v : Nat) : s.Carries (s.wrote h idx sub n v) :=
  s.serve_carries h 2 _ _ fun _ => State.doWrite_carries _ _ _ _ _

theorem State.fopWrite_carries (s : State) (m : FopMsg) : s.Carries (s.fopWrite m) :=
  s.serve_carries m.head 2 _ _ fun _ => State.doWrite_carries _ _ _ _ _

theorem State.awake_carries (s : State) (f : State → State) (hf : s.Carries (f s)) : s.Carries (s.awake f) := by
  unfold State.awake
  split
  · exact hf
  · exact .refl s

end Sys2Proof.Machine
end

