-- ==== Sys2Proof/Laws/Reads.lean ====
section
/-! SUPPORT. Reading back what was written: bytes, sparse maps, object registers; free handles; where an object stands in the dictionary. -/

namespace Sys2Proof.Machine

theorem leAt_leBytes (off : Nat) (d : Bytes) (h : off < 2 ^ 32) : leAt (leBytes 4 off ++ d) 0 4 = off := by
  simp [leAt, leBytes, slice, leVal]
  omega

theorem pigeon (k c : Nat) (l : List Nat) (h : l.length < k) (b : k ≤ 65536) : ∃ i ∈ upTo k, (Config.choice c + i) % 65536 ∉ l := by
  by_contra hn
  simp only [not_exists, not_and, not_not] at hn
  have s : ((upTo k).map fun i => (Config.choice c + i) % 65536) ⊆ l := by
    intro x hx
    obtain ⟨i, hi, rfl⟩ := List.mem_map.mp hx
    exact hn i hi
  have nd : ((upTo k).map fun i => (Config.choice c + i) % 65536).Nodup := by
    refine List.Nodup.map_on ?_ List.nodup_range
    intro x hx y hy e
    simp [upTo] at hx hy
    omega
  have := (nd.subperm s).length_le
  simp [upTo] at this
  omega

theorem freeNumber_not_mem (k c : Nat) (l : List Nat) (h : l.length < k) (b : k ≤ 65536) :
    ((((upTo k).map fun i => (Config.choice c + i) % 65536).find? fun h => !l.contains h).getD 0) ∉ l := by
  obtain ⟨i, hi, n⟩ := pigeon k c l h b
  cases e : ((upTo k).map fun i => (Config.choice c + i) % 65536).find? fun h => !l.contains h with
  | none =>
    rw [List.find?_eq_none] at e
    have := e _ (List.mem_map_of_mem hi)
    simp at this
    exact absurd this n
  | some t =>
    have := List.find?_some e
    simpa using this

theorem freeHandle_not_mem (c : Nat) (x : List Xfer) (h : x.length < 8) :
    ((((upTo 9).map fun i => (Config.choice c + i) % 65536).find? fun h => !(x.map (·.handle)).contains h).getD 0) ∉ x.map (·.handle) :=
  freeNumber_not_mem 9 c _ (by simp; omega) (by decide)

theorem sget_sset_ne {α : Type} [DecidableEq α] {d : α} (m : Sparse α) {k j : Nat} (v : α) (h : j ≠ k) : sget d (sset d m k v) j = sget d m j := by
  have e : ∀ m : Sparse α, sfind j (serase k m) = sfind j m := by
    intro m; induction m with
    | nil => rfl
    | cons x m ih =>
      obtain ⟨a, b⟩ := x
      simp only [serase]
      split
      · next e => subst e; simp [sfind, Ne.symm h]
      · simp [sfind, ih]
  have i : ∀ m : Sparse α, sfind j (sinsert k v m) = sfind j m := by
    intro m; induction m with
    | nil => simp [sinsert, sfind, Ne.symm h]
    | cons x m ih =>
      obtain ⟨a, b⟩ := x
      simp only [sinsert]
      split
      · simp [sfind, Ne.symm h]
      · split
        · next e => subst e; simp [sfind, Ne.symm h]
        · simp [sfind, ih]
  unfold sget sset
  split <;> simp [e, i]

theorem domRead_end (s : State) (h i k a b : Nat) : (s.endXfer h).domRead i k a b = s.domRead i k a b := rfl

theorem domRead_upd (s : State) (h : Nat) (f : Xfer → Xfer) (i k a b : Nat) : (s.updXfer h f).domRead i k a b = s.domRead i k a b := rfl

theorem lookup_ring2 (q : BitVec 8) : lookup (0x7C00 + q.toNat) 2 = some ⟨0x7C00, 1, 256, 2, 1, .u, 4, .rw, false, false, 0, .any⟩ := by
  have : ∀ q : Fin 256, lookup (0x7C00 + q.val) 2 = some ⟨0x7C00, 1, 256, 2, 1, .u, 4, .rw, false, false, 0, .any⟩ := by decide +kernel
  exact this ⟨q.toNat, q.isLt⟩

theorem lookup_ring3 (q : BitVec 8) : lookup (0x7C00 + q.toNat) 3 = some ⟨0x7C00, 1, 256, 3, 1, .u, 4, .rw, false, false, 0, .any⟩ := by
  have : ∀ q : Fin 256, lookup (0x7C00 + q.val) 3 = some ⟨0x7C00, 1, 256, 3, 1, .u, 4, .rw, false, false, 0, .any⟩ := by decide +kernel
  exact this ⟨q.toNat, q.isLt⟩

theorem length_leBytes (n v : Nat) : (leBytes n v).length = n := by
  induction n generalizing v with
  | zero => rfl
  | succ n ih => simp [leBytes, ih]

theorem leVal_leBytes (n v : Nat) : leVal (leBytes n v) = v % 256 ^ n := by
  induction n generalizing v with
  | zero => simp [leBytes, leVal, Nat.mod_one]
  | succ n ih =>
    have e : 256 ^ (n + 1) = 256 * 256 ^ n := by rw [Nat.pow_succ, Nat.mul_comm]
    rw [leBytes, leVal, ih, BitVec.toNat_ofNat, e, Nat.mod_mul, show (2 : Nat) ^ 8 = 256 from rfl]

theorem leVal_leBytes4 (v : BitVec 32) : leVal (leBytes 4 v.toNat) = v.toNat := by
  rw [leVal_leBytes]; exact Nat.mod_eq_of_lt v.isLt

theorem updPage_queue (s : State) (n : Nat) (f : Page → Page) : (s.updPage n f).jobs.queue = s.jobs.queue := rfl

theorem setReserved_jobs (s : State) (n v : Nat) : (s.setReserved n v).jobs = s.jobs := rfl

theorem sget_sset_put {α : Type} [DecidableEq α] {d : α} (m : Sparse α) (k : Nat) (v : α) (h : v ≠ d) : sget d (sset d m k v) k = v := by
  have i : ∀ m : Sparse α, sfind k (sinsert k v m) = some v := by
    intro m; induction m with
    | nil => simp [sinsert, sfind]
    | cons x m ih =>
      obtain ⟨a, b⟩ := x
      simp only [sinsert]
      split
      · simp [sfind]
      · split
        · simp [sfind]
        · next e => simp [sfind, e, ih]
  simp [sget, sset, h, i]

theorem link_updLink_locked (s : State) (l : Nat) : (s.updLink l fun x => { x with locked := true }).link l = { s.link l with locked := true } := by
  unfold State.link State.updLink
  exact sget_sset_put _ _ _ (by intro e; have := congrArg Link.locked e; simp [Link.off] at this)

theorem crc32c_lt (d : Bytes) : crc32c d < 2 ^ 32 := by
  have step : ∀ r, r < 2 ^ 32 → (if r % 2 = 1 then (r / 2) ^^^ 0x82F63B78 else r / 2) < 2 ^ 32 := by
    intro r h
    split
    · exact Nat.xor_lt_two_pow (by omega) (by omega)
    · omega
  have fold : ∀ (l : List Nat) r, r < 2 ^ 32 → l.foldl (fun r _ => if r % 2 = 1 then (r / 2) ^^^ 0x82F63B78 else r / 2) r < 2 ^ 32 := by
    intro l
    induction l with
    | nil => intro r h; exact h
    | cons x l ih => intro r h; exact ih _ (step r h)
  have bytes : ∀ (d : Bytes) c, c < 2 ^ 32 → d.foldl crc32cByte c < 2 ^ 32 := by
    intro d
    induction d with
    | nil => intro c h; exact h
    | cons b d ih =>
      intro c h
      exact ih _ (fold _ _ (Nat.xor_lt_two_pow h (by have := b.isLt; omega)))
  exact Nat.xor_lt_two_pow (bytes d _ (by omega)) (by omega)

theorem crcOfNat (d : Bytes) : (BitVec.ofNat 32 (crc32c d)).toNat = crc32c d := by
  rw [BitVec.toNat_ofNat]; exact Nat.mod_eq_of_lt (crc32c_lt d)

theorem sfind_serase_ne {α : Type} (m : Sparse α) {k j : Nat} (h : j ≠ k) : sfind j (serase k m) = sfind j m := by
  induction m with
  | nil => rfl
  | cons x m ih =>
    obtain ⟨a, b⟩ := x
    simp only [serase]
    split
    · next e => subst e; simp [sfind, Ne.symm h]
    · simp [sfind, ih]

theorem sfind_sinsert_ne {α : Type} (m : Sparse α) {k j : Nat} (v : α) (h : j ≠ k) : sfind j (sinsert k v m) = sfind j m := by
  induction m with
  | nil => simp [sinsert, sfind, Ne.symm h]
  | cons x m ih =>
    obtain ⟨a, b⟩ := x
    simp only [sinsert]
    split
    · simp [sfind, Ne.symm h]
    · split
      · next e => subst e; simp [sfind, Ne.symm h]
      · simp [sfind, ih]

theorem reg_set_ne (s : State) {i k j l : Nat} (v : Nat) (h : obj j l ≠ obj i k) : (s.set i k v).reg j l = s.reg j l := by
  have b : ∀ b : Bank, (b.put (obj i k) v).get (obj j l) = b.get (obj j l) := by
    intro b
    simp only [Bank.put, Bank.get]
    split <;> simp [sfind_serase_ne, sfind_sinsert_ne, h]
  unfold State.set State.reg State.put State.get
  by_cases e : inEv (obj i k / 256) = true <;> by_cases f : inEv (obj j l / 256) = true <;> simp [e, f, b]

theorem onBoard_set (s : State) (i k v : Nat) (h : obj 0x8800 3 ≠ obj i k) : (s.set i k v).onBoard = s.onBoard :=
  congrArg (fun n => decide (1 < n)) (reg_set_ne s v h)

theorem lookup_crc7 (u : Fin 8) : lookup (crcIdx u) 7 = some ⟨0x6820, 1, 8, 7, 1, .u, 4, .rw, false, false, 4294967295, .any⟩ := by
  have : ∀ u : Fin 8, lookup (crcIdx u) 7 = some ⟨0x6820, 1, 8, 7, 1, .u, 4, .rw, false, false, 4294967295, .any⟩ := by decide +kernel
  exact this u

theorem lookup_feed (u : Fin 8) (w : Fin 4) : lookup (crcIdx u) (11 + w.val) = some ⟨0x6820, 1, 8, 11 + w.val, 1, .u, 2 ^ w.val, .wo, false, false, 0, .any⟩ := by
  have : ∀ (u : Fin 8) (w : Fin 4), lookup (crcIdx u) (11 + w.val) = some ⟨0x6820, 1, 8, 11 + w.val, 1, .u, 2 ^ w.val, .wo, false, false, 0, .any⟩ := by decide +kernel
  exact this u w

theorem reg_integ (s : State) (x : Integ) (i k : Nat) : State.reg { s with integ := x } i k = s.reg i k := rfl

theorem lookup_win1 (n : BitVec 8) : lookup (0x7900 + n.toNat) 1 = some ⟨0x7900, 1, 256, 1, 1, .u, 2, .rw, true, false, 3, .span 0 65535⟩ := by
  have : ∀ n : Fin 256, lookup (0x7900 + n.val) 1 = some ⟨0x7900, 1, 256, 1, 1, .u, 2, .rw, true, false, 3, .span 0 65535⟩ := by decide +kernel
  exact this ⟨n.toNat, n.isLt⟩

theorem lookup_win2 (n : BitVec 8) : lookup (0x7900 + n.toNat) 2 = some ⟨0x7900, 1, 256, 2, 1, .u, 4, .rw, true, false, 600000, .span 1 86400000⟩ := by
  have : ∀ n : Fin 256, lookup (0x7900 + n.val) 2 = some ⟨0x7900, 1, 256, 2, 1, .u, 4, .rw, true, false, 600000, .span 1 86400000⟩ := by decide +kernel
  exact this ⟨n.toNat, n.isLt⟩

theorem forward_board (s : State) (k h : Nat) (l : List Nat) (b : Bytes) : (s.forward k h l b).board = s.board := by
  unfold State.forward
  split
  · have : ∀ (l : List Nat) (s : State), (l.foldl (fun s l => s.send (.seam (pairLink k) l) b) s).board = s.board := by
      intro l
      induction l with
      | nil => intro s; rfl
      | cons x l ih => intro s; exact ih _
    exact this l s
  · rfl

theorem sfind_append {α : Type} (k : Nat) (l m : Sparse α) : sfind k (l ++ m) = (sfind k l).or (sfind k m) := by
  induction l with
  | nil => simp [sfind]
  | cons e l ih => obtain ⟨k', v⟩ := e; simp only [List.cons_append, sfind]; split <;> simp [ih]

theorem sfind_filter_of {α : Type} (k : Nat) (p : Nat → Bool) (l : Sparse α) : sfind k (l.filter fun e => p e.1) = if p k then sfind k l else none := by
  induction l with
  | nil => simp [sfind]
  | cons e l ih =>
    obtain ⟨k', v⟩ := e
    simp only [List.filter_cons, sfind]
    by_cases h : k' = k
    · subst h; by_cases q : p k' <;> simp [q, sfind, ih]
    · by_cases q : p k' <;> simp [q, sfind, ih, h]

theorem sfind_numbered (k a : Nat) (d : Bytes) : sfind k (numbered a d) = if a ≤ k then d[k - a]? else none := by
  induction d generalizing a with
  | nil => simp [numbered, sfind]
  | cons b d ih =>
    simp only [numbered, sfind, ih]
    by_cases h : a = k
    · subst h; simp
    · by_cases q : a ≤ k
      · have : k - a = (k - (a + 1)) + 1 := by omega
        rw [if_neg h, if_pos (by omega), if_pos q, this]; rfl
      · rw [if_neg h, if_neg (by omega), if_neg q]

theorem sfind_spatch (k a : Nat) (d : Bytes) (m : Sparse Byte) : sfind k (spatch a d m) = if a ≤ k ∧ k < a + d.length then d[k - a]? else sfind k m := by
  unfold spatch
  rw [sfind_append, sfind_append, sfind_filter_of k (fun x => decide (x < a)), sfind_filter_of k (fun x => decide (a + d.length ≤ x)), sfind_numbered]
  by_cases h : k < a
  · rw [if_pos (by simpa using h), if_neg (by omega), if_neg (by simp; omega), if_neg (by omega)]; cases sfind k m <;> rfl
  · rw [if_neg (by simpa using h), if_pos (by omega)]
    by_cases q : k < a + d.length
    · rw [if_neg (by simpa using q), if_pos ⟨by omega, q⟩]; simp
    · rw [if_pos (by simpa using q), if_neg (by omega), List.getElem?_eq_none (by omega)]; simp

theorem bank_get_put (b : Bank) (k v : Nat) (h : v ≠ dflt k) : (b.put k v).get k = v := by
  simp [Bank.put, Bank.get, h, sfind_sinsert]

theorem bank_get_put_ne (b : Bank) (k j v : Nat) (h : j ≠ k) : (b.put k v).get j = b.get j := by
  simp only [Bank.put, Bank.get]
  split
  · congr 1
    induction b.regs with
    | nil => rfl
    | cons e l ih => 
      obtain ⟨a, x⟩ := e
      simp only [serase]
      split
      · next q => rw [sfind, if_neg (by omega)]
      · simp only [sfind]; split <;> simp [ih]
  · rw [sfind_sinsert, if_neg h]

end Sys2Proof.Machine
end

