-- ==== Sys2Proof/Laws/Writes.lean ====
section
/-! SUPPORT. What a WRITE of a value or of a plain command object leaves alone. -/

namespace Sys2Proof.Machine

/-- An object index that is neither a command of power, settings, tables, reset, update or test window, nor the staging or a test window. -/
def plainIndex (idx : Nat) : Bool := !([0x0030, 0x0040, 0x4010, 0x8000, 0x8010, 0x8020, 0xF000, 0xF001, 0xF002].contains idx)

theorem State.domWrite_still (s : State) (idx sub off : Nat) (bs : Bytes) (h : plainIndex idx = true) : (s.domWrite idx sub off bs).still = s.still := by
  simp [plainIndex] at h
  unfold State.domWrite
  (repeat' split) <;> (first | omega | simp)

theorem State.command_still (s : State) (idx sub v : Nat) (h : plainIndex idx = true) : (s.command idx sub v).1.still = s.still := by
  simp [plainIndex] at h
  unfold State.command
  rw [if_neg (show ¬ idx = 0x0030 by omega), if_neg (show ¬ idx = 0x0040 by omega), if_neg (show ¬ idx = 0x4010 by omega),
    if_neg (show ¬ idx = 0x8000 by omega), if_neg (show ¬ idx = 0x8010 by omega), if_neg (show ¬ idx = 0xF000 by omega)]
  (repeat' split) <;> simp [asStatus, accepted]

theorem State.doWrite_still (s : State) (p : Peer) (idx sub : Nat) (payload : Bytes) (h : plainIndex idx = true) : (s.doWrite p idx sub payload).1.still = s.still := by
  unfold State.doWrite
  split
  · simp
  · split
    · dsimp only
      (repeat' split) <;> (try simp)
      unfold State.writeDomain
      split <;> simp [State.domWrite_still _ _ _ _ _ h]
    · split
      · simp
      · split
        · split
          · exact s.command_still _ _ _ h
          · simp
        · simp

theorem State.wrote_outer (s : State) (h : FopHead) (idx sub n v : Nat) (hi : plainIndex idx = true) : (s.wrote h idx sub n v).outer = s.outer :=
  State.serve_outer _ _ _ _ _ fun _ => State.still_outer (State.doWrite_still _ _ _ _ _ hi)
theorem State.wrote_kept (s : State) (h : FopHead) (idx sub n v : Nat) (hi : plainIndex idx = true) : (s.wrote h idx sub n v).kept = s.kept :=
  State.serve_kept _ _ _ _ _ fun _ => State.still_kept (State.doWrite_still _ _ _ _ _ hi)
theorem State.wrote_ram (s : State) (h : FopHead) (idx sub n v : Nat) (hi : plainIndex idx = true) : (s.wrote h idx sub n v).ram = s.ram :=
  State.serve_ram _ _ _ _ _ fun _ => State.still_ram (State.doWrite_still _ _ _ _ _ hi)

end Sys2Proof.Machine
end

