-- ==== Sys2Proof/Laws/RowFrames.lean ====
section
/-! SUPPORT. What the effect of each command leaves alone before it is concluded (`outer`, `kept`, `ram` of Safety), and for the commands behind which the device restarts that they carry the queue over. -/

namespace Sys2Proof.Machine

theorem execSurgent_outer (k : Fin 4) (o : SeamHead) (s : State) : (s.awake fun s => s.surgent k o.origin o.hops o.valid : State).outer = s.outer :=
  by simp

theorem execSurgent_kept (k : Fin 4) (o : SeamHead) (s : State) : (s.awake fun s => s.surgent k o.origin o.hops o.valid : State).kept = s.kept :=
  by simp

theorem execSurgent_ram (k : Fin 4) (o : SeamHead) (s : State) : (s.awake fun s => s.surgent k o.origin o.hops o.valid : State).ram = s.ram :=
  by simp

theorem execSurgentSend_outer (s : State) : (s.awake fun s => s.surgentSend : State).outer = s.outer :=
  by simp

theorem execSurgentSend_kept (s : State) : (s.awake fun s => s.surgentSend : State).kept = s.kept :=
  by simp

theorem execSurgentSend_ram (s : State) : (s.awake fun s => s.surgentSend : State).ram = s.ram :=
  by simp

theorem execMissingMember_outer (d : Fin 8) (s : State) : (s.awake fun s => s.missingMember d : State).outer = s.outer :=
  by simp

theorem execMissingMember_kept (d : Fin 8) (s : State) : (s.awake fun s => s.missingMember d : State).kept = s.kept :=
  by simp

theorem execMissingMember_ram (d : Fin 8) (s : State) : (s.awake fun s => s.missingMember d : State).ram = s.ram :=
  by simp

theorem execSpos_outer (k : Fin 4) (o : SeamHead) (count : BitVec 24) (at_ : BitVec 24) (s : State) : (s.awake fun s => s.sposIn k o.origin o.hops o.valid count.toNat at_.toNat : State).outer = s.outer :=
  by simp

theorem execSpos_kept (k : Fin 4) (o : SeamHead) (count : BitVec 24) (at_ : BitVec 24) (s : State) : (s.awake fun s => s.sposIn k o.origin o.hops o.valid count.toNat at_.toNat : State).kept = s.kept :=
  by simp

theorem execSpos_ram (k : Fin 4) (o : SeamHead) (count : BitVec 24) (at_ : BitVec 24) (s : State) : (s.awake fun s => s.sposIn k o.origin o.hops o.valid count.toNat at_.toNat : State).ram = s.ram :=
  by simp

theorem execSposSend_outer (s : State) : (s.awake fun s => s.sposSend : State).outer = s.outer :=
  by simp

theorem execSposSend_kept (s : State) : (s.awake fun s => s.sposSend : State).kept = s.kept :=
  by simp

theorem execSposSend_ram (s : State) : (s.awake fun s => s.sposSend : State).ram = s.ram :=
  by simp

theorem execPosFull_outer (k : Fin 4) (o : SeamHead) (g : SeamMsg) (s : State) : (s.awake fun s => s.smsgOf k o g 1 fun s => s.posFullIn o.origin g.body : State).outer = s.outer :=
  by simp

theorem execPosFull_kept (k : Fin 4) (o : SeamHead) (g : SeamMsg) (s : State) : (s.awake fun s => s.smsgOf k o g 1 fun s => s.posFullIn o.origin g.body : State).kept = s.kept :=
  by simp

theorem execPosFull_ram (k : Fin 4) (o : SeamHead) (g : SeamMsg) (s : State) : (s.awake fun s => s.smsgOf k o g 1 fun s => s.posFullIn o.origin g.body : State).ram = s.ram :=
  by simp

theorem execPosFullSend_outer (s : State) : (s.awake fun s => s.posFullSend : State).outer = s.outer :=
  by simp

theorem execPosFullSend_kept (s : State) : (s.awake fun s => s.posFullSend : State).kept = s.kept :=
  by simp

theorem execPosFullSend_ram (s : State) : (s.awake fun s => s.posFullSend : State).ram = s.ram :=
  by simp

theorem execStime_outer (k : Fin 4) (o : SeamHead) (at_ : BitVec 48) (s : State) : (s.awake fun s => s.stimeIn k o.origin o.hops at_.toNat : State).outer = s.outer :=
  by simp

theorem execStime_kept (k : Fin 4) (o : SeamHead) (at_ : BitVec 48) (s : State) : (s.awake fun s => s.stimeIn k o.origin o.hops at_.toNat : State).kept = s.kept :=
  by simp

theorem execStime_ram (k : Fin 4) (o : SeamHead) (at_ : BitVec 48) (s : State) : (s.awake fun s => s.stimeIn k o.origin o.hops at_.toNat : State).ram = s.ram :=
  by simp

theorem execStimeSend_outer (s : State) : (s.awake fun s => s.stimeSend : State).outer = s.outer :=
  by simp

theorem execStimeSend_kept (s : State) : (s.awake fun s => s.stimeSend : State).kept = s.kept :=
  by simp

theorem execStimeSend_ram (s : State) : (s.awake fun s => s.stimeSend : State).ram = s.ram :=
  by simp

theorem execStimeLoss_outer (s : State) : (s.awake fun s => s.stimeLoss : State).outer = s.outer :=
  by simp

theorem execStimeLoss_kept (s : State) : (s.awake fun s => s.stimeLoss : State).kept = s.kept :=
  by simp

theorem execStimeLoss_ram (s : State) : (s.awake fun s => s.stimeLoss : State).ram = s.ram :=
  by simp

theorem execBarrierStart_outer (s : State) : (s.awake fun s => s.barrierStart : State).outer = s.outer :=
  by simp

theorem execBarrierStart_kept (s : State) : (s.awake fun s => s.barrierStart : State).kept = s.kept :=
  by simp

theorem execBarrierStart_ram (s : State) : (s.awake fun s => s.barrierStart : State).ram = s.ram :=
  by simp

theorem execBarrierOpen_outer (k : Fin 4) (o : SeamHead) (g : SeamMsg) (s : State) : (s.awake fun s => s.smsgOf k o g 2 fun s => s.barrierOpen o.origin g.body : State).outer = s.outer :=
  by simp

theorem execBarrierOpen_kept (k : Fin 4) (o : SeamHead) (g : SeamMsg) (s : State) : (s.awake fun s => s.smsgOf k o g 2 fun s => s.barrierOpen o.origin g.body : State).kept = s.kept :=
  by simp

theorem execBarrierOpen_ram (k : Fin 4) (o : SeamHead) (g : SeamMsg) (s : State) : (s.awake fun s => s.smsgOf k o g 2 fun s => s.barrierOpen o.origin g.body : State).ram = s.ram :=
  by simp

theorem execVote_outer (k : Fin 4) (o : SeamHead) (g : SeamMsg) (s : State) : (s.awake fun s => s.smsgOf k o g 3 fun s => s.voteIn o.origin g.body : State).outer = s.outer :=
  by simp

theorem execVote_kept (k : Fin 4) (o : SeamHead) (g : SeamMsg) (s : State) : (s.awake fun s => s.smsgOf k o g 3 fun s => s.voteIn o.origin g.body : State).kept = s.kept :=
  by simp

theorem execVote_ram (k : Fin 4) (o : SeamHead) (g : SeamMsg) (s : State) : (s.awake fun s => s.smsgOf k o g 3 fun s => s.voteIn o.origin g.body : State).ram = s.ram :=
  by simp

theorem execBarrierTimeout_outer (s : State) : (s.awake fun s => s.barrierTimeout : State).outer = s.outer :=
  by simp

theorem execBarrierTimeout_kept (s : State) : (s.awake fun s => s.barrierTimeout : State).kept = s.kept :=
  by simp

theorem execBarrierTimeout_ram (s : State) : (s.awake fun s => s.barrierTimeout : State).ram = s.ram :=
  by simp

theorem execBarrierReopenDelay_outer (s : State) : (s.awake fun s => s.barrierReopen : State).outer = s.outer :=
  by simp

theorem execBarrierReopenDelay_kept (s : State) : (s.awake fun s => s.barrierReopen : State).kept = s.kept :=
  by simp

theorem execBarrierReopenDelay_ram (s : State) : (s.awake fun s => s.barrierReopen : State).ram = s.ram :=
  by simp

theorem execRelease_outer (k : Fin 4) (o : SeamHead) (g : SeamMsg) (s : State) : (s.awake fun s => s.smsgOf k o g 4 fun s => s.releaseIn o.origin g.body : State).outer = s.outer :=
  by simp

theorem execRelease_kept (k : Fin 4) (o : SeamHead) (g : SeamMsg) (s : State) : (s.awake fun s => s.smsgOf k o g 4 fun s => s.releaseIn o.origin g.body : State).kept = s.kept :=
  by simp

theorem execRelease_ram (k : Fin 4) (o : SeamHead) (g : SeamMsg) (s : State) : (s.awake fun s => s.smsgOf k o g 4 fun s => s.releaseIn o.origin g.body : State).ram = s.ram :=
  by simp

theorem execFrogMessage_outer (k : Fin 4) (o : SeamHead) (g : SeamMsg) (s : State) : (s.awake fun s => s.smsgOf k o g 5 fun s => s.frogIn o.origin g.body : State).outer = s.outer :=
  by simp

theorem execFrogMessage_kept (k : Fin 4) (o : SeamHead) (g : SeamMsg) (s : State) : (s.awake fun s => s.smsgOf k o g 5 fun s => s.frogIn o.origin g.body : State).kept = s.kept :=
  by simp

theorem execFrogMessage_ram (k : Fin 4) (o : SeamHead) (g : SeamMsg) (s : State) : (s.awake fun s => s.smsgOf k o g 5 fun s => s.frogIn o.origin g.body : State).ram = s.ram :=
  by simp

theorem execSpoil_outer (k : Fin 4) (o : SeamHead) (g : SeamMsg) (s : State) : (s.awake fun s => s.smsgOf k o g 6 fun s => s.spoilIn g.body : State).outer = s.outer :=
  by simp

theorem execSpoil_kept (k : Fin 4) (o : SeamHead) (g : SeamMsg) (s : State) : (s.awake fun s => s.smsgOf k o g 6 fun s => s.spoilIn g.body : State).kept = s.kept :=
  by simp

theorem execSpoil_ram (k : Fin 4) (o : SeamHead) (g : SeamMsg) (s : State) : (s.awake fun s => s.smsgOf k o g 6 fun s => s.spoilIn g.body : State).ram = s.ram :=
  by simp

theorem execRebase_outer (k : Fin 4) (o : SeamHead) (g : SeamMsg) (s : State) : (s.awake fun s => s.smsgOf k o g 7 fun s => s.rebaseIn o.origin g.body : State).outer = s.outer :=
  by simp

theorem execRebase_kept (k : Fin 4) (o : SeamHead) (g : SeamMsg) (s : State) : (s.awake fun s => s.smsgOf k o g 7 fun s => s.rebaseIn o.origin g.body : State).kept = s.kept :=
  by simp

theorem execRebase_ram (k : Fin 4) (o : SeamHead) (g : SeamMsg) (s : State) : (s.awake fun s => s.smsgOf k o g 7 fun s => s.rebaseIn o.origin g.body : State).ram = s.ram :=
  by simp

theorem execRebaseApply_outer (s : State) : (s.awake fun s => s.rebaseApply : State).outer = s.outer :=
  by simp

theorem execRebaseApply_kept (s : State) : (s.awake fun s => s.rebaseApply : State).kept = s.kept :=
  by simp

theorem execRebaseApply_ram (s : State) : (s.awake fun s => s.rebaseApply : State).ram = s.ram :=
  by simp

theorem execUser_outer (k : Fin 4) (o : SeamHead) (g : SeamMsg) (s : State) : (s.awake fun s => s.smsgOf k o g 8 fun s => s.userIn o.origin g.count.toNat g.body : State).outer = s.outer :=
  by simp

theorem execUser_kept (k : Fin 4) (o : SeamHead) (g : SeamMsg) (s : State) : (s.awake fun s => s.smsgOf k o g 8 fun s => s.userIn o.origin g.count.toNat g.body : State).kept = s.kept :=
  by simp

theorem execUser_ram (k : Fin 4) (o : SeamHead) (g : SeamMsg) (s : State) : (s.awake fun s => s.smsgOf k o g 8 fun s => s.userIn o.origin g.count.toNat g.body : State).ram = s.ram :=
  by simp

theorem execUserSend_outer (h : FopHead) (n : BitVec 8) (s : State) : (s.serveCmd h (obj 0x8840 3) fun s => s.userSend n.toNat : State).outer = s.outer :=
  by simp

theorem execUserSend_kept (h : FopHead) (n : BitVec 8) (s : State) : (s.serveCmd h (obj 0x8840 3) fun s => s.userSend n.toNat : State).kept = s.kept :=
  by simp

theorem execUserSend_ram (h : FopHead) (n : BitVec 8) (s : State) : (s.serveCmd h (obj 0x8840 3) fun s => s.userSend n.toNat : State).ram = s.ram :=
  by simp

theorem execPorNLow_carries (s : State) : s.Carries (s.porLow) :=
  by
  apply State.porLow_carries

theorem execVbatRise_carries (s : State) : s.Carries (s.vbatRise) :=
  by
  apply State.vbatRise_carries

theorem execInternalResetRelease_carries (s : State) : s.Carries (s.railsGood) :=
  by
  apply State.railsGood_carries

theorem execSposGap_outer (s : State) : (s.awake fun s => s.sposGap : State).outer = s.outer :=
  by simp

theorem execSposGap_kept (s : State) : (s.awake fun s => s.sposGap : State).kept = s.kept :=
  by simp

theorem execSposGap_ram (s : State) : (s.awake fun s => s.sposGap : State).ram = s.ram :=
  by simp

theorem execFunctionSelfTestPassed_outer (fn : SelfTest) (s : State) : (s.awake fun s => match fn with | .codec => s.selfTestCodec | .cluster c => s.selfTestCluster c : State).outer = s.outer :=
  by apply State.awake_outer; split <;> simp

theorem execFunctionSelfTestPassed_kept (fn : SelfTest) (s : State) : (s.awake fun s => match fn with | .codec => s.selfTestCodec | .cluster c => s.selfTestCluster c : State).kept = s.kept :=
  by apply State.awake_kept; split <;> simp

theorem execFunctionSelfTestPassed_ram (fn : SelfTest) (s : State) : (s.awake fun s => match fn with | .codec => s.selfTestCodec | .cluster c => s.selfTestCluster c : State).ram = s.ram :=
  by apply State.awake_ram; split <;> simp

theorem execTestWindowCloseComplete_outer (s : State) : (s.awake fun s => s.windowClosed : State).outer = s.outer :=
  by simp

theorem execTestWindowCloseComplete_kept (s : State) : (s.awake fun s => s.windowClosed : State).kept = s.kept :=
  by simp

theorem execCountingWindowClose_outer (n : BitVec 8) (s : State) : (s.awake fun s => s.countingClose n.toNat : State).outer = s.outer :=
  by simp

theorem execCountingWindowClose_kept (n : BitVec 8) (s : State) : (s.awake fun s => s.countingClose n.toNat : State).kept = s.kept :=
  by simp

theorem execCountingWindowClose_ram (n : BitVec 8) (s : State) : (s.awake fun s => s.countingClose n.toNat : State).ram = s.ram :=
  by simp

theorem execWindowConfigurationWrite_outer (h : FopHead) (n : BitVec 8) (width : Bool) (v : BitVec 32) (s : State) : (s.wrote h (0x7900 + n.toNat) (if width then 2 else 1) (if width then 4 else 2) v.toNat : State).outer = s.outer :=
  by apply State.wrote_outer; simp [plainIndex]; omega

theorem execWindowConfigurationWrite_kept (h : FopHead) (n : BitVec 8) (width : Bool) (v : BitVec 32) (s : State) : (s.wrote h (0x7900 + n.toNat) (if width then 2 else 1) (if width then 4 else 2) v.toNat : State).kept = s.kept :=
  by apply State.wrote_kept; simp [plainIndex]; omega

theorem execWindowConfigurationWrite_ram (h : FopHead) (n : BitVec 8) (width : Bool) (v : BitVec 32) (s : State) : (s.wrote h (0x7900 + n.toNat) (if width then 2 else 1) (if width then 4 else 2) v.toNat : State).ram = s.ram :=
  by apply State.wrote_ram; simp [plainIndex]; omega

theorem execFaultClear_outer (h : FopHead) (s : State) : (s.serveCmd h (obj 0x7800 2) State.faultClear : State).outer = s.outer :=
  by simp

theorem execFaultClear_kept (h : FopHead) (s : State) : (s.serveCmd h (obj 0x7800 2) State.faultClear : State).kept = s.kept :=
  by simp

theorem execFaultClear_ram (h : FopHead) (s : State) : (s.serveCmd h (obj 0x7800 2) State.faultClear : State).ram = s.ram :=
  by simp

theorem execEnterSafeState_outer (h : FopHead) (s : State) : (s.serveCmd h (obj 0x7800 2) State.commandSafe : State).outer = s.outer :=
  by simp

theorem execEnterSafeState_kept (h : FopHead) (s : State) : (s.serveCmd h (obj 0x7800 2) State.commandSafe : State).kept = s.kept :=
  by simp

theorem execEnterSafeState_ram (h : FopHead) (s : State) : (s.serveCmd h (obj 0x7800 2) State.commandSafe : State).ram = s.ram :=
  by simp

theorem execSensorSample_outer (readings : List Int) (selfCause : Fin 6) (s : State) : (s.awake fun s => s.sensorSample readings selfCause : State).outer = s.outer :=
  by simp

theorem execSensorSample_kept (readings : List Int) (selfCause : Fin 6) (s : State) : (s.awake fun s => s.sensorSample readings selfCause : State).kept = s.kept :=
  by simp

theorem execSensorSample_ram (readings : List Int) (selfCause : Fin 6) (s : State) : (s.awake fun s => s.sensorSample readings selfCause : State).ram = s.ram :=
  by simp

theorem execThrottleHoldExpiry_outer (s : State) : (s.awake fun s => s.throttleExpiry : State).outer = s.outer :=
  by simp

theorem execThrottleHoldExpiry_kept (s : State) : (s.awake fun s => s.throttleExpiry : State).kept = s.kept :=
  by simp

theorem execThrottleHoldExpiry_ram (s : State) : (s.awake fun s => s.throttleExpiry : State).ram = s.ram :=
  by simp

theorem execDroopDetection_outer (s : State) : (s.awake fun s => s.droop : State).outer = s.outer :=
  by simp

theorem execDroopDetection_kept (s : State) : (s.awake fun s => s.droop : State).kept = s.kept :=
  by simp

theorem execDroopDetection_ram (s : State) : (s.awake fun s => s.droop : State).ram = s.ram :=
  by simp

theorem execRestoreInterval_outer (s : State) : (s.awake fun s => s.restoreStep : State).outer = s.outer :=
  by simp

theorem execRestoreInterval_kept (s : State) : (s.awake fun s => s.restoreStep : State).kept = s.kept :=
  by simp

theorem execRestoreInterval_ram (s : State) : (s.awake fun s => s.restoreStep : State).ram = s.ram :=
  by simp

theorem execCalibrationRun_outer (unit : Fin 28) (s : State) : (s.awake fun s => s.calibRun unit : State).outer = s.outer :=
  by simp

theorem execCalibrationRun_kept (unit : Fin 28) (s : State) : (s.awake fun s => s.calibRun unit : State).kept = s.kept :=
  by simp

theorem execCalibrationRun_ram (unit : Fin 28) (s : State) : (s.awake fun s => s.calibRun unit : State).ram = s.ram :=
  by simp

theorem execCalibrationComplete_outer (unit : Fin 28) (margin : BitVec 16) (load : BitVec 8) (s : State) : (s.awake fun s => s.calibDone unit margin.toNat load.toNat : State).outer = s.outer :=
  by simp

theorem execCalibrationComplete_kept (unit : Fin 28) (margin : BitVec 16) (load : BitVec 8) (s : State) : (s.awake fun s => s.calibDone unit margin.toNat load.toNat : State).kept = s.kept :=
  by simp

theorem execCalibrationComplete_ram (unit : Fin 28) (margin : BitVec 16) (load : BitVec 8) (s : State) : (s.awake fun s => s.calibDone unit margin.toNat load.toNat : State).ram = s.ram :=
  by simp

theorem execRailUndervoltage_carries (s : State) : s.Carries (s.railLow) :=
  by
  apply State.railLow_carries

theorem execPorNRelease_carries (straps : ResetPins) (testEn : Bool) (s : State) : s.Carries (s.porRelease straps testEn) :=
  by
  apply State.porRelease_carries

theorem execWatchdogExpiry_carries (s : State) : s.Carries (s.watchdog) :=
  by
  apply State.watchdog_carries

theorem execBootRetry_carries (s : State) : s.Carries (s.bootRetry) :=
  by
  apply State.bootRetry_carries

theorem execBootComplete_carries (s : State) : s.Carries (s.bootDone) :=
  by
  apply State.bootDone_carries

theorem execBootTimeout_carries (s : State) : s.Carries (s.bootTimeout) :=
  by
  apply State.bootTimeout_carries

theorem execResetCommand_carries (h : FopHead) (s : State) : s.Carries (s.serveCmd h (obj 0x8000 5) State.resetCommand) :=
  by
  apply State.serveCmd_carries; intro s; first | exact State.powerRequest_carries _ _ | exact State.resetCommand_carries _ | exact State.updActivate_carries _ | exact State.updRevert_carries _

theorem execUpdateVerify_outer (h : FopHead) (s : State) : (s.serveCmd h (obj 0x8010 1) State.updVerify : State).outer = s.outer :=
  by simp

theorem execUpdateVerify_ram (h : FopHead) (s : State) : (s.serveCmd h (obj 0x8010 1) State.updVerify : State).ram = s.ram :=
  by simp

theorem execUpdateChecksComplete_outer (s : State) : (s.awake fun s => s.updChecked : State).outer = s.outer :=
  by simp

theorem execUpdateChecksComplete_ram (s : State) : (s.awake fun s => s.updChecked : State).ram = s.ram :=
  by simp

theorem execUpdateInstall_outer (h : FopHead) (s : State) : (s.serveCmd h (obj 0x8010 1) State.updInstall : State).outer = s.outer :=
  by simp

theorem execUpdateInstall_ram (h : FopHead) (s : State) : (s.serveCmd h (obj 0x8010 1) State.updInstall : State).ram = s.ram :=
  by simp

theorem execInstallReadbackComplete_outer (good : Bool) (s : State) : (s.awake fun s => s.updInstalled good : State).outer = s.outer :=
  by simp

theorem execInstallReadbackComplete_ram (good : Bool) (s : State) : (s.awake fun s => s.updInstalled good : State).ram = s.ram :=
  by simp

theorem execUpdateActivate_carries (h : FopHead) (s : State) : s.Carries (s.serveCmd h (obj 0x8010 1) State.updActivate) :=
  by
  apply State.serveCmd_carries; intro s; first | exact State.powerRequest_carries _ _ | exact State.resetCommand_carries _ | exact State.updActivate_carries _ | exact State.updRevert_carries _

theorem execActivationBoundary_outer (s : State) : (s.awake fun s => s.updBoundary : State).outer = s.outer :=
  by simp

theorem execActivationBoundary_ram (s : State) : (s.awake fun s => s.updBoundary : State).ram = s.ram :=
  by simp

theorem execTrialSelfCheck_outer (good : Bool) (s : State) : (s.awake fun s => s.updTrial good : State).outer = s.outer :=
  by simp

theorem execTrialSelfCheck_ram (good : Bool) (s : State) : (s.awake fun s => s.updTrial good : State).ram = s.ram :=
  by simp

theorem execUpdateRevert_carries (h : FopHead) (s : State) : s.Carries (s.serveCmd h (obj 0x8010 1) State.updRevert) :=
  by
  apply State.serveCmd_carries; intro s; first | exact State.powerRequest_carries _ _ | exact State.resetCommand_carries _ | exact State.updActivate_carries _ | exact State.updRevert_carries _

theorem execUpdateAbort_outer (h : FopHead) (s : State) : (s.serveCmd h (obj 0x8010 1) State.updAbort : State).outer = s.outer :=
  by simp

theorem execUpdateAbort_ram (h : FopHead) (s : State) : (s.serveCmd h (obj 0x8010 1) State.updAbort : State).ram = s.ram :=
  by simp

theorem execTftpWrq_outer (src : Peer) (name : Bytes) (octet : Bool) (readReq : Bool) (s : State) : (s.tftpRequest src name octet readReq : State).outer = s.outer :=
  by simp

theorem execTftpWrq_ram (src : Peer) (name : Bytes) (octet : Bool) (readReq : Bool) (s : State) : (s.tftpRequest src name octet readReq : State).ram = s.ram :=
  by simp

theorem execTftpData_carries (src : Peer) (block : BitVec 16) (data : Bytes) (s : State) : s.Carries (s.tftpBlock src block.toNat data) :=
  by
  apply State.tftpBlock_carries

theorem execTftpRetransmit_outer (s : State) : (s.tftpAgain : State).outer = s.outer :=
  by simp

theorem execTftpRetransmit_ram (s : State) : (s.tftpAgain : State).ram = s.ram :=
  by simp

theorem execUartOpen_outer (f : UartFrame) (s : State) : (s.uartOpen f.good f.body : State).outer = s.outer :=
  by simp

theorem execUartOpen_ram (f : UartFrame) (s : State) : (s.uartOpen f.good f.body : State).ram = s.ram :=
  by simp

theorem execUartData_outer (f : UartFrame) (s : State) : (s.uartData f.good f.body : State).outer = s.outer :=
  by simp

theorem execUartData_ram (f : UartFrame) (s : State) : (s.uartData f.good f.body : State).ram = s.ram :=
  by simp

theorem execUartClose_carries (f : UartFrame) (s : State) : s.Carries (s.uartClose f.good f.body) :=
  by
  apply State.uartClose_carries

theorem execUartReset_carries (f : UartFrame) (s : State) : s.Carries (s.uartReset f.good) :=
  by
  apply State.uartReset_carries

theorem execRead_outer (m : FopMsg) (s : State) : (s.fopRead m : State).outer = s.outer :=
  by simp

theorem execRead_kept (m : FopMsg) (s : State) : (s.fopRead m : State).kept = s.kept :=
  by simp

theorem execRead_ram (m : FopMsg) (s : State) : (s.fopRead m : State).ram = s.ram :=
  by simp

theorem execWrite_carries (m : FopMsg) (s : State) : s.Carries (s.fopWrite m) :=
  by
  apply State.fopWrite_carries

theorem execSegReadInit_outer (m : FopMsg) (s : State) : (s.request' m 0x3 fun s => s.segReadInit m.head.peer : State).outer = s.outer :=
  by simp

theorem execSegReadInit_kept (m : FopMsg) (s : State) : (s.request' m 0x3 fun s => s.segReadInit m.head.peer : State).kept = s.kept :=
  by simp

theorem execSegReadInit_ram (m : FopMsg) (s : State) : (s.request' m 0x3 fun s => s.segReadInit m.head.peer : State).ram = s.ram :=
  by simp

theorem execSegReadData_outer (m : FopMsg) (s : State) : (s.request' m 0x4 fun s => s.segReadData m.head.peer : State).outer = s.outer :=
  by simp

theorem execSegReadData_kept (m : FopMsg) (s : State) : (s.request' m 0x4 fun s => s.segReadData m.head.peer : State).kept = s.kept :=
  by simp

theorem execSegReadData_ram (m : FopMsg) (s : State) : (s.request' m 0x4 fun s => s.segReadData m.head.peer : State).ram = s.ram :=
  by simp

theorem execSegWriteInit_outer (m : FopMsg) (s : State) : (s.request' m 0x5 fun s => s.segWriteInit m.head.peer : State).outer = s.outer :=
  by simp

theorem execSegWriteInit_kept (m : FopMsg) (s : State) : (s.request' m 0x5 fun s => s.segWriteInit m.head.peer : State).kept = s.kept :=
  by simp

theorem execSegWriteInit_ram (m : FopMsg) (s : State) : (s.request' m 0x5 fun s => s.segWriteInit m.head.peer : State).ram = s.ram :=
  by simp

theorem execSegWriteData_outer (m : FopMsg) (behind : BitVec 8) (s : State) : (if 16 ≤ behind.toNat then s.segQueueFull m.head else s.request' m 6 fun s => s.segWriteData m.head.peer : State).outer = s.outer :=
  by simp

theorem execSegWriteData_kept (m : FopMsg) (behind : BitVec 8) (s : State) : (if 16 ≤ behind.toNat then s.segQueueFull m.head else s.request' m 6 fun s => s.segWriteData m.head.peer : State).kept = s.kept :=
  by simp

theorem execSegWriteData_ram (m : FopMsg) (behind : BitVec 8) (s : State) : (if 16 ≤ behind.toNat then s.segQueueFull m.head else s.request' m 6 fun s => s.segWriteData m.head.peer : State).ram = s.ram :=
  by simp

theorem execSegEnd_outer (m : FopMsg) (s : State) : (s.request' m 0x7 fun s => s.segEnd m.head.peer : State).outer = s.outer :=
  by simp

theorem execSegEnd_kept (m : FopMsg) (s : State) : (s.request' m 0x7 fun s => s.segEnd m.head.peer : State).kept = s.kept :=
  by simp

theorem execSegAbort_outer (m : FopMsg) (s : State) : (s.request' m 0x8 fun s => s.segAbort m.head.peer : State).outer = s.outer :=
  by simp

theorem execSegAbort_kept (m : FopMsg) (s : State) : (s.request' m 0x8 fun s => s.segAbort m.head.peer : State).kept = s.kept :=
  by simp

theorem execSegAbort_ram (m : FopMsg) (s : State) : (s.request' m 0x8 fun s => s.segAbort m.head.peer : State).ram = s.ram :=
  by simp

theorem execSubscribe_outer (m : FopMsg) (s : State) : (s.request' m 0x9 fun s => s.subscribe m.head.peer : State).outer = s.outer :=
  by simp

theorem execSubscribe_kept (m : FopMsg) (s : State) : (s.request' m 0x9 fun s => s.subscribe m.head.peer : State).kept = s.kept :=
  by simp

theorem execSubscribe_ram (m : FopMsg) (s : State) : (s.request' m 0x9 fun s => s.subscribe m.head.peer : State).ram = s.ram :=
  by simp

theorem execRangeRead_outer (m : FopMsg) (s : State) : (s.request' m 0xa fun s => s.rangeRead : State).outer = s.outer :=
  by simp

theorem execRangeRead_kept (m : FopMsg) (s : State) : (s.request' m 0xa fun s => s.rangeRead : State).kept = s.kept :=
  by simp

theorem execRangeRead_ram (m : FopMsg) (s : State) : (s.request' m 0xa fun s => s.rangeRead : State).ram = s.ram :=
  by simp

theorem execRangeWrite_outer (m : FopMsg) (s : State) : (s.request' m 0xb fun s => s.rangeWrite m.head.peer : State).outer = s.outer :=
  by simp

theorem execRangeWrite_kept (m : FopMsg) (s : State) : (s.request' m 0xb fun s => s.rangeWrite m.head.peer : State).kept = s.kept :=
  by simp

theorem execNotifyAck_outer (peer : Peer) (tid : BitVec 16) (s : State) : (s.awake fun s => s.notifyAck peer tid.toNat : State).outer = s.outer :=
  by simp

theorem execNotifyAck_kept (peer : Peer) (tid : BitVec 16) (s : State) : (s.awake fun s => s.notifyAck peer tid.toNat : State).kept = s.kept :=
  by simp

theorem execNotifyAck_ram (peer : Peer) (tid : BitVec 16) (s : State) : (s.awake fun s => s.notifyAck peer tid.toNat : State).ram = s.ram :=
  by simp

theorem execFopDatagramDropped_outer (src : Peer) (bytes : Bytes) (s : State) : (s.fopOther src bytes : State).outer = s.outer :=
  by simp

theorem execFopDatagramDropped_kept (src : Peer) (bytes : Bytes) (s : State) : (s.fopOther src bytes : State).kept = s.kept :=
  by simp

theorem execFopDatagramDropped_ram (src : Peer) (bytes : Bytes) (s : State) : (s.fopOther src bytes : State).ram = s.ram :=
  by simp

theorem execClientEntryRelease_outer (src : Peer) (s : State) : (s.awake fun s => s.clientRelease src : State).outer = s.outer :=
  by simp

theorem execClientEntryRelease_kept (src : Peer) (s : State) : (s.awake fun s => s.clientRelease src : State).kept = s.kept :=
  by simp

theorem execClientEntryRelease_ram (src : Peer) (s : State) : (s.awake fun s => s.clientRelease src : State).ram = s.ram :=
  by simp

theorem execReplyCacheExpiry_outer (src : Peer) (tid : BitVec 16) (s : State) : (s.awake fun s => s.cacheExpiry src tid.toNat : State).outer = s.outer :=
  by simp

theorem execReplyCacheExpiry_kept (src : Peer) (tid : BitVec 16) (s : State) : (s.awake fun s => s.cacheExpiry src tid.toNat : State).kept = s.kept :=
  by simp

theorem execReplyCacheExpiry_ram (src : Peer) (tid : BitVec 16) (s : State) : (s.awake fun s => s.cacheExpiry src tid.toNat : State).ram = s.ram :=
  by simp

theorem execSegTransferTimeout_outer (handle : BitVec 16) (s : State) : (s.awake fun s => s.segTimeout handle.toNat : State).outer = s.outer :=
  by simp

theorem execSegTransferTimeout_kept (handle : BitVec 16) (s : State) : (s.awake fun s => s.segTimeout handle.toNat : State).kept = s.kept :=
  by simp

theorem execSegTransferTimeout_ram (handle : BitVec 16) (s : State) : (s.awake fun s => s.segTimeout handle.toNat : State).ram = s.ram :=
  by simp

theorem execNotifySend_outer (slot : Fin 4) (s : State) : (s.awake fun s => s.notifySend slot : State).outer = s.outer :=
  by simp

theorem execNotifySend_kept (slot : Fin 4) (s : State) : (s.awake fun s => s.notifySend slot : State).kept = s.kept :=
  by simp

theorem execNotifySend_ram (slot : Fin 4) (s : State) : (s.awake fun s => s.notifySend slot : State).ram = s.ram :=
  by simp

theorem execNotifyResend_outer (slot : Fin 4) (tid : BitVec 16) (s : State) : (s.awake fun s => s.notifyResend slot tid.toNat : State).outer = s.outer :=
  by simp

theorem execNotifyResend_kept (slot : Fin 4) (tid : BitVec 16) (s : State) : (s.awake fun s => s.notifyResend slot tid.toNat : State).kept = s.kept :=
  by simp

theorem execNotifyResend_ram (slot : Fin 4) (tid : BitVec 16) (s : State) : (s.awake fun s => s.notifyResend slot tid.toNat : State).ram = s.ram :=
  by simp

theorem execEventClear_outer (h : FopHead) (n : BitVec 8) (s : State) : (s.serveCmd h (obj (0x7A00 + n.toNat) 5) fun s => (s.eventClear n.toNat, true) : State).outer = s.outer :=
  by simp

theorem execEventClear_kept (h : FopHead) (n : BitVec 8) (s : State) : (s.serveCmd h (obj (0x7A00 + n.toNat) 5) fun s => (s.eventClear n.toNat, true) : State).kept = s.kept :=
  by simp

theorem execEventClear_ram (h : FopHead) (n : BitVec 8) (s : State) : (s.serveCmd h (obj (0x7A00 + n.toNat) 5) fun s => (s.eventClear n.toNat, true) : State).ram = s.ram :=
  by simp

theorem execSettingsSave_outer (h : FopHead) (s : State) : (s.serveStatus h (obj 0x0040 1) fun s => s.settingsCommand false : State).outer = s.outer :=
  by simp

theorem execSettingsSave_ram (h : FopHead) (s : State) : (s.serveStatus h (obj 0x0040 1) fun s => s.settingsCommand false : State).ram = s.ram :=
  by simp

theorem execSettingsErase_outer (h : FopHead) (s : State) : (s.serveStatus h (obj 0x0040 1) fun s => s.settingsCommand true : State).outer = s.outer :=
  by simp

theorem execSettingsErase_ram (h : FopHead) (s : State) : (s.serveStatus h (obj 0x0040 1) fun s => s.settingsCommand true : State).ram = s.ram :=
  by simp

theorem execSettingsOperationComplete_outer (good : Bool) (s : State) : (s.awake fun s => s.settingsDone good : State).outer = s.outer :=
  by simp

theorem execSettingsOperationComplete_ram (good : Bool) (s : State) : (s.awake fun s => s.settingsDone good : State).ram = s.ram :=
  by simp

theorem execQueueAllocate_outer (h : FopHead) (q : BitVec 8) (s : State) : (s.serveStatus h (obj (0x7C00 + q.toNat) 5) fun s => s.queueAllocate q.toNat : State).outer = s.outer :=
  by simp

theorem execQueueAllocate_kept (h : FopHead) (q : BitVec 8) (s : State) : (s.serveStatus h (obj (0x7C00 + q.toNat) 5) fun s => s.queueAllocate q.toNat : State).kept = s.kept :=
  by simp

theorem execQueueAllocate_ram (h : FopHead) (q : BitVec 8) (s : State) : (s.serveStatus h (obj (0x7C00 + q.toNat) 5) fun s => s.queueAllocate q.toNat : State).ram = s.ram :=
  by simp

theorem execQueueRelease_outer (h : FopHead) (q : BitVec 8) (s : State) : (s.serveStatus h (obj (0x7C00 + q.toNat) 5) fun s => s.queueRelease q.toNat : State).outer = s.outer :=
  by simp

theorem execQueueRelease_kept (h : FopHead) (q : BitVec 8) (s : State) : (s.serveStatus h (obj (0x7C00 + q.toNat) 5) fun s => s.queueRelease q.toNat : State).kept = s.kept :=
  by simp

theorem execQueueRelease_ram (h : FopHead) (q : BitVec 8) (s : State) : (s.serveStatus h (obj (0x7C00 + q.toNat) 5) fun s => s.queueRelease q.toNat : State).ram = s.ram :=
  by simp

theorem execProducerIndexWrite_outer (h : FopHead) (q : BitVec 8) (v : BitVec 32) (s : State) : (s.wrote h (0x7C00 + q.toNat) 2 4 v.toNat : State).outer = s.outer :=
  by apply State.wrote_outer; simp [plainIndex]; omega

theorem execProducerIndexWrite_kept (h : FopHead) (q : BitVec 8) (v : BitVec 32) (s : State) : (s.wrote h (0x7C00 + q.toNat) 2 4 v.toNat : State).kept = s.kept :=
  by apply State.wrote_kept; simp [plainIndex]; omega

theorem execProducerIndexWrite_ram (h : FopHead) (q : BitVec 8) (v : BitVec 32) (s : State) : (s.wrote h (0x7C00 + q.toNat) 2 4 v.toNat : State).ram = s.ram :=
  by apply State.wrote_ram; simp [plainIndex]; omega

theorem execConsumerIndexWrite_outer (h : FopHead) (q : BitVec 8) (v : BitVec 32) (s : State) : (s.wrote h (0x7C00 + q.toNat) 3 4 v.toNat : State).outer = s.outer :=
  by apply State.wrote_outer; simp [plainIndex]; omega

theorem execConsumerIndexWrite_kept (h : FopHead) (q : BitVec 8) (v : BitVec 32) (s : State) : (s.wrote h (0x7C00 + q.toNat) 3 4 v.toNat : State).kept = s.kept :=
  by apply State.wrote_kept; simp [plainIndex]; omega

theorem execConsumerIndexWrite_ram (h : FopHead) (q : BitVec 8) (v : BitVec 32) (s : State) : (s.wrote h (0x7C00 + q.toNat) 3 4 v.toNat : State).ram = s.ram :=
  by apply State.wrote_ram; simp [plainIndex]; omega

theorem execUnitTakeOut_outer (h : FopHead) (s : State) : (s.serveCmd h (obj 0x0028 2) State.unitTakeOut : State).outer = s.outer :=
  by simp

theorem execUnitTakeOut_kept (h : FopHead) (s : State) : (s.serveCmd h (obj 0x0028 2) State.unitTakeOut : State).kept = s.kept :=
  by simp

theorem execUnitTakeOut_ram (h : FopHead) (s : State) : (s.serveCmd h (obj 0x0028 2) State.unitTakeOut : State).ram = s.ram :=
  by simp

theorem execUnitReturn_outer (h : FopHead) (s : State) : (s.serveCmd h (obj 0x0028 2) State.unitReturn : State).outer = s.outer :=
  by simp

theorem execUnitReturn_kept (h : FopHead) (s : State) : (s.serveCmd h (obj 0x0028 2) State.unitReturn : State).kept = s.kept :=
  by simp

theorem execUnitReturn_ram (h : FopHead) (s : State) : (s.serveCmd h (obj 0x0028 2) State.unitReturn : State).ram = s.ram :=
  by simp

theorem execDrainComplete_outer (unit : BitVec 16) (s : State) : (s.awake fun s => s.drainComplete unit.toNat : State).outer = s.outer :=
  by simp

theorem execDrainComplete_kept (unit : BitVec 16) (s : State) : (s.awake fun s => s.drainComplete unit.toNat : State).kept = s.kept :=
  by simp

theorem execDrainComplete_ram (unit : BitVec 16) (s : State) : (s.awake fun s => s.drainComplete unit.toNat : State).ram = s.ram :=
  by simp

theorem execBringUpPasses_outer (unit : BitVec 16) (s : State) : (s.awake fun s => s.bringUpPasses unit.toNat : State).outer = s.outer :=
  by simp

theorem execBringUpPasses_kept (unit : BitVec 16) (s : State) : (s.awake fun s => s.bringUpPasses unit.toNat : State).kept = s.kept :=
  by simp

theorem execBringUpPasses_ram (unit : BitVec 16) (s : State) : (s.awake fun s => s.bringUpPasses unit.toNat : State).ram = s.ram :=
  by simp

theorem execBringUpFails_outer (unit : BitVec 16) (s : State) : (s.awake fun s => s.bringUpFails unit.toNat : State).outer = s.outer :=
  by simp

theorem execBringUpFails_kept (unit : BitVec 16) (s : State) : (s.awake fun s => s.bringUpFails unit.toNat : State).kept = s.kept :=
  by simp

theorem execBringUpFails_ram (unit : BitVec 16) (s : State) : (s.awake fun s => s.bringUpFails unit.toNat : State).ram = s.ram :=
  by simp

theorem execPowerRequestDeep_carries (h : FopHead) (s : State) : s.Carries (s.serveCmd h (obj 0x0030 1) fun s => s.powerRequest 1) :=
  by
  apply State.serveCmd_carries; intro s; first | exact State.powerRequest_carries _ _ | exact State.resetCommand_carries _ | exact State.updActivate_carries _ | exact State.updRevert_carries _

theorem execPowerRequestKeep_carries (h : FopHead) (s : State) : s.Carries (s.serveCmd h (obj 0x0030 1) fun s => s.powerRequest 2) :=
  by
  apply State.serveCmd_carries; intro s; first | exact State.powerRequest_carries _ _ | exact State.resetCommand_carries _ | exact State.updActivate_carries _ | exact State.updRevert_carries _

theorem execPowerRequestIdle_carries (h : FopHead) (s : State) : s.Carries (s.serveCmd h (obj 0x0030 1) fun s => s.powerRequest 3) :=
  by
  apply State.serveCmd_carries; intro s; first | exact State.powerRequest_carries _ _ | exact State.resetCommand_carries _ | exact State.updActivate_carries _ | exact State.updRevert_carries _

theorem execPowerRequestRun_carries (h : FopHead) (s : State) : s.Carries (s.serveCmd h (obj 0x0030 1) fun s => s.powerRequest 4) :=
  by
  apply State.serveCmd_carries; intro s; first | exact State.powerRequest_carries _ _ | exact State.resetCommand_carries _ | exact State.updActivate_carries _ | exact State.updRevert_carries _

theorem execWakeN_carries (s : State) : s.Carries (s.wakePin) :=
  by
  apply State.wakePin_carries

theorem execRtcAlarm_carries (s : State) : s.Carries (s.rtcAlarm) :=
  by
  apply State.rtcAlarm_carries

theorem execWakeFrame_carries (h : FopHead) (s : State) : s.Carries (s.wakeFrame h.peer) :=
  by
  apply State.wakeFrame_carries

theorem execObjectCreate_outer (n : Fin 64) (s : State) : (s.awake fun s => s.request n (ofType 0x10) fun s => s.objectCreate n : State).outer = s.outer :=
  by simp

theorem execObjectCreate_kept (n : Fin 64) (s : State) : (s.awake fun s => s.request n (ofType 0x10) fun s => s.objectCreate n : State).kept = s.kept :=
  by simp

theorem execObjectCreate_ram (n : Fin 64) (s : State) : (s.awake fun s => s.request n (ofType 0x10) fun s => s.objectCreate n : State).ram = s.ram :=
  by simp

theorem execObjectData_outer (n : Fin 64) (s : State) : (s.awake fun s => s.request n (ofData false) fun s => s.objectData n : State).outer = s.outer :=
  by simp

theorem execObjectData_kept (n : Fin 64) (s : State) : (s.awake fun s => s.request n (ofData false) fun s => s.objectData n : State).kept = s.kept :=
  by simp

theorem execObjectData_ram (n : Fin 64) (s : State) : (s.awake fun s => s.request n (ofData false) fun s => s.objectData n : State).ram = s.ram :=
  by simp

theorem execObjectDataRepair_outer (n : Fin 64) (s : State) : (s.awake fun s => s.request n (ofData true) fun s => s.objectData n : State).outer = s.outer :=
  by simp

theorem execObjectDataRepair_kept (n : Fin 64) (s : State) : (s.awake fun s => s.request n (ofData true) fun s => s.objectData n : State).kept = s.kept :=
  by simp

theorem execObjectDataRepair_ram (n : Fin 64) (s : State) : (s.awake fun s => s.request n (ofData true) fun s => s.objectData n : State).ram = s.ram :=
  by simp

theorem execObjectDelete_outer (n : Fin 64) (s : State) : (s.awake fun s => s.request n (ofType 0x12) fun s => s.objectDelete n : State).outer = s.outer :=
  by simp

theorem execObjectDelete_kept (n : Fin 64) (s : State) : (s.awake fun s => s.request n (ofType 0x12) fun s => s.objectDelete n : State).kept = s.kept :=
  by simp

theorem execObjectDelete_ram (n : Fin 64) (s : State) : (s.awake fun s => s.request n (ofType 0x12) fun s => s.objectDelete n : State).ram = s.ram :=
  by simp

theorem execGroupDefine_outer (n : Fin 64) (s : State) : (s.awake fun s => s.request n (ofType 0x13) fun s => s.groupDefine n : State).outer = s.outer :=
  by simp

theorem execGroupDefine_kept (n : Fin 64) (s : State) : (s.awake fun s => s.request n (ofType 0x13) fun s => s.groupDefine n : State).kept = s.kept :=
  by simp

theorem execGroupDefine_ram (n : Fin 64) (s : State) : (s.awake fun s => s.request n (ofType 0x13) fun s => s.groupDefine n : State).ram = s.ram :=
  by simp

theorem execPageDefine_outer (n : Fin 64) (s : State) : (s.awake fun s => s.request n (ofType 0x14) fun s => s.pageDefine n : State).outer = s.outer :=
  by simp

theorem execPageDefine_kept (n : Fin 64) (s : State) : (s.awake fun s => s.request n (ofType 0x14) fun s => s.pageDefine n : State).kept = s.kept :=
  by simp

theorem execPageDefine_ram (n : Fin 64) (s : State) : (s.awake fun s => s.request n (ofType 0x14) fun s => s.pageDefine n : State).ram = s.ram :=
  by simp

theorem execRender_outer (n : Fin 64) (s : State) : (s.awake fun s => s.request n (ofType 0x15) fun s => s.renderRequest n : State).outer = s.outer :=
  by simp

theorem execRender_kept (n : Fin 64) (s : State) : (s.awake fun s => s.request n (ofType 0x15) fun s => s.renderRequest n : State).kept = s.kept :=
  by simp

theorem execRender_ram (n : Fin 64) (s : State) : (s.awake fun s => s.request n (ofType 0x15) fun s => s.renderRequest n : State).ram = s.ram :=
  by simp

theorem execFrog_outer (n : Fin 64) (s : State) : (s.awake fun s => s.request n (ofType 0x16) fun s => s.frogRequest n : State).outer = s.outer :=
  by simp

theorem execFrog_kept (n : Fin 64) (s : State) : (s.awake fun s => s.request n (ofType 0x16) fun s => s.frogRequest n : State).kept = s.kept :=
  by simp

theorem execFrog_ram (n : Fin 64) (s : State) : (s.awake fun s => s.request n (ofType 0x16) fun s => s.frogRequest n : State).ram = s.ram :=
  by simp

theorem execQuery_outer (n : Fin 64) (s : State) : (s.awake fun s => s.request n (ofType 0x17) fun s => s.query n : State).outer = s.outer :=
  by simp

theorem execQuery_kept (n : Fin 64) (s : State) : (s.awake fun s => s.request n (ofType 0x17) fun s => s.query n : State).kept = s.kept :=
  by simp

theorem execQuery_ram (n : Fin 64) (s : State) : (s.awake fun s => s.request n (ofType 0x17) fun s => s.query n : State).ram = s.ram :=
  by simp

theorem execReadback_outer (n : Fin 64) (s : State) : (s.awake fun s => s.request n (ofType 0x18) fun s => s.readbackRequest n : State).outer = s.outer :=
  by simp

theorem execReadback_kept (n : Fin 64) (s : State) : (s.awake fun s => s.request n (ofType 0x18) fun s => s.readbackRequest n : State).kept = s.kept :=
  by simp

theorem execReadback_ram (n : Fin 64) (s : State) : (s.awake fun s => s.request n (ofType 0x18) fun s => s.readbackRequest n : State).ram = s.ram :=
  by simp

theorem execCloseReq_outer (n : Fin 64) (s : State) : (s.awake fun s => s.request n (ofType 0x1f) fun s => s.closeRequest n : State).outer = s.outer :=
  by simp

theorem execCloseReq_kept (n : Fin 64) (s : State) : (s.awake fun s => s.request n (ofType 0x1f) fun s => s.closeRequest n : State).kept = s.kept :=
  by simp

theorem execCloseReq_ram (n : Fin 64) (s : State) : (s.awake fun s => s.request n (ofType 0x1f) fun s => s.closeRequest n : State).ram = s.ram :=
  by simp

theorem execMspPacket_outer (pk : MspPacket) (s : State) : (s.awake fun s => s.packetIn pk : State).outer = s.outer :=
  by simp

theorem execMspPacket_kept (pk : MspPacket) (s : State) : (s.awake fun s => s.packetIn pk : State).kept = s.kept :=
  by simp

theorem execMspPacket_ram (pk : MspPacket) (s : State) : (s.awake fun s => s.packetIn pk : State).ram = s.ram :=
  by simp

theorem execOpen_outer (pk : MspPacket) (s : State) : (s.awake fun s => s.openPacket 1 pk : State).outer = s.outer :=
  by simp

theorem execOpen_kept (pk : MspPacket) (s : State) : (s.awake fun s => s.openPacket 1 pk : State).kept = s.kept :=
  by simp

theorem execOpen_ram (pk : MspPacket) (s : State) : (s.awake fun s => s.openPacket 1 pk : State).ram = s.ram :=
  by simp

theorem execProof_outer (pk : MspPacket) (s : State) : (s.awake fun s => s.openPacket 3 pk : State).outer = s.outer :=
  by simp

theorem execProof_kept (pk : MspPacket) (s : State) : (s.awake fun s => s.openPacket 3 pk : State).kept = s.kept :=
  by simp

theorem execProof_ram (pk : MspPacket) (s : State) : (s.awake fun s => s.openPacket 3 pk : State).ram = s.ram :=
  by simp

theorem execAckTimer_outer (n : Fin 64) (s : State) : (s.awake fun s => s.ackTimer n : State).outer = s.outer :=
  by simp

theorem execAckTimer_kept (n : Fin 64) (s : State) : (s.awake fun s => s.ackTimer n : State).kept = s.kept :=
  by simp

theorem execAckTimer_ram (n : Fin 64) (s : State) : (s.awake fun s => s.ackTimer n : State).ram = s.ram :=
  by simp

theorem execRetransmitTimeout_outer (n : Fin 64) (psn : BitVec 32) (s : State) : (s.awake fun s => s.retransmit n psn.toNat : State).outer = s.outer :=
  by simp

theorem execRetransmitTimeout_kept (n : Fin 64) (psn : BitVec 32) (s : State) : (s.awake fun s => s.retransmit n psn.toNat : State).kept = s.kept :=
  by simp

theorem execRetransmitTimeout_ram (n : Fin 64) (psn : BitVec 32) (s : State) : (s.awake fun s => s.retransmit n psn.toNat : State).ram = s.ram :=
  by simp

theorem execKeepAliveTimeout_outer (n : Fin 64) (s : State) : (s.awake fun s => s.keepAlive n : State).outer = s.outer :=
  by simp

theorem execKeepAliveTimeout_kept (n : Fin 64) (s : State) : (s.awake fun s => s.keepAlive n : State).kept = s.kept :=
  by simp

theorem execKeepAliveTimeout_ram (n : Fin 64) (s : State) : (s.awake fun s => s.keepAlive n : State).ram = s.ram :=
  by simp

theorem execIdleAckSend_outer (n : Fin 64) (s : State) : (s.awake fun s => s.idleAck n : State).outer = s.outer :=
  by simp

theorem execIdleAckSend_kept (n : Fin 64) (s : State) : (s.awake fun s => s.idleAck n : State).kept = s.kept :=
  by simp

theorem execIdleAckSend_ram (n : Fin 64) (s : State) : (s.awake fun s => s.idleAck n : State).ram = s.ram :=
  by simp

theorem execPendingEntryExpiry_outer (handle : BitVec 32) (s : State) : (s.awake fun s => s.pendingExpiry handle.toNat : State).outer = s.outer :=
  by simp

theorem execPendingEntryExpiry_kept (handle : BitVec 32) (s : State) : (s.awake fun s => s.pendingExpiry handle.toNat : State).kept = s.kept :=
  by simp

theorem execPendingEntryExpiry_ram (handle : BitVec 32) (s : State) : (s.awake fun s => s.pendingExpiry handle.toNat : State).ram = s.ram :=
  by simp

theorem execSlotLockExpiry_outer (slot : Fin 16) (s : State) : (s.awake fun s => s.lockExpiry slot : State).outer = s.outer :=
  by simp

theorem execSlotLockExpiry_kept (slot : Fin 16) (s : State) : (s.awake fun s => s.lockExpiry slot : State).kept = s.kept :=
  by simp

theorem execSlotLockExpiry_ram (slot : Fin 16) (s : State) : (s.awake fun s => s.lockExpiry slot : State).ram = s.ram :=
  by simp

theorem execSessionCloseCommand_outer (h : FopHead) (n : Fin 64) (s : State) : (s.serveCmd h (obj (0x5030 + n.val) 8) fun s => s.pressClose n : State).outer = s.outer :=
  by simp

theorem execSessionCloseCommand_kept (h : FopHead) (n : Fin 64) (s : State) : (s.serveCmd h (obj (0x5030 + n.val) 8) fun s => s.pressClose n : State).kept = s.kept :=
  by simp

theorem execSessionCloseCommand_ram (h : FopHead) (n : Fin 64) (s : State) : (s.serveCmd h (obj (0x5030 + n.val) 8) fun s => s.pressClose n : State).ram = s.ram :=
  by simp

theorem execCredentialEnableWrite_outer (h : FopHead) (slot : Fin 16) (v : BitVec 8) (s : State) : (s.wrote h (0x5010 + slot.val) 2 1 v.toNat : State).outer = s.outer :=
  by apply State.wrote_outer; simp [plainIndex]; omega

theorem execCredentialEnableWrite_kept (h : FopHead) (slot : Fin 16) (v : BitVec 8) (s : State) : (s.wrote h (0x5010 + slot.val) 2 1 v.toNat : State).kept = s.kept :=
  by apply State.wrote_kept; simp [plainIndex]; omega

theorem execCredentialEnableWrite_ram (h : FopHead) (slot : Fin 16) (v : BitVec 8) (s : State) : (s.wrote h (0x5010 + slot.val) 2 1 v.toNat : State).ram = s.ram :=
  by apply State.wrote_ram; simp [plainIndex]; omega

theorem execCloseResend_outer (n : Fin 64) (s : State) : (s.awake fun s => s.closeResend n : State).outer = s.outer :=
  by simp

theorem execCloseResend_kept (n : Fin 64) (s : State) : (s.awake fun s => s.closeResend n : State).kept = s.kept :=
  by simp

theorem execCloseResend_ram (n : Fin 64) (s : State) : (s.awake fun s => s.closeResend n : State).ram = s.ram :=
  by simp

theorem execCompletionSend_outer (n : Fin 64) (s : State) : (s.awake fun s => s.completionSend n : State).outer = s.outer :=
  by simp

theorem execCompletionSend_kept (n : Fin 64) (s : State) : (s.awake fun s => s.completionSend n : State).kept = s.kept :=
  by simp

theorem execCompletionSend_ram (n : Fin 64) (s : State) : (s.awake fun s => s.completionSend n : State).ram = s.ram :=
  by simp

theorem execHostModeWrite_outer (h : FopHead) (he : Fin 2) (v : BitVec 8) (s : State) : (s.wrote h 0x5000 (1 + he.val) 1 v.toNat : State).outer = s.outer :=
  by apply State.wrote_outer; rfl

theorem execHostModeWrite_kept (h : FopHead) (he : Fin 2) (v : BitVec 8) (s : State) : (s.wrote h 0x5000 (1 + he.val) 1 v.toNat : State).kept = s.kept :=
  by apply State.wrote_kept; rfl

theorem execHostModeWrite_ram (h : FopHead) (he : Fin 2) (v : BitVec 8) (s : State) : (s.wrote h 0x5000 (1 + he.val) 1 v.toNat : State).ram = s.ram :=
  by apply State.wrote_ram; rfl

theorem execHostLinkChange_outer (he : Fin 2) (link : BitVec 8) (s : State) : (s.hostLink he link.toNat : State).outer = s.outer :=
  by simp

theorem execHostLinkChange_kept (he : Fin 2) (link : BitVec 8) (s : State) : (s.hostLink he link.toNat : State).kept = s.kept :=
  by simp

theorem execHostLinkChange_ram (he : Fin 2) (link : BitVec 8) (s : State) : (s.hostLink he link.toNat : State).ram = s.ram :=
  by simp

theorem execArpRequest_outer (port : Fin 3) (mac : BitVec 48) (ip : BitVec 32) (target : BitVec 32) (s : State) : (s.arp port mac.toNat ip.toNat target.toNat : State).outer = s.outer :=
  by simp

theorem execArpRequest_kept (port : Fin 3) (mac : BitVec 48) (ip : BitVec 32) (target : BitVec 32) (s : State) : (s.arp port mac.toNat ip.toNat target.toNat : State).kept = s.kept :=
  by simp

theorem execArpRequest_ram (port : Fin 3) (mac : BitVec 48) (ip : BitVec 32) (target : BitVec 32) (s : State) : (s.arp port mac.toNat ip.toNat target.toNat : State).ram = s.ram :=
  by simp

theorem execNeighbourDiscovery_outer (he : Fin 2) (mac : BitVec 48) (src : BitVec 128) (target : BitVec 128) (s : State) : (s.awake fun s => s.neighbour he mac.toNat src.toNat target.toNat : State).outer = s.outer :=
  by simp

theorem execNeighbourDiscovery_kept (he : Fin 2) (mac : BitVec 48) (src : BitVec 128) (target : BitVec 128) (s : State) : (s.awake fun s => s.neighbour he mac.toNat src.toNat target.toNat : State).kept = s.kept :=
  by simp

theorem execNeighbourDiscovery_ram (he : Fin 2) (mac : BitVec 48) (src : BitVec 128) (target : BitVec 128) (s : State) : (s.awake fun s => s.neighbour he mac.toNat src.toNat target.toNat : State).ram = s.ram :=
  by simp

theorem execFieldLinkChange_outer (fn : Fin 2) (link : BitVec 8) (s : State) : (s.fieldLink fn link.toNat : State).outer = s.outer :=
  by simp

theorem execFieldLinkChange_kept (fn : Fin 2) (link : BitVec 8) (s : State) : (s.fieldLink fn link.toNat : State).kept = s.kept :=
  by simp

theorem execFieldLinkChange_ram (fn : Fin 2) (link : BitVec 8) (s : State) : (s.fieldLink fn link.toNat : State).ram = s.ram :=
  by simp

theorem execPassThroughForward_outer (fn : Fin 2) (dst : BitVec 48) (frame : Bytes) (s : State) : (s.passThrough fn dst.toNat frame : State).outer = s.outer :=
  by simp

theorem execPassThroughForward_kept (fn : Fin 2) (dst : BitVec 48) (frame : Bytes) (s : State) : (s.passThrough fn dst.toNat frame : State).kept = s.kept :=
  by simp

theorem execPassThroughForward_ram (fn : Fin 2) (dst : BitVec 48) (frame : Bytes) (s : State) : (s.passThrough fn dst.toNat frame : State).ram = s.ram :=
  by simp

theorem execTileCodecComplete_outer (n : Fin 64) (s : State) : (s.awake fun s => s.tileCodec n : State).outer = s.outer :=
  by simp

theorem execTileCodecComplete_kept (n : Fin 64) (s : State) : (s.awake fun s => s.tileCodec n : State).kept = s.kept :=
  by simp

theorem execDecodeComplete_outer (d : Fin 16) (bad : Bool) (s : State) : (s.awake fun s => s.decodeDone d bad : State).outer = s.outer :=
  by simp

theorem execDecodeComplete_kept (d : Fin 16) (bad : Bool) (s : State) : (s.awake fun s => s.decodeDone d bad : State).kept = s.kept :=
  by simp

theorem execDecodeComplete_ram (d : Fin 16) (bad : Bool) (s : State) : (s.awake fun s => s.decodeDone d bad : State).ram = s.ram :=
  by simp

theorem execInputStallResume_outer (d : InputStall) (s : State) : (s.awake fun s => s.inputStall d.decoder d.words.toNat : State).outer = s.outer :=
  by simp

theorem execInputStallResume_kept (d : InputStall) (s : State) : (s.awake fun s => s.inputStall d.decoder d.words.toNat : State).kept = s.kept :=
  by simp

theorem execInputStallResume_ram (d : InputStall) (s : State) : (s.awake fun s => s.inputStall d.decoder d.words.toNat : State).ram = s.ram :=
  by simp

theorem execOutputStallResume_outer (d : OutputStall) (s : State) : (s.awake fun s => s.outputStall d.decoder d.samples.toNat d.words.toNat : State).outer = s.outer :=
  by simp

theorem execOutputStallResume_kept (d : OutputStall) (s : State) : (s.awake fun s => s.outputStall d.decoder d.samples.toNat d.words.toNat : State).kept = s.kept :=
  by simp

theorem execOutputStallResume_ram (d : OutputStall) (s : State) : (s.awake fun s => s.outputStall d.decoder d.samples.toNat d.words.toNat : State).ram = s.ram :=
  by simp

theorem execEncodeBlockComplete_outer (e : Fin 4) (s : State) : (s.awake fun s => s.encodeDone e : State).outer = s.outer :=
  by simp

theorem execEncodeBlockComplete_kept (e : Fin 4) (s : State) : (s.awake fun s => s.encodeDone e : State).kept = s.kept :=
  by simp

theorem execEncodeBlockComplete_ram (e : Fin 4) (s : State) : (s.awake fun s => s.encodeDone e : State).ram = s.ram :=
  by simp

theorem execLinkStart_outer (l : Fin 20) (s : State) : (s.awake fun s => s.linkStart l : State).outer = s.outer :=
  by simp

theorem execLinkStart_kept (l : Fin 20) (s : State) : (s.awake fun s => s.linkStart l : State).kept = s.kept :=
  by simp

theorem execLinkStart_ram (l : Fin 20) (s : State) : (s.awake fun s => s.linkStart l : State).ram = s.ram :=
  by simp

theorem execRxckDetected_outer (l : Fin 20) (s : State) : (s.awake fun s => s.rxck l : State).outer = s.outer :=
  by simp

theorem execRxckDetected_kept (l : Fin 20) (s : State) : (s.awake fun s => s.rxck l : State).kept = s.kept :=
  by simp

theorem execRxckDetected_ram (l : Fin 20) (s : State) : (s.awake fun s => s.rxck l : State).ram = s.ram :=
  by simp

theorem execDetectTimerExpiry_outer (l : Fin 20) (s : State) : (s.awake fun s => s.timerRow l 1 100000000 1 : State).outer = s.outer :=
  by simp

theorem execDetectTimerExpiry_kept (l : Fin 20) (s : State) : (s.awake fun s => s.timerRow l 1 100000000 1 : State).kept = s.kept :=
  by simp

theorem execDetectTimerExpiry_ram (l : Fin 20) (s : State) : (s.awake fun s => s.timerRow l 1 100000000 1 : State).ram = s.ram :=
  by simp

theorem execTrain_outer (l : Fin 20) (status : BitVec 8) (presets : BitVec 32) (s : State) : (s.awake fun s => s.trainBlock l status.toNat presets.toNat : State).outer = s.outer :=
  by simp

theorem execTrain_kept (l : Fin 20) (status : BitVec 8) (presets : BitVec 32) (s : State) : (s.awake fun s => s.trainBlock l status.toNat presets.toNat : State).kept = s.kept :=
  by simp

theorem execTrain_ram (l : Fin 20) (status : BitVec 8) (presets : BitVec 32) (s : State) : (s.awake fun s => s.trainBlock l status.toNat presets.toNat : State).ram = s.ram :=
  by simp

theorem execPresetStep_outer (l : Fin 20) (s : State) : (s.awake fun s => s.presetStep l : State).outer = s.outer :=
  by simp

theorem execPresetStep_kept (l : Fin 20) (s : State) : (s.awake fun s => s.presetStep l : State).kept = s.kept :=
  by simp

theorem execPresetStep_ram (l : Fin 20) (s : State) : (s.awake fun s => s.presetStep l : State).ram = s.ram :=
  by simp

theorem execTrainTimerExpiry_outer (l : Fin 20) (s : State) : (s.awake fun s => s.timerRow l 2 20000000 2 : State).outer = s.outer :=
  by simp

theorem execTrainTimerExpiry_kept (l : Fin 20) (s : State) : (s.awake fun s => s.timerRow l 2 20000000 2 : State).kept = s.kept :=
  by simp

theorem execTrainTimerExpiry_ram (l : Fin 20) (s : State) : (s.awake fun s => s.timerRow l 2 20000000 2 : State).ram = s.ram :=
  by simp

theorem execPolarityTrialSwitch_outer (l : Fin 20) (s : State) : (s.awake fun s => s.polarityTrial l : State).outer = s.outer :=
  by simp

theorem execPolarityTrialSwitch_kept (l : Fin 20) (s : State) : (s.awake fun s => s.polarityTrial l : State).kept = s.kept :=
  by simp

theorem execPolarityTrialSwitch_ram (l : Fin 20) (s : State) : (s.awake fun s => s.polarityTrial l : State).ram = s.ram :=
  by simp

theorem execUplinkBlockLock_outer (l : LinkHeaders) (s : State) : (s.awake fun s => s.blockLock l.link l.headers : State).outer = s.outer :=
  by simp

theorem execUplinkBlockLock_kept (l : LinkHeaders) (s : State) : (s.awake fun s => s.blockLock l.link l.headers : State).kept = s.kept :=
  by simp

theorem execUplinkBlockLock_ram (l : LinkHeaders) (s : State) : (s.awake fun s => s.blockLock l.link l.headers : State).ram = s.ram :=
  by simp

theorem execLockTimerExpiry_outer (l : Fin 20) (s : State) : (s.awake fun s => s.timerRow l 3 (s.link l).lockNs 3 : State).outer = s.outer :=
  by simp

theorem execLockTimerExpiry_kept (l : Fin 20) (s : State) : (s.awake fun s => s.timerRow l 3 (s.link l).lockNs 3 : State).kept = s.kept :=
  by simp

theorem execLockTimerExpiry_ram (l : Fin 20) (s : State) : (s.awake fun s => s.timerRow l 3 (s.link l).lockNs 3 : State).ram = s.ram :=
  by simp

theorem execCaps_outer (l : Fin 20) (body : CapsBlock) (s : State) : (s.awake fun s => s.capsIn l body.control (leBytes 8 body.body.toNat) : State).outer = s.outer :=
  by simp

theorem execCaps_kept (l : Fin 20) (body : CapsBlock) (s : State) : (s.awake fun s => s.capsIn l body.control (leBytes 8 body.body.toNat) : State).kept = s.kept :=
  by simp

theorem execCaps_ram (l : Fin 20) (body : CapsBlock) (s : State) : (s.awake fun s => s.capsIn l body.control (leBytes 8 body.body.toNat) : State).ram = s.ram :=
  by simp

theorem execCapsSend_outer (l : Fin 20) (s : State) : (s.awake fun s => s.capsSend l : State).outer = s.outer :=
  by simp

theorem execCapsSend_kept (l : Fin 20) (s : State) : (s.awake fun s => s.capsSend l : State).kept = s.kept :=
  by simp

theorem execCapsSend_ram (l : Fin 20) (s : State) : (s.awake fun s => s.capsSend l : State).ram = s.ram :=
  by simp

theorem execCapsTimerExpiry_outer (l : Fin 20) (s : State) : (s.awake fun s => s.timerRow l 4 10000000 4 : State).outer = s.outer :=
  by simp

theorem execCapsTimerExpiry_kept (l : Fin 20) (s : State) : (s.awake fun s => s.timerRow l 4 10000000 4 : State).kept = s.kept :=
  by simp

theorem execCapsTimerExpiry_ram (l : Fin 20) (s : State) : (s.awake fun s => s.timerRow l 4 10000000 4 : State).ram = s.ram :=
  by simp

theorem execLinkLost_outer (l : Fin 20) (s : State) : (s.awake fun s => s.linkLost l : State).outer = s.outer :=
  by simp

theorem execLinkLost_kept (l : Fin 20) (s : State) : (s.awake fun s => s.linkLost l : State).kept = s.kept :=
  by simp

theorem execLinkLost_ram (l : Fin 20) (s : State) : (s.awake fun s => s.linkLost l : State).ram = s.ram :=
  by simp

theorem execWaitTimerExpiry_outer (l : Fin 20) (s : State) : (s.awake fun s => s.waitExpired l : State).outer = s.outer :=
  by simp

theorem execWaitTimerExpiry_kept (l : Fin 20) (s : State) : (s.awake fun s => s.waitExpired l : State).kept = s.kept :=
  by simp

theorem execWaitTimerExpiry_ram (l : Fin 20) (s : State) : (s.awake fun s => s.waitExpired l : State).ram = s.ram :=
  by simp

theorem execNop_outer (p : PortTake) (s : State) : (s.awake fun s => s.portSubmit p.port isNop p.bad : State).outer = s.outer :=
  by simp

theorem execNop_kept (p : PortTake) (s : State) : (s.awake fun s => s.portSubmit p.port isNop p.bad : State).kept = s.kept :=
  by simp

theorem execNop_ram (p : PortTake) (s : State) : (s.awake fun s => s.portSubmit p.port isNop p.bad : State).ram = s.ram :=
  by simp

theorem execWaveWrite_outer (p : PortTake) (s : State) : (s.awake fun s => s.portSubmit p.port isWave p.bad : State).outer = s.outer :=
  by simp

theorem execWaveWrite_kept (p : PortTake) (s : State) : (s.awake fun s => s.portSubmit p.port isWave p.bad : State).kept = s.kept :=
  by simp

theorem execWaveWrite_ram (p : PortTake) (s : State) : (s.awake fun s => s.portSubmit p.port isWave p.bad : State).ram = s.ram :=
  by simp

theorem execRawCommand_outer (p : PortTake) (s : State) : (s.awake fun s => s.portSubmit p.port isRaw p.bad : State).outer = s.outer :=
  by simp

theorem execRawCommand_kept (p : PortTake) (s : State) : (s.awake fun s => s.portSubmit p.port isRaw p.bad : State).kept = s.kept :=
  by simp

theorem execRawCommand_ram (p : PortTake) (s : State) : (s.awake fun s => s.portSubmit p.port isRaw p.bad : State).ram = s.ram :=
  by simp

theorem execResp_outer (p : Fin 16) (addr : BitVec 8) (seq : BitVec 8) (status : BitVec 8) (value : BitVec 32) (s : State) : (s.awake fun s => s.resp p addr.toNat seq.toNat status.toNat value.toNat : State).outer = s.outer :=
  by simp

theorem execResp_kept (p : Fin 16) (addr : BitVec 8) (seq : BitVec 8) (status : BitVec 8) (value : BitVec 32) (s : State) : (s.awake fun s => s.resp p addr.toNat seq.toNat status.toNat value.toNat : State).kept = s.kept :=
  by simp

theorem execResp_ram (p : Fin 16) (addr : BitVec 8) (seq : BitVec 8) (status : BitVec 8) (value : BitVec 32) (s : State) : (s.awake fun s => s.resp p addr.toNat seq.toNat status.toNat value.toNat : State).ram = s.ram :=
  by simp

theorem execCommandTimeout_outer (p : Fin 16) (s : State) : (s.awake fun s => s.cmdTimeout p : State).outer = s.outer :=
  by simp

theorem execCommandTimeout_kept (p : Fin 16) (s : State) : (s.awake fun s => s.cmdTimeout p : State).kept = s.kept :=
  by simp

theorem execCommandTimeout_ram (p : Fin 16) (s : State) : (s.awake fun s => s.cmdTimeout p : State).ram = s.ram :=
  by simp

theorem execMeasure_outer (h : FopHead) (p : Fin 16) (s : State) : (s.serveCmd h (obj (portIdx p + 0x10) 1) fun s => s.measCommand p false : State).outer = s.outer :=
  by simp

theorem execMeasure_kept (h : FopHead) (p : Fin 16) (s : State) : (s.serveCmd h (obj (portIdx p + 0x10) 1) fun s => s.measCommand p false : State).kept = s.kept :=
  by simp

theorem execMeasure_ram (h : FopHead) (p : Fin 16) (s : State) : (s.serveCmd h (obj (portIdx p + 0x10) 1) fun s => s.measCommand p false : State).ram = s.ram :=
  by simp

theorem execMeasureAndCaptureBaseline_outer (h : FopHead) (p : Fin 16) (s : State) : (s.serveCmd h (obj (portIdx p + 0x10) 1) fun s => s.measCommand p true : State).outer = s.outer :=
  by simp

theorem execMeasureAndCaptureBaseline_kept (h : FopHead) (p : Fin 16) (s : State) : (s.serveCmd h (obj (portIdx p + 0x10) 1) fun s => s.measCommand p true : State).kept = s.kept :=
  by simp

theorem execMeasureAndCaptureBaseline_ram (h : FopHead) (p : Fin 16) (s : State) : (s.serveCmd h (obj (portIdx p + 0x10) 1) fun s => s.measCommand p true : State).ram = s.ram :=
  by simp

theorem execAutomaticMeasurement_outer (p : Fin 16) (s : State) : (s.awake fun s => s.measAuto p : State).outer = s.outer :=
  by simp

theorem execAutomaticMeasurement_kept (p : Fin 16) (s : State) : (s.awake fun s => s.measAuto p : State).kept = s.kept :=
  by simp

theorem execAutomaticMeasurement_ram (p : Fin 16) (s : State) : (s.awake fun s => s.measAuto p : State).ram = s.ram :=
  by simp

theorem execMeasFrame_outer (p : Fin 16) (addr : BitVec 8) (seq : BitVec 8) (status : BitVec 8) (crc : BitVec 32) (data : Bytes) (s : State) : (s.awake fun s => s.measFrame p addr.toNat seq.toNat status.toNat crc.toNat data : State).outer = s.outer :=
  by simp

theorem execMeasFrame_kept (p : Fin 16) (addr : BitVec 8) (seq : BitVec 8) (status : BitVec 8) (crc : BitVec 32) (data : Bytes) (s : State) : (s.awake fun s => s.measFrame p addr.toNat seq.toNat status.toNat crc.toNat data : State).kept = s.kept :=
  by simp

theorem execMeasFrame_ram (p : Fin 16) (addr : BitVec 8) (seq : BitVec 8) (status : BitVec 8) (crc : BitVec 32) (data : Bytes) (s : State) : (s.awake fun s => s.measFrame p addr.toNat seq.toNat status.toNat crc.toNat data : State).ram = s.ram :=
  by simp

theorem execMeasTimeout_outer (p : Fin 16) (s : State) : (s.awake fun s => s.measTimeout p : State).outer = s.outer :=
  by simp

theorem execMeasTimeout_kept (p : Fin 16) (s : State) : (s.awake fun s => s.measTimeout p : State).kept = s.kept :=
  by simp

theorem execMeasTimeout_ram (p : Fin 16) (s : State) : (s.awake fun s => s.measTimeout p : State).ram = s.ram :=
  by simp

theorem execJetWindowClose_outer (p : Fin 16) (j : BitVec 14) (s : State) : (s.awake fun s => s.jetClose p j.toNat : State).outer = s.outer :=
  by simp

theorem execJetWindowClose_kept (p : Fin 16) (j : BitVec 14) (s : State) : (s.awake fun s => s.jetClose p j.toNat : State).kept = s.kept :=
  by simp

theorem execJetWindowClose_ram (p : Fin 16) (j : BitVec 14) (s : State) : (s.awake fun s => s.jetClose p j.toNat : State).ram = s.ram :=
  by simp

theorem execLoopbackStart_outer (h : FopHead) (p : Fin 16) (s : State) : (s.serveCmd h (obj (0xF100 + p.val) 2) fun s => s.loopStart p : State).outer = s.outer :=
  by simp

theorem execLoopbackStart_kept (h : FopHead) (p : Fin 16) (s : State) : (s.serveCmd h (obj (0xF100 + p.val) 2) fun s => s.loopStart p : State).kept = s.kept :=
  by simp

theorem execLoopbackStart_ram (h : FopHead) (p : Fin 16) (s : State) : (s.serveCmd h (obj (0xF100 + p.val) 2) fun s => s.loopStart p : State).ram = s.ram :=
  by simp

theorem execLoopbackStop_outer (h : FopHead) (p : Fin 16) (s : State) : (s.serveCmd h (obj (0xF100 + p.val) 2) fun s => s.loopStop p : State).outer = s.outer :=
  by simp

theorem execLoopbackStop_kept (h : FopHead) (p : Fin 16) (s : State) : (s.serveCmd h (obj (0xF100 + p.val) 2) fun s => s.loopStop p : State).kept = s.kept :=
  by simp

theorem execLoopbackStop_ram (h : FopHead) (p : Fin 16) (s : State) : (s.serveCmd h (obj (0xF100 + p.val) 2) fun s => s.loopStop p : State).ram = s.ram :=
  by simp

theorem execDramTemperatureRead_outer (temps : List (List Int)) (s : State) : (s.awake fun s => s.dramTemps temps : State).outer = s.outer :=
  by simp

theorem execDramTemperatureRead_kept (temps : List (List Int)) (s : State) : (s.awake fun s => s.dramTemps temps : State).kept = s.kept :=
  by simp

theorem execDramTemperatureRead_ram (temps : List (List Int)) (s : State) : (s.awake fun s => s.dramTemps temps : State).ram = s.ram :=
  by simp

theorem execRefreshDue_outer (i : Fin 8) (rank : Fin 2) (s : State) : (s.awake fun s => s.refreshDue i rank : State).outer = s.outer :=
  by simp

theorem execRefreshDue_kept (i : Fin 8) (rank : Fin 2) (s : State) : (s.awake fun s => s.refreshDue i rank : State).kept = s.kept :=
  by simp

theorem execRefreshDue_ram (i : Fin 8) (rank : Fin 2) (s : State) : (s.awake fun s => s.refreshDue i rank : State).ram = s.ram :=
  by simp

theorem execDramCommandIssue_outer (i : Fin 8) (arrivals : List Arrival) (s : State) : (s.awake fun s => s.dramIssue i arrivals : State).outer = s.outer :=
  by simp

theorem execDramCommandIssue_kept (i : Fin 8) (arrivals : List Arrival) (s : State) : (s.awake fun s => s.dramIssue i arrivals : State).kept = s.kept :=
  by simp

theorem execDramCommandIssue_ram (i : Fin 8) (arrivals : List Arrival) (s : State) : (s.awake fun s => s.dramIssue i arrivals : State).ram = s.ram :=
  by simp

theorem execRefreshWindowClear_outer (i : Fin 8) (s : State) : (s.awake fun s => s.windowClear i : State).outer = s.outer :=
  by simp

theorem execRefreshWindowClear_kept (i : Fin 8) (s : State) : (s.awake fun s => s.windowClear i : State).kept = s.kept :=
  by simp

theorem execRefreshWindowClear_ram (i : Fin 8) (s : State) : (s.awake fun s => s.windowClear i : State).ram = s.ram :=
  by simp

theorem execStartupTrainingComplete_outer (answer : Bool) (rfm : Bool) (results : List TrainResult) (s : State) : (s.awake fun s => s.startupTrained answer rfm results : State).outer = s.outer :=
  by simp

theorem execStartupTrainingComplete_kept (answer : Bool) (rfm : Bool) (results : List TrainResult) (s : State) : (s.awake fun s => s.startupTrained answer rfm results : State).kept = s.kept :=
  by simp

theorem execRetrainAll_outer (h : FopHead) (s : State) : (s.serveCmd h (obj 0x6030 1) State.retrainAll : State).outer = s.outer :=
  by simp

theorem execRetrainAll_kept (h : FopHead) (s : State) : (s.serveCmd h (obj 0x6030 1) State.retrainAll : State).kept = s.kept :=
  by simp

theorem execRetrainAll_ram (h : FopHead) (s : State) : (s.serveCmd h (obj 0x6030 1) State.retrainAll : State).ram = s.ram :=
  by simp

theorem execRetrainSubchannel_outer (h : FopHead) (s : State) : (s.serveCmd h (obj 0x6030 1) State.retrainOne : State).outer = s.outer :=
  by simp

theorem execRetrainSubchannel_kept (h : FopHead) (s : State) : (s.serveCmd h (obj 0x6030 1) State.retrainOne : State).kept = s.kept :=
  by simp

theorem execRetrainSubchannel_ram (h : FopHead) (s : State) : (s.serveCmd h (obj 0x6030 1) State.retrainOne : State).ram = s.ram :=
  by simp

theorem execDriftSample_outer (i : Fin 8) (drift : BitVec 16) (s : State) : (s.awake fun s => s.driftSample i drift.toNat : State).outer = s.outer :=
  by simp

theorem execDriftSample_kept (i : Fin 8) (drift : BitVec 16) (s : State) : (s.awake fun s => s.driftSample i drift.toNat : State).kept = s.kept :=
  by simp

theorem execDriftSample_ram (i : Fin 8) (drift : BitVec 16) (s : State) : (s.awake fun s => s.driftSample i drift.toNat : State).ram = s.ram :=
  by simp

theorem execRetrainingStart_outer (i : Fin 8) (s : State) : (s.awake fun s => s.retrainStart i : State).outer = s.outer :=
  by simp

theorem execRetrainingStart_kept (i : Fin 8) (s : State) : (s.awake fun s => s.retrainStart i : State).kept = s.kept :=
  by simp

theorem execRetrainingStart_ram (i : Fin 8) (s : State) : (s.awake fun s => s.retrainStart i : State).ram = s.ram :=
  by simp

theorem execRetrainingComplete_outer (i : Fin 8) (result : TrainResult) (oldPasses : Bool) (s : State) : (s.awake fun s => s.retrainDone i result oldPasses : State).outer = s.outer :=
  by simp

theorem execRetrainingComplete_kept (i : Fin 8) (result : TrainResult) (oldPasses : Bool) (s : State) : (s.awake fun s => s.retrainDone i result oldPasses : State).kept = s.kept :=
  by simp

theorem execLeakInstant_outer (cl : Fin 12) (s : State) : (s.awake fun s => s.leak cl : State).outer = s.outer :=
  by simp

theorem execLeakInstant_kept (cl : Fin 12) (s : State) : (s.awake fun s => s.leak cl : State).kept = s.kept :=
  by simp

theorem execLeakInstant_ram (cl : Fin 12) (s : State) : (s.awake fun s => s.leak cl : State).ram = s.ram :=
  by simp

theorem execTestWindowOpen_outer (h : FopHead) (s : State) : (s.serveCmd h (obj 0xF000 3) State.windowOpen : State).outer = s.outer :=
  by simp

theorem execTestWindowOpen_kept (h : FopHead) (s : State) : (s.serveCmd h (obj 0xF000 3) State.windowOpen : State).kept = s.kept :=
  by simp

theorem execTestWindowClose_outer (h : FopHead) (s : State) : (s.serveCmd h (obj 0xF000 3) State.windowClose : State).outer = s.outer :=
  by simp

theorem execTestWindowClose_kept (h : FopHead) (s : State) : (s.serveCmd h (obj 0xF000 3) State.windowClose : State).kept = s.kept :=
  by simp

theorem execTestWindowClose_ram (h : FopHead) (s : State) : (s.serveCmd h (obj 0xF000 3) State.windowClose : State).ram = s.ram :=
  by simp

theorem execWindowDataWrite_outer (h : FopHead) (off : BitVec 32) (data : Bytes) (s : State) : (s.serve h 0x0B (obj 0xF001 0) fun s => s.rangeWrite h.peer 0xF001 0 (leBytes 4 off.toNat ++ data) : State).outer = s.outer :=
  by simp

theorem execWindowDataWrite_kept (h : FopHead) (off : BitVec 32) (data : Bytes) (s : State) : (s.serve h 0x0B (obj 0xF001 0) fun s => s.rangeWrite h.peer 0xF001 0 (leBytes 4 off.toNat ++ data) : State).kept = s.kept :=
  by simp

theorem execWindowParityWrite_outer (h : FopHead) (off : BitVec 32) (data : Bytes) (s : State) : (s.serve h 0x0B (obj 0xF002 0) fun s => s.rangeWrite h.peer 0xF002 0 (leBytes 4 off.toNat ++ data) : State).outer = s.outer :=
  by simp

theorem execWindowParityWrite_kept (h : FopHead) (off : BitVec 32) (data : Bytes) (s : State) : (s.serve h 0x0B (obj 0xF002 0) fun s => s.rangeWrite h.peer 0xF002 0 (leBytes 4 off.toNat ++ data) : State).kept = s.kept :=
  by simp

theorem execCrcReset_outer (h : FopHead) (u : Fin 8) (s : State) : (s.serveStatus h (obj (crcIdx u) 6) fun s => s.crcCommand u false : State).outer = s.outer :=
  by simp

theorem execCrcReset_kept (h : FopHead) (u : Fin 8) (s : State) : (s.serveStatus h (obj (crcIdx u) 6) fun s => s.crcCommand u false : State).kept = s.kept :=
  by simp

theorem execCrcReset_ram (h : FopHead) (u : Fin 8) (s : State) : (s.serveStatus h (obj (crcIdx u) 6) fun s => s.crcCommand u false : State).ram = s.ram :=
  by simp

theorem execCrcCompare_outer (h : FopHead) (u : Fin 8) (s : State) : (s.serveStatus h (obj (crcIdx u) 6) fun s => s.crcCommand u true : State).outer = s.outer :=
  by simp

theorem execCrcCompare_kept (h : FopHead) (u : Fin 8) (s : State) : (s.serveStatus h (obj (crcIdx u) 6) fun s => s.crcCommand u true : State).kept = s.kept :=
  by simp

theorem execCrcCompare_ram (h : FopHead) (u : Fin 8) (s : State) : (s.serveStatus h (obj (crcIdx u) 6) fun s => s.crcCommand u true : State).ram = s.ram :=
  by simp

theorem execCrcFeed_outer (h : FopHead) (u : Fin 8) (w : Fin 4) (v : BitVec 64) (s : State) : (s.wrote h (crcIdx u) (0x0B + w.val) (2 ^ w.val) v.toNat : State).outer = s.outer :=
  by apply State.wrote_outer; simp [plainIndex, crcIdx]; omega

theorem execCrcFeed_kept (h : FopHead) (u : Fin 8) (w : Fin 4) (v : BitVec 64) (s : State) : (s.wrote h (crcIdx u) (0x0B + w.val) (2 ^ w.val) v.toNat : State).kept = s.kept :=
  by apply State.wrote_kept; simp [plainIndex, crcIdx]; omega

theorem execCrcFeed_ram (h : FopHead) (u : Fin 8) (w : Fin 4) (v : BitVec 64) (s : State) : (s.wrote h (crcIdx u) (0x0B + w.val) (2 ^ w.val) v.toNat : State).ram = s.ram :=
  by apply State.wrote_ram; simp [plainIndex, crcIdx]; omega

theorem execRunningValueWrite_outer (h : FopHead) (u : Fin 8) (v : BitVec 32) (s : State) : (s.wrote h (crcIdx u) 7 4 v.toNat : State).outer = s.outer :=
  by apply State.wrote_outer; simp [plainIndex, crcIdx]; omega

theorem execRunningValueWrite_kept (h : FopHead) (u : Fin 8) (v : BitVec 32) (s : State) : (s.wrote h (crcIdx u) 7 4 v.toNat : State).kept = s.kept :=
  by apply State.wrote_kept; simp [plainIndex, crcIdx]; omega

theorem execRunningValueWrite_ram (h : FopHead) (u : Fin 8) (v : BitVec 32) (s : State) : (s.wrote h (crcIdx u) 7 4 v.toNat : State).ram = s.ram :=
  by apply State.wrote_ram; simp [plainIndex, crcIdx]; omega

theorem execDmaStart_outer (h : FopHead) (n : Fin 32) (s : State) : (s.serveCmd h (obj (dmaIdx n) 5) fun s => s.dmaStart n : State).outer = s.outer :=
  by simp

theorem execDmaStart_kept (h : FopHead) (n : Fin 32) (s : State) : (s.serveCmd h (obj (dmaIdx n) 5) fun s => s.dmaStart n : State).kept = s.kept :=
  by simp

theorem execDmaStart_ram (h : FopHead) (n : Fin 32) (s : State) : (s.serveCmd h (obj (dmaIdx n) 5) fun s => s.dmaStart n : State).ram = s.ram :=
  by simp

theorem execDmaStop_outer (h : FopHead) (n : Fin 32) (s : State) : (s.serveCmd h (obj (dmaIdx n) 5) fun s => s.dmaStop n : State).outer = s.outer :=
  by simp

theorem execDmaStop_kept (h : FopHead) (n : Fin 32) (s : State) : (s.serveCmd h (obj (dmaIdx n) 5) fun s => s.dmaStop n : State).kept = s.kept :=
  by simp

theorem execDmaStop_ram (h : FopHead) (n : Fin 32) (s : State) : (s.serveCmd h (obj (dmaIdx n) 5) fun s => s.dmaStop n : State).ram = s.ram :=
  by simp

theorem execDmaResume_outer (h : FopHead) (n : Fin 32) (s : State) : (s.serveCmd h (obj (dmaIdx n) 5) fun s => s.dmaResume n : State).outer = s.outer :=
  by simp

theorem execDmaResume_kept (h : FopHead) (n : Fin 32) (s : State) : (s.serveCmd h (obj (dmaIdx n) 5) fun s => s.dmaResume n : State).kept = s.kept :=
  by simp

theorem execDmaResume_ram (h : FopHead) (n : Fin 32) (s : State) : (s.serveCmd h (obj (dmaIdx n) 5) fun s => s.dmaResume n : State).ram = s.ram :=
  by simp

theorem execDmaClaim_outer (s : State) : (s.awake fun s => s.dmaClaim : State).outer = s.outer :=
  by simp

theorem execDmaClaim_kept (s : State) : (s.awake fun s => s.dmaClaim : State).kept = s.kept :=
  by simp

theorem execDmaClaim_ram (s : State) : (s.awake fun s => s.dmaClaim : State).ram = s.ram :=
  by simp

theorem execDmaRelease_outer (n : Fin 32) (s : State) : (s.awake fun s => s.dmaRelease n : State).outer = s.outer :=
  by simp

theorem execDmaRelease_kept (n : Fin 32) (s : State) : (s.awake fun s => s.dmaRelease n : State).kept = s.kept :=
  by simp

theorem execDmaRelease_ram (n : Fin 32) (s : State) : (s.awake fun s => s.dmaRelease n : State).ram = s.ram :=
  by simp

theorem execDmaDescriptor_outer (n : ChannelTake) (s : State) : (s.awake fun s => s.dmaDescriptor n.channel n.bad : State).outer = s.outer :=
  by simp

theorem execDmaDescriptor_kept (n : ChannelTake) (s : State) : (s.awake fun s => s.dmaDescriptor n.channel n.bad : State).kept = s.kept :=
  by simp

theorem execDmaDescriptor_ram (n : ChannelTake) (s : State) : (s.awake fun s => s.dmaDescriptor n.channel n.bad : State).ram = s.ram :=
  by simp

theorem execDmaElement_outer (n : Fin 32) (read : Restored) (s : State) : (s.awake fun s => s.dmaElement n read : State).outer = s.outer :=
  by simp

theorem execDmaElement_kept (n : Fin 32) (read : Restored) (s : State) : (s.awake fun s => s.dmaElement n read : State).kept = s.kept :=
  by simp

theorem execServoTick_outer (s : State) : (s.awake fun s => s.servoTick : State).outer = s.outer :=
  by simp

theorem execServoTick_kept (s : State) : (s.awake fun s => s.servoTick : State).kept = s.kept :=
  by simp

theorem execServoTick_ram (s : State) : (s.awake fun s => s.servoTick : State).ram = s.ram :=
  by simp

theorem execEnable_outer (h : FopHead) (a : Fin 4) (s : State) : (s.serveCmd h (obj (axisIdx a) 2) fun s => s.axisRequest a .enable : State).outer = s.outer :=
  by simp

theorem execEnable_kept (h : FopHead) (a : Fin 4) (s : State) : (s.serveCmd h (obj (axisIdx a) 2) fun s => s.axisRequest a .enable : State).kept = s.kept :=
  by simp

theorem execEnable_ram (h : FopHead) (a : Fin 4) (s : State) : (s.serveCmd h (obj (axisIdx a) 2) fun s => s.axisRequest a .enable : State).ram = s.ram :=
  by simp

theorem execDisable_outer (h : FopHead) (a : Fin 4) (s : State) : (s.serveCmd h (obj (axisIdx a) 2) fun s => s.axisRequest a .disable : State).outer = s.outer :=
  by simp

theorem execDisable_kept (h : FopHead) (a : Fin 4) (s : State) : (s.serveCmd h (obj (axisIdx a) 2) fun s => s.axisRequest a .disable : State).kept = s.kept :=
  by simp

theorem execDisable_ram (h : FopHead) (a : Fin 4) (s : State) : (s.serveCmd h (obj (axisIdx a) 2) fun s => s.axisRequest a .disable : State).ram = s.ram :=
  by simp

theorem execStartMove_outer (h : FopHead) (a : Fin 4) (s : State) : (s.serveCmd h (obj (axisIdx a) 2) fun s => s.axisRequest a .move : State).outer = s.outer :=
  by simp

theorem execStartMove_kept (h : FopHead) (a : Fin 4) (s : State) : (s.serveCmd h (obj (axisIdx a) 2) fun s => s.axisRequest a .move : State).kept = s.kept :=
  by simp

theorem execStartMove_ram (h : FopHead) (a : Fin 4) (s : State) : (s.serveCmd h (obj (axisIdx a) 2) fun s => s.axisRequest a .move : State).ram = s.ram :=
  by simp

theorem execStop_outer (h : FopHead) (a : Fin 4) (s : State) : (s.serveCmd h (obj (axisIdx a) 2) fun s => s.axisRequest a (.stop (s.decs 9)) : State).outer = s.outer :=
  by simp

theorem execStop_kept (h : FopHead) (a : Fin 4) (s : State) : (s.serveCmd h (obj (axisIdx a) 2) fun s => s.axisRequest a (.stop (s.decs 9)) : State).kept = s.kept :=
  by simp

theorem execStop_ram (h : FopHead) (a : Fin 4) (s : State) : (s.serveCmd h (obj (axisIdx a) 2) fun s => s.axisRequest a (.stop (s.decs 9)) : State).ram = s.ram :=
  by simp

theorem execStartGearing_outer (h : FopHead) (a : Fin 4) (s : State) : (s.serveCmd h (obj (axisIdx a) 2) fun s => s.axisRequest a .gear : State).outer = s.outer :=
  by simp

theorem execStartGearing_kept (h : FopHead) (a : Fin 4) (s : State) : (s.serveCmd h (obj (axisIdx a) 2) fun s => s.axisRequest a .gear : State).kept = s.kept :=
  by simp

theorem execStartGearing_ram (h : FopHead) (a : Fin 4) (s : State) : (s.serveCmd h (obj (axisIdx a) 2) fun s => s.axisRequest a .gear : State).ram = s.ram :=
  by simp

theorem execSetPosition_outer (h : FopHead) (a : Fin 4) (s : State) : (s.serveCmd h (obj (axisIdx a) 2) fun s => s.axisRequest a .set : State).outer = s.outer :=
  by simp

theorem execSetPosition_kept (h : FopHead) (a : Fin 4) (s : State) : (s.serveCmd h (obj (axisIdx a) 2) fun s => s.axisRequest a .set : State).kept = s.kept :=
  by simp

theorem execSetPosition_ram (h : FopHead) (a : Fin 4) (s : State) : (s.serveCmd h (obj (axisIdx a) 2) fun s => s.axisRequest a .set : State).ram = s.ram :=
  by simp

theorem execClearFault_outer (h : FopHead) (a : Fin 4) (s : State) : (s.serveCmd h (obj (axisIdx a) 2) fun s => s.axisRequest a .clear : State).outer = s.outer :=
  by simp

theorem execClearFault_kept (h : FopHead) (a : Fin 4) (s : State) : (s.serveCmd h (obj (axisIdx a) 2) fun s => s.axisRequest a .clear : State).kept = s.kept :=
  by simp

theorem execClearFault_ram (h : FopHead) (a : Fin 4) (s : State) : (s.serveCmd h (obj (axisIdx a) 2) fun s => s.axisRequest a .clear : State).ram = s.ram :=
  by simp

theorem execGearQueueAppend_outer (h : FopHead) (a : Fin 4) (s : State) : (s.serveCmd h (obj (axisIdx a) 17) fun s => s.gearAppend a : State).outer = s.outer :=
  by simp

theorem execGearQueueAppend_kept (h : FopHead) (a : Fin 4) (s : State) : (s.serveCmd h (obj (axisIdx a) 17) fun s => s.gearAppend a : State).kept = s.kept :=
  by simp

theorem execGearQueueAppend_ram (h : FopHead) (a : Fin 4) (s : State) : (s.serveCmd h (obj (axisIdx a) 17) fun s => s.gearAppend a : State).ram = s.ram :=
  by simp

theorem execGearQueueFlush_outer (h : FopHead) (a : Fin 4) (s : State) : (s.serveCmd h (obj (axisIdx a) 17) fun s => s.gearFlush a : State).outer = s.outer :=
  by simp

theorem execGearQueueFlush_kept (h : FopHead) (a : Fin 4) (s : State) : (s.serveCmd h (obj (axisIdx a) 17) fun s => s.gearFlush a : State).kept = s.kept :=
  by simp

theorem execGearQueueFlush_ram (h : FopHead) (a : Fin 4) (s : State) : (s.serveCmd h (obj (axisIdx a) 17) fun s => s.gearFlush a : State).ram = s.ram :=
  by simp

theorem execStatusFrame_outer (src : Peer) (frame : Bytes) (s : State) : (s.awake fun s => s.statusFrame src frame : State).outer = s.outer :=
  by simp

theorem execStatusFrame_kept (src : Peer) (frame : Bytes) (s : State) : (s.awake fun s => s.statusFrame src frame : State).kept = s.kept :=
  by simp

theorem execStatusFrame_ram (src : Peer) (frame : Bytes) (s : State) : (s.awake fun s => s.statusFrame src frame : State).ram = s.ram :=
  by simp

theorem execDriveLoss_outer (a : Fin 4) (s : State) : (s.awake fun s => s.driveLoss a : State).outer = s.outer :=
  by simp

theorem execDriveLoss_kept (a : Fin 4) (s : State) : (s.awake fun s => s.driveLoss a : State).kept = s.kept :=
  by simp

theorem execDriveLoss_ram (a : Fin 4) (s : State) : (s.awake fun s => s.driveLoss a : State).ram = s.ram :=
  by simp

theorem execSpoilNLow_outer (s : State) : (s.awake fun s => s.spoilLow : State).outer = s.outer :=
  by simp

theorem execSpoilNLow_kept (s : State) : (s.awake fun s => s.spoilLow : State).kept = s.kept :=
  by simp

theorem execSpoilNLow_ram (s : State) : (s.awake fun s => s.spoilLow : State).ram = s.ram :=
  by simp

theorem execSpoilNHigh_outer (s : State) : (s.awake fun s => s.spoilHigh : State).outer = s.outer :=
  by simp

theorem execSpoilNHigh_kept (s : State) : (s.awake fun s => s.spoilHigh : State).kept = s.kept :=
  by simp

theorem execSpoilNHigh_ram (s : State) : (s.awake fun s => s.spoilHigh : State).ram = s.ram :=
  by simp

theorem execSpoilNPulseEnd_outer (s : State) : (s.awake fun s => s.spoilPulseEnd : State).outer = s.outer :=
  by simp

theorem execSpoilNPulseEnd_kept (s : State) : (s.awake fun s => s.spoilPulseEnd : State).kept = s.kept :=
  by simp

theorem execSpoilNPulseEnd_ram (s : State) : (s.awake fun s => s.spoilPulseEnd : State).ram = s.ram :=
  by simp

theorem execPositionCount_outer (i : CountIn) (s : State) : (s.awake fun s => match i with | .levels e a b => s.encoderPins e a b | .source => s.sourceStep : State).outer = s.outer :=
  by apply State.awake_outer; split <;> simp

theorem execPositionCount_kept (i : CountIn) (s : State) : (s.awake fun s => match i with | .levels e a b => s.encoderPins e a b | .source => s.sourceStep : State).kept = s.kept :=
  by apply State.awake_kept; split <;> simp

theorem execPositionCount_ram (i : CountIn) (s : State) : (s.awake fun s => match i with | .levels e a b => s.encoderPins e a b | .source => s.sourceStep : State).ram = s.ram :=
  by apply State.awake_ram; split <;> simp

theorem execEncoderIndex_outer (e : Fin 2) (s : State) : (s.awake fun s => s.indexEdge e : State).outer = s.outer :=
  by simp

theorem execEncoderIndex_kept (e : Fin 2) (s : State) : (s.awake fun s => s.indexEdge e : State).kept = s.kept :=
  by simp

theorem execEncoderIndex_ram (e : Fin 2) (s : State) : (s.awake fun s => s.indexEdge e : State).ram = s.ram :=
  by simp

theorem execSubTickReached_outer (s : State) : (s.awake State.subTick : State).outer = s.outer :=
  by simp

theorem execSubTickReached_kept (s : State) : (s.awake State.subTick : State).kept = s.kept :=
  by simp

theorem execSubTickReached_ram (s : State) : (s.awake State.subTick : State).ram = s.ram :=
  by simp

theorem execPositionSourceWrite_outer (h : FopHead) (axis : Bool) (v : BitVec 8) (s : State) : (s.wrote h 0x2800 (if axis then 3 else 2) 1 v.toNat : State).outer = s.outer :=
  by apply State.wrote_outer; rfl

theorem execPositionSourceWrite_kept (h : FopHead) (axis : Bool) (v : BitVec 8) (s : State) : (s.wrote h 0x2800 (if axis then 3 else 2) 1 v.toNat : State).kept = s.kept :=
  by apply State.wrote_kept; rfl

theorem execPositionSourceWrite_ram (h : FopHead) (axis : Bool) (v : BitVec 8) (s : State) : (s.wrote h 0x2800 (if axis then 3 else 2) 1 v.toNat : State).ram = s.ram :=
  by apply State.wrote_ram; rfl

theorem execSetRowCounter_outer (h : FopHead) (s : State) : (s.serveCmd h (obj 0x2820 12) State.setRow : State).outer = s.outer :=
  by simp

theorem execSetRowCounter_kept (h : FopHead) (s : State) : (s.serveCmd h (obj 0x2820 12) State.setRow : State).kept = s.kept :=
  by simp

theorem execSetRowCounter_ram (h : FopHead) (s : State) : (s.serveCmd h (obj 0x2820 12) State.setRow : State).ram = s.ram :=
  by simp

theorem execLinePitchWrite_outer (h : FopHead) (v : BitVec 32) (s : State) : (s.wrote h 0x2820 1 4 v.toNat : State).outer = s.outer :=
  by apply State.wrote_outer; rfl

theorem execLinePitchWrite_kept (h : FopHead) (v : BitVec 32) (s : State) : (s.wrote h 0x2820 1 4 v.toNat : State).kept = s.kept :=
  by apply State.wrote_kept; rfl

theorem execLinePitchWrite_ram (h : FopHead) (v : BitVec 32) (s : State) : (s.wrote h 0x2820 1 4 v.toNat : State).ram = s.ram :=
  by apply State.wrote_ram; rfl

theorem execPrintModeWrite_outer (h : FopHead) (v : BitVec 8) (s : State) : (s.wrote h 0x2800 1 1 v.toNat : State).outer = s.outer :=
  by apply State.wrote_outer; rfl

theorem execPrintModeWrite_kept (h : FopHead) (v : BitVec 8) (s : State) : (s.wrote h 0x2800 1 1 v.toNat : State).kept = s.kept :=
  by apply State.wrote_kept; rfl

theorem execPrintModeWrite_ram (h : FopHead) (v : BitVec 8) (s : State) : (s.wrote h 0x2800 1 1 v.toNat : State).ram = s.ram :=
  by apply State.wrote_ram; rfl

theorem execTensionCommit_outer (h : FopHead) (s : State) : (s.serveCmd h (obj 0x2860 1) State.tensionCommit : State).outer = s.outer :=
  by simp

theorem execTensionCommit_kept (h : FopHead) (s : State) : (s.serveCmd h (obj 0x2860 1) State.tensionCommit : State).kept = s.kept :=
  by simp

theorem execTensionCommit_ram (h : FopHead) (s : State) : (s.serveCmd h (obj 0x2860 1) State.tensionCommit : State).ram = s.ram :=
  by simp

theorem execTemp_outer (p : Fin 16) (k : Fin 4) (t : BitVec 48) (s : State) : (s.awake fun s => s.temp (lane p k) t.toNat : State).outer = s.outer :=
  by simp

theorem execTemp_kept (p : Fin 16) (k : Fin 4) (t : BitVec 48) (s : State) : (s.awake fun s => s.temp (lane p k) t.toNat : State).kept = s.kept :=
  by simp

theorem execTemp_ram (p : Fin 16) (k : Fin 4) (t : BitVec 48) (s : State) : (s.awake fun s => s.temp (lane p k) t.toNat : State).ram = s.ram :=
  by simp

theorem execTemperatureReportStale_outer (seg : BitVec 8) (s : State) : (s.awake fun s => s.tempStale seg.toNat : State).outer = s.outer :=
  by simp

theorem execTemperatureReportStale_kept (seg : BitVec 8) (s : State) : (s.awake fun s => s.tempStale seg.toNat : State).kept = s.kept :=
  by simp

theorem execTemperatureReportStale_ram (seg : BitVec 8) (s : State) : (s.awake fun s => s.tempStale seg.toNat : State).ram = s.ram :=
  by simp

theorem execSequencerArm_outer (h : FopHead) (s : State) : (s.serveCmd h (obj 0x2870 11) State.seqArm : State).outer = s.outer :=
  by simp

theorem execSequencerArm_kept (h : FopHead) (s : State) : (s.serveCmd h (obj 0x2870 11) State.seqArm : State).kept = s.kept :=
  by simp

theorem execSequencerArm_ram (h : FopHead) (s : State) : (s.serveCmd h (obj 0x2870 11) State.seqArm : State).ram = s.ram :=
  by simp

theorem execSequencerStop_outer (h : FopHead) (s : State) : (s.serveCmd h (obj 0x2870 11) State.seqStop : State).outer = s.outer :=
  by simp

theorem execSequencerStop_kept (h : FopHead) (s : State) : (s.serveCmd h (obj 0x2870 11) State.seqStop : State).kept = s.kept :=
  by simp

theorem execSequencerStop_ram (h : FopHead) (s : State) : (s.serveCmd h (obj 0x2870 11) State.seqStop : State).ram = s.ram :=
  by simp

theorem execFeedComplete_outer (s : State) : (s.awake fun s => s.feedCheck : State).outer = s.outer :=
  by simp

theorem execFeedComplete_kept (s : State) : (s.awake fun s => s.feedCheck : State).kept = s.kept :=
  by simp

theorem execFeedComplete_ram (s : State) : (s.awake fun s => s.feedCheck : State).ram = s.ram :=
  by simp

theorem execLineRateMeasure_outer (s : State) : (s.awake fun s => s.measureRate : State).outer = s.outer :=
  by simp

theorem execLineRateMeasure_kept (s : State) : (s.awake fun s => s.measureRate : State).kept = s.kept :=
  by simp

theorem execLineRateMeasure_ram (s : State) : (s.awake fun s => s.measureRate : State).ram = s.ram :=
  by simp

theorem execRenderStart_outer (s : State) : (s.awake fun s => s.renderStart : State).outer = s.outer :=
  by simp

theorem execRenderStart_kept (s : State) : (s.awake fun s => s.renderStart : State).kept = s.kept :=
  by simp

theorem execRenderStart_ram (s : State) : (s.awake fun s => s.renderStart : State).ram = s.ram :=
  by simp

theorem execWalkerLine_outer (chart : Restored) (s : State) : (s.awake fun s => s.walkLine chart : State).outer = s.outer :=
  by simp

theorem execWalkerLine_kept (chart : Restored) (s : State) : (s.awake fun s => s.walkLine chart : State).kept = s.kept :=
  by simp

theorem execPipelineLine_outer (k : Fin 32) (waited : BitVec 32) (cache : Restored) (s : State) : (s.awake fun s => s.pipeLine k waited.toNat cache : State).outer = s.outer :=
  by simp

theorem execPipelineLine_kept (k : Fin 32) (waited : BitVec 32) (cache : Restored) (s : State) : (s.awake fun s => s.pipeLine k waited.toNat cache : State).kept = s.kept :=
  by simp

theorem execLastStripWritten_outer (s : State) : (s.awake fun s => s.lastStrip : State).outer = s.outer :=
  by simp

theorem execLastStripWritten_kept (s : State) : (s.awake fun s => s.lastStrip : State).kept = s.kept :=
  by simp

theorem execLastStripWritten_ram (s : State) : (s.awake fun s => s.lastStrip : State).ram = s.ram :=
  by simp

theorem execVerifyPassEnd_outer (bad : List Nat) (s : State) : (s.awake fun s => s.verifyEnd bad : State).outer = s.outer :=
  by simp

theorem execVerifyPassEnd_kept (bad : List Nat) (s : State) : (s.awake fun s => s.verifyEnd bad : State).kept = s.kept :=
  by simp

theorem execVerifyPassEnd_ram (bad : List Nat) (s : State) : (s.awake fun s => s.verifyEnd bad : State).ram = s.ram :=
  by simp

theorem execPageRelease_outer (s : State) : (s.awake fun s => s.pageRelease : State).outer = s.outer :=
  by simp

theorem execPageRelease_kept (s : State) : (s.awake fun s => s.pageRelease : State).kept = s.kept :=
  by simp

theorem execPageRelease_ram (s : State) : (s.awake fun s => s.pageRelease : State).ram = s.ram :=
  by simp

theorem execQueueFrog_outer (h : FopHead) (s : State) : (s.serveCmd h (obj 0x4881 3) State.queueFrog : State).outer = s.outer :=
  by simp

theorem execQueueFrog_kept (h : FopHead) (s : State) : (s.serveCmd h (obj 0x4881 3) State.queueFrog : State).kept = s.kept :=
  by simp

theorem execQueueFrog_ram (h : FopHead) (s : State) : (s.serveCmd h (obj 0x4881 3) State.queueFrog : State).ram = s.ram :=
  by simp

theorem execQueueMoveBefore_outer (h : FopHead) (s : State) : (s.serveCmd h (obj 0x4881 3) State.queueBefore : State).outer = s.outer :=
  by simp

theorem execQueueMoveBefore_kept (h : FopHead) (s : State) : (s.serveCmd h (obj 0x4881 3) State.queueBefore : State).kept = s.kept :=
  by simp

theorem execQueueMoveBefore_ram (h : FopHead) (s : State) : (s.serveCmd h (obj 0x4881 3) State.queueBefore : State).ram = s.ram :=
  by simp

theorem execQueueMoveToTail_outer (h : FopHead) (s : State) : (s.serveCmd h (obj 0x4881 3) State.queueTail : State).outer = s.outer :=
  by simp

theorem execQueueMoveToTail_kept (h : FopHead) (s : State) : (s.serveCmd h (obj 0x4881 3) State.queueTail : State).kept = s.kept :=
  by simp

theorem execQueueMoveToTail_ram (h : FopHead) (s : State) : (s.serveCmd h (obj 0x4881 3) State.queueTail : State).ram = s.ram :=
  by simp

theorem execPageStoreSizeWrite_outer (h : FopHead) (v : BitVec 32) (s : State) : (s.wrote h 0x4800 1 4 v.toNat : State).outer = s.outer :=
  by apply State.wrote_outer; rfl

theorem execPageStoreSizeWrite_kept (h : FopHead) (v : BitVec 32) (s : State) : (s.wrote h 0x4800 1 4 v.toNat : State).kept = s.kept :=
  by apply State.wrote_kept; rfl

theorem execPageStoreSizeWrite_ram (h : FopHead) (v : BitVec 32) (s : State) : (s.wrote h 0x4800 1 4 v.toNat : State).ram = s.ram :=
  by apply State.wrote_ram; rfl

theorem execBuildClone_outer (h : FopHead) (s : State) : (s.serveCmd h (obj 0x4010 3) State.buildClone : State).outer = s.outer :=
  by simp

theorem execBuildClone_kept (h : FopHead) (s : State) : (s.serveCmd h (obj 0x4010 3) State.buildClone : State).kept = s.kept :=
  by simp

theorem execBuildCommit_outer (h : FopHead) (s : State) : (s.serveCmd h (obj 0x4010 3) State.buildCommit : State).outer = s.outer :=
  by simp

theorem execBuildCommit_kept (h : FopHead) (s : State) : (s.serveCmd h (obj 0x4010 3) State.buildCommit : State).kept = s.kept :=
  by simp

theorem execBuildCommit_ram (h : FopHead) (s : State) : (s.serveCmd h (obj 0x4010 3) State.buildCommit : State).ram = s.ram :=
  by simp

theorem execBuildDiscard_outer (h : FopHead) (s : State) : (s.serveCmd h (obj 0x4010 3) State.buildDiscard : State).outer = s.outer :=
  by simp

theorem execBuildDiscard_kept (h : FopHead) (s : State) : (s.serveCmd h (obj 0x4010 3) State.buildDiscard : State).kept = s.kept :=
  by simp

theorem execBuildDiscard_ram (h : FopHead) (s : State) : (s.serveCmd h (obj 0x4010 3) State.buildDiscard : State).ram = s.ram :=
  by simp

theorem execCloneComplete_outer (s : State) : (s.awake fun s => s.cloneDone : State).outer = s.outer :=
  by simp

theorem execCloneComplete_kept (s : State) : (s.awake fun s => s.cloneDone : State).kept = s.kept :=
  by simp

theorem execCloneComplete_ram (s : State) : (s.awake fun s => s.cloneDone : State).ram = s.ram :=
  by simp

theorem execCommitChecksComplete_outer (s : State) : (s.awake fun s => s.checksDone : State).outer = s.outer :=
  by simp

theorem execCommitChecksComplete_kept (s : State) : (s.awake fun s => s.checksDone : State).kept = s.kept :=
  by simp

theorem execCommitChecksComplete_ram (s : State) : (s.awake fun s => s.checksDone : State).ram = s.ram :=
  by simp

theorem execGenerationSwap_outer (s : State) : (s.awake fun s => s.swap : State).outer = s.outer :=
  by simp

theorem execGenerationSwap_kept (s : State) : (s.awake fun s => s.swap : State).kept = s.kept :=
  by simp

theorem execDeviceBuild_outer (s : State) : (s.awake fun s => s.deviceBuild : State).outer = s.outer :=
  by simp

theorem execDeviceBuild_kept (s : State) : (s.awake fun s => s.deviceBuild : State).kept = s.kept :=
  by simp

theorem execClearPending_outer (h : FopHead) (s : State) : (s.serveCmd h (obj 0x4020 8) fun s => (s.clearPending, true) : State).outer = s.outer :=
  by simp

theorem execClearPending_kept (h : FopHead) (s : State) : (s.serveCmd h (obj 0x4020 8) fun s => (s.clearPending, true) : State).kept = s.kept :=
  by simp

theorem execClearPending_ram (h : FopHead) (s : State) : (s.serveCmd h (obj 0x4020 8) fun s => (s.clearPending, true) : State).ram = s.ram :=
  by simp

theorem execTableReloadComplete_outer (w : TableWord) (good : Bool) (s : State) : (s.awake fun s => s.tableReload w good : State).outer = s.outer :=
  by simp

theorem execTableReloadComplete_kept (w : TableWord) (good : Bool) (s : State) : (s.awake fun s => s.tableReload w good : State).kept = s.kept :=
  by simp

theorem execTableReloadComplete_ram (w : TableWord) (good : Bool) (s : State) : (s.awake fun s => s.tableReload w good : State).ram = s.ram :=
  by simp

theorem execNotHiddenHoldEnd_outer (s : State) : (s.awake fun s => s.holdEnd : State).outer = s.outer :=
  by simp

theorem execNotHiddenHoldEnd_kept (s : State) : (s.awake fun s => s.holdEnd : State).kept = s.kept :=
  by simp

theorem execNotHiddenHoldEnd_ram (s : State) : (s.awake fun s => s.holdEnd : State).ram = s.ram :=
  by simp

theorem execSliceFetch_outer (p : Fin 16) (k : Fin 4) (fault : ReadFault) (s : State) : (s.awake fun s => s.sliceFetch (lane p k) fault : State).outer = s.outer :=
  by simp

theorem execSliceFetch_kept (p : Fin 16) (k : Fin 4) (fault : ReadFault) (s : State) : (s.awake fun s => s.sliceFetch (lane p k) fault : State).kept = s.kept :=
  by simp

theorem execInPrintRepairStart_outer (s : State) : (s.awake fun s => s.repairStart : State).outer = s.outer :=
  by simp

theorem execInPrintRepairStart_kept (s : State) : (s.awake fun s => s.repairStart : State).kept = s.kept :=
  by simp

theorem execInPrintRepairComplete_outer (s : State) : (s.awake fun s => s.repairDone : State).outer = s.outer :=
  by simp

theorem execInPrintRepairComplete_kept (s : State) : (s.awake fun s => s.repairDone : State).kept = s.kept :=
  by simp

theorem execSliceSend_outer (p : Fin 16) (k : Fin 4) (bad : Bool) (s : State) : (s.awake fun s => s.sliceSend (lane p k) bad : State).outer = s.outer :=
  by simp

theorem execSliceSend_kept (p : Fin 16) (k : Fin 4) (bad : Bool) (s : State) : (s.awake fun s => s.sliceSend (lane p k) bad : State).kept = s.kept :=
  by simp

theorem execSendDeadline_outer (p : Fin 16) (k : Fin 4) (s : State) : (s.awake fun s => s.sendDeadline (lane p k) : State).outer = s.outer :=
  by simp

theorem execSendDeadline_kept (p : Fin 16) (k : Fin 4) (s : State) : (s.awake fun s => s.sendDeadline (lane p k) : State).kept = s.kept :=
  by simp

theorem execEcho_outer (p : Fin 16) (k : Fin 4) (tag : BitVec 16) (crc : BitVec 32) (s : State) : (s.awake fun s => s.echo (lane p k) tag.toNat crc.toNat : State).outer = s.outer :=
  by simp

theorem execEcho_kept (p : Fin 16) (k : Fin 4) (tag : BitVec 16) (crc : BitVec 32) (s : State) : (s.awake fun s => s.echo (lane p k) tag.toNat crc.toNat : State).kept = s.kept :=
  by simp

theorem execEcho_ram (p : Fin 16) (k : Fin 4) (tag : BitVec 16) (crc : BitVec 32) (s : State) : (s.awake fun s => s.echo (lane p k) tag.toNat crc.toNat : State).ram = s.ram :=
  by simp

theorem execWithdrawnSliceFree_outer (p : Fin 16) (k : Fin 4) (s : State) : (s.awake fun s => s.withdrawnFree (lane p k) : State).outer = s.outer :=
  by simp

theorem execWithdrawnSliceFree_kept (p : Fin 16) (k : Fin 4) (s : State) : (s.awake fun s => s.withdrawnFree (lane p k) : State).kept = s.kept :=
  by simp

theorem execWithdrawnSliceFree_ram (p : Fin 16) (k : Fin 4) (s : State) : (s.awake fun s => s.withdrawnFree (lane p k) : State).ram = s.ram :=
  by simp

theorem execFireInstant_outer (p : Fin 16) (k : Fin 4) (s : State) : (s.awake fun s => s.fireInstant (lane p k) : State).outer = s.outer :=
  by simp

theorem execFireInstant_kept (p : Fin 16) (k : Fin 4) (s : State) : (s.awake fun s => s.fireInstant (lane p k) : State).kept = s.kept :=
  by simp

theorem execReverifyLine_outer (page : BitVec 32) (line : BitVec 32) (bad : Bool) (s : State) : (s.awake fun s => s.reverify page.toNat line.toNat bad : State).outer = s.outer :=
  by simp

theorem execReverifyLine_kept (page : BitVec 32) (line : BitVec 32) (bad : Bool) (s : State) : (s.awake fun s => s.reverify page.toNat line.toNat bad : State).kept = s.kept :=
  by simp

theorem execSync_outer (t : PtpHead) (body : SyncBody) (s : State) : (s.awake fun s => s.ptpSync t.domain.toNat t.transport t.fn t.src.toNat t.seq.toNat t.corr.toNat body.twoStep body.logInterval.toNat body.origin.toNat : State).outer = s.outer :=
  by simp

theorem execSync_kept (t : PtpHead) (body : SyncBody) (s : State) : (s.awake fun s => s.ptpSync t.domain.toNat t.transport t.fn t.src.toNat t.seq.toNat t.corr.toNat body.twoStep body.logInterval.toNat body.origin.toNat : State).kept = s.kept :=
  by simp

theorem execSync_ram (t : PtpHead) (body : SyncBody) (s : State) : (s.awake fun s => s.ptpSync t.domain.toNat t.transport t.fn t.src.toNat t.seq.toNat t.corr.toNat body.twoStep body.logInterval.toNat body.origin.toNat : State).ram = s.ram :=
  by simp

theorem execFollowUp_outer (t : PtpHead) (origin : BitVec 80) (s : State) : (s.awake fun s => s.followUp t.domain.toNat t.transport t.fn t.src.toNat t.seq.toNat t.corr.toNat origin.toNat : State).outer = s.outer :=
  by simp

theorem execFollowUp_kept (t : PtpHead) (origin : BitVec 80) (s : State) : (s.awake fun s => s.followUp t.domain.toNat t.transport t.fn t.src.toNat t.seq.toNat t.corr.toNat origin.toNat : State).kept = s.kept :=
  by simp

theorem execFollowUp_ram (t : PtpHead) (origin : BitVec 80) (s : State) : (s.awake fun s => s.followUp t.domain.toNat t.transport t.fn t.src.toNat t.seq.toNat t.corr.toNat origin.toNat : State).ram = s.ram :=
  by simp

theorem execAnnounce_outer (t : PtpHead) (body : AnnounceBody) (s : State) : (s.awake fun s => s.announced t.domain.toNat t.transport ⟨t.fn, t.src.toNat, body.priority1.toNat, body.cls.toNat, body.accuracy.toNat, body.variance.toNat, body.priority2.toNat, body.identity.toNat⟩ : State).outer = s.outer :=
  by simp

theorem execAnnounce_kept (t : PtpHead) (body : AnnounceBody) (s : State) : (s.awake fun s => s.announced t.domain.toNat t.transport ⟨t.fn, t.src.toNat, body.priority1.toNat, body.cls.toNat, body.accuracy.toNat, body.variance.toNat, body.priority2.toNat, body.identity.toNat⟩ : State).kept = s.kept :=
  by simp

theorem execAnnounce_ram (t : PtpHead) (body : AnnounceBody) (s : State) : (s.awake fun s => s.announced t.domain.toNat t.transport ⟨t.fn, t.src.toNat, body.priority1.toNat, body.cls.toNat, body.accuracy.toNat, body.variance.toNat, body.priority2.toNat, body.identity.toNat⟩ : State).ram = s.ram :=
  by simp

theorem execDelayResp_outer (t : PtpHead) (rx : BitVec 80) (s : State) : (s.awake fun s => s.delayResp t.domain.toNat t.transport t.fn t.src.toNat t.seq.toNat t.corr.toNat rx.toNat : State).outer = s.outer :=
  by simp

theorem execDelayResp_kept (t : PtpHead) (rx : BitVec 80) (s : State) : (s.awake fun s => s.delayResp t.domain.toNat t.transport t.fn t.src.toNat t.seq.toNat t.corr.toNat rx.toNat : State).kept = s.kept :=
  by simp

theorem execDelayResp_ram (t : PtpHead) (rx : BitVec 80) (s : State) : (s.awake fun s => s.delayResp t.domain.toNat t.transport t.fn t.src.toNat t.seq.toNat t.corr.toNat rx.toNat : State).ram = s.ram :=
  by simp

theorem execPdelayReq_outer (t : PtpHead) (s : State) : (s.awake fun s => s.pdelayAsked t.domain.toNat t.transport t.fn t.src.toNat t.seq.toNat t.corr.toNat : State).outer = s.outer :=
  by simp

theorem execPdelayReq_kept (t : PtpHead) (s : State) : (s.awake fun s => s.pdelayAsked t.domain.toNat t.transport t.fn t.src.toNat t.seq.toNat t.corr.toNat : State).kept = s.kept :=
  by simp

theorem execPdelayReq_ram (t : PtpHead) (s : State) : (s.awake fun s => s.pdelayAsked t.domain.toNat t.transport t.fn t.src.toNat t.seq.toNat t.corr.toNat : State).ram = s.ram :=
  by simp

theorem execPdelayResp_outer (t : PtpHead) (rx : BitVec 80) (tx : BitVec 80) (s : State) : (s.awake fun s => s.pdelayResp t.domain.toNat t.transport t.fn t.seq.toNat t.corr.toNat rx.toNat tx.toNat : State).outer = s.outer :=
  by simp

theorem execPdelayResp_kept (t : PtpHead) (rx : BitVec 80) (tx : BitVec 80) (s : State) : (s.awake fun s => s.pdelayResp t.domain.toNat t.transport t.fn t.seq.toNat t.corr.toNat rx.toNat tx.toNat : State).kept = s.kept :=
  by simp

theorem execPdelayResp_ram (t : PtpHead) (rx : BitVec 80) (tx : BitVec 80) (s : State) : (s.awake fun s => s.pdelayResp t.domain.toNat t.transport t.fn t.seq.toNat t.corr.toNat rx.toNat tx.toNat : State).ram = s.ram :=
  by simp

theorem execTransparentClockForward_outer (fn : Fin 2) (transport : Fin 3) (msg : Bytes) (residence : BitVec 32) (s : State) : (s.awake fun s => s.ptpForward fn transport msg residence.toNat : State).outer = s.outer :=
  by simp

theorem execTransparentClockForward_kept (fn : Fin 2) (transport : Fin 3) (msg : Bytes) (residence : BitVec 32) (s : State) : (s.awake fun s => s.ptpForward fn transport msg residence.toNat : State).kept = s.kept :=
  by simp

theorem execTransparentClockForward_ram (fn : Fin 2) (transport : Fin 3) (msg : Bytes) (residence : BitVec 32) (s : State) : (s.awake fun s => s.ptpForward fn transport msg residence.toNat : State).ram = s.ram :=
  by simp

theorem execSyncLossTimeout_outer (b : Bool) (s : State) : (s.awake fun s => s.syncLost (b2n b) : State).outer = s.outer :=
  by simp

theorem execSyncLossTimeout_kept (b : Bool) (s : State) : (s.awake fun s => s.syncLost (b2n b) : State).kept = s.kept :=
  by simp

theorem execSyncLossTimeout_ram (b : Bool) (s : State) : (s.awake fun s => s.syncLost (b2n b) : State).ram = s.ram :=
  by simp

theorem execDomainEnableWrite_outer (h : FopHead) (b : Bool) (v : BitVec 8) (s : State) : (s.wrote h (0x1010 + b2n b) 4 1 v.toNat : State).outer = s.outer :=
  by apply State.wrote_outer; simp [plainIndex, b2n]; split <;> omega

theorem execDomainEnableWrite_kept (h : FopHead) (b : Bool) (v : BitVec 8) (s : State) : (s.wrote h (0x1010 + b2n b) 4 1 v.toNat : State).kept = s.kept :=
  by apply State.wrote_kept; simp [plainIndex, b2n]; split <;> omega

theorem execDomainEnableWrite_ram (h : FopHead) (b : Bool) (v : BitVec 8) (s : State) : (s.wrote h (0x1010 + b2n b) 4 1 v.toNat : State).ram = s.ram :=
  by apply State.wrote_ram; simp [plainIndex, b2n]; split <;> omega

theorem execRebaseCommand_outer (h : FopHead) (s : State) : (s.serveCmd h (obj 0x1000 9) State.rebaseCommand : State).outer = s.outer :=
  by simp

theorem execRebaseCommand_kept (h : FopHead) (s : State) : (s.serveCmd h (obj 0x1000 9) State.rebaseCommand : State).kept = s.kept :=
  by simp

theorem execRebaseCommand_ram (h : FopHead) (s : State) : (s.serveCmd h (obj 0x1000 9) State.rebaseCommand : State).ram = s.ram :=
  by simp

theorem execInitialRebase_outer (s : State) : (s.awake fun s => s.initialRebase : State).outer = s.outer :=
  by simp

theorem execInitialRebase_kept (s : State) : (s.awake fun s => s.initialRebase : State).kept = s.kept :=
  by simp

theorem execInitialRebase_ram (s : State) : (s.awake fun s => s.initialRebase : State).ram = s.ram :=
  by simp

theorem execTriggerArm_outer (h : FopHead) (t : Fin 4) (s : State) : (s.serveCmd h (obj (0x1030 + t.val) 6) fun s => s.triggerArm t : State).outer = s.outer :=
  by simp

theorem execTriggerArm_kept (h : FopHead) (t : Fin 4) (s : State) : (s.serveCmd h (obj (0x1030 + t.val) 6) fun s => s.triggerArm t : State).kept = s.kept :=
  by simp

theorem execTriggerArm_ram (h : FopHead) (t : Fin 4) (s : State) : (s.serveCmd h (obj (0x1030 + t.val) 6) fun s => s.triggerArm t : State).ram = s.ram :=
  by simp

theorem execTriggerDisarm_outer (h : FopHead) (t : Fin 4) (s : State) : (s.serveCmd h (obj (0x1030 + t.val) 6) fun s => s.triggerDisarm t : State).outer = s.outer :=
  by simp

theorem execTriggerDisarm_kept (h : FopHead) (t : Fin 4) (s : State) : (s.serveCmd h (obj (0x1030 + t.val) 6) fun s => s.triggerDisarm t : State).kept = s.kept :=
  by simp

theorem execTriggerDisarm_ram (h : FopHead) (t : Fin 4) (s : State) : (s.serveCmd h (obj (0x1030 + t.val) 6) fun s => s.triggerDisarm t : State).ram = s.ram :=
  by simp

theorem execTriggerEdge_outer (t : Fin 4) (s : State) : (s.awake fun s => s.triggerEdge t : State).outer = s.outer :=
  by simp

theorem execTriggerEdge_kept (t : Fin 4) (s : State) : (s.awake fun s => s.triggerEdge t : State).kept = s.kept :=
  by simp

theorem execTriggerEdge_ram (t : Fin 4) (s : State) : (s.awake fun s => s.triggerEdge t : State).ram = s.ram :=
  by simp

theorem execTriggerPulseEnd_outer (t : Fin 4) (s : State) : (s.awake fun s => s.triggerPulseEnd t : State).outer = s.outer :=
  by simp

theorem execTriggerPulseEnd_kept (t : Fin 4) (s : State) : (s.awake fun s => s.triggerPulseEnd t : State).kept = s.kept :=
  by simp

theorem execTriggerPulseEnd_ram (t : Fin 4) (s : State) : (s.awake fun s => s.triggerPulseEnd t : State).ram = s.ram :=
  by simp

theorem execCaptureEdge_outer (c : Fin 4) (rising : Bool) (s : State) : (s.awake fun s => s.captureEdge c rising : State).outer = s.outer :=
  by simp

theorem execCaptureEdge_kept (c : Fin 4) (rising : Bool) (s : State) : (s.awake fun s => s.captureEdge c rising : State).kept = s.kept :=
  by simp

theorem execCaptureEdge_ram (c : Fin 4) (rising : Bool) (s : State) : (s.awake fun s => s.captureEdge c rising : State).ram = s.ram :=
  by simp

theorem concluded_outer {s e t : State} (k : e.outer = s.outer) (d : s.boot.due = .none) (h : Host.Outcome.next (φ := Fault) (ρ := Refusal) e.conclude = .next t) : t.outer = s.outer := by
  injection h with h
  subst h
  exact (State.still_outer (State.conclude_still e ((congrArg Boot.due (State.boot_of_outer k)).trans d))).trans k

theorem concluded_kept {s e t : State} (k : e.outer = s.outer) (q : e.kept = s.kept) (d : s.boot.due = .none) (h : Host.Outcome.next (φ := Fault) (ρ := Refusal) e.conclude = .next t) : t.kept = s.kept := by
  injection h with h
  subst h
  exact (State.still_kept (State.conclude_still e ((congrArg Boot.due (State.boot_of_outer k)).trans d))).trans q

theorem concluded_ram {s e t : State} (k : e.outer = s.outer) (q : e.ram = s.ram) (d : s.boot.due = .none) (h : Host.Outcome.next (φ := Fault) (ρ := Refusal) e.conclude = .next t) : t.ram = s.ram := by
  injection h with h
  subst h
  exact (State.still_ram (State.conclude_still e ((congrArg Boot.due (State.boot_of_outer k)).trans d))).trans q

theorem concluded_carries {s e t : State} (k : s.Carries e) (h : Host.Outcome.next (φ := Fault) (ρ := Refusal) e.conclude = .next t) : s.Carries t ∧ t.boot.due = .none := by
  injection h with h
  subst h
  exact ⟨k.trans (State.conclude_carries e).1, (State.conclude_carries e).2⟩

end Sys2Proof.Machine
end

