-- ==== Sys2Proof/Laws/Serve.lean ====
section
/-! SUPPORT. What `State.serve` and the rows built on it do with an admitted request (R49): the action runs on the counted state and its status is answered. -/

namespace Sys2Proof.Machine

theorem State.serve_admits {s : State} {h : FopHead} {op key : Nat} (a : s.Admits h op key) (act : State → State × Nat × Bytes) :
    s.serve h op key act = (act (s.counted h)).1.fopReply h (s.ownAddr h.peer) op key (act (s.counted h)).2.1 (act (s.counted h)).2.2 := by
  obtain ⟨up, re, al, ver, room, fresh⟩ := a
  have full : ¬((s.fopCount.client h.peer).isNone = true ∧ s.fopCount.fop.clients.length ≥ 16) := by
    rintro ⟨n, l⟩
    rcases room with r | r
    · simp [Option.isNone_iff_eq_none.mp n] at r
    · omega
  unfold State.serve
  dsimp only
  rw [if_neg (by simp [up, re]), if_neg (by simp [al]), if_neg (by simp [ver]), if_neg full, fresh]
  rfl

theorem State.serveCmd_admits {s : State} {h : FopHead} {key : Nat} (a : s.Admits h 2 key) (act : State → State × Bool) :
    s.serveCmd h key act = (act (s.counted h)).1.fopReply h (s.ownAddr h.peer) 2 key (if (act (s.counted h)).2 then St.ok else St.refused) [] :=
  State.serve_admits a _

theorem State.serveStatus_admits {s : State} {h : FopHead} {key : Nat} (a : s.Admits h 2 key) (act : State → State × Nat) :
    s.serveStatus h key act = (act (s.counted h)).1.fopReply h (s.ownAddr h.peer) 2 key (act (s.counted h)).2 [] :=
  State.serve_admits a _

theorem State.wrote_admits {s : State} {h : FopHead} {idx sub n v : Nat} (a : s.Admits h 2 (obj idx sub)) :
    s.wrote h idx sub n v = ((s.counted h).doWrite h.peer idx sub (leBytes n v)).1.fopReply h (s.ownAddr h.peer) 2 (obj idx sub)
      ((s.counted h).doWrite h.peer idx sub (leBytes n v)).2.1 ((s.counted h).doWrite h.peer idx sub (leBytes n v)).2.2 :=
  State.serve_admits a _

theorem State.request'_admits {s : State} {m : FopMsg} {op : Nat} (a : s.Admits m.head op (obj m.index.toNat m.sub.toNat))
    (act : State → Nat → Nat → Bytes → State × Nat × Bytes) :
    s.request' m op act = (act (s.counted m.head) m.index.toNat m.sub.toNat m.payload).1.fopReply m.head (s.ownAddr m.head.peer) op (obj m.index.toNat m.sub.toNat)
      (act (s.counted m.head) m.index.toNat m.sub.toNat m.payload).2.1 (act (s.counted m.head) m.index.toNat m.sub.toNat m.payload).2.2 :=
  State.serve_admits a _

@[simp] theorem State.awake_alive {s : State} (h : s.alive = true) (f : State → State) : s.awake f = f s := if_pos h

end Sys2Proof.Machine
end

