-- ==== Sys2Proof/Laws/State.lean ====
section
/-! SUPPORT. For each update of the state: the fields that it leaves alone, one lemma a field. -/

namespace Sys2Proof.Machine

@[simp] theorem State.put_mem (s : State) (key v : Nat) : (s.put key v).mem = s.mem := by unfold State.put; (repeat' split) <;> rfl
@[simp] theorem State.put_memBad (s : State) (key v : Nat) : (s.put key v).memBad = s.memBad := by unfold State.put; (repeat' split) <;> rfl
@[simp] theorem State.put_staging (s : State) (key v : Nat) : (s.put key v).staging = s.staging := by unfold State.put; (repeat' split) <;> rfl
@[simp] theorem State.put_flash (s : State) (key v : Nat) : (s.put key v).flash = s.flash := by unfold State.put; (repeat' split) <;> rfl
@[simp] theorem State.put_copyA (s : State) (key v : Nat) : (s.put key v).copyA = s.copyA := by unfold State.put; (repeat' split) <;> rfl
@[simp] theorem State.put_copyB (s : State) (key v : Nat) : (s.put key v).copyB = s.copyB := by unfold State.put; (repeat' split) <;> rfl
@[simp] theorem State.put_fop (s : State) (key v : Nat) : (s.put key v).fop = s.fop := by unfold State.put; (repeat' split) <;> rfl
@[simp] theorem State.put_clk (s : State) (key v : Nat) : (s.put key v).clk = s.clk := by unfold State.put; (repeat' split) <;> rfl
@[simp] theorem State.put_time (s : State) (key v : Nat) : (s.put key v).time = s.time := by unfold State.put; (repeat' split) <;> rfl
@[simp] theorem State.put_aon (s : State) (key v : Nat) : (s.put key v).aon = s.aon := by unfold State.put; (repeat' split) <;> rfl
@[simp] theorem State.put_therm (s : State) (key v : Nat) : (s.put key v).therm = s.therm := by unfold State.put; (repeat' split) <;> rfl
@[simp] theorem State.put_calib (s : State) (key v : Nat) : (s.put key v).calib = s.calib := by unfold State.put; (repeat' split) <;> rfl
@[simp] theorem State.put_boot (s : State) (key v : Nat) : (s.put key v).boot = s.boot := by unfold State.put; (repeat' split) <;> rfl
@[simp] theorem State.put_update (s : State) (key v : Nat) : (s.put key v).update = s.update := by unfold State.put; (repeat' split) <;> rfl
@[simp] theorem State.put_recovery (s : State) (key v : Nat) : (s.put key v).recovery = s.recovery := by unfold State.put; (repeat' split) <;> rfl
@[simp] theorem State.put_jobs (s : State) (key v : Nat) : (s.put key v).jobs = s.jobs := by unfold State.put; (repeat' split) <;> rfl
@[simp] theorem State.put_msp (s : State) (key v : Nat) : (s.put key v).msp = s.msp := by unfold State.put; (repeat' split) <;> rfl
@[simp] theorem State.put_render (s : State) (key v : Nat) : (s.put key v).render = s.render := by unfold State.put; (repeat' split) <;> rfl
@[simp] theorem State.put_store (s : State) (key v : Nat) : (s.put key v).store = s.store := by unfold State.put; (repeat' split) <;> rfl
@[simp] theorem State.put_lanes (s : State) (key v : Nat) : (s.put key v).lanes = s.lanes := by unfold State.put; (repeat' split) <;> rfl
@[simp] theorem State.put_cmps (s : State) (key v : Nat) : (s.put key v).cmps = s.cmps := by unfold State.put; (repeat' split) <;> rfl
@[simp] theorem State.put_links (s : State) (key v : Nat) : (s.put key v).links = s.links := by unfold State.put; (repeat' split) <;> rfl
@[simp] theorem State.put_ports (s : State) (key v : Nat) : (s.put key v).ports = s.ports := by unfold State.put; (repeat' split) <;> rfl
@[simp] theorem State.put_pos (s : State) (key v : Nat) : (s.put key v).pos = s.pos := by unfold State.put; (repeat' split) <;> rfl
@[simp] theorem State.put_fire (s : State) (key v : Nat) : (s.put key v).fire = s.fire := by unfold State.put; (repeat' split) <;> rfl
@[simp] theorem State.put_motion (s : State) (key v : Nat) : (s.put key v).motion = s.motion := by unfold State.put; (repeat' split) <;> rfl
@[simp] theorem State.put_dram (s : State) (key v : Nat) : (s.put key v).dram = s.dram := by unfold State.put; (repeat' split) <;> rfl
@[simp] theorem State.put_integ (s : State) (key v : Nat) : (s.put key v).integ = s.integ := by unfold State.put; (repeat' split) <;> rfl
@[simp] theorem State.put_board (s : State) (key v : Nat) : (s.put key v).board = s.board := by unfold State.put; (repeat' split) <;> rfl
@[simp] theorem State.put_units (s : State) (key v : Nat) : (s.put key v).units = s.units := by unfold State.put; (repeat' split) <;> rfl
@[simp] theorem State.put_wire (s : State) (key v : Nat) : (s.put key v).wire = s.wire := by unfold State.put; (repeat' split) <;> rfl
@[simp] theorem State.put_tx (s : State) (key v : Nat) : (s.put key v).tx = s.tx := by unfold State.put; (repeat' split) <;> rfl
@[simp] theorem State.put_free (s : State) (key v : Nat) : (s.put key v).free = s.free := by unfold State.put; (repeat' split) <;> rfl
@[simp] theorem State.put_idle (s : State) (key v : Nat) : (s.put key v).idle = s.idle := by unfold State.put; (repeat' split) <;> rfl
@[simp] theorem State.put_pending (s : State) (key v : Nat) : (s.put key v).pending = s.pending := by unfold State.put; (repeat' split) <;> rfl

@[simp] theorem State.set_mem (s : State) (idx sub v : Nat) : (s.set idx sub v).mem = s.mem := State.put_mem ..
@[simp] theorem State.set_memBad (s : State) (idx sub v : Nat) : (s.set idx sub v).memBad = s.memBad := State.put_memBad ..
@[simp] theorem State.set_staging (s : State) (idx sub v : Nat) : (s.set idx sub v).staging = s.staging := State.put_staging ..
@[simp] theorem State.set_flash (s : State) (idx sub v : Nat) : (s.set idx sub v).flash = s.flash := State.put_flash ..
@[simp] theorem State.set_copyA (s : State) (idx sub v : Nat) : (s.set idx sub v).copyA = s.copyA := State.put_copyA ..
@[simp] theorem State.set_copyB (s : State) (idx sub v : Nat) : (s.set idx sub v).copyB = s.copyB := State.put_copyB ..
@[simp] theorem State.set_fop (s : State) (idx sub v : Nat) : (s.set idx sub v).fop = s.fop := State.put_fop ..
@[simp] theorem State.set_clk (s : State) (idx sub v : Nat) : (s.set idx sub v).clk = s.clk := State.put_clk ..
@[simp] theorem State.set_time (s : State) (idx sub v : Nat) : (s.set idx sub v).time = s.time := State.put_time ..
@[simp] theorem State.set_aon (s : State) (idx sub v : Nat) : (s.set idx sub v).aon = s.aon := State.put_aon ..
@[simp] theorem State.set_therm (s : State) (idx sub v : Nat) : (s.set idx sub v).therm = s.therm := State.put_therm ..
@[simp] theorem State.set_calib (s : State) (idx sub v : Nat) : (s.set idx sub v).calib = s.calib := State.put_calib ..
@[simp] theorem State.set_boot (s : State) (idx sub v : Nat) : (s.set idx sub v).boot = s.boot := State.put_boot ..
@[simp] theorem State.set_update (s : State) (idx sub v : Nat) : (s.set idx sub v).update = s.update := State.put_update ..
@[simp] theorem State.set_recovery (s : State) (idx sub v : Nat) : (s.set idx sub v).recovery = s.recovery := State.put_recovery ..
@[simp] theorem State.set_jobs (s : State) (idx sub v : Nat) : (s.set idx sub v).jobs = s.jobs := State.put_jobs ..
@[simp] theorem State.set_msp (s : State) (idx sub v : Nat) : (s.set idx sub v).msp = s.msp := State.put_msp ..
@[simp] theorem State.set_render (s : State) (idx sub v : Nat) : (s.set idx sub v).render = s.render := State.put_render ..
@[simp] theorem State.set_store (s : State) (idx sub v : Nat) : (s.set idx sub v).store = s.store := State.put_store ..
@[simp] theorem State.set_lanes (s : State) (idx sub v : Nat) : (s.set idx sub v).lanes = s.lanes := State.put_lanes ..
@[simp] theorem State.set_cmps (s : State) (idx sub v : Nat) : (s.set idx sub v).cmps = s.cmps := State.put_cmps ..
@[simp] theorem State.set_links (s : State) (idx sub v : Nat) : (s.set idx sub v).links = s.links := State.put_links ..
@[simp] theorem State.set_ports (s : State) (idx sub v : Nat) : (s.set idx sub v).ports = s.ports := State.put_ports ..
@[simp] theorem State.set_pos (s : State) (idx sub v : Nat) : (s.set idx sub v).pos = s.pos := State.put_pos ..
@[simp] theorem State.set_fire (s : State) (idx sub v : Nat) : (s.set idx sub v).fire = s.fire := State.put_fire ..
@[simp] theorem State.set_motion (s : State) (idx sub v : Nat) : (s.set idx sub v).motion = s.motion := State.put_motion ..
@[simp] theorem State.set_dram (s : State) (idx sub v : Nat) : (s.set idx sub v).dram = s.dram := State.put_dram ..
@[simp] theorem State.set_integ (s : State) (idx sub v : Nat) : (s.set idx sub v).integ = s.integ := State.put_integ ..
@[simp] theorem State.set_board (s : State) (idx sub v : Nat) : (s.set idx sub v).board = s.board := State.put_board ..
@[simp] theorem State.set_units (s : State) (idx sub v : Nat) : (s.set idx sub v).units = s.units := State.put_units ..
@[simp] theorem State.set_wire (s : State) (idx sub v : Nat) : (s.set idx sub v).wire = s.wire := State.put_wire ..
@[simp] theorem State.set_tx (s : State) (idx sub v : Nat) : (s.set idx sub v).tx = s.tx := State.put_tx ..
@[simp] theorem State.set_free (s : State) (idx sub v : Nat) : (s.set idx sub v).free = s.free := State.put_free ..
@[simp] theorem State.set_idle (s : State) (idx sub v : Nat) : (s.set idx sub v).idle = s.idle := State.put_idle ..
@[simp] theorem State.set_pending (s : State) (idx sub v : Nat) : (s.set idx sub v).pending = s.pending := State.put_pending ..

@[simp] theorem State.bump_mem (s : State) (idx sub : Nat) : (s.bump idx sub).mem = s.mem := State.put_mem ..
@[simp] theorem State.bump_memBad (s : State) (idx sub : Nat) : (s.bump idx sub).memBad = s.memBad := State.put_memBad ..
@[simp] theorem State.bump_staging (s : State) (idx sub : Nat) : (s.bump idx sub).staging = s.staging := State.put_staging ..
@[simp] theorem State.bump_flash (s : State) (idx sub : Nat) : (s.bump idx sub).flash = s.flash := State.put_flash ..
@[simp] theorem State.bump_copyA (s : State) (idx sub : Nat) : (s.bump idx sub).copyA = s.copyA := State.put_copyA ..
@[simp] theorem State.bump_copyB (s : State) (idx sub : Nat) : (s.bump idx sub).copyB = s.copyB := State.put_copyB ..
@[simp] theorem State.bump_fop (s : State) (idx sub : Nat) : (s.bump idx sub).fop = s.fop := State.put_fop ..
@[simp] theorem State.bump_clk (s : State) (idx sub : Nat) : (s.bump idx sub).clk = s.clk := State.put_clk ..
@[simp] theorem State.bump_time (s : State) (idx sub : Nat) : (s.bump idx sub).time = s.time := State.put_time ..
@[simp] theorem State.bump_aon (s : State) (idx sub : Nat) : (s.bump idx sub).aon = s.aon := State.put_aon ..
@[simp] theorem State.bump_therm (s : State) (idx sub : Nat) : (s.bump idx sub).therm = s.therm := State.put_therm ..
@[simp] theorem State.bump_calib (s : State) (idx sub : Nat) : (s.bump idx sub).calib = s.calib := State.put_calib ..
@[simp] theorem State.bump_boot (s : State) (idx sub : Nat) : (s.bump idx sub).boot = s.boot := State.put_boot ..
@[simp] theorem State.bump_update (s : State) (idx sub : Nat) : (s.bump idx sub).update = s.update := State.put_update ..
@[simp] theorem State.bump_recovery (s : State) (idx sub : Nat) : (s.bump idx sub).recovery = s.recovery := State.put_recovery ..
@[simp] theorem State.bump_jobs (s : State) (idx sub : Nat) : (s.bump idx sub).jobs = s.jobs := State.put_jobs ..
@[simp] theorem State.bump_msp (s : State) (idx sub : Nat) : (s.bump idx sub).msp = s.msp := State.put_msp ..
@[simp] theorem State.bump_render (s : State) (idx sub : Nat) : (s.bump idx sub).render = s.render := State.put_render ..
@[simp] theorem State.bump_store (s : State) (idx sub : Nat) : (s.bump idx sub).store = s.store := State.put_store ..
@[simp] theorem State.bump_lanes (s : State) (idx sub : Nat) : (s.bump idx sub).lanes = s.lanes := State.put_lanes ..
@[simp] theorem State.bump_cmps (s : State) (idx sub : Nat) : (s.bump idx sub).cmps = s.cmps := State.put_cmps ..
@[simp] theorem State.bump_links (s : State) (idx sub : Nat) : (s.bump idx sub).links = s.links := State.put_links ..
@[simp] theorem State.bump_ports (s : State) (idx sub : Nat) : (s.bump idx sub).ports = s.ports := State.put_ports ..
@[simp] theorem State.bump_pos (s : State) (idx sub : Nat) : (s.bump idx sub).pos = s.pos := State.put_pos ..
@[simp] theorem State.bump_fire (s : State) (idx sub : Nat) : (s.bump idx sub).fire = s.fire := State.put_fire ..
@[simp] theorem State.bump_motion (s : State) (idx sub : Nat) : (s.bump idx sub).motion = s.motion := State.put_motion ..
@[simp] theorem State.bump_dram (s : State) (idx sub : Nat) : (s.bump idx sub).dram = s.dram := State.put_dram ..
@[simp] theorem State.bump_integ (s : State) (idx sub : Nat) : (s.bump idx sub).integ = s.integ := State.put_integ ..
@[simp] theorem State.bump_board (s : State) (idx sub : Nat) : (s.bump idx sub).board = s.board := State.put_board ..
@[simp] theorem State.bump_units (s : State) (idx sub : Nat) : (s.bump idx sub).units = s.units := State.put_units ..
@[simp] theorem State.bump_wire (s : State) (idx sub : Nat) : (s.bump idx sub).wire = s.wire := State.put_wire ..
@[simp] theorem State.bump_tx (s : State) (idx sub : Nat) : (s.bump idx sub).tx = s.tx := State.put_tx ..
@[simp] theorem State.bump_free (s : State) (idx sub : Nat) : (s.bump idx sub).free = s.free := State.put_free ..
@[simp] theorem State.bump_idle (s : State) (idx sub : Nat) : (s.bump idx sub).idle = s.idle := State.put_idle ..
@[simp] theorem State.bump_pending (s : State) (idx sub : Nat) : (s.bump idx sub).pending = s.pending := State.put_pending ..

@[simp] theorem State.count_mem (s : State) (idx sub w n : Nat) : (s.count idx sub w n).mem = s.mem := State.put_mem ..
@[simp] theorem State.count_memBad (s : State) (idx sub w n : Nat) : (s.count idx sub w n).memBad = s.memBad := State.put_memBad ..
@[simp] theorem State.count_staging (s : State) (idx sub w n : Nat) : (s.count idx sub w n).staging = s.staging := State.put_staging ..
@[simp] theorem State.count_flash (s : State) (idx sub w n : Nat) : (s.count idx sub w n).flash = s.flash := State.put_flash ..
@[simp] theorem State.count_copyA (s : State) (idx sub w n : Nat) : (s.count idx sub w n).copyA = s.copyA := State.put_copyA ..
@[simp] theorem State.count_copyB (s : State) (idx sub w n : Nat) : (s.count idx sub w n).copyB = s.copyB := State.put_copyB ..
@[simp] theorem State.count_fop (s : State) (idx sub w n : Nat) : (s.count idx sub w n).fop = s.fop := State.put_fop ..
@[simp] theorem State.count_clk (s : State) (idx sub w n : Nat) : (s.count idx sub w n).clk = s.clk := State.put_clk ..
@[simp] theorem State.count_time (s : State) (idx sub w n : Nat) : (s.count idx sub w n).time = s.time := State.put_time ..
@[simp] theorem State.count_aon (s : State) (idx sub w n : Nat) : (s.count idx sub w n).aon = s.aon := State.put_aon ..
@[simp] theorem State.count_therm (s : State) (idx sub w n : Nat) : (s.count idx sub w n).therm = s.therm := State.put_therm ..
@[simp] theorem State.count_calib (s : State) (idx sub w n : Nat) : (s.count idx sub w n).calib = s.calib := State.put_calib ..
@[simp] theorem State.count_boot (s : State) (idx sub w n : Nat) : (s.count idx sub w n).boot = s.boot := State.put_boot ..
@[simp] theorem State.count_update (s : State) (idx sub w n : Nat) : (s.count idx sub w n).update = s.update := State.put_update ..
@[simp] theorem State.count_recovery (s : State) (idx sub w n : Nat) : (s.count idx sub w n).recovery = s.recovery := State.put_recovery ..
@[simp] theorem State.count_jobs (s : State) (idx sub w n : Nat) : (s.count idx sub w n).jobs = s.jobs := State.put_jobs ..
@[simp] theorem State.count_msp (s : State) (idx sub w n : Nat) : (s.count idx sub w n).msp = s.msp := State.put_msp ..
@[simp] theorem State.count_render (s : State) (idx sub w n : Nat) : (s.count idx sub w n).render = s.render := State.put_render ..
@[simp] theorem State.count_store (s : State) (idx sub w n : Nat) : (s.count idx sub w n).store = s.store := State.put_store ..
@[simp] theorem State.count_lanes (s : State) (idx sub w n : Nat) : (s.count idx sub w n).lanes = s.lanes := State.put_lanes ..
@[simp] theorem State.count_cmps (s : State) (idx sub w n : Nat) : (s.count idx sub w n).cmps = s.cmps := State.put_cmps ..
@[simp] theorem State.count_links (s : State) (idx sub w n : Nat) : (s.count idx sub w n).links = s.links := State.put_links ..
@[simp] theorem State.count_ports (s : State) (idx sub w n : Nat) : (s.count idx sub w n).ports = s.ports := State.put_ports ..
@[simp] theorem State.count_pos (s : State) (idx sub w n : Nat) : (s.count idx sub w n).pos = s.pos := State.put_pos ..
@[simp] theorem State.count_fire (s : State) (idx sub w n : Nat) : (s.count idx sub w n).fire = s.fire := State.put_fire ..
@[simp] theorem State.count_motion (s : State) (idx sub w n : Nat) : (s.count idx sub w n).motion = s.motion := State.put_motion ..
@[simp] theorem State.count_dram (s : State) (idx sub w n : Nat) : (s.count idx sub w n).dram = s.dram := State.put_dram ..
@[simp] theorem State.count_integ (s : State) (idx sub w n : Nat) : (s.count idx sub w n).integ = s.integ := State.put_integ ..
@[simp] theorem State.count_board (s : State) (idx sub w n : Nat) : (s.count idx sub w n).board = s.board := State.put_board ..
@[simp] theorem State.count_units (s : State) (idx sub w n : Nat) : (s.count idx sub w n).units = s.units := State.put_units ..
@[simp] theorem State.count_wire (s : State) (idx sub w n : Nat) : (s.count idx sub w n).wire = s.wire := State.put_wire ..
@[simp] theorem State.count_tx (s : State) (idx sub w n : Nat) : (s.count idx sub w n).tx = s.tx := State.put_tx ..
@[simp] theorem State.count_free (s : State) (idx sub w n : Nat) : (s.count idx sub w n).free = s.free := State.put_free ..
@[simp] theorem State.count_idle (s : State) (idx sub w n : Nat) : (s.count idx sub w n).idle = s.idle := State.put_idle ..
@[simp] theorem State.count_pending (s : State) (idx sub w n : Nat) : (s.count idx sub w n).pending = s.pending := State.put_pending ..

@[simp] theorem State.setBytes_mem (s : State) (idx sub off : Nat) (bs : Bytes) : (s.setBytes idx sub off bs).mem = s.mem := by unfold State.setBytes; (repeat' split) <;> rfl
@[simp] theorem State.setBytes_memBad (s : State) (idx sub off : Nat) (bs : Bytes) : (s.setBytes idx sub off bs).memBad = s.memBad := by unfold State.setBytes; (repeat' split) <;> rfl
@[simp] theorem State.setBytes_staging (s : State) (idx sub off : Nat) (bs : Bytes) : (s.setBytes idx sub off bs).staging = s.staging := by unfold State.setBytes; (repeat' split) <;> rfl
@[simp] theorem State.setBytes_flash (s : State) (idx sub off : Nat) (bs : Bytes) : (s.setBytes idx sub off bs).flash = s.flash := by unfold State.setBytes; (repeat' split) <;> rfl
@[simp] theorem State.setBytes_copyA (s : State) (idx sub off : Nat) (bs : Bytes) : (s.setBytes idx sub off bs).copyA = s.copyA := by unfold State.setBytes; (repeat' split) <;> rfl
@[simp] theorem State.setBytes_copyB (s : State) (idx sub off : Nat) (bs : Bytes) : (s.setBytes idx sub off bs).copyB = s.copyB := by unfold State.setBytes; (repeat' split) <;> rfl
@[simp] theorem State.setBytes_fop (s : State) (idx sub off : Nat) (bs : Bytes) : (s.setBytes idx sub off bs).fop = s.fop := by unfold State.setBytes; (repeat' split) <;> rfl
@[simp] theorem State.setBytes_clk (s : State) (idx sub off : Nat) (bs : Bytes) : (s.setBytes idx sub off bs).clk = s.clk := by unfold State.setBytes; (repeat' split) <;> rfl
@[simp] theorem State.setBytes_time (s : State) (idx sub off : Nat) (bs : Bytes) : (s.setBytes idx sub off bs).time = s.time := by unfold State.setBytes; (repeat' split) <;> rfl
@[simp] theorem State.setBytes_aon (s : State) (idx sub off : Nat) (bs : Bytes) : (s.setBytes idx sub off bs).aon = s.aon := by unfold State.setBytes; (repeat' split) <;> rfl
@[simp] theorem State.setBytes_therm (s : State) (idx sub off : Nat) (bs : Bytes) : (s.setBytes idx sub off bs).therm = s.therm := by unfold State.setBytes; (repeat' split) <;> rfl
@[simp] theorem State.setBytes_calib (s : State) (idx sub off : Nat) (bs : Bytes) : (s.setBytes idx sub off bs).calib = s.calib := by unfold State.setBytes; (repeat' split) <;> rfl
@[simp] theorem State.setBytes_boot (s : State) (idx sub off : Nat) (bs : Bytes) : (s.setBytes idx sub off bs).boot = s.boot := by unfold State.setBytes; (repeat' split) <;> rfl
@[simp] theorem State.setBytes_update (s : State) (idx sub off : Nat) (bs : Bytes) : (s.setBytes idx sub off bs).update = s.update := by unfold State.setBytes; (repeat' split) <;> rfl
@[simp] theorem State.setBytes_recovery (s : State) (idx sub off : Nat) (bs : Bytes) : (s.setBytes idx sub off bs).recovery = s.recovery := by unfold State.setBytes; (repeat' split) <;> rfl
@[simp] theorem State.setBytes_jobs (s : State) (idx sub off : Nat) (bs : Bytes) : (s.setBytes idx sub off bs).jobs = s.jobs := by unfold State.setBytes; (repeat' split) <;> rfl
@[simp] theorem State.setBytes_msp (s : State) (idx sub off : Nat) (bs : Bytes) : (s.setBytes idx sub off bs).msp = s.msp := by unfold State.setBytes; (repeat' split) <;> rfl
@[simp] theorem State.setBytes_render (s : State) (idx sub off : Nat) (bs : Bytes) : (s.setBytes idx sub off bs).render = s.render := by unfold State.setBytes; (repeat' split) <;> rfl
@[simp] theorem State.setBytes_store (s : State) (idx sub off : Nat) (bs : Bytes) : (s.setBytes idx sub off bs).store = s.store := by unfold State.setBytes; (repeat' split) <;> rfl
@[simp] theorem State.setBytes_lanes (s : State) (idx sub off : Nat) (bs : Bytes) : (s.setBytes idx sub off bs).lanes = s.lanes := by unfold State.setBytes; (repeat' split) <;> rfl
@[simp] theorem State.setBytes_cmps (s : State) (idx sub off : Nat) (bs : Bytes) : (s.setBytes idx sub off bs).cmps = s.cmps := by unfold State.setBytes; (repeat' split) <;> rfl
@[simp] theorem State.setBytes_links (s : State) (idx sub off : Nat) (bs : Bytes) : (s.setBytes idx sub off bs).links = s.links := by unfold State.setBytes; (repeat' split) <;> rfl
@[simp] theorem State.setBytes_ports (s : State) (idx sub off : Nat) (bs : Bytes) : (s.setBytes idx sub off bs).ports = s.ports := by unfold State.setBytes; (repeat' split) <;> rfl
@[simp] theorem State.setBytes_pos (s : State) (idx sub off : Nat) (bs : Bytes) : (s.setBytes idx sub off bs).pos = s.pos := by unfold State.setBytes; (repeat' split) <;> rfl
@[simp] theorem State.setBytes_fire (s : State) (idx sub off : Nat) (bs : Bytes) : (s.setBytes idx sub off bs).fire = s.fire := by unfold State.setBytes; (repeat' split) <;> rfl
@[simp] theorem State.setBytes_motion (s : State) (idx sub off : Nat) (bs : Bytes) : (s.setBytes idx sub off bs).motion = s.motion := by unfold State.setBytes; (repeat' split) <;> rfl
@[simp] theorem State.setBytes_dram (s : State) (idx sub off : Nat) (bs : Bytes) : (s.setBytes idx sub off bs).dram = s.dram := by unfold State.setBytes; (repeat' split) <;> rfl
@[simp] theorem State.setBytes_integ (s : State) (idx sub off : Nat) (bs : Bytes) : (s.setBytes idx sub off bs).integ = s.integ := by unfold State.setBytes; (repeat' split) <;> rfl
@[simp] theorem State.setBytes_board (s : State) (idx sub off : Nat) (bs : Bytes) : (s.setBytes idx sub off bs).board = s.board := by unfold State.setBytes; (repeat' split) <;> rfl
@[simp] theorem State.setBytes_units (s : State) (idx sub off : Nat) (bs : Bytes) : (s.setBytes idx sub off bs).units = s.units := by unfold State.setBytes; (repeat' split) <;> rfl
@[simp] theorem State.setBytes_wire (s : State) (idx sub off : Nat) (bs : Bytes) : (s.setBytes idx sub off bs).wire = s.wire := by unfold State.setBytes; (repeat' split) <;> rfl
@[simp] theorem State.setBytes_tx (s : State) (idx sub off : Nat) (bs : Bytes) : (s.setBytes idx sub off bs).tx = s.tx := by unfold State.setBytes; (repeat' split) <;> rfl
@[simp] theorem State.setBytes_free (s : State) (idx sub off : Nat) (bs : Bytes) : (s.setBytes idx sub off bs).free = s.free := by unfold State.setBytes; (repeat' split) <;> rfl
@[simp] theorem State.setBytes_idle (s : State) (idx sub off : Nat) (bs : Bytes) : (s.setBytes idx sub off bs).idle = s.idle := by unfold State.setBytes; (repeat' split) <;> rfl
@[simp] theorem State.setBytes_pending (s : State) (idx sub off : Nat) (bs : Bytes) : (s.setBytes idx sub off bs).pending = s.pending := by unfold State.setBytes; (repeat' split) <;> rfl

@[simp] theorem State.raise_main (s : State) (src sev detail : Nat) : (s.raise src sev detail).main = s.main := rfl
@[simp] theorem State.raise_mem (s : State) (src sev detail : Nat) : (s.raise src sev detail).mem = s.mem := rfl
@[simp] theorem State.raise_memBad (s : State) (src sev detail : Nat) : (s.raise src sev detail).memBad = s.memBad := rfl
@[simp] theorem State.raise_staging (s : State) (src sev detail : Nat) : (s.raise src sev detail).staging = s.staging := rfl
@[simp] theorem State.raise_flash (s : State) (src sev detail : Nat) : (s.raise src sev detail).flash = s.flash := rfl
@[simp] theorem State.raise_copyA (s : State) (src sev detail : Nat) : (s.raise src sev detail).copyA = s.copyA := rfl
@[simp] theorem State.raise_copyB (s : State) (src sev detail : Nat) : (s.raise src sev detail).copyB = s.copyB := rfl
@[simp] theorem State.raise_fop (s : State) (src sev detail : Nat) : (s.raise src sev detail).fop = s.fop := rfl
@[simp] theorem State.raise_clk (s : State) (src sev detail : Nat) : (s.raise src sev detail).clk = s.clk := rfl
@[simp] theorem State.raise_time (s : State) (src sev detail : Nat) : (s.raise src sev detail).time = s.time := rfl
@[simp] theorem State.raise_aon (s : State) (src sev detail : Nat) : (s.raise src sev detail).aon = s.aon := rfl
@[simp] theorem State.raise_therm (s : State) (src sev detail : Nat) : (s.raise src sev detail).therm = s.therm := rfl
@[simp] theorem State.raise_calib (s : State) (src sev detail : Nat) : (s.raise src sev detail).calib = s.calib := rfl
@[simp] theorem State.raise_boot (s : State) (src sev detail : Nat) : (s.raise src sev detail).boot = s.boot := rfl
@[simp] theorem State.raise_update (s : State) (src sev detail : Nat) : (s.raise src sev detail).update = s.update := rfl
@[simp] theorem State.raise_recovery (s : State) (src sev detail : Nat) : (s.raise src sev detail).recovery = s.recovery := rfl
@[simp] theorem State.raise_jobs (s : State) (src sev detail : Nat) : (s.raise src sev detail).jobs = s.jobs := rfl
@[simp] theorem State.raise_msp (s : State) (src sev detail : Nat) : (s.raise src sev detail).msp = s.msp := rfl
@[simp] theorem State.raise_render (s : State) (src sev detail : Nat) : (s.raise src sev detail).render = s.render := rfl
@[simp] theorem State.raise_store (s : State) (src sev detail : Nat) : (s.raise src sev detail).store = s.store := rfl
@[simp] theorem State.raise_lanes (s : State) (src sev detail : Nat) : (s.raise src sev detail).lanes = s.lanes := rfl
@[simp] theorem State.raise_cmps (s : State) (src sev detail : Nat) : (s.raise src sev detail).cmps = s.cmps := rfl
@[simp] theorem State.raise_links (s : State) (src sev detail : Nat) : (s.raise src sev detail).links = s.links := rfl
@[simp] theorem State.raise_ports (s : State) (src sev detail : Nat) : (s.raise src sev detail).ports = s.ports := rfl
@[simp] theorem State.raise_pos (s : State) (src sev detail : Nat) : (s.raise src sev detail).pos = s.pos := rfl
@[simp] theorem State.raise_fire (s : State) (src sev detail : Nat) : (s.raise src sev detail).fire = s.fire := rfl
@[simp] theorem State.raise_motion (s : State) (src sev detail : Nat) : (s.raise src sev detail).motion = s.motion := rfl
@[simp] theorem State.raise_dram (s : State) (src sev detail : Nat) : (s.raise src sev detail).dram = s.dram := rfl
@[simp] theorem State.raise_integ (s : State) (src sev detail : Nat) : (s.raise src sev detail).integ = s.integ := rfl
@[simp] theorem State.raise_board (s : State) (src sev detail : Nat) : (s.raise src sev detail).board = s.board := rfl
@[simp] theorem State.raise_units (s : State) (src sev detail : Nat) : (s.raise src sev detail).units = s.units := rfl
@[simp] theorem State.raise_wire (s : State) (src sev detail : Nat) : (s.raise src sev detail).wire = s.wire := rfl
@[simp] theorem State.raise_tx (s : State) (src sev detail : Nat) : (s.raise src sev detail).tx = s.tx := rfl
@[simp] theorem State.raise_free (s : State) (src sev detail : Nat) : (s.raise src sev detail).free = s.free := rfl
@[simp] theorem State.raise_idle (s : State) (src sev detail : Nat) : (s.raise src sev detail).idle = s.idle := rfl
@[simp] theorem State.raise_pending (s : State) (src sev detail : Nat) : (s.raise src sev detail).pending = s.pending := rfl

@[simp] theorem State.raiseAt_main (s : State) (src sev detail master access page addr : Nat) : (s.raiseAt src sev detail master access page addr).main = s.main := rfl
@[simp] theorem State.raiseAt_mem (s : State) (src sev detail master access page addr : Nat) : (s.raiseAt src sev detail master access page addr).mem = s.mem := rfl
@[simp] theorem State.raiseAt_memBad (s : State) (src sev detail master access page addr : Nat) : (s.raiseAt src sev detail master access page addr).memBad = s.memBad := rfl
@[simp] theorem State.raiseAt_staging (s : State) (src sev detail master access page addr : Nat) : (s.raiseAt src sev detail master access page addr).staging = s.staging := rfl
@[simp] theorem State.raiseAt_flash (s : State) (src sev detail master access page addr : Nat) : (s.raiseAt src sev detail master access page addr).flash = s.flash := rfl
@[simp] theorem State.raiseAt_copyA (s : State) (src sev detail master access page addr : Nat) : (s.raiseAt src sev detail master access page addr).copyA = s.copyA := rfl
@[simp] theorem State.raiseAt_copyB (s : State) (src sev detail master access page addr : Nat) : (s.raiseAt src sev detail master access page addr).copyB = s.copyB := rfl
@[simp] theorem State.raiseAt_fop (s : State) (src sev detail master access page addr : Nat) : (s.raiseAt src sev detail master access page addr).fop = s.fop := rfl
@[simp] theorem State.raiseAt_clk (s : State) (src sev detail master access page addr : Nat) : (s.raiseAt src sev detail master access page addr).clk = s.clk := rfl
@[simp] theorem State.raiseAt_time (s : State) (src sev detail master access page addr : Nat) : (s.raiseAt src sev detail master access page addr).time = s.time := rfl
@[simp] theorem State.raiseAt_aon (s : State) (src sev detail master access page addr : Nat) : (s.raiseAt src sev detail master access page addr).aon = s.aon := rfl
@[simp] theorem State.raiseAt_therm (s : State) (src sev detail master access page addr : Nat) : (s.raiseAt src sev detail master access page addr).therm = s.therm := rfl
@[simp] theorem State.raiseAt_calib (s : State) (src sev detail master access page addr : Nat) : (s.raiseAt src sev detail master access page addr).calib = s.calib := rfl
@[simp] theorem State.raiseAt_boot (s : State) (src sev detail master access page addr : Nat) : (s.raiseAt src sev detail master access page addr).boot = s.boot := rfl
@[simp] theorem State.raiseAt_update (s : State) (src sev detail master access page addr : Nat) : (s.raiseAt src sev detail master access page addr).update = s.update := rfl
@[simp] theorem State.raiseAt_recovery (s : State) (src sev detail master access page addr : Nat) : (s.raiseAt src sev detail master access page addr).recovery = s.recovery := rfl
@[simp] theorem State.raiseAt_jobs (s : State) (src sev detail master access page addr : Nat) : (s.raiseAt src sev detail master access page addr).jobs = s.jobs := rfl
@[simp] theorem State.raiseAt_msp (s : State) (src sev detail master access page addr : Nat) : (s.raiseAt src sev detail master access page addr).msp = s.msp := rfl
@[simp] theorem State.raiseAt_render (s : State) (src sev detail master access page addr : Nat) : (s.raiseAt src sev detail master access page addr).render = s.render := rfl
@[simp] theorem State.raiseAt_store (s : State) (src sev detail master access page addr : Nat) : (s.raiseAt src sev detail master access page addr).store = s.store := rfl
@[simp] theorem State.raiseAt_lanes (s : State) (src sev detail master access page addr : Nat) : (s.raiseAt src sev detail master access page addr).lanes = s.lanes := rfl
@[simp] theorem State.raiseAt_cmps (s : State) (src sev detail master access page addr : Nat) : (s.raiseAt src sev detail master access page addr).cmps = s.cmps := rfl
@[simp] theorem State.raiseAt_links (s : State) (src sev detail master access page addr : Nat) : (s.raiseAt src sev detail master access page addr).links = s.links := rfl
@[simp] theorem State.raiseAt_ports (s : State) (src sev detail master access page addr : Nat) : (s.raiseAt src sev detail master access page addr).ports = s.ports := rfl
@[simp] theorem State.raiseAt_pos (s : State) (src sev detail master access page addr : Nat) : (s.raiseAt src sev detail master access page addr).pos = s.pos := rfl
@[simp] theorem State.raiseAt_fire (s : State) (src sev detail master access page addr : Nat) : (s.raiseAt src sev detail master access page addr).fire = s.fire := rfl
@[simp] theorem State.raiseAt_motion (s : State) (src sev detail master access page addr : Nat) : (s.raiseAt src sev detail master access page addr).motion = s.motion := rfl
@[simp] theorem State.raiseAt_dram (s : State) (src sev detail master access page addr : Nat) : (s.raiseAt src sev detail master access page addr).dram = s.dram := rfl
@[simp] theorem State.raiseAt_integ (s : State) (src sev detail master access page addr : Nat) : (s.raiseAt src sev detail master access page addr).integ = s.integ := rfl
@[simp] theorem State.raiseAt_board (s : State) (src sev detail master access page addr : Nat) : (s.raiseAt src sev detail master access page addr).board = s.board := rfl
@[simp] theorem State.raiseAt_units (s : State) (src sev detail master access page addr : Nat) : (s.raiseAt src sev detail master access page addr).units = s.units := rfl
@[simp] theorem State.raiseAt_wire (s : State) (src sev detail master access page addr : Nat) : (s.raiseAt src sev detail master access page addr).wire = s.wire := rfl
@[simp] theorem State.raiseAt_tx (s : State) (src sev detail master access page addr : Nat) : (s.raiseAt src sev detail master access page addr).tx = s.tx := rfl
@[simp] theorem State.raiseAt_free (s : State) (src sev detail master access page addr : Nat) : (s.raiseAt src sev detail master access page addr).free = s.free := rfl
@[simp] theorem State.raiseAt_idle (s : State) (src sev detail master access page addr : Nat) : (s.raiseAt src sev detail master access page addr).idle = s.idle := rfl
@[simp] theorem State.raiseAt_pending (s : State) (src sev detail master access page addr : Nat) : (s.raiseAt src sev detail master access page addr).pending = s.pending := rfl

@[simp] theorem State.send_main (s : State) (c : Chan) (bs : Bytes) : (s.send c bs).main = s.main := by unfold State.send; (repeat' split) <;> rfl
@[simp] theorem State.send_ev (s : State) (c : Chan) (bs : Bytes) : (s.send c bs).ev = s.ev := by unfold State.send; (repeat' split) <;> rfl
@[simp] theorem State.send_mem (s : State) (c : Chan) (bs : Bytes) : (s.send c bs).mem = s.mem := by unfold State.send; (repeat' split) <;> rfl
@[simp] theorem State.send_memBad (s : State) (c : Chan) (bs : Bytes) : (s.send c bs).memBad = s.memBad := by unfold State.send; (repeat' split) <;> rfl
@[simp] theorem State.send_staging (s : State) (c : Chan) (bs : Bytes) : (s.send c bs).staging = s.staging := by unfold State.send; (repeat' split) <;> rfl
@[simp] theorem State.send_flash (s : State) (c : Chan) (bs : Bytes) : (s.send c bs).flash = s.flash := by unfold State.send; (repeat' split) <;> rfl
@[simp] theorem State.send_copyA (s : State) (c : Chan) (bs : Bytes) : (s.send c bs).copyA = s.copyA := by unfold State.send; (repeat' split) <;> rfl
@[simp] theorem State.send_copyB (s : State) (c : Chan) (bs : Bytes) : (s.send c bs).copyB = s.copyB := by unfold State.send; (repeat' split) <;> rfl
@[simp] theorem State.send_fop (s : State) (c : Chan) (bs : Bytes) : (s.send c bs).fop = s.fop := by unfold State.send; (repeat' split) <;> rfl
@[simp] theorem State.send_clk (s : State) (c : Chan) (bs : Bytes) : (s.send c bs).clk = s.clk := by unfold State.send; (repeat' split) <;> rfl
@[simp] theorem State.send_time (s : State) (c : Chan) (bs : Bytes) : (s.send c bs).time = s.time := by unfold State.send; (repeat' split) <;> rfl
@[simp] theorem State.send_aon (s : State) (c : Chan) (bs : Bytes) : (s.send c bs).aon = s.aon := by unfold State.send; (repeat' split) <;> rfl
@[simp] theorem State.send_therm (s : State) (c : Chan) (bs : Bytes) : (s.send c bs).therm = s.therm := by unfold State.send; (repeat' split) <;> rfl
@[simp] theorem State.send_calib (s : State) (c : Chan) (bs : Bytes) : (s.send c bs).calib = s.calib := by unfold State.send; (repeat' split) <;> rfl
@[simp] theorem State.send_boot (s : State) (c : Chan) (bs : Bytes) : (s.send c bs).boot = s.boot := by unfold State.send; (repeat' split) <;> rfl
@[simp] theorem State.send_update (s : State) (c : Chan) (bs : Bytes) : (s.send c bs).update = s.update := by unfold State.send; (repeat' split) <;> rfl
@[simp] theorem State.send_recovery (s : State) (c : Chan) (bs : Bytes) : (s.send c bs).recovery = s.recovery := by unfold State.send; (repeat' split) <;> rfl
@[simp] theorem State.send_jobs (s : State) (c : Chan) (bs : Bytes) : (s.send c bs).jobs = s.jobs := by unfold State.send; (repeat' split) <;> rfl
@[simp] theorem State.send_msp (s : State) (c : Chan) (bs : Bytes) : (s.send c bs).msp = s.msp := by unfold State.send; (repeat' split) <;> rfl
@[simp] theorem State.send_render (s : State) (c : Chan) (bs : Bytes) : (s.send c bs).render = s.render := by unfold State.send; (repeat' split) <;> rfl
@[simp] theorem State.send_store (s : State) (c : Chan) (bs : Bytes) : (s.send c bs).store = s.store := by unfold State.send; (repeat' split) <;> rfl
@[simp] theorem State.send_lanes (s : State) (c : Chan) (bs : Bytes) : (s.send c bs).lanes = s.lanes := by unfold State.send; (repeat' split) <;> rfl
@[simp] theorem State.send_cmps (s : State) (c : Chan) (bs : Bytes) : (s.send c bs).cmps = s.cmps := by unfold State.send; (repeat' split) <;> rfl
@[simp] theorem State.send_links (s : State) (c : Chan) (bs : Bytes) : (s.send c bs).links = s.links := by unfold State.send; (repeat' split) <;> rfl
@[simp] theorem State.send_ports (s : State) (c : Chan) (bs : Bytes) : (s.send c bs).ports = s.ports := by unfold State.send; (repeat' split) <;> rfl
@[simp] theorem State.send_pos (s : State) (c : Chan) (bs : Bytes) : (s.send c bs).pos = s.pos := by unfold State.send; (repeat' split) <;> rfl
@[simp] theorem State.send_fire (s : State) (c : Chan) (bs : Bytes) : (s.send c bs).fire = s.fire := by unfold State.send; (repeat' split) <;> rfl
@[simp] theorem State.send_motion (s : State) (c : Chan) (bs : Bytes) : (s.send c bs).motion = s.motion := by unfold State.send; (repeat' split) <;> rfl
@[simp] theorem State.send_dram (s : State) (c : Chan) (bs : Bytes) : (s.send c bs).dram = s.dram := by unfold State.send; (repeat' split) <;> rfl
@[simp] theorem State.send_integ (s : State) (c : Chan) (bs : Bytes) : (s.send c bs).integ = s.integ := by unfold State.send; (repeat' split) <;> rfl
@[simp] theorem State.send_board (s : State) (c : Chan) (bs : Bytes) : (s.send c bs).board = s.board := by unfold State.send; (repeat' split) <;> rfl
@[simp] theorem State.send_units (s : State) (c : Chan) (bs : Bytes) : (s.send c bs).units = s.units := by unfold State.send; (repeat' split) <;> rfl
@[simp] theorem State.send_free (s : State) (c : Chan) (bs : Bytes) : (s.send c bs).free = s.free := by unfold State.send; (repeat' split) <;> rfl
@[simp] theorem State.send_idle (s : State) (c : Chan) (bs : Bytes) : (s.send c bs).idle = s.idle := by unfold State.send; (repeat' split) <;> rfl
@[simp] theorem State.send_pending (s : State) (c : Chan) (bs : Bytes) : (s.send c bs).pending = s.pending := by unfold State.send; (repeat' split) <;> rfl

@[simp] theorem State.setReady_mem (s : State) (i : Nat) (b : Bool) : (s.setReady i b).mem = s.mem := by unfold State.setReady; (repeat' split) <;> rfl
@[simp] theorem State.setReady_memBad (s : State) (i : Nat) (b : Bool) : (s.setReady i b).memBad = s.memBad := by unfold State.setReady; (repeat' split) <;> rfl
@[simp] theorem State.setReady_staging (s : State) (i : Nat) (b : Bool) : (s.setReady i b).staging = s.staging := by unfold State.setReady; (repeat' split) <;> rfl
@[simp] theorem State.setReady_flash (s : State) (i : Nat) (b : Bool) : (s.setReady i b).flash = s.flash := by unfold State.setReady; (repeat' split) <;> rfl
@[simp] theorem State.setReady_copyA (s : State) (i : Nat) (b : Bool) : (s.setReady i b).copyA = s.copyA := by unfold State.setReady; (repeat' split) <;> rfl
@[simp] theorem State.setReady_copyB (s : State) (i : Nat) (b : Bool) : (s.setReady i b).copyB = s.copyB := by unfold State.setReady; (repeat' split) <;> rfl
@[simp] theorem State.setReady_fop (s : State) (i : Nat) (b : Bool) : (s.setReady i b).fop = s.fop := by unfold State.setReady; (repeat' split) <;> rfl
@[simp] theorem State.setReady_clk (s : State) (i : Nat) (b : Bool) : (s.setReady i b).clk = s.clk := by unfold State.setReady; (repeat' split) <;> rfl
@[simp] theorem State.setReady_time (s : State) (i : Nat) (b : Bool) : (s.setReady i b).time = s.time := by unfold State.setReady; (repeat' split) <;> rfl
@[simp] theorem State.setReady_aon (s : State) (i : Nat) (b : Bool) : (s.setReady i b).aon = s.aon := by unfold State.setReady; (repeat' split) <;> rfl
@[simp] theorem State.setReady_therm (s : State) (i : Nat) (b : Bool) : (s.setReady i b).therm = s.therm := by unfold State.setReady; (repeat' split) <;> rfl
@[simp] theorem State.setReady_calib (s : State) (i : Nat) (b : Bool) : (s.setReady i b).calib = s.calib := by unfold State.setReady; (repeat' split) <;> rfl
@[simp] theorem State.setReady_boot (s : State) (i : Nat) (b : Bool) : (s.setReady i b).boot = s.boot := by unfold State.setReady; (repeat' split) <;> rfl
@[simp] theorem State.setReady_update (s : State) (i : Nat) (b : Bool) : (s.setReady i b).update = s.update := by unfold State.setReady; (repeat' split) <;> rfl
@[simp] theorem State.setReady_recovery (s : State) (i : Nat) (b : Bool) : (s.setReady i b).recovery = s.recovery := by unfold State.setReady; (repeat' split) <;> rfl
@[simp] theorem State.setReady_jobs (s : State) (i : Nat) (b : Bool) : (s.setReady i b).jobs = s.jobs := by unfold State.setReady; (repeat' split) <;> rfl
@[simp] theorem State.setReady_msp (s : State) (i : Nat) (b : Bool) : (s.setReady i b).msp = s.msp := by unfold State.setReady; (repeat' split) <;> rfl
@[simp] theorem State.setReady_render (s : State) (i : Nat) (b : Bool) : (s.setReady i b).render = s.render := by unfold State.setReady; (repeat' split) <;> rfl
@[simp] theorem State.setReady_store (s : State) (i : Nat) (b : Bool) : (s.setReady i b).store = s.store := by unfold State.setReady; (repeat' split) <;> rfl
@[simp] theorem State.setReady_lanes (s : State) (i : Nat) (b : Bool) : (s.setReady i b).lanes = s.lanes := by unfold State.setReady; (repeat' split) <;> rfl
@[simp] theorem State.setReady_cmps (s : State) (i : Nat) (b : Bool) : (s.setReady i b).cmps = s.cmps := by unfold State.setReady; (repeat' split) <;> rfl
@[simp] theorem State.setReady_links (s : State) (i : Nat) (b : Bool) : (s.setReady i b).links = s.links := by unfold State.setReady; (repeat' split) <;> rfl
@[simp] theorem State.setReady_ports (s : State) (i : Nat) (b : Bool) : (s.setReady i b).ports = s.ports := by unfold State.setReady; (repeat' split) <;> rfl
@[simp] theorem State.setReady_pos (s : State) (i : Nat) (b : Bool) : (s.setReady i b).pos = s.pos := by unfold State.setReady; (repeat' split) <;> rfl
@[simp] theorem State.setReady_fire (s : State) (i : Nat) (b : Bool) : (s.setReady i b).fire = s.fire := by unfold State.setReady; (repeat' split) <;> rfl
@[simp] theorem State.setReady_motion (s : State) (i : Nat) (b : Bool) : (s.setReady i b).motion = s.motion := by unfold State.setReady; (repeat' split) <;> rfl
@[simp] theorem State.setReady_dram (s : State) (i : Nat) (b : Bool) : (s.setReady i b).dram = s.dram := by unfold State.setReady; (repeat' split) <;> rfl
@[simp] theorem State.setReady_integ (s : State) (i : Nat) (b : Bool) : (s.setReady i b).integ = s.integ := by unfold State.setReady; (repeat' split) <;> rfl
@[simp] theorem State.setReady_board (s : State) (i : Nat) (b : Bool) : (s.setReady i b).board = s.board := by unfold State.setReady; (repeat' split) <;> rfl
@[simp] theorem State.setReady_units (s : State) (i : Nat) (b : Bool) : (s.setReady i b).units = s.units := by unfold State.setReady; (repeat' split) <;> rfl
@[simp] theorem State.setReady_wire (s : State) (i : Nat) (b : Bool) : (s.setReady i b).wire = s.wire := by unfold State.setReady; (repeat' split) <;> rfl
@[simp] theorem State.setReady_tx (s : State) (i : Nat) (b : Bool) : (s.setReady i b).tx = s.tx := by unfold State.setReady; (repeat' split) <;> rfl
@[simp] theorem State.setReady_free (s : State) (i : Nat) (b : Bool) : (s.setReady i b).free = s.free := by unfold State.setReady; (repeat' split) <;> rfl
@[simp] theorem State.setReady_idle (s : State) (i : Nat) (b : Bool) : (s.setReady i b).idle = s.idle := by unfold State.setReady; (repeat' split) <;> rfl
@[simp] theorem State.setReady_pending (s : State) (i : Nat) (b : Bool) : (s.setReady i b).pending = s.pending := by unfold State.setReady; (repeat' split) <;> rfl

@[simp] theorem State.updClient_main (s : State) (p : Peer) (f : Client → Client) : (s.updClient p f).main = s.main := rfl
@[simp] theorem State.updClient_ev (s : State) (p : Peer) (f : Client → Client) : (s.updClient p f).ev = s.ev := rfl
@[simp] theorem State.updClient_mem (s : State) (p : Peer) (f : Client → Client) : (s.updClient p f).mem = s.mem := rfl
@[simp] theorem State.updClient_memBad (s : State) (p : Peer) (f : Client → Client) : (s.updClient p f).memBad = s.memBad := rfl
@[simp] theorem State.updClient_staging (s : State) (p : Peer) (f : Client → Client) : (s.updClient p f).staging = s.staging := rfl
@[simp] theorem State.updClient_flash (s : State) (p : Peer) (f : Client → Client) : (s.updClient p f).flash = s.flash := rfl
@[simp] theorem State.updClient_copyA (s : State) (p : Peer) (f : Client → Client) : (s.updClient p f).copyA = s.copyA := rfl
@[simp] theorem State.updClient_copyB (s : State) (p : Peer) (f : Client → Client) : (s.updClient p f).copyB = s.copyB := rfl
@[simp] theorem State.updClient_clk (s : State) (p : Peer) (f : Client → Client) : (s.updClient p f).clk = s.clk := rfl
@[simp] theorem State.updClient_time (s : State) (p : Peer) (f : Client → Client) : (s.updClient p f).time = s.time := rfl
@[simp] theorem State.updClient_aon (s : State) (p : Peer) (f : Client → Client) : (s.updClient p f).aon = s.aon := rfl
@[simp] theorem State.updClient_therm (s : State) (p : Peer) (f : Client → Client) : (s.updClient p f).therm = s.therm := rfl
@[simp] theorem State.updClient_calib (s : State) (p : Peer) (f : Client → Client) : (s.updClient p f).calib = s.calib := rfl
@[simp] theorem State.updClient_boot (s : State) (p : Peer) (f : Client → Client) : (s.updClient p f).boot = s.boot := rfl
@[simp] theorem State.updClient_update (s : State) (p : Peer) (f : Client → Client) : (s.updClient p f).update = s.update := rfl
@[simp] theorem State.updClient_recovery (s : State) (p : Peer) (f : Client → Client) : (s.updClient p f).recovery = s.recovery := rfl
@[simp] theorem State.updClient_jobs (s : State) (p : Peer) (f : Client → Client) : (s.updClient p f).jobs = s.jobs := rfl
@[simp] theorem State.updClient_msp (s : State) (p : Peer) (f : Client → Client) : (s.updClient p f).msp = s.msp := rfl
@[simp] theorem State.updClient_render (s : State) (p : Peer) (f : Client → Client) : (s.updClient p f).render = s.render := rfl
@[simp] theorem State.updClient_store (s : State) (p : Peer) (f : Client → Client) : (s.updClient p f).store = s.store := rfl
@[simp] theorem State.updClient_lanes (s : State) (p : Peer) (f : Client → Client) : (s.updClient p f).lanes = s.lanes := rfl
@[simp] theorem State.updClient_cmps (s : State) (p : Peer) (f : Client → Client) : (s.updClient p f).cmps = s.cmps := rfl
@[simp] theorem State.updClient_links (s : State) (p : Peer) (f : Client → Client) : (s.updClient p f).links = s.links := rfl
@[simp] theorem State.updClient_ports (s : State) (p : Peer) (f : Client → Client) : (s.updClient p f).ports = s.ports := rfl
@[simp] theorem State.updClient_pos (s : State) (p : Peer) (f : Client → Client) : (s.updClient p f).pos = s.pos := rfl
@[simp] theorem State.updClient_fire (s : State) (p : Peer) (f : Client → Client) : (s.updClient p f).fire = s.fire := rfl
@[simp] theorem State.updClient_motion (s : State) (p : Peer) (f : Client → Client) : (s.updClient p f).motion = s.motion := rfl
@[simp] theorem State.updClient_dram (s : State) (p : Peer) (f : Client → Client) : (s.updClient p f).dram = s.dram := rfl
@[simp] theorem State.updClient_integ (s : State) (p : Peer) (f : Client → Client) : (s.updClient p f).integ = s.integ := rfl
@[simp] theorem State.updClient_board (s : State) (p : Peer) (f : Client → Client) : (s.updClient p f).board = s.board := rfl
@[simp] theorem State.updClient_units (s : State) (p : Peer) (f : Client → Client) : (s.updClient p f).units = s.units := rfl
@[simp] theorem State.updClient_wire (s : State) (p : Peer) (f : Client → Client) : (s.updClient p f).wire = s.wire := rfl
@[simp] theorem State.updClient_tx (s : State) (p : Peer) (f : Client → Client) : (s.updClient p f).tx = s.tx := rfl
@[simp] theorem State.updClient_free (s : State) (p : Peer) (f : Client → Client) : (s.updClient p f).free = s.free := rfl
@[simp] theorem State.updClient_idle (s : State) (p : Peer) (f : Client → Client) : (s.updClient p f).idle = s.idle := rfl
@[simp] theorem State.updClient_pending (s : State) (p : Peer) (f : Client → Client) : (s.updClient p f).pending = s.pending := rfl

@[simp] theorem State.fopReply_main (s : State) (h : FopHead) (own op key status : Nat) (payload : Bytes) : (s.fopReply h own op key status payload).main = s.main := by unfold State.fopReply; (repeat' split) <;> rfl
@[simp] theorem State.fopReply_ev (s : State) (h : FopHead) (own op key status : Nat) (payload : Bytes) : (s.fopReply h own op key status payload).ev = s.ev := by unfold State.fopReply; (repeat' split) <;> rfl
@[simp] theorem State.fopReply_mem (s : State) (h : FopHead) (own op key status : Nat) (payload : Bytes) : (s.fopReply h own op key status payload).mem = s.mem := by unfold State.fopReply; (repeat' split) <;> rfl
@[simp] theorem State.fopReply_memBad (s : State) (h : FopHead) (own op key status : Nat) (payload : Bytes) : (s.fopReply h own op key status payload).memBad = s.memBad := by unfold State.fopReply; (repeat' split) <;> rfl
@[simp] theorem State.fopReply_staging (s : State) (h : FopHead) (own op key status : Nat) (payload : Bytes) : (s.fopReply h own op key status payload).staging = s.staging := by unfold State.fopReply; (repeat' split) <;> rfl
@[simp] theorem State.fopReply_flash (s : State) (h : FopHead) (own op key status : Nat) (payload : Bytes) : (s.fopReply h own op key status payload).flash = s.flash := by unfold State.fopReply; (repeat' split) <;> rfl
@[simp] theorem State.fopReply_copyA (s : State) (h : FopHead) (own op key status : Nat) (payload : Bytes) : (s.fopReply h own op key status payload).copyA = s.copyA := by unfold State.fopReply; (repeat' split) <;> rfl
@[simp] theorem State.fopReply_copyB (s : State) (h : FopHead) (own op key status : Nat) (payload : Bytes) : (s.fopReply h own op key status payload).copyB = s.copyB := by unfold State.fopReply; (repeat' split) <;> rfl
@[simp] theorem State.fopReply_clk (s : State) (h : FopHead) (own op key status : Nat) (payload : Bytes) : (s.fopReply h own op key status payload).clk = s.clk := by unfold State.fopReply; (repeat' split) <;> rfl
@[simp] theorem State.fopReply_time (s : State) (h : FopHead) (own op key status : Nat) (payload : Bytes) : (s.fopReply h own op key status payload).time = s.time := by unfold State.fopReply; (repeat' split) <;> rfl
@[simp] theorem State.fopReply_aon (s : State) (h : FopHead) (own op key status : Nat) (payload : Bytes) : (s.fopReply h own op key status payload).aon = s.aon := by unfold State.fopReply; (repeat' split) <;> rfl
@[simp] theorem State.fopReply_therm (s : State) (h : FopHead) (own op key status : Nat) (payload : Bytes) : (s.fopReply h own op key status payload).therm = s.therm := by unfold State.fopReply; (repeat' split) <;> rfl
@[simp] theorem State.fopReply_calib (s : State) (h : FopHead) (own op key status : Nat) (payload : Bytes) : (s.fopReply h own op key status payload).calib = s.calib := by unfold State.fopReply; (repeat' split) <;> rfl
@[simp] theorem State.fopReply_boot (s : State) (h : FopHead) (own op key status : Nat) (payload : Bytes) : (s.fopReply h own op key status payload).boot = s.boot := by unfold State.fopReply; (repeat' split) <;> rfl
@[simp] theorem State.fopReply_update (s : State) (h : FopHead) (own op key status : Nat) (payload : Bytes) : (s.fopReply h own op key status payload).update = s.update := by unfold State.fopReply; (repeat' split) <;> rfl
@[simp] theorem State.fopReply_recovery (s : State) (h : FopHead) (own op key status : Nat) (payload : Bytes) : (s.fopReply h own op key status payload).recovery = s.recovery := by unfold State.fopReply; (repeat' split) <;> rfl
@[simp] theorem State.fopReply_jobs (s : State) (h : FopHead) (own op key status : Nat) (payload : Bytes) : (s.fopReply h own op key status payload).jobs = s.jobs := by unfold State.fopReply; (repeat' split) <;> rfl
@[simp] theorem State.fopReply_msp (s : State) (h : FopHead) (own op key status : Nat) (payload : Bytes) : (s.fopReply h own op key status payload).msp = s.msp := by unfold State.fopReply; (repeat' split) <;> rfl
@[simp] theorem State.fopReply_render (s : State) (h : FopHead) (own op key status : Nat) (payload : Bytes) : (s.fopReply h own op key status payload).render = s.render := by unfold State.fopReply; (repeat' split) <;> rfl
@[simp] theorem State.fopReply_store (s : State) (h : FopHead) (own op key status : Nat) (payload : Bytes) : (s.fopReply h own op key status payload).store = s.store := by unfold State.fopReply; (repeat' split) <;> rfl
@[simp] theorem State.fopReply_lanes (s : State) (h : FopHead) (own op key status : Nat) (payload : Bytes) : (s.fopReply h own op key status payload).lanes = s.lanes := by unfold State.fopReply; (repeat' split) <;> rfl
@[simp] theorem State.fopReply_cmps (s : State) (h : FopHead) (own op key status : Nat) (payload : Bytes) : (s.fopReply h own op key status payload).cmps = s.cmps := by unfold State.fopReply; (repeat' split) <;> rfl
@[simp] theorem State.fopReply_links (s : State) (h : FopHead) (own op key status : Nat) (payload : Bytes) : (s.fopReply h own op key status payload).links = s.links := by unfold State.fopReply; (repeat' split) <;> rfl
@[simp] theorem State.fopReply_ports (s : State) (h : FopHead) (own op key status : Nat) (payload : Bytes) : (s.fopReply h own op key status payload).ports = s.ports := by unfold State.fopReply; (repeat' split) <;> rfl
@[simp] theorem State.fopReply_pos (s : State) (h : FopHead) (own op key status : Nat) (payload : Bytes) : (s.fopReply h own op key status payload).pos = s.pos := by unfold State.fopReply; (repeat' split) <;> rfl
@[simp] theorem State.fopReply_fire (s : State) (h : FopHead) (own op key status : Nat) (payload : Bytes) : (s.fopReply h own op key status payload).fire = s.fire := by unfold State.fopReply; (repeat' split) <;> rfl
@[simp] theorem State.fopReply_motion (s : State) (h : FopHead) (own op key status : Nat) (payload : Bytes) : (s.fopReply h own op key status payload).motion = s.motion := by unfold State.fopReply; (repeat' split) <;> rfl
@[simp] theorem State.fopReply_dram (s : State) (h : FopHead) (own op key status : Nat) (payload : Bytes) : (s.fopReply h own op key status payload).dram = s.dram := by unfold State.fopReply; (repeat' split) <;> rfl
@[simp] theorem State.fopReply_integ (s : State) (h : FopHead) (own op key status : Nat) (payload : Bytes) : (s.fopReply h own op key status payload).integ = s.integ := by unfold State.fopReply; (repeat' split) <;> rfl
@[simp] theorem State.fopReply_board (s : State) (h : FopHead) (own op key status : Nat) (payload : Bytes) : (s.fopReply h own op key status payload).board = s.board := by unfold State.fopReply; (repeat' split) <;> rfl
@[simp] theorem State.fopReply_units (s : State) (h : FopHead) (own op key status : Nat) (payload : Bytes) : (s.fopReply h own op key status payload).units = s.units := by unfold State.fopReply; (repeat' split) <;> rfl
@[simp] theorem State.fopReply_wire (s : State) (h : FopHead) (own op key status : Nat) (payload : Bytes) : (s.fopReply h own op key status payload).wire = s.wire := by unfold State.fopReply; (repeat' split) <;> rfl
@[simp] theorem State.fopReply_free (s : State) (h : FopHead) (own op key status : Nat) (payload : Bytes) : (s.fopReply h own op key status payload).free = s.free := by unfold State.fopReply; (repeat' split) <;> rfl
@[simp] theorem State.fopReply_idle (s : State) (h : FopHead) (own op key status : Nat) (payload : Bytes) : (s.fopReply h own op key status payload).idle = s.idle := by unfold State.fopReply; (repeat' split) <;> rfl
@[simp] theorem State.fopReply_pending (s : State) (h : FopHead) (own op key status : Nat) (payload : Bytes) : (s.fopReply h own op key status payload).pending = s.pending := by unfold State.fopReply; (repeat' split) <;> rfl

@[simp] theorem State.updXfer_main (s : State) (h : Nat) (f : Xfer → Xfer) : (s.updXfer h f).main = s.main := rfl
@[simp] theorem State.updXfer_ev (s : State) (h : Nat) (f : Xfer → Xfer) : (s.updXfer h f).ev = s.ev := rfl
@[simp] theorem State.updXfer_mem (s : State) (h : Nat) (f : Xfer → Xfer) : (s.updXfer h f).mem = s.mem := rfl
@[simp] theorem State.updXfer_memBad (s : State) (h : Nat) (f : Xfer → Xfer) : (s.updXfer h f).memBad = s.memBad := rfl
@[simp] theorem State.updXfer_staging (s : State) (h : Nat) (f : Xfer → Xfer) : (s.updXfer h f).staging = s.staging := rfl
@[simp] theorem State.updXfer_flash (s : State) (h : Nat) (f : Xfer → Xfer) : (s.updXfer h f).flash = s.flash := rfl
@[simp] theorem State.updXfer_copyA (s : State) (h : Nat) (f : Xfer → Xfer) : (s.updXfer h f).copyA = s.copyA := rfl
@[simp] theorem State.updXfer_copyB (s : State) (h : Nat) (f : Xfer → Xfer) : (s.updXfer h f).copyB = s.copyB := rfl
@[simp] theorem State.updXfer_clk (s : State) (h : Nat) (f : Xfer → Xfer) : (s.updXfer h f).clk = s.clk := rfl
@[simp] theorem State.updXfer_time (s : State) (h : Nat) (f : Xfer → Xfer) : (s.updXfer h f).time = s.time := rfl
@[simp] theorem State.updXfer_aon (s : State) (h : Nat) (f : Xfer → Xfer) : (s.updXfer h f).aon = s.aon := rfl
@[simp] theorem State.updXfer_therm (s : State) (h : Nat) (f : Xfer → Xfer) : (s.updXfer h f).therm = s.therm := rfl
@[simp] theorem State.updXfer_calib (s : State) (h : Nat) (f : Xfer → Xfer) : (s.updXfer h f).calib = s.calib := rfl
@[simp] theorem State.updXfer_boot (s : State) (h : Nat) (f : Xfer → Xfer) : (s.updXfer h f).boot = s.boot := rfl
@[simp] theorem State.updXfer_update (s : State) (h : Nat) (f : Xfer → Xfer) : (s.updXfer h f).update = s.update := rfl
@[simp] theorem State.updXfer_recovery (s : State) (h : Nat) (f : Xfer → Xfer) : (s.updXfer h f).recovery = s.recovery := rfl
@[simp] theorem State.updXfer_jobs (s : State) (h : Nat) (f : Xfer → Xfer) : (s.updXfer h f).jobs = s.jobs := rfl
@[simp] theorem State.updXfer_msp (s : State) (h : Nat) (f : Xfer → Xfer) : (s.updXfer h f).msp = s.msp := rfl
@[simp] theorem State.updXfer_render (s : State) (h : Nat) (f : Xfer → Xfer) : (s.updXfer h f).render = s.render := rfl
@[simp] theorem State.updXfer_store (s : State) (h : Nat) (f : Xfer → Xfer) : (s.updXfer h f).store = s.store := rfl
@[simp] theorem State.updXfer_lanes (s : State) (h : Nat) (f : Xfer → Xfer) : (s.updXfer h f).lanes = s.lanes := rfl
@[simp] theorem State.updXfer_cmps (s : State) (h : Nat) (f : Xfer → Xfer) : (s.updXfer h f).cmps = s.cmps := rfl
@[simp] theorem State.updXfer_links (s : State) (h : Nat) (f : Xfer → Xfer) : (s.updXfer h f).links = s.links := rfl
@[simp] theorem State.updXfer_ports (s : State) (h : Nat) (f : Xfer → Xfer) : (s.updXfer h f).ports = s.ports := rfl
@[simp] theorem State.updXfer_pos (s : State) (h : Nat) (f : Xfer → Xfer) : (s.updXfer h f).pos = s.pos := rfl
@[simp] theorem State.updXfer_fire (s : State) (h : Nat) (f : Xfer → Xfer) : (s.updXfer h f).fire = s.fire := rfl
@[simp] theorem State.updXfer_motion (s : State) (h : Nat) (f : Xfer → Xfer) : (s.updXfer h f).motion = s.motion := rfl
@[simp] theorem State.updXfer_dram (s : State) (h : Nat) (f : Xfer → Xfer) : (s.updXfer h f).dram = s.dram := rfl
@[simp] theorem State.updXfer_integ (s : State) (h : Nat) (f : Xfer → Xfer) : (s.updXfer h f).integ = s.integ := rfl
@[simp] theorem State.updXfer_board (s : State) (h : Nat) (f : Xfer → Xfer) : (s.updXfer h f).board = s.board := rfl
@[simp] theorem State.updXfer_units (s : State) (h : Nat) (f : Xfer → Xfer) : (s.updXfer h f).units = s.units := rfl
@[simp] theorem State.updXfer_wire (s : State) (h : Nat) (f : Xfer → Xfer) : (s.updXfer h f).wire = s.wire := rfl
@[simp] theorem State.updXfer_tx (s : State) (h : Nat) (f : Xfer → Xfer) : (s.updXfer h f).tx = s.tx := rfl
@[simp] theorem State.updXfer_free (s : State) (h : Nat) (f : Xfer → Xfer) : (s.updXfer h f).free = s.free := rfl
@[simp] theorem State.updXfer_idle (s : State) (h : Nat) (f : Xfer → Xfer) : (s.updXfer h f).idle = s.idle := rfl
@[simp] theorem State.updXfer_pending (s : State) (h : Nat) (f : Xfer → Xfer) : (s.updXfer h f).pending = s.pending := rfl

@[simp] theorem State.updSess_main (s : State) (n : Nat) (f : Session → Session) : (s.updSess n f).main = s.main := by unfold State.updSess; (repeat' split) <;> rfl
@[simp] theorem State.updSess_ev (s : State) (n : Nat) (f : Session → Session) : (s.updSess n f).ev = s.ev := by unfold State.updSess; (repeat' split) <;> rfl
@[simp] theorem State.updSess_mem (s : State) (n : Nat) (f : Session → Session) : (s.updSess n f).mem = s.mem := by unfold State.updSess; (repeat' split) <;> rfl
@[simp] theorem State.updSess_memBad (s : State) (n : Nat) (f : Session → Session) : (s.updSess n f).memBad = s.memBad := by unfold State.updSess; (repeat' split) <;> rfl
@[simp] theorem State.updSess_staging (s : State) (n : Nat) (f : Session → Session) : (s.updSess n f).staging = s.staging := by unfold State.updSess; (repeat' split) <;> rfl
@[simp] theorem State.updSess_flash (s : State) (n : Nat) (f : Session → Session) : (s.updSess n f).flash = s.flash := by unfold State.updSess; (repeat' split) <;> rfl
@[simp] theorem State.updSess_copyA (s : State) (n : Nat) (f : Session → Session) : (s.updSess n f).copyA = s.copyA := by unfold State.updSess; (repeat' split) <;> rfl
@[simp] theorem State.updSess_copyB (s : State) (n : Nat) (f : Session → Session) : (s.updSess n f).copyB = s.copyB := by unfold State.updSess; (repeat' split) <;> rfl
@[simp] theorem State.updSess_fop (s : State) (n : Nat) (f : Session → Session) : (s.updSess n f).fop = s.fop := by unfold State.updSess; (repeat' split) <;> rfl
@[simp] theorem State.updSess_clk (s : State) (n : Nat) (f : Session → Session) : (s.updSess n f).clk = s.clk := by unfold State.updSess; (repeat' split) <;> rfl
@[simp] theorem State.updSess_time (s : State) (n : Nat) (f : Session → Session) : (s.updSess n f).time = s.time := by unfold State.updSess; (repeat' split) <;> rfl
@[simp] theorem State.updSess_aon (s : State) (n : Nat) (f : Session → Session) : (s.updSess n f).aon = s.aon := by unfold State.updSess; (repeat' split) <;> rfl
@[simp] theorem State.updSess_therm (s : State) (n : Nat) (f : Session → Session) : (s.updSess n f).therm = s.therm := by unfold State.updSess; (repeat' split) <;> rfl
@[simp] theorem State.updSess_calib (s : State) (n : Nat) (f : Session → Session) : (s.updSess n f).calib = s.calib := by unfold State.updSess; (repeat' split) <;> rfl
@[simp] theorem State.updSess_boot (s : State) (n : Nat) (f : Session → Session) : (s.updSess n f).boot = s.boot := by unfold State.updSess; (repeat' split) <;> rfl
@[simp] theorem State.updSess_update (s : State) (n : Nat) (f : Session → Session) : (s.updSess n f).update = s.update := by unfold State.updSess; (repeat' split) <;> rfl
@[simp] theorem State.updSess_recovery (s : State) (n : Nat) (f : Session → Session) : (s.updSess n f).recovery = s.recovery := by unfold State.updSess; (repeat' split) <;> rfl
@[simp] theorem State.updSess_jobs (s : State) (n : Nat) (f : Session → Session) : (s.updSess n f).jobs = s.jobs := by unfold State.updSess; (repeat' split) <;> rfl
@[simp] theorem State.updSess_render (s : State) (n : Nat) (f : Session → Session) : (s.updSess n f).render = s.render := by unfold State.updSess; (repeat' split) <;> rfl
@[simp] theorem State.updSess_store (s : State) (n : Nat) (f : Session → Session) : (s.updSess n f).store = s.store := by unfold State.updSess; (repeat' split) <;> rfl
@[simp] theorem State.updSess_lanes (s : State) (n : Nat) (f : Session → Session) : (s.updSess n f).lanes = s.lanes := by unfold State.updSess; (repeat' split) <;> rfl
@[simp] theorem State.updSess_cmps (s : State) (n : Nat) (f : Session → Session) : (s.updSess n f).cmps = s.cmps := by unfold State.updSess; (repeat' split) <;> rfl
@[simp] theorem State.updSess_links (s : State) (n : Nat) (f : Session → Session) : (s.updSess n f).links = s.links := by unfold State.updSess; (repeat' split) <;> rfl
@[simp] theorem State.updSess_ports (s : State) (n : Nat) (f : Session → Session) : (s.updSess n f).ports = s.ports := by unfold State.updSess; (repeat' split) <;> rfl
@[simp] theorem State.updSess_pos (s : State) (n : Nat) (f : Session → Session) : (s.updSess n f).pos = s.pos := by unfold State.updSess; (repeat' split) <;> rfl
@[simp] theorem State.updSess_fire (s : State) (n : Nat) (f : Session → Session) : (s.updSess n f).fire = s.fire := by unfold State.updSess; (repeat' split) <;> rfl
@[simp] theorem State.updSess_motion (s : State) (n : Nat) (f : Session → Session) : (s.updSess n f).motion = s.motion := by unfold State.updSess; (repeat' split) <;> rfl
@[simp] theorem State.updSess_dram (s : State) (n : Nat) (f : Session → Session) : (s.updSess n f).dram = s.dram := by unfold State.updSess; (repeat' split) <;> rfl
@[simp] theorem State.updSess_integ (s : State) (n : Nat) (f : Session → Session) : (s.updSess n f).integ = s.integ := by unfold State.updSess; (repeat' split) <;> rfl
@[simp] theorem State.updSess_board (s : State) (n : Nat) (f : Session → Session) : (s.updSess n f).board = s.board := by unfold State.updSess; (repeat' split) <;> rfl
@[simp] theorem State.updSess_units (s : State) (n : Nat) (f : Session → Session) : (s.updSess n f).units = s.units := by unfold State.updSess; (repeat' split) <;> rfl
@[simp] theorem State.updSess_wire (s : State) (n : Nat) (f : Session → Session) : (s.updSess n f).wire = s.wire := by unfold State.updSess; (repeat' split) <;> rfl
@[simp] theorem State.updSess_tx (s : State) (n : Nat) (f : Session → Session) : (s.updSess n f).tx = s.tx := by unfold State.updSess; (repeat' split) <;> rfl
@[simp] theorem State.updSess_free (s : State) (n : Nat) (f : Session → Session) : (s.updSess n f).free = s.free := by unfold State.updSess; (repeat' split) <;> rfl
@[simp] theorem State.updSess_idle (s : State) (n : Nat) (f : Session → Session) : (s.updSess n f).idle = s.idle := by unfold State.updSess; (repeat' split) <;> rfl
@[simp] theorem State.updSess_pending (s : State) (n : Nat) (f : Session → Session) : (s.updSess n f).pending = s.pending := by unfold State.updSess; (repeat' split) <;> rfl

@[simp] theorem State.setReserved_main (s : State) (n v : Nat) : (s.setReserved n v).main = s.main := rfl
@[simp] theorem State.setReserved_mem (s : State) (n v : Nat) : (s.setReserved n v).mem = s.mem := rfl
@[simp] theorem State.setReserved_memBad (s : State) (n v : Nat) : (s.setReserved n v).memBad = s.memBad := rfl
@[simp] theorem State.setReserved_staging (s : State) (n v : Nat) : (s.setReserved n v).staging = s.staging := rfl
@[simp] theorem State.setReserved_flash (s : State) (n v : Nat) : (s.setReserved n v).flash = s.flash := rfl
@[simp] theorem State.setReserved_copyA (s : State) (n v : Nat) : (s.setReserved n v).copyA = s.copyA := rfl
@[simp] theorem State.setReserved_copyB (s : State) (n v : Nat) : (s.setReserved n v).copyB = s.copyB := rfl
@[simp] theorem State.setReserved_fop (s : State) (n v : Nat) : (s.setReserved n v).fop = s.fop := rfl
@[simp] theorem State.setReserved_clk (s : State) (n v : Nat) : (s.setReserved n v).clk = s.clk := rfl
@[simp] theorem State.setReserved_time (s : State) (n v : Nat) : (s.setReserved n v).time = s.time := rfl
@[simp] theorem State.setReserved_aon (s : State) (n v : Nat) : (s.setReserved n v).aon = s.aon := rfl
@[simp] theorem State.setReserved_therm (s : State) (n v : Nat) : (s.setReserved n v).therm = s.therm := rfl
@[simp] theorem State.setReserved_calib (s : State) (n v : Nat) : (s.setReserved n v).calib = s.calib := rfl
@[simp] theorem State.setReserved_boot (s : State) (n v : Nat) : (s.setReserved n v).boot = s.boot := rfl
@[simp] theorem State.setReserved_update (s : State) (n v : Nat) : (s.setReserved n v).update = s.update := rfl
@[simp] theorem State.setReserved_recovery (s : State) (n v : Nat) : (s.setReserved n v).recovery = s.recovery := rfl
@[simp] theorem State.setReserved_jobs (s : State) (n v : Nat) : (s.setReserved n v).jobs = s.jobs := rfl
@[simp] theorem State.setReserved_msp (s : State) (n v : Nat) : (s.setReserved n v).msp = s.msp := rfl
@[simp] theorem State.setReserved_render (s : State) (n v : Nat) : (s.setReserved n v).render = s.render := rfl
@[simp] theorem State.setReserved_store (s : State) (n v : Nat) : (s.setReserved n v).store = s.store := rfl
@[simp] theorem State.setReserved_lanes (s : State) (n v : Nat) : (s.setReserved n v).lanes = s.lanes := rfl
@[simp] theorem State.setReserved_cmps (s : State) (n v : Nat) : (s.setReserved n v).cmps = s.cmps := rfl
@[simp] theorem State.setReserved_links (s : State) (n v : Nat) : (s.setReserved n v).links = s.links := rfl
@[simp] theorem State.setReserved_ports (s : State) (n v : Nat) : (s.setReserved n v).ports = s.ports := rfl
@[simp] theorem State.setReserved_pos (s : State) (n v : Nat) : (s.setReserved n v).pos = s.pos := rfl
@[simp] theorem State.setReserved_fire (s : State) (n v : Nat) : (s.setReserved n v).fire = s.fire := rfl
@[simp] theorem State.setReserved_motion (s : State) (n v : Nat) : (s.setReserved n v).motion = s.motion := rfl
@[simp] theorem State.setReserved_dram (s : State) (n v : Nat) : (s.setReserved n v).dram = s.dram := rfl
@[simp] theorem State.setReserved_integ (s : State) (n v : Nat) : (s.setReserved n v).integ = s.integ := rfl
@[simp] theorem State.setReserved_board (s : State) (n v : Nat) : (s.setReserved n v).board = s.board := rfl
@[simp] theorem State.setReserved_units (s : State) (n v : Nat) : (s.setReserved n v).units = s.units := rfl
@[simp] theorem State.setReserved_wire (s : State) (n v : Nat) : (s.setReserved n v).wire = s.wire := rfl
@[simp] theorem State.setReserved_tx (s : State) (n v : Nat) : (s.setReserved n v).tx = s.tx := rfl
@[simp] theorem State.setReserved_free (s : State) (n v : Nat) : (s.setReserved n v).free = s.free := rfl
@[simp] theorem State.setReserved_idle (s : State) (n v : Nat) : (s.setReserved n v).idle = s.idle := rfl
@[simp] theorem State.setReserved_pending (s : State) (n v : Nat) : (s.setReserved n v).pending = s.pending := rfl

@[simp] theorem State.updPage_main (s : State) (num : Nat) (f : Page → Page) : (s.updPage num f).main = s.main := rfl
@[simp] theorem State.updPage_ev (s : State) (num : Nat) (f : Page → Page) : (s.updPage num f).ev = s.ev := rfl
@[simp] theorem State.updPage_mem (s : State) (num : Nat) (f : Page → Page) : (s.updPage num f).mem = s.mem := rfl
@[simp] theorem State.updPage_memBad (s : State) (num : Nat) (f : Page → Page) : (s.updPage num f).memBad = s.memBad := rfl
@[simp] theorem State.updPage_staging (s : State) (num : Nat) (f : Page → Page) : (s.updPage num f).staging = s.staging := rfl
@[simp] theorem State.updPage_flash (s : State) (num : Nat) (f : Page → Page) : (s.updPage num f).flash = s.flash := rfl
@[simp] theorem State.updPage_copyA (s : State) (num : Nat) (f : Page → Page) : (s.updPage num f).copyA = s.copyA := rfl
@[simp] theorem State.updPage_copyB (s : State) (num : Nat) (f : Page → Page) : (s.updPage num f).copyB = s.copyB := rfl
@[simp] theorem State.updPage_fop (s : State) (num : Nat) (f : Page → Page) : (s.updPage num f).fop = s.fop := rfl
@[simp] theorem State.updPage_clk (s : State) (num : Nat) (f : Page → Page) : (s.updPage num f).clk = s.clk := rfl
@[simp] theorem State.updPage_time (s : State) (num : Nat) (f : Page → Page) : (s.updPage num f).time = s.time := rfl
@[simp] theorem State.updPage_aon (s : State) (num : Nat) (f : Page → Page) : (s.updPage num f).aon = s.aon := rfl
@[simp] theorem State.updPage_therm (s : State) (num : Nat) (f : Page → Page) : (s.updPage num f).therm = s.therm := rfl
@[simp] theorem State.updPage_calib (s : State) (num : Nat) (f : Page → Page) : (s.updPage num f).calib = s.calib := rfl
@[simp] theorem State.updPage_boot (s : State) (num : Nat) (f : Page → Page) : (s.updPage num f).boot = s.boot := rfl
@[simp] theorem State.updPage_update (s : State) (num : Nat) (f : Page → Page) : (s.updPage num f).update = s.update := rfl
@[simp] theorem State.updPage_recovery (s : State) (num : Nat) (f : Page → Page) : (s.updPage num f).recovery = s.recovery := rfl
@[simp] theorem State.updPage_msp (s : State) (num : Nat) (f : Page → Page) : (s.updPage num f).msp = s.msp := rfl
@[simp] theorem State.updPage_render (s : State) (num : Nat) (f : Page → Page) : (s.updPage num f).render = s.render := rfl
@[simp] theorem State.updPage_store (s : State) (num : Nat) (f : Page → Page) : (s.updPage num f).store = s.store := rfl
@[simp] theorem State.updPage_lanes (s : State) (num : Nat) (f : Page → Page) : (s.updPage num f).lanes = s.lanes := rfl
@[simp] theorem State.updPage_cmps (s : State) (num : Nat) (f : Page → Page) : (s.updPage num f).cmps = s.cmps := rfl
@[simp] theorem State.updPage_links (s : State) (num : Nat) (f : Page → Page) : (s.updPage num f).links = s.links := rfl
@[simp] theorem State.updPage_ports (s : State) (num : Nat) (f : Page → Page) : (s.updPage num f).ports = s.ports := rfl
@[simp] theorem State.updPage_pos (s : State) (num : Nat) (f : Page → Page) : (s.updPage num f).pos = s.pos := rfl
@[simp] theorem State.updPage_fire (s : State) (num : Nat) (f : Page → Page) : (s.updPage num f).fire = s.fire := rfl
@[simp] theorem State.updPage_motion (s : State) (num : Nat) (f : Page → Page) : (s.updPage num f).motion = s.motion := rfl
@[simp] theorem State.updPage_dram (s : State) (num : Nat) (f : Page → Page) : (s.updPage num f).dram = s.dram := rfl
@[simp] theorem State.updPage_integ (s : State) (num : Nat) (f : Page → Page) : (s.updPage num f).integ = s.integ := rfl
@[simp] theorem State.updPage_board (s : State) (num : Nat) (f : Page → Page) : (s.updPage num f).board = s.board := rfl
@[simp] theorem State.updPage_units (s : State) (num : Nat) (f : Page → Page) : (s.updPage num f).units = s.units := rfl
@[simp] theorem State.updPage_wire (s : State) (num : Nat) (f : Page → Page) : (s.updPage num f).wire = s.wire := rfl
@[simp] theorem State.updPage_tx (s : State) (num : Nat) (f : Page → Page) : (s.updPage num f).tx = s.tx := rfl
@[simp] theorem State.updPage_free (s : State) (num : Nat) (f : Page → Page) : (s.updPage num f).free = s.free := rfl
@[simp] theorem State.updPage_idle (s : State) (num : Nat) (f : Page → Page) : (s.updPage num f).idle = s.idle := rfl
@[simp] theorem State.updPage_pending (s : State) (num : Nat) (f : Page → Page) : (s.updPage num f).pending = s.pending := rfl

@[simp] theorem State.updLane_main (s : State) (mk : Nat) (f : Lane → Lane) : (s.updLane mk f).main = s.main := rfl
@[simp] theorem State.updLane_ev (s : State) (mk : Nat) (f : Lane → Lane) : (s.updLane mk f).ev = s.ev := rfl
@[simp] theorem State.updLane_mem (s : State) (mk : Nat) (f : Lane → Lane) : (s.updLane mk f).mem = s.mem := rfl
@[simp] theorem State.updLane_memBad (s : State) (mk : Nat) (f : Lane → Lane) : (s.updLane mk f).memBad = s.memBad := rfl
@[simp] theorem State.updLane_staging (s : State) (mk : Nat) (f : Lane → Lane) : (s.updLane mk f).staging = s.staging := rfl
@[simp] theorem State.updLane_flash (s : State) (mk : Nat) (f : Lane → Lane) : (s.updLane mk f).flash = s.flash := rfl
@[simp] theorem State.updLane_copyA (s : State) (mk : Nat) (f : Lane → Lane) : (s.updLane mk f).copyA = s.copyA := rfl
@[simp] theorem State.updLane_copyB (s : State) (mk : Nat) (f : Lane → Lane) : (s.updLane mk f).copyB = s.copyB := rfl
@[simp] theorem State.updLane_fop (s : State) (mk : Nat) (f : Lane → Lane) : (s.updLane mk f).fop = s.fop := rfl
@[simp] theorem State.updLane_clk (s : State) (mk : Nat) (f : Lane → Lane) : (s.updLane mk f).clk = s.clk := rfl
@[simp] theorem State.updLane_time (s : State) (mk : Nat) (f : Lane → Lane) : (s.updLane mk f).time = s.time := rfl
@[simp] theorem State.updLane_aon (s : State) (mk : Nat) (f : Lane → Lane) : (s.updLane mk f).aon = s.aon := rfl
@[simp] theorem State.updLane_therm (s : State) (mk : Nat) (f : Lane → Lane) : (s.updLane mk f).therm = s.therm := rfl
@[simp] theorem State.updLane_calib (s : State) (mk : Nat) (f : Lane → Lane) : (s.updLane mk f).calib = s.calib := rfl
@[simp] theorem State.updLane_boot (s : State) (mk : Nat) (f : Lane → Lane) : (s.updLane mk f).boot = s.boot := rfl
@[simp] theorem State.updLane_update (s : State) (mk : Nat) (f : Lane → Lane) : (s.updLane mk f).update = s.update := rfl
@[simp] theorem State.updLane_recovery (s : State) (mk : Nat) (f : Lane → Lane) : (s.updLane mk f).recovery = s.recovery := rfl
@[simp] theorem State.updLane_jobs (s : State) (mk : Nat) (f : Lane → Lane) : (s.updLane mk f).jobs = s.jobs := rfl
@[simp] theorem State.updLane_msp (s : State) (mk : Nat) (f : Lane → Lane) : (s.updLane mk f).msp = s.msp := rfl
@[simp] theorem State.updLane_render (s : State) (mk : Nat) (f : Lane → Lane) : (s.updLane mk f).render = s.render := rfl
@[simp] theorem State.updLane_store (s : State) (mk : Nat) (f : Lane → Lane) : (s.updLane mk f).store = s.store := rfl
@[simp] theorem State.updLane_cmps (s : State) (mk : Nat) (f : Lane → Lane) : (s.updLane mk f).cmps = s.cmps := rfl
@[simp] theorem State.updLane_links (s : State) (mk : Nat) (f : Lane → Lane) : (s.updLane mk f).links = s.links := rfl
@[simp] theorem State.updLane_ports (s : State) (mk : Nat) (f : Lane → Lane) : (s.updLane mk f).ports = s.ports := rfl
@[simp] theorem State.updLane_pos (s : State) (mk : Nat) (f : Lane → Lane) : (s.updLane mk f).pos = s.pos := rfl
@[simp] theorem State.updLane_fire (s : State) (mk : Nat) (f : Lane → Lane) : (s.updLane mk f).fire = s.fire := rfl
@[simp] theorem State.updLane_motion (s : State) (mk : Nat) (f : Lane → Lane) : (s.updLane mk f).motion = s.motion := rfl
@[simp] theorem State.updLane_dram (s : State) (mk : Nat) (f : Lane → Lane) : (s.updLane mk f).dram = s.dram := rfl
@[simp] theorem State.updLane_integ (s : State) (mk : Nat) (f : Lane → Lane) : (s.updLane mk f).integ = s.integ := rfl
@[simp] theorem State.updLane_board (s : State) (mk : Nat) (f : Lane → Lane) : (s.updLane mk f).board = s.board := rfl
@[simp] theorem State.updLane_units (s : State) (mk : Nat) (f : Lane → Lane) : (s.updLane mk f).units = s.units := rfl
@[simp] theorem State.updLane_wire (s : State) (mk : Nat) (f : Lane → Lane) : (s.updLane mk f).wire = s.wire := rfl
@[simp] theorem State.updLane_tx (s : State) (mk : Nat) (f : Lane → Lane) : (s.updLane mk f).tx = s.tx := rfl
@[simp] theorem State.updLane_free (s : State) (mk : Nat) (f : Lane → Lane) : (s.updLane mk f).free = s.free := rfl
@[simp] theorem State.updLane_idle (s : State) (mk : Nat) (f : Lane → Lane) : (s.updLane mk f).idle = s.idle := rfl
@[simp] theorem State.updLane_pending (s : State) (mk : Nat) (f : Lane → Lane) : (s.updLane mk f).pending = s.pending := rfl

@[simp] theorem State.updLink_main (s : State) (l : Nat) (f : Link → Link) : (s.updLink l f).main = s.main := rfl
@[simp] theorem State.updLink_ev (s : State) (l : Nat) (f : Link → Link) : (s.updLink l f).ev = s.ev := rfl
@[simp] theorem State.updLink_mem (s : State) (l : Nat) (f : Link → Link) : (s.updLink l f).mem = s.mem := rfl
@[simp] theorem State.updLink_memBad (s : State) (l : Nat) (f : Link → Link) : (s.updLink l f).memBad = s.memBad := rfl
@[simp] theorem State.updLink_staging (s : State) (l : Nat) (f : Link → Link) : (s.updLink l f).staging = s.staging := rfl
@[simp] theorem State.updLink_flash (s : State) (l : Nat) (f : Link → Link) : (s.updLink l f).flash = s.flash := rfl
@[simp] theorem State.updLink_copyA (s : State) (l : Nat) (f : Link → Link) : (s.updLink l f).copyA = s.copyA := rfl
@[simp] theorem State.updLink_copyB (s : State) (l : Nat) (f : Link → Link) : (s.updLink l f).copyB = s.copyB := rfl
@[simp] theorem State.updLink_fop (s : State) (l : Nat) (f : Link → Link) : (s.updLink l f).fop = s.fop := rfl
@[simp] theorem State.updLink_clk (s : State) (l : Nat) (f : Link → Link) : (s.updLink l f).clk = s.clk := rfl
@[simp] theorem State.updLink_time (s : State) (l : Nat) (f : Link → Link) : (s.updLink l f).time = s.time := rfl
@[simp] theorem State.updLink_aon (s : State) (l : Nat) (f : Link → Link) : (s.updLink l f).aon = s.aon := rfl
@[simp] theorem State.updLink_therm (s : State) (l : Nat) (f : Link → Link) : (s.updLink l f).therm = s.therm := rfl
@[simp] theorem State.updLink_calib (s : State) (l : Nat) (f : Link → Link) : (s.updLink l f).calib = s.calib := rfl
@[simp] theorem State.updLink_boot (s : State) (l : Nat) (f : Link → Link) : (s.updLink l f).boot = s.boot := rfl
@[simp] theorem State.updLink_update (s : State) (l : Nat) (f : Link → Link) : (s.updLink l f).update = s.update := rfl
@[simp] theorem State.updLink_recovery (s : State) (l : Nat) (f : Link → Link) : (s.updLink l f).recovery = s.recovery := rfl
@[simp] theorem State.updLink_jobs (s : State) (l : Nat) (f : Link → Link) : (s.updLink l f).jobs = s.jobs := rfl
@[simp] theorem State.updLink_msp (s : State) (l : Nat) (f : Link → Link) : (s.updLink l f).msp = s.msp := rfl
@[simp] theorem State.updLink_render (s : State) (l : Nat) (f : Link → Link) : (s.updLink l f).render = s.render := rfl
@[simp] theorem State.updLink_store (s : State) (l : Nat) (f : Link → Link) : (s.updLink l f).store = s.store := rfl
@[simp] theorem State.updLink_lanes (s : State) (l : Nat) (f : Link → Link) : (s.updLink l f).lanes = s.lanes := rfl
@[simp] theorem State.updLink_cmps (s : State) (l : Nat) (f : Link → Link) : (s.updLink l f).cmps = s.cmps := rfl
@[simp] theorem State.updLink_ports (s : State) (l : Nat) (f : Link → Link) : (s.updLink l f).ports = s.ports := rfl
@[simp] theorem State.updLink_pos (s : State) (l : Nat) (f : Link → Link) : (s.updLink l f).pos = s.pos := rfl
@[simp] theorem State.updLink_fire (s : State) (l : Nat) (f : Link → Link) : (s.updLink l f).fire = s.fire := rfl
@[simp] theorem State.updLink_motion (s : State) (l : Nat) (f : Link → Link) : (s.updLink l f).motion = s.motion := rfl
@[simp] theorem State.updLink_dram (s : State) (l : Nat) (f : Link → Link) : (s.updLink l f).dram = s.dram := rfl
@[simp] theorem State.updLink_integ (s : State) (l : Nat) (f : Link → Link) : (s.updLink l f).integ = s.integ := rfl
@[simp] theorem State.updLink_board (s : State) (l : Nat) (f : Link → Link) : (s.updLink l f).board = s.board := rfl
@[simp] theorem State.updLink_units (s : State) (l : Nat) (f : Link → Link) : (s.updLink l f).units = s.units := rfl
@[simp] theorem State.updLink_wire (s : State) (l : Nat) (f : Link → Link) : (s.updLink l f).wire = s.wire := rfl
@[simp] theorem State.updLink_tx (s : State) (l : Nat) (f : Link → Link) : (s.updLink l f).tx = s.tx := rfl
@[simp] theorem State.updLink_free (s : State) (l : Nat) (f : Link → Link) : (s.updLink l f).free = s.free := rfl
@[simp] theorem State.updLink_idle (s : State) (l : Nat) (f : Link → Link) : (s.updLink l f).idle = s.idle := rfl
@[simp] theorem State.updLink_pending (s : State) (l : Nat) (f : Link → Link) : (s.updLink l f).pending = s.pending := rfl

@[simp] theorem State.updPort_main (s : State) (n : Nat) (f : Port → Port) : (s.updPort n f).main = s.main := rfl
@[simp] theorem State.updPort_ev (s : State) (n : Nat) (f : Port → Port) : (s.updPort n f).ev = s.ev := rfl
@[simp] theorem State.updPort_mem (s : State) (n : Nat) (f : Port → Port) : (s.updPort n f).mem = s.mem := rfl
@[simp] theorem State.updPort_memBad (s : State) (n : Nat) (f : Port → Port) : (s.updPort n f).memBad = s.memBad := rfl
@[simp] theorem State.updPort_staging (s : State) (n : Nat) (f : Port → Port) : (s.updPort n f).staging = s.staging := rfl
@[simp] theorem State.updPort_flash (s : State) (n : Nat) (f : Port → Port) : (s.updPort n f).flash = s.flash := rfl
@[simp] theorem State.updPort_copyA (s : State) (n : Nat) (f : Port → Port) : (s.updPort n f).copyA = s.copyA := rfl
@[simp] theorem State.updPort_copyB (s : State) (n : Nat) (f : Port → Port) : (s.updPort n f).copyB = s.copyB := rfl
@[simp] theorem State.updPort_fop (s : State) (n : Nat) (f : Port → Port) : (s.updPort n f).fop = s.fop := rfl
@[simp] theorem State.updPort_clk (s : State) (n : Nat) (f : Port → Port) : (s.updPort n f).clk = s.clk := rfl
@[simp] theorem State.updPort_time (s : State) (n : Nat) (f : Port → Port) : (s.updPort n f).time = s.time := rfl
@[simp] theorem State.updPort_aon (s : State) (n : Nat) (f : Port → Port) : (s.updPort n f).aon = s.aon := rfl
@[simp] theorem State.updPort_therm (s : State) (n : Nat) (f : Port → Port) : (s.updPort n f).therm = s.therm := rfl
@[simp] theorem State.updPort_calib (s : State) (n : Nat) (f : Port → Port) : (s.updPort n f).calib = s.calib := rfl
@[simp] theorem State.updPort_boot (s : State) (n : Nat) (f : Port → Port) : (s.updPort n f).boot = s.boot := rfl
@[simp] theorem State.updPort_update (s : State) (n : Nat) (f : Port → Port) : (s.updPort n f).update = s.update := rfl
@[simp] theorem State.updPort_recovery (s : State) (n : Nat) (f : Port → Port) : (s.updPort n f).recovery = s.recovery := rfl
@[simp] theorem State.updPort_jobs (s : State) (n : Nat) (f : Port → Port) : (s.updPort n f).jobs = s.jobs := rfl
@[simp] theorem State.updPort_msp (s : State) (n : Nat) (f : Port → Port) : (s.updPort n f).msp = s.msp := rfl
@[simp] theorem State.updPort_render (s : State) (n : Nat) (f : Port → Port) : (s.updPort n f).render = s.render := rfl
@[simp] theorem State.updPort_store (s : State) (n : Nat) (f : Port → Port) : (s.updPort n f).store = s.store := rfl
@[simp] theorem State.updPort_lanes (s : State) (n : Nat) (f : Port → Port) : (s.updPort n f).lanes = s.lanes := rfl
@[simp] theorem State.updPort_cmps (s : State) (n : Nat) (f : Port → Port) : (s.updPort n f).cmps = s.cmps := rfl
@[simp] theorem State.updPort_links (s : State) (n : Nat) (f : Port → Port) : (s.updPort n f).links = s.links := rfl
@[simp] theorem State.updPort_pos (s : State) (n : Nat) (f : Port → Port) : (s.updPort n f).pos = s.pos := rfl
@[simp] theorem State.updPort_fire (s : State) (n : Nat) (f : Port → Port) : (s.updPort n f).fire = s.fire := rfl
@[simp] theorem State.updPort_motion (s : State) (n : Nat) (f : Port → Port) : (s.updPort n f).motion = s.motion := rfl
@[simp] theorem State.updPort_dram (s : State) (n : Nat) (f : Port → Port) : (s.updPort n f).dram = s.dram := rfl
@[simp] theorem State.updPort_integ (s : State) (n : Nat) (f : Port → Port) : (s.updPort n f).integ = s.integ := rfl
@[simp] theorem State.updPort_board (s : State) (n : Nat) (f : Port → Port) : (s.updPort n f).board = s.board := rfl
@[simp] theorem State.updPort_units (s : State) (n : Nat) (f : Port → Port) : (s.updPort n f).units = s.units := rfl
@[simp] theorem State.updPort_wire (s : State) (n : Nat) (f : Port → Port) : (s.updPort n f).wire = s.wire := rfl
@[simp] theorem State.updPort_tx (s : State) (n : Nat) (f : Port → Port) : (s.updPort n f).tx = s.tx := rfl
@[simp] theorem State.updPort_free (s : State) (n : Nat) (f : Port → Port) : (s.updPort n f).free = s.free := rfl
@[simp] theorem State.updPort_idle (s : State) (n : Nat) (f : Port → Port) : (s.updPort n f).idle = s.idle := rfl
@[simp] theorem State.updPort_pending (s : State) (n : Nat) (f : Port → Port) : (s.updPort n f).pending = s.pending := rfl

@[simp] theorem State.updAxis_main (s : State) (a : Nat) (f : Axis → Axis) : (s.updAxis a f).main = s.main := rfl
@[simp] theorem State.updAxis_ev (s : State) (a : Nat) (f : Axis → Axis) : (s.updAxis a f).ev = s.ev := rfl
@[simp] theorem State.updAxis_mem (s : State) (a : Nat) (f : Axis → Axis) : (s.updAxis a f).mem = s.mem := rfl
@[simp] theorem State.updAxis_memBad (s : State) (a : Nat) (f : Axis → Axis) : (s.updAxis a f).memBad = s.memBad := rfl
@[simp] theorem State.updAxis_staging (s : State) (a : Nat) (f : Axis → Axis) : (s.updAxis a f).staging = s.staging := rfl
@[simp] theorem State.updAxis_flash (s : State) (a : Nat) (f : Axis → Axis) : (s.updAxis a f).flash = s.flash := rfl
@[simp] theorem State.updAxis_copyA (s : State) (a : Nat) (f : Axis → Axis) : (s.updAxis a f).copyA = s.copyA := rfl
@[simp] theorem State.updAxis_copyB (s : State) (a : Nat) (f : Axis → Axis) : (s.updAxis a f).copyB = s.copyB := rfl
@[simp] theorem State.updAxis_fop (s : State) (a : Nat) (f : Axis → Axis) : (s.updAxis a f).fop = s.fop := rfl
@[simp] theorem State.updAxis_clk (s : State) (a : Nat) (f : Axis → Axis) : (s.updAxis a f).clk = s.clk := rfl
@[simp] theorem State.updAxis_time (s : State) (a : Nat) (f : Axis → Axis) : (s.updAxis a f).time = s.time := rfl
@[simp] theorem State.updAxis_aon (s : State) (a : Nat) (f : Axis → Axis) : (s.updAxis a f).aon = s.aon := rfl
@[simp] theorem State.updAxis_therm (s : State) (a : Nat) (f : Axis → Axis) : (s.updAxis a f).therm = s.therm := rfl
@[simp] theorem State.updAxis_calib (s : State) (a : Nat) (f : Axis → Axis) : (s.updAxis a f).calib = s.calib := rfl
@[simp] theorem State.updAxis_boot (s : State) (a : Nat) (f : Axis → Axis) : (s.updAxis a f).boot = s.boot := rfl
@[simp] theorem State.updAxis_update (s : State) (a : Nat) (f : Axis → Axis) : (s.updAxis a f).update = s.update := rfl
@[simp] theorem State.updAxis_recovery (s : State) (a : Nat) (f : Axis → Axis) : (s.updAxis a f).recovery = s.recovery := rfl
@[simp] theorem State.updAxis_jobs (s : State) (a : Nat) (f : Axis → Axis) : (s.updAxis a f).jobs = s.jobs := rfl
@[simp] theorem State.updAxis_msp (s : State) (a : Nat) (f : Axis → Axis) : (s.updAxis a f).msp = s.msp := rfl
@[simp] theorem State.updAxis_render (s : State) (a : Nat) (f : Axis → Axis) : (s.updAxis a f).render = s.render := rfl
@[simp] theorem State.updAxis_store (s : State) (a : Nat) (f : Axis → Axis) : (s.updAxis a f).store = s.store := rfl
@[simp] theorem State.updAxis_lanes (s : State) (a : Nat) (f : Axis → Axis) : (s.updAxis a f).lanes = s.lanes := rfl
@[simp] theorem State.updAxis_cmps (s : State) (a : Nat) (f : Axis → Axis) : (s.updAxis a f).cmps = s.cmps := rfl
@[simp] theorem State.updAxis_links (s : State) (a : Nat) (f : Axis → Axis) : (s.updAxis a f).links = s.links := rfl
@[simp] theorem State.updAxis_ports (s : State) (a : Nat) (f : Axis → Axis) : (s.updAxis a f).ports = s.ports := rfl
@[simp] theorem State.updAxis_pos (s : State) (a : Nat) (f : Axis → Axis) : (s.updAxis a f).pos = s.pos := rfl
@[simp] theorem State.updAxis_fire (s : State) (a : Nat) (f : Axis → Axis) : (s.updAxis a f).fire = s.fire := rfl
@[simp] theorem State.updAxis_dram (s : State) (a : Nat) (f : Axis → Axis) : (s.updAxis a f).dram = s.dram := rfl
@[simp] theorem State.updAxis_integ (s : State) (a : Nat) (f : Axis → Axis) : (s.updAxis a f).integ = s.integ := rfl
@[simp] theorem State.updAxis_board (s : State) (a : Nat) (f : Axis → Axis) : (s.updAxis a f).board = s.board := rfl
@[simp] theorem State.updAxis_units (s : State) (a : Nat) (f : Axis → Axis) : (s.updAxis a f).units = s.units := rfl
@[simp] theorem State.updAxis_wire (s : State) (a : Nat) (f : Axis → Axis) : (s.updAxis a f).wire = s.wire := rfl
@[simp] theorem State.updAxis_tx (s : State) (a : Nat) (f : Axis → Axis) : (s.updAxis a f).tx = s.tx := rfl
@[simp] theorem State.updAxis_free (s : State) (a : Nat) (f : Axis → Axis) : (s.updAxis a f).free = s.free := rfl
@[simp] theorem State.updAxis_idle (s : State) (a : Nat) (f : Axis → Axis) : (s.updAxis a f).idle = s.idle := rfl
@[simp] theorem State.updAxis_pending (s : State) (a : Nat) (f : Axis → Axis) : (s.updAxis a f).pending = s.pending := rfl

@[simp] theorem State.updJob_main (s : State) (i : Nat) (f : Job → Job) : (s.updJob i f).main = s.main := rfl
@[simp] theorem State.updJob_ev (s : State) (i : Nat) (f : Job → Job) : (s.updJob i f).ev = s.ev := rfl
@[simp] theorem State.updJob_mem (s : State) (i : Nat) (f : Job → Job) : (s.updJob i f).mem = s.mem := rfl
@[simp] theorem State.updJob_memBad (s : State) (i : Nat) (f : Job → Job) : (s.updJob i f).memBad = s.memBad := rfl
@[simp] theorem State.updJob_staging (s : State) (i : Nat) (f : Job → Job) : (s.updJob i f).staging = s.staging := rfl
@[simp] theorem State.updJob_flash (s : State) (i : Nat) (f : Job → Job) : (s.updJob i f).flash = s.flash := rfl
@[simp] theorem State.updJob_copyA (s : State) (i : Nat) (f : Job → Job) : (s.updJob i f).copyA = s.copyA := rfl
@[simp] theorem State.updJob_copyB (s : State) (i : Nat) (f : Job → Job) : (s.updJob i f).copyB = s.copyB := rfl
@[simp] theorem State.updJob_fop (s : State) (i : Nat) (f : Job → Job) : (s.updJob i f).fop = s.fop := rfl
@[simp] theorem State.updJob_clk (s : State) (i : Nat) (f : Job → Job) : (s.updJob i f).clk = s.clk := rfl
@[simp] theorem State.updJob_time (s : State) (i : Nat) (f : Job → Job) : (s.updJob i f).time = s.time := rfl
@[simp] theorem State.updJob_aon (s : State) (i : Nat) (f : Job → Job) : (s.updJob i f).aon = s.aon := rfl
@[simp] theorem State.updJob_therm (s : State) (i : Nat) (f : Job → Job) : (s.updJob i f).therm = s.therm := rfl
@[simp] theorem State.updJob_calib (s : State) (i : Nat) (f : Job → Job) : (s.updJob i f).calib = s.calib := rfl
@[simp] theorem State.updJob_boot (s : State) (i : Nat) (f : Job → Job) : (s.updJob i f).boot = s.boot := rfl
@[simp] theorem State.updJob_update (s : State) (i : Nat) (f : Job → Job) : (s.updJob i f).update = s.update := rfl
@[simp] theorem State.updJob_recovery (s : State) (i : Nat) (f : Job → Job) : (s.updJob i f).recovery = s.recovery := rfl
@[simp] theorem State.updJob_jobs (s : State) (i : Nat) (f : Job → Job) : (s.updJob i f).jobs = s.jobs := rfl
@[simp] theorem State.updJob_msp (s : State) (i : Nat) (f : Job → Job) : (s.updJob i f).msp = s.msp := rfl
@[simp] theorem State.updJob_store (s : State) (i : Nat) (f : Job → Job) : (s.updJob i f).store = s.store := rfl
@[simp] theorem State.updJob_lanes (s : State) (i : Nat) (f : Job → Job) : (s.updJob i f).lanes = s.lanes := rfl
@[simp] theorem State.updJob_cmps (s : State) (i : Nat) (f : Job → Job) : (s.updJob i f).cmps = s.cmps := rfl
@[simp] theorem State.updJob_links (s : State) (i : Nat) (f : Job → Job) : (s.updJob i f).links = s.links := rfl
@[simp] theorem State.updJob_ports (s : State) (i : Nat) (f : Job → Job) : (s.updJob i f).ports = s.ports := rfl
@[simp] theorem State.updJob_pos (s : State) (i : Nat) (f : Job → Job) : (s.updJob i f).pos = s.pos := rfl
@[simp] theorem State.updJob_fire (s : State) (i : Nat) (f : Job → Job) : (s.updJob i f).fire = s.fire := rfl
@[simp] theorem State.updJob_motion (s : State) (i : Nat) (f : Job → Job) : (s.updJob i f).motion = s.motion := rfl
@[simp] theorem State.updJob_dram (s : State) (i : Nat) (f : Job → Job) : (s.updJob i f).dram = s.dram := rfl
@[simp] theorem State.updJob_integ (s : State) (i : Nat) (f : Job → Job) : (s.updJob i f).integ = s.integ := rfl
@[simp] theorem State.updJob_board (s : State) (i : Nat) (f : Job → Job) : (s.updJob i f).board = s.board := rfl
@[simp] theorem State.updJob_units (s : State) (i : Nat) (f : Job → Job) : (s.updJob i f).units = s.units := rfl
@[simp] theorem State.updJob_wire (s : State) (i : Nat) (f : Job → Job) : (s.updJob i f).wire = s.wire := rfl
@[simp] theorem State.updJob_tx (s : State) (i : Nat) (f : Job → Job) : (s.updJob i f).tx = s.tx := rfl
@[simp] theorem State.updJob_free (s : State) (i : Nat) (f : Job → Job) : (s.updJob i f).free = s.free := rfl
@[simp] theorem State.updJob_idle (s : State) (i : Nat) (f : Job → Job) : (s.updJob i f).idle = s.idle := rfl
@[simp] theorem State.updJob_pending (s : State) (i : Nat) (f : Job → Job) : (s.updJob i f).pending = s.pending := rfl

@[simp] theorem State.updSub_main (s : State) (i : Nat) (f : Sub → Sub) : (s.updSub i f).main = s.main := rfl
@[simp] theorem State.updSub_ev (s : State) (i : Nat) (f : Sub → Sub) : (s.updSub i f).ev = s.ev := rfl
@[simp] theorem State.updSub_mem (s : State) (i : Nat) (f : Sub → Sub) : (s.updSub i f).mem = s.mem := rfl
@[simp] theorem State.updSub_memBad (s : State) (i : Nat) (f : Sub → Sub) : (s.updSub i f).memBad = s.memBad := rfl
@[simp] theorem State.updSub_staging (s : State) (i : Nat) (f : Sub → Sub) : (s.updSub i f).staging = s.staging := rfl
@[simp] theorem State.updSub_flash (s : State) (i : Nat) (f : Sub → Sub) : (s.updSub i f).flash = s.flash := rfl
@[simp] theorem State.updSub_copyA (s : State) (i : Nat) (f : Sub → Sub) : (s.updSub i f).copyA = s.copyA := rfl
@[simp] theorem State.updSub_copyB (s : State) (i : Nat) (f : Sub → Sub) : (s.updSub i f).copyB = s.copyB := rfl
@[simp] theorem State.updSub_fop (s : State) (i : Nat) (f : Sub → Sub) : (s.updSub i f).fop = s.fop := rfl
@[simp] theorem State.updSub_clk (s : State) (i : Nat) (f : Sub → Sub) : (s.updSub i f).clk = s.clk := rfl
@[simp] theorem State.updSub_time (s : State) (i : Nat) (f : Sub → Sub) : (s.updSub i f).time = s.time := rfl
@[simp] theorem State.updSub_aon (s : State) (i : Nat) (f : Sub → Sub) : (s.updSub i f).aon = s.aon := rfl
@[simp] theorem State.updSub_therm (s : State) (i : Nat) (f : Sub → Sub) : (s.updSub i f).therm = s.therm := rfl
@[simp] theorem State.updSub_calib (s : State) (i : Nat) (f : Sub → Sub) : (s.updSub i f).calib = s.calib := rfl
@[simp] theorem State.updSub_boot (s : State) (i : Nat) (f : Sub → Sub) : (s.updSub i f).boot = s.boot := rfl
@[simp] theorem State.updSub_update (s : State) (i : Nat) (f : Sub → Sub) : (s.updSub i f).update = s.update := rfl
@[simp] theorem State.updSub_recovery (s : State) (i : Nat) (f : Sub → Sub) : (s.updSub i f).recovery = s.recovery := rfl
@[simp] theorem State.updSub_jobs (s : State) (i : Nat) (f : Sub → Sub) : (s.updSub i f).jobs = s.jobs := rfl
@[simp] theorem State.updSub_msp (s : State) (i : Nat) (f : Sub → Sub) : (s.updSub i f).msp = s.msp := rfl
@[simp] theorem State.updSub_render (s : State) (i : Nat) (f : Sub → Sub) : (s.updSub i f).render = s.render := rfl
@[simp] theorem State.updSub_store (s : State) (i : Nat) (f : Sub → Sub) : (s.updSub i f).store = s.store := rfl
@[simp] theorem State.updSub_lanes (s : State) (i : Nat) (f : Sub → Sub) : (s.updSub i f).lanes = s.lanes := rfl
@[simp] theorem State.updSub_cmps (s : State) (i : Nat) (f : Sub → Sub) : (s.updSub i f).cmps = s.cmps := rfl
@[simp] theorem State.updSub_links (s : State) (i : Nat) (f : Sub → Sub) : (s.updSub i f).links = s.links := rfl
@[simp] theorem State.updSub_ports (s : State) (i : Nat) (f : Sub → Sub) : (s.updSub i f).ports = s.ports := rfl
@[simp] theorem State.updSub_pos (s : State) (i : Nat) (f : Sub → Sub) : (s.updSub i f).pos = s.pos := rfl
@[simp] theorem State.updSub_fire (s : State) (i : Nat) (f : Sub → Sub) : (s.updSub i f).fire = s.fire := rfl
@[simp] theorem State.updSub_motion (s : State) (i : Nat) (f : Sub → Sub) : (s.updSub i f).motion = s.motion := rfl
@[simp] theorem State.updSub_integ (s : State) (i : Nat) (f : Sub → Sub) : (s.updSub i f).integ = s.integ := rfl
@[simp] theorem State.updSub_board (s : State) (i : Nat) (f : Sub → Sub) : (s.updSub i f).board = s.board := rfl
@[simp] theorem State.updSub_units (s : State) (i : Nat) (f : Sub → Sub) : (s.updSub i f).units = s.units := rfl
@[simp] theorem State.updSub_wire (s : State) (i : Nat) (f : Sub → Sub) : (s.updSub i f).wire = s.wire := rfl
@[simp] theorem State.updSub_tx (s : State) (i : Nat) (f : Sub → Sub) : (s.updSub i f).tx = s.tx := rfl
@[simp] theorem State.updSub_free (s : State) (i : Nat) (f : Sub → Sub) : (s.updSub i f).free = s.free := rfl
@[simp] theorem State.updSub_idle (s : State) (i : Nat) (f : Sub → Sub) : (s.updSub i f).idle = s.idle := rfl
@[simp] theorem State.updSub_pending (s : State) (i : Nat) (f : Sub → Sub) : (s.updSub i f).pending = s.pending := rfl

@[simp] theorem State.updCalib_main (s : State) (u : Nat) (f : Calib → Calib) : (s.updCalib u f).main = s.main := rfl
@[simp] theorem State.updCalib_ev (s : State) (u : Nat) (f : Calib → Calib) : (s.updCalib u f).ev = s.ev := rfl
@[simp] theorem State.updCalib_mem (s : State) (u : Nat) (f : Calib → Calib) : (s.updCalib u f).mem = s.mem := rfl
@[simp] theorem State.updCalib_memBad (s : State) (u : Nat) (f : Calib → Calib) : (s.updCalib u f).memBad = s.memBad := rfl
@[simp] theorem State.updCalib_staging (s : State) (u : Nat) (f : Calib → Calib) : (s.updCalib u f).staging = s.staging := rfl
@[simp] theorem State.updCalib_flash (s : State) (u : Nat) (f : Calib → Calib) : (s.updCalib u f).flash = s.flash := rfl
@[simp] theorem State.updCalib_copyA (s : State) (u : Nat) (f : Calib → Calib) : (s.updCalib u f).copyA = s.copyA := rfl
@[simp] theorem State.updCalib_copyB (s : State) (u : Nat) (f : Calib → Calib) : (s.updCalib u f).copyB = s.copyB := rfl
@[simp] theorem State.updCalib_fop (s : State) (u : Nat) (f : Calib → Calib) : (s.updCalib u f).fop = s.fop := rfl
@[simp] theorem State.updCalib_clk (s : State) (u : Nat) (f : Calib → Calib) : (s.updCalib u f).clk = s.clk := rfl
@[simp] theorem State.updCalib_time (s : State) (u : Nat) (f : Calib → Calib) : (s.updCalib u f).time = s.time := rfl
@[simp] theorem State.updCalib_aon (s : State) (u : Nat) (f : Calib → Calib) : (s.updCalib u f).aon = s.aon := rfl
@[simp] theorem State.updCalib_therm (s : State) (u : Nat) (f : Calib → Calib) : (s.updCalib u f).therm = s.therm := rfl
@[simp] theorem State.updCalib_boot (s : State) (u : Nat) (f : Calib → Calib) : (s.updCalib u f).boot = s.boot := rfl
@[simp] theorem State.updCalib_update (s : State) (u : Nat) (f : Calib → Calib) : (s.updCalib u f).update = s.update := rfl
@[simp] theorem State.updCalib_recovery (s : State) (u : Nat) (f : Calib → Calib) : (s.updCalib u f).recovery = s.recovery := rfl
@[simp] theorem State.updCalib_jobs (s : State) (u : Nat) (f : Calib → Calib) : (s.updCalib u f).jobs = s.jobs := rfl
@[simp] theorem State.updCalib_msp (s : State) (u : Nat) (f : Calib → Calib) : (s.updCalib u f).msp = s.msp := rfl
@[simp] theorem State.updCalib_render (s : State) (u : Nat) (f : Calib → Calib) : (s.updCalib u f).render = s.render := rfl
@[simp] theorem State.updCalib_store (s : State) (u : Nat) (f : Calib → Calib) : (s.updCalib u f).store = s.store := rfl
@[simp] theorem State.updCalib_lanes (s : State) (u : Nat) (f : Calib → Calib) : (s.updCalib u f).lanes = s.lanes := rfl
@[simp] theorem State.updCalib_cmps (s : State) (u : Nat) (f : Calib → Calib) : (s.updCalib u f).cmps = s.cmps := rfl
@[simp] theorem State.updCalib_links (s : State) (u : Nat) (f : Calib → Calib) : (s.updCalib u f).links = s.links := rfl
@[simp] theorem State.updCalib_ports (s : State) (u : Nat) (f : Calib → Calib) : (s.updCalib u f).ports = s.ports := rfl
@[simp] theorem State.updCalib_pos (s : State) (u : Nat) (f : Calib → Calib) : (s.updCalib u f).pos = s.pos := rfl
@[simp] theorem State.updCalib_fire (s : State) (u : Nat) (f : Calib → Calib) : (s.updCalib u f).fire = s.fire := rfl
@[simp] theorem State.updCalib_motion (s : State) (u : Nat) (f : Calib → Calib) : (s.updCalib u f).motion = s.motion := rfl
@[simp] theorem State.updCalib_dram (s : State) (u : Nat) (f : Calib → Calib) : (s.updCalib u f).dram = s.dram := rfl
@[simp] theorem State.updCalib_integ (s : State) (u : Nat) (f : Calib → Calib) : (s.updCalib u f).integ = s.integ := rfl
@[simp] theorem State.updCalib_board (s : State) (u : Nat) (f : Calib → Calib) : (s.updCalib u f).board = s.board := rfl
@[simp] theorem State.updCalib_units (s : State) (u : Nat) (f : Calib → Calib) : (s.updCalib u f).units = s.units := rfl
@[simp] theorem State.updCalib_wire (s : State) (u : Nat) (f : Calib → Calib) : (s.updCalib u f).wire = s.wire := rfl
@[simp] theorem State.updCalib_tx (s : State) (u : Nat) (f : Calib → Calib) : (s.updCalib u f).tx = s.tx := rfl
@[simp] theorem State.updCalib_free (s : State) (u : Nat) (f : Calib → Calib) : (s.updCalib u f).free = s.free := rfl
@[simp] theorem State.updCalib_idle (s : State) (u : Nat) (f : Calib → Calib) : (s.updCalib u f).idle = s.idle := rfl
@[simp] theorem State.updCalib_pending (s : State) (u : Nat) (f : Calib → Calib) : (s.updCalib u f).pending = s.pending := rfl

@[simp] theorem State.updDom_main (s : State) (b : Nat) (f : Dom → Dom) : (s.updDom b f).main = s.main := rfl
@[simp] theorem State.updDom_ev (s : State) (b : Nat) (f : Dom → Dom) : (s.updDom b f).ev = s.ev := rfl
@[simp] theorem State.updDom_mem (s : State) (b : Nat) (f : Dom → Dom) : (s.updDom b f).mem = s.mem := rfl
@[simp] theorem State.updDom_memBad (s : State) (b : Nat) (f : Dom → Dom) : (s.updDom b f).memBad = s.memBad := rfl
@[simp] theorem State.updDom_staging (s : State) (b : Nat) (f : Dom → Dom) : (s.updDom b f).staging = s.staging := rfl
@[simp] theorem State.updDom_flash (s : State) (b : Nat) (f : Dom → Dom) : (s.updDom b f).flash = s.flash := rfl
@[simp] theorem State.updDom_copyA (s : State) (b : Nat) (f : Dom → Dom) : (s.updDom b f).copyA = s.copyA := rfl
@[simp] theorem State.updDom_copyB (s : State) (b : Nat) (f : Dom → Dom) : (s.updDom b f).copyB = s.copyB := rfl
@[simp] theorem State.updDom_fop (s : State) (b : Nat) (f : Dom → Dom) : (s.updDom b f).fop = s.fop := rfl
@[simp] theorem State.updDom_clk (s : State) (b : Nat) (f : Dom → Dom) : (s.updDom b f).clk = s.clk := rfl
@[simp] theorem State.updDom_aon (s : State) (b : Nat) (f : Dom → Dom) : (s.updDom b f).aon = s.aon := rfl
@[simp] theorem State.updDom_therm (s : State) (b : Nat) (f : Dom → Dom) : (s.updDom b f).therm = s.therm := rfl
@[simp] theorem State.updDom_calib (s : State) (b : Nat) (f : Dom → Dom) : (s.updDom b f).calib = s.calib := rfl
@[simp] theorem State.updDom_boot (s : State) (b : Nat) (f : Dom → Dom) : (s.updDom b f).boot = s.boot := rfl
@[simp] theorem State.updDom_update (s : State) (b : Nat) (f : Dom → Dom) : (s.updDom b f).update = s.update := rfl
@[simp] theorem State.updDom_recovery (s : State) (b : Nat) (f : Dom → Dom) : (s.updDom b f).recovery = s.recovery := rfl
@[simp] theorem State.updDom_jobs (s : State) (b : Nat) (f : Dom → Dom) : (s.updDom b f).jobs = s.jobs := rfl
@[simp] theorem State.updDom_msp (s : State) (b : Nat) (f : Dom → Dom) : (s.updDom b f).msp = s.msp := rfl
@[simp] theorem State.updDom_render (s : State) (b : Nat) (f : Dom → Dom) : (s.updDom b f).render = s.render := rfl
@[simp] theorem State.updDom_store (s : State) (b : Nat) (f : Dom → Dom) : (s.updDom b f).store = s.store := rfl
@[simp] theorem State.updDom_lanes (s : State) (b : Nat) (f : Dom → Dom) : (s.updDom b f).lanes = s.lanes := rfl
@[simp] theorem State.updDom_cmps (s : State) (b : Nat) (f : Dom → Dom) : (s.updDom b f).cmps = s.cmps := rfl
@[simp] theorem State.updDom_links (s : State) (b : Nat) (f : Dom → Dom) : (s.updDom b f).links = s.links := rfl
@[simp] theorem State.updDom_ports (s : State) (b : Nat) (f : Dom → Dom) : (s.updDom b f).ports = s.ports := rfl
@[simp] theorem State.updDom_pos (s : State) (b : Nat) (f : Dom → Dom) : (s.updDom b f).pos = s.pos := rfl
@[simp] theorem State.updDom_fire (s : State) (b : Nat) (f : Dom → Dom) : (s.updDom b f).fire = s.fire := rfl
@[simp] theorem State.updDom_motion (s : State) (b : Nat) (f : Dom → Dom) : (s.updDom b f).motion = s.motion := rfl
@[simp] theorem State.updDom_dram (s : State) (b : Nat) (f : Dom → Dom) : (s.updDom b f).dram = s.dram := rfl
@[simp] theorem State.updDom_integ (s : State) (b : Nat) (f : Dom → Dom) : (s.updDom b f).integ = s.integ := rfl
@[simp] theorem State.updDom_board (s : State) (b : Nat) (f : Dom → Dom) : (s.updDom b f).board = s.board := rfl
@[simp] theorem State.updDom_units (s : State) (b : Nat) (f : Dom → Dom) : (s.updDom b f).units = s.units := rfl
@[simp] theorem State.updDom_wire (s : State) (b : Nat) (f : Dom → Dom) : (s.updDom b f).wire = s.wire := rfl
@[simp] theorem State.updDom_tx (s : State) (b : Nat) (f : Dom → Dom) : (s.updDom b f).tx = s.tx := rfl
@[simp] theorem State.updDom_free (s : State) (b : Nat) (f : Dom → Dom) : (s.updDom b f).free = s.free := rfl
@[simp] theorem State.updDom_idle (s : State) (b : Nat) (f : Dom → Dom) : (s.updDom b f).idle = s.idle := rfl
@[simp] theorem State.updDom_pending (s : State) (b : Nat) (f : Dom → Dom) : (s.updDom b f).pending = s.pending := rfl

@[simp] theorem State.setCur_main (s : State) (n : Nat) (c : Option DmaCur) : (s.setCur n c).main = s.main := rfl
@[simp] theorem State.setCur_ev (s : State) (n : Nat) (c : Option DmaCur) : (s.setCur n c).ev = s.ev := rfl
@[simp] theorem State.setCur_mem (s : State) (n : Nat) (c : Option DmaCur) : (s.setCur n c).mem = s.mem := rfl
@[simp] theorem State.setCur_memBad (s : State) (n : Nat) (c : Option DmaCur) : (s.setCur n c).memBad = s.memBad := rfl
@[simp] theorem State.setCur_staging (s : State) (n : Nat) (c : Option DmaCur) : (s.setCur n c).staging = s.staging := rfl
@[simp] theorem State.setCur_flash (s : State) (n : Nat) (c : Option DmaCur) : (s.setCur n c).flash = s.flash := rfl
@[simp] theorem State.setCur_copyA (s : State) (n : Nat) (c : Option DmaCur) : (s.setCur n c).copyA = s.copyA := rfl
@[simp] theorem State.setCur_copyB (s : State) (n : Nat) (c : Option DmaCur) : (s.setCur n c).copyB = s.copyB := rfl
@[simp] theorem State.setCur_fop (s : State) (n : Nat) (c : Option DmaCur) : (s.setCur n c).fop = s.fop := rfl
@[simp] theorem State.setCur_clk (s : State) (n : Nat) (c : Option DmaCur) : (s.setCur n c).clk = s.clk := rfl
@[simp] theorem State.setCur_time (s : State) (n : Nat) (c : Option DmaCur) : (s.setCur n c).time = s.time := rfl
@[simp] theorem State.setCur_aon (s : State) (n : Nat) (c : Option DmaCur) : (s.setCur n c).aon = s.aon := rfl
@[simp] theorem State.setCur_therm (s : State) (n : Nat) (c : Option DmaCur) : (s.setCur n c).therm = s.therm := rfl
@[simp] theorem State.setCur_calib (s : State) (n : Nat) (c : Option DmaCur) : (s.setCur n c).calib = s.calib := rfl
@[simp] theorem State.setCur_boot (s : State) (n : Nat) (c : Option DmaCur) : (s.setCur n c).boot = s.boot := rfl
@[simp] theorem State.setCur_update (s : State) (n : Nat) (c : Option DmaCur) : (s.setCur n c).update = s.update := rfl
@[simp] theorem State.setCur_recovery (s : State) (n : Nat) (c : Option DmaCur) : (s.setCur n c).recovery = s.recovery := rfl
@[simp] theorem State.setCur_jobs (s : State) (n : Nat) (c : Option DmaCur) : (s.setCur n c).jobs = s.jobs := rfl
@[simp] theorem State.setCur_msp (s : State) (n : Nat) (c : Option DmaCur) : (s.setCur n c).msp = s.msp := rfl
@[simp] theorem State.setCur_render (s : State) (n : Nat) (c : Option DmaCur) : (s.setCur n c).render = s.render := rfl
@[simp] theorem State.setCur_store (s : State) (n : Nat) (c : Option DmaCur) : (s.setCur n c).store = s.store := rfl
@[simp] theorem State.setCur_lanes (s : State) (n : Nat) (c : Option DmaCur) : (s.setCur n c).lanes = s.lanes := rfl
@[simp] theorem State.setCur_cmps (s : State) (n : Nat) (c : Option DmaCur) : (s.setCur n c).cmps = s.cmps := rfl
@[simp] theorem State.setCur_links (s : State) (n : Nat) (c : Option DmaCur) : (s.setCur n c).links = s.links := rfl
@[simp] theorem State.setCur_ports (s : State) (n : Nat) (c : Option DmaCur) : (s.setCur n c).ports = s.ports := rfl
@[simp] theorem State.setCur_pos (s : State) (n : Nat) (c : Option DmaCur) : (s.setCur n c).pos = s.pos := rfl
@[simp] theorem State.setCur_fire (s : State) (n : Nat) (c : Option DmaCur) : (s.setCur n c).fire = s.fire := rfl
@[simp] theorem State.setCur_motion (s : State) (n : Nat) (c : Option DmaCur) : (s.setCur n c).motion = s.motion := rfl
@[simp] theorem State.setCur_dram (s : State) (n : Nat) (c : Option DmaCur) : (s.setCur n c).dram = s.dram := rfl
@[simp] theorem State.setCur_board (s : State) (n : Nat) (c : Option DmaCur) : (s.setCur n c).board = s.board := rfl
@[simp] theorem State.setCur_units (s : State) (n : Nat) (c : Option DmaCur) : (s.setCur n c).units = s.units := rfl
@[simp] theorem State.setCur_wire (s : State) (n : Nat) (c : Option DmaCur) : (s.setCur n c).wire = s.wire := rfl
@[simp] theorem State.setCur_tx (s : State) (n : Nat) (c : Option DmaCur) : (s.setCur n c).tx = s.tx := rfl
@[simp] theorem State.setCur_free (s : State) (n : Nat) (c : Option DmaCur) : (s.setCur n c).free = s.free := rfl
@[simp] theorem State.setCur_idle (s : State) (n : Nat) (c : Option DmaCur) : (s.setCur n c).idle = s.idle := rfl
@[simp] theorem State.setCur_pending (s : State) (n : Nat) (c : Option DmaCur) : (s.setCur n c).pending = s.pending := rfl

@[simp] theorem State.updObj_main (s : State) (ns id : Nat) (f : StashObj → StashObj) : (s.updObj ns id f).main = s.main := rfl
@[simp] theorem State.updObj_ev (s : State) (ns id : Nat) (f : StashObj → StashObj) : (s.updObj ns id f).ev = s.ev := rfl
@[simp] theorem State.updObj_mem (s : State) (ns id : Nat) (f : StashObj → StashObj) : (s.updObj ns id f).mem = s.mem := rfl
@[simp] theorem State.updObj_memBad (s : State) (ns id : Nat) (f : StashObj → StashObj) : (s.updObj ns id f).memBad = s.memBad := rfl
@[simp] theorem State.updObj_staging (s : State) (ns id : Nat) (f : StashObj → StashObj) : (s.updObj ns id f).staging = s.staging := rfl
@[simp] theorem State.updObj_flash (s : State) (ns id : Nat) (f : StashObj → StashObj) : (s.updObj ns id f).flash = s.flash := rfl
@[simp] theorem State.updObj_copyA (s : State) (ns id : Nat) (f : StashObj → StashObj) : (s.updObj ns id f).copyA = s.copyA := rfl
@[simp] theorem State.updObj_copyB (s : State) (ns id : Nat) (f : StashObj → StashObj) : (s.updObj ns id f).copyB = s.copyB := rfl
@[simp] theorem State.updObj_fop (s : State) (ns id : Nat) (f : StashObj → StashObj) : (s.updObj ns id f).fop = s.fop := rfl
@[simp] theorem State.updObj_clk (s : State) (ns id : Nat) (f : StashObj → StashObj) : (s.updObj ns id f).clk = s.clk := rfl
@[simp] theorem State.updObj_time (s : State) (ns id : Nat) (f : StashObj → StashObj) : (s.updObj ns id f).time = s.time := rfl
@[simp] theorem State.updObj_aon (s : State) (ns id : Nat) (f : StashObj → StashObj) : (s.updObj ns id f).aon = s.aon := rfl
@[simp] theorem State.updObj_therm (s : State) (ns id : Nat) (f : StashObj → StashObj) : (s.updObj ns id f).therm = s.therm := rfl
@[simp] theorem State.updObj_calib (s : State) (ns id : Nat) (f : StashObj → StashObj) : (s.updObj ns id f).calib = s.calib := rfl
@[simp] theorem State.updObj_boot (s : State) (ns id : Nat) (f : StashObj → StashObj) : (s.updObj ns id f).boot = s.boot := rfl
@[simp] theorem State.updObj_update (s : State) (ns id : Nat) (f : StashObj → StashObj) : (s.updObj ns id f).update = s.update := rfl
@[simp] theorem State.updObj_recovery (s : State) (ns id : Nat) (f : StashObj → StashObj) : (s.updObj ns id f).recovery = s.recovery := rfl
@[simp] theorem State.updObj_msp (s : State) (ns id : Nat) (f : StashObj → StashObj) : (s.updObj ns id f).msp = s.msp := rfl
@[simp] theorem State.updObj_render (s : State) (ns id : Nat) (f : StashObj → StashObj) : (s.updObj ns id f).render = s.render := rfl
@[simp] theorem State.updObj_store (s : State) (ns id : Nat) (f : StashObj → StashObj) : (s.updObj ns id f).store = s.store := rfl
@[simp] theorem State.updObj_lanes (s : State) (ns id : Nat) (f : StashObj → StashObj) : (s.updObj ns id f).lanes = s.lanes := rfl
@[simp] theorem State.updObj_cmps (s : State) (ns id : Nat) (f : StashObj → StashObj) : (s.updObj ns id f).cmps = s.cmps := rfl
@[simp] theorem State.updObj_links (s : State) (ns id : Nat) (f : StashObj → StashObj) : (s.updObj ns id f).links = s.links := rfl
@[simp] theorem State.updObj_ports (s : State) (ns id : Nat) (f : StashObj → StashObj) : (s.updObj ns id f).ports = s.ports := rfl
@[simp] theorem State.updObj_pos (s : State) (ns id : Nat) (f : StashObj → StashObj) : (s.updObj ns id f).pos = s.pos := rfl
@[simp] theorem State.updObj_fire (s : State) (ns id : Nat) (f : StashObj → StashObj) : (s.updObj ns id f).fire = s.fire := rfl
@[simp] theorem State.updObj_motion (s : State) (ns id : Nat) (f : StashObj → StashObj) : (s.updObj ns id f).motion = s.motion := rfl
@[simp] theorem State.updObj_dram (s : State) (ns id : Nat) (f : StashObj → StashObj) : (s.updObj ns id f).dram = s.dram := rfl
@[simp] theorem State.updObj_integ (s : State) (ns id : Nat) (f : StashObj → StashObj) : (s.updObj ns id f).integ = s.integ := rfl
@[simp] theorem State.updObj_board (s : State) (ns id : Nat) (f : StashObj → StashObj) : (s.updObj ns id f).board = s.board := rfl
@[simp] theorem State.updObj_units (s : State) (ns id : Nat) (f : StashObj → StashObj) : (s.updObj ns id f).units = s.units := rfl
@[simp] theorem State.updObj_wire (s : State) (ns id : Nat) (f : StashObj → StashObj) : (s.updObj ns id f).wire = s.wire := rfl
@[simp] theorem State.updObj_tx (s : State) (ns id : Nat) (f : StashObj → StashObj) : (s.updObj ns id f).tx = s.tx := rfl
@[simp] theorem State.updObj_free (s : State) (ns id : Nat) (f : StashObj → StashObj) : (s.updObj ns id f).free = s.free := rfl
@[simp] theorem State.updObj_idle (s : State) (ns id : Nat) (f : StashObj → StashObj) : (s.updObj ns id f).idle = s.idle := rfl
@[simp] theorem State.updObj_pending (s : State) (ns id : Nat) (f : StashObj → StashObj) : (s.updObj ns id f).pending = s.pending := rfl

@[simp] theorem State.setFstat_main (s : State) (i : Nat) (b : Bool) : (s.setFstat i b).main = s.main := rfl
@[simp] theorem State.setFstat_mem (s : State) (i : Nat) (b : Bool) : (s.setFstat i b).mem = s.mem := rfl
@[simp] theorem State.setFstat_memBad (s : State) (i : Nat) (b : Bool) : (s.setFstat i b).memBad = s.memBad := rfl
@[simp] theorem State.setFstat_staging (s : State) (i : Nat) (b : Bool) : (s.setFstat i b).staging = s.staging := rfl
@[simp] theorem State.setFstat_flash (s : State) (i : Nat) (b : Bool) : (s.setFstat i b).flash = s.flash := rfl
@[simp] theorem State.setFstat_copyA (s : State) (i : Nat) (b : Bool) : (s.setFstat i b).copyA = s.copyA := rfl
@[simp] theorem State.setFstat_copyB (s : State) (i : Nat) (b : Bool) : (s.setFstat i b).copyB = s.copyB := rfl
@[simp] theorem State.setFstat_fop (s : State) (i : Nat) (b : Bool) : (s.setFstat i b).fop = s.fop := rfl
@[simp] theorem State.setFstat_clk (s : State) (i : Nat) (b : Bool) : (s.setFstat i b).clk = s.clk := rfl
@[simp] theorem State.setFstat_time (s : State) (i : Nat) (b : Bool) : (s.setFstat i b).time = s.time := rfl
@[simp] theorem State.setFstat_aon (s : State) (i : Nat) (b : Bool) : (s.setFstat i b).aon = s.aon := rfl
@[simp] theorem State.setFstat_therm (s : State) (i : Nat) (b : Bool) : (s.setFstat i b).therm = s.therm := rfl
@[simp] theorem State.setFstat_calib (s : State) (i : Nat) (b : Bool) : (s.setFstat i b).calib = s.calib := rfl
@[simp] theorem State.setFstat_boot (s : State) (i : Nat) (b : Bool) : (s.setFstat i b).boot = s.boot := rfl
@[simp] theorem State.setFstat_update (s : State) (i : Nat) (b : Bool) : (s.setFstat i b).update = s.update := rfl
@[simp] theorem State.setFstat_recovery (s : State) (i : Nat) (b : Bool) : (s.setFstat i b).recovery = s.recovery := rfl
@[simp] theorem State.setFstat_jobs (s : State) (i : Nat) (b : Bool) : (s.setFstat i b).jobs = s.jobs := rfl
@[simp] theorem State.setFstat_msp (s : State) (i : Nat) (b : Bool) : (s.setFstat i b).msp = s.msp := rfl
@[simp] theorem State.setFstat_render (s : State) (i : Nat) (b : Bool) : (s.setFstat i b).render = s.render := rfl
@[simp] theorem State.setFstat_store (s : State) (i : Nat) (b : Bool) : (s.setFstat i b).store = s.store := rfl
@[simp] theorem State.setFstat_lanes (s : State) (i : Nat) (b : Bool) : (s.setFstat i b).lanes = s.lanes := rfl
@[simp] theorem State.setFstat_cmps (s : State) (i : Nat) (b : Bool) : (s.setFstat i b).cmps = s.cmps := rfl
@[simp] theorem State.setFstat_links (s : State) (i : Nat) (b : Bool) : (s.setFstat i b).links = s.links := rfl
@[simp] theorem State.setFstat_ports (s : State) (i : Nat) (b : Bool) : (s.setFstat i b).ports = s.ports := rfl
@[simp] theorem State.setFstat_pos (s : State) (i : Nat) (b : Bool) : (s.setFstat i b).pos = s.pos := rfl
@[simp] theorem State.setFstat_fire (s : State) (i : Nat) (b : Bool) : (s.setFstat i b).fire = s.fire := rfl
@[simp] theorem State.setFstat_motion (s : State) (i : Nat) (b : Bool) : (s.setFstat i b).motion = s.motion := rfl
@[simp] theorem State.setFstat_dram (s : State) (i : Nat) (b : Bool) : (s.setFstat i b).dram = s.dram := rfl
@[simp] theorem State.setFstat_integ (s : State) (i : Nat) (b : Bool) : (s.setFstat i b).integ = s.integ := rfl
@[simp] theorem State.setFstat_board (s : State) (i : Nat) (b : Bool) : (s.setFstat i b).board = s.board := rfl
@[simp] theorem State.setFstat_units (s : State) (i : Nat) (b : Bool) : (s.setFstat i b).units = s.units := rfl
@[simp] theorem State.setFstat_wire (s : State) (i : Nat) (b : Bool) : (s.setFstat i b).wire = s.wire := rfl
@[simp] theorem State.setFstat_tx (s : State) (i : Nat) (b : Bool) : (s.setFstat i b).tx = s.tx := rfl
@[simp] theorem State.setFstat_free (s : State) (i : Nat) (b : Bool) : (s.setFstat i b).free = s.free := rfl
@[simp] theorem State.setFstat_idle (s : State) (i : Nat) (b : Bool) : (s.setFstat i b).idle = s.idle := rfl
@[simp] theorem State.setFstat_pending (s : State) (i : Nat) (b : Bool) : (s.setFstat i b).pending = s.pending := rfl

@[simp] theorem State.putCopy_main (s : State) (b : Bool) (c : Settings) : (s.putCopy b c).main = s.main := by unfold State.putCopy; (repeat' split) <;> rfl
@[simp] theorem State.putCopy_ev (s : State) (b : Bool) (c : Settings) : (s.putCopy b c).ev = s.ev := by unfold State.putCopy; (repeat' split) <;> rfl
@[simp] theorem State.putCopy_mem (s : State) (b : Bool) (c : Settings) : (s.putCopy b c).mem = s.mem := by unfold State.putCopy; (repeat' split) <;> rfl
@[simp] theorem State.putCopy_memBad (s : State) (b : Bool) (c : Settings) : (s.putCopy b c).memBad = s.memBad := by unfold State.putCopy; (repeat' split) <;> rfl
@[simp] theorem State.putCopy_staging (s : State) (b : Bool) (c : Settings) : (s.putCopy b c).staging = s.staging := by unfold State.putCopy; (repeat' split) <;> rfl
@[simp] theorem State.putCopy_flash (s : State) (b : Bool) (c : Settings) : (s.putCopy b c).flash = s.flash := by unfold State.putCopy; (repeat' split) <;> rfl
@[simp] theorem State.putCopy_fop (s : State) (b : Bool) (c : Settings) : (s.putCopy b c).fop = s.fop := by unfold State.putCopy; (repeat' split) <;> rfl
@[simp] theorem State.putCopy_clk (s : State) (b : Bool) (c : Settings) : (s.putCopy b c).clk = s.clk := by unfold State.putCopy; (repeat' split) <;> rfl
@[simp] theorem State.putCopy_time (s : State) (b : Bool) (c : Settings) : (s.putCopy b c).time = s.time := by unfold State.putCopy; (repeat' split) <;> rfl
@[simp] theorem State.putCopy_aon (s : State) (b : Bool) (c : Settings) : (s.putCopy b c).aon = s.aon := by unfold State.putCopy; (repeat' split) <;> rfl
@[simp] theorem State.putCopy_therm (s : State) (b : Bool) (c : Settings) : (s.putCopy b c).therm = s.therm := by unfold State.putCopy; (repeat' split) <;> rfl
@[simp] theorem State.putCopy_calib (s : State) (b : Bool) (c : Settings) : (s.putCopy b c).calib = s.calib := by unfold State.putCopy; (repeat' split) <;> rfl
@[simp] theorem State.putCopy_boot (s : State) (b : Bool) (c : Settings) : (s.putCopy b c).boot = s.boot := by unfold State.putCopy; (repeat' split) <;> rfl
@[simp] theorem State.putCopy_update (s : State) (b : Bool) (c : Settings) : (s.putCopy b c).update = s.update := by unfold State.putCopy; (repeat' split) <;> rfl
@[simp] theorem State.putCopy_recovery (s : State) (b : Bool) (c : Settings) : (s.putCopy b c).recovery = s.recovery := by unfold State.putCopy; (repeat' split) <;> rfl
@[simp] theorem State.putCopy_jobs (s : State) (b : Bool) (c : Settings) : (s.putCopy b c).jobs = s.jobs := by unfold State.putCopy; (repeat' split) <;> rfl
@[simp] theorem State.putCopy_msp (s : State) (b : Bool) (c : Settings) : (s.putCopy b c).msp = s.msp := by unfold State.putCopy; (repeat' split) <;> rfl
@[simp] theorem State.putCopy_render (s : State) (b : Bool) (c : Settings) : (s.putCopy b c).render = s.render := by unfold State.putCopy; (repeat' split) <;> rfl
@[simp] theorem State.putCopy_store (s : State) (b : Bool) (c : Settings) : (s.putCopy b c).store = s.store := by unfold State.putCopy; (repeat' split) <;> rfl
@[simp] theorem State.putCopy_lanes (s : State) (b : Bool) (c : Settings) : (s.putCopy b c).lanes = s.lanes := by unfold State.putCopy; (repeat' split) <;> rfl
@[simp] theorem State.putCopy_cmps (s : State) (b : Bool) (c : Settings) : (s.putCopy b c).cmps = s.cmps := by unfold State.putCopy; (repeat' split) <;> rfl
@[simp] theorem State.putCopy_links (s : State) (b : Bool) (c : Settings) : (s.putCopy b c).links = s.links := by unfold State.putCopy; (repeat' split) <;> rfl
@[simp] theorem State.putCopy_ports (s : State) (b : Bool) (c : Settings) : (s.putCopy b c).ports = s.ports := by unfold State.putCopy; (repeat' split) <;> rfl
@[simp] theorem State.putCopy_pos (s : State) (b : Bool) (c : Settings) : (s.putCopy b c).pos = s.pos := by unfold State.putCopy; (repeat' split) <;> rfl
@[simp] theorem State.putCopy_fire (s : State) (b : Bool) (c : Settings) : (s.putCopy b c).fire = s.fire := by unfold State.putCopy; (repeat' split) <;> rfl
@[simp] theorem State.putCopy_motion (s : State) (b : Bool) (c : Settings) : (s.putCopy b c).motion = s.motion := by unfold State.putCopy; (repeat' split) <;> rfl
@[simp] theorem State.putCopy_dram (s : State) (b : Bool) (c : Settings) : (s.putCopy b c).dram = s.dram := by unfold State.putCopy; (repeat' split) <;> rfl
@[simp] theorem State.putCopy_integ (s : State) (b : Bool) (c : Settings) : (s.putCopy b c).integ = s.integ := by unfold State.putCopy; (repeat' split) <;> rfl
@[simp] theorem State.putCopy_board (s : State) (b : Bool) (c : Settings) : (s.putCopy b c).board = s.board := by unfold State.putCopy; (repeat' split) <;> rfl
@[simp] theorem State.putCopy_units (s : State) (b : Bool) (c : Settings) : (s.putCopy b c).units = s.units := by unfold State.putCopy; (repeat' split) <;> rfl
@[simp] theorem State.putCopy_wire (s : State) (b : Bool) (c : Settings) : (s.putCopy b c).wire = s.wire := by unfold State.putCopy; (repeat' split) <;> rfl
@[simp] theorem State.putCopy_tx (s : State) (b : Bool) (c : Settings) : (s.putCopy b c).tx = s.tx := by unfold State.putCopy; (repeat' split) <;> rfl
@[simp] theorem State.putCopy_free (s : State) (b : Bool) (c : Settings) : (s.putCopy b c).free = s.free := by unfold State.putCopy; (repeat' split) <;> rfl
@[simp] theorem State.putCopy_idle (s : State) (b : Bool) (c : Settings) : (s.putCopy b c).idle = s.idle := by unfold State.putCopy; (repeat' split) <;> rfl
@[simp] theorem State.putCopy_pending (s : State) (b : Bool) (c : Settings) : (s.putCopy b c).pending = s.pending := by unfold State.putCopy; (repeat' split) <;> rfl

@[simp] theorem State.lanesDue_main (s : State) : (s.lanesDue ).main = s.main := rfl
@[simp] theorem State.lanesDue_ev (s : State) : (s.lanesDue ).ev = s.ev := rfl
@[simp] theorem State.lanesDue_mem (s : State) : (s.lanesDue ).mem = s.mem := rfl
@[simp] theorem State.lanesDue_memBad (s : State) : (s.lanesDue ).memBad = s.memBad := rfl
@[simp] theorem State.lanesDue_staging (s : State) : (s.lanesDue ).staging = s.staging := rfl
@[simp] theorem State.lanesDue_flash (s : State) : (s.lanesDue ).flash = s.flash := rfl
@[simp] theorem State.lanesDue_copyA (s : State) : (s.lanesDue ).copyA = s.copyA := rfl
@[simp] theorem State.lanesDue_copyB (s : State) : (s.lanesDue ).copyB = s.copyB := rfl
@[simp] theorem State.lanesDue_fop (s : State) : (s.lanesDue ).fop = s.fop := rfl
@[simp] theorem State.lanesDue_clk (s : State) : (s.lanesDue ).clk = s.clk := rfl
@[simp] theorem State.lanesDue_time (s : State) : (s.lanesDue ).time = s.time := rfl
@[simp] theorem State.lanesDue_aon (s : State) : (s.lanesDue ).aon = s.aon := rfl
@[simp] theorem State.lanesDue_therm (s : State) : (s.lanesDue ).therm = s.therm := rfl
@[simp] theorem State.lanesDue_calib (s : State) : (s.lanesDue ).calib = s.calib := rfl
@[simp] theorem State.lanesDue_boot (s : State) : (s.lanesDue ).boot = s.boot := rfl
@[simp] theorem State.lanesDue_update (s : State) : (s.lanesDue ).update = s.update := rfl
@[simp] theorem State.lanesDue_recovery (s : State) : (s.lanesDue ).recovery = s.recovery := rfl
@[simp] theorem State.lanesDue_jobs (s : State) : (s.lanesDue ).jobs = s.jobs := rfl
@[simp] theorem State.lanesDue_msp (s : State) : (s.lanesDue ).msp = s.msp := rfl
@[simp] theorem State.lanesDue_render (s : State) : (s.lanesDue ).render = s.render := rfl
@[simp] theorem State.lanesDue_store (s : State) : (s.lanesDue ).store = s.store := rfl
@[simp] theorem State.lanesDue_lanes (s : State) : (s.lanesDue ).lanes = s.lanes := rfl
@[simp] theorem State.lanesDue_cmps (s : State) : (s.lanesDue ).cmps = s.cmps := rfl
@[simp] theorem State.lanesDue_links (s : State) : (s.lanesDue ).links = s.links := rfl
@[simp] theorem State.lanesDue_ports (s : State) : (s.lanesDue ).ports = s.ports := rfl
@[simp] theorem State.lanesDue_pos (s : State) : (s.lanesDue ).pos = s.pos := rfl
@[simp] theorem State.lanesDue_fire (s : State) : (s.lanesDue ).fire = s.fire := rfl
@[simp] theorem State.lanesDue_motion (s : State) : (s.lanesDue ).motion = s.motion := rfl
@[simp] theorem State.lanesDue_dram (s : State) : (s.lanesDue ).dram = s.dram := rfl
@[simp] theorem State.lanesDue_integ (s : State) : (s.lanesDue ).integ = s.integ := rfl
@[simp] theorem State.lanesDue_board (s : State) : (s.lanesDue ).board = s.board := rfl
@[simp] theorem State.lanesDue_units (s : State) : (s.lanesDue ).units = s.units := rfl
@[simp] theorem State.lanesDue_free (s : State) : (s.lanesDue ).free = s.free := rfl
@[simp] theorem State.lanesDue_idle (s : State) : (s.lanesDue ).idle = s.idle := rfl
@[simp] theorem State.lanesDue_pending (s : State) : (s.lanesDue ).pending = s.pending := rfl

@[simp] theorem State.send_tx (s : State) (c : Chan) (bs : Bytes) (h : c.lane = none) : (s.send c bs).tx = ⟨c, bs⟩ :: s.tx := by unfold State.send; rw [h]
@[simp] theorem State.fresh_fst (s : State) : s.fresh.1 = s.free := rfl
@[simp] theorem State.fresh_snd (s : State) : s.fresh.2 = { s with free := s.free + 1 } := rfl

end Sys2Proof.Machine
end

