-- ==== Sys2Proof/WellFormed.lean ====
section
/-! DEFINITION. Well-formed commands: operands of the sizes that the spec gives the messages and samples they stand for. The types of the constructors bound every other operand. -/

namespace Sys2Proof

/-- R48: a payload of 0 to 1,400 bytes. -/
def FopMsg.wf (m : FopMsg) : Bool := decide (m.payload.length ≤ 1400)

/-- R104: at most 8,952 bytes, MSP in version 1 on its port or not. -/
def MspPacket.wf (p : MspPacket) : Bool := decide (p.payload.length ≤ 8952)

/-- R433: 0 to 8 data blocks; a byte count of at most 64. -/
def SeamMsg.wf (g : SeamMsg) : Bool := decide (g.body.length ≤ 64) && decide (g.count.toNat ≤ 64)

/-- The well-formed commands: those with an operand that its type does not bound by itself. -/
def Instr.wf (i : Instr) : Bool :=
  match i with
  | .read m => m.wf
  | .write m => m.wf
  | .segReadInit m => m.wf
  | .segReadData m => m.wf
  | .segWriteInit m => m.wf
  | .segWriteData m _ => m.wf
  | .segEnd m => m.wf
  | .segAbort m => m.wf
  | .subscribe m => m.wf
  | .rangeRead m => m.wf
  | .rangeWrite m => m.wf
  | .mspPacket pk => pk.wf
  | .open_ pk => pk.wf
  | .proof pk => pk.wf
  | .hostLinkChange _ link => decide (link.toNat ≤ 4)
  | .fieldLinkChange _ link => decide (link.toNat ≤ 4)
  | .tableReloadComplete w _ => w.table != 0
  | .measFrame _ _ _ _ _ data => decide (data.length = 2048)
  | .dramTemperatureRead temps => decide (temps.length = 8)
  | .dramCommandIssue _ arrivals => arrivals.all fun a => a.data.length == if a.write then 64 else 0
  | .startupTrainingComplete _ _ results => decide (results.length = 8)
  | .windowDataWrite _ _ data => decide (1 ≤ data.length) && decide (data.length ≤ 1024)
  | .windowParityWrite _ _ data => decide (1 ≤ data.length) && decide (data.length ≤ 1024)
  | .crcFeed _ _ w v => decide (v.toNat < 2 ^ (8 * 2 ^ w.val))
  | .windowConfigurationWrite _ _ width v => (width || decide (v.toNat < 65536))
  | .sensorSample readings _ => decide (readings.length = 24)
  | .calibrationComplete _ _ load => decide (load.toNat ≤ 100)
  | .tftpData _ _ data => decide (data.length ≤ 512)
  | .uartOpen f => decide (f.body.length ≤ 1028)
  | .uartData f => decide (f.body.length ≤ 1028)
  | .uartClose f => decide (f.body.length ≤ 1028)
  | .uartReset f => decide (f.body.length ≤ 1028)
  | .posFull _ _ g => g.wf
  | .barrierOpen _ _ g => g.wf
  | .vote _ _ g => g.wf
  | .release _ _ g => g.wf
  | .frogMessage _ _ g => g.wf
  | .spoil _ _ g => g.wf
  | .rebase _ _ g => g.wf
  | .user _ _ g => g.wf
  | _ => true

end Sys2Proof
end

