-- ==== Sys2Proof/Tests/Slice0.lean ====
section
/-! SUPPORT. The model's own tests: ill-formed commands, single steps against values of the spec, and for each clause of a statement a state and operands that meet its hypotheses. -/

set_option maxRecDepth 4000
set_option Elab.async false
namespace Sys2Proof.Tests
open Sys2Proof.Machine

/-! ## States -/

def wUp : State := { State.reset with main := ⟨[(0x2000, 1), (0x180201, 1)], []⟩, boot := { State.reset.boot with phase := .run } }

def hd : FopHead := ⟨⟨false, 1, 5⟩, 1, 7⟩

def msg (i : BitVec 16) (k : BitVec 8) (p : Bytes) : FopMsg := ⟨hd, i, k, p⟩

def cl (s : State) : State := { s with fop := ⟨[⟨hd.peer, 0, []⟩], []⟩ }

def withReg (s : State) (k v : Nat) : State := s.put k v

def sess0 : Session :=
  { ns := 0, st := 1, slot := 0, token := 5, window := 4, ring := 6, keepMs := 1000, stashQuota := 1000000, pageQuota := 1000, charge := 0, peer := ⟨0, hd.peer⟩
    rxNext := 1, held := [], accepted := 0, ackDue := none, lastRx := 0, quiet := 0, reqNext := 1, credit := 4, chain := none, reqs := [], lastExec := 0, replies := 0
    txNext := 1, hostCredit := 9, compSend := 0, bodies := [], flight := [], srtt := 0, rttvar := 0, measured := false, waiting := [], codec := none, codecDone := false
    readback := none, closing := 0, closeAt := 0, reason := 0 }

/-- A running device with session 0 open, and what is put into it. -/
def wSess (x : Session) : State :=
  { wUp with
    main := ⟨[(0x2000, 0x3FF), (0x180201, 1), (0x500003, 3)], []⟩
    msp := { wUp.msp with sessions := [(0, x)] }
    ev := { ((wUp.ev.ringAllocate 0 6).ringAllocate 64 6) with resv := [(0, 1)] } }

/-- The same with a request at the head. -/
def wReq (ty : Nat) (body : Bytes) : State :=
  { wSess { sess0 with reqs := [⟨1, ty, body, false, none⟩] } with
    ev := { (((wUp.ev.ringAllocate 0 6).ringAllocate 64 6).ringPut 0 0 0 fun seq => descriptor 0x10 0 0 seq 1 0 0).1 with resv := [(0, 1)] } }

def page0 : Page :=
  { num := 1, id := 7, ns := 0, sess := 0, orphan := false, len := 128, startAt := false, reps := 1, start := 0, gap := 0, bg := [0, 0, 0, 0, 0, 0, 0, 0]
    items := [], binds := [], st := .defined, objs := [], groups := [], gen := 0, segs := 0, chunks := [], notHidden := false, held := false, rerenders := 0
    relines := none, writ := [], verified := false, pos := 0, late := false, lateFrom := 0, ports := 0, insts := 1, cast := 0, live := [], printed := 0
    spoiledN := 0, sinceP := 0, sinceS := 0, lastInst := 0, lastReason := 0, lastLate := false, fetched := [], sentN := [], fired := [], reverified := [], peer := [], pairs := 0, castAt := 0, thrashed := false }

def withPage (s : State) (p : Page) : State := { s with jobs := { s.jobs with pages := [p] } }

def obj0 : StashObj :=
  { ns := 0, id := 7, w := 8, h := 1, ch := 1, depth := 8, sx := 1, sy := 1, bilinear := false, raw := false, tw := 8, th := 1, size := 100, charge := 100, tiles := [], pairs := 15, base := 0, orphan := false }

def withObj (s : State) (o : StashObj) : State := { s with jobs := { s.jobs with stash := [o] } }

def wHost (x : Session) : State := (wSess x).put 0x500201 1

def wPacket (b : Bytes) : MspPacket := ⟨0, hd.peer, 51210, false, b, []⟩

def wAck : Bytes := mspPacket 0 0 0 5 1 1 0 9 []

def wOpenBody : Bytes := [3, 1, 6, 4] ++ zeros 4 ++ zeros 16

def wOpen : Bytes := mspPacket 0 0xFF 1 0 0 0 0 0 (mspRecord 1 0 wOpenBody)

def wOpening : Opening := ⟨5, ⟨0, hd.peer⟩, 3, 6, 4, zeros 16, zeros 16, 0, none, [], none⟩

def wProofBody : Bytes := leBytes 4 5 ++ zeros 4 ++ hmac (zeros 16) ([0x4D, 0x53, 0x50, 0x31] ++ wOpening.signed)

def wProof : Bytes := mspPacket 0 0xFF 1 0 0 0 0 0 (mspRecord 3 0 wProofBody)

def wPages (p : Page) : State := { (wUp.put 0x480001 2) with jobs := { wUp.jobs with pages := [p], queue := [p.num] } }

def job0 : Job := { page := 1, lines := none, whole := [], next := [], walked := 0, out := 4, thrash := false, repair := false, ended := false }

def wJob (p : Page) (j : Job) : State := { wPages p with render := { wUp.render with jobs := [j] } }

def wRun (s : State) : State := s.put 0x3002 4

def slice0 : Slice := { page := 1, inst := 0, line := 0, data := [], crc := 0, proven := true, poison := 0, sent := none, sentCrc := 0, sends := 0, sentAt := 0, echo := 0, refetch := false }

def page1 : Page := { page0 with st := .printing, ports := 1, cast := 1, live := [⟨0, [], none⟩], segs := 15 }

def link0 : Link := { Link.off with mods := 15, depth := 8 }

/-- A page prints on port 0, whose link is ACTIVE. -/
def wPrint (p : Page) (l : Lane) : State := { (wPages p).put 0x300101 5 with links := [(0, link0)], lanes := [(1, l)] }

def pageR : Page := { page1 with insts := 3, fired := [(0, 130), (1, 130), (2, 130), (3, 130)] }

def wTension : State := wUp.setBytes 0x2861 0 0 ((upTo 8).flatMap fun _ => [0, 0, 1, 0] ++ zeros 44)

def wLink (l : Nat) (st : Nat) (x : Link) : State :=
  let s := { wUp.put 0x800103 1 with links := [(l, x)] }
  if l < 16 then s.set (portIdx l + 1) 1 st else s.set (seamIdx (l - 16)) 6 st

def linkT : Link := { link0 with cfg := [1, 3, 0, 0, 8, 15, 0] }

def wLate (s : State) : State := { s with clk := ⟨90000000000, 0, 0, 0⟩ }

/-- Port 0 ACTIVE with a request of the opcode at the head of its command ring. -/
def wPortReq (op : Nat) : State :=
  { wPrint page1 Lane.empty with jobs := wUp.jobs, ev := (((wPrint page1 Lane.empty).ev.ringAllocate 160 4).ringPut 0 0 160 fun seq => descriptor 0x30 0 160 seq (op + 2 * 256) 0 77).1 }

def wPort (p : Port) : State := { wPrint page1 Lane.empty with jobs := wUp.jobs, ports := [(0, p)] }

def pcmd0 : PortCmd := ⟨1, 2, 9, [], 77, 0, false⟩

def wGen : Gen := (upTo 4).foldl (fun g k => g.setJetState (4096 * k) 0) Gen.reset

def wMods (s : State) : State := { s with render := { s.render with active := wGen } }

def wAxis (st : Nat) : State := ((wUp.put 0x210001 st).put 0x2000 0x8001).put 0x21001B 1

def wStatusBody : Bytes := leBytes 2 0x434D ++ [1, 2] ++ leBytes 2 7 ++ [1] ++ zeros 73

def wStatus : Bytes := wStatusBody ++ leBytes 4 (crc32c wStatusBody)

def cand0 : Cand := ⟨0, 5, 1, 2, 3, 4, 5, 6⟩

def dom0 : Dom := { Dom.init with parent := some cand0, cands := [cand0] }

/-- Domain A enabled and in a state, with what it holds. -/
def wDom (st : Nat) (d : Dom) : State := { (((((wUp.put 0x800104 1).put 0x101004 1).put 0x101005 st).put 0x101001 0).put 0x101002 0).put 0x101101 9 with time := { wUp.time with doms := [(0, d)] } }

def ptp0 : PtpHead := ⟨0, 0, 0, 5, 7, 0⟩

def wPtp (kind flags : BitVec 8) : Bytes := [kind, 2, 0, 34, 0, 0, flags, 0] ++ zeros 26

def wSub (x : Sub) : State := { wUp with dram := { wUp.dram with subs := [(0, x)], conf := [8, 1, 16, 4800] } }

def req0 : DramReq := ⟨0, 0, 0, true, false, [], 0⟩

def tr0 : TrainResult := ⟨true, 60000, 60000, 0, 0⟩

def dcur0 : DmaCur := ⟨2 ^ 63 + 0x4019 * 2 ^ 32, 2 ^ 63 + 0x6820 * 2 ^ 32 + 0x0D * 2 ^ 24, 8, 9, 0, 0, false, none⟩

def wDma : State := ({ (((wUp.put 0x700006 1).put 0x700003 1).put 0x700001 2) with integ := { wUp.integ with dma := [(0, some dcur0)] } })

def wDesc : State := { (wUp.put 0x700006 1).put 0x700001 2 with ev := (((wUp.put 0x700006 1).put 0x700001 2).ev.ringAllocate 128 4 |>.ringPut 0 0 128 fun seq => descriptor 0x40 0 128 seq (2 ^ 63 + 0x4019 * 2 ^ 32) (2 ^ 63 + 0x2873 * 2 ^ 32) 8).1 }

def dcur1 : DmaCur := ⟨2 ^ 63 + 0x4019 * 2 ^ 32, 2 ^ 63 + 0x2873 * 2 ^ 32, 16, 9, 0, 0, false, none⟩

def wDma2 : State := { (wUp.put 0x700006 1).put 0x700001 2 with integ := { wUp.integ with dma := [(0, some dcur1)] } }

def wDma3 : State := { (wUp.put 0x700006 1).put 0x700001 2 with integ := { wUp.integ with dma := [(0, some { dcur1 with moved := 12, half := true })] } }

def wWin : State := wLate (((wUp.put 0x790704 1).put 0x790701 3).put 0x790702 1)

def wCal : State := ((wUp.put 0x7002 1).put 0x300101 5).setBytes 0x0061 0 0 ((upTo 24).flatMap fun _ => [0, 4])

def wCalT : State := wLate ((wUp.put 0x7004 1).setBytes (portIdx 0 + 3) 1 0 [0x10, 0] |>.setBytes 0x2862 0 384 [0])

def wRunning : State := wUp.updCalib 0 fun c => { c with running := true, margin := 20 }

def wCalR : State := wCalT.updCalib 20 fun c => { c with running := true }

def wOff (p r : Bool) : State := { State.reset with aon := { State.reset.aon with vbat := true, mainEn := true }, boot := { State.reset.boot with porN := p, railsOk := r } }

def wPhase (p : Phase) : State := wLate { State.reset with boot := { State.reset.boot with phase := p } }

def upd0 : Update := ⟨zeros 256, [1, 2, 3, 4], 2, 0, 0, [], false⟩

def wUpd (st : Nat) : State := { (wUp.put 0x801004 st).put 0x700006 3 with update := upd0 }

def wUpdF : State := { wUpd 6 with update := { upd0 with failing := true } }

def wUpdB : State := { wUpd 6 with update := { upd0 with comp := 3 }, wire := [(0, { LaneOut.fresh with rest := [(true, zeros 8)] })] }

def wUpd1 : State := { wUpd 4 with update := { upd0 with comp := 1 } }

def wRec (straps : Nat) : State := wLate { State.reset with boot := { State.reset.boot with phase := .recovery, straps := straps } }

def wTftp (n : Nat) : State := { wRec 0 with recovery := ⟨some hd.peer, n, [], 1, 0, 0, none⟩ }

def wUart (n : Nat) (d : Bytes) : State := { wRec 4 with recovery := ⟨none, 0, d, 0, 0, 0, some n⟩ }

/-- Device m of a board of three whose ring links are ACTIVE. -/
def wRing (m : Nat) : State := wLate ((((((wUp.put 0x880003 3).put 0x880002 m).put 0x880005 1).set (seamIdx 0) 6 5).set (seamIdx 1) 6 5))

def wFollow : State := ((wRing 1).put 0x280002 2).put 0x100005 1

def wLost : State := { wFollow.put 0x881005 1 with board := { wFollow.board with stime := some (0, 0) } }

def page0v : Page := { page0 with st := .verified, verified := true }

def wBar : State := { wRun (wRing 0) with jobs := { wUp.jobs with pages := [page0v], queue := [1] } }

def bar0 : Barrier := ⟨7, 128, 1, 0, 0, 1, 1, 0⟩

def par0 : Qtc.Par := ⟨8, 4, 1, 2⟩

def inp0 : Inputs := ⟨wUp.jobs, 0, [], [], Gen.reset, Bank.reset⟩

def eFull : Ev := (upTo 16).foldl (fun e _ => (e.ringPut 0 0 128 fun _ => []).1) (State.reset.ev.ringAllocate 128 4)

/-- Strip 1 has done line 0 of a page's render and strip 0 is at it. -/
def jobL : Job := { job0 with walked := 1, next := [(1, 1)] }

def page0g : Page := { page0 with gen := 1 }

def wLine : State := wJob page0g jobL

/-! ## Ill-formed commands are refused by the check -/

/-- A request whose payload is one byte too long, and one at the bound (R48). -/
theorem test_wf_fop : Instr.wf (.read (msg 0x1000 1 (List.replicate 1401 0))) = false ∧ Instr.wf (.write (msg 0x1000 1 (List.replicate 1400 0))) = true := by
  decide +kernel

/-- Every FOP request carries the check. -/
theorem test_wf_fop_all :
    [Instr.wf (.write (msg 0x1000 1 (List.replicate 1401 0))), Instr.wf (.segReadInit (msg 0x1000 1 (List.replicate 1401 0))),
      Instr.wf (.segReadData (msg 0x1000 1 (List.replicate 1401 0))), Instr.wf (.segWriteInit (msg 0x1000 1 (List.replicate 1401 0))),
      Instr.wf (.segWriteData (msg 0x1000 1 (List.replicate 1401 0)) 0), Instr.wf (.segEnd (msg 0x1000 1 (List.replicate 1401 0))),
      Instr.wf (.segAbort (msg 0x1000 1 (List.replicate 1401 0))), Instr.wf (.subscribe (msg 0x1000 1 (List.replicate 1401 0))),
      Instr.wf (.rangeRead (msg 0x1000 1 (List.replicate 1401 0))), Instr.wf (.rangeWrite (msg 0x1000 1 (List.replicate 1401 0)))].all (!·) = true := by
  decide +kernel

/-- A host datagram beyond 8,952 bytes (R104). -/
theorem test_wf_packet :
    [Instr.wf (.mspPacket ⟨0, hd.peer, 0, false, List.replicate 8953 0, []⟩), Instr.wf (.open_ ⟨0, hd.peer, 0, false, List.replicate 8953 0, []⟩),
      Instr.wf (.proof ⟨0, hd.peer, 0, false, List.replicate 8953 0, []⟩)].all (!·) = true := by
  decide +kernel

/-- Link codes above 4 (R102, R46). -/
theorem test_wf_links : Instr.wf (.hostLinkChange 0 5) = false ∧ Instr.wf (.fieldLinkChange 1 5) = false := by decide

/-- Table 0 does not exist (R189). -/
theorem test_wf_table : Instr.wf (.tableReloadComplete ⟨0, 0, false⟩ true) = false := by decide

/-- A measurement frame of the wrong length (R265). -/
theorem test_wf_frame : Instr.wf (.measFrame 0 0 0 0 0 [1]) = false := by decide

/-- Too few DRAM temperatures, results or burst bytes (R318, R324, R330). -/
theorem test_wf_dram :
    Instr.wf (.dramTemperatureRead []) = false ∧ Instr.wf (.startupTrainingComplete true false []) = false ∧
      Instr.wf (.dramCommandIssue 0 [⟨0, 0, 0, false, true, [1]⟩]) = false ∧ Instr.wf (.dramCommandIssue 0 [⟨0, 0, 0, false, false, [1]⟩]) = false := by
  decide

/-- Test window writes of no byte and of 1,025 bytes (R350). -/
theorem test_wf_window :
    [Instr.wf (.windowDataWrite hd 0 []), Instr.wf (.windowDataWrite hd 0 (List.replicate 1025 0)), Instr.wf (.windowParityWrite hd 0 []),
      Instr.wf (.windowParityWrite hd 0 (List.replicate 1025 0))].all (!·) = true := by
  decide +kernel

/-- A feed value wider than its object, and a counting number of 17 bits (R355, R374). -/
theorem test_wf_values : Instr.wf (.crcFeed hd 0 1 65536) = false ∧ Instr.wf (.windowConfigurationWrite hd 3 false 65536) = false := by decide

/-- Too few sensor readings, a load beyond 100 percent (R395, R402). -/
theorem test_wf_thermal : Instr.wf (.sensorSample [20] 0) = false ∧ Instr.wf (.calibrationComplete 0 0 101) = false := by decide

/-- TFTP and UART frames beyond their bounds (R426, R427). -/
theorem test_wf_recovery :
    [Instr.wf (.tftpData hd.peer 1 (List.replicate 513 0)), Instr.wf (.uartOpen ⟨List.replicate 1029 0, true⟩), Instr.wf (.uartData ⟨List.replicate 1029 0, true⟩),
      Instr.wf (.uartClose ⟨List.replicate 1029 0, true⟩), Instr.wf (.uartReset ⟨List.replicate 1029 0, true⟩)].all (!·) = true := by
  decide +kernel

/-- A seam message of 65 bytes, and one that counts 65 (R433). -/
theorem test_wf_seam :
    [Instr.wf (.posFull 0 ⟨1, 1, true⟩ ⟨0, 0, 0, 0, List.replicate 65 0, true⟩), Instr.wf (.barrierOpen 0 ⟨1, 1, true⟩ ⟨0, 0, 0, 65, [], true⟩),
      Instr.wf (.vote 0 ⟨1, 1, true⟩ ⟨0, 0, 0, 65, [], true⟩), Instr.wf (.release 0 ⟨1, 1, true⟩ ⟨0, 0, 0, 65, [], true⟩),
      Instr.wf (.frogMessage 0 ⟨1, 1, true⟩ ⟨0, 0, 0, 65, [], true⟩), Instr.wf (.spoil 0 ⟨1, 1, true⟩ ⟨0, 0, 0, 65, [], true⟩),
      Instr.wf (.rebase 0 ⟨1, 1, true⟩ ⟨0, 0, 0, 65, [], true⟩), Instr.wf (.user 0 ⟨1, 1, true⟩ ⟨0, 0, 0, 65, [], true⟩)].all (!·) = true := by
  decide +kernel

/-! ## Values of the spec -/

/-- A property of the state after one command. -/
def after (i : Instr) (s : State) (p : State → Bool) : Bool :=
  match exec i s with
  | .next t => p t
  | _ => false

/-- R354: the check values of "123456789" for CRC-32C, CRC-32, CRC-16 and CRC-8. -/
theorem test_crc_forms :
    crcResult 32 true 0xFFFFFFFF (crcRun 32 0x1EDC6F41 true 0xFFFFFFFF [49, 50, 51, 52, 53, 54, 55, 56, 57]) = 0xE3069283 ∧
      crcResult 32 true 0xFFFFFFFF (crcRun 32 0x04C11DB7 true 0xFFFFFFFF [49, 50, 51, 52, 53, 54, 55, 56, 57]) = 0xCBF43926 ∧
      crcResult 16 false 0 (crcRun 16 0x1021 false 0xFFFF [49, 50, 51, 52, 53, 54, 55, 56, 57]) = 0x29B1 ∧
      crcResult 8 false 0 (crcRun 8 0x07 false 0 [49, 50, 51, 52, 53, 54, 55, 56, 57]) = 0xF4 ∧
      crc32c [49, 50, 51, 52, 53, 54, 55, 56, 57] = 0xE3069283 := by decide +kernel

/-- The signed message of the opening on slot 3 (chapter 4): SHA-256 of "abc" is that of FIPS 180-4. -/
theorem test_sha256 : (sha256 [0x61, 0x62, 0x63]).take 4 = [0xBA, 0x78, 0x16, 0xBF] := by decide +kernel

/-- R321: 2,720 blocks over 8,191 stripes, 684 of them for 256 chunks; 1,018 chunks fit, 1,019 do not. -/
theorem test_blocks :
    let s := { wUp with dram := { wUp.dram with conf := [8, 2, 16, 6400], copies := [3, 12] } }
    s.blocksNow = 2720 ∧ pageBlocks 256 = 684 ∧ s.stashBlocks 256 = 2036 ∧ s.storeFits 1018 = true ∧ s.storeFits 1019 = false := by decide +kernel

/-- R155, R156: the worked example of chapter 5. With one word at hand a decoder reads the first run bit and waits, with the interruption pending; stalled behind sample 10 it stands inside the copy of distance 4, at bit 76, and ends with the three rows. -/
theorem test_stalls :
    let k : Qtc.Block := ⟨⟨8, 4, 3, 15⟩, 3, 1, false, [0x00, 0x03, 0xF9, 0x88, 0x10, 0x00, 0x00, 0x02, 0x20, 0x80], crc32c [100, 100, 100, 100, 100, 104, 104, 100, 100, 104, 104, 100]⟩
    (match k.resume 64 12 .start with | .inr w => (w.pos, w.mode) == (1, Qtc.Mode.word true) | .inl _ => false) = true ∧
      (match k.resume 80 10 .start with
        | .inr w => (w.pos, w.mode) == (76, Qtc.Mode.copy 2 4) && (match k.resume 80 12 w with
          | .inr v => k.finish v == .inr [[100, 100, 100, 100, 100, 104, 104, 100, 100, 104, 104, 100]] | .inl _ => false)
        | .inl _ => false) = true := by decide +kernel

/-- R277 to R280: the worked feed move passes 600, 1,995, 17,880 and 21,429 units and ends at tick 5,377. -/
theorem test_feed_move :
    let s := wUp
    let p : Path := ⟨0, [(0, 0, 21840 * 2 ^ 32)], 21840 * 2 ^ 32, 0, B64.ofInt 2000, B64.ofInt 40000, B64.ofInt 4000, B64.ofInt 400000, B64.ofInt 200000, none, false⟩
    [400, 760, 3937, 5000, 5377].map (fun k => (B64.floor (s.pathAt p k).1, (s.pathAt p k).2.2)) =
      [(600, false), (1995, false), (17880, false), (21429, false), (21840, true)] ∧ (s.pathAt p 5376).2.2 = false := by decide +kernel

/-- R396: the median of the neighbours S3, S8, S10, S15 of S9 is 68.25 °C. -/
theorem test_median : sensorNear 9 = [3, 15, 8, 10] ∧ median [992, 1064, 1136, 1120] = 1092 := by decide

/-- R396: a third reading of S9 beyond 8 °C of it excludes the sensor and raises E010; a reading of 76 °C starts the count anew. -/
theorem test_exclusion :
    let r := fun (x : Int) => ((upTo 24).map fun i => if i = 3 then (992 : Int) else if i = 15 then 1064 else if i = 8 then 1136 else if i = 10 then 1120 else if i = 9 then x else 1100)
    let s := { wUp with therm := { wUp.therm with beyond := [(9, 2)] } }
    bit ((s.sensorCheck 0 (r 1264) 9).reg 0x0060 5) 9 = true ∧ bit ((s.sensorCheck 0 (r 1216) 9).reg 0x0060 5) 9 = false ∧
      sget 0 (s.sensorCheck 0 (r 1216) 9).therm.beyond 9 = 0 := by decide +kernel

/-- R68: Q130 of 64 slots with CI 0xFFFFFFE0 and PI 0x10 holds 48; PI 0x20 makes it full; 0x21 is refused. -/
theorem test_ring :
    let s := (({ wUp with ev := wUp.ev.ringAllocate 130 6 }).put 0x7C8202 0x10).put 0x7C8203 0xFFFFFFE0
    Ring.held s.ev 130 = 48 ∧ after (.producerIndexWrite hd 130 0x20) s (fun t => t.reg 0x7C82 2 == 0x20) = true ∧
      after (.producerIndexWrite hd 130 0x21) s (fun t => t.reg 0x7C82 2 == 0x10) = true := by decide +kernel

/-- R54: of a transfer that has 1,024 bytes, a segment at 2,048 is answered SEQUENCE and placed nowhere; its next at 1,024 is placed. -/
theorem test_segments :
    let s := { wUp with fop := ⟨[], [⟨3, hd.peer, obj 0x1811 0, true, 2600, zeros 1024, false, 0, []⟩]⟩ }
    after (.segWriteData (msg 0x1811 0 ([3, 0, 0, 0, 0, 8, 0, 0] ++ zeros 552)) 0) s (fun t => t.fop.xfers.map (·.data.length) == [1024]) = true ∧
      after (.segWriteData (msg 0x1811 0 ([3, 0, 0, 0, 0, 4, 0, 0] ++ zeros 1024)) 0) s (fun t => t.fop.xfers.map (·.data.length) == [2048]) = true := by decide +kernel

/-- R36, R354: the width of a CRC unit takes 16 and refuses 12, which is not in its range. -/
theorem test_write : after (.write (msg 0x6820 1 [16])) wUp (fun t => t.reg 0x6820 1 == 16) = true ∧ after (.write (msg 0x6820 1 [12])) wUp (fun t => t.reg 0x6820 1 == 32) = true := by decide +kernel

/-- R355: a U32 feed of 0x34333231 equals the bytes 0x31, 0x32, 0x33, 0x34. -/
theorem test_feed : after (.crcFeed hd 0 2 0x34333231) wUp (fun t => t.reg 0x6820 7 == crcRun 32 0x1EDC6F41 true (wUp.reg 0x6820 7) [0x31, 0x32, 0x33, 0x34]) = true := by decide +kernel

/-- R400: bands at 45 and 70 °C with 2 °C of hysteresis downward. -/
theorem test_bands : [nextBand 0 719, nextBand 0 720, nextBand 1 689, nextBand 1 688, nextBand 1 1120, nextBand 2 1089, nextBand 2 1088] = [0, 1, 1, 0, 2, 2, 1] := by decide

/-- R461: before VBAT has been seen a command meets a device held in reset. -/
theorem test_held : after (.read (msg 0x0022 0 [])) State.reset (fun t => t.tx.isEmpty) = true := by decide +kernel

/-- A step takes the front of the queue; on an empty queue time passes (log entry 4). -/
theorem test_step :
    (match step { wUp with pending := [.wakeN, .rtcAlarm] } with | .next t => t.pending | _ => []) = [.rtcAlarm] ∧
      (match step wUp with | .next t => t.clk.now | _ => 0) = wUp.clk.now + 1 := by decide +kernel

-- R255: a FIRE block stands inside a LINE frame, a retransmission goes before a new LINE frame, a command behind both
theorem test_lane_order :
    let b := fun (k : Nat) => (true, leBytes 8 k)
    let l := (((LaneOut.fresh.add 0 3 [b 1, b 2]).upTo (.down 0 0) 0 []).1.add 0 4 [b 3]).add 0 3 [b 4]
    let l1 := (l.add 0 2 [b 5]).add 0 0 [b 6]
    ((l1.pick.map fun p => (p.1.2, p.2.pick.map fun q => (q.1.2, q.2.pick.map fun r => (r.1.2, r.2.pick.map fun t => t.1.2)))) ==
      some (leBytes 8 6, some (leBytes 8 2, some (leBytes 8 5, some (leBytes 8 4))))) = true := by decide

/-- The worked example of R321: units of a slice in L8, and in L6 without pair 1. -/
theorem test_unit_place : placeIn 15 (4208 * 256) = (0, 134656) ∧ placeIn 13 (4208 * 256) = (4, 179456) ∧ placeIn 13 (4212 * 256) = (0, 179712) := by decide

/-! ## Hypotheses are met -/

theorem and_four {a b c d e : Prop} (h : a ∧ b ∧ c ∧ d) (k : e) : a ∧ b ∧ c ∧ d ∧ e := ⟨h.1, h.2.1, h.2.2.1, h.2.2.2, k⟩

theorem far1 (x y : Nat) (g : Gen) (jb : Job) (k n : Nat) (nx : Sparse Nat) (m : Nat) (h : m ∈ g.finishes jb k nx n) : x + 8192 * m + 8192 ≤ x + 131072 + y + 128 := by
  have : m < 16 := by simp [Gen.finishes, upTo] at h; exact h.1
  omega

theorem far2 (x y : Nat) : y + 128 ≤ x + 131072 + y + 128 := by omega

theorem pl_next (k : Fin 32) (w : BitVec 32) (ce : Restored) (s : State) : exec (.pipelineLine k w ce) s = .next (State.conclude (s.awake fun s => s.pipeLine k w.toNat ce)) := rfl

theorem test_FopReadsAndWrites_hypotheses :
  (∃ (s : State) (u : State) (m : FopMsg) (o : Obj), s.Admits m.head 1 (obj m.index.toNat m.sub.toNat) ∧ u = s.counted m.head ∧ lookup m.index.toNat m.sub.toNat = some o ∧ o.ty = .u ∧ accessOf m.index.toNat m.sub.toNat o ≠ .wo ∧ m.index ≠ 0x8020 ∧ m.payload = []) ∧
  (∃ (s : State) (u : State) (m : FopMsg) (o : Obj) (v : Nat), s.Admits m.head 2 (obj m.index.toNat m.sub.toNat) ∧ u = s.counted m.head ∧ lookup m.index.toNat m.sub.toNat = some o ∧ o.ty = .u ∧ o.acc ≠ .cmd ∧ accessOf m.index.toNat m.sub.toNat o ≠ .ro ∧ m.index ≠ 0x8020 ∧ (m.index < 0x7C00 ∨ 0x7D00 ≤ m.index) ∧ m.payload.length = o.size ∧ v = leVal m.payload ∧ inRange o v = true ∧ (needsIdle m.index.toNat m.sub.toNat o && !u.idleFor m.index.toNat m.sub.toNat) = false ∧ u.crcBusy m.index.toNat m.sub.toNat = false ∧ u.fitsState m.index.toNat m.sub.toNat v = true) ∧
  (∃ (s : State) (u : State) (m : FopMsg) (o : Obj) (off : Nat) (n : Nat), s.Admits m.head 0xA (obj m.index.toNat m.sub.toNat) ∧ u = s.counted m.head ∧ lookup m.index.toNat m.sub.toNat = some o ∧ o.ranged = true ∧ accessOf m.index.toNat m.sub.toNat o ≠ .wo ∧ m.index ≠ 0x8020 ∧ m.payload.length = 6 ∧ off = leAt m.payload 0 4 ∧ n = leAt m.payload 4 2 ∧ 0 < n ∧ n ≤ 1024 ∧ off + n ≤ u.domSize m.index.toNat m.sub.toNat) ∧
  (∃ (s : State) (u : State) (m : FopMsg) (o : Obj) (off : Nat) (d : Bytes), s.Admits m.head 0xB (obj m.index.toNat m.sub.toNat) ∧ u = s.counted m.head ∧ lookup m.index.toNat m.sub.toNat = some o ∧ o.ranged = true ∧ accessOf m.index.toNat m.sub.toNat o ≠ .ro ∧ m.index ≠ 0x8020 ∧ m.payload = leBytes 4 off ++ d ∧ off < 2 ^ 32 ∧ 0 < d.length ∧ d.length ≤ 1024 ∧ off + d.length ≤ u.domSize m.index.toNat m.sub.toNat ∧ u.domIdle m.index.toNat = true ∧ u.lockedFor m.head.peer (obj m.index.toNat m.sub.toNat) = false) :=
  ⟨⟨wUp, wUp.counted hd, msg 0x0022 0 [], ⟨0x0022, 1, 1, 0, 1, .u, 8, .rw, true, false, 193, .bits 274877906943⟩,
   by decide +kernel⟩,
  ⟨wUp, wUp.counted hd, msg 0x0022 0 [5, 0, 0, 0, 0, 0, 0, 0], ⟨0x0022, 1, 1, 0, 1, .u, 8, .rw, true, false, 193, .bits 274877906943⟩, 5,
   by decide +kernel⟩,
  ⟨wUp, wUp.counted hd, msg 0x4019 0 [0,0,0,0,4,0], ⟨0x4019, 1, 1, 0, 1, .dom, 2097152, .ro, false, true, 0, .any⟩, 0, 4,
   by decide +kernel⟩,
  ⟨{ wUp with render := { wUp.render with buildSt := .building } }, State.counted { wUp with render := { wUp.render with buildSt := .building } } hd, msg 0x4011 0 [0,0,0,0,4], ⟨0x4011, 1, 1, 0, 1, .dom, 2097152, .rw, false, true, 0, .any⟩, 0, [4],
   by decide +kernel⟩⟩

theorem test_SegmentedTransfers_hypotheses :
  (∃ (s : State) (u : State) (m : FopMsg) (o : Obj) (n : Nat), s.Admits m.head 3 (obj m.index.toNat m.sub.toNat) ∧ u = s.counted m.head ∧ lookup m.index.toNat m.sub.toNat = some o ∧ o.ty = .dom ∧ accessOf m.index.toNat m.sub.toNat o ≠ .wo ∧ m.index ≠ 0x8020 ∧ m.payload = [] ∧ n = u.domSize m.index.toNat m.sub.toNat ∧ u.fop.xfers.length < 8 ∧ u.locked (obj m.index.toNat m.sub.toNat) = false) ∧
  (∃ (s : State) (u : State) (m : FopMsg) (x : Xfer) (off : Nat) (n : Nat), s.Admits m.head 4 (obj m.index.toNat m.sub.toNat) ∧ u = s.counted m.head ∧ lookup m.index.toNat m.sub.toNat ≠ none ∧ (m.index.toNat = 0x8020 → u.ready 6 = true) ∧ m.payload.length = 8 ∧ u.transfer m.head.peer (obj m.index.toNat m.sub.toNat) (leAt m.payload 0 2) = some x ∧ x.isWrite = false ∧ off = leAt m.payload 4 4 ∧ n = min 1024 (x.size - off) ∧ segmentFits x.size off n = true) ∧
  (∃ (s : State) (u : State) (m : FopMsg) (o : Obj) (n : Nat), s.Admits m.head 5 (obj m.index.toNat m.sub.toNat) ∧ u = s.counted m.head ∧ lookup m.index.toNat m.sub.toNat = some o ∧ o.ty = .dom ∧ accessOf m.index.toNat m.sub.toNat o ≠ .ro ∧ m.index ≠ 0x8020 ∧ m.payload.length = 4 ∧ n = u.domSize m.index.toNat m.sub.toNat ∧ leAt m.payload 0 4 = n ∧ u.domIdle m.index.toNat = true ∧ u.fop.xfers.length < 8 ∧ u.locked (obj m.index.toNat m.sub.toNat) = false) ∧
  (∃ (s : State) (u : State) (m : FopMsg) (behind : BitVec 8) (x : Xfer) (d : Bytes), behind < 16 ∧ s.Admits m.head 6 (obj m.index.toNat m.sub.toNat) ∧ u = s.counted m.head ∧ lookup m.index.toNat m.sub.toNat ≠ none ∧ (m.index.toNat = 0x8020 → u.ready 6 = true) ∧ 8 ≤ m.payload.length ∧ u.transfer m.head.peer (obj m.index.toNat m.sub.toNat) (leAt m.payload 0 2) = some x ∧ x.isWrite = true ∧ leAt m.payload 4 4 = x.data.length ∧ d = m.payload.drop 8 ∧ segmentFits x.size x.data.length d.length = true) ∧
  (∃ (s : State) (u : State) (m : FopMsg) (x : Xfer) (o : Obj), s.Admits m.head 7 (obj m.index.toNat m.sub.toNat) ∧ u = s.counted m.head ∧ lookup m.index.toNat m.sub.toNat = some o ∧ accessOf m.index.toNat m.sub.toNat o ≠ .ro ∧ m.index ≠ 0x8020 ∧ m.payload.length = 8 ∧ u.transfer m.head.peer (obj m.index.toNat m.sub.toNat) (leAt m.payload 0 2) = some x ∧ x.isWrite = true ∧ x.data.length = x.size ∧ crc32c x.data = leAt m.payload 4 4 ∧ contentsFit m.index.toNat x.data = true ∧ u.domIdle m.index.toNat = true) ∧
  (∃ (s : State) (u : State) (m : FopMsg) (x : Xfer), s.Admits m.head 7 (obj m.index.toNat m.sub.toNat) ∧ u = s.counted m.head ∧ lookup m.index.toNat m.sub.toNat ≠ none ∧ (m.index.toNat = 0x8020 → u.ready 6 = true) ∧ m.payload.length = 8 ∧ u.transfer m.head.peer (obj m.index.toNat m.sub.toNat) (leAt m.payload 0 2) = some x ∧ x.isWrite = false ∧ x.changed = false ∧ u.domRead m.index.toNat m.sub.toNat 0 x.size = x.seen) ∧
  (∃ (s : State) (u : State) (m : FopMsg) (x : Xfer), s.Admits m.head 8 (obj m.index.toNat m.sub.toNat) ∧ u = s.counted m.head ∧ lookup m.index.toNat m.sub.toNat ≠ none ∧ m.payload.length = 4 ∧ u.transfer m.head.peer (obj m.index.toNat m.sub.toNat) (leAt m.payload 0 2) = some x) ∧
  (∃ (s : State) (handle : BitVec 16) (x : Xfer), s.alive = true ∧ (s.fop.xfers.find? (fun y => y.handle == handle.toNat) = some x) ∧ x.last + 2000000000 ≤ s.clk.now) :=
  ⟨⟨wUp, wUp.counted hd, msg 0x1811 0 [], ⟨0x1811, 1, 1, 0, 1, .dom, 160, .rw, true, false, 0, .any⟩, 160,
   by decide +kernel⟩,
  ⟨{ wUp with fop := ⟨[], [⟨9, hd.peer, obj 0x1811 0, false, 160, [], false, 0, []⟩]⟩ }, State.counted { wUp with fop := ⟨[], [⟨9, hd.peer, obj 0x1811 0, false, 160, [], false, 0, []⟩]⟩ } hd, msg 0x1811 0 [9,0,0,0,0,0,0,0], ⟨9, hd.peer, obj 0x1811 0, false, 160, [], false, 0, []⟩, 0, 160,
   by decide +kernel⟩,
  ⟨wUp, wUp.counted hd, msg 0x1811 0 [160,0,0,0], ⟨0x1811, 1, 1, 0, 1, .dom, 160, .rw, true, false, 0, .any⟩, 160,
   by decide +kernel⟩,
  ⟨{ wUp with fop := ⟨[], [⟨9, hd.peer, obj 0x1811 0, true, 2, [], false, 0, []⟩]⟩ }, State.counted { wUp with fop := ⟨[], [⟨9, hd.peer, obj 0x1811 0, true, 2, [], false, 0, []⟩]⟩ } hd, msg 0x1811 0 [9,0,0,0,0,0,0,0,1,2], 3, ⟨9, hd.peer, obj 0x1811 0, true, 2, [], false, 0, []⟩, [1,2],
   by decide +kernel⟩,
  ⟨{ wUp with fop := ⟨[], [⟨9, hd.peer, obj 0x1811 0, true, 0, [], false, 0, []⟩]⟩ }, State.counted { wUp with fop := ⟨[], [⟨9, hd.peer, obj 0x1811 0, true, 0, [], false, 0, []⟩]⟩ } hd, ⟨hd, 0x1811, 0, [9,0,0,0] ++ leBytes 4 (crc32c [])⟩, ⟨9, hd.peer, obj 0x1811 0, true, 0, [], false, 0, []⟩, ⟨0x1811, 1, 1, 0, 1, .dom, 160, .rw, true, false, 0, .any⟩,
   by decide +kernel⟩,
  ⟨{ wUp with fop := ⟨[], [⟨9, hd.peer, obj 0x1811 0, false, 2, [0, 0], false, 0, [0, 0]⟩]⟩ }, State.counted { wUp with fop := ⟨[], [⟨9, hd.peer, obj 0x1811 0, false, 2, [0, 0], false, 0, [0, 0]⟩]⟩ } hd, ⟨hd, 0x1811, 0, [9,0,0,0,0,0,0,0]⟩, ⟨9, hd.peer, obj 0x1811 0, false, 2, [0, 0], false, 0, [0, 0]⟩,
   by decide +kernel⟩,
  ⟨{ wUp with fop := ⟨[], [⟨9, hd.peer, obj 0x1811 0, false, 2, [0, 0], false, 0, [0, 0]⟩]⟩ }, State.counted { wUp with fop := ⟨[], [⟨9, hd.peer, obj 0x1811 0, false, 2, [0, 0], false, 0, [0, 0]⟩]⟩ } hd, ⟨hd, 0x1811, 0, [9,0,0,0]⟩, ⟨9, hd.peer, obj 0x1811 0, false, 2, [0, 0], false, 0, [0, 0]⟩,
   by decide +kernel⟩,
  ⟨{ wUp with clk := ⟨2000000000, 0, 0, 0⟩, fop := ⟨[], [⟨9, hd.peer, obj 0x1811 0, false, 2, [0, 0], false, 0, [0, 0]⟩]⟩ }, 9, ⟨9, hd.peer, obj 0x1811 0, false, 2, [0, 0], false, 0, [0, 0]⟩,
   by decide +kernel⟩⟩

theorem test_ClientsAndNotifications_hypotheses :
  (∃ (s : State) (u : State) (m : FopMsg) (k : Nat), s.Admits m.head 9 (obj m.index.toNat m.sub.toNat) ∧ u = s.counted m.head ∧ lookup m.index.toNat m.sub.toNat ≠ none ∧ k < 4 ∧ m.payload = [BitVec.ofNat 8 k, 1]) ∧
  (∃ (s : State) (peer : Peer) (tid : BitVec 16), s.alive = true ∧ s.fopUp = true ∧ s.reaches peer = true ∧ s.fopCount.allowed peer = true ∧ (s.slot 0).peer = some peer ∧ (s.slot 1).peer ≠ some peer ∧ (s.slot 2).peer ≠ some peer ∧ (s.slot 3).peer ≠ some peer) ∧
  (∃ (s : State) (src : Peer) (bytes : Bytes), s.fopUp = true ∧ s.reaches src = true ∧ fopSound bytes = false) ∧
  (∃ (s : State) (src : Peer) (c : Client), s.alive = true ∧ s.client src = some c ∧ c.last + 60000000000 ≤ s.clk.now ∧ (s.fop.xfers.any (fun x => x.owner == src) = false) ∧ ([0, 1, 2, 3].any (fun k => (s.slot k).peer == some src) = false)) ∧
  (∃ (s : State) (src : Peer) (tid : BitVec 16), s.alive = true) ∧
  (∃ (s : State) (slot : Fin 4) (n : NotifySlot) (p : Peer) (d : Bytes) (rest : List Bytes) (used : List Nat), s.alive = true ∧ s.fopUp = true ∧ s.reaches p = true ∧ s.slot slot = n ∧ n.peer = some p ∧ n.waiting = d :: rest ∧ n.out.length < 8 ∧ (used = [0, 1, 2, 3].flatMap fun j => (s.slot j).out.map (·.tid)) ∧ used.length ≤ 32) ∧
  (∃ (s : State) (slot : Fin 4) (tid : BitVec 16) (p : Peer) (x : Notice), s.alive = true ∧ s.fopUp = true ∧ s.reaches p = true ∧ (s.slot slot).peer = some p ∧ ((s.slot slot).out.find? (fun y => y.tid == tid.toNat) = some x) ∧ x.sent + 100000000 ≤ s.clk.now ∧ x.sends < 4) :=
  ⟨⟨wUp, wUp.counted hd, msg 0x1813 1 [2, 1], 2,
   by decide +kernel⟩,
  ⟨{ wUp with ev := { wUp.ev with notify := [(0, ⟨some hd.peer, [], [⟨5, [], 0, 1⟩]⟩)] } }, hd.peer, 5,
   by decide +kernel⟩,
  ⟨wUp, hd.peer, [1, 2],
   by decide +kernel⟩,
  ⟨{ cl wUp with clk := ⟨60000000000, 0, 0, 0⟩ }, hd.peer, ⟨hd.peer, 0, []⟩,
   by decide +kernel⟩,
  ⟨wUp, hd.peer, 5,
   by decide +kernel⟩,
  ⟨{ wUp with ev := { wUp.ev with notify := [(0, ⟨some hd.peer, [[1]], []⟩)] } }, 0, ⟨some hd.peer, [[1]], []⟩, hd.peer, [1], [], _,
   (and_four (by decide +kernel) ⟨by decide +kernel, by decide +kernel, by decide +kernel, rfl, Nat.zero_le _⟩)⟩,
  ⟨{ wUp with clk := ⟨100000000, 0, 0, 0⟩, ev := { wUp.ev with notify := [(0, ⟨some hd.peer, [], [⟨5, [], 0, 1⟩]⟩)] } }, 0, 5, hd.peer, ⟨5, [], 0, 1⟩,
   by decide +kernel⟩⟩

theorem test_EventsSettingsAndRings_hypotheses :
  (∃ (s : State) (u : State) (h : FopHead) (n : BitVec 8), s.Admits h 2 (obj (0x7A00 + n.toNat) 5) ∧ u = s.counted h) ∧
  (∃ (s : State) (u : State) (h : FopHead), s.Admits h 2 (obj 0x0040 1) ∧ u = s.counted h ∧ u.reg 0x0040 2 = 0) ∧
  (∃ (s : State) (u : State) (h : FopHead), s.Admits h 2 (obj 0x0040 1) ∧ u = s.counted h ∧ u.reg 0x0040 2 = 0) ∧
  (∃ (s : State), s.alive = true ∧ s.reg 0x0040 2 = 1) ∧
  (∃ (s : State), s.alive = true ∧ s.reg 0x0040 2 = 2) ∧
  (∃ (s : State), s.alive = true ∧ (s.reg 0x0040 2 = 1 ∨ s.reg 0x0040 2 = 2)) ∧
  (∃ (s : State) (u : State) (h : FopHead) (q : BitVec 8) (k : Nat), s.Admits h 2 (obj (0x7C00 + q.toNat) 5) ∧ u = s.counted h ∧ clientQueue q.toNat = true ∧ Ring.active u.ev q.toNat = false ∧ k = u.reg (0x7C00 + q.toNat) 1 ∧ k ≠ 0 ∧ u.ev.ringUsed + 2 ^ k ≤ ringMemory) ∧
  (∃ (s : State) (u : State) (h : FopHead) (q : BitVec 8), s.Admits h 2 (obj (0x7C00 + q.toNat) 5) ∧ u = s.counted h ∧ clientQueue q.toNat = true ∧ Ring.active u.ev q.toNat = true ∧ Ring.held u.ev q.toNat = 0) ∧
  (∃ (s : State) (u : State) (h : FopHead) (q : BitVec 8) (v : BitVec 32), s.Admits h 2 (obj (0x7C00 + q.toNat) 2) ∧ u = s.counted h ∧ bit (roles q.toNat) 0 = false ∧ Ring.active u.ev q.toNat = true ∧ Ring.held u.ev q.toNat ≤ u.ahead q.toNat v.toNat ∧ u.ahead q.toNat v.toNat ≤ Ring.size u.ev q.toNat) ∧
  (∃ (s : State) (u : State) (h : FopHead) (q : BitVec 8) (v : BitVec 32), s.Admits h 2 (obj (0x7C00 + q.toNat) 3) ∧ u = s.counted h ∧ bit (roles q.toNat) 1 = false ∧ Ring.active u.ev q.toNat = true ∧ u.ahead q.toNat v.toNat ≤ Ring.held u.ev q.toNat) :=
  ⟨⟨wUp, State.counted (wUp) hd, hd, 3,
   by decide +kernel⟩,
  ⟨wUp, State.counted (wUp) hd, hd,
   by decide +kernel⟩,
  ⟨wUp, State.counted (wUp) hd, hd,
   by decide +kernel⟩,
  ⟨wUp.put 0x4002 1,
   by decide +kernel⟩,
  ⟨wUp.put 0x4002 2,
   by decide +kernel⟩,
  ⟨wUp.put 0x4002 2,
   by decide +kernel⟩,
  ⟨wUp.put 0x7C8001 4, State.counted (wUp.put 0x7C8001 4) hd, hd, 128, 4,
   by decide +kernel⟩,
  ⟨{ wUp with ev := wUp.ev.ringAllocate 128 4 }, State.counted { wUp with ev := wUp.ev.ringAllocate 128 4 } hd, hd, 128,
   by decide +kernel⟩,
  ⟨{ wUp with ev := wUp.ev.ringAllocate 128 4 }, State.counted { wUp with ev := wUp.ev.ringAllocate 128 4 } hd, hd, 128, 0,
   by decide +kernel⟩,
  ⟨{ wUp with ev := wUp.ev.ringAllocate 180 4 }, State.counted { wUp with ev := wUp.ev.ringAllocate 180 4 } hd, hd, 180, 0,
   by decide +kernel⟩⟩

theorem test_UnitsAndPowerStates_hypotheses :
  (∃ (s : State) (u : State) (h : FopHead) (n : Nat), s.Admits h 2 (obj 0x0028 2) ∧ u = s.counted h ∧ n = u.reg 0x0028 1 ∧ validUnit n = true ∧ u.unit n = 0 ∧ u.unitBusy = false ∧ u.unitMayGo n = true) ∧
  (∃ (s : State) (u : State) (h : FopHead) (n : Nat), s.Admits h 2 (obj 0x0028 2) ∧ u = s.counted h ∧ n = u.reg 0x0028 1 ∧ validUnit n = true ∧ n / 256 = 2 ∧ u.unit n = 2 ∧ u.unitBusy = false) ∧
  (∃ (s : State) (u : State) (h : FopHead) (n : Nat) (v : State), s.Admits h 2 (obj 0x0028 2) ∧ u = s.counted h ∧ n = u.reg 0x0028 1 ∧ validUnit n = true ∧ n / 256 = 1 ∧ u.unit n = 2 ∧ u.unitBusy = false ∧ v = (u.loopEnd (n % 256)).unitTo n 3) ∧
  (∃ (s : State) (u : State) (h : FopHead) (n : Nat) (v : State), s.Admits h 2 (obj 0x0028 2) ∧ u = s.counted h ∧ n = u.reg 0x0028 1 ∧ validUnit n = true ∧ n / 256 = 3 ∧ u.unit n = 2 ∧ u.unitBusy = false ∧ v = u.unitTo n 3) ∧
  (∃ (s : State) (n : BitVec 16), s.alive = true ∧ validUnit n.toNat = true ∧ n.toNat / 256 = 2 ∧ s.unit n.toNat = 1 ∧ (∀ j ∈ s.render.jobs, j.out = n.toNat % 256 ∨ ∀ p, s.page j.page = some p → ∀ i < 8, j.count p ≤ j.stepOf (8 * (n.toNat % 256) + i))) ∧
  (∃ (s : State) (n : BitVec 16), s.alive = true ∧ validUnit n.toNat = true ∧ n.toNat / 256 = 1 ∧ s.unit n.toNat = 1 ∧ s.units.moved = true ∧ s.drainedPages = true) ∧
  (∃ (s : State) (n : BitVec 16), s.alive = true ∧ validUnit n.toNat = true ∧ n.toNat / 256 = 3 ∧ s.unit n.toNat = 1 ∧ s.drainedPages = true ∧ s.dmaClaimed = true) ∧
  (∃ (s : State) (n : BitVec 16), s.alive = true ∧ validUnit n.toNat = true ∧ n.toNat / 256 = 1 ∧ s.unit n.toNat = 3 ∧ s.linkState (n.toNat % 256) = 5 ∧ s.units.moved = true) ∧
  (∃ (s : State) (n : BitVec 16), s.alive = true ∧ validUnit n.toNat = true ∧ n.toNat / 256 = 2 ∧ s.unit n.toNat = 3) ∧
  (∃ (s : State) (n : BitVec 16), s.alive = true ∧ validUnit n.toNat = true ∧ n.toNat / 256 = 2 ∧ s.unit n.toNat = 3) ∧
  (∃ (s : State) (n : BitVec 16) (p : Nat), s.alive = true ∧ validUnit n.toNat = true ∧ n.toNat / 256 = 3 ∧ s.unit n.toNat = 3 ∧ p = n.toNat % 256) ∧
  (∃ (s : State) (n : BitVec 16), s.alive = true ∧ validUnit n.toNat = true ∧ n.toNat / 256 = 1 ∧ s.unit n.toNat = 3) ∧
  (∃ (s : State) (t : State) (n : BitVec 16), s.alive = true ∧ validUnit n.toNat = true ∧ n.toNat / 256 = 3 ∧ s.unit n.toNat = 3 ∧ t = ((s.unitTo n.toNat 0).set 0x0028 4 0).pairTo (n.toNat % 256) 0 1) :=
  ⟨⟨wUp.put 0x2801 0x0100, State.counted (wUp.put 0x2801 0x0100) hd, hd, 0x0100,
   by decide +kernel⟩,
  ⟨({ wUp with units := ⟨[(0x0200, 2)], [], false⟩ }).put 0x2801 0x0200, State.counted (({ wUp with units := ⟨[(0x0200, 2)], [], false⟩ }).put 0x2801 0x0200) hd, hd, 0x0200,
   by decide +kernel⟩,
  ⟨({ wUp with units := ⟨[(0x0100, 2)], [], false⟩ }).put 0x2801 0x0100, State.counted (({ wUp with units := ⟨[(0x0100, 2)], [], false⟩ }).put 0x2801 0x0100) hd, hd, 0x0100, _,
   (and_four (by decide +kernel) ⟨by decide +kernel, by decide +kernel, by decide +kernel, rfl⟩)⟩,
  ⟨({ wUp with units := ⟨[(0x0300, 2)], [], false⟩ }).put 0x2801 0x0300, State.counted (({ wUp with units := ⟨[(0x0300, 2)], [], false⟩ }).put 0x2801 0x0300) hd, hd, 0x0300, (State.counted (({ wUp with units := ⟨[(0x0300, 2)], [], false⟩ }).put 0x2801 0x0300) hd).unitTo 0x0300 3,
   (and_four (by decide +kernel) ⟨by decide +kernel, by decide +kernel, by decide +kernel, rfl⟩)⟩,
  ⟨{ wUp with units := ⟨[(0x0200, 1)], [], false⟩ }, 0x0200,
   (and_four (by decide +kernel) ((fun j hj => nomatch hj)))⟩,
  ⟨{ wUp with units := ⟨[(0x0100, 1)], [], true⟩ }, 0x0100,
   by decide +kernel⟩,
  ⟨({ wUp with units := ⟨[(0x0300, 1)], [], true⟩ }).put 0x700006 3, 0x0300,
   by decide +kernel⟩,
  ⟨({ wUp with units := ⟨[(0x0100, 3)], [], true⟩ }).put 0x300101 5, 0x0100,
   by decide +kernel⟩,
  ⟨({ wUp with units := ⟨[(0x0200, 3)], [], true⟩ }), 0x0200,
   by decide +kernel⟩,
  ⟨({ wUp with units := ⟨[(0x0200, 3)], [], true⟩ }), 0x0200,
   by decide +kernel⟩,
  ⟨({ wUp with units := ⟨[(0x0300, 3)], [], true⟩ }), 0x0300, 0,
   by decide +kernel⟩,
  ⟨({ wUp with units := ⟨[(0x0100, 3)], [], true⟩ }), 0x0100,
   by decide +kernel⟩,
  ⟨({ wUp with units := ⟨[(0x0300, 3)], [], true⟩ }), _, 0x0300,
   (and_four (by decide +kernel) (rfl))⟩⟩

theorem test_PowerStatesChange_hypotheses :
  (∃ (s : State) (u : State) (h : FopHead), s.Admits h 2 (obj 0x0030 1) ∧ u = s.counted h ∧ u.boot.due = .none ∧ u.reg 0x0030 2 ≠ 1 ∧ u.pagesActive = false ∧ (([0, 1, 2, 3].any fun a => [2, 3, 4].contains (u.axisState a)) = false) ∧ u.settingsBusy = false ∧ u.wakeUsable 1 = true) ∧
  (∃ (s : State) (u : State) (h : FopHead), s.Admits h 2 (obj 0x0030 1) ∧ u = s.counted h ∧ u.boot.due = .none ∧ u.reg 0x0030 2 ≠ 2 ∧ u.pagesActive = false ∧ (([0, 1, 2, 3].any fun a => [2, 3, 4].contains (u.axisState a)) = false) ∧ u.settingsBusy = false ∧ u.wakeUsable 2 = true) ∧
  (∃ (s : State) (u : State) (h : FopHead), s.Admits h 2 (obj 0x0030 1) ∧ u = s.counted h ∧ u.boot.due = .none ∧ u.reg 0x0030 2 ≠ 3 ∧ u.pagesActive = false) ∧
  (∃ (s : State) (u : State) (h : FopHead), s.Admits h 2 (obj 0x0030 1) ∧ u = s.counted h ∧ u.boot.due = .none ∧ u.reg 0x0030 2 ≠ 4 ∧ u.pagesActive = false) ∧
  (∃ (s : State), s.boot.phase = .keep ∧ bit (s.reg 0x0031 1) 0 = true) ∧
  (∃ (s : State), s.boot.phase = .deep ∧ bit (s.reg 0x0031 1) 1 = true ∧ s.reg 0x0031 2 ≠ 0 ∧ s.reg 0x0031 2 ≤ s.clk.lf) ∧
  (∃ (s : State) (h : FopHead), s.boot.phase = .keep ∧ s.reaches h.peer = true ∧ s.allowed h.peer = true ∧ bit (s.reg 0x0031 1) 2 = true) :=
  ⟨⟨wUp.put 0x3101 2, State.counted (wUp.put 0x3101 2) hd, hd,
   by decide +kernel⟩,
  ⟨wUp.put 0x3101 4, State.counted (wUp.put 0x3101 4) hd, hd,
   by decide +kernel⟩,
  ⟨wUp.put 0x3002 4, State.counted (wUp.put 0x3002 4) hd, hd,
   by decide +kernel⟩,
  ⟨wUp.put 0x3002 3, State.counted (wUp.put 0x3002 3) hd, hd,
   by decide +kernel⟩,
  ⟨({ wUp with boot := { wUp.boot with phase := .keep } }).put 0x3101 1,
   by decide +kernel⟩,
  ⟨(({ wUp with boot := { wUp.boot with phase := .deep }, clk := ⟨0, 0, 9, 0⟩ }).put 0x3101 2).put 0x3102 5,
   by decide +kernel⟩,
  ⟨({ wUp with boot := { wUp.boot with phase := .keep } }).put 0x3101 4, hd,
   by decide +kernel⟩⟩

theorem test_StashRequests_hypotheses :
  (∃ (s : State) (u : State) (n : Fin 64) (x : Session) (r : Req) (o : StashObj), s.alive = true ∧ s.headReq n = some (r, true) ∧ s.sess n = some x ∧ r.ty = 0x10 ∧ u = s.takeReq n ∧ u.ready 8 = true ∧ createOk r.body = true ∧ o = parseObject x.ns u.pairsIn (Config.choice u.fresh.1) r.body ∧ u.jobs.obj x.ns o.id = none ∧ x.charge + o.charge ≤ x.stashQuota ∧ o.charge ≤ u.stashFree) ∧
  (∃ (s : State) (u : State) (n : Fin 64) (x : Session) (r : Req) (o : StashObj) (t : Tile) (i : Nat) (len : Nat) (off : Nat) (k : Nat), s.alive = true ∧ s.headReq n = some (r, true) ∧ s.sess n = some x ∧ r.ty = 0x11 ∧ bit (leAt r.body 16 1) 0 = false ∧ u = s.takeReq n ∧ i = leAt r.body 4 4 ∧ len = leAt r.body 8 4 ∧ off = leAt r.body 12 4 ∧ k = leAt r.body 20 4 ∧ u.ready 8 = true ∧ 24 ≤ r.body.length ∧ r.body.length = (pad4 (zeros (24 + k))).length ∧ u.jobs.obj x.ns (leAt r.body 0 4) = some o ∧ i < o.tileCount ∧ t = sget Tile.none o.tiles i ∧ t.st = .empty ∧ o.dataFits i len off k = true ∧ (patchGot off (slice r.body 24 k) t.got).length < len) ∧
  (∃ (s : State) (u : State) (n : Fin 64) (x : Session) (r : Req) (o : StashObj) (t : Tile) (i : Nat) (len : Nat) (off : Nat) (k : Nat), s.alive = true ∧ s.headReq n = some (r, true) ∧ s.sess n = some x ∧ r.ty = 0x11 ∧ bit (leAt r.body 16 1) 0 = true ∧ u = s.takeReq n ∧ i = leAt r.body 4 4 ∧ len = leAt r.body 8 4 ∧ off = leAt r.body 12 4 ∧ k = leAt r.body 20 4 ∧ u.ready 8 = true ∧ 24 ≤ r.body.length ∧ r.body.length = (pad4 (zeros (24 + k))).length ∧ u.jobs.obj x.ns (leAt r.body 0 4) = some o ∧ i < o.tileCount ∧ t = sget Tile.none o.tiles i ∧ t.st = .lost ∧ o.dataFits i len off k = true ∧ (patchGot off (slice r.body 24 k) t.got).length < len) ∧
  (∃ (s : State) (u : State) (n : Fin 64) (x : Session) (r : Req) (o : StashObj), s.alive = true ∧ s.headReq n = some (r, true) ∧ s.sess n = some x ∧ r.ty = 0x12 ∧ u = s.takeReq n ∧ u.ready 8 = true ∧ r.body.length = 4 ∧ u.jobs.obj x.ns (leAt r.body 0 4) = some o ∧ u.jobs.pinned x.ns (leAt r.body 0 4) = false) ∧
  (∃ (s : State) (n : Fin 64) (x : Session) (o : StashObj) (id : Nat) (i : Nat) (num : Nat) (t : Tile), s.alive = true ∧ s.sess n = some x ∧ x.codec = some (id, i, num) ∧ s.ready 9 = true ∧ s.jobs.obj x.ns id = some o ∧ t = sget Tile.none o.tiles i ∧ o.raw = true ∧ x.codecDone = true) ∧
  (∃ (s : State) (n : Fin 64) (x : Session) (o : StashObj) (id : Nat) (i : Nat) (num : Nat) (t : Tile) (e : Qtc.Err), s.alive = true ∧ s.sess n = some x ∧ x.codec = some (id, i, num) ∧ s.ready 9 = true ∧ s.jobs.obj x.ns id = some o ∧ t = sget Tile.none o.tiles i ∧ o.raw = false ∧ s.decoderFree = true ∧ Qtc.decode (o.tileDim i).1 (o.tileDim i).2 o.ch o.depth t.bytes = .inl e) ∧
  (∃ (s : State) (n : Fin 64) (x : Session) (o : StashObj) (id : Nat) (i : Nat) (num : Nat) (t : Tile) (d : List (List Nat)), s.alive = true ∧ s.sess n = some x ∧ x.codec = some (id, i, num) ∧ s.ready 9 = true ∧ s.jobs.obj x.ns id = some o ∧ t = sget Tile.none o.tiles i ∧ o.raw = false ∧ s.decoderFree = true ∧ Qtc.decode (o.tileDim i).1 (o.tileDim i).2 o.ch o.depth t.bytes = .inr d) :=
  ⟨⟨wReq 0x10 [1,0,0,0, 8,0,0,0, 1,0,0,0, 1, 8, 1, 1, 0, 0, 8,0, 1,0, 0,0, 0,0,0,0, 0,0,0,0], State.takeReq (wReq 0x10 [1,0,0,0, 8,0,0,0, 1,0,0,0, 1, 8, 1, 1, 0, 0, 8,0, 1,0, 0,0, 0,0,0,0, 0,0,0,0]) 0, 0, { sess0 with reqs := [⟨1, 0x10, [1,0,0,0, 8,0,0,0, 1,0,0,0, 1, 8, 1, 1, 0, 0, 8,0, 1,0, 0,0, 0,0,0,0, 0,0,0,0], false, none⟩] }, ⟨1, 0x10, [1,0,0,0, 8,0,0,0, 1,0,0,0, 1, 8, 1, 1, 0, 0, 8,0, 1,0, 0,0, 0,0,0,0, 0,0,0,0], false, none⟩, parseObject 0 15 (Config.choice 0) [1,0,0,0, 8,0,0,0, 1,0,0,0, 1, 8, 1, 1, 0, 0, 8,0, 1,0, 0,0, 0,0,0,0, 0,0,0,0],
   (and_four (by decide +kernel) ⟨by decide +kernel, by decide +kernel, by decide +kernel, rfl, by decide +kernel⟩)⟩,
  ⟨withObj (wReq 0x11 [7,0,0,0, 0,0,0,0, 4,0,0,0, 0,0,0,0, 0,0,0,0, 2,0,0,0, 5,6,0,0]) obj0, State.takeReq (withObj (wReq 0x11 [7,0,0,0, 0,0,0,0, 4,0,0,0, 0,0,0,0, 0,0,0,0, 2,0,0,0, 5,6,0,0]) obj0) 0, 0, { sess0 with reqs := [⟨1, 0x11, [7,0,0,0, 0,0,0,0, 4,0,0,0, 0,0,0,0, 0,0,0,0, 2,0,0,0, 5,6,0,0], false, none⟩] }, ⟨1, 0x11, [7,0,0,0, 0,0,0,0, 4,0,0,0, 0,0,0,0, 0,0,0,0, 2,0,0,0, 5,6,0,0], false, none⟩, obj0, Tile.none, 0, 4, 0, 2,
   by decide +kernel⟩,
  ⟨withObj (wReq 0x11 [7,0,0,0, 0,0,0,0, 4,0,0,0, 0,0,0,0, 1,0,0,0, 2,0,0,0, 5,6,0,0]) { obj0 with tiles := [(0, ⟨.lost, 4, [], [], false, 0⟩)] }, State.takeReq (withObj (wReq 0x11 [7,0,0,0, 0,0,0,0, 4,0,0,0, 0,0,0,0, 1,0,0,0, 2,0,0,0, 5,6,0,0]) { obj0 with tiles := [(0, ⟨.lost, 4, [], [], false, 0⟩)] }) 0, 0, { sess0 with reqs := [⟨1, 0x11, [7,0,0,0, 0,0,0,0, 4,0,0,0, 0,0,0,0, 1,0,0,0, 2,0,0,0, 5,6,0,0], false, none⟩] }, ⟨1, 0x11, [7,0,0,0, 0,0,0,0, 4,0,0,0, 0,0,0,0, 1,0,0,0, 2,0,0,0, 5,6,0,0], false, none⟩, { obj0 with tiles := [(0, ⟨.lost, 4, [], [], false, 0⟩)] }, ⟨.lost, 4, [], [], false, 0⟩, 0, 4, 0, 2,
   by decide +kernel⟩,
  ⟨withObj (wReq 0x12 [7,0,0,0]) obj0, State.takeReq (withObj (wReq 0x12 [7,0,0,0]) obj0) 0, 0, { sess0 with reqs := [⟨1, 0x12, [7,0,0,0], false, none⟩] }, ⟨1, 0x12, [7,0,0,0], false, none⟩, obj0,
   by decide +kernel⟩,
  ⟨withObj (wSess { sess0 with codec := some (7, 0, 3), codecDone := true }) { obj0 with raw := true }, 0, { sess0 with codec := some (7, 0, 3), codecDone := true }, { obj0 with raw := true }, 7, 0, 3, Tile.none,
   by decide +kernel⟩,
  ⟨withObj (wSess { sess0 with codec := some (7, 0, 3) }) obj0, 0, { sess0 with codec := some (7, 0, 3) }, obj0, 7, 0, 3, Tile.none, ⟨5,65535,65535,255⟩,
   by decide +kernel⟩,
  ⟨withObj (wSess { sess0 with codec := some (7, 0, 3) }) { obj0 with tiles := [(0, ⟨.empty, 25, [(0,0x51),(1,0x54),(2,1),(4,8),(6,1),(8,10),(10,20),(12,5),(19,0x40),(20,0x3f),(21,0x8a),(22,0xb2),(23,0x28),(24,0x8c)], [], false, 0⟩)] }, 0, { sess0 with codec := some (7, 0, 3) }, { obj0 with tiles := [(0, ⟨.empty, 25, [(0,0x51),(1,0x54),(2,1),(4,8),(6,1),(8,10),(10,20),(12,5),(19,0x40),(20,0x3f),(21,0x8a),(22,0xb2),(23,0x28),(24,0x8c)], [], false, 0⟩)] }, 7, 0, 3, ⟨.empty, 25, [(0,0x51),(1,0x54),(2,1),(4,8),(6,1),(8,10),(10,20),(12,5),(19,0x40),(20,0x3f),(21,0x8a),(22,0xb2),(23,0x28),(24,0x8c)], [], false, 0⟩, ((Qtc.decode 8 1 1 8 (Tile.bytes ⟨.empty, 25, [(0,0x51),(1,0x54),(2,1),(4,8),(6,1),(8,10),(10,20),(12,5),(19,0x40),(20,0x3f),(21,0x8a),(22,0xb2),(23,0x28),(24,0x8c)], [], false, 0⟩)).getRight?).getD [],
   by decide +kernel⟩⟩

theorem test_PageRequests_hypotheses :
  (∃ (s : State) (u : State) (n : Fin 64) (x : Session) (r : Req) (g : Group), s.alive = true ∧ s.headReq n = some (r, true) ∧ s.sess n = some x ∧ r.ty = 0x13 ∧ u = s.takeReq n ∧ u.ready 7 = true ∧ 16 ≤ r.body.length ∧ ¬ (0 < leAt r.body 2 2 ∧ leAt r.body 2 2 ≤ 4096 ∧ r.body.length ≠ 16 + 32 * leAt r.body 2 2) ∧ checkGroup r.body (u.jobs.groupUsed x.ns (leAt r.body 0 2)) = none ∧ g = parseGroup x.ns r.body) ∧
  (∃ (s : State) (u : State) (n : Fin 64) (x : Session) (r : Req) (p : Page), s.alive = true ∧ s.headReq n = some (r, true) ∧ s.sess n = some x ∧ r.ty = 0x14 ∧ u = s.takeReq n ∧ u.ready 7 = true ∧ r.body.length = 48 + 32 * leAt r.body 10 2 + 8 * leAt r.body 28 2 ∧ u.jobs.pageId x.ns (leAt r.body 0 4) = none ∧ (checkPage u.jobs x.ns r.body false (decide (u.jobs.pages.countP (fun p => !p.st.final) ≥ 4096)) = none) ∧ p = u.newPage n x r.body) ∧
  (∃ (s : State) (u : State) (n : Fin 64) (x : Session) (r : Req) (p : Page), s.alive = true ∧ s.headReq n = some (r, true) ∧ s.sess n = some x ∧ r.ty = 0x15 ∧ u = s.takeReq n ∧ u.ready 7 = true ∧ r.body.length = 4 ∧ u.jobs.pageId x.ns (leAt r.body 0 4) = some p ∧ u.linesHeld x.ns + p.len ≤ x.pageQuota ∧ chunksOf p.len ≤ u.reg 0x4800 1 ∧ u.unreserved n ≠ 0 ∧ p.st = .defined ∧ u.jobs.queue.length < 1024) ∧
  (∃ (s : State) (u : State) (n : Fin 64) (x : Session) (r : Req) (p : Page), s.alive = true ∧ s.headReq n = some (r, true) ∧ s.sess n = some x ∧ r.ty = 0x16 ∧ u = s.takeReq n ∧ u.ready 7 = true ∧ r.body.length = 4 ∧ u.jobs.pageId x.ns (leAt r.body 0 4) = some p ∧ u.page p.num = some p ∧ p.st = .waiting) ∧
  (∃ (s : State) (u : State) (n : Fin 64) (x : Session) (r : Req) (p : Page), s.alive = true ∧ s.headReq n = some (r, true) ∧ s.sess n = some x ∧ r.ty = 0x17 ∧ u = s.takeReq n ∧ r.body.length = 4 ∧ u.jobs.pageId x.ns (leAt r.body 0 4) = some p) ∧
  (∃ (s : State) (u : State) (n : Fin 64) (x : Session) (r : Req) (p : Page) (v : State), s.alive = true ∧ s.headReq n = some (r, true) ∧ s.sess n = some x ∧ r.ty = 0x18 ∧ u = s.takeReq n ∧ u.ready 7 = true ∧ u.ready 9 = true ∧ r.body.length = 16 ∧ leAt r.body 4 1 ≤ 15 ∧ 0 < leAt r.body 12 4 ∧ leAt r.body 12 4 ≤ 1024 ∧ u.jobs.pageId x.ns (leAt r.body 0 4) = some p ∧ u.readbackHeld p.num = true ∧ leAt r.body 8 4 + leAt r.body 12 4 ≤ p.len ∧ (v = u.updSess n fun x => { x with readback := some ⟨r.num, p.num, leAt r.body 4 1, leAt r.body 8 4, leAt r.body 12 4, 0, [], 0, false⟩ })) ∧
  (∃ (s : State) (u : State) (n : Fin 64) (x : Session) (r : Req), s.alive = true ∧ s.headReq n = some (r, true) ∧ s.sess n = some x ∧ r.ty = 0x1f ∧ u = s.takeReq n ∧ r.body.length = 4) :=
  ⟨⟨wReq 0x13 ([1,0, 1,0, 1,0, 1,0, 0,0,0,0, 0,0,0,0, 1,0,0,0] ++ zeros 28), State.takeReq (wReq 0x13 ([1,0, 1,0, 1,0, 1,0, 0,0,0,0, 0,0,0,0, 1,0,0,0] ++ zeros 28)) 0, 0, { sess0 with reqs := [⟨1, 0x13, ([1,0, 1,0, 1,0, 1,0, 0,0,0,0, 0,0,0,0, 1,0,0,0] ++ zeros 28), false, none⟩] }, ⟨1, 0x13, ([1,0, 1,0, 1,0, 1,0, 0,0,0,0, 0,0,0,0, 1,0,0,0] ++ zeros 28), false, none⟩, parseGroup 0 ([1,0, 1,0, 1,0, 1,0, 0,0,0,0, 0,0,0,0, 1,0,0,0] ++ zeros 28),
   by decide +kernel⟩,
  ⟨wReq 0x14 ([7,0,0,0, 128,0,0,0, 0,0, 0,0, 1,0,0,0] ++ zeros 32), State.takeReq (wReq 0x14 ([7,0,0,0, 128,0,0,0, 0,0, 0,0, 1,0,0,0] ++ zeros 32)) 0, 0, { sess0 with reqs := [⟨1, 0x14, ([7,0,0,0, 128,0,0,0, 0,0, 0,0, 1,0,0,0] ++ zeros 32), false, none⟩] }, ⟨1, 0x14, ([7,0,0,0, 128,0,0,0, 0,0, 0,0, 1,0,0,0] ++ zeros 32), false, none⟩, State.newPage (State.takeReq (wReq 0x14 ([7,0,0,0, 128,0,0,0, 0,0, 0,0, 1,0,0,0] ++ zeros 32)) 0) 0 { sess0 with reqs := [⟨1, 0x14, ([7,0,0,0, 128,0,0,0, 0,0, 0,0, 1,0,0,0] ++ zeros 32), false, none⟩] } ([7,0,0,0, 128,0,0,0, 0,0, 0,0, 1,0,0,0] ++ zeros 32),
   by decide +kernel⟩,
  ⟨(withPage (wReq 0x15 [7,0,0,0]) page0).put 0x480001 100, State.takeReq ((withPage (wReq 0x15 [7,0,0,0]) page0).put 0x480001 100) 0, 0, { sess0 with reqs := [⟨1, 0x15, [7,0,0,0], false, none⟩] }, ⟨1, 0x15, [7,0,0,0], false, none⟩, page0,
   by decide +kernel⟩,
  ⟨withPage (wReq 0x16 [7,0,0,0]) { page0 with st := .waiting }, State.takeReq (withPage (wReq 0x16 [7,0,0,0]) { page0 with st := .waiting }) 0, 0, { sess0 with reqs := [⟨1, 0x16, [7,0,0,0], false, none⟩] }, ⟨1, 0x16, [7,0,0,0], false, none⟩, { page0 with st := .waiting },
   by decide +kernel⟩,
  ⟨withPage (wReq 0x17 [7,0,0,0]) page0, State.takeReq (withPage (wReq 0x17 [7,0,0,0]) page0) 0, 0, { sess0 with reqs := [⟨1, 0x17, [7,0,0,0], false, none⟩] }, ⟨1, 0x17, [7,0,0,0], false, none⟩, page0,
   by decide +kernel⟩,
  ⟨withPage (wReq 0x18 [7,0,0,0, 0,0,0,0, 0,0,0,0, 1,0,0,0]) { page0 with st := .rendered }, State.takeReq (withPage (wReq 0x18 [7,0,0,0, 0,0,0,0, 0,0,0,0, 1,0,0,0]) { page0 with st := .rendered }) 0, 0, { sess0 with reqs := [⟨1, 0x18, [7,0,0,0, 0,0,0,0, 0,0,0,0, 1,0,0,0], false, none⟩] }, ⟨1, 0x18, [7,0,0,0, 0,0,0,0, 0,0,0,0, 1,0,0,0], false, none⟩, { page0 with st := .rendered }, State.updSess (State.takeReq (withPage (wReq 0x18 [7,0,0,0, 0,0,0,0, 0,0,0,0, 1,0,0,0]) { page0 with st := .rendered }) 0) 0 fun x => { x with readback := some ⟨1, 1, 0, 0, 1, 0, [], 0, false⟩ },
   by decide +kernel⟩,
  ⟨wReq 0x1f [0,0,0,0], State.takeReq (wReq 0x1f [0,0,0,0]) 0, 0, { sess0 with reqs := [⟨1, 0x1f, [0,0,0,0], false, none⟩] }, ⟨1, 0x1f, [0,0,0,0], false, none⟩,
   by decide +kernel⟩⟩

theorem test_SessionTimersAndPackets_hypotheses :
  (∃ (s : State) (u : State) (pk : MspPacket) (n : Nat) (x : Session) (b : Bytes), s.alive = true ∧ s.mspSilent pk = false ∧ b = pk.payload ∧ b.length = 40 ∧ leAt b 0 2 = 0x534D ∧ crc32c (b.take 36) = leAt b 36 4 ∧ leAt b 2 1 = 1 ∧ leAt b 5 1 = 0 ∧ n = leAt b 4 1 ∧ n ≠ 0xFF ∧ s.sess n = some x ∧ x.st = 1 ∧ x.token = leAt b 8 4 ∧ (u = s.updSess n fun y => { y with lastRx := s.clk.now, peer := ⟨pk.he, pk.peer⟩ })) ∧
  (∃ (s : State) (n : Fin 64) (x : Session) (t : Nat), s.alive = true ∧ s.sess n = some x ∧ x.ackDue = some t ∧ t ≤ s.clk.now) ∧
  (∃ (s : State) (n : Fin 64) (psn : BitVec 32) (x : Session) (p : Sent), s.alive = true ∧ s.sess n = some x ∧ x.st = 1 ∧ (x.flight.find? (fun p => p.psn == psn.toNat) = some p) ∧ p.marked = false ∧ p.sent + p.rto ≤ s.clk.now ∧ p.resends < s.reg 0x5020 3) ∧
  (∃ (s : State) (n : Fin 64) (x : Session), s.alive = true ∧ s.sess n = some x ∧ x.st = 1 ∧ x.lastRx + x.keepMs * 1000000 ≤ s.clk.now) ∧
  (∃ (s : State) (n : Fin 64) (x : Session), s.alive = true ∧ s.sess n = some x ∧ x.st = 1 ∧ x.quiet + x.keepMs * 250000 ≤ s.clk.now) ∧
  (∃ (s : State) (handle : BitVec 32) (o : Opening), s.alive = true ∧ (s.msp.opening.find? (fun o => o.handle == handle.toNat) = some o) ∧ o.live s.clk.now = false ∧ o.sess = none) ∧
  (∃ (s : State) (slot : Fin 16) (t : Nat), s.alive = true ∧ sget none s.msp.locked slot = some t ∧ t ≤ s.clk.now) ∧
  (∃ (s : State) (u : State) (h : FopHead) (n : Fin 64) (x : Session), s.Admits h 2 (obj (0x5030 + n.val) 8) ∧ u = s.counted h ∧ u.sess n = some x) ∧
  (∃ (s : State) (u : State) (h : FopHead) (slot : Fin 16), s.Admits h 2 (obj (0x5010 + slot.val) 2) ∧ u = s.counted h) ∧
  (∃ (s : State) (n : Fin 64) (x : Session), s.alive = true ∧ s.sess n = some x ∧ x.st = 2 ∧ x.closing ≠ 0 ∧ x.closeAt ≤ s.clk.now) ∧
  (∃ (s : State) (n : Fin 64) (x : Session), s.alive = true ∧ s.sess n = some x ∧ s.maySend n = true) :=
  ⟨⟨wHost sess0, (wHost sess0).updSess 0 fun y => { y with lastRx := 0, peer := ⟨0, hd.peer⟩ }, wPacket wAck, 0, sess0, wAck,
   by decide +kernel⟩,
  ⟨wSess { sess0 with ackDue := some 0 }, 0, { sess0 with ackDue := some 0 }, 0,
   by decide +kernel⟩,
  ⟨wSess { sess0 with flight := [⟨1, [], 1, 1, 0, 0, 0, false, false⟩] }, 0, 1, { sess0 with flight := [⟨1, [], 1, 1, 0, 0, 0, false, false⟩] }, ⟨1, [], 1, 1, 0, 0, 0, false, false⟩,
   by decide +kernel⟩,
  ⟨{ wSess sess0 with clk := ⟨1000000000, 0, 0, 0⟩ }, 0, sess0,
   by decide +kernel⟩,
  ⟨{ wSess sess0 with clk := ⟨1000000000, 0, 0, 0⟩ }, 0, sess0,
   by decide +kernel⟩,
  ⟨{ wUp with clk := ⟨1000000000, 0, 0, 0⟩, msp := { wUp.msp with opening := [⟨5, ⟨0, hd.peer⟩, 3, 6, 4, [], [], 0, none, [], none⟩] } }, 5, ⟨5, ⟨0, hd.peer⟩, 3, 6, 4, [], [], 0, none, [], none⟩,
   by decide +kernel⟩,
  ⟨{ wUp with msp := { wUp.msp with locked := [(3, some 0)] } }, 3, 0,
   by decide +kernel⟩,
  ⟨wSess sess0, (wSess sess0).counted hd, hd, 0, sess0,
   by decide +kernel⟩,
  ⟨wUp, State.counted (wUp) hd, hd, 3,
   by decide +kernel⟩,
  ⟨wSess { sess0 with st := 2, closing := 2 }, 0, { sess0 with st := 2, closing := 2 },
   by decide +kernel⟩,
  ⟨{ wSess sess0 with ev := { (((wUp.ev.ringAllocate 0 6).ringAllocate 64 6).ringPut 0 0 64 fun seq => descriptor 0x11 0 64 seq 1 0 0).1 with resv := [] } }, 0, sess0,
   by decide +kernel⟩⟩

theorem test_OpeningASession_hypotheses :
  (∃ (s : State) (pk : MspPacket) (b : Bytes) (r : MspRec) (nonce : Bytes), s.alive = true ∧ s.mspSilent pk = false ∧ b = pk.payload ∧ 40 ≤ b.length ∧ leAt b 0 2 = 0x534D ∧ crc32c (b.take 36) = leAt b 36 4 ∧ leAt b 2 1 = 1 ∧ leAt b 4 1 = 0xFF ∧ leAt b 5 1 = 1 ∧ leAt b 8 4 = 0 ∧ leAt b 12 4 = 0 ∧ leAt b 16 4 = 0 ∧ parseRecords 2 (b.drop 40) = some [r] ∧ r.ty = 1 ∧ parseRecords ((b.drop 40).length + 1) (b.drop 40) = some [r] ∧ leAt r.body 1 1 = 1 ∧ s.msp.opening = [] ∧ s.openRefused 1 (leAt r.body 0 1) (leAt r.body 2 1) (leAt r.body 3 1) = none ∧ nonce = fit 16 (slice r.body 8 16)) ∧
  (∃ (s : State) (pk : MspPacket) (b : Bytes) (r : MspRec) (o : Opening), s.alive = true ∧ s.mspSilent pk = false ∧ b = pk.payload ∧ 40 ≤ b.length ∧ leAt b 0 2 = 0x534D ∧ crc32c (b.take 36) = leAt b 36 4 ∧ leAt b 2 1 = 1 ∧ leAt b 4 1 = 0xFF ∧ leAt b 5 1 = 1 ∧ leAt b 8 4 = 0 ∧ leAt b 12 4 = 0 ∧ leAt b 16 4 = 0 ∧ parseRecords 2 (b.drop 40) = some [r] ∧ r.ty = 3 ∧ parseRecords ((b.drop 40).length + 1) (b.drop 40) = some [r] ∧ (s.msp.opening.find? (fun o => o.handle == leAt r.body 0 4 && o.live s.clk.now && o.src.peer == pk.peer) = some o) ∧ o.proof = none ∧ fit 32 (slice r.body 8 32) = hmac (s.slotKey o.slot) ([0x4D, 0x53, 0x50, 0x31] ++ o.signed) ∧ s.proofRefused o = none) :=
  ⟨⟨((wHost sess0).put 0x501302 1).put 0x501306 1 |>.put 0x501305 9, wPacket wOpen, wOpen, ⟨1, false, 0, wOpenBody⟩, zeros 16,
   by decide +kernel⟩,
  ⟨{ (wHost sess0).put 0x501305 9 with msp := { (wHost sess0).msp with opening := [wOpening] } }, wPacket wProof, wProof, ⟨3, false, 0, wProofBody⟩, wOpening,
   by decide +kernel⟩⟩

theorem test_NetworkPortsAndCodec_hypotheses :
  (∃ (s : State) (u : State) (h : FopHead) (he : Fin 2) (v : BitVec 8), s.Admits h 2 (obj 0x5000 (1 + he.val)) ∧ u = s.counted h ∧ v.toNat ≤ 7 ∧ u.alive = true ∧ u.reg 0x5000 (1 + he.val) ≠ v.toNat) ∧
  (∃ (s : State) (he : Fin 2) (link : BitVec 8), s.alive = true ∧ modeReaches (s.reg 0x5000 (1 + he.val)) link.toNat = true ∧ s.heState he ≠ link.toNat) ∧
  (∃ (s : State) (port : Fin 3) (mac : BitVec 48) (ip : BitVec 32) (target : BitVec 32), port.val < 2 ∧ s.heUp port = true ∧ s.reg 0x5002 (1 + 2 * port.val) = target.toNat ∧ target ≠ 0) ∧
  (∃ (s : State) (he : Fin 2) (mac : BitVec 48) (src : BitVec 128) (target : BitVec 128), s.alive = true ∧ s.heUp he = true ∧ beVal (s.bytes 0x5003 (1 + he.val) 0 16) = target.toNat ∧ target ≠ 0) ∧
  (∃ (s : State) (fn : Fin 2) (link : BitVec 8), s.alive = true ∧ link.toNat ≤ 4) ∧
  (∃ (s : State) (fn : Fin 2) (dst : BitVec 48) (frame : Bytes), s.alive = true ∧ s.flag 0x1804 0 = true ∧ s.fnUp fn = true ∧ s.fnUp (1 - fn.val) = true ∧ bit dst.toNat 40 = true) ∧
  (∃ (s : State) (w : State) (d : Fin 16) (x : Decoder) (t : TileRef) (o : StashObj) (v : List (List Nat)), s.alive = true ∧ s.decoder d = some x ∧ t = x.tile ∧ s.jobs.obj t.ns t.obj = some o ∧ Qtc.decodeFrom (o.tileDim t.tile).1 (o.tileDim t.tile).2 o.ch o.depth (sget Tile.none o.tiles t.tile).block x.walk = .inr v ∧ s.cacheUsed + s.jobs.tileBytes t ≤ s.cacheSize ∧ w = State.count { s with render := { s.render with cache := s.render.cache ++ [⟨t, s.wantedBy t, 0, s.jobs.tileBytes t⟩] } } 0x5800 1 64 1) ∧
  (∃ (s : State) (d : Fin 16) (x : Decoder), s.alive = true ∧ s.decoder d = some x ∧ s.jobs.obj x.tile.ns x.tile.obj = none) ∧
  (∃ (s : State) (d : Fin 16) (words : BitVec 32) (x : Decoder) (k : Qtc.Block) (w : Qtc.Walk), s.alive = true ∧ s.decoder d = some x ∧ s.blockOf x.tile = some k ∧ x.words ≤ words.toNat ∧ 64 * words.toNat < 8 * k.payload.length ∧ k.resume (64 * words.toNat) k.samples x.walk = .inr w ∧ w.written k < k.samples) ∧
  (∃ (s : State) (d : Fin 16) (samples : BitVec 32) (words : BitVec 32) (x : Decoder) (k : Qtc.Block) (w : Qtc.Walk), s.alive = true ∧ s.decoder d = some x ∧ s.blockOf x.tile = some k ∧ x.words ≤ words.toNat ∧ x.walk.written k ≤ samples.toNat ∧ samples.toNat < k.samples ∧ k.resume (64 * words.toNat) samples.toNat x.walk = .inr w ∧ w.written k = samples.toNat ∧ 64 * words.toNat ≤ w.pos + 128) ∧
  (∃ (s : State) (u : State) (e : Fin 4) (j : Encoder) (t : TileRef) (o : StashObj) (blk : Bytes), s.alive = true ∧ sget none s.render.encoders e = some j ∧ j.raw = some t ∧ u = { s with render := { s.render with encoders := sset none s.render.encoders e none } } ∧ s.jobs.obj t.ns t.obj = some o ∧ blk = Qtc.encode ⟨j.t1, j.t2, j.copy, j.minLen, j.stored⟩ (o.tileDim t.tile).1 (o.tileDim t.tile).2 o.depth (Qtc.planesOf (o.tileDim t.tile).1 (o.tileDim t.tile).2 o.ch (Qtc.samplesOf o.depth ((o.tileDim t.tile).1 * (o.tileDim t.tile).2 * o.ch) (sget Tile.none o.tiles t.tile).bytes))) :=
  ⟨⟨wUp, State.counted (wUp) hd, hd, 1, 5,
   by decide +kernel⟩,
  ⟨wUp, 1, 4,
   by decide +kernel⟩,
  ⟨wHost sess0, 0, 3, 4, 1,
   by decide +kernel⟩,
  ⟨(wHost sess0).setBytes 0x5003 1 0 (beBytes 16 9), 0, 3, 4, 9,
   by decide +kernel⟩,
  ⟨wUp, 1, 2,
   by decide +kernel⟩,
  ⟨((wUp.put 0x180400 1).put 0x180001 2).put 0x180002 2, 1, 0xFFFFFFFFFFFF, [1],
   by decide +kernel⟩,
  ⟨withObj { wUp with render := { wUp.render with decoders := [(2, some ⟨⟨0, 7, 0⟩, 0, .start⟩)] } } ({ obj0 with tiles := [(0, ⟨.complete, 25, [], [0x51,0x54,1,0,8,0,1,0,10,0,20,0,5,0,0,0,0,0,0,0x40,0x3f,0x8a,0xb2,0x28,0x8c], false, 0⟩)] }), State.count { withObj { wUp with render := { wUp.render with decoders := [(2, some ⟨⟨0, 7, 0⟩, 0, .start⟩)] } } ({ obj0 with tiles := [(0, ⟨.complete, 25, [], [0x51,0x54,1,0,8,0,1,0,10,0,20,0,5,0,0,0,0,0,0,0x40,0x3f,0x8a,0xb2,0x28,0x8c], false, 0⟩)] }) with render := { wUp.render with decoders := [(2, some ⟨⟨0, 7, 0⟩, 0, .start⟩)], cache := [⟨⟨0, 7, 0⟩, 0, 0, 8⟩] } } 0x5800 1 64 1, 2, ⟨⟨0, 7, 0⟩, 0, .start⟩, ⟨0, 7, 0⟩, { obj0 with tiles := [(0, ⟨.complete, 25, [], [0x51,0x54,1,0,8,0,1,0,10,0,20,0,5,0,0,0,0,0,0,0x40,0x3f,0x8a,0xb2,0x28,0x8c], false, 0⟩)] }, [List.replicate 8 0],
   by decide +kernel⟩,
  ⟨{ wUp with render := { wUp.render with decoders := [(2, some ⟨⟨0, 7, 0⟩, 0, .start⟩)] } }, 2, ⟨⟨0, 7, 0⟩, 0, .start⟩,
   by decide +kernel⟩,
  ⟨withObj { wUp with render := { wUp.render with decoders := [(2, some ⟨⟨0, 7, 0⟩, 0, .start⟩)] } } ({ obj0 with tiles := [(0, ⟨.complete, 25, [], [0x51,0x54,1,0,8,0,1,0,10,0,20,0,5,0,0,0,0,0,0,0x40,0x3f,0x8a,0xb2,0x28,0x8c], false, 0⟩)] }), 2, 0, ⟨⟨0, 7, 0⟩, 0, .start⟩, ⟨⟨8, 8, 10, 20⟩, 1, 1, false, [0, 0, 0, 64, 63], 0x8C28B28A⟩, .start,
   by decide +kernel⟩,
  ⟨withObj { wUp with render := { wUp.render with decoders := [(2, some ⟨⟨0, 7, 0⟩, 0, .start⟩)] } } ({ obj0 with tiles := [(0, ⟨.complete, 25, [], [0x51,0x54,1,0,8,0,1,0,10,0,20,0,5,0,0,0,0,0,0,0x40,0x3f,0x8a,0xb2,0x28,0x8c], false, 0⟩)] }), 2, 0, 0, ⟨⟨0, 7, 0⟩, 0, .start⟩, ⟨⟨8, 8, 10, 20⟩, 1, 1, false, [0, 0, 0, 64, 63], 0x8C28B28A⟩, .start,
   by decide +kernel⟩,
  ⟨withObj { wUp with render := { wUp.render with encoders := [(1, some ⟨0, some ⟨0, 7, 0⟩, 10, 20, false, 4, false⟩)] } } obj0, withObj wUp obj0, 1, ⟨0, some ⟨0, 7, 0⟩, 10, 20, false, 4, false⟩, ⟨0, 7, 0⟩, obj0, Qtc.encode ⟨10, 20, false, 4, false⟩ 8 1 8 (Qtc.planesOf 8 1 1 (Qtc.samplesOf 8 8 (sget Tile.none obj0.tiles 0).bytes)),
   by decide +kernel⟩⟩

theorem test_RendersAndVerify_hypotheses :
  (∃ (s : State) (p : Page), s.alive = true ∧ s.nextWaiting = some p ∧ s.startsWait = false ∧ chunksOf p.len ≤ s.freeChunks.length ∧ s.pagesRun = true ∧ s.notHiddenNow = false) ∧
  (∃ (s : State) (p : Page) (d : Int), s.alive = true ∧ s.nextWaiting = some p ∧ s.startsWait = false ∧ chunksOf p.len ≤ s.freeChunks.length ∧ s.pagesRun = true ∧ s.notHiddenNow = true ∧ s.reg 0x4020 3 = 0 ∧ s.slack p s.render.active = some d ∧ s.reg 0x4020 4 * 1000 < d ∧ s.render.holdPage ≠ p.num) ∧
  (∃ (s : State) (p : Page) (d : Int), s.alive = true ∧ s.render.holdPage = p.num ∧ p.num ≠ 0 ∧ s.nextWaiting = some p ∧ s.startsWait = false ∧ chunksOf p.len ≤ s.freeChunks.length ∧ s.pagesRun = true ∧ s.notHiddenNow = true ∧ s.slack p s.render.active = some d ∧ d ≤ s.reg 0x4020 4 * 1000) ∧
  (∃ (s : State) (i : Nat) (jb : Job) (p : Page) (first : Nat) (ask : List TileRef), s.alive = true ∧ s.walkJob = some (i, jb, p) ∧ s.spanLead < 64 ∧ (first = if jb.walked = 0 then 0 else jb.walked + s.reg 0x4001 4) ∧ (ask = ((upTo (jb.walked + s.reg 0x4001 4 + 1 - first)).flatMap fun q => if first + q < jb.count p then p.tilesAt s.jobs (jb.line p (first + q)) else []).eraseDups) ∧ ((ask.any fun t => s.jobs.tileSt t == .lost) = false)) ∧
  (∃ (s : State) (k : Fin 32) (waited : BitVec 32) (ce : Restored) (i : Nat) (jb : Job) (p : Page) (g : Gen) (n : Nat) (y : Nat) (need : List TileRef) (next : Sparse Nat), s.alive = true ∧ s.stripJob k = some (i, jb, p) ∧ n = jb.stepOf k ∧ y = jb.line p n ∧ s.genOf p.gen = some g ∧ need = (s.inputs p g).stripTiles k y ∧ n < jb.walked ∧ s.unwritten k < 64 ∧ ((need.any fun t => s.jobs.tileSt t == .lost) = false) ∧ ((need.any fun t => !s.resident t) = false) ∧ (ce ≠ .lost ∨ need = []) ∧ jb.repair = false ∧ jb.writes y = true ∧ next = sset 0 jb.next k (jb.stepAfter p k n)) ∧
  (∃ (s : State) (jb : Job), s.alive = true ∧ s.render.jobs.find? s.renderOver = some jb) ∧
  (∃ (s : State) (p : Page) (lines : List Nat) (bad : List Nat), s.alive = true ∧ s.verifying = some p ∧ lines = p.toVerify ∧ ((lines.filter fun y => s.lineFails p y (bad.contains y)) = [])) ∧
  (∃ (s : State) (p : Page) (lines : List Nat) (bad : List Nat) (y : Nat) (rest : List Nat), s.alive = true ∧ s.verifying = some p ∧ lines = p.toVerify ∧ ((lines.filter fun y => s.lineFails p y (bad.contains y)) = y :: rest) ∧ p.rerenders < s.reg 0x4810 2 ∧ s.mayRerender p = true) ∧
  (∃ (s : State) (p : Page), s.alive = true ∧ s.nextRelease = some p ∧ s.onBoard = false ∧ s.releasable p = true) :=
  ⟨⟨wPages { page0 with st := .waiting }, { page0 with st := .waiting },
   by decide +kernel⟩,
  ⟨((({ wPages { page0 with st := .waiting, num := 2 } with jobs := { wUp.jobs with pages := [{ page0 with st := .rendered }, { page0 with st := .waiting, num := 2, len := 0 }], queue := [1, 2] }, render := { wUp.render with pending := [3] } }).put 0x282008 100).put 0x402004 1), { page0 with st := .waiting, num := 2, len := 0 }, (((({ wPages { page0 with st := .waiting, num := 2 } with jobs := { wUp.jobs with pages := [{ page0 with st := .rendered }, { page0 with st := .waiting, num := 2, len := 0 }], queue := [1, 2] }, render := { wUp.render with pending := [3] } }).put 0x282008 100).put 0x402004 1)).slack { page0 with st := .waiting, num := 2, len := 0 } Gen.reset |>.getD 0,
   by decide +kernel⟩,
  ⟨((({ wPages { page0 with st := .waiting, len := 0 } with render := { wUp.render with pending := [3], holdPage := 1 } }).put 0x282008 100).put 0x402004 4000000000).put 0x4008 16, { page0 with st := .waiting, len := 0 }, ((({ wPages { page0 with st := .waiting, len := 0 } with render := { wUp.render with pending := [3] } }).put 0x282008 100).put 0x4008 16).slack { page0 with st := .waiting, len := 0 } Gen.reset |>.getD 0,
   by decide +kernel⟩,
  ⟨wJob page0 job0, 0, job0, page0, 0, [],
   by decide +kernel⟩,
  ⟨wJob { page0 with gen := 1 } { job0 with walked := 1 }, 3, 0, .clean, 0, { job0 with walked := 1 }, { page0 with gen := 1 }, Gen.reset, 0, 0, [], _,
   (and_four (by decide +kernel) ((and_four (by decide +kernel) ((and_four (by decide +kernel) ⟨by decide +kernel, rfl⟩)))))⟩,
  ⟨wJob page0 { job0 with lines := some [] }, { job0 with lines := some [] },
   by decide +kernel⟩,
  ⟨wPages { page0 with st := .rendered, relines := some [] }, { page0 with st := .rendered, relines := some [] }, [], [3],
   by decide +kernel⟩,
  ⟨(wPages { page0 with st := .rendered, relines := some [0], gen := 1 }).put 0x481002 3, { page0 with st := .rendered, relines := some [0], gen := 1 }, [0], [0], 0, [],
   by decide +kernel⟩,
  ⟨wRun (wPages { page0 with st := .verified }), { page0 with st := .verified },
   by decide +kernel⟩⟩

theorem test_BuildsAndSwaps_hypotheses :
  (∃ (s : State) (u : State) (h : FopHead) (p : Page), s.Admits h 2 (obj 0x4881 3) ∧ u = s.counted h ∧ u.page (u.reg 0x4881 1) = some p ∧ (u.frogPage (u.reg 0x4881 1) 2 false).2 = true) ∧
  (∃ (s : State) (u : State) (h : FopHead) (n : Nat) (r : Nat) (p : Page), s.Admits h 2 (obj 0x4881 3) ∧ u = s.counted h ∧ n = u.reg 0x4881 1 ∧ r = u.reg 0x4881 2 ∧ u.page n = some p ∧ u.movable n = true ∧ u.movable r = true) ∧
  (∃ (s : State) (u : State) (h : FopHead) (n : Nat) (p : Page), s.Admits h 2 (obj 0x4881 3) ∧ u = s.counted h ∧ n = u.reg 0x4881 1 ∧ u.page n = some p ∧ u.movable n = true) ∧
  (∃ (s : State) (u : State) (h : FopHead) (v : BitVec 32), s.Admits h 2 (obj 0x4800 1) ∧ u = s.counted h ∧ 16 ≤ v.toNat ∧ ((u.jobs.pages.all fun p => p.chunks.isEmpty) = true) ∧ u.storeFits v.toNat = true) ∧
  (∃ (s : State) (u : State) (h : FopHead), s.Admits h 2 (obj 0x4010 3) ∧ u = s.counted h ∧ u.render.device = none ∧ u.render.buildSt = .empty ∧ u.tablesUnderTest = false) ∧
  (∃ (s : State) (u : State) (h : FopHead), s.Admits h 2 (obj 0x4010 3) ∧ u = s.counted h ∧ u.render.device = none ∧ u.render.buildSt = .building ∧ u.tablesUnderTest = false) ∧
  (∃ (s : State) (u : State) (h : FopHead), s.Admits h 2 (obj 0x4010 3) ∧ u = s.counted h ∧ u.render.device = none ∧ u.render.buildSt = .building ∧ u.tablesUnderTest = false) ∧
  (∃ (s : State), s.alive = true ∧ s.render.buildSt = .cloning ∧ s.render.device = none) ∧
  (∃ (s : State) (w : BuildWhy), s.alive = true ∧ s.render.buildSt = .cloning ∧ s.render.device = some w) ∧
  (∃ (s : State), s.alive = true ∧ s.render.buildSt = .checking) ∧
  (∃ (s : State) (g : Gen) (left : List Nat), s.alive = true ∧ s.render.buildSt = .pending ∧ s.render.device = none ∧ s.render.jobs.any s.renderUnderWay = false ∧ g = { s.render.build with num := nextGen s.render.active.num } ∧ (left = s.render.pending.filter fun j => g.jetState j == 0 || g.jetState j == 3)) ∧
  (∃ (s : State) (w : BuildWhy), s.alive = true ∧ s.render.buildSt = .empty ∧ s.tablesUnderTest = false ∧ s.buildWanted = some w) ∧
  (∃ (s : State) (w : BuildWhy), s.alive = true ∧ s.render.buildSt = .building ∧ s.render.device = some w) ∧
  (∃ (s : State) (u : State) (h : FopHead), s.Admits h 2 (obj 0x4020 8) ∧ u = s.counted h) ∧
  (∃ (s : State) (w : TableWord), s.alive = true ∧ 1 ≤ w.table.val ∧ w.table.val ≤ 4) ∧
  (∃ (s : State) (w : TableWord), s.alive = true ∧ 1 ≤ w.table.val ∧ w.table.val ≤ 4 ∧ w.retained = false) :=
  ⟨⟨(wPages page0).put 0x488101 1, ((wPages page0).put 0x488101 1).counted hd, hd, page0,
   by decide +kernel⟩,
  ⟨((wPages page0).put 0x488101 1).put 0x488102 1, (((wPages page0).put 0x488101 1).put 0x488102 1).counted hd, hd, 1, 1, page0,
   by decide +kernel⟩,
  ⟨((wPages page0).put 0x488101 1), (((wPages page0).put 0x488101 1)).counted hd, hd, 1, page0,
   by decide +kernel⟩,
  ⟨{ wUp with dram := { wUp.dram with conf := [8, 2, 16, 6400], copies := [3, 12] } }, State.counted ({ wUp with dram := { wUp.dram with conf := [8, 2, 16, 6400], copies := [3, 12] } }) hd, hd, 20,
   by decide +kernel⟩,
  ⟨wUp, State.counted (wUp) hd, hd,
   by decide +kernel⟩,
  ⟨{ wUp with render := { wUp.render with buildSt := .building } }, State.counted ({ wUp with render := { wUp.render with buildSt := .building } }) hd, hd,
   by decide +kernel⟩,
  ⟨{ wUp with render := { wUp.render with buildSt := .building } }, State.counted ({ wUp with render := { wUp.render with buildSt := .building } }) hd, hd,
   by decide +kernel⟩,
  ⟨{ wUp with render := { wUp.render with buildSt := .cloning } },
   by decide +kernel⟩,
  ⟨{ wUp with render := { wUp.render with buildSt := .cloning, device := some .stitches } }, .stitches,
   by decide +kernel⟩,
  ⟨{ wUp with render := { wUp.render with buildSt := .checking } },
   by decide +kernel⟩,
  ⟨{ wUp with render := { wUp.render with buildSt := .pending, pending := [4] } }, ⟨2, [], 0, []⟩, [4],
   by decide +kernel⟩,
  ⟨{ wUp with render := { wUp.render with wanted := [.drain 3] } }, .drain 3,
   by decide +kernel⟩,
  ⟨{ wUp with render := { wUp.render with buildSt := .building, device := some .stitches } }, .stitches,
   by decide +kernel⟩,
  ⟨wUp, State.counted (wUp) hd, hd,
   by decide +kernel⟩,
  ⟨wUp, ⟨2, 7, false⟩,
   by decide +kernel⟩,
  ⟨wUp, ⟨2, 7, false⟩,
   by decide +kernel⟩⟩

theorem test_ReadoutAndFiring_hypotheses :
  (∃ (s : State) (pt : Fin 16) (k : Fin 4) (f : ReadFault) (p : Page) (mk : Nat) (n : Nat) (inst : Nat) (y : Nat), s.alive = true ∧ mk = lane pt k ∧ s.nextSlice mk (·.fetched) = some (p, n) ∧ inst = n / p.len ∧ y = n % p.len ∧ s.underTest (mk / 4) = false ∧ (s.lane mk).slices.length < 64 ∧ p.instStart inst + y + s.lag mk (p.instStart inst + y) / 64 ≤ s.row + 64) ∧
  (∃ (s : State) (r : Repair) (rest : List Repair) (p : Page), s.alive = true ∧ s.store.repairs = r :: rest ∧ ((s.store.repairs.any fun q => q.started) = false) ∧ s.page r.page = some p) ∧
  (∃ (s : State) (v : State) (r : Repair) (p : Page) (jb : Job) (g : Gen), s.alive = true ∧ ((s.store.repairs.find? fun r => r.started) = some r) ∧ s.page r.page = some p ∧ ((s.render.jobs.find? fun j => j.repair && j.page == r.page && j.lines == some [r.line]) = some jb) ∧ jb.done p = true ∧ s.genOf p.gen = some g ∧ v = s.writePortLines g jb r.line (upTo 16)) ∧
  (∃ (s : State) (pt : Fin 16) (k : Fin 4) (p : Page) (n : Nat) (mk : Nat) (x : Slice), s.alive = true ∧ mk = lane pt k ∧ s.nextSlice mk (·.sentN) = some (p, n) ∧ (s.lane mk).slice p n = some x ∧ s.sends mk = true ∧ x.refetch = false ∧ (s.lane mk).hasSlot (s.link (mk / 4)).depth = true) ∧
  (∃ (s : State) (t : State) (pt : Fin 16) (k : Fin 4) (p : Page) (n : Nat) (mk : Nat) (x : Slice), s.alive = true ∧ mk = lane pt k ∧ t = s.trailersDue mk (s.deadlineCome mk) ∧ t.nextSlice mk (·.sentN) = some (p, n) ∧ t.sends mk = true ∧ t.nsToDeadline p (n / p.len) (n % p.len) mk = 0 ∧ (t.lane mk).hasSlot (t.link (mk / 4)).depth = true ∧ (t.lane mk).slice p n = some x ∧ x.refetch = false) ∧
  (∃ (s : State) (t : State) (pt : Fin 16) (k : Fin 4) (p : Page) (n : Nat) (mk : Nat) (x : Slice), s.alive = true ∧ mk = lane pt k ∧ t = s.trailersDue mk (s.deadlineCome mk) ∧ t.nextSlice mk (·.sentN) = some (p, n) ∧ t.sends mk = true ∧ t.nsToDeadline p (n / p.len) (n % p.len) mk = 0 ∧ (t.lane mk).hasSlot (t.link (mk / 4)).depth = true ∧ (t.lane mk).slice p n = none ∧ (x = { page := p.num, inst := n / p.len, line := n % p.len, data := zeros 2048, crc := crc32c (zeros 2048), proven := false, poison := 2 ^ (if t.underTest (mk / 4) then 14 else 6), sent := none, sentCrc := 0, sends := 0, sentAt := 0, echo := 0, refetch := false })) ∧
  (∃ (s : State) (pt : Fin 16) (k : Fin 4) (tag : BitVec 16) (crc : BitVec 32) (x : Slice) (p : Page) (mk : Nat), s.alive = true ∧ mk = lane pt k ∧ s.linkState (mk / 4) = 5 ∧ (((s.lane mk).slices.find? fun x => x.sent == some tag.toNat) = some x) ∧ s.page x.page = some p ∧ s.echoLate p x.inst x.line mk = false ∧ crc.toNat = x.sentCrc ∧ x.sends = 1) ∧
  (∃ (s : State) (pt : Fin 16) (k : Fin 4) (tag : Nat) (rest : List Nat), s.alive = true ∧ (s.lane (lane pt k)).gone = tag :: rest) ∧
  (∃ (s : State) (v : State) (pt : Fin 16) (k : Fin 4) (p : Page) (mk : Nat) (n : Nat) (tpos : Nat) (l0 : Nat) (out : Nat) (inst : Nat) (y : Nat) (fine : Nat) (x : Slice) (why : List Nat), s.alive = true ∧ mk = lane pt k ∧ s.nextFire mk = some (p, n, tpos, l0, out) ∧ s.pos.posOk = true ∧ s.pos.hold = false ∧ out ≤ 2 * s.clk.now + 1 ∧ inst = n / p.len ∧ y = n % p.len ∧ inst < p.cast ∧ (v = s.trailersDue mk fun q i l => q == p.num && i == inst && l == y) ∧ (v.lane mk).slice p n = some x ∧ why = v.fireReasons mk (decide (n < sget 0 p.sentN mk)) (some x) ∧ s.linkState (mk / 4) = 5 ∧ fine = s.fineAt mk (s.target p inst y mk)) ∧
  (∃ (s : State) (t : State) (page : BitVec 32) (line : BitVec 32) (p : Page) (dn : Nat) (i : Nat) (left : Nat), s.alive = true ∧ s.page page.toNat = some p ∧ dn = p.firedAll ∧ (i = (if dn % p.len > line.toNat then dn / p.len else dn / p.len - 1)) ∧ left = s.fetchLeft p (i + 1) line.toNat ∧ s.flag 0x4810 4 = true ∧ p.st = .printing ∧ p.len ≠ 0 ∧ line.toNat < p.len ∧ line.toNat < dn ∧ i + 1 < p.insts ∧ (((upTo 64).all fun mk => !bit p.ports (mk / 4) || decide (sget 0 p.fetched mk ≤ (i + 1) * p.len + line.toNat)) = true) ∧ 64 + s.kMax p (p.instStart (i + 1) + line.toNat) < p.len + p.gap ∧ 2050 ≤ left ∧ p.reverified.contains (i, line.toNat) = false ∧ (t = s.updPage page.toNat fun q => { q with reverified := (i, line.toNat) :: q.reverified.filter fun e => decide (i ≤ e.1 + 1) })) :=
  ⟨⟨wPrint page1 Lane.empty, 0, 1, .clean, page1, 1, 0, 0, 0,
   by decide +kernel⟩,
  ⟨{ (wPrint { page1 with gen := 1, pos := 100000 } Lane.empty).put 0x481003 1 with store := { wUp.store with repairs := [⟨1, 127, 0, 1, 0, false, false, none⟩] } }, ⟨1, 127, 0, 1, 0, false, false, none⟩, [], { page1 with gen := 1, pos := 100000 },
   by decide +kernel⟩,
  ⟨{ wPrint { page1 with gen := 1 } Lane.empty with store := { wUp.store with repairs := [⟨1, 5, 0, 1, 0, true, false, none⟩] }, render := { wUp.render with jobs := [{ job0 with repair := true, lines := some [5], next := (upTo 32).map fun k => (k, 1) }] } }, _, ⟨1, 5, 0, 1, 0, true, false, none⟩, { page1 with gen := 1 }, { job0 with repair := true, lines := some [5], next := (upTo 32).map fun k => (k, 1) }, Gen.reset,
   (and_four (by decide +kernel) ⟨by decide +kernel, by decide +kernel, rfl⟩)⟩,
  ⟨wPrint page1 { Lane.empty with slices := [slice0] }, 0, 1, page1, 0, 1, slice0,
   by decide +kernel⟩,
  ⟨wPrint page1 { Lane.empty with slices := [slice0] }, wPrint page1 { Lane.empty with slices := [slice0] }, 0, 1, page1, 0, 1, slice0,
   by decide +kernel⟩,
  ⟨wPrint page1 Lane.empty, wPrint page1 Lane.empty, 0, 1, page1, 0, 1, { page := 1, inst := 0, line := 0, data := zeros 2048, crc := crc32c (zeros 2048), proven := false, poison := 64, sent := none, sentCrc := 0, sends := 0, sentAt := 0, echo := 0, refetch := false },
   (and_four (by decide +kernel) ((and_four (by decide +kernel) (rfl))))⟩,
  ⟨wPrint page1 { Lane.empty with slices := [{ slice0 with sent := some 9, sends := 1, sentCrc := 77 }] }, 0, 1, 9, 77, { slice0 with sent := some 9, sends := 1, sentCrc := 77 }, page1, 1,
   by decide +kernel⟩,
  ⟨wPrint page1 { Lane.empty with gone := [3, 4] }, 0, 1, 3, [4],
   by decide +kernel⟩,
  ⟨{ wPrint page1 { Lane.empty with slices := [{ slice0 with sent := some 9, sends := 1, sentCrc := 77, echo := 1 }] } with pos := { wUp.pos with hist := [(0, 0)] } }, { wPrint page1 { Lane.empty with slices := [{ slice0 with sent := some 9, sends := 1, sentCrc := 77, echo := 1 }] } with pos := { wUp.pos with hist := [(0, 0)] } }, 0, 1, page1, 1, 0, 0, 0, 0, 0, 0, 0, { slice0 with sent := some 9, sends := 1, sentCrc := 77, echo := 1 }, [],
   by decide +kernel⟩,
  ⟨(wPrint pageR Lane.empty).put 0x481004 1, ((wPrint pageR Lane.empty).put 0x481004 1).updPage 1 fun q => { q with reverified := [(1, 0)] }, 1, 0, pageR, 130, 1, ((wPrint pageR Lane.empty).put 0x481004 1).fetchLeft pageR 2 0,
   by decide +kernel⟩⟩

theorem test_PositionAndPasses_hypotheses :
  (∃ (s : State) (v : State) (e : Fin 2) (a : Bool) (b : Bool) (na : Bool) (nb : Bool) (c : Int) (t : Nat), s.alive = true ∧ v = (s.acceptLevels e s.clk.now).samplePins e a b ∧ v.acceptAt e 0 (s.clk.now + 1) = some t ∧ v.acceptAt e 1 (s.clk.now + 1) = none ∧ na = ((v.pinLevel e 0).1 == 1) ∧ nb = bit (v.levels e) 1 ∧ bit (v.levels e) 0 ≠ na ∧ (c = v.i64 (0x2810 + e) 3 + (if ((na != nb) != v.flag (0x2810 + e) 2) = true then 1 else -1)) ∧ e ≠ 0) ∧
  (∃ (s : State) (v : State) (c : Int) (t : Nat) (rest : List (Int × Nat)), s.alive = true ∧ v = (s.acceptLevels 0 (s.clk.now + 1)).acceptLevels 1 (s.clk.now + 1) ∧ v.pos.future = (c, t) :: rest ∧ t ≤ v.clk.now ∧ v.pos.posOk = true ∧ v.pos.rev = false) ∧
  (∃ (s : State) (v : State) (e : Fin 2) (c : Nat) (code : Nat), s.alive = true ∧ v = s.acceptLevels e (s.clk.now + 1) ∧ (code = (match v.levels e with | 0 => 0 | 1 => 1 | 3 => 2 | _ => 3)) ∧ (v.reg (0x2810 + e) 7 = 4 ∨ v.reg (0x2810 + e) 7 = code) ∧ c = v.reg (0x2810 + e) 3) ∧
  (∃ (s : State) (l : Nat), s.alive = true ∧ s.pos.posOk = true ∧ l = s.lamAt s.clk.now ∧ s.pos.lam < l ∧ s.shuttle = false) ∧
  (∃ (s : State) (u : State) (h : FopHead) (v : BitVec 8), s.Admits h 2 (obj 0x2800 2) ∧ u = s.counted h ∧ v.toNat ≤ 3 ∧ u.pagesActive = false) ∧
  (∃ (s : State) (u : State) (h : FopHead) (v : BitVec 8), s.Admits h 2 (obj 0x2800 3) ∧ u = s.counted h ∧ v.toNat ≤ 3 ∧ u.pagesActive = false) ∧
  (∃ (s : State) (u : State) (h : FopHead), s.Admits h 2 (obj 0x2820 12) ∧ u = s.counted h ∧ u.pagesActive = false ∧ u.seqState = 0 ∧ u.onBoard = false) ∧
  (∃ (s : State) (u : State) (h : FopHead) (v : BitVec 32), s.Admits h 2 (obj 0x2820 1) ∧ u = s.counted h ∧ 65536 ≤ v.toNat ∧ v.toNat ≤ 4294901760 ∧ u.pagesActive = false) ∧
  (∃ (s : State) (u : State) (h : FopHead) (v : BitVec 8), s.Admits h 2 (obj 0x2800 1) ∧ u = s.counted h ∧ v.toNat ≤ 1 ∧ u.pagesActive = false) ∧
  (∃ (s : State) (u : State) (h : FopHead), s.Admits h 2 (obj 0x2870 11) ∧ u = s.counted h ∧ u.seqState = 0 ∧ u.shuttle = true ∧ u.pos.posOk = true) ∧
  (∃ (s : State) (u : State) (h : FopHead), s.Admits h 2 (obj 0x2870 11) ∧ u = s.counted h ∧ u.seqState ≠ 0 ∧ u.pagesActive = false) ∧
  (∃ (s : State), s.alive = true ∧ s.reg 0x2870 5 = 2 ∧ s.pos.feedDone = false ∧ (s.enc1 - s.pos.feedBase - s.pos.feedDue).natAbs ≤ s.reg 0x2870 7) ∧
  (∃ (s : State) (l : List Nat), s.alive = true ∧ (l = s.pos.lines.filter fun t => decide (s.clk.now < t + 10000000))) :=
  ⟨⟨({ wUp with clk := ⟨10, 0, 0, 0⟩ }).put 0x281101 0, ({ wUp with clk := ⟨10, 0, 0, 0⟩, pos := { wUp.pos with raw := [(2, (1, 10))] } }).put 0x281101 0, 1, true, false, true, false, 1, 10,
   by decide +kernel⟩,
  ⟨{ wUp with pos := { wUp.pos with future := [(7, 0)] } }, { wUp with pos := { wUp.pos with future := [(7, 0)] } }, 7, 0, [],
   by decide +kernel⟩,
  ⟨wUp, wUp, 1, 0, 0,
   by decide +kernel⟩,
  ⟨({ wUp with pos := { wUp.pos with org := -65536 * 5 } }).put 0x282001 65536, 5,
   by decide +kernel⟩,
  ⟨wUp, State.counted (wUp) hd, hd, 1,
   by decide +kernel⟩,
  ⟨wUp, State.counted (wUp) hd, hd, 1,
   by decide +kernel⟩,
  ⟨wUp, State.counted (wUp) hd, hd,
   by decide +kernel⟩,
  ⟨wUp, State.counted (wUp) hd, hd, 65536,
   by decide +kernel⟩,
  ⟨wUp, State.counted (wUp) hd, hd, 1,
   by decide +kernel⟩,
  ⟨wUp.put 0x280001 1, State.counted (wUp.put 0x280001 1) hd, hd,
   by decide +kernel⟩,
  ⟨wUp.put 0x28700C 2, State.counted (wUp.put 0x28700C 2) hd, hd,
   by decide +kernel⟩,
  ⟨({ wUp with pos := { wUp.pos with feedDone := false } }).put 0x287005 2,
   by decide +kernel⟩,
  ⟨wUp, [],
   by decide +kernel⟩⟩

theorem test_SpoilPinAndTension_hypotheses :
  (∃ (s : State) (due : List (Nat × Nat)), s.alive = true ∧ (due = s.store.spoil.pulses.filter fun r => decide (r.1 ≤ s.row)) ∧ due ≠ []) ∧
  (∃ (s : State) (w : Int × Int) (rest : List (Int × Int)), s.alive = true ∧ ((s.store.spoil.pulses.filter fun r => decide (r.1 ≤ s.row)) = []) ∧ s.store.spoil.windows = w :: rest ∧ w.1 ≤ s.rowNow ∧ s.rowNow < w.2) ∧
  (∃ (s : State) (rest : List (Int × Int)), s.alive = true ∧ (rest = s.store.spoil.windows.filter fun w => decide (s.rowNow < w.2)) ∧ s.store.spoil.until_ = none ∧ ((rest.any fun w => decide (w.1 ≤ s.rowNow)) = false)) ∧
  (∃ (s : State) (t : Nat), s.alive = true ∧ s.store.spoil.until_ = some t ∧ t ≤ s.clk.now) ∧
  (∃ (s : State) (u : State) (h : FopHead) (b : Bytes), s.Admits h 2 (obj 0x2860 1) ∧ u = s.counted h ∧ b = u.bytes 0x2861 0 0 640 ∧ (((upTo 8).any fun t => tensionBad b t) = false)) ∧
  (∃ (s : State) (p : Fin 16) (k : Fin 4) (t : BitVec 48), s.alive = true ∧ s.linkState p = 5) ∧
  (∃ (s : State) (seg : Nat) (v : Nat), sget 0 s.fire.report seg ≠ 0) ∧
  (∃ (s : State) (seg : BitVec 8), s.alive = true ∧ s.segStale seg.toNat = true ∧ sget false s.fire.stale seg.toNat = false) :=
  ⟨⟨{ wUp with store := { wUp.store with spoil := ⟨[], [(0, 50)], none, false⟩ } }, [(0, 50)],
   by decide +kernel⟩,
  ⟨{ wUp with store := { wUp.store with spoil := ⟨[(0, 5)], [], none, false⟩ } }, (0, 5), [],
   by decide +kernel⟩,
  ⟨{ wUp with store := { wUp.store with spoil := ⟨[(0, 0)], [], none, true⟩ } }, [],
   by decide +kernel⟩,
  ⟨{ wUp with store := { wUp.store with spoil := ⟨[], [], some 0, true⟩ } }, 0,
   by decide +kernel⟩,
  ⟨wTension, State.counted (wTension) hd, hd, wTension.bytes 0x2861 0 0 640,
   by decide +kernel⟩,
  ⟨wUp.put 0x300101 5, 0, 2, 5,
   by decide +kernel⟩,
  ⟨{ wUp with fire := { wUp.fire with report := [(3, 1)] } }, 3, 5,
   by decide +kernel⟩,
  ⟨{ wUp.setBytes 0x2862 0 387 [0] with clk := ⟨99000000000000, 0, 0, 0⟩ }, 3,
   by decide +kernel⟩⟩

theorem test_LinkBringUp_hypotheses :
  (∃ (s : State) (l : Fin 20), s.alive = true ∧ s.linkState l = 0 ∧ s.linkMayStart l = true) ∧
  (∃ (s : State) (l : Fin 20), s.alive = true ∧ s.linkState l = 1) ∧
  (∃ (s : State) (l : Fin 20), s.alive = true ∧ s.linkState l = 1 ∧ (s.link l).since + 100000000 ≤ s.clk.now) ∧
  (∃ (s : State) (l : Fin 20), s.alive = true ∧ s.linkState l = 2 ∧ (s.link l).since + 20000000 ≤ s.clk.now) ∧
  (∃ (s : State) (l : Fin 20), s.alive = true ∧ s.linkState l = 3 ∧ (s.link l).since + (s.link l).lockNs ≤ s.clk.now) ∧
  (∃ (s : State) (l : Fin 20), s.alive = true ∧ s.linkState l = 4 ∧ (s.link l).since + 10000000 ≤ s.clk.now) ∧
  (∃ (s : State) (l : Fin 20) (status : BitVec 8) (presets : BitVec 32), s.alive = true ∧ l.val < 16 ∧ s.linkState l = 2 ∧ bit status.toNat 4 = true ∧ (((upTo 4).all fun i => !bit (s.usedModules l) i || bit status.toNat i) = true) ∧ (s.link l).locked = true) ∧
  (∃ (s : State) (l : Fin 20), s.alive = true ∧ s.linkState l = 2 ∧ (s.link l).stepAt + 100000 ≤ s.clk.now) ∧
  (∃ (s : State) (l : Fin 20), s.alive = true ∧ l.val < 16 ∧ (s.linkState l = 1 ∨ s.linkState l = 2 ∨ s.linkState l = 3) ∧ (s.link l).locked = false ∧ (s.link l).trial + 1000000 ≤ s.clk.now) ∧
  (∃ (s : State) (v : State) (l : Fin 20) (headers : List (BitVec 2)), s.alive = true ∧ (v = headers.foldl (fun s h => if s.linkHears l then s.uplinkHeader l h else s) s) ∧ v.linkState l = 3 ∧ (v.link l).locked = true ∧ (v.link l).trained = true) ∧
  (∃ (s : State) (v : State) (l : Fin 20) (headers : List (BitVec 2)), s.alive = true ∧ (v = headers.foldl (fun s h => if s.linkHears l then s.uplinkHeader l h else s) s) ∧ v.linkState l = 3 ∧ (v.link l).locked = true ∧ (v.link l).trained = false ∧ 16 ≤ l.val) ∧
  (∃ (s : State) (v : State) (l : Fin 20) (headers : List (BitVec 2)), s.alive = true ∧ (v = headers.foldl (fun s h => if s.linkHears l then s.uplinkHeader l h else s) s) ∧ (v.linkState l ≠ 3 ∨ (v.link l).locked = false)) ∧
  (∃ (s : State) (l : Fin 20) (body : BitVec 64) (b : Bytes), s.alive = true ∧ l.val < 16 ∧ b = leBytes 8 body.toNat ∧ s.linkState l = 4 ∧ leAt b 0 1 = 0xB4 ∧ (s.link l).locked = true ∧ s.portChecks l (leAt b 1 1) (leAt b 2 1 % 16) (leAt b 3 1) (some (leAt b 4 2)) = none) ∧
  (∃ (s : State) (l : Fin 20) (body : BitVec 64) (b : Bytes) (cause : Nat), s.alive = true ∧ l.val < 16 ∧ b = leBytes 8 body.toNat ∧ s.linkState l = 4 ∧ leAt b 0 1 = 0xB4 ∧ (s.link l).locked = true ∧ s.portChecks l (leAt b 1 1) (leAt b 2 1 % 16) (leAt b 3 1) (some (leAt b 4 2)) = some cause) ∧
  (∃ (s : State) (l : Fin 20), s.alive = true ∧ s.linkState l = 4 ∧ (s.link l).capsAt + 10000 ≤ s.clk.now) ∧
  (∃ (s : State) (l : Fin 20), s.alive = true ∧ s.linkState l = 5) ∧
  (∃ (s : State) (l : Fin 20), s.alive = true ∧ l.val < 16 ∧ s.linkState l = 6 ∧ (s.link l).since + 100000000 ≤ s.clk.now ∧ s.linkMayStart l = true ∧ s.flag (portIdx l) 8 = true ∧ s.unit (portUnit l) ≠ 3) ∧
  (∃ (s : State) (l : Fin 20), s.alive = true ∧ l.val < 16 ∧ s.linkState l = 6 ∧ (s.link l).since + 100000000 ≤ s.clk.now ∧ s.flag (portIdx l) 8 = false) :=
  ⟨⟨wLink 0 0 Link.off, 0,
   by decide +kernel⟩,
  ⟨wLink 0 1 linkT, 0,
   by decide +kernel⟩,
  ⟨wLate (wLink 0 1 linkT), 0,
   by decide +kernel⟩,
  ⟨wLate (wLink 0 2 linkT), 0,
   by decide +kernel⟩,
  ⟨wLate (wLink 0 3 linkT), 0,
   by decide +kernel⟩,
  ⟨wLate (wLink 0 4 linkT), 0,
   by decide +kernel⟩,
  ⟨wMods (wLink 0 2 { linkT with locked := true }), 0, 0x1F, 7,
   by decide +kernel⟩,
  ⟨wLate (wLink 0 2 linkT), 0,
   by decide +kernel⟩,
  ⟨wLate (wLink 0 3 linkT), 0,
   by decide +kernel⟩,
  ⟨wLink 0 3 { linkT with locked := true }, _, 0, [],
   by decide +kernel,
   rfl,
   rfl,
   rfl,
   rfl⟩,
  ⟨wLink 16 3 { linkT with cfg := [0], locked := true }, _, 16, [],
   by decide +kernel,
   rfl,
   rfl,
   rfl,
   rfl,
   by decide +kernel⟩,
  ⟨wLink 0 3 linkT, _, 0, [],
   by decide +kernel,
   rfl,
   (by first | decide +kernel | rfl | exact Nat.zero_le _)⟩,
  ⟨wMods (wLink 0 4 { linkT with locked := true }), 0, 0x00001F40FF0F01B4, leBytes 8 0x00001F40FF0F01B4,
   by decide +kernel⟩,
  ⟨wMods (wLink 0 4 { linkT with locked := true }), 0, 0x00001388FF0F02B4, leBytes 8 0x00001388FF0F02B4, 5,
   by decide +kernel⟩,
  ⟨wLate (wLink 0 4 linkT), 0,
   by decide +kernel⟩,
  ⟨wLink 0 5 linkT, 0,
   by decide +kernel⟩,
  ⟨wLate ((wLink 0 6 linkT).put 0x300008 1), 0,
   by decide +kernel⟩,
  ⟨wLate ((wLink 0 6 linkT).put 0x300008 0), 0,
   by decide +kernel⟩⟩

theorem test_PortCommands_hypotheses :
  (∃ (s : State) (p : Fin 16) (d : Bytes), s.alive = true ∧ s.ev.ringHead (160 + p) = some (d, 0) ∧ leAt d 0 1 = 0x30 ∧ leAt d 8 1 = 1 ∧ (s.port p).cmd = none ∧ s.linkState p = 5) ∧
  (∃ (s : State) (p : Fin 16) (d : Bytes), s.alive = true ∧ s.ev.ringHead (160 + p) = some (d, 0) ∧ leAt d 0 1 = 0x30 ∧ leAt d 8 1 = 16 ∧ (s.port p).cmd = none ∧ s.linkState p = 5 ∧ s.pagesActive = false) ∧
  (∃ (s : State) (p : Fin 16) (d : Bytes) (op : Nat), s.alive = true ∧ s.ev.ringHead (160 + p) = some (d, 0) ∧ leAt d 0 1 = 0x30 ∧ op = leAt d 8 1 ∧ 0x80 ≤ op ∧ (s.port p).cmd = none ∧ s.linkState p = 5 ∧ s.pagesActive = false) ∧
  (∃ (s : State) (p : Fin 16) (addr : BitVec 8) (seq : BitVec 8) (value : BitVec 32) (c : PortCmd), s.alive = true ∧ (s.port p).cmd = some c ∧ s.linkState p = 5 ∧ c.seq = seq.toNat ∧ c.addr % 16 = addr.toNat % 16 ∧ c.op ≠ 2 ∧ (c.op = 0x10 → value.toNat = crc32c c.data)) ∧
  (∃ (s : State) (p : Fin 16) (addr : BitVec 8) (seq : BitVec 8) (status : BitVec 8) (value : BitVec 32) (c : PortCmd), s.alive = true ∧ (s.port p).cmd = some c ∧ s.linkState p = 5 ∧ c.seq = seq.toNat ∧ c.addr % 16 = addr.toNat % 16 ∧ c.op ≠ 2 ∧ status.toNat ≠ 0) ∧
  (∃ (s : State) (v : State) (p : Fin 16) (c : PortCmd), s.alive = true ∧ (v = ((s.port p).alls.filter fun c => c.op != 2 && decide (c.sent + 1000000 ≤ s.clk.now)).foldl (fun s c => s.portOutcome p c 4 0 0) (s.updPort p fun x => { x with alls := x.alls.filter fun c => !(c.op != 2 && decide (c.sent + 1000000 ≤ s.clk.now)) })) ∧ (v.port p).cmd = some c ∧ c.op ≠ 2 ∧ c.sent + 1000000 ≤ s.clk.now) ∧
  (∃ (s : State) (u : State) (h : FopHead) (p : Fin 16), s.Admits h 2 (obj (portIdx p + 0x10) 1) ∧ u = s.counted h ∧ (u.port p).meas = none ∧ u.pagesActive = false ∧ u.linkState p = 5) ∧
  (∃ (s : State) (u : State) (h : FopHead) (p : Fin 16), s.Admits h 2 (obj (portIdx p + 0x10) 1) ∧ u = s.counted h ∧ (u.port p).meas = none ∧ u.pagesActive = false ∧ u.linkState p = 5) ∧
  (∃ (s : State) (p : Fin 16), s.alive = true ∧ s.reg (measIdx p) 0x0A ≠ 0 ∧ (s.port p).measAt + s.reg (measIdx p) 0x0A * 1000000000 ≤ s.clk.now ∧ (s.port p).meas = none ∧ s.pagesActive = false ∧ s.linkState p = 5) ∧
  (∃ (s : State) (t : State) (p : Fin 16) (addr : BitVec 8) (seq : BitVec 8) (crc : BitVec 32) (data : Bytes) (m : Meas), s.alive = true ∧ s.measOut p = some m ∧ s.linkState p = 5 ∧ seq.toNat = m.seq ∧ addr.toNat % 16 = m.seg / 4 + m.seg % 4 * 4 ∧ (t = (s.set (measIdx p) 3 s.clk.now).updPort p fun x => { x with cmd := none }) ∧ crc.toNat = crc32c data ∧ data.length = 2048) ∧
  (∃ (s : State) (p : Fin 16) (m : Meas), s.alive = true ∧ s.measOut p = some m ∧ m.sent + 50000000 ≤ s.clk.now) ∧
  (∃ (s : State) (p : Fin 16) (j : BitVec 14) (t0 : Nat) (k : Nat), s.alive = true ∧ sfind j.toNat (s.port p).windows = some (t0, k, false) ∧ t0 + s.jetWindowNs p ≤ s.clk.now ∧ k < s.reg (measIdx p) 8) ∧
  (∃ (s : State) (u : State) (h : FopHead) (p : Fin 16) (mode : Nat), s.Admits h 2 (obj (0xF100 + p.val) 2) ∧ u = s.counted h ∧ u.unit (portUnit p) = 2 ∧ mode = u.reg (0xF100 + p) 1 ∧ mode ≠ 0 ∧ mode ≠ 3 ∧ (u.port p).loop = 0) ∧
  (∃ (s : State) (u : State) (h : FopHead) (p : Fin 16), s.Admits h 2 (obj (0xF100 + p.val) 2) ∧ u = s.counted h) :=
  ⟨⟨wPortReq 1, 0, descriptor 0x30 0 160 0 (1 + 2 * 256) 0 77,
   by decide +kernel⟩,
  ⟨wPortReq 16, 0, descriptor 0x30 0 160 0 (16 + 2 * 256) 0 77,
   by decide +kernel⟩,
  ⟨wPortReq 0x85, 0, descriptor 0x30 0 160 0 (0x85 + 2 * 256) 0 77, 0x85,
   by decide +kernel⟩,
  ⟨wPort { Port.idle with cmd := some pcmd0 }, 0, 2, 9, 55, pcmd0,
   by decide +kernel⟩,
  ⟨wPort { Port.idle with cmd := some pcmd0 }, 0, 2, 9, 3, 55, pcmd0,
   by decide +kernel⟩,
  ⟨wLate (wPort { Port.idle with cmd := some pcmd0 }), _, 0, pcmd0,
   by decide +kernel,
   rfl,
   rfl,
   by decide +kernel⟩,
  ⟨wPort Port.idle, State.counted (wPort Port.idle) hd, hd, 0,
   by decide +kernel⟩,
  ⟨wPort Port.idle, State.counted (wPort Port.idle) hd, hd, 0,
   by decide +kernel⟩,
  ⟨(wLate (wPort Port.idle)).put 0x30100A 2, 0,
   by decide +kernel⟩,
  ⟨wPort { Port.idle with meas := some ⟨[5], 4, 9, 1, 0, false, false⟩, cmd := some ⟨2, 1, 9, [], 0, 0, true⟩ }, (((wPort { Port.idle with meas := some ⟨[5], 4, 9, 1, 0, false, false⟩, cmd := some ⟨2, 1, 9, [], 0, 0, true⟩ }).set (measIdx 0) 3 0).updPort 0 fun x => { x with cmd := none }), 0, 1, 9, BitVec.ofNat 32 (crc32c (zeros 2048)), zeros 2048, ⟨[5], 4, 9, 1, 0, false, false⟩,
   (and_four (by decide +kernel) ⟨by decide +kernel, by decide +kernel, (crcOfNat _), (List.length_replicate ..)⟩)⟩,
  ⟨wLate (wPort { Port.idle with meas := some ⟨[5], 4, 9, 1, 0, false, false⟩, cmd := some ⟨2, 1, 9, [], 0, 0, true⟩ }), 0, ⟨[5], 4, 9, 1, 0, false, false⟩,
   by decide +kernel⟩,
  ⟨(wLate (wPort { Port.idle with windows := [(3, 0, 1, false)] })).put 0x301008 4 |>.put 0x301009 5, 0, 3, 0, 1,
   by decide +kernel⟩,
  ⟨({ wUp with units := ⟨[(0x0100, 2)], [], false⟩ }).put 0xF10001 1, State.counted (({ wUp with units := ⟨[(0x0100, 2)], [], false⟩ }).put 0xF10001 1) hd, hd, 0, 1,
   by decide +kernel⟩,
  ⟨wUp, State.counted (wUp) hd, hd, 0,
   by decide +kernel⟩⟩

theorem test_AxesAndDrives_hypotheses :
  (∃ (s : State) (k : Nat), s.alive = true ∧ k = s.clk.now / s.servoNs ∧ s.reg 0x2000 6 < k) ∧
  (∃ (s : State) (u : State) (h : FopHead) (x : Fin 4), s.Admits h 2 (obj (axisIdx x) 2) ∧ u = s.counted h ∧ u.axisState x = 0 ∧ u.mot = true ∧ u.driveOk x = true) ∧
  (∃ (s : State) (u : State) (h : FopHead) (x : Fin 4), s.Admits h 2 (obj (axisIdx x) 2) ∧ u = s.counted h ∧ u.axisState x = 1) ∧
  (∃ (s : State) (u : State) (h : FopHead) (x : Fin 4), s.Admits h 2 (obj (axisIdx x) 2) ∧ u = s.counted h ∧ u.axisState x = 1 ∧ u.mot = true ∧ u.safe = false ∧ (u.startMove x u.nextTick (u.reg (axisIdx x) 0x0C == 1) (u.i64 (axisIdx x) 0x0B) (u.reg (axisIdx x) 0x0D) false).2 = 0) ∧
  (∃ (s : State) (u : State) (h : FopHead) (x : Fin 4), s.Admits h 2 (obj (axisIdx x) 2) ∧ u = s.counted h ∧ u.axisState x = 4 ∧ u.mot = true) ∧
  (∃ (s : State) (u : State) (h : FopHead) (x : Fin 4), s.Admits h 2 (obj (axisIdx x) 2) ∧ u = s.counted h ∧ u.axisState x = 2) ∧
  (∃ (s : State) (u : State) (h : FopHead) (x : Fin 4), s.Admits h 2 (obj (axisIdx x) 2) ∧ u = s.counted h ∧ u.axisState x = 3) ∧
  (∃ (s : State) (u : State) (h : FopHead) (x : Fin 4), s.Admits h 2 (obj (axisIdx x) 2) ∧ u = s.counted h ∧ u.axisState x = 4) ∧
  (∃ (s : State) (u : State) (h : FopHead) (x : Fin 4), s.Admits h 2 (obj (axisIdx x) 2) ∧ u = s.counted h ∧ u.axisState x = 1 ∧ ((u.motion.acts.filter fun e => !(e.1 == (x : Nat) && e.2.starts)).length ≠ u.motion.acts.length)) ∧
  (∃ (s : State) (u : State) (h : FopHead) (x : Fin 4), s.Admits h 2 (obj (axisIdx x) 2) ∧ u = s.counted h ∧ u.axisState x = 1 ∧ u.mot = true ∧ u.safe = false ∧ u.i32 (axisIdx x) 0x0E ≠ 0 ∧ u.reg (axisIdx x) 0x0F ≠ 0) ∧
  (∃ (s : State) (u : State) (h : FopHead) (x : Fin 4), s.Admits h 2 (obj (axisIdx x) 2) ∧ u = s.counted h ∧ u.axisState x = 1) ∧
  (∃ (s : State) (u : State) (h : FopHead) (x : Fin 4), s.Admits h 2 (obj (axisIdx x) 2) ∧ u = s.counted h ∧ u.axisState x = 5 ∧ u.driveOk x = true ∧ u.mot = true) ∧
  (∃ (s : State) (x : Nat) (k : Nat), s.axisState x = 0 ∧ s.mot = true ∧ s.driveOk x = true ∧ s.flag (axisIdx x) 0x16 = true) ∧
  (∃ (s : State) (x : Nat) (k : Nat), s.axisState x = 0 ∧ s.mot = true ∧ s.driveOk x = true ∧ s.flag (axisIdx x) 0x16 = false) ∧
  (∃ (s : State) (x : Nat) (k : Nat), s.axisState x = 1) ∧
  (∃ (s : State) (x : Nat) (k : Nat), s.axisState x = 1 ∧ s.mot = true ∧ s.safe = false ∧ (s.startMove x k (s.reg (axisIdx x) 0x0C == 1) (s.i64 (axisIdx x) 0x0B) (s.reg (axisIdx x) 0x0D) false).2 = 0) ∧
  (∃ (s : State) (x : Nat) (k : Nat) (d : List Nat), s.axisState x = 2) ∧
  (∃ (s : State) (x : Nat) (k : Nat) (d : List Nat), s.axisState x = 3) ∧
  (∃ (s : State) (x : Nat) (k : Nat) (d : List Nat), s.axisState x = 4) ∧
  (∃ (s : State) (x : Nat) (k : Nat), s.axisState x = 1 ∧ s.mot = true ∧ s.safe = false ∧ s.i32 (axisIdx x) 0x0E ≠ 0 ∧ s.reg (axisIdx x) 0x0F ≠ 0) ∧
  (∃ (s : State) (x : Nat) (k : Nat), s.axisState x = 1) ∧
  (∃ (s : State) (x : Nat) (k : Nat), s.axisState x = 5 ∧ s.driveOk x = true ∧ s.mot = true) ∧
  (∃ (s : State) (t : State) (x : Nat) (k : Nat) (f : Int), s.axisState x = 1 ∧ s.mot = true ∧ s.safe = false ∧ s.startMove x k true f 0 true = (t, 0)) ∧
  (∃ (s : State) (u : State) (h : FopHead) (x : Fin 4) (b : Bytes) (r : Ratio), s.Admits h 2 (obj (axisIdx x) 17) ∧ u = s.counted h ∧ b = u.bytes (axisIdx x) 0x10 0 16 ∧ r = ⟨toSigned 64 (leAt b 0 8), toSigned 32 (leAt b 8 4), leAt b 12 4⟩ ∧ (u.axis x).queue.length < 16 ∧ r.num ≠ 0 ∧ r.den ≠ 0) ∧
  (∃ (s : State) (u : State) (h : FopHead) (x : Fin 4), s.Admits h 2 (obj (axisIdx x) 17) ∧ u = s.counted h) ∧
  (∃ (s : State) (src : Peer) (f : Bytes) (takes : Nat → Bool), s.alive = true ∧ f.length = 84 ∧ leAt f 0 2 = 0x434D ∧ leAt f 2 1 = 1 ∧ leAt f 3 1 = 2 ∧ leAt f 80 4 = crc32c (f.take 80) ∧ s.motion.sentCycles.contains (leAt f 4 2) = true ∧ (takes = fun a => bit (leAt f 6 1) a && s.bytes (axisIdx a) 0x19 0 16 == peerBytes src) ∧ ([0, 1, 2, 3].any takes) = true) ∧
  (∃ (s : State) (x : Fin 4), s.alive = true ∧ s.reg 0x2000 5 ≤ (s.axis x).missed ∧ s.axisState x ≤ 1 ∧ s.flag (axisIdx x) 0x17 = true ∧ s.flag (axisIdx x) 0x16 = true) ∧
  (∃ (s : State) (x : Fin 4), s.alive = true ∧ s.reg 0x2000 5 ≤ (s.axis x).missed ∧ 2 ≤ s.axisState x ∧ s.axisState x ≤ 4) :=
  ⟨⟨wLate wUp, (wLate wUp).clk.now / (wLate wUp).servoNs,
   by decide +kernel⟩,
  ⟨wAxis 0, State.counted (wAxis 0) hd, hd, 0,
   by decide +kernel⟩,
  ⟨wAxis 1, State.counted (wAxis 1) hd, hd, 0,
   by decide +kernel⟩,
  ⟨((((wAxis 1).put 0x210005 9).put 0x210007 9).put 0x210008 9).put 0x21000C 1, State.counted (((((wAxis 1).put 0x210005 9).put 0x210007 9).put 0x210008 9).put 0x21000C 1) hd, hd, 0,
   by decide +kernel⟩,
  ⟨wAxis 4, State.counted (wAxis 4) hd, hd, 0,
   by decide +kernel⟩,
  ⟨wAxis 2, State.counted (wAxis 2) hd, hd, 0,
   by decide +kernel⟩,
  ⟨wAxis 3, State.counted (wAxis 3) hd, hd, 0,
   by decide +kernel⟩,
  ⟨wAxis 4, State.counted (wAxis 4) hd, hd, 0,
   by decide +kernel⟩,
  ⟨{ wAxis 1 with motion := { (wAxis 1).motion with acts := [(0, .move)] } }, State.counted ({ wAxis 1 with motion := { (wAxis 1).motion with acts := [(0, .move)] } }) hd, hd, 0,
   by decide +kernel⟩,
  ⟨((wAxis 1).put 0x21000E 1).put 0x21000F 2, State.counted (((wAxis 1).put 0x21000E 1).put 0x21000F 2) hd, hd, 0,
   by decide +kernel⟩,
  ⟨wAxis 1, State.counted (wAxis 1) hd, hd, 0,
   by decide +kernel⟩,
  ⟨wAxis 5, State.counted (wAxis 5) hd, hd, 0,
   by decide +kernel⟩,
  ⟨(wAxis 0).put 0x210016 1, 0, 1,
   by decide +kernel⟩,
  ⟨wAxis 0, 0, 1,
   by decide +kernel⟩,
  ⟨wAxis 1, 0, 1,
   by decide +kernel⟩,
  ⟨((((wAxis 1).put 0x210005 9).put 0x210007 9).put 0x210008 9).put 0x21000C 1, 0, 1,
   by decide +kernel⟩,
  ⟨wAxis 2, 0, 1, [1, 1, 1, 1],
   by decide +kernel⟩,
  ⟨wAxis 3, 0, 1, [1, 1, 1, 1],
   by decide +kernel⟩,
  ⟨wAxis 4, 0, 1, [1, 1, 1, 1],
   by decide +kernel⟩,
  ⟨((wAxis 1).put 0x21000E 1).put 0x21000F 2, 0, 1,
   by decide +kernel⟩,
  ⟨wAxis 1, 0, 1,
   by decide +kernel⟩,
  ⟨wAxis 5, 0, 1,
   by decide +kernel⟩,
  ⟨((((wAxis 1).put 0x210005 9).put 0x210007 9).put 0x210008 9).put 0x21000C 1, (((((wAxis 1).put 0x210005 9).put 0x210007 9).put 0x210008 9).put 0x21000C 1).startMove 0 1 true 5 0 true |>.1, 0, 1, 5,
   by decide +kernel⟩,
  ⟨wUp.setBytes 0x2100 0x10 0 (zeros 8 ++ [2, 0, 0, 0, 3, 0, 0, 0]), State.counted (wUp.setBytes 0x2100 0x10 0 (zeros 8 ++ [2, 0, 0, 0, 3, 0, 0, 0])) hd, hd, 0, zeros 8 ++ [2, 0, 0, 0, 3, 0, 0, 0], ⟨0, 2, 3⟩,
   by decide +kernel⟩,
  ⟨wUp, State.counted (wUp) hd, hd, 0,
   by decide +kernel⟩,
  ⟨{ wUp.setBytes 0x2100 0x19 0 (peerBytes hd.peer) with motion := { wUp.motion with sentCycles := [7] } }, hd.peer, wStatus, fun a => bit (leAt wStatus 6 1) a && (State.bytes { wUp.setBytes 0x2100 0x19 0 (peerBytes hd.peer) with motion := { wUp.motion with sentCycles := [7] } } (axisIdx a) 0x19 0 16) == peerBytes hd.peer,
   (and_four (by decide +kernel) ⟨by decide +kernel, by decide +kernel, by decide +kernel, rfl, by decide +kernel⟩)⟩,
  ⟨((wAxis 1).put 0x210017 1).put 0x210016 1 |>.put 0x200005 0, 0,
   by decide +kernel⟩,
  ⟨(wAxis 2).put 0x200005 0, 0,
   by decide +kernel⟩⟩

theorem test_NetworkTime_hypotheses :
  (∃ (s : State) (t : PtpHead) (y : SyncBody) (b : Nat) (x : Int), s.alive = true ∧ s.domOf t.domain.toNat t.transport = some b ∧ s.fromParent b t.fn t.src.toNat = true ∧ 2 ≤ s.reg (domIdx b) 5 ∧ y.twoStep = false ∧ x = ptpNs y.origin.toNat + corrNs t.corr.toNat) ∧
  (∃ (s : State) (t : PtpHead) (y : SyncBody) (b : Nat), s.alive = true ∧ s.domOf t.domain.toNat t.transport = some b ∧ s.fromParent b t.fn t.src.toNat = true ∧ 2 ≤ s.reg (domIdx b) 5 ∧ y.twoStep = true) ∧
  (∃ (s : State) (t : PtpHead) (origin : BitVec 80) (b : Nat) (q : Nat) (t2 : Nat) (c : Int) (x : Int), s.alive = true ∧ s.domOf t.domain.toNat t.transport = some b ∧ (s.dom b).waiting = some (q, t2, c) ∧ q = t.seq.toNat ∧ s.fromParent b t.fn t.src.toNat = true ∧ x = ptpNs origin.toNat + c + corrNs t.corr.toNat) ∧
  (∃ (s : State) (t : PtpHead) (y : AnnounceBody) (b : Nat) (c : Cand) (p : Cand) (l : List Cand), s.alive = true ∧ s.domOf t.domain.toNat t.transport = some b ∧ c = ⟨t.fn, t.src.toNat, y.priority1.toNat, y.cls.toNat, y.accuracy.toNat, y.variance.toNat, y.priority2.toNat, y.identity.toNat⟩ ∧ (l = c :: (s.dom b).cands.filter fun x => !(x.fn == c.fn && x.src == c.src)) ∧ p = l.foldl Cand.pick c) ∧
  (∃ (s : State) (t : PtpHead) (rx : BitVec 80) (b : Nat) (q : Nat) (t3 : Nat) (t2 : Nat) (t1 : Int), s.alive = true ∧ s.domOf t.domain.toNat t.transport = some b ∧ (s.dom b).delayReq = some (q, t3, t1, t2) ∧ q = t.seq.toNat ∧ s.fromParent b t.fn t.src.toNat = true ∧ s.p2p b = false) ∧
  (∃ (s : State) (t : PtpHead) (b : Nat), s.alive = true ∧ s.domOf t.domain.toNat t.transport = some b ∧ s.p2p b = true) ∧
  (∃ (s : State) (t : PtpHead) (rx : BitVec 80) (tx : BitVec 80) (b : Nat) (q : Nat) (t1 : Nat) (dl : Nat) (p : Cand), s.alive = true ∧ s.domOf t.domain.toNat t.transport = some b ∧ sfind t.fn (s.dom b).pdelayReq = some (q, t1) ∧ q = t.seq.toNat ∧ s.p2p b = true ∧ dl = (clampInt 0 4294967295 (((s.clk.now - t1 : Nat) - ((ptpNs tx.toNat : Int) - ptpNs rx.toNat) - corrNs t.corr.toNat) / 2)).toNat ∧ (s.dom b).parent = some p ∧ p.fn = t.fn) ∧
  (∃ (s : State) (fn : Fin 2) (tr : Fin 3) (m : Bytes) (r : BitVec 32), s.alive = true ∧ s.reg 0x1804 0 = 1 ∧ s.fnUp fn = true ∧ s.fnUp (1 - fn) = true ∧ 34 ≤ m.length ∧ s.domOf (leAt m 4 1) tr = none ∧ leAt m 0 1 % 16 = 0 ∧ bit (leAt m 6 1) 1 = false) ∧
  (∃ (s : State) (fn : Fin 2) (tr : Fin 3) (m : Bytes) (r : BitVec 32), s.alive = true ∧ s.reg 0x1804 0 = 1 ∧ s.fnUp fn = true ∧ s.fnUp (1 - fn) = true ∧ 34 ≤ m.length ∧ s.domOf (leAt m 4 1) tr = none ∧ leAt m 0 1 % 16 = 9) ∧
  (∃ (s : State) (b : Bool), s.alive = true ∧ s.reg (domIdx (b2n b)) 5 = 3 ∧ (s.dom (b2n b)).last + syncNs (s.reg (domIdx (b2n b)) 0x0C) (s.reg (domIdx (b2n b)) 0x0B) ≤ s.clk.now) ∧
  (∃ (s : State) (u : State) (h : FopHead) (b : Bool) (v : BitVec 8), s.Admits h 2 (obj (0x1010 + b2n b) 4) ∧ u = s.counted h ∧ v.toNat ≤ 1) ∧
  (∃ (s : State) (u : State) (h : FopHead), s.Admits h 2 (obj 0x1000 9) ∧ u = s.counted h ∧ u.rebaseCheck = 0 ∧ u.onBoard = false) ∧
  (∃ (s : State), s.alive = true ∧ s.reg 0x1000 0x0D = 1 ∧ s.epoch = 0 ∧ s.rebaseCheck = 0 ∧ s.board.rebase = none ∧ s.onBoard = false) ∧
  (∃ (s : State) (u : State) (h : FopHead) (t : Fin 4) (x : Nat) (e : Int), s.Admits h 2 (obj (0x1030 + t.val) 6) ∧ u = s.counted h ∧ x = 0x1030 + t ∧ e = u.reg x 2 - u.i64 0x1000 3 ∧ u.reg x 1 = 1 ∧ u.reg x 7 ≠ 1 ∧ u.clk.now + 1000 ≤ e ∧ u.reg x 4 ≠ 0) ∧
  (∃ (s : State) (u : State) (h : FopHead) (t : Fin 4) (x : Nat), s.Admits h 2 (obj (0x1030 + t.val) 6) ∧ u = s.counted h ∧ x = 0x1030 + t ∧ u.reg x 7 = 1) ∧
  (∃ (s : State) (t : Fin 4) (x : Nat) (d : Nat), s.alive = true ∧ x = 0x1030 + t ∧ (s.trig t).due = some d ∧ d ≤ s.clk.now) ∧
  (∃ (s : State) (t : Fin 4) (d : Nat), s.alive = true ∧ (s.trig t).off = some d ∧ d ≤ s.clk.now) ∧
  (∃ (s : State) (c : Fin 4) (up : Bool) (x : Nat) (t : Nat), s.alive = true ∧ x = 0x1040 + c ∧ (bit (s.reg x 1) (if up then 0 else 1) = true) ∧ t = s.clk.now - s.reg x 2 ∧ s.reg x 3 = 0xFF) :=
  ⟨⟨wDom 2 dom0, ptp0, ⟨false, 0, 0⟩, 0, 0,
   by decide +kernel⟩,
  ⟨wDom 2 dom0, ptp0, ⟨true, 0, 0⟩, 0,
   by decide +kernel⟩,
  ⟨wDom 2 { dom0 with waiting := some (7, 1, 0) }, ptp0, 0, 0, 7, 1, 0, 0,
   by decide +kernel⟩,
  ⟨wDom 1 Dom.init, ptp0, ⟨1, 2, 3, 4, 5, 6⟩, 0, cand0, cand0, [cand0],
   by decide +kernel⟩,
  ⟨wDom 2 { dom0 with delayReq := some (7, 1, 0, 3) }, ptp0, 0, 0, 7, 1, 3, 0,
   by decide +kernel⟩,
  ⟨(wDom 2 dom0).put 0x101003 1, ptp0, 0,
   by decide +kernel⟩,
  ⟨(wDom 2 { dom0 with pdelayReq := [(0, 7, 0)] }).put 0x101003 1, ptp0, 0, 0, 0, 7, 0, 0, cand0,
   by decide +kernel⟩,
  ⟨((wUp.put 0x180400 1).put 0x180001 1).put 0x180002 1, 0, 0, wPtp 0 0, 9,
   by decide +kernel⟩,
  ⟨((wUp.put 0x180400 1).put 0x180001 1).put 0x180002 1, 0, 0, wPtp 9 0, 9,
   by decide +kernel⟩,
  ⟨wLate (wDom 3 dom0), false,
   by decide +kernel⟩,
  ⟨wUp, State.counted (wUp) hd, hd, false, 1,
   by decide +kernel⟩,
  ⟨wUp.put 0x100008 1, State.counted (wUp.put 0x100008 1) hd, hd,
   by decide +kernel⟩,
  ⟨(wUp.put 0x100008 1).put 0x10000D 1,
   by decide +kernel⟩,
  ⟨((wUp.put 0x103001 1).put 0x103002 5000).put 0x103004 9, State.counted (((wUp.put 0x103001 1).put 0x103002 5000).put 0x103004 9) hd, hd, 0, 0x1030, 5000,
   by decide +kernel⟩,
  ⟨wUp.put 0x103007 1, State.counted (wUp.put 0x103007 1) hd, hd, 0, 0x1030,
   by decide +kernel⟩,
  ⟨{ wUp with time := { wUp.time with trigs := [(0, ⟨some 0, none⟩)] } }, 0, 0x1030, 0,
   by decide +kernel⟩,
  ⟨{ wUp with time := { wUp.time with trigs := [(0, ⟨none, some 0⟩)] } }, 0, 0,
   by decide +kernel⟩,
  ⟨(wUp.put 0x104201 3).put 0x104203 0xFF, 2, false, 0x1042, 0,
   by decide +kernel⟩⟩

theorem test_DramServing_hypotheses :
  (∃ (s : State) (v : State) (temps : List (List Int)) (t : Int) (ts : List Int), s.alive = true ∧ (v = (List.zip (upTo 8) temps).foldl (fun s (i, l) => s.subTemps i l) s) ∧ ((v.dram.subs.flatMap fun e => e.2.temps) = t :: ts) ∧ ts.foldl max t ≤ 1488) ∧
  (∃ (s : State) (v : State) (w : State) (i : Fin 8) (rank : Fin 2) (at_ : Nat), s.alive = true ∧ s.subIn i = true ∧ rank.val < s.dramConf 1 ∧ at_ = sget 0 (s.sub i).refAt rank ∧ at_ ≤ s.clk.now ∧ v = s.refreshBoundary i ∧ (w = v.updSub i fun x => x.interval v.allBank rank ((if at_ = 0 then v.clk.now else at_) + v.refreshNs i)) ∧ (w.sub i).forcedAt v.allBank rank w.refreshLimit = []) ∧
  (∃ (s : State) (v : State) (w : State) (x : State) (i : Fin 8) (rank : Fin 2) (at_ : Nat) (l : List Nat), s.alive = true ∧ s.subIn i = true ∧ rank.val < s.dramConf 1 ∧ at_ = sget 0 (s.sub i).refAt rank ∧ at_ ≤ s.clk.now ∧ v = s.refreshBoundary i ∧ (w = v.updSub i fun x => x.interval v.allBank rank ((if at_ = 0 then v.clk.now else at_) + v.refreshNs i)) ∧ (w.sub i).forcedAt v.allBank rank w.refreshLimit = l ∧ x = w.forceRefresh i rank v.allBank l) ∧
  (∃ (s : State) (v : State) (i : Fin 8) (l : List Arrival) (r : DramReq), s.alive = true ∧ s.subIn i = true ∧ (v = (s.accept_ i l).updSub i fun x => x.payRefresh s.allBank) ∧ (v.sub i).due = [] ∧ (v.sub i).reads.find? (·.real) = some r) ∧
  (∃ (s : State) (i : Fin 8), s.alive = true) ∧
  (∃ (s : State) (rfm : Bool) (l : List TrainResult), s.alive = true ∧ s.dram.trained = false ∧ s.boot.phase = .run) ∧
  (∃ (s : State) (v : State) (rfm : Bool) (t0 : TrainResult) (t1 : TrainResult) (t2 : TrainResult) (t3 : TrainResult) (t4 : TrainResult) (t5 : TrainResult) (t6 : TrainResult) (t7 : TrainResult), s.alive = true ∧ s.dram.trained = false ∧ s.boot.phase = .run ∧ (([t0, t1, t2, t3, t4, t5, t6, t7].all fun t => s.passes7 t) = true) ∧ (v = (List.zip (upTo 8) [t0, t1, t2, t3, t4, t5, t6, t7]).foldl (fun u (i, t) => (u.keepResult i t).trainEvent i 1) (State.set { s with dram := { s.dram with trained := true } } 0x6020 4 (b2n rfm))) ∧ 2 ≤ pairCount v.pairsIn) ∧
  (∃ (s : State) (u : State) (h : FopHead), s.Admits h 2 (obj 0x6030 1) ∧ u = s.counted h ∧ ((upTo 8).filter u.subIn) ≠ []) ∧
  (∃ (s : State) (u : State) (h : FopHead) (i : Nat), s.Admits h 2 (obj 0x6030 1) ∧ u = s.counted h ∧ i = u.reg 0x6030 2 ∧ u.subIn i = true) ∧
  (∃ (s : State) (i : Fin 8) (d : BitVec 16), s.alive = true ∧ s.subIn i = true ∧ s.reg 0x6030 6 < d.toNat ∧ (s.sub i).run = false ∧ (s.sub i).sched = false) ∧
  (∃ (s : State) (i : Fin 8), s.alive = true ∧ (s.sub i).sched = true ∧ s.pagesActive = false ∧ s.subIn i = true) ∧
  (∃ (s : State) (v : State) (w : State) (i : Fin 8) (t : TrainResult) (old : Bool), s.alive = true ∧ (s.sub i).run = true ∧ (v = (s.updSub i fun x => { x with run := false }).showTraining) ∧ v.passes7 t = true ∧ w = ((v.keepResult i t).set 0x6030 4 0).trainEvent i 3) ∧
  (∃ (s : State) (v : State) (i : Fin 8) (t : TrainResult), s.alive = true ∧ (s.sub i).run = true ∧ (v = (s.updSub i fun x => { x with run := false }).showTraining) ∧ v.passes7 t = false) :=
  ⟨⟨wUp, (List.zip (upTo 8) [[700]]).foldl (fun s (i, l) => s.subTemps i l) wUp, [[700]], 700, [],
   by decide +kernel⟩,
  ⟨wSub Sub.idle, wSub Sub.idle, (wSub Sub.idle).updSub 0 fun x => x.interval (wSub Sub.idle).allBank 0 ((wSub Sub.idle).clk.now + (wSub Sub.idle).refreshNs 0), 0, 0, 0,
   by decide +kernel⟩,
  ⟨(wSub { Sub.idle with reads := [req0] }).put 0x601002 0, (wSub { Sub.idle with reads := [req0] }).put 0x601002 0, ((wSub { Sub.idle with reads := [req0] }).put 0x601002 0).updSub 0 fun x => x.interval ((wSub { Sub.idle with reads := [req0] }).put 0x601002 0).allBank 0 (((wSub { Sub.idle with reads := [req0] }).put 0x601002 0).clk.now + ((wSub { Sub.idle with reads := [req0] }).put 0x601002 0).refreshNs 0), (((wSub { Sub.idle with reads := [req0] }).put 0x601002 0).updSub 0 fun x => x.interval ((wSub { Sub.idle with reads := [req0] }).put 0x601002 0).allBank 0 (((wSub { Sub.idle with reads := [req0] }).put 0x601002 0).clk.now + ((wSub { Sub.idle with reads := [req0] }).put 0x601002 0).refreshNs 0)).forceRefresh 0 0 true [0, 1, 2, 3], 0, 0, 0, [0, 1, 2, 3],
   by decide +kernel⟩,
  ⟨wSub { Sub.idle with reads := [req0] }, (wSub { Sub.idle with reads := [req0] }).updSub 0 fun x => x.payRefresh true, 0, [], req0,
   by decide +kernel⟩,
  ⟨wUp, 0,
   by decide +kernel⟩,
  ⟨wUp, true, [],
   by decide +kernel⟩,
  ⟨wUp, (List.zip (upTo 8) [tr0, tr0, tr0, tr0, tr0, tr0, tr0, tr0]).foldl (fun u (i, t) => (u.keepResult i t).trainEvent i 1) (State.set { wUp with dram := { wUp.dram with trained := true } } 0x6020 4 (b2n true)), true, tr0, tr0, tr0, tr0, tr0, tr0, tr0, tr0,
   by decide +kernel⟩,
  ⟨wUp, State.counted (wUp) hd, hd,
   by decide +kernel⟩,
  ⟨wUp, State.counted (wUp) hd, hd, 0,
   by decide +kernel⟩,
  ⟨wUp.put 0x603006 3, 0, 9,
   by decide +kernel⟩,
  ⟨wSub { Sub.idle with sched := true }, 0,
   by decide +kernel⟩,
  ⟨wSub { Sub.idle with run := true }, ((wSub { Sub.idle with run := true }).updSub 0 fun x => { x with run := false }).showTraining, (((((wSub { Sub.idle with run := true }).updSub 0 fun x => { x with run := false }).showTraining).keepResult 0 tr0).set 0x6030 4 0).trainEvent 0 3, 0, tr0, false,
   by decide +kernel⟩,
  ⟨wSub { Sub.idle with run := true }, ((wSub { Sub.idle with run := true }).updSub 0 fun x => { x with run := false }).showTraining, 0, { tr0 with good := false },
   by decide +kernel⟩⟩

theorem test_WindowsBucketsAndCrc_hypotheses :
  (∃ (s : State) (c : Fin 12) (next : Nat), s.alive = true ∧ next = s.leakAt c ∧ next ≤ s.clk.now) ∧
  (∃ (s : State) (u : State) (h : FopHead) (x : Nat) (v : State), s.Admits h 2 (obj 0xF000 3) ∧ u = s.counted h ∧ x = u.reg 0xF000 1 ∧ u.reg 0xF000 4 = 0 ∧ u.windowSize ≠ 0 ∧ u.windowMayOpen x = true ∧ v = (((u.set 0xF000 4 2).set 0xF000 5 0).set 0xF000 6 0).set 0xF000 7 0xFFFFFFFF) ∧
  (∃ (s : State) (u : State) (h : FopHead), s.Admits h 2 (obj 0xF000 3) ∧ u = s.counted h ∧ u.reg 0xF000 4 = 2) ∧
  (∃ (s : State) (u : State) (h : FopHead) (off : BitVec 32) (d : Bytes), s.Admits h 0x0B (obj 0xF001 0) ∧ u = s.counted h ∧ d ≠ [] ∧ d.length ≤ 1024 ∧ off.toNat + d.length ≤ u.domSize 0xF001 0 ∧ u.reg 0xF000 4 = 2 ∧ u.lockedFor h.peer (obj 0xF001 0) = false) ∧
  (∃ (s : State) (u : State) (h : FopHead) (off : BitVec 32) (d : Bytes), s.Admits h 0x0B (obj 0xF002 0) ∧ u = s.counted h ∧ d ≠ [] ∧ d.length ≤ 1024 ∧ off.toNat + d.length ≤ u.domSize 0xF002 0 ∧ u.reg 0xF000 4 = 2 ∧ u.lockedFor h.peer (obj 0xF002 0) = false) ∧
  (∃ (s : State) (u : State) (h : FopHead) (c : Fin 8), s.Admits h 2 (obj (crcIdx c) 6) ∧ u = s.counted h ∧ u.crcOwned c = false) ∧
  (∃ (s : State) (u : State) (h : FopHead) (c : Fin 8) (w : Nat) (r : Nat), s.Admits h 2 (obj (crcIdx c) 6) ∧ u = s.counted h ∧ u.crcOwned c = false ∧ w = (u.crcCfg c).1 ∧ r = u.crcOut c (u.reg (crcIdx c) 7) ∧ r = u.reg (crcIdx c) 9 % 2 ^ w) ∧
  (∃ (s : State) (u : State) (h : FopHead) (c : Fin 8) (w : Nat) (r : Nat), s.Admits h 2 (obj (crcIdx c) 6) ∧ u = s.counted h ∧ u.crcOwned c = false ∧ w = (u.crcCfg c).1 ∧ r = u.crcOut c (u.reg (crcIdx c) 7) ∧ r ≠ u.reg (crcIdx c) 9 % 2 ^ w) ∧
  (∃ (s : State) (u : State) (h : FopHead) (c : Fin 8) (w : Fin 4) (v : BitVec 64), s.Admits h 2 (obj (crcIdx c) (0x0B + w.val)) ∧ u = s.counted h ∧ u.crcOwned c = false ∧ v.toNat < 256 ^ (2 ^ w.val)) ∧
  (∃ (s : State) (u : State) (h : FopHead) (c : Fin 8) (v : BitVec 32), s.Admits h 2 (obj (crcIdx c) 7) ∧ u = s.counted h ∧ u.crcOwned c = false) :=
  ⟨⟨(wLate wUp).put 0x680003 2, 0, ((wLate wUp).put 0x680003 2).leakAt 0,
   by decide +kernel⟩,
  ⟨wUp, State.counted (wUp) hd, hd, 0, ((((wUp.counted hd).set 0xF000 4 2).set 0xF000 5 0).set 0xF000 6 0).set 0xF000 7 0xFFFFFFFF,
   by decide +kernel⟩,
  ⟨wUp.put 0xF00004 2, State.counted (wUp.put 0xF00004 2) hd, hd,
   by decide +kernel⟩,
  ⟨wUp.put 0xF00004 2, State.counted (wUp.put 0xF00004 2) hd, hd, 0, [1, 2],
   by decide +kernel⟩,
  ⟨wUp.put 0xF00004 2, State.counted (wUp.put 0xF00004 2) hd, hd, 0, [1, 2],
   by decide +kernel⟩,
  ⟨wUp, State.counted (wUp) hd, hd, 0,
   by decide +kernel⟩,
  ⟨wUp.put 0x682009 0, State.counted (wUp.put 0x682009 0) hd, hd, 0, 32, 0,
   by decide +kernel⟩,
  ⟨wUp.put 0x682009 5, State.counted (wUp.put 0x682009 5) hd, hd, 0, 32, 0,
   by decide +kernel⟩,
  ⟨wUp, State.counted (wUp) hd, hd, 0, 2, 77,
   by decide +kernel⟩,
  ⟨wUp, State.counted (wUp) hd, hd, 0, 77,
   by decide +kernel⟩⟩

theorem test_DmaChannels_hypotheses :
  (∃ (s : State) (u : State) (h : FopHead) (n : Fin 32), s.Admits h 2 (obj (dmaIdx n) 5) ∧ u = s.counted h ∧ u.dmaState n = 0 ∧ Ring.active u.ev (128 + n) = true) ∧
  (∃ (s : State) (u : State) (h : FopHead) (n : Fin 32), s.Admits h 2 (obj (dmaIdx n) 5) ∧ u = s.counted h ∧ u.dmaState n = 1 ∧ u.dmaCur n = none) ∧
  (∃ (s : State) (u : State) (h : FopHead) (n : Fin 32), s.Admits h 2 (obj (dmaIdx n) 5) ∧ u = s.counted h ∧ u.dmaState n = 1 ∧ (u.dmaCur n).isSome = true) ∧
  (∃ (s : State) (u : State) (h : FopHead) (n : Fin 32), s.Admits h 2 (obj (dmaIdx n) 5) ∧ u = s.counted h ∧ u.dmaState n = 2) ∧
  (∃ (s : State) (n : Nat), s.alive = true ∧ s.claimsHeld < s.claimsWanted ∧ ((upTo 32).reverse.find? (fun n => s.dmaState n == 0) = some n)) ∧
  (∃ (s : State) (n : Fin 32), s.alive = true ∧ s.dmaState n = 3 ∧ s.claimsWanted < s.claimsHeld) ∧
  (∃ (s : State) (n : Fin 32) (d : Bytes) (src : Nat) (dst : Nat) (len : Nat) (e : Nat) (ix : Nat) (sub : Nat) (off : Nat), s.alive = true ∧ s.dmaState n = 1 ∧ s.dmaCur n = none ∧ s.ev.ringHead (128 + n) = some (d, 0) ∧ bit (leAt d 1 1) 0 = false ∧ leAt d 0 1 = 0x40 ∧ src = leAt d 8 8 ∧ dst = leAt d 16 8 ∧ len = leAt d 24 4 ∧ e = s.dmaElem n ∧ len ≠ 0 ∧ len % e = 0 ∧ endAligned e len (s.reg (dmaIdx n) 2 == 1) (endOf src) = true ∧ endAligned e len (s.reg (dmaIdx n) 3 == 1) (endOf dst) = true ∧ endOf dst = .object ix sub off ∧ feedOf ix sub = none) ∧
  (∃ (s : State) (t : State) (n : Fin 32) (c : DmaCur) (e : Nat) (m : Nat) (bs : Bytes) (from_ : End) (into : End), s.alive = true ∧ s.dmaServed = some n.val ∧ s.dmaCur n = some c ∧ e = s.dmaElem n ∧ (from_ = endOf (if (s.reg (dmaIdx n) 2 == 1) = true then c.src else c.src + c.moved)) ∧ (into = endOf (if (s.reg (dmaIdx n) 3 == 1) = true then c.dst else c.dst + c.moved)) ∧ State.endRead { s with integ := { s.integ with turn := n + 1 } } e (State.endBad { s with integ := { s.integ with turn := n + 1 } } e from_) from_ = .ok bs ∧ State.endWrite { s with integ := { s.integ with turn := n + 1 } } bs (s.reg (dmaIdx n) 3 == 1) into = .ok t ∧ m = c.moved + e ∧ 2 * m < c.len) ∧
  (∃ (s : State) (t : State) (n : Fin 32) (c : DmaCur) (e : Nat) (bs : Bytes) (from_ : End) (into : End), s.alive = true ∧ s.dmaServed = some n.val ∧ s.dmaCur n = some c ∧ e = s.dmaElem n ∧ (from_ = endOf (if (s.reg (dmaIdx n) 2 == 1) = true then c.src else c.src + c.moved)) ∧ (into = endOf (if (s.reg (dmaIdx n) 3 == 1) = true then c.dst else c.dst + c.moved)) ∧ State.endRead { s with integ := { s.integ with turn := n + 1 } } e (State.endBad { s with integ := { s.integ with turn := n + 1 } } e from_) from_ = .ok bs ∧ State.endWrite { s with integ := { s.integ with turn := n + 1 } } bs (s.reg (dmaIdx n) 3 == 1) into = .ok t ∧ c.half = true ∧ c.len ≤ c.moved + e) :=
  ⟨⟨{ wUp with ev := wUp.ev.ringAllocate 128 4 }, State.counted ({ wUp with ev := wUp.ev.ringAllocate 128 4 }) hd, hd, 0,
   by decide +kernel⟩,
  ⟨wUp.put 0x700006 1, State.counted (wUp.put 0x700006 1) hd, hd, 0,
   by decide +kernel⟩,
  ⟨{ wUp.put 0x700006 1 with integ := { wUp.integ with dma := [(0, some dcur0)] } }, State.counted ({ wUp.put 0x700006 1 with integ := { wUp.integ with dma := [(0, some dcur0)] } }) hd, hd, 0,
   by decide +kernel⟩,
  ⟨wUp.put 0x700006 2, State.counted (wUp.put 0x700006 2) hd, hd, 0,
   by decide +kernel⟩,
  ⟨wUp.put 0x801004 3, 31,
   by decide +kernel⟩,
  ⟨wUp.put 0x700006 3, 0,
   by decide +kernel⟩,
  ⟨wDesc, 0, descriptor 0x40 0 128 0 (2 ^ 63 + 0x4019 * 2 ^ 32) (2 ^ 63 + 0x2873 * 2 ^ 32) 8, 2 ^ 63 + 0x4019 * 2 ^ 32, 2 ^ 63 + 0x2873 * 2 ^ 32, 8, 4, 0x2873, 0, 0,
   by decide +kernel⟩,
  ⟨wDma2, State.domWrite { wDma2 with integ := { wDma2.integ with turn := 1 } } 0x2873 0 0 [0, 0, 0, 0], 0, dcur1, 4, 4, [0, 0, 0, 0], .object 0x4019 0 0, .object 0x2873 0 0,
   by decide +kernel⟩,
  ⟨wDma3, State.domWrite { wDma3 with integ := { wDma3.integ with turn := 1 } } 0x2873 0 12 [0, 0, 0, 0], 0, { dcur1 with moved := 12, half := true }, 4, [0, 0, 0, 0], .object 0x4019 0 12, .object 0x2873 0 12,
   by decide +kernel⟩⟩

theorem test_FaultCollector_hypotheses :
  (∃ (s : State) (n : BitVec 8) (b : Bank), s.alive = true ∧ s.ev.fstat 10 = false ∧ s.ev.bank.get (wObj n.toNat 4) = 1 ∧ s.ev.bank.get (wObj n.toNat 5) + s.ev.windowNs n.toNat ≤ s.clk.now ∧ s.ev.bank.get (wObj n.toNat 6) < s.ev.bank.get (wObj n.toNat 1) ∧ b = (s.ev.bump (wObj n.toNat 7)).bank) ∧
  (∃ (s : State) (n : BitVec 8), s.alive = true ∧ s.ev.fstat 10 = false ∧ s.ev.bank.get (wObj n.toNat 4) = 1 ∧ s.ev.bank.get (wObj n.toNat 5) + s.ev.windowNs n.toNat ≤ s.clk.now ∧ s.ev.bank.get (wObj n.toNat 1) ≤ s.ev.bank.get (wObj n.toNat 6)) ∧
  (∃ (s : State) (u : State) (h : FopHead) (n : BitVec 8) (v : BitVec 32), s.Admits h 2 (obj (0x7900 + n.toNat) 1) ∧ u = s.counted h ∧ v.toNat ≤ 0xFFFF ∧ (u.set (0x7900 + n.toNat) 1 v.toNat).reg (0x7900 + n.toNat) 4 = 1) ∧
  (∃ (s : State) (u : State) (h : FopHead) (n : BitVec 8) (v : BitVec 32), s.Admits h 2 (obj (0x7900 + n.toNat) 1) ∧ u = s.counted h ∧ v.toNat ≤ 0xFFFF ∧ (u.set (0x7900 + n.toNat) 1 v.toNat).reg (0x7900 + n.toNat) 4 ≠ 1) ∧
  (∃ (s : State) (u : State) (h : FopHead) (n : BitVec 8) (v : BitVec 32), s.Admits h 2 (obj (0x7900 + n.toNat) 2) ∧ u = s.counted h ∧ 1 ≤ v.toNat ∧ v.toNat ≤ 86400000 ∧ (u.set (0x7900 + n.toNat) 2 v.toNat).reg (0x7900 + n.toNat) 4 = 1) ∧
  (∃ (s : State) (u : State) (h : FopHead) (n : BitVec 8) (v : BitVec 32), s.Admits h 2 (obj (0x7900 + n.toNat) 2) ∧ u = s.counted h ∧ 1 ≤ v.toNat ∧ v.toNat ≤ 86400000 ∧ (u.set (0x7900 + n.toNat) 2 v.toNat).reg (0x7900 + n.toNat) 4 ≠ 1) ∧
  (∃ (s : State) (u : State) (h : FopHead) (x : State) (y : State), s.Admits h 2 (obj 0x7800 2) ∧ u = s.counted h ∧ u.reg 0x7800 4 = 0 ∧ u.ev.fstat 10 = false ∧ x = ((u.setBytes 0x7801 0 0 (zeros 32)).setBytes 0x7802 0 0 (zeros 32)).set 0x7800 7 0 ∧ (y = ([1, 2, 3, 8, 9, 11].foldl (fun s i => s.setFstat i false) x).set 0x7800 3 0)) ∧
  (∃ (s : State) (u : State) (h : FopHead), s.Admits h 2 (obj 0x7800 2) ∧ u = s.counted h ∧ u.reg 0x7800 4 ≠ 0) ∧
  (∃ (s : State) (u : State) (h : FopHead), s.Admits h 2 (obj 0x7800 2) ∧ u = s.counted h ∧ u.reg 0x7800 4 = 0 ∧ u.ev.fstat 10 = true) ∧
  (∃ (s : State) (u : State) (h : FopHead) (v : State), s.Admits h 2 (obj 0x7800 2) ∧ u = s.counted h ∧ v = u.set 0x7800 3 0) :=
  ⟨⟨wWin, 7, (wWin.ev.bump (wObj 7 7)).bank,
   by decide +kernel⟩,
  ⟨wWin.put 0x790706 3, 7,
   by decide +kernel⟩,
  ⟨wUp.put 0x790004 1, State.counted (wUp.put 0x790004 1) hd, hd, 0, 5,
   by decide +kernel⟩,
  ⟨wUp.put 0x790004 0, State.counted (wUp.put 0x790004 0) hd, hd, 0, 5,
   by decide +kernel⟩,
  ⟨wUp.put 0x790004 1, State.counted (wUp.put 0x790004 1) hd, hd, 0, 5,
   by decide +kernel⟩,
  ⟨wUp.put 0x790004 0, State.counted (wUp.put 0x790004 0) hd, hd, 0, 5,
   by decide +kernel⟩,
  ⟨wUp, State.counted (wUp) hd, hd, (((State.counted wUp hd).setBytes 0x7801 0 0 (zeros 32)).setBytes 0x7802 0 0 (zeros 32)).set 0x7800 7 0, ([1, 2, 3, 8, 9, 11].foldl (fun s i => s.setFstat i false) ((((State.counted wUp hd).setBytes 0x7801 0 0 (zeros 32)).setBytes 0x7802 0 0 (zeros 32)).set 0x7800 7 0)).set 0x7800 3 0,
   by decide +kernel⟩,
  ⟨wUp.put 0x780004 1, State.counted (wUp.put 0x780004 1) hd, hd,
   by decide +kernel⟩,
  ⟨{ wUp with ev := wUp.ev.setFstat 10 true }, State.counted ({ wUp with ev := wUp.ev.setFstat 10 true }) hd, hd,
   by decide +kernel⟩,
  ⟨wUp, State.counted (wUp) hd, hd, (State.counted wUp hd).set 0x7800 3 0,
   by decide +kernel⟩⟩

theorem test_TemperatureAndCalibration_hypotheses :
  (∃ (s : State) (u : State) (v : State) (w : State) (readings : List Int) (l : List Int) (c : Fin 6) (on : List Nat) (rate : Nat → Int), s.alive = true ∧ (l = (upTo 24).map fun i => clampInt (-32768) 32767 (readings.getD i 0)) ∧ (on = (upTo 24).filter fun i => !bit (s.reg 0x0060 5) i) ∧ (rate = fun i => s.rateOf l i) ∧ (u = (s.setBytes 0x0061 0 0 (l.flatMap fun r => leBytes 2 (ofSigned 16 r))).setBytes 0x0060 8 0 ((upTo 24).flatMap fun i => leBytes 2 (ofSigned 16 (clampInt (-32768) 32767 (rate i))))) ∧ (v = (upTo 24).foldl (fun t i => t.sensorCheck (s.reg 0x0060 5) l i) (((u.set 0x0060 7 (match hottest on l with | some i => ofSigned 16 (l.getD i 0) | none => u.reg 0x0060 7)).rateChecks on rate).criticalCheck on l).bandChecks) ∧ (w = State.setReady { v with therm := { v.therm with hist := (l :: v.therm.hist).take 100 } } 37 (decide (16 ≤ ((upTo 24).countP fun i => !bit (v.reg 0x0060 5) i))))) ∧
  (∃ (s : State) (i : Nat), s.alive = true ∧ s.therm.throttled = true ∧ s.therm.lastWarm + s.reg 0x0060 3 * 1000000 ≤ s.clk.now ∧ ((upTo 24).find? (fun i => !bit (s.reg 0x0060 5) i) = some i)) ∧
  (∃ (s : State), s.alive = true) ∧
  (∃ (s : State) (u : State) (d : Bool) (r : Bool) (t : Nat), s.alive = true ∧ d = (decide (s.therm.droop < 16) && s.intervalOver s.therm.droopAt) ∧ r = (s.therm.restoring && s.intervalOver s.therm.thermAt) ∧ (t = (if r = true then min 16 (s.reg 0x0060 9 + 1) else s.reg 0x0060 9)) ∧ (u = { s with therm := { s.therm with restoring := s.therm.restoring && decide (t < 16), droopAt := if d = true then s.clk.now else s.therm.droopAt, thermAt := if r = true then s.clk.now else s.therm.thermAt } })) ∧
  (∃ (s : State) (n : Fin 28), s.alive = true ∧ (s.unitCalib n).running = false ∧ n.val < 20 ∧ s.linkWants n = true) ∧
  (∃ (s : State) (n : Fin 28), s.alive = true ∧ (s.unitCalib n).running = false ∧ 20 ≤ n.val ∧ s.tableWants (n.val - 20) = true) ∧
  (∃ (s : State) (n : Fin 28) (margin : BitVec 16) (load : BitVec 8) (i : Nat) (b : Nat), s.alive = true ∧ (s.unitCalib n).running = true ∧ n.val < 20 ∧ i = linkSensor n ∧ b = s.sensorBand i ∧ s.reg 0x0070 0x0A ≤ margin.toNat ∧ (s.unitCalib n).margin ≤ margin.toNat) ∧
  (∃ (s : State) (n : Fin 28) (margin : BitVec 16) (load : BitVec 8) (i : Nat) (b : Nat), s.alive = true ∧ (s.unitCalib n).running = true ∧ n.val < 20 ∧ i = linkSensor n ∧ b = s.sensorBand i ∧ margin.toNat < s.reg 0x0070 0x0A) ∧
  (∃ (s : State) (n : Fin 28) (margin : BitVec 16) (load : BitVec 8) (m : Int) (new : Int), s.alive = true ∧ (s.unitCalib n).running = true ∧ 20 ≤ n.val ∧ s.tableTemp (n.val - 20) = some m ∧ new = clampInt (-32768) 32767 (m + toSigned 16 (s.le 0x0070 7 (2 * (n.val - 20)) 2)) ∧ (new - toSigned 16 (s.tension (n.val - 20) 0 2)).natAbs ≤ s.reg 0x0070 6) :=
  ⟨⟨wUp, (wUp.setBytes 0x0061 0 0 (((upTo 24).map fun i => clampInt (-32768) 32767 (([] : List Int).getD i 0)).flatMap fun r => leBytes 2 (ofSigned 16 r))).setBytes 0x0060 8 0 ((upTo 24).flatMap fun i => leBytes 2 (ofSigned 16 (clampInt (-32768) 32767 (wUp.rateOf ((upTo 24).map fun i => clampInt (-32768) 32767 (([] : List Int).getD i 0)) i)))), _, _, [], _, 0, _, _,
   by decide +kernel,
   rfl,
   rfl,
   rfl,
   rfl,
   rfl,
   rfl⟩,
  ⟨{ wLate wUp with therm := { wUp.therm with throttled := true } }, 0,
   by decide +kernel⟩,
  ⟨wUp,
   by decide +kernel⟩,
  ⟨wUp, _, _, _, _,
   by decide +kernel,
   rfl,
   rfl,
   rfl,
   rfl⟩,
  ⟨wCal, 0,
   by decide +kernel⟩,
  ⟨wCalT, 20,
   by decide +kernel⟩,
  ⟨wRunning, 0, 40, 0, linkSensor 0, wRunning.sensorBand (linkSensor 0),
   by decide +kernel⟩,
  ⟨wRunning.put 0x700A 30, 0, 0, 0, linkSensor 0, wRunning.sensorBand (linkSensor 0),
   by decide +kernel⟩,
  ⟨wCalR, 20, 0, 0, 16, 16,
   by decide +kernel⟩⟩

theorem test_ResetAndBoot_hypotheses :
  (∃ (s : State) (h : State), h = s.hold) ∧
  (∃ (s : State), s.boot.phase ≠ .deep) ∧
  (∃ (s : State) (r : State) (pins : ResetPins) (testEn : Bool), r = s.tapRun pins.low ∧ s.boot.porN = false ∧ s.aon.vbat = true ∧ s.boot.railsOk = false) ∧
  (∃ (s : State) (r : State) (t : State) (pins : ResetPins) (testEn : Bool), r = s.tapRun pins.low ∧ s.boot.porN = false ∧ s.aon.vbat = true ∧ s.boot.railsOk = true ∧ s.boot.phase = .held ∧ t = { r with boot := { r.boot with porN := true, straps := pins.straps, testEn := testEn, cause := 0 }, aon := { r.aon with keepEn := true, mainEn := true } }) ∧
  (∃ (s : State) (t : State), s.aon.vbat = true ∧ s.aon.mainEn = true ∧ s.boot.railsOk = false ∧ s.boot.porN = true ∧ s.boot.phase = .held ∧ t = { s with boot := { s.boot with railsOk := true, cause := 0 } }) ∧
  (∃ (s : State), s.aon.vbat = true ∧ s.aon.mainEn = true ∧ s.boot.railsOk = false ∧ s.boot.porN = false) ∧
  (∃ (s : State), s.aon.vbat = false) ∧
  (∃ (s : State), s.alive = true) ∧
  (∃ (s : State), s.boot.phase = .romWait ∧ s.boot.started + 1000000000 ≤ s.clk.now) ∧
  (∃ (s : State), s.boot.phase = .boot ∧ s.boot.started + 20000000000 ≤ s.clk.now) ∧
  (∃ (s : State) (t : State), s.boot.phase = .boot ∧ s.boot.other = false ∧ t = { s with boot := { s.boot with phase := .run, other := false }, aon := { s.aon with failed := 0 } }) ∧
  (∃ (s : State) (t : State), s.boot.phase = .boot ∧ s.boot.other = true ∧ t = State.raise (State.set { s with boot := { s.boot with phase := .run, other := false }, aon := { s.aon with failed := 0 } } 0x8000 4 s.aon.failed) 0 0 (s.reg 0x8001 1 + s.reg 0x8000 3 * 2 ^ 32 + s.aon.failed * 2 ^ 40)) ∧
  (∃ (s : State) (u : State) (h : FopHead) (v : State), s.Admits h 2 (obj 0x8000 5) ∧ u = s.counted h ∧ u.pagesActive = false ∧ v = u.set 0x8000 6 0) ∧
  (∃ (s : State) (u : State) (h : FopHead), s.Admits h 2 (obj 0x8000 5) ∧ u = s.counted h ∧ u.pagesActive = true) :=
  ⟨⟨wUp, _,
   rfl⟩,
  ⟨wUp,
   by decide +kernel⟩,
  ⟨wOff false false, _, ⟨1, [⟨true, true, false, []⟩], [⟨true, true, false, []⟩]⟩, false,
   rfl,
   by decide +kernel⟩,
  ⟨wOff false true, _, _, ⟨1, [⟨true, true, false, []⟩], [⟨true, true, false, []⟩]⟩, false,
   rfl,
   (and_four (by decide +kernel) (rfl))⟩,
  ⟨wOff true false, _,
   (and_four (by decide +kernel) ⟨by decide +kernel, rfl⟩)⟩,
  ⟨wOff false false,
   by decide +kernel⟩,
  ⟨{ State.reset with aon := { State.reset.aon with vbat := false } },
   by decide +kernel⟩,
  ⟨wUp,
   by decide +kernel⟩,
  ⟨wPhase .romWait,
   by decide +kernel⟩,
  ⟨wPhase .boot,
   by decide +kernel⟩,
  ⟨wPhase .boot, _,
   by decide +kernel,
   by decide +kernel,
   rfl⟩,
  ⟨{ wPhase .boot with boot := { (wPhase .boot).boot with other := true } }, _,
   by decide +kernel,
   by decide +kernel,
   rfl⟩,
  ⟨wUp, State.counted (wUp) hd, hd, _,
   by decide +kernel,
   by decide +kernel,
   by decide +kernel,
   rfl⟩,
  ⟨wPages { page0 with st := .released }, State.counted (wPages { page0 with st := .released }) hd, hd,
   by decide +kernel⟩⟩

theorem test_FirmwareUpdate_hypotheses :
  (∃ (s : State) (u : State) (h : FopHead), s.Admits h 2 (obj 0x8010 1) ∧ u = s.counted h ∧ u.updState = 0) ∧
  (∃ (s : State) (e : Nat), s.alive = true ∧ s.updState = 1 ∧ s.containerCheck s.staged = .error e) ∧
  (∃ (s : State), s.alive = true ∧ s.updState = 1) ∧
  (∃ (s : State) (u : State) (h : FopHead) (c : Nat) (slot : Nat) (v : State), s.Admits h 2 (obj 0x8010 1) ∧ u = s.counted h ∧ u.updState = 2 ∧ c = u.update.comp ∧ u.slotState c (u.runSlot c) ≠ 2 ∧ u.slotState c (u.runSlot c) ≠ 3 ∧ slot = 1 - u.activeSlot c ∧ v = { u.slotTo c slot 0 0 with update := { u.update with slot := slot } }) ∧
  (∃ (s : State), s.alive = true ∧ s.updState = 3 ∧ s.dmaClaimed = true) ∧
  (∃ (s : State), s.alive = true ∧ s.updState = 3 ∧ s.dmaClaimed = true) ∧
  (∃ (s : State) (u : State) (h : FopHead), s.Admits h 2 (obj 0x8010 1) ∧ u = s.counted h ∧ u.updState = 4 ∧ u.update.comp ≠ 1) ∧
  (∃ (s : State) (u : State) (h : FopHead) (v : State) (w : State), s.Admits h 2 (obj 0x8010 1) ∧ u = s.counted h ∧ u.updState = 4 ∧ u.update.comp = 1 ∧ u.pagesActive = false ∧ (([0, 1, 2, 3].any fun a => [2, 3, 4].contains (u.axisState a)) = false) ∧ u.settingsBusy = false ∧ v = u.dirEdit 1 [(1, leBytes 1 u.update.slot), (2 + u.update.slot, [2]), (20 + u.update.slot, [0])] ∧ w = v.set 0x8010 3 0) ∧
  (∃ (s : State) (v : State) (w : State) (n : Update), s.alive = true ∧ s.updState = 5 ∧ s.atBoundary s.update.comp = true ∧ n = s.update ∧ v = s.dirEdit n.comp [(1, leBytes 1 n.slot), (2 + n.slot, [2]), (20 + n.slot, [0])] ∧ w = v.set 0x8001 n.comp (leAt n.header 8 4)) ∧
  (∃ (s : State), s.alive = true ∧ s.updState = 6 ∧ s.update.failing = true ∧ s.atBoundary s.update.comp = true) ∧
  (∃ (s : State), s.alive = true ∧ s.updState = 6 ∧ s.update.failing = false ∧ s.clk.now ≤ s.update.trial + 1000000000 ∧ s.update.served.all s.ready = true) ∧
  (∃ (s : State) (old : Nat) (n : Update), s.alive = true ∧ s.updState = 6 ∧ s.update.failing = false ∧ s.atBoundary s.update.comp = true ∧ n = s.update ∧ old = leAt (s.slotHeader n.comp (1 - n.slot)) 8 4) ∧
  (∃ (s : State), s.alive = true ∧ s.updState = 6 ∧ s.update.failing = false ∧ s.atBoundary s.update.comp = false) ∧
  (∃ (s : State) (u : State) (h : FopHead) (c : Nat) (slot : Nat) (v : State) (r : State × Bool), s.Admits h 2 (obj 0x8010 1) ∧ u = s.counted h ∧ u.updState = 0 ∧ c = u.reg 0x8010 8 ∧ slot = 1 - u.activeSlot c ∧ v = { u with update := ⟨u.slotHeader c slot, [], c, slot, 0, [], false⟩ } ∧ (r = (if (u.slotSound c slot && u.slotVerifies c slot && u.compatibleWith c (u.slotHeader c slot)) = true then (if v.updGo.2 = true then v.updGo else u.updResult 2) else u.updResult 17))) ∧
  (∃ (s : State) (u : State) (h : FopHead), s.Admits h 2 (obj 0x8010 1) ∧ u = s.counted h ∧ u.updState = 2) ∧
  (∃ (s : State) (u : State) (h : FopHead), s.Admits h 2 (obj 0x8010 1) ∧ u = s.counted h ∧ u.updState = 4) :=
  ⟨⟨wUp, State.counted (wUp) hd, hd,
   by decide +kernel⟩,
  ⟨wUp.put 0x801004 1, 3,
   by decide +kernel⟩,
  ⟨wUp.put 0x801004 1,
   by decide +kernel⟩,
  ⟨wUpd 2, State.counted (wUpd 2) hd, hd, 2, 1, _,
   (and_four (by decide +kernel) ⟨by decide +kernel, by decide +kernel, by decide +kernel, rfl⟩)⟩,
  ⟨wUpd 3,
   by decide +kernel⟩,
  ⟨wUpd 3,
   by decide +kernel⟩,
  ⟨wUpd 4, State.counted (wUpd 4) hd, hd,
   by decide +kernel⟩,
  ⟨wUpd1, State.counted (wUpd1) hd, hd, _, _,
   (and_four (by decide +kernel) ⟨by decide +kernel, by decide +kernel, by decide +kernel, rfl, rfl⟩)⟩,
  ⟨wUpd 5, _, _, upd0,
   (and_four (by decide +kernel) ⟨rfl, rfl⟩)⟩,
  ⟨wUpdF,
   by decide +kernel⟩,
  ⟨wUpd 6,
   by decide +kernel⟩,
  ⟨wUpd 6, 0xFFFFFFFF, upd0,
   (and_four (by decide +kernel) ⟨by decide +kernel, rfl⟩)⟩,
  ⟨wUpdB,
   by decide +kernel⟩,
  ⟨wUp.put 0x801008 2, State.counted (wUp.put 0x801008 2) hd, hd, 2, 1, _, _,
   (and_four (by decide +kernel) ⟨by decide +kernel, rfl, rfl⟩)⟩,
  ⟨wUpd 2, State.counted (wUpd 2) hd, hd,
   by decide +kernel⟩,
  ⟨wUpd 4, State.counted (wUpd 4) hd, hd,
   by decide +kernel⟩⟩

theorem test_RomRecovery_hypotheses :
  (∃ (s : State) (t : State) (p : Peer) (name : Bytes) (n : Nat), s.recovers false = true ∧ s.recovery.peer = none ∧ recoveryName name = some n ∧ t = { s with recovery := { s.recovery with peer := some p, name := n, data := [], block := 1 } }) ∧
  (∃ (s : State) (p : Peer) (name : Bytes) (octet : Bool), s.recovers false = true) ∧
  (∃ (s : State) (p : Peer) (q : Peer) (name : Bytes) (octet : Bool), s.recovers false = true ∧ s.recovery.peer = some q) ∧
  (∃ (s : State) (t : State) (p : Peer) (n : BitVec 16) (d : Bytes), s.recovers false = true ∧ s.recovery.peer = some p ∧ s.recovery.block = n.toNat ∧ d.length = 512 ∧ s.recovery.data.length + d.length ≤ fileRoom s.recovery.name ∧ t = { s with recovery := { s.recovery with data := s.recovery.data ++ d, block := wrapAdd 16 n.toNat 1 } }) ∧
  (∃ (s : State) (t : State) (p : Peer) (n : BitVec 16) (d : Bytes), s.recovers false = true ∧ s.recovery.peer = some p ∧ s.recovery.block = n.toNat ∧ d.length < 512 ∧ s.recovery.name = 5 ∧ s.recovery.data.length + d.length ≤ fileRoom s.recovery.name ∧ t = { s with recovery := { s.recovery with data := s.recovery.data ++ d, block := wrapAdd 16 n.toNat 1 } }) ∧
  (∃ (s : State) (t : State) (p : Peer) (n : BitVec 16) (d : Bytes) (code : Nat), s.recovers false = true ∧ s.recovery.peer = some p ∧ s.recovery.block = n.toNat ∧ d.length < 512 ∧ s.recovery.name ≠ 5 ∧ s.recovery.data.length + d.length ≤ fileRoom s.recovery.name ∧ t = { s with recovery := { s.recovery with data := s.recovery.data ++ d, block := wrapAdd 16 n.toNat 1 } } ∧ code = recoveryCode t.recovery.name t.recovery.data) ∧
  (∃ (s : State) (v : State) (p : Peer), s.recovers false = true ∧ s.recovery.peer = some p ∧ s.recovery.sent + 1000000000 ≤ s.clk.now ∧ s.recovery.sends < 5 ∧ v = s.tftpAck p ((s.recovery.block + 65535) % 65536)) ∧
  (∃ (s : State) (p : Peer), s.recovers false = true ∧ s.recovery.peer = some p ∧ s.recovery.sent + 1000000000 ≤ s.clk.now ∧ 5 ≤ s.recovery.sends) ∧
  (∃ (s : State) (t : State) (f : UartFrame) (n : Nat), s.recovers true = true ∧ f.good = true ∧ recoveryName f.body = some n ∧ t = { s with recovery := { s.recovery with uart := some n, data := [] } }) ∧
  (∃ (s : State) (f : UartFrame), s.recovers true = true ∧ f.good = true ∧ recoveryName f.body = none) ∧
  (∃ (s : State) (t : State) (f : UartFrame) (n : Nat) (d : Bytes), s.recovers true = true ∧ f.good = true ∧ s.recovery.uart = some n ∧ f.body = leBytes 4 s.recovery.data.length ++ d ∧ s.recovery.data.length < 2 ^ 32 ∧ 1 ≤ d.length ∧ d.length ≤ 1024 ∧ s.recovery.data.length + d.length ≤ fileRoom n ∧ t = { s with recovery := { s.recovery with data := s.recovery.data ++ d } }) ∧
  (∃ (s : State) (f : UartFrame), s.recovers true = true ∧ f.good = true ∧ s.recovery.uart = none) ∧
  (∃ (s : State) (v : State) (f : UartFrame), s.recovers true = true ∧ f.good = true ∧ s.recovery.uart = some 5 ∧ f.body.length = 4 ∧ leAt f.body 0 4 = s.recovery.data.length ∧ v = s.uartAnswer 3 0 0) ∧
  (∃ (s : State) (v : State) (f : UartFrame) (n : Nat), s.recovers true = true ∧ f.good = true ∧ s.recovery.uart = some n ∧ n ≠ 5 ∧ f.body.length = 4 ∧ leAt f.body 0 4 = s.recovery.data.length ∧ (v = (if recoveryCode n s.recovery.data = 0 then (s.recoveryWrite s.recovery.data).uartAnswer 3 0 0 else s.uartAnswer 3 4 (recoveryCode n s.recovery.data)))) ∧
  (∃ (s : State) (f : UartFrame), s.recovers true = true ∧ f.good = true) :=
  ⟨⟨wRec 0, _, hd.peer, ascii "sc", 1,
   by decide +kernel,
   by decide +kernel,
   by decide +kernel,
   rfl⟩,
  ⟨wRec 0, hd.peer, [], true,
   by decide +kernel⟩,
  ⟨wTftp 1, hd.peer, hd.peer, [], true,
   by decide +kernel⟩,
  ⟨wTftp 1, _, hd.peer, 1, List.replicate 512 0,
   (and_four (by decide +kernel) ⟨by decide +kernel, rfl⟩)⟩,
  ⟨wTftp 5, _, hd.peer, 1, [],
   (and_four (by decide +kernel) ⟨by decide +kernel, by decide +kernel, rfl⟩)⟩,
  ⟨wTftp 1, _, hd.peer, 1, [1, 2], 3,
   (and_four (by decide +kernel) ⟨by decide +kernel, by decide +kernel, rfl, rfl⟩)⟩,
  ⟨wTftp 1, _, hd.peer,
   (and_four (by decide +kernel) (rfl))⟩,
  ⟨{ wTftp 1 with recovery := { (wTftp 1).recovery with sends := 5 } }, hd.peer,
   by decide +kernel⟩,
  ⟨wRec 4, _, ⟨ascii "sc", true⟩, 1,
   by decide +kernel,
   by decide +kernel,
   by decide +kernel,
   rfl⟩,
  ⟨wRec 4, ⟨[], true⟩,
   by decide +kernel⟩,
  ⟨wUart 1 [], _, ⟨[0, 0, 0, 0, 7], true⟩, 1, [7],
   (and_four (by decide +kernel) ((and_four (by decide +kernel) (rfl))))⟩,
  ⟨wRec 4, ⟨[], true⟩,
   by decide +kernel⟩,
  ⟨wUart 5 [], _, ⟨[0, 0, 0, 0], true⟩,
   (and_four (by decide +kernel) ⟨by decide +kernel, rfl⟩)⟩,
  ⟨wUart 1 [], _, ⟨[0, 0, 0, 0], true⟩, 1,
   (and_four (by decide +kernel) ⟨by decide +kernel, by decide +kernel, rfl⟩)⟩,
  ⟨wRec 4, ⟨[], true⟩,
   by decide +kernel⟩⟩

theorem test_BoardRing_hypotheses :
  (∃ (s : State) (v : State) (w : State) (x : State) (k : Fin 4) (o : SeamHead), s.alive = true ∧ s.seamTakes k o.origin = true ∧ v = s.forward k o.hops [0, 1, 2, 3] (leBytes 1 0xF0 ++ leBytes 1 (hopByte o.origin o.hops o.valid) ++ zeros 6) ∧ w = { v with board := { v.board with heard := sset 0 v.board.heard o.origin (v.clk.now + 1), missing := setBit v.board.missing o.origin false } } ∧ (x = (if bit v.board.missing o.origin = true then w.raise 71 0 (w.presentMap + 2 * 256) else w))) ∧
  (∃ (s : State), s.alive = true ∧ s.sendDue 0 10000 = true ∧ s.ring = true) ∧
  (∃ (s : State) (v : State) (w : State) (d : Fin 8) (h : Nat), s.alive = true ∧ s.ring = true ∧ d.val < s.members ∧ d.val ≠ s.own ∧ bit s.board.missing d = false ∧ h = sget 0 s.board.heard d ∧ ((if h = 0 then s.boot.started else h - 1) + 100000 ≤ s.clk.now) ∧ v = { s with board := { s.board with missing := setBit s.board.missing d true } } ∧ (w = v.raise 71 0 ((if bit v.presentMap d = true then v.presentMap - 2 ^ d.val else v.presentMap) + 256))) ∧
  (∃ (s : State) (v : State) (w : State) (x : State) (k : Fin 4) (o : SeamHead) (count : BitVec 24) (at_ : BitVec 24) (c : Int) (t : Int) (c0 : Int) (t0 : Int), s.alive = true ∧ s.seamTakes k o.origin = true ∧ v = s.forward k o.hops [0] (leBytes 1 0xC3 ++ leBytes 1 (hopByte o.origin o.hops o.valid) ++ leBytes 3 count.toNat ++ leBytes 3 at_.toNat) ∧ v.follows o.origin = true ∧ v.board.spos = none ∧ v.board.sposPort = 0 ∧ c0 = v.pos.src ∧ t0 = v.boardTime ∧ c = nearest c0 24 count.toNat ∧ t = nearest t0 24 at_.toNat ∧ v.boardTime < t + (v.reg 0x8810 1 : Int) ∧ o.valid = true ∧ w = { v with board := { v.board with spos := some (c, t.toNat), sposPort := k + 1, sposAt := v.clk.now, sposRun := v.board.sposRun + 1 }, pos := { v.pos with future := v.pos.future ++ spread c0 c (t0 + (v.reg 0x8810 1 : Int) - v.offset) (t + (v.reg 0x8810 1 : Int) - v.offset) } } ∧ x = w.posLock) ∧
  (∃ (s : State) (c : Int) (t : Nat), s.alive = true ∧ s.master = true ∧ s.sendDue 1 (16 * s.ringBlock) = true ∧ s.latestCount = (c, t)) ∧
  (∃ (s : State) (k : Fin 4) (o : SeamHead) (g : SeamMsg), s.alive = true ∧ s.seamTakes k o.origin = true ∧ g.good = true ∧ s.board.seen.contains (o.origin.val, g.seq.toNat) = false ∧ g.target = 0xFF) ∧
  (∃ (s : State), s.alive = true ∧ s.master = true ∧ s.sendDue 3 10000000 = true) ∧
  (∃ (s : State) (v : State) (k : Fin 4) (o : SeamHead) (at_ : BitVec 48) (m : Int), s.alive = true ∧ s.seamTakes k o.origin = true ∧ m = nearest s.boardTime 48 at_.toNat + (s.seamLatency k : Int) ∧ (v = s.forward k o.hops [0] (leBytes 1 0xCC ++ leBytes 1 (hopByte o.origin o.hops false) ++ leBytes 6 ((if s.follower && s.flag 0x8810 5 then s.boardTime else m) + (2 * s.ringBlock / 10 : Nat)).toNat)) ∧ v.follower = true ∧ o.origin.val = v.reg 0x8800 4 ∧ v.reg 0x1000 5 = 1 ∧ v.board.stimePort = 0) ∧
  (∃ (s : State), s.alive = true ∧ s.master = true ∧ s.sendDue 2 (64 * s.ringBlock) = true) ∧
  (∃ (s : State) (v : State) (w : State) (t : Nat) (m : Nat), s.alive = true ∧ s.flag 0x8810 5 = true ∧ s.board.stime = some (t, m) ∧ t + 10000 ≤ s.clk.now ∧ v = s.set 0x8810 5 0 ∧ w = { v with board := { s.board with stimes := 0, stime := none, stimePort := 0 } }) ∧
  (∃ (s : State), s.alive = true ∧ s.follower = true ∧ s.reg 0x2800 2 = 2 ∧ s.board.sposAt + 128 * s.ringBlock / 10 ≤ s.clk.now) ∧
  (∃ (s : State) (k : Fin 4) (o : SeamHead) (g : SeamMsg), s.alive = true ∧ s.seamTakes k o.origin = true ∧ g.good = true ∧ s.board.seen.contains (o.origin.val, g.seq.toNat) = false ∧ g.target = 0xFF) ∧
  (∃ (s : State) (e : Nat) (b : Int) (t : Nat), s.alive = true ∧ s.board.rebase = some (e, b, t) ∧ (t : Int) ≤ s.boardTime) :=
  ⟨⟨wRing 0, _, _, _, 0, ⟨1, 0, true⟩,
   by decide +kernel,
   by decide +kernel,
   rfl,
   rfl,
   rfl⟩,
  ⟨wRing 0,
   by decide +kernel⟩,
  ⟨wRing 0, _, _, 1, 0,
   (and_four (by decide +kernel) ⟨by decide +kernel, by decide +kernel, by decide +kernel, rfl, rfl⟩)⟩,
  ⟨wFollow, _, _, _, 0, ⟨0, 0, true⟩, 3, 7013376, 3, 90000000000, 0, 90000000000,
   by decide +kernel,
   by decide +kernel,
   rfl,
   rfl,
   rfl,
   rfl,
   rfl,
   rfl,
   by decide +kernel,
   by decide +kernel,
   (by first | decide +kernel | rfl | exact Nat.zero_le _),
   by decide +kernel,
   rfl,
   rfl⟩,
  ⟨wRing 0, 0, 90000000000,
   by decide +kernel⟩,
  ⟨wFollow, 0, ⟨0, 0, true⟩, ⟨1, 1, 0xFF, 0, [], true⟩,
   by decide +kernel⟩,
  ⟨wRing 0,
   by decide +kernel⟩,
  ⟨wFollow, _, 0, ⟨0, 0, false⟩, 0, _,
   by decide +kernel,
   by decide +kernel,
   rfl,
   rfl,
   rfl,
   rfl,
   rfl,
   rfl⟩,
  ⟨wRing 0,
   by decide +kernel⟩,
  ⟨wLost, _, _, 0, 0,
   (and_four (by decide +kernel) ⟨rfl, rfl⟩)⟩,
  ⟨wFollow,
   by decide +kernel⟩,
  ⟨wFollow, 0, ⟨0, 0, true⟩, ⟨1, 1, 0xFF, 0, [], true⟩,
   by decide +kernel⟩,
  ⟨{ wFollow with board := { wFollow.board with rebase := some (1, 2, 3) } }, 1, 2, 3,
   by decide +kernel⟩⟩

theorem test_ReleaseBarrierAndMessages_hypotheses :
  (∃ (s : State) (v : State) (p : Page) (q : Nat), s.alive = true ∧ s.board.reopen = none ∧ s.master = true ∧ s.board.barrier = none ∧ s.nextRelease = some p ∧ s.releasable p = true ∧ q = (s.startOf p.num).1 ∧ v = s.smsg 2 0xFF 0 (leBytes 4 p.id ++ leBytes 4 p.len ++ leBytes 4 p.reps ++ leBytes 4 p.gap ++ leBytes 8 q)) ∧
  (∃ (s : State) (k : Fin 4) (o : SeamHead) (g : SeamMsg), s.alive = true ∧ s.seamTakes k o.origin = true ∧ g.good = true ∧ s.board.seen.contains (o.origin.val, g.seq.toNat) = false ∧ g.target = 0xFF) ∧
  (∃ (s : State) (k : Fin 4) (o : SeamHead) (g : SeamMsg), s.alive = true ∧ s.seamTakes k o.origin = true ∧ g.good = true ∧ s.board.seen.contains (o.origin.val, g.seq.toNat) = false ∧ g.target = 0xFF) ∧
  (∃ (s : State) (k : Fin 4) (o : SeamHead) (g : SeamMsg), s.alive = true ∧ s.seamTakes k o.origin = true ∧ g.good = true ∧ s.board.seen.contains (o.origin.val, g.seq.toNat) = false ∧ g.target = 0xFF) ∧
  (∃ (s : State) (k : Fin 4) (o : SeamHead) (g : SeamMsg), s.alive = true ∧ s.seamTakes k o.origin = true ∧ g.good = true ∧ s.board.seen.contains (o.origin.val, g.seq.toNat) = false ∧ g.target = 0xFF) ∧
  (∃ (s : State) (k : Fin 4) (o : SeamHead) (g : SeamMsg), s.alive = true ∧ s.seamTakes k o.origin = true ∧ g.good = true ∧ s.board.seen.contains (o.origin.val, g.seq.toNat) = false ∧ g.target = 0xFF) ∧
  (∃ (s : State) (k : Fin 4) (o : SeamHead) (g : SeamMsg), s.alive = true ∧ s.seamTakes k o.origin = true ∧ g.good = true ∧ s.board.seen.contains (o.origin.val, g.seq.toNat) = false ∧ g.target = 0xFF) ∧
  (∃ (s : State) (b : Barrier), s.alive = true ∧ s.board.barrier = some b ∧ b.opened + s.reg 0x8830 1 * 1000000 ≤ s.clk.now) ∧
  (∃ (s : State) (t : Nat), s.alive = true ∧ s.board.reopen = some t ∧ t ≤ s.clk.now) ∧
  (∃ (s : State) (u : State) (h : FopHead) (n : BitVec 8), s.Admits h 2 (obj 0x8840 3) ∧ u = s.counted h ∧ 1 < u.members) :=
  ⟨⟨wBar, _, page0v, _,
   (and_four (by decide +kernel) ⟨by decide +kernel, by decide +kernel, rfl, rfl⟩)⟩,
  ⟨wFollow, 0, ⟨0, 0, true⟩, ⟨1, 1, 0xFF, 0, [], true⟩,
   by decide +kernel⟩,
  ⟨wFollow, 0, ⟨0, 0, true⟩, ⟨1, 1, 0xFF, 0, [], true⟩,
   by decide +kernel⟩,
  ⟨wFollow, 0, ⟨0, 0, true⟩, ⟨1, 1, 0xFF, 0, [], true⟩,
   by decide +kernel⟩,
  ⟨wFollow, 0, ⟨0, 0, true⟩, ⟨1, 1, 0xFF, 0, [], true⟩,
   by decide +kernel⟩,
  ⟨wFollow, 0, ⟨0, 0, true⟩, ⟨1, 1, 0xFF, 0, [], true⟩,
   by decide +kernel⟩,
  ⟨wFollow, 0, ⟨0, 0, true⟩, ⟨1, 1, 0xFF, 0, [], true⟩,
   by decide +kernel⟩,
  ⟨{ wRing 0 with board := { (wRing 0).board with barrier := some bar0 } }, bar0,
   by decide +kernel⟩,
  ⟨{ wRing 0 with board := { (wRing 0).board with reopen := some 7 } }, 7,
   by decide +kernel⟩,
  ⟨wRing 0, State.counted (wRing 0) hd, hd, 4,
   by decide +kernel⟩⟩

theorem test_BringUpTests_hypotheses :
  (∃ (s : State), s.alive = true ∧ s.ready 8 = true) ∧
  (∃ (s : State) (c : Fin 4), s.alive = true ∧ s.loaded 2 = true ∧ s.ready 7 = true ∧ s.unit (clusterUnit c) = 0) ∧
  (∃ (s : State) (v : State), s.alive = true ∧ s.reg 0xF000 4 = 3 ∧ s.reg 0xF000 1 ≠ 0x0020 ∧ s.reg 0xF000 1 ≠ 0x001B ∧ v = s.set 0xF000 4 0) :=
  ⟨⟨wUp.setReady 8 true,
   by decide +kernel⟩,
  ⟨(wUp.put 0x800102 1).setReady 7 true, 0,
   by decide +kernel⟩,
  ⟨wUp.put 0xF00004 3, _,
   (and_four (by decide +kernel) (rfl))⟩⟩

theorem test_StepRunsTheFrontCommand_hypotheses : ∃ (s : State) (c : Instr) (rest : List Instr), s.pending = c :: rest :=
  ⟨{ State.reset with pending := [.porNLow] }, .porNLow, [],
   by decide +kernel⟩

theorem test_IdleStepLetsTimePass_hypotheses :
  (∃ (s : State) (n : Nat), s.pending = [] ∧ s.boot.phase = .run ∧ s.aon.vbat = true ∧ n = (s.idle * (1000000000 + s.i32 0x1000 4)).toNat + s.clk.frac) ∧
  (∃ (s : State), s.pending = [] ∧ s.boot.phase = .held ∧ s.aon.vbat = true) ∧
  (∃ (s : State), s.pending = [] ∧ (s.boot.phase = .deep ∨ s.boot.phase = .keep) ∧ s.aon.vbat = true) :=
  ⟨⟨{ wUp with aon := { wUp.aon with vbat := true } }, 1000000000,
   by decide +kernel⟩,
  ⟨{ State.reset with aon := { State.reset.aon with vbat := true } },
   by decide +kernel⟩,
  ⟨{ State.reset with aon := { State.reset.aon with vbat := true }, boot := { State.reset.boot with phase := .deep } },
   by decide +kernel⟩⟩

theorem test_QuietEndChangesNothing_hypotheses : ∃ (s : State), s.ev.occ = [] ∧ s.ev.entry = 0 ∧ s.board.barrier = none ∧ s.board.vote = none ∧ (s.starts.any (fun e => !e.1.st.active && !e.1.late && !e.2.2 && decide (e.2.1 ≤ s.row + s.margin)) = false) ∧ s.render.decQueue = [] ∧ s.render.decoders = [] ∧ (s.fop.xfers.any (fun x => !x.isWrite && !x.changed && s.domRead (x.key / 256) (x.key % 256) 0 x.size != x.seen) = false) ∧ s.boot.due = .none :=
  ⟨State.reset,
   by decide +kernel⟩

theorem test_CollectorActsBySeverity_hypotheses :
  (∃ (e : Ev) (o : Occ), o.test = false ∧ e.started = true ∧ e.fstat 10 = false ∧ o.sev = 0) ∧
  (∃ (e : Ev) (o : Occ), o.test = false ∧ e.started = true ∧ e.fstat 10 = false ∧ o.sev = 1) ∧
  (∃ (e : Ev) (o : Occ), o.test = false ∧ e.started = true ∧ e.fstat 10 = false ∧ o.sev = 2) ∧
  (∃ (e : Ev) (o : Occ), o.test = false ∧ e.started = true ∧ e.fstat 10 = false ∧ o.sev = 3) ∧
  (∃ (e : Ev) (o : Occ), o.test = false ∧ e.started = true ∧ e.fstat 10 = false ∧ o.sev = 4) ∧
  (∃ (e : Ev) (o : Occ), o.test = true) :=
  ⟨⟨{ State.reset.ev with started := true }, Occ.plain 2 0 0 0 0,
   by decide +kernel⟩,
  ⟨{ State.reset.ev with started := true }, Occ.plain 2 1 0 0 0,
   by decide +kernel⟩,
  ⟨{ State.reset.ev with started := true }, Occ.plain 2 2 0 0 0,
   by decide +kernel⟩,
  ⟨{ State.reset.ev with started := true }, Occ.plain 2 3 0 0 0,
   by decide +kernel⟩,
  ⟨{ State.reset.ev with started := true }, Occ.plain 2 4 0 0 0,
   by decide +kernel⟩,
  ⟨State.reset.ev, { Occ.plain 2 4 0 0 0 with test := true },
   by decide +kernel⟩⟩

theorem test_ResetCommandAnswersFirst_hypotheses :
  (∃ (s : State) (u : State) (h : FopHead), s.Admits h 2 (obj 0x8000 5) ∧ u = s.counted h ∧ u.pagesActive = true) ∧
  (∃ (s : State) (u : State) (h : FopHead) (v : State) (w : State), s.Admits h 2 (obj 0x8000 5) ∧ u = s.counted h ∧ u.pagesActive = false ∧ v = u.set 0x8000 6 0 ∧ w = State.settle (State.fopReply { v with boot := { v.boot with due := .reset 5 } } h (s.ownAddr h.peer) 2 (obj 0x8000 5) St.ok [])) :=
  ⟨⟨wPages { page0 with st := .released }, State.counted (wPages { page0 with st := .released }) hd, hd,
   by decide +kernel⟩,
  ⟨wUp, State.counted (wUp) hd, hd, _, _,
   by decide +kernel,
   by decide +kernel,
   by decide +kernel,
   rfl,
   rfl⟩⟩

theorem test_MedianEdgePredictor_hypotheses : ∃ (p : Qtc.Par) (v : Nat) (pr : Int) (g : Int) (e : Int), 1 ≤ p.b ∧ v < 2 ^ p.b ∧ 0 ≤ pr ∧ pr < (2 ^ p.b : Nat) ∧ (g = 1 ∨ g = -1) ∧ e = Qtc.residual p v pr g :=
  ⟨par0, 3, 5, -1, 2,
   by decide +kernel⟩

theorem test_ThresholdScreen_hypotheses : ∃ (r : Inputs) (plane : Nat) (x : Nat) (y : Nat) (ys : Nat) (idx : Nat) (t : Nat), idx = r.scr plane 4 + ((y + r.scr plane 8) % 2 ^ r.scr plane 6) * 2 ^ r.scr plane 5 + (x + r.scr plane 7) % 2 ^ r.scr plane 5 ∧ t = leVal (r.bank.read (objAddr 0x4038 0 (2 * idx)) 2) % 2 ^ 12 :=
  ⟨inp0, 0, 0, 0, 0, 0, _,
   by decide +kernel,
   rfl⟩

theorem test_PipelineLineStoresOnlyItsLine_hypotheses : ∃ (s : State) (t : State) (k : Fin 32) (waited : BitVec 32) (cache : Restored) (i : Nat) (jb : Job) (p : Page) (g : Gen) (n : Nat) (y : Nat) (b : Nat), s.boot.due = .none ∧ s.stripJob k = some (i, jb, p) ∧ s.genOf p.gen = some g ∧ n = jb.stepOf k ∧ y = jb.line p n ∧ (((s.inputs p g).stripTiles k y).any (fun t => s.jobs.tileSt t == .lost) = false) ∧ cache ≠ .lost ∧ exec (.pipelineLine k waited cache) s = .next t ∧ (∀ m ∈ g.finishes jb k (sset 0 jb.next k.val (jb.stepAfter p k n)) n, b < p.doseAddr y + 8192 * m ∨ p.doseAddr y + 8192 * m + 8192 ≤ b) ∧ (b < p.trailerAddr y ∨ p.trailerAddr y + 128 ≤ b) :=
  ⟨wLine, _, 0, 0, .clean, 0, jobL, page0g, Gen.reset, 0, 0, page0g.doseAddr 0 + 131072 + page0g.trailerAddr 0 + 128,
   (and_four (by decide +kernel) ⟨by decide +kernel, by decide +kernel, by decide +kernel, (pl_next _ _ _ _), (fun m h => Or.inr (far1 (page0g.doseAddr 0) (page0g.trailerAddr 0) _ _ _ _ _ m h)), (Or.inr (far2 (page0g.doseAddr 0) (page0g.trailerAddr 0)))⟩)⟩

theorem test_RingsAreFirstInFirstOut_hypotheses :
  (∃ (e : Ev) (now : Nat) (epoch : Nat) (q : Nat) (mk : Nat → Bytes), Ring.active e q = true ∧ Ring.held e q < Ring.size e q) ∧
  (∃ (e : Ev) (now : Nat) (epoch : Nat) (q : Nat) (mk : Nat → Bytes), Ring.active e q = true ∧ Ring.size e q ≤ Ring.held e q) ∧
  (∃ (e : Ev) (q : Nat) (pi : Nat) (d : Bytes), Ring.active e q = true ∧ q < 256 ∧ pi = e.bank.get (qObj q 2) ∧ pi + 1 < 2 ^ 32 ∧ e.bank.get (qObj q 3) = pi ∧ d.length = 32 ∧ leAt d 2 2 = q ∧ leAt d 4 4 = pi) :=
  ⟨⟨State.reset.ev.ringAllocate 128 4, 0, 0, 128, fun _ => [],
   by decide +kernel⟩,
  ⟨eFull, 0, 0, 128, fun _ => [],
   by decide +kernel⟩,
  ⟨State.reset.ev.ringAllocate 128 4, 128, 0, leBytes 2 0 ++ leBytes 2 128 ++ zeros 28,
   by decide +kernel⟩⟩

theorem test_SafeStateEntryShowsItself_hypotheses : ∃ (s : State), s.ev.entry ≠ 0 :=
  ⟨{ wUp with ev := { wUp.ev with entry := 3 } },
   by decide +kernel⟩

theorem test_OnlyRestartsMoveClockAndBoot_hypotheses : ∃ (c : Instr) (s : State) (t : State), mayRestart c = false ∧ s.boot.due = .none ∧ exec c s = .next t :=
  ⟨.droopDetection, wUp, _,
   by decide +kernel,
   by decide +kernel,
   rfl⟩

theorem test_OnlyUpdatesAndSettingsTouchFlash_hypotheses : ∃ (c : Instr) (s : State) (t : State), mayRestart c = false ∧ mayKeep c = false ∧ s.boot.due = .none ∧ exec c s = .next t :=
  ⟨.droopDetection, wUp, _,
   by decide +kernel,
   by decide +kernel,
   by decide +kernel,
   rfl⟩

theorem test_CommandsThatStoreNothing_hypotheses : ∃ (c : Instr) (s : State) (t : State), mayRestart c = false ∧ mayStore c = false ∧ s.boot.due = .none ∧ exec c s = .next t :=
  ⟨.droopDetection, wUp, _,
   by decide +kernel,
   by decide +kernel,
   by decide +kernel,
   rfl⟩

theorem test_QueueKeepsItsRest_hypotheses : ∃ (s : State) (t : State), step s = .next t :=
  ⟨{ State.reset with pending := [.porNLow] }, _,
   rfl⟩

theorem test_DeviceTimeNeverGoesBack_hypotheses : ∃ (s : State) (t : State), step s = .next t :=
  ⟨State.reset, _,
   rfl⟩

theorem test_NothingIsOwedBetweenSteps_hypotheses : ∃ (s : State) (t : State), s.boot.due = .none ∧ step s = .next t :=
  ⟨State.reset, _,
   by decide +kernel,
   rfl⟩

theorem test_MemoriesStayCanonical_hypotheses : ∃ (s : State) (t : State), storesWf s.mem s.memBad s.staging s.flash = true ∧ step s = .next t :=
  ⟨State.reset, _,
   by decide +kernel,
   rfl⟩

end Sys2Proof.Tests
end

/-! PROOFS. What every command does: an effect on the state, then its end (`State.conclude`). The effect of a row outside `mayRestart` leaves queue, clock and boot record alone, and that of any row carries the queue over; the statements on the queue and on the answer of a command rest on this. -/

namespace Sys2Proof.Machine

/-- A row outside `mayRestart` (Safety), by its effect before the end: only a row of `mayKeep` may touch flash and its records, only one of `mayStore` DRAM and staging. -/
theorem exec_concludes_of_not_mayRestart (c : Instr) (s : State) (row : mayRestart c = false) :
    ∃ e : State, exec c s = .next e.conclude ∧ e.outer = s.outer ∧ (mayKeep c = false → e.kept = s.kept) ∧ (mayStore c = false → e.ram = s.ram) := by
  cases c with
  | read m => exact ⟨_, rfl, execRead_outer m s, fun _ => execRead_kept m s, fun _ => execRead_ram m s⟩
  | segReadInit m => exact ⟨_, rfl, execSegReadInit_outer m s, fun _ => execSegReadInit_kept m s, fun _ => execSegReadInit_ram m s⟩
  | segReadData m => exact ⟨_, rfl, execSegReadData_outer m s, fun _ => execSegReadData_kept m s, fun _ => execSegReadData_ram m s⟩
  | segWriteInit m => exact ⟨_, rfl, execSegWriteInit_outer m s, fun _ => execSegWriteInit_kept m s, fun _ => execSegWriteInit_ram m s⟩
  | segWriteData m behind => exact ⟨_, rfl, execSegWriteData_outer m behind s, fun _ => execSegWriteData_kept m behind s, fun _ => execSegWriteData_ram m behind s⟩
  | segEnd m => exact ⟨_, rfl, execSegEnd_outer m s, fun _ => execSegEnd_kept m s, nofun⟩
  | segAbort m => exact ⟨_, rfl, execSegAbort_outer m s, fun _ => execSegAbort_kept m s, fun _ => execSegAbort_ram m s⟩
  | subscribe m => exact ⟨_, rfl, execSubscribe_outer m s, fun _ => execSubscribe_kept m s, fun _ => execSubscribe_ram m s⟩
  | rangeRead m => exact ⟨_, rfl, execRangeRead_outer m s, fun _ => execRangeRead_kept m s, fun _ => execRangeRead_ram m s⟩
  | rangeWrite m => exact ⟨_, rfl, execRangeWrite_outer m s, fun _ => execRangeWrite_kept m s, nofun⟩
  | notifyAck peer tid => exact ⟨_, rfl, execNotifyAck_outer peer tid s, fun _ => execNotifyAck_kept peer tid s, fun _ => execNotifyAck_ram peer tid s⟩
  | fopDatagramDropped src bytes => exact ⟨_, rfl, execFopDatagramDropped_outer src bytes s, fun _ => execFopDatagramDropped_kept src bytes s, fun _ => execFopDatagramDropped_ram src bytes s⟩
  | clientEntryRelease src => exact ⟨_, rfl, execClientEntryRelease_outer src s, fun _ => execClientEntryRelease_kept src s, fun _ => execClientEntryRelease_ram src s⟩
  | replyCacheExpiry src tid => exact ⟨_, rfl, execReplyCacheExpiry_outer src tid s, fun _ => execReplyCacheExpiry_kept src tid s, fun _ => execReplyCacheExpiry_ram src tid s⟩
  | segTransferTimeout handle => exact ⟨_, rfl, execSegTransferTimeout_outer handle s, fun _ => execSegTransferTimeout_kept handle s, fun _ => execSegTransferTimeout_ram handle s⟩
  | notifySend slot => exact ⟨_, rfl, execNotifySend_outer slot s, fun _ => execNotifySend_kept slot s, fun _ => execNotifySend_ram slot s⟩
  | notifyResend slot tid => exact ⟨_, rfl, execNotifyResend_outer slot tid s, fun _ => execNotifyResend_kept slot tid s, fun _ => execNotifyResend_ram slot tid s⟩
  | eventClear h n => exact ⟨_, rfl, execEventClear_outer h n s, fun _ => execEventClear_kept h n s, fun _ => execEventClear_ram h n s⟩
  | settingsSave h => exact ⟨_, rfl, execSettingsSave_outer h s, nofun, fun _ => execSettingsSave_ram h s⟩
  | settingsErase h => exact ⟨_, rfl, execSettingsErase_outer h s, nofun, fun _ => execSettingsErase_ram h s⟩
  | settingsOperationComplete good => exact ⟨_, rfl, execSettingsOperationComplete_outer good s, nofun, fun _ => execSettingsOperationComplete_ram good s⟩
  | queueAllocate h q => exact ⟨_, rfl, execQueueAllocate_outer h q s, fun _ => execQueueAllocate_kept h q s, fun _ => execQueueAllocate_ram h q s⟩
  | queueRelease h q => exact ⟨_, rfl, execQueueRelease_outer h q s, fun _ => execQueueRelease_kept h q s, fun _ => execQueueRelease_ram h q s⟩
  | producerIndexWrite h q v => exact ⟨_, rfl, execProducerIndexWrite_outer h q v s, fun _ => execProducerIndexWrite_kept h q v s, fun _ => execProducerIndexWrite_ram h q v s⟩
  | consumerIndexWrite h q v => exact ⟨_, rfl, execConsumerIndexWrite_outer h q v s, fun _ => execConsumerIndexWrite_kept h q v s, fun _ => execConsumerIndexWrite_ram h q v s⟩
  | unitTakeOut h => exact ⟨_, rfl, execUnitTakeOut_outer h s, fun _ => execUnitTakeOut_kept h s, fun _ => execUnitTakeOut_ram h s⟩
  | unitReturn h => exact ⟨_, rfl, execUnitReturn_outer h s, fun _ => execUnitReturn_kept h s, fun _ => execUnitReturn_ram h s⟩
  | drainComplete unit => exact ⟨_, rfl, execDrainComplete_outer unit s, fun _ => execDrainComplete_kept unit s, fun _ => execDrainComplete_ram unit s⟩
  | bringUpPasses unit => exact ⟨_, rfl, execBringUpPasses_outer unit s, fun _ => execBringUpPasses_kept unit s, fun _ => execBringUpPasses_ram unit s⟩
  | bringUpFails unit => exact ⟨_, rfl, execBringUpFails_outer unit s, fun _ => execBringUpFails_kept unit s, fun _ => execBringUpFails_ram unit s⟩
  | objectCreate n => exact ⟨_, rfl, execObjectCreate_outer n s, fun _ => execObjectCreate_kept n s, fun _ => execObjectCreate_ram n s⟩
  | objectData n => exact ⟨_, rfl, execObjectData_outer n s, fun _ => execObjectData_kept n s, fun _ => execObjectData_ram n s⟩
  | objectDataRepair n => exact ⟨_, rfl, execObjectDataRepair_outer n s, fun _ => execObjectDataRepair_kept n s, fun _ => execObjectDataRepair_ram n s⟩
  | objectDelete n => exact ⟨_, rfl, execObjectDelete_outer n s, fun _ => execObjectDelete_kept n s, fun _ => execObjectDelete_ram n s⟩
  | groupDefine n => exact ⟨_, rfl, execGroupDefine_outer n s, fun _ => execGroupDefine_kept n s, fun _ => execGroupDefine_ram n s⟩
  | pageDefine n => exact ⟨_, rfl, execPageDefine_outer n s, fun _ => execPageDefine_kept n s, fun _ => execPageDefine_ram n s⟩
  | render n => exact ⟨_, rfl, execRender_outer n s, fun _ => execRender_kept n s, fun _ => execRender_ram n s⟩
  | frog n => exact ⟨_, rfl, execFrog_outer n s, fun _ => execFrog_kept n s, fun _ => execFrog_ram n s⟩
  | query n => exact ⟨_, rfl, execQuery_outer n s, fun _ => execQuery_kept n s, fun _ => execQuery_ram n s⟩
  | readback n => exact ⟨_, rfl, execReadback_outer n s, fun _ => execReadback_kept n s, fun _ => execReadback_ram n s⟩
  | closeReq n => exact ⟨_, rfl, execCloseReq_outer n s, fun _ => execCloseReq_kept n s, fun _ => execCloseReq_ram n s⟩
  | mspPacket pk => exact ⟨_, rfl, execMspPacket_outer pk s, fun _ => execMspPacket_kept pk s, fun _ => execMspPacket_ram pk s⟩
  | open_ pk => exact ⟨_, rfl, execOpen_outer pk s, fun _ => execOpen_kept pk s, fun _ => execOpen_ram pk s⟩
  | proof pk => exact ⟨_, rfl, execProof_outer pk s, fun _ => execProof_kept pk s, fun _ => execProof_ram pk s⟩
  | ackTimer n => exact ⟨_, rfl, execAckTimer_outer n s, fun _ => execAckTimer_kept n s, fun _ => execAckTimer_ram n s⟩
  | retransmitTimeout n psn => exact ⟨_, rfl, execRetransmitTimeout_outer n psn s, fun _ => execRetransmitTimeout_kept n psn s, fun _ => execRetransmitTimeout_ram n psn s⟩
  | keepAliveTimeout n => exact ⟨_, rfl, execKeepAliveTimeout_outer n s, fun _ => execKeepAliveTimeout_kept n s, fun _ => execKeepAliveTimeout_ram n s⟩
  | idleAckSend n => exact ⟨_, rfl, execIdleAckSend_outer n s, fun _ => execIdleAckSend_kept n s, fun _ => execIdleAckSend_ram n s⟩
  | pendingEntryExpiry handle => exact ⟨_, rfl, execPendingEntryExpiry_outer handle s, fun _ => execPendingEntryExpiry_kept handle s, fun _ => execPendingEntryExpiry_ram handle s⟩
  | slotLockExpiry slot => exact ⟨_, rfl, execSlotLockExpiry_outer slot s, fun _ => execSlotLockExpiry_kept slot s, fun _ => execSlotLockExpiry_ram slot s⟩
  | sessionCloseCommand h n => exact ⟨_, rfl, execSessionCloseCommand_outer h n s, fun _ => execSessionCloseCommand_kept h n s, fun _ => execSessionCloseCommand_ram h n s⟩
  | credentialEnableWrite h slot v => exact ⟨_, rfl, execCredentialEnableWrite_outer h slot v s, fun _ => execCredentialEnableWrite_kept h slot v s, fun _ => execCredentialEnableWrite_ram h slot v s⟩
  | closeResend n => exact ⟨_, rfl, execCloseResend_outer n s, fun _ => execCloseResend_kept n s, fun _ => execCloseResend_ram n s⟩
  | completionSend n => exact ⟨_, rfl, execCompletionSend_outer n s, fun _ => execCompletionSend_kept n s, fun _ => execCompletionSend_ram n s⟩
  | hostModeWrite h he v => exact ⟨_, rfl, execHostModeWrite_outer h he v s, fun _ => execHostModeWrite_kept h he v s, fun _ => execHostModeWrite_ram h he v s⟩
  | hostLinkChange he link => exact ⟨_, rfl, execHostLinkChange_outer he link s, fun _ => execHostLinkChange_kept he link s, fun _ => execHostLinkChange_ram he link s⟩
  | arpRequest port mac ip target => exact ⟨_, rfl, execArpRequest_outer port mac ip target s, fun _ => execArpRequest_kept port mac ip target s, fun _ => execArpRequest_ram port mac ip target s⟩
  | neighbourDiscovery he mac src target => exact ⟨_, rfl, execNeighbourDiscovery_outer he mac src target s, fun _ => execNeighbourDiscovery_kept he mac src target s, fun _ => execNeighbourDiscovery_ram he mac src target s⟩
  | fieldLinkChange fn link => exact ⟨_, rfl, execFieldLinkChange_outer fn link s, fun _ => execFieldLinkChange_kept fn link s, fun _ => execFieldLinkChange_ram fn link s⟩
  | passThroughForward fn dst frame => exact ⟨_, rfl, execPassThroughForward_outer fn dst frame s, fun _ => execPassThroughForward_kept fn dst frame s, fun _ => execPassThroughForward_ram fn dst frame s⟩
  | tileCodecComplete n => exact ⟨_, rfl, execTileCodecComplete_outer n s, fun _ => execTileCodecComplete_kept n s, nofun⟩
  | decodeComplete d bad => exact ⟨_, rfl, execDecodeComplete_outer d bad s, fun _ => execDecodeComplete_kept d bad s, fun _ => execDecodeComplete_ram d bad s⟩
  | inputStallResume d => exact ⟨_, rfl, execInputStallResume_outer d s, fun _ => execInputStallResume_kept d s, fun _ => execInputStallResume_ram d s⟩
  | outputStallResume d => exact ⟨_, rfl, execOutputStallResume_outer d s, fun _ => execOutputStallResume_kept d s, fun _ => execOutputStallResume_ram d s⟩
  | encodeBlockComplete e => exact ⟨_, rfl, execEncodeBlockComplete_outer e s, fun _ => execEncodeBlockComplete_kept e s, fun _ => execEncodeBlockComplete_ram e s⟩
  | renderStart => exact ⟨_, rfl, execRenderStart_outer s, fun _ => execRenderStart_kept s, fun _ => execRenderStart_ram s⟩
  | walkerLine chart => exact ⟨_, rfl, execWalkerLine_outer chart s, fun _ => execWalkerLine_kept chart s, nofun⟩
  | pipelineLine k waited cache => exact ⟨_, rfl, execPipelineLine_outer k waited cache s, fun _ => execPipelineLine_kept k waited cache s, nofun⟩
  | lastStripWritten => exact ⟨_, rfl, execLastStripWritten_outer s, fun _ => execLastStripWritten_kept s, fun _ => execLastStripWritten_ram s⟩
  | verifyPassEnd bad => exact ⟨_, rfl, execVerifyPassEnd_outer bad s, fun _ => execVerifyPassEnd_kept bad s, fun _ => execVerifyPassEnd_ram bad s⟩
  | pageRelease => exact ⟨_, rfl, execPageRelease_outer s, fun _ => execPageRelease_kept s, fun _ => execPageRelease_ram s⟩
  | queueFrog h => exact ⟨_, rfl, execQueueFrog_outer h s, fun _ => execQueueFrog_kept h s, fun _ => execQueueFrog_ram h s⟩
  | queueMoveBefore h => exact ⟨_, rfl, execQueueMoveBefore_outer h s, fun _ => execQueueMoveBefore_kept h s, fun _ => execQueueMoveBefore_ram h s⟩
  | queueMoveToTail h => exact ⟨_, rfl, execQueueMoveToTail_outer h s, fun _ => execQueueMoveToTail_kept h s, fun _ => execQueueMoveToTail_ram h s⟩
  | pageStoreSizeWrite h v => exact ⟨_, rfl, execPageStoreSizeWrite_outer h v s, fun _ => execPageStoreSizeWrite_kept h v s, fun _ => execPageStoreSizeWrite_ram h v s⟩
  | buildClone h => exact ⟨_, rfl, execBuildClone_outer h s, fun _ => execBuildClone_kept h s, nofun⟩
  | buildCommit h => exact ⟨_, rfl, execBuildCommit_outer h s, fun _ => execBuildCommit_kept h s, fun _ => execBuildCommit_ram h s⟩
  | buildDiscard h => exact ⟨_, rfl, execBuildDiscard_outer h s, fun _ => execBuildDiscard_kept h s, fun _ => execBuildDiscard_ram h s⟩
  | cloneComplete => exact ⟨_, rfl, execCloneComplete_outer s, fun _ => execCloneComplete_kept s, fun _ => execCloneComplete_ram s⟩
  | commitChecksComplete => exact ⟨_, rfl, execCommitChecksComplete_outer s, fun _ => execCommitChecksComplete_kept s, fun _ => execCommitChecksComplete_ram s⟩
  | generationSwap => exact ⟨_, rfl, execGenerationSwap_outer s, fun _ => execGenerationSwap_kept s, nofun⟩
  | deviceBuild => exact ⟨_, rfl, execDeviceBuild_outer s, fun _ => execDeviceBuild_kept s, nofun⟩
  | clearPending h => exact ⟨_, rfl, execClearPending_outer h s, fun _ => execClearPending_kept h s, fun _ => execClearPending_ram h s⟩
  | tableReloadComplete w good => exact ⟨_, rfl, execTableReloadComplete_outer w good s, fun _ => execTableReloadComplete_kept w good s, fun _ => execTableReloadComplete_ram w good s⟩
  | notHiddenHoldEnd => exact ⟨_, rfl, execNotHiddenHoldEnd_outer s, fun _ => execNotHiddenHoldEnd_kept s, fun _ => execNotHiddenHoldEnd_ram s⟩
  | sliceFetch p k fault => exact ⟨_, rfl, execSliceFetch_outer p k fault s, fun _ => execSliceFetch_kept p k fault s, nofun⟩
  | inPrintRepairStart => exact ⟨_, rfl, execInPrintRepairStart_outer s, fun _ => execInPrintRepairStart_kept s, nofun⟩
  | inPrintRepairComplete => exact ⟨_, rfl, execInPrintRepairComplete_outer s, fun _ => execInPrintRepairComplete_kept s, nofun⟩
  | sliceSend p k bad => exact ⟨_, rfl, execSliceSend_outer p k bad s, fun _ => execSliceSend_kept p k bad s, nofun⟩
  | sendDeadline p k => exact ⟨_, rfl, execSendDeadline_outer p k s, fun _ => execSendDeadline_kept p k s, nofun⟩
  | echo p k tag crc => exact ⟨_, rfl, execEcho_outer p k tag crc s, fun _ => execEcho_kept p k tag crc s, fun _ => execEcho_ram p k tag crc s⟩
  | withdrawnSliceFree p k => exact ⟨_, rfl, execWithdrawnSliceFree_outer p k s, fun _ => execWithdrawnSliceFree_kept p k s, fun _ => execWithdrawnSliceFree_ram p k s⟩
  | fireInstant p k => exact ⟨_, rfl, execFireInstant_outer p k s, fun _ => execFireInstant_kept p k s, nofun⟩
  | reverifyLine page line bad => exact ⟨_, rfl, execReverifyLine_outer page line bad s, fun _ => execReverifyLine_kept page line bad s, nofun⟩
  | spoilNLow => exact ⟨_, rfl, execSpoilNLow_outer s, fun _ => execSpoilNLow_kept s, fun _ => execSpoilNLow_ram s⟩
  | spoilNHigh => exact ⟨_, rfl, execSpoilNHigh_outer s, fun _ => execSpoilNHigh_kept s, fun _ => execSpoilNHigh_ram s⟩
  | spoilNPulseEnd => exact ⟨_, rfl, execSpoilNPulseEnd_outer s, fun _ => execSpoilNPulseEnd_kept s, fun _ => execSpoilNPulseEnd_ram s⟩
  | positionCount x => exact ⟨_, rfl, execPositionCount_outer x s, fun _ => execPositionCount_kept x s, fun _ => execPositionCount_ram x s⟩
  | encoderIndex e => exact ⟨_, rfl, execEncoderIndex_outer e s, fun _ => execEncoderIndex_kept e s, fun _ => execEncoderIndex_ram e s⟩
  | subTickReached => exact ⟨_, rfl, execSubTickReached_outer s, fun _ => execSubTickReached_kept s, fun _ => execSubTickReached_ram s⟩
  | positionSourceWrite h axis v => exact ⟨_, rfl, execPositionSourceWrite_outer h axis v s, fun _ => execPositionSourceWrite_kept h axis v s, fun _ => execPositionSourceWrite_ram h axis v s⟩
  | setRowCounter h => exact ⟨_, rfl, execSetRowCounter_outer h s, fun _ => execSetRowCounter_kept h s, fun _ => execSetRowCounter_ram h s⟩
  | linePitchWrite h v => exact ⟨_, rfl, execLinePitchWrite_outer h v s, fun _ => execLinePitchWrite_kept h v s, fun _ => execLinePitchWrite_ram h v s⟩
  | printModeWrite h v => exact ⟨_, rfl, execPrintModeWrite_outer h v s, fun _ => execPrintModeWrite_kept h v s, fun _ => execPrintModeWrite_ram h v s⟩
  | tensionCommit h => exact ⟨_, rfl, execTensionCommit_outer h s, fun _ => execTensionCommit_kept h s, fun _ => execTensionCommit_ram h s⟩
  | temp p k t => exact ⟨_, rfl, execTemp_outer p k t s, fun _ => execTemp_kept p k t s, fun _ => execTemp_ram p k t s⟩
  | temperatureReportStale seg => exact ⟨_, rfl, execTemperatureReportStale_outer seg s, fun _ => execTemperatureReportStale_kept seg s, fun _ => execTemperatureReportStale_ram seg s⟩
  | sequencerArm h => exact ⟨_, rfl, execSequencerArm_outer h s, fun _ => execSequencerArm_kept h s, fun _ => execSequencerArm_ram h s⟩
  | sequencerStop h => exact ⟨_, rfl, execSequencerStop_outer h s, fun _ => execSequencerStop_kept h s, fun _ => execSequencerStop_ram h s⟩
  | feedComplete => exact ⟨_, rfl, execFeedComplete_outer s, fun _ => execFeedComplete_kept s, fun _ => execFeedComplete_ram s⟩
  | lineRateMeasure => exact ⟨_, rfl, execLineRateMeasure_outer s, fun _ => execLineRateMeasure_kept s, fun _ => execLineRateMeasure_ram s⟩
  | linkStart l => exact ⟨_, rfl, execLinkStart_outer l s, fun _ => execLinkStart_kept l s, fun _ => execLinkStart_ram l s⟩
  | rxckDetected l => exact ⟨_, rfl, execRxckDetected_outer l s, fun _ => execRxckDetected_kept l s, fun _ => execRxckDetected_ram l s⟩
  | detectTimerExpiry l => exact ⟨_, rfl, execDetectTimerExpiry_outer l s, fun _ => execDetectTimerExpiry_kept l s, fun _ => execDetectTimerExpiry_ram l s⟩
  | train l status presets => exact ⟨_, rfl, execTrain_outer l status presets s, fun _ => execTrain_kept l status presets s, fun _ => execTrain_ram l status presets s⟩
  | presetStep l => exact ⟨_, rfl, execPresetStep_outer l s, fun _ => execPresetStep_kept l s, fun _ => execPresetStep_ram l s⟩
  | trainTimerExpiry l => exact ⟨_, rfl, execTrainTimerExpiry_outer l s, fun _ => execTrainTimerExpiry_kept l s, fun _ => execTrainTimerExpiry_ram l s⟩
  | polarityTrialSwitch l => exact ⟨_, rfl, execPolarityTrialSwitch_outer l s, fun _ => execPolarityTrialSwitch_kept l s, fun _ => execPolarityTrialSwitch_ram l s⟩
  | uplinkBlockLock l => exact ⟨_, rfl, execUplinkBlockLock_outer l s, fun _ => execUplinkBlockLock_kept l s, fun _ => execUplinkBlockLock_ram l s⟩
  | lockTimerExpiry l => exact ⟨_, rfl, execLockTimerExpiry_outer l s, fun _ => execLockTimerExpiry_kept l s, fun _ => execLockTimerExpiry_ram l s⟩
  | caps l body => exact ⟨_, rfl, execCaps_outer l body s, fun _ => execCaps_kept l body s, fun _ => execCaps_ram l body s⟩
  | capsSend l => exact ⟨_, rfl, execCapsSend_outer l s, fun _ => execCapsSend_kept l s, fun _ => execCapsSend_ram l s⟩
  | capsTimerExpiry l => exact ⟨_, rfl, execCapsTimerExpiry_outer l s, fun _ => execCapsTimerExpiry_kept l s, fun _ => execCapsTimerExpiry_ram l s⟩
  | linkLost l => exact ⟨_, rfl, execLinkLost_outer l s, fun _ => execLinkLost_kept l s, fun _ => execLinkLost_ram l s⟩
  | waitTimerExpiry l => exact ⟨_, rfl, execWaitTimerExpiry_outer l s, fun _ => execWaitTimerExpiry_kept l s, fun _ => execWaitTimerExpiry_ram l s⟩
  | nop p => exact ⟨_, rfl, execNop_outer p s, fun _ => execNop_kept p s, fun _ => execNop_ram p s⟩
  | waveWrite p => exact ⟨_, rfl, execWaveWrite_outer p s, fun _ => execWaveWrite_kept p s, fun _ => execWaveWrite_ram p s⟩
  | rawCommand p => exact ⟨_, rfl, execRawCommand_outer p s, fun _ => execRawCommand_kept p s, fun _ => execRawCommand_ram p s⟩
  | resp p addr seq status value => exact ⟨_, rfl, execResp_outer p addr seq status value s, fun _ => execResp_kept p addr seq status value s, fun _ => execResp_ram p addr seq status value s⟩
  | commandTimeout p => exact ⟨_, rfl, execCommandTimeout_outer p s, fun _ => execCommandTimeout_kept p s, fun _ => execCommandTimeout_ram p s⟩
  | measure h p => exact ⟨_, rfl, execMeasure_outer h p s, fun _ => execMeasure_kept h p s, fun _ => execMeasure_ram h p s⟩
  | measureAndCaptureBaseline h p => exact ⟨_, rfl, execMeasureAndCaptureBaseline_outer h p s, fun _ => execMeasureAndCaptureBaseline_kept h p s, fun _ => execMeasureAndCaptureBaseline_ram h p s⟩
  | automaticMeasurement p => exact ⟨_, rfl, execAutomaticMeasurement_outer p s, fun _ => execAutomaticMeasurement_kept p s, fun _ => execAutomaticMeasurement_ram p s⟩
  | measFrame p addr seq status crc data => exact ⟨_, rfl, execMeasFrame_outer p addr seq status crc data s, fun _ => execMeasFrame_kept p addr seq status crc data s, fun _ => execMeasFrame_ram p addr seq status crc data s⟩
  | measTimeout p => exact ⟨_, rfl, execMeasTimeout_outer p s, fun _ => execMeasTimeout_kept p s, fun _ => execMeasTimeout_ram p s⟩
  | jetWindowClose p j => exact ⟨_, rfl, execJetWindowClose_outer p j s, fun _ => execJetWindowClose_kept p j s, fun _ => execJetWindowClose_ram p j s⟩
  | loopbackStart h p => exact ⟨_, rfl, execLoopbackStart_outer h p s, fun _ => execLoopbackStart_kept h p s, fun _ => execLoopbackStart_ram h p s⟩
  | loopbackStop h p => exact ⟨_, rfl, execLoopbackStop_outer h p s, fun _ => execLoopbackStop_kept h p s, fun _ => execLoopbackStop_ram h p s⟩
  | servoTick => exact ⟨_, rfl, execServoTick_outer s, fun _ => execServoTick_kept s, fun _ => execServoTick_ram s⟩
  | enable h a => exact ⟨_, rfl, execEnable_outer h a s, fun _ => execEnable_kept h a s, fun _ => execEnable_ram h a s⟩
  | disable h a => exact ⟨_, rfl, execDisable_outer h a s, fun _ => execDisable_kept h a s, fun _ => execDisable_ram h a s⟩
  | startMove h a => exact ⟨_, rfl, execStartMove_outer h a s, fun _ => execStartMove_kept h a s, fun _ => execStartMove_ram h a s⟩
  | stop h a => exact ⟨_, rfl, execStop_outer h a s, fun _ => execStop_kept h a s, fun _ => execStop_ram h a s⟩
  | startGearing h a => exact ⟨_, rfl, execStartGearing_outer h a s, fun _ => execStartGearing_kept h a s, fun _ => execStartGearing_ram h a s⟩
  | setPosition h a => exact ⟨_, rfl, execSetPosition_outer h a s, fun _ => execSetPosition_kept h a s, fun _ => execSetPosition_ram h a s⟩
  | clearFault h a => exact ⟨_, rfl, execClearFault_outer h a s, fun _ => execClearFault_kept h a s, fun _ => execClearFault_ram h a s⟩
  | gearQueueAppend h a => exact ⟨_, rfl, execGearQueueAppend_outer h a s, fun _ => execGearQueueAppend_kept h a s, fun _ => execGearQueueAppend_ram h a s⟩
  | gearQueueFlush h a => exact ⟨_, rfl, execGearQueueFlush_outer h a s, fun _ => execGearQueueFlush_kept h a s, fun _ => execGearQueueFlush_ram h a s⟩
  | statusFrame src frame => exact ⟨_, rfl, execStatusFrame_outer src frame s, fun _ => execStatusFrame_kept src frame s, fun _ => execStatusFrame_ram src frame s⟩
  | driveLoss a => exact ⟨_, rfl, execDriveLoss_outer a s, fun _ => execDriveLoss_kept a s, fun _ => execDriveLoss_ram a s⟩
  | sync t body => exact ⟨_, rfl, execSync_outer t body s, fun _ => execSync_kept t body s, fun _ => execSync_ram t body s⟩
  | followUp t origin => exact ⟨_, rfl, execFollowUp_outer t origin s, fun _ => execFollowUp_kept t origin s, fun _ => execFollowUp_ram t origin s⟩
  | announce t body => exact ⟨_, rfl, execAnnounce_outer t body s, fun _ => execAnnounce_kept t body s, fun _ => execAnnounce_ram t body s⟩
  | delayResp t rx => exact ⟨_, rfl, execDelayResp_outer t rx s, fun _ => execDelayResp_kept t rx s, fun _ => execDelayResp_ram t rx s⟩
  | pdelayReq t => exact ⟨_, rfl, execPdelayReq_outer t s, fun _ => execPdelayReq_kept t s, fun _ => execPdelayReq_ram t s⟩
  | pdelayResp t rx tx => exact ⟨_, rfl, execPdelayResp_outer t rx tx s, fun _ => execPdelayResp_kept t rx tx s, fun _ => execPdelayResp_ram t rx tx s⟩
  | transparentClockForward fn transport msg residence => exact ⟨_, rfl, execTransparentClockForward_outer fn transport msg residence s, fun _ => execTransparentClockForward_kept fn transport msg residence s, fun _ => execTransparentClockForward_ram fn transport msg residence s⟩
  | syncLossTimeout b => exact ⟨_, rfl, execSyncLossTimeout_outer b s, fun _ => execSyncLossTimeout_kept b s, fun _ => execSyncLossTimeout_ram b s⟩
  | domainEnableWrite h b v => exact ⟨_, rfl, execDomainEnableWrite_outer h b v s, fun _ => execDomainEnableWrite_kept h b v s, fun _ => execDomainEnableWrite_ram h b v s⟩
  | rebaseCommand h => exact ⟨_, rfl, execRebaseCommand_outer h s, fun _ => execRebaseCommand_kept h s, fun _ => execRebaseCommand_ram h s⟩
  | initialRebase => exact ⟨_, rfl, execInitialRebase_outer s, fun _ => execInitialRebase_kept s, fun _ => execInitialRebase_ram s⟩
  | triggerArm h t => exact ⟨_, rfl, execTriggerArm_outer h t s, fun _ => execTriggerArm_kept h t s, fun _ => execTriggerArm_ram h t s⟩
  | triggerDisarm h t => exact ⟨_, rfl, execTriggerDisarm_outer h t s, fun _ => execTriggerDisarm_kept h t s, fun _ => execTriggerDisarm_ram h t s⟩
  | triggerEdge t => exact ⟨_, rfl, execTriggerEdge_outer t s, fun _ => execTriggerEdge_kept t s, fun _ => execTriggerEdge_ram t s⟩
  | triggerPulseEnd t => exact ⟨_, rfl, execTriggerPulseEnd_outer t s, fun _ => execTriggerPulseEnd_kept t s, fun _ => execTriggerPulseEnd_ram t s⟩
  | captureEdge c rising => exact ⟨_, rfl, execCaptureEdge_outer c rising s, fun _ => execCaptureEdge_kept c rising s, fun _ => execCaptureEdge_ram c rising s⟩
  | dramTemperatureRead temps => exact ⟨_, rfl, execDramTemperatureRead_outer temps s, fun _ => execDramTemperatureRead_kept temps s, fun _ => execDramTemperatureRead_ram temps s⟩
  | refreshDue x rank => exact ⟨_, rfl, execRefreshDue_outer x rank s, fun _ => execRefreshDue_kept x rank s, fun _ => execRefreshDue_ram x rank s⟩
  | dramCommandIssue x arrivals => exact ⟨_, rfl, execDramCommandIssue_outer x arrivals s, fun _ => execDramCommandIssue_kept x arrivals s, fun _ => execDramCommandIssue_ram x arrivals s⟩
  | refreshWindowClear x => exact ⟨_, rfl, execRefreshWindowClear_outer x s, fun _ => execRefreshWindowClear_kept x s, fun _ => execRefreshWindowClear_ram x s⟩
  | startupTrainingComplete answer rfm results => exact ⟨_, rfl, execStartupTrainingComplete_outer answer rfm results s, fun _ => execStartupTrainingComplete_kept answer rfm results s, nofun⟩
  | retrainAll h => exact ⟨_, rfl, execRetrainAll_outer h s, fun _ => execRetrainAll_kept h s, fun _ => execRetrainAll_ram h s⟩
  | retrainSubchannel h => exact ⟨_, rfl, execRetrainSubchannel_outer h s, fun _ => execRetrainSubchannel_kept h s, fun _ => execRetrainSubchannel_ram h s⟩
  | driftSample x drift => exact ⟨_, rfl, execDriftSample_outer x drift s, fun _ => execDriftSample_kept x drift s, fun _ => execDriftSample_ram x drift s⟩
  | retrainingStart x => exact ⟨_, rfl, execRetrainingStart_outer x s, fun _ => execRetrainingStart_kept x s, fun _ => execRetrainingStart_ram x s⟩
  | retrainingComplete x result oldPasses => exact ⟨_, rfl, execRetrainingComplete_outer x result oldPasses s, fun _ => execRetrainingComplete_kept x result oldPasses s, nofun⟩
  | leakInstant cl => exact ⟨_, rfl, execLeakInstant_outer cl s, fun _ => execLeakInstant_kept cl s, fun _ => execLeakInstant_ram cl s⟩
  | testWindowOpen h => exact ⟨_, rfl, execTestWindowOpen_outer h s, fun _ => execTestWindowOpen_kept h s, nofun⟩
  | testWindowClose h => exact ⟨_, rfl, execTestWindowClose_outer h s, fun _ => execTestWindowClose_kept h s, fun _ => execTestWindowClose_ram h s⟩
  | windowDataWrite h off data => exact ⟨_, rfl, execWindowDataWrite_outer h off data s, fun _ => execWindowDataWrite_kept h off data s, nofun⟩
  | windowParityWrite h off data => exact ⟨_, rfl, execWindowParityWrite_outer h off data s, fun _ => execWindowParityWrite_kept h off data s, nofun⟩
  | crcReset h u => exact ⟨_, rfl, execCrcReset_outer h u s, fun _ => execCrcReset_kept h u s, fun _ => execCrcReset_ram h u s⟩
  | crcCompare h u => exact ⟨_, rfl, execCrcCompare_outer h u s, fun _ => execCrcCompare_kept h u s, fun _ => execCrcCompare_ram h u s⟩
  | crcFeed h u w v => exact ⟨_, rfl, execCrcFeed_outer h u w v s, fun _ => execCrcFeed_kept h u w v s, fun _ => execCrcFeed_ram h u w v s⟩
  | runningValueWrite h u v => exact ⟨_, rfl, execRunningValueWrite_outer h u v s, fun _ => execRunningValueWrite_kept h u v s, fun _ => execRunningValueWrite_ram h u v s⟩
  | dmaStart h n => exact ⟨_, rfl, execDmaStart_outer h n s, fun _ => execDmaStart_kept h n s, fun _ => execDmaStart_ram h n s⟩
  | dmaStop h n => exact ⟨_, rfl, execDmaStop_outer h n s, fun _ => execDmaStop_kept h n s, fun _ => execDmaStop_ram h n s⟩
  | dmaResume h n => exact ⟨_, rfl, execDmaResume_outer h n s, fun _ => execDmaResume_kept h n s, fun _ => execDmaResume_ram h n s⟩
  | dmaClaim => exact ⟨_, rfl, execDmaClaim_outer s, fun _ => execDmaClaim_kept s, fun _ => execDmaClaim_ram s⟩
  | dmaRelease n => exact ⟨_, rfl, execDmaRelease_outer n s, fun _ => execDmaRelease_kept n s, fun _ => execDmaRelease_ram n s⟩
  | dmaDescriptor n => exact ⟨_, rfl, execDmaDescriptor_outer n s, fun _ => execDmaDescriptor_kept n s, fun _ => execDmaDescriptor_ram n s⟩
  | dmaElement n read => exact ⟨_, rfl, execDmaElement_outer n read s, fun _ => execDmaElement_kept n read s, nofun⟩
  | countingWindowClose n => exact ⟨_, rfl, execCountingWindowClose_outer n s, fun _ => execCountingWindowClose_kept n s, fun _ => execCountingWindowClose_ram n s⟩
  | windowConfigurationWrite h n width v => exact ⟨_, rfl, execWindowConfigurationWrite_outer h n width v s, fun _ => execWindowConfigurationWrite_kept h n width v s, fun _ => execWindowConfigurationWrite_ram h n width v s⟩
  | faultClear h => exact ⟨_, rfl, execFaultClear_outer h s, fun _ => execFaultClear_kept h s, fun _ => execFaultClear_ram h s⟩
  | enterSafeState h => exact ⟨_, rfl, execEnterSafeState_outer h s, fun _ => execEnterSafeState_kept h s, fun _ => execEnterSafeState_ram h s⟩
  | sensorSample readings selfCause => exact ⟨_, rfl, execSensorSample_outer readings selfCause s, fun _ => execSensorSample_kept readings selfCause s, fun _ => execSensorSample_ram readings selfCause s⟩
  | throttleHoldExpiry => exact ⟨_, rfl, execThrottleHoldExpiry_outer s, fun _ => execThrottleHoldExpiry_kept s, fun _ => execThrottleHoldExpiry_ram s⟩
  | droopDetection => exact ⟨_, rfl, execDroopDetection_outer s, fun _ => execDroopDetection_kept s, fun _ => execDroopDetection_ram s⟩
  | restoreInterval => exact ⟨_, rfl, execRestoreInterval_outer s, fun _ => execRestoreInterval_kept s, fun _ => execRestoreInterval_ram s⟩
  | calibrationRun unit => exact ⟨_, rfl, execCalibrationRun_outer unit s, fun _ => execCalibrationRun_kept unit s, fun _ => execCalibrationRun_ram unit s⟩
  | calibrationComplete unit margin load => exact ⟨_, rfl, execCalibrationComplete_outer unit margin load s, fun _ => execCalibrationComplete_kept unit margin load s, fun _ => execCalibrationComplete_ram unit margin load s⟩
  | updateVerify h => exact ⟨_, rfl, execUpdateVerify_outer h s, nofun, fun _ => execUpdateVerify_ram h s⟩
  | updateChecksComplete => exact ⟨_, rfl, execUpdateChecksComplete_outer s, nofun, fun _ => execUpdateChecksComplete_ram s⟩
  | updateInstall h => exact ⟨_, rfl, execUpdateInstall_outer h s, nofun, fun _ => execUpdateInstall_ram h s⟩
  | installReadbackComplete good => exact ⟨_, rfl, execInstallReadbackComplete_outer good s, nofun, fun _ => execInstallReadbackComplete_ram good s⟩
  | activationBoundary => exact ⟨_, rfl, execActivationBoundary_outer s, nofun, fun _ => execActivationBoundary_ram s⟩
  | trialSelfCheck good => exact ⟨_, rfl, execTrialSelfCheck_outer good s, nofun, fun _ => execTrialSelfCheck_ram good s⟩
  | updateAbort h => exact ⟨_, rfl, execUpdateAbort_outer h s, nofun, fun _ => execUpdateAbort_ram h s⟩
  | tftpWrq src name octet readReq => exact ⟨_, rfl, execTftpWrq_outer src name octet readReq s, nofun, fun _ => execTftpWrq_ram src name octet readReq s⟩
  | tftpRetransmit => exact ⟨_, rfl, execTftpRetransmit_outer s, nofun, fun _ => execTftpRetransmit_ram s⟩
  | uartOpen f => exact ⟨_, rfl, execUartOpen_outer f s, nofun, fun _ => execUartOpen_ram f s⟩
  | uartData f => exact ⟨_, rfl, execUartData_outer f s, nofun, fun _ => execUartData_ram f s⟩
  | surgent k o => exact ⟨_, rfl, execSurgent_outer k o s, fun _ => execSurgent_kept k o s, fun _ => execSurgent_ram k o s⟩
  | surgentSend => exact ⟨_, rfl, execSurgentSend_outer s, fun _ => execSurgentSend_kept s, fun _ => execSurgentSend_ram s⟩
  | missingMember d => exact ⟨_, rfl, execMissingMember_outer d s, fun _ => execMissingMember_kept d s, fun _ => execMissingMember_ram d s⟩
  | spos k o count at_ => exact ⟨_, rfl, execSpos_outer k o count at_ s, fun _ => execSpos_kept k o count at_ s, fun _ => execSpos_ram k o count at_ s⟩
  | sposSend => exact ⟨_, rfl, execSposSend_outer s, fun _ => execSposSend_kept s, fun _ => execSposSend_ram s⟩
  | posFull k o g => exact ⟨_, rfl, execPosFull_outer k o g s, fun _ => execPosFull_kept k o g s, fun _ => execPosFull_ram k o g s⟩
  | posFullSend => exact ⟨_, rfl, execPosFullSend_outer s, fun _ => execPosFullSend_kept s, fun _ => execPosFullSend_ram s⟩
  | stime k o at_ => exact ⟨_, rfl, execStime_outer k o at_ s, fun _ => execStime_kept k o at_ s, fun _ => execStime_ram k o at_ s⟩
  | stimeSend => exact ⟨_, rfl, execStimeSend_outer s, fun _ => execStimeSend_kept s, fun _ => execStimeSend_ram s⟩
  | stimeLoss => exact ⟨_, rfl, execStimeLoss_outer s, fun _ => execStimeLoss_kept s, fun _ => execStimeLoss_ram s⟩
  | barrierStart => exact ⟨_, rfl, execBarrierStart_outer s, fun _ => execBarrierStart_kept s, fun _ => execBarrierStart_ram s⟩
  | barrierOpen k o g => exact ⟨_, rfl, execBarrierOpen_outer k o g s, fun _ => execBarrierOpen_kept k o g s, fun _ => execBarrierOpen_ram k o g s⟩
  | vote k o g => exact ⟨_, rfl, execVote_outer k o g s, fun _ => execVote_kept k o g s, fun _ => execVote_ram k o g s⟩
  | barrierTimeout => exact ⟨_, rfl, execBarrierTimeout_outer s, fun _ => execBarrierTimeout_kept s, fun _ => execBarrierTimeout_ram s⟩
  | barrierReopenDelay => exact ⟨_, rfl, execBarrierReopenDelay_outer s, fun _ => execBarrierReopenDelay_kept s, fun _ => execBarrierReopenDelay_ram s⟩
  | release k o g => exact ⟨_, rfl, execRelease_outer k o g s, fun _ => execRelease_kept k o g s, fun _ => execRelease_ram k o g s⟩
  | frogMessage k o g => exact ⟨_, rfl, execFrogMessage_outer k o g s, fun _ => execFrogMessage_kept k o g s, fun _ => execFrogMessage_ram k o g s⟩
  | spoil k o g => exact ⟨_, rfl, execSpoil_outer k o g s, fun _ => execSpoil_kept k o g s, fun _ => execSpoil_ram k o g s⟩
  | rebase k o g => exact ⟨_, rfl, execRebase_outer k o g s, fun _ => execRebase_kept k o g s, fun _ => execRebase_ram k o g s⟩
  | rebaseApply => exact ⟨_, rfl, execRebaseApply_outer s, fun _ => execRebaseApply_kept s, fun _ => execRebaseApply_ram s⟩
  | user k o g => exact ⟨_, rfl, execUser_outer k o g s, fun _ => execUser_kept k o g s, fun _ => execUser_ram k o g s⟩
  | userSend h n => exact ⟨_, rfl, execUserSend_outer h n s, fun _ => execUserSend_kept h n s, fun _ => execUserSend_ram h n s⟩
  | sposGap => exact ⟨_, rfl, execSposGap_outer s, fun _ => execSposGap_kept s, fun _ => execSposGap_ram s⟩
  | functionSelfTestPassed fn => exact ⟨_, rfl, execFunctionSelfTestPassed_outer fn s, fun _ => execFunctionSelfTestPassed_kept fn s, fun _ => execFunctionSelfTestPassed_ram fn s⟩
  | testWindowCloseComplete => exact ⟨_, rfl, execTestWindowCloseComplete_outer s, fun _ => execTestWindowCloseComplete_kept s, nofun⟩

  | _ => cases row

/-- A row of `mayRestart` may change clock and boot record in its effect, and still carries the queue over. -/
theorem exec_concludes_of_mayRestart (c : Instr) (s : State) (row : mayRestart c = true) :
    ∃ e : State, exec c s = .next e.conclude ∧ s.Carries e := by
  cases c with
  | write m => exact ⟨_, rfl, execWrite_carries m s⟩
  | powerRequestDeep h => exact ⟨_, rfl, execPowerRequestDeep_carries h s⟩
  | powerRequestKeep h => exact ⟨_, rfl, execPowerRequestKeep_carries h s⟩
  | powerRequestIdle h => exact ⟨_, rfl, execPowerRequestIdle_carries h s⟩
  | powerRequestRun h => exact ⟨_, rfl, execPowerRequestRun_carries h s⟩
  | wakeN => exact ⟨_, rfl, execWakeN_carries s⟩
  | rtcAlarm => exact ⟨_, rfl, execRtcAlarm_carries s⟩
  | wakeFrame h => exact ⟨_, rfl, execWakeFrame_carries h s⟩
  | railUndervoltage => exact ⟨_, rfl, execRailUndervoltage_carries s⟩
  | porNRelease straps testEn => exact ⟨_, rfl, execPorNRelease_carries straps testEn s⟩
  | watchdogExpiry => exact ⟨_, rfl, execWatchdogExpiry_carries s⟩
  | bootRetry => exact ⟨_, rfl, execBootRetry_carries s⟩
  | bootComplete => exact ⟨_, rfl, execBootComplete_carries s⟩
  | bootTimeout => exact ⟨_, rfl, execBootTimeout_carries s⟩
  | resetCommand h => exact ⟨_, rfl, execResetCommand_carries h s⟩
  | updateActivate h => exact ⟨_, rfl, execUpdateActivate_carries h s⟩
  | updateRevert h => exact ⟨_, rfl, execUpdateRevert_carries h s⟩
  | tftpData src block data => exact ⟨_, rfl, execTftpData_carries src block data s⟩
  | uartClose f => exact ⟨_, rfl, execUartClose_carries f s⟩
  | uartReset f => exact ⟨_, rfl, execUartReset_carries f s⟩
  | porNLow => exact ⟨_, rfl, execPorNLow_carries s⟩
  | vbatRise => exact ⟨_, rfl, execVbatRise_carries s⟩
  | internalResetRelease => exact ⟨_, rfl, execInternalResetRelease_carries s⟩
  | _ => cases row

theorem exec_concludes (c : Instr) (s : State) : ∃ e : State, exec c s = .next e.conclude ∧ s.Carries e := by
  cases row : mayRestart c with
  | true => exact exec_concludes_of_mayRestart c s row
  | false =>
    obtain ⟨e, answer, outer, -⟩ := exec_concludes_of_not_mayRestart c s row
    exact ⟨e, answer, State.carries_of_outer outer⟩

/-- A command carries queue, idle time and device time over (but for a restart of the clock) and leaves nothing owed. -/
theorem exec_carries {c : Instr} {s t : State} (ran : exec c s = .next t) : s.Carries t ∧ t.boot.due = .none := by
  obtain ⟨e, answer, carries⟩ := exec_concludes c s
  exact concluded_carries carries (answer.symm.trans ran)

theorem step_of_pending_nil {s : State} (empty : s.pending = []) : step s = .next s.idleStep := by
  rw [step, empty]

theorem step_of_pending_cons {s : State} {c : Instr} {rest : List Instr} (front : s.pending = c :: rest) :
    step s = exec c { s with pending := rest } := by
  rw [step, front]

@[simp] theorem State.idleStep_pending (s : State) : s.idleStep.pending = s.pending := by
  unfold State.idleStep
  dsimp only
  split <;> rfl

/-- Settles O49: `exec_carries` for a command at the front, and an idle step leaves the queue alone. -/
theorem queueKeepsItsRest : Obligations.QueueKeepsItsRest := by
  unfold Obligations.QueueKeepsItsRest
  intro s t stepped
  cases queue : s.pending with
  | nil =>
    rw [step_of_pending_nil queue] at stepped
    cases stepped
    exact s.idleStep_pending.trans queue
  | cons c rest =>
    rw [step_of_pending_cons queue] at stepped
    obtain ⟨⟨pending, -⟩, -⟩ := exec_carries stepped
    exact pending

/-- Settles O32: the queue's case of `step`. -/
theorem stepRunsTheFrontCommand : Obligations.StepRunsTheFrontCommand := by
  unfold Obligations.StepRunsTheFrontCommand
  intro s c rest front
  exact step_of_pending_cons front

/-- Settles O35: every row is an effect and its end, so it answers. -/
theorem everyCommandAnswers : Obligations.EveryCommandAnswers := by
  unfold Obligations.EveryCommandAnswers
  intro c s
  obtain ⟨e, answer, -⟩ := exec_concludes c s
  exact ⟨e.conclude, answer⟩

end Sys2Proof.Machine

/-! PROOFS. Position, line clock and pass sequencer (R214 to R224, R235): each operation in the case that its clause states, and the writes of the position settings (R36, R49). -/

namespace Sys2Proof.Machine

/-! ## Requests and writes of a scalar -/

theorem done_of_eq {s t : State} (same : s = t) : done s = .next t.conclude := congrArg done same

theorem State.serveCmd_accepted {s t : State} {h : FopHead} {key : Nat} {act : State → State × Bool} (admits : s.Admits h 2 key)
    (accepts : act (s.counted h) = (t, true)) : s.serveCmd h key act = t.fopReply h (s.ownAddr h.peer) 2 key St.ok [] := by
  rw [State.serveCmd_admits admits, accepts]
  rfl

theorem State.doWrite_scalar {idx sub : Nat} {o : Obj} {payload : Bytes} (s : State) (p : Peer) (row : lookup idx sub = some o)
    (writable : accessOf idx sub o ≠ .ro) (notStaging : idx ≠ 0x8020) (scalar : o.ty ≠ .dom) (value : o.acc ≠ .cmd) (fits : payload.length = o.size) :
    s.doWrite p idx sub payload = ((s.writeScalar idx sub (leVal payload)).1, (s.writeScalar idx sub (leVal payload)).2, []) := by
  have reached : s.reach idx sub false true = .ok o := by
    simp [State.reach, findObject, row, writable, notStaging]
  simp [State.doWrite, reached, value, fits]

/-- An admitted WRITE of a scalar that is no command comes to step 10 of R49. -/
theorem State.wrote_scalar {s : State} {h : FopHead} {idx sub v : Nat} {o : Obj} (admits : s.Admits h 2 (obj idx sub)) (row : lookup idx sub = some o)
    (writable : accessOf idx sub o ≠ .ro) (notStaging : idx ≠ 0x8020) (scalar : o.ty ≠ .dom) (value : o.acc ≠ .cmd) (width : v < 256 ^ o.size) :
    s.wrote h idx sub o.size v = ((s.counted h).writeScalar idx sub v).1.fopReply h (s.ownAddr h.peer) 2 (obj idx sub)
      ((s.counted h).writeScalar idx sub v).2 [] := by
  rw [State.wrote_admits admits, State.doWrite_scalar _ _ row writable notStaging scalar value (length_leBytes _ v), leVal_leBytes,
    Nat.mod_eq_of_lt width]

theorem State.writeScalar_accepted {idx sub v : Nat} {o : Obj} (s : State) (row : lookup idx sub = some o) (range : inRange o v = true)
    (idle : s.idleFor idx sub = true) (free : s.crcBusy idx sub = false) (fits : s.fitsState idx sub v = true) (noRing : idx < 0x7C00) :
    s.writeScalar idx sub v = (s.put' idx sub (Machine.kept o v), St.ok) := by
  simp [State.writeScalar, row, range, idle, free, fits, Nat.not_le.mpr noRing]

/-- The dictionary's row of a saved RWI setting of n bytes with a range. -/
def settingRow (idx sub n dflt lo hi : Nat) : Obj := ⟨idx, 1, 1, sub, 1, .u, n, .rwi, true, false, dflt, .span lo hi⟩

/-- Position source, source axis, print mode and line pitch take a value in range while no page is active (R2, R214, R224). -/
theorem State.wrote_positionSetting {s : State} {h : FopHead} {idx sub n dflt lo hi v : Nat} (index : idx = 0x2800 ∨ idx = 0x2820)
    (admits : s.Admits h 2 (obj idx sub)) (row : lookup idx sub = some (settingRow idx sub n dflt lo hi))
    (width : v < 256 ^ n) (low : lo ≤ v) (high : v ≤ hi) (quiet : (s.counted h).pagesActive = false) :
    s.wrote h idx sub n v = ((s.counted h).put' idx sub v).fopReply h (s.ownAddr h.peer) 2 (obj idx sub) St.ok [] := by
  have accepts : (s.counted h).writeScalar idx sub v = ((s.counted h).put' idx sub v, St.ok) := by
    have range : inRange (settingRow idx sub n dflt lo hi) v = true := by simp [inRange, settingRow, low, high]
    rcases index with rfl | rfl <;>
      exact (s.counted h).writeScalar_accepted row range (by simp [State.idleFor, quiet]) rfl (by simp [State.fitsState]) (by decide)
  have writable : accessOf idx sub (settingRow idx sub n dflt lo hi) ≠ .ro := by
    rcases index with rfl | rfl <;> simp [accessOf, settingRow]
  have reaches := State.wrote_scalar admits row writable (by omega) (by simp [settingRow]) (by simp [settingRow]) width
  rwa [accepts] at reaches

/-! ## Encoders and tracker -/

theorem State.acceptLevels_onlyA {s : State} {e bound t : Nat} (due : s.acceptAt e 0 bound = some t) (still : s.acceptAt e 1 bound = none) :
    s.acceptLevels e bound = s.encoderEdge e ((s.pinLevel e 0).1 == 1) (bit (s.levels e) 1) t := by
  simp [State.acceptLevels, due, still, State.acceptOne]

theorem State.encoderEdge_onlyA {s : State} {e t : Nat} {a b : Bool} (other : e ≠ 0) (edge : bit (s.levels e) 0 ≠ a) (same : bit (s.levels e) 1 = b) :
    s.encoderEdge e a b t =
      let w := State.setI64 { s with pos := { s.pos with levels := sset 0 s.pos.levels e (b2n a + 2 * b2n b) } } (0x2810 + e) 3
        (s.i64 (0x2810 + e) 3 + (if ((a != b) != s.flag (0x2810 + e) 2) = true then 1 else -1))
      { w with pos := { w.pos with rates := sset [] w.pos.rates e (t :: (sget [] w.pos.rates e).filter fun x => decide (s.clk.now < x + 1000000)) } } := by
  simp [State.encoderEdge, other, edge, same]

theorem State.otherStep_due {s : State} {c : Int} {t : Nat} {rest : List (Int × Nat)} (front : s.pos.future = (c, t) :: rest) (due : t ≤ s.clk.now)
    (ok : s.pos.posOk = true) (fwd : s.pos.rev = false) :
    s.otherStep = State.track { s with pos := { s.pos with future := rest, src := c } } c t := by
  simp [State.otherStep, front, due, State.present, ok, fwd]

theorem State.indexEdge_gated {s v : State} {e code : Nat} (due : v = s.acceptLevels e (s.clk.now + 1))
    (levels : code = (match v.levels e with | 0 => 0 | 1 => 1 | 3 => 2 | _ => 3)) (gate : v.reg (0x2810 + e) 7 = 4 ∨ v.reg (0x2810 + e) 7 = code) :
    s.indexEdge e =
      let c := v.reg (0x2810 + e) 3
      let t := ((v.set (0x2810 + e) 5 c).set (0x2810 + e) 6 v.clk.now).raise 196 0 (e + c % 2 ^ 32 * 2 ^ 32)
      if v.reg (0x2810 + e) 8 = 0xFF then t
      else t.ringWrite (v.reg (0x2810 + e) 8) 0x21 c (v.clk.now % 2 ^ 32 + v.stampEpoch * 2 ^ 32 + v.clk.now / 2 ^ 32 % 2 ^ 16 * 2 ^ 48) (e + code * 2) := by
  subst due levels
  unfold State.indexEdge
  exact if_neg (by rintro ⟨n4, ncode⟩; exact gate.elim n4 ncode)

/-! ## Line clock -/

theorem State.passStarting_singlePass {s : State} (single : s.shuttle = false) (t : Nat) : s.passStarting t = s := by
  simp [State.passStarting, single]

theorem State.checkFeed_singlePass {s : State} (single : s.shuttle = false) : s.checkFeed = s := by
  simp [State.checkFeed, single]

theorem State.advance_singlePass {s u : State} {t : Nat} (single : s.shuttle = false) (higher : s.pos.lam < s.lamAt t)
    (moved : u = { s with pos := { s.pos with
      lam := s.lamAt t
      lines := List.replicate (s.lamAt t / 64 - s.pos.lam / 64) t ++ s.pos.lines
      hist := (s.lamAt t, t) :: (if s.jobs.pages.any fun p => p.st.active then s.pos.hist else s.pos.hist.take 1) } }) :
    s.advance t = if s.lamAt t / 64 - s.pos.lam / 64 = 0 then u else u.unported := by
  have single' : u.shuttle = false := by rw [moved]; exact single
  simp only [State.advance, State.passStarting_singlePass single, Nat.not_le.mpr higher, if_false, ← moved,
    State.checkFeed_singlePass single', single', Bool.false_and, Bool.false_eq_true]

/-! ## Row counter and sequencer -/

theorem State.setRow_accepted {s : State} (quiet : s.pagesActive = false) (idle : s.seqState = 0) (alone : s.onBoard = false) :
    s.setRow = (State.restartClock { s with
        pos := { s.pos with org := s.extreme * 2 ^ 22 - 64 * (s.reg 0x2820 0x0B : Int) * s.pitch, lam := 64 * s.reg 0x2820 0x0B, hist := [(64 * s.reg 0x2820 0x0B, s.clk.now)] }
        jobs := { s.jobs with lastEnd := none } }, true) := by
  unfold State.setRow
  rw [if_neg (by simp [quiet, idle, alone])]
  exact congrArg (·, true) (if_neg (ne_true_of_eq_false alone))

theorem State.seqArm_accepted {s t : State} (idle : s.seqState = 0) (shuttle : s.shuttle = true) (ok : s.pos.posOk = true)
    (armed : t = ((((s.set 0x2870 0x0C 1).set 0x2870 0x0D 0).set 0x2870 0x0E s.row).setI64 0x2820 5
      (if s.passRev 0 then - s.pos.src else s.pos.src)).set 0x2870 0x0F 0) :
    s.seqArm = ((((State.restartClock { t with pos := { t.pos with
      rev := s.passRev 0, feedDone := true, feedChecked := true, align := t.bytes 0x2872 0 0 32, inBand := true, atH := true, startAt := none, badFeeds := []
      lam := 64 * s.row, hist := t.pos.hist.map fun (e : Nat × Nat) => (min e.1 (64 * s.row), e.2) } }).raise 197 0
        (b2n (s.passRev 0) * 2 ^ 32)).clampEvents 0).advance s.clk.now, true) := by
  subst armed
  unfold State.seqArm
  rw [if_neg (not_not.mpr idle), if_neg (by simp [shuttle, ok])]

theorem State.seqStop_accepted {s : State} (busy : s.seqState ≠ 0) (quiet : s.pagesActive = false) :
    s.seqStop = ((s.set 0x2870 0x0C 0).set 0x2870 0x0F 0, true) := by
  simp [State.seqStop, busy, quiet]

/-- Settles O15: clause by clause, the command's effect in the stated case, under the one end of a command. -/
theorem positionAndPasses : Obligations.PositionAndPasses := by
  unfold Obligations.PositionAndPasses
  refine ⟨?_, ?_, ?_, ?_, ?_, ?_, ?_, ?_, ?_, ?_, ?_, ?_, ?_⟩
  -- POSITION_COUNT: levels at the pins of an encoder that is not the source (R216)
  · intro s v e a b na nb c t alive sampled dueA stillB hna hnb edge hc other
    refine ⟨_, rfl, done_of_eq ?_⟩
    have e0 : e.val ≠ 0 := Fin.val_ne_of_ne other
    calc s.awake (fun s => s.encoderPins e a b)
        = v.acceptLevels e (s.clk.now + 1) := by rw [State.awake_alive alive, State.encoderPins, ← sampled]
      _ = v.encoderEdge e na nb t := by rw [State.acceptLevels_onlyA dueA stillB, hna, hnb]
      _ = _ := by rw [State.encoderEdge_onlyA e0 edge hnb.symm, hc]
  -- POSITION_COUNT: the count at the front of those due reaches the tracker (R214)
  · intro s v c t rest alive sampled front due ok fwd
    refine done_of_eq ?_
    calc s.awake State.sourceStep = v.otherStep := by rw [State.awake_alive alive, State.sourceStep, ← sampled]
      _ = _ := State.otherStep_due front due ok fwd
  -- ENCODER_INDEX (R217)
  · intro s v e c code alive due levels gate count
    subst count
    exact ⟨_, rfl, done_of_eq ((State.awake_alive alive _).trans (State.indexEdge_gated due levels gate))⟩
  -- SUB_TICK_REACHED (R223)
  · intro s l alive ok lam higher single
    subst lam
    refine ⟨_, rfl, done_of_eq ?_⟩
    calc s.awake State.subTick = s.advance s.clk.now := by rw [State.awake_alive alive, State.subTick, if_pos ok]
      _ = _ := State.advance_singlePass single higher rfl
  -- POSITION_SOURCE_WRITE: source, then source axis (R214)
  · intro s u h v admits counted range quiet
    subst counted
    exact done_of_eq (State.wrote_positionSetting (.inl rfl) admits rfl v.isLt (Nat.zero_le _) range quiet)
  · intro s u h v admits counted range quiet
    subst counted
    exact done_of_eq (State.wrote_positionSetting (.inl rfl) admits rfl v.isLt (Nat.zero_le _) range quiet)
  -- SET_ROW_COUNTER (R221)
  · intro s u h admits counted quiet idle alone
    subst counted
    exact done_of_eq (State.serveCmd_accepted admits (State.setRow_accepted quiet idle alone))
  -- LINE_PITCH_WRITE (R224)
  · intro s u h v admits counted low high quiet
    subst counted
    exact done_of_eq (State.wrote_positionSetting (.inr rfl) admits rfl v.isLt low high quiet)
  -- PRINT_MODE_WRITE (R2)
  · intro s u h v admits counted range quiet
    subst counted
    exact done_of_eq (State.wrote_positionSetting (.inl rfl) admits rfl v.isLt (Nat.zero_le _) range quiet)
  -- SEQUENCER_ARM (R235)
  · intro s u h admits counted idle shuttle ok
    subst counted
    exact ⟨_, _, rfl, rfl, done_of_eq (State.serveCmd_accepted admits (State.seqArm_accepted idle shuttle ok rfl))⟩
  -- SEQUENCER_STOP (R235)
  · intro s u h admits counted busy quiet
    subst counted
    exact done_of_eq (State.serveCmd_accepted admits (State.seqStop_accepted busy quiet))
  -- FEED_COMPLETE (R236)
  · intro s alive mode incomplete within
    refine done_of_eq ?_
    rw [State.awake_alive alive, State.feedCheck, if_pos ⟨mode, incomplete, within⟩]
    rfl
  -- LINE_RATE_MEASURE (R224)
  · intro s l alive lines
    subst lines
    exact done_of_eq (State.awake_alive alive _)

end Sys2Proof.Machine

/-! PROOFS. Units out of service (R29 to R32): the take-out, drain and return of a unit, each by the kind of the unit. -/

namespace Sys2Proof.Machine

/-! ## Take-out and return (R30, R31) -/

theorem State.unitTakeOut_accepted {s : State} {n : Nat} (named : n = s.reg 0x0028 1) (valid : validUnit n = true) (inService : s.unit n = 0)
    (free : s.unitBusy = false) (mayGo : s.unitMayGo n = true) : s.unitTakeOut = ((s.drainStart n).set 0x0028 4 0, true) := by
  subst named
  simp [State.unitTakeOut, valid, inService, free, mayGo]

/-- A unit goes to RETURNING, with no page to wait for and nothing rebuilt yet. -/
def State.returning (s : State) (u : Nat) : State :=
  { s.unitTo u 3 with units := { (s.unitTo u 3).units with since := [], moved := false } }

/-- The return of a unit of any kind: a port leaves its loopback (R269) and a pair starts training (R336). -/
theorem State.unitReturn_accepted {s : State} {n : Nat} (named : n = s.reg 0x0028 1) (valid : validUnit n = true) (out : s.unit n = 2)
    (free : s.unitBusy = false) :
    s.unitReturn = (State.set
      (if n / 256 = 3 then ((if n / 256 = 1 then s.loopEnd (n % 256) else s).returning n).pairTo (n % 256) 2 1
        else (if n / 256 = 1 then s.loopEnd (n % 256) else s).returning n) 0x0028 4 0, true) := by
  subst named
  simp only [State.unitReturn, valid, out, free, State.returning, Bool.not_true, Bool.false_eq_true, if_false]

theorem State.unitReturn_cluster {s : State} {n : Nat} (named : n = s.reg 0x0028 1) (valid : validUnit n = true) (kind : n / 256 = 2)
    (out : s.unit n = 2) (free : s.unitBusy = false) : s.unitReturn = ((s.returning n).set 0x0028 4 0, true) := by
  rw [State.unitReturn_accepted named valid out free, if_neg (by omega), if_neg (by omega)]

theorem State.unitReturn_port {s : State} {n : Nat} (named : n = s.reg 0x0028 1) (valid : validUnit n = true) (kind : n / 256 = 1)
    (out : s.unit n = 2) (free : s.unitBusy = false) : s.unitReturn = (((s.loopEnd (n % 256)).returning n).set 0x0028 4 0, true) := by
  rw [State.unitReturn_accepted named valid out free, if_neg (by omega), if_pos kind]

theorem State.unitReturn_pair {s : State} {n : Nat} (named : n = s.reg 0x0028 1) (valid : validUnit n = true) (kind : n / 256 = 3)
    (out : s.unit n = 2) (free : s.unitBusy = false) :
    s.unitReturn = (((s.returning n).pairTo (n % 256) 2 1).set 0x0028 4 0, true) := by
  rw [State.unitReturn_accepted named valid out free, if_pos kind, if_neg (by omega)]

/-! ## Drain complete (R32) -/

theorem State.drained_cluster {s : State} {u : Nat} (kind : u / 256 = 2)
    (passed : ∀ j ∈ s.render.jobs, j.out = u % 256 ∨ ∀ p, s.page j.page = some p → ∀ i < 8, j.count p ≤ j.stepOf (8 * (u % 256) + i)) :
    s.drained u = true := by
  rw [State.drained, if_neg (by omega), if_pos kind, List.all_eq_true]
  intro j job
  rcases passed j job with other | done
  · simp [other]
  · cases page : s.page j.page with
    | none => simp
    | some p => simpa [upTo] using Or.inr (done p page)

theorem State.drained_port {s : State} {u : Nat} (kind : u / 256 = 1) (moved : s.units.moved = true) (pages : s.drainedPages = true) :
    s.drained u = true := by
  simp [State.drained, kind, moved, pages]

theorem State.drained_pair {s : State} {u : Nat} (kind : u / 256 = 3) (pages : s.drainedPages = true) (channel : s.dmaClaimed = true) :
    s.drained u = true := by
  simp [State.drained, kind, pages, channel]

/-- The end of a drain for a unit of any kind: a port's link stops, what lay on a pair moves off it. -/
theorem State.drainComplete_drained {s : State} {u : Nat} (valid : validUnit u = true) (draining : s.unit u = 1) (drained : s.drained u = true) :
    s.drainComplete u =
      if u / 256 = 1 then ((s.unitTo u 2).set 0x0028 4 0).linkStop (u % 256)
      else if u / 256 = 2 then (s.unitTo u 2).set 0x0028 4 0
      else (((s.unitTo u 2).set 0x0028 4 0).migrate).pairTo (u % 256) 4 1 := by
  rw [State.drainComplete, if_neg (by simp [valid, draining, drained])]

/-! ## The end of a return (R31, R330) -/

/-- A return that passes, of a cluster or pair, or of a port that is ready: a pair also tells E237 and writes the cap (R323). -/
theorem State.bringUpPasses_ready {s : State} {u : Nat} (valid : validUnit u = true) (returning : s.unit u = 3)
    (ready : u / 256 = 1 → s.linkState (u % 256) = 5 ∧ s.units.moved = true) :
    s.bringUpPasses u =
      if u / 256 = 3 then
        ([2 * (u % 256), 2 * (u % 256) + 1].foldl (fun s i => s.raise 237 0 (i + 16 + field (s.le 0x6010 5 i 1) 0 2 * 256))
          (((s.unitTo u 0).set 0x0028 4 0).pairTo (u % 256) 0 1)).capNow
      else (s.unitTo u 0).set 0x0028 4 0 := by
  have blocked : ¬(u / 256 = 1 ∧ (s.linkState (u % 256) ≠ 5 ∨ s.units.moved = false)) := by
    rintro ⟨port, notReady⟩
    obtain ⟨active, moved⟩ := ready port
    simp [active, moved] at notReady
  rw [State.bringUpPasses, if_neg (by simp [valid, returning]), if_neg blocked]
  rfl

/-- A return that fails, for a unit of any kind. -/
theorem State.bringUpFails_returning {s : State} {u : Nat} (valid : validUnit u = true) (returning : s.unit u = 3) :
    s.bringUpFails u =
      if u / 256 = 1 then ((s.unitTo u 2).set 0x0028 4 4).linkStop (u % 256)
      else if u / 256 = 2 then (s.unitTo u 2).set 0x0028 4 4
      else ((((s.unitTo u 2).set 0x0028 4 4).raiseAt 237 2 (2 * (u % 256) + 80) 12 6 0 0).raiseAt 237 2 (2 * (u % 256) + 1 + 80) 12 6 0 0).pairTo
        (u % 256) 3 2 := by
  rw [State.bringUpFails, if_neg (by simp [valid, returning])]

/-- Settles O5: take-out and return are served requests in the accepting case; the three ends are the cases of one equation each, by the kind of the unit. -/
theorem unitsAndPowerStates : Obligations.UnitsAndPowerStates := by
  unfold Obligations.UnitsAndPowerStates
  refine ⟨?_, ?_, ?_, ?_, ?_, ?_, ?_, ?_, ?_, ?_, ?_, ?_, ?_⟩
  -- UNIT_TAKE_OUT
  · intro s u h n admits counted named valid inService free mayGo
    subst counted
    exact done_of_eq (State.serveCmd_accepted admits (State.unitTakeOut_accepted named valid inService free mayGo))
  -- UNIT_RETURN: cluster, port, pair
  · intro s u h n admits counted named valid kind out free
    subst counted
    exact done_of_eq (State.serveCmd_accepted admits (State.unitReturn_cluster named valid kind out free))
  · intro s u h n v admits counted named valid kind out free returned
    subst counted returned
    exact done_of_eq (State.serveCmd_accepted admits (State.unitReturn_port named valid kind out free))
  · intro s u h n v admits counted named valid kind out free returned
    subst counted returned
    exact done_of_eq (State.serveCmd_accepted admits (State.unitReturn_pair named valid kind out free))
  -- DRAIN_COMPLETE: cluster, port, pair
  · intro s n alive valid kind draining passed
    refine done_of_eq ?_
    rw [State.awake_alive alive, State.drainComplete_drained valid draining (State.drained_cluster kind passed), if_neg (by omega), if_pos kind]
  · intro s n alive valid kind draining moved pages
    refine done_of_eq ?_
    rw [State.awake_alive alive, State.drainComplete_drained valid draining (State.drained_port kind moved pages), if_pos kind]
  · intro s n alive valid kind draining pages channel
    refine done_of_eq ?_
    rw [State.awake_alive alive, State.drainComplete_drained valid draining (State.drained_pair kind pages channel), if_neg (by omega),
      if_neg (by omega)]
  -- BRING_UP_PASSES: port, cluster
  · intro s n alive valid kind returning active moved
    refine done_of_eq ?_
    rw [State.awake_alive alive, State.bringUpPasses_ready valid returning fun _ => ⟨active, moved⟩, if_neg (by omega)]
  · intro s n alive valid kind returning
    refine done_of_eq ?_
    rw [State.awake_alive alive, State.bringUpPasses_ready valid returning (by omega), if_neg (by omega)]
  -- BRING_UP_FAILS: cluster, pair, port
  · intro s n alive valid kind returning
    refine done_of_eq ?_
    rw [State.awake_alive alive, State.bringUpFails_returning valid returning, if_neg (by omega), if_pos kind]
  · intro s n p alive valid kind returning pair
    subst pair
    refine done_of_eq ?_
    rw [State.awake_alive alive, State.bringUpFails_returning valid returning, if_neg (by omega), if_neg (by omega)]
  · intro s n alive valid kind returning
    refine done_of_eq ?_
    rw [State.awake_alive alive, State.bringUpFails_returning valid returning, if_pos kind]
  -- BRING_UP_PASSES: pair (R323)
  · intro s t n alive valid kind returning trained
    subst trained
    refine done_of_eq ?_
    rw [State.awake_alive alive, State.bringUpPasses_ready valid returning (by omega), if_pos kind]

end Sys2Proof.Machine

/-! PROOFS. Render starts, walker, pipelines, the end of a render, verify and release (R20 to R23, R163, R167, R192, R200, R201): each operation in the case that its clause states. -/

namespace Sys2Proof.Machine

/-! ## Render starts (R22, R192) -/

section RenderStart
variable {s : State} {p : Page} (next : s.nextWaiting = some p) (swap : s.startsWait = false) (room : chunksOf p.len ≤ s.freeChunks.length)
  (runs : s.pagesRun = true)
include next swap room runs

theorem State.renderStart_hidden (hidden : s.notHiddenNow = false) : s.renderStart = s.renderPage p true := by
  simp [State.renderStart, next, swap, runs, Nat.not_lt.mpr room, hidden]

/-- With jets that are not hidden the page is held (R192) while holding is on and its slack exceeds the margin. -/
theorem State.renderStart_shown {d : Int} (shown : s.notHiddenNow = true) (slack : s.slack p s.render.active = some d) :
    s.renderStart =
      if s.reg 0x4020 3 = 0 ∧ s.reg 0x4020 4 * 1000 < d then
        if s.render.holdPage = p.num then s else State.raise { s with render := { s.render with holdPage := p.num } } 183 0 p.num
      else s.renderPage p false := by
  by_cases holds : s.reg 0x4020 3 = 0 ∧ s.reg 0x4020 4 * 1000 < d <;>
    simp [State.renderStart, next, swap, runs, Nat.not_lt.mpr room, shown, slack, holds]

theorem State.renderStart_held {d : Int} (shown : s.notHiddenNow = true) (holds : s.reg 0x4020 3 = 0) (slack : s.slack p s.render.active = some d)
    (early : s.reg 0x4020 4 * 1000 < d) (first : s.render.holdPage ≠ p.num) :
    s.renderStart = State.raise { s with render := { s.render with holdPage := p.num } } 183 0 p.num := by
  rw [State.renderStart_shown next swap room runs shown slack, if_pos ⟨holds, early⟩, if_neg first]

theorem State.renderStart_late {d : Int} (shown : s.notHiddenNow = true) (slack : s.slack p s.render.active = some d)
    (late : d ≤ s.reg 0x4020 4 * 1000) : s.renderStart = s.renderPage p false := by
  rw [State.renderStart_shown next swap room runs shown slack, if_neg fun ⟨_, early⟩ => absurd early (not_lt.mpr late)]

end RenderStart

/-! ## Walker (R167, R168) -/

theorem State.walkLine_clean {s : State} {i first : Nat} {jb : Job} {p : Page} {ask : List TileRef} (job : s.walkJob = some (i, jb, p))
    (lead : s.spanLead < 64) (starts : first = if jb.walked = 0 then 0 else jb.walked + s.reg 0x4001 4)
    (asks : ask = ((upTo (jb.walked + s.reg 0x4001 4 + 1 - first)).flatMap fun q =>
      if first + q < jb.count p then p.tilesAt s.jobs (jb.line p (first + q)) else []).eraseDups)
    (whole : (ask.any fun t => s.jobs.tileSt t == .lost) = false) :
    s.walkLine .clean = (s.askTiles ask).updJob i fun j => { j with walked := j.walked + 1 } := by
  subst starts asks
  unfold State.walkLine
  rw [job]
  dsimp only
  rw [if_neg (Nat.not_le.mpr lead), if_neg Restored.noConfusion]
  exact if_neg (ne_true_of_eq_false whole)

/-! ## Pipelines (R163, R168, R193) -/

theorem State.pipeLine_ends {s t : State} {k waited i n y : Nat} {ce : Restored} {jb : Job} {p : Page} {g : Gen} {need : List TileRef}
    {next : Sparse Nat} (job : s.stripJob k = some (i, jb, p)) (step : n = jb.stepOf k) (line : y = jb.line p n) (gen : s.genOf p.gen = some g)
    (needs : need = (s.inputs p g).stripTiles k y) (walked : n < jb.walked) (room : s.unwritten k < 64)
    (whole : (need.any fun t => s.jobs.tileSt t == .lost) = false) (here : (need.any fun t => !s.resident t) = false)
    (read : ce ≠ .lost ∨ need = []) (render : jb.repair = false) (writes : jb.writes y = true)
    (after : next = sset 0 jb.next k (jb.stepAfter p k n))
    (ended : t = ((State.count { s with render := { s.render with cache := (s.render.cache.filter fun c => !need.contains c.tile) ++
      (s.render.cache.filter fun c => need.contains c.tile) } } 0x4000 4 64 waited).count 0x4000 6 64 (g.crossAdds k)).updJob i
        fun j => { j with next := next }) :
    s.pipeLine k waited ce = (t.cacheFault jb need ce).writePortLines g jb y (g.finishes jb k next n) := by
  have unread : ¬(ce = .lost ∧ need ≠ []) := by
    rintro ⟨lost, some⟩
    exact read.elim (· lost) some
  subst step line needs after ended
  unfold State.pipeLine
  rw [job]
  dsimp only
  rw [gen]
  dsimp only
  rw [if_neg (by omega), if_neg (ne_true_of_eq_false whole), if_neg (ne_true_of_eq_false here), if_neg unread, if_neg (by simp [render, writes])]

/-! ## End of a render, verify (R91, R200, R201) -/

theorem State.lastStrip_finished {s : State} {jb : Job} (finished : s.render.jobs.find? s.renderOver = some jb) :
    s.lastStrip = (State.updPage { s with render := { s.render with jobs := s.render.jobs.filter fun j => !(!j.repair && j.page == jb.page) } } jb.page
      fun p => { p with st := if s.flag 0x4810 1 then .rendered else .verified, relines := jb.lines, verified := !(s.flag 0x4810 1) }).count
        0x4000 2 64 1 := by
  unfold State.lastStrip
  rw [finished]

theorem State.verifyEnd_passed {s : State} {p : Page} {bad : List Nat} (page : s.verifying = some p)
    (clean : (p.toVerify.filter fun y => s.lineFails p y (bad.contains y)) = []) :
    s.verifyEnd bad = s.updPage p.num fun q => { q with st := .verified, verified := true, relines := none } := by
  unfold State.verifyEnd
  rw [page]
  dsimp only
  rw [clean]

theorem State.verifyEnd_again {s v t : State} {p : Page} {bad rest : List Nat} {y : Nat} (page : s.verifying = some p)
    (failed : (p.toVerify.filter fun y => s.lineFails p y (bad.contains y)) = y :: rest) (limit : p.rerenders < s.reg 0x4810 2)
    (may : s.mayRerender p = true) (found : v = (y :: rest).foldl (fun s z => s.lineParity p z (bad.contains z) 1) s)
    (told : t = (v.set 0x4813 4 (satAdd 32 (v.reg 0x4813 4) (rest.length + 1))).raiseAt 191 2
      (p.num + y * 2 ^ 32 + min (rest.length + 1) 16383 * 2 ^ 50) 8 5 p.num 0) :
    s.verifyEnd bad = { t.updPage p.num fun q => { q with st := .rendering, rerenders := q.rerenders + 1, relines := some (y :: rest) } with
      render := { t.render with jobs := insertRerender t.render.jobs (t.rerunJob p (y :: rest) false) } } := by
  have again : (decide (p.rerenders < s.reg 0x4810 2) && s.mayRerender p) = true := by simp [limit, may]
  subst told found
  unfold State.verifyEnd
  rw [page]
  dsimp only
  rw [failed]
  dsimp only
  rw [again]
  rfl

/-! ## Release (R23) -/

theorem State.pageRelease_alone {s : State} {p : Page} (next : s.nextRelease = some p) (alone : s.onBoard = false) (may : s.releasable p = true) :
    s.pageRelease = s.releasePage p.num (s.startOf p.num).1 := by
  simp [State.pageRelease, next, alone, may]

/-- Settles O12: clause by clause, the command's effect in the stated case, under the one end of a command. -/
theorem rendersAndVerify : Obligations.RendersAndVerify := by
  unfold Obligations.RendersAndVerify
  refine ⟨?_, ?_, ?_, ?_, ?_, ?_, ?_, ?_, ?_⟩
  -- RENDER_START: every jet hidden, then held (R192)
  · intro s p alive next swap room runs hidden
    exact done_of_eq ((State.awake_alive alive _).trans (State.renderStart_hidden next swap room runs hidden))
  · intro s p d alive next swap room runs shown holds slack early first
    exact done_of_eq ((State.awake_alive alive _).trans (State.renderStart_held next swap room runs shown holds slack early first))
  -- NOT_HIDDEN_HOLD_END (R192)
  · intro s p d alive held numbered next swap room runs shown slack late
    refine done_of_eq ?_
    calc s.awake (fun s => s.holdEnd) = s.renderStart := by rw [State.awake_alive alive, State.holdEnd, if_neg (held ▸ numbered)]
      _ = s.renderPage p false := State.renderStart_late next swap room runs shown slack late
  -- WALKER_LINE (R167)
  · intro s i jb p first ask alive job lead starts asks whole
    exact done_of_eq ((State.awake_alive alive _).trans (State.walkLine_clean job lead starts asks whole))
  -- PIPELINE_LINE (R163)
  · intro s k waited ce i jb p g n y need next alive job step line gen needs walked room whole here read render writes after
    exact ⟨_, rfl, done_of_eq ((State.awake_alive alive _).trans
      (State.pipeLine_ends job step line gen needs walked room whole here read render writes after rfl))⟩
  -- LAST_STRIP_WRITTEN (R91)
  · intro s jb alive finished
    exact done_of_eq ((State.awake_alive alive _).trans (State.lastStrip_finished finished))
  -- VERIFY_PASS_END: every line good, then lines rendered again (R200, R201)
  · intro s p lines bad alive page reads clean
    subst reads
    exact done_of_eq ((State.awake_alive alive _).trans (State.verifyEnd_passed page clean))
  · intro s p lines bad y rest alive page reads failed limit may
    subst reads
    exact ⟨_, _, rfl, rfl, done_of_eq ((State.awake_alive alive _).trans (State.verifyEnd_again page failed limit may rfl rfl))⟩
  -- PAGE_RELEASE (R23)
  · intro s p alive next alone may
    exact done_of_eq ((State.awake_alive alive _).trans (State.pageRelease_alone next alone may))

end Sys2Proof.Machine

/-! PROOFS. Fetch, in-print repair, sending, echoes, firing and re-verification (R25, R203 to R211, R226, R254, R260): each operation in the case that its clause states. -/

namespace Sys2Proof.Machine

/-! ## Fetch (R25, R26) -/

/-- A slice as it stands in the FIFO before anything is known of it: unproven and unsent. -/
def Page.newSlice (p : Page) (inst y poison : Nat) (data : Bytes) : Slice :=
  { page := p.num, inst := inst, line := y, data := data, crc := crc32c data, proven := false, poison := poison, sent := none, sentCrc := 0,
    sends := 0, sentAt := 0, echo := 0, refetch := false }

/-- The compare of a line's port-line is judged once its four slices are at hand (R26). -/
def State.judgeFull (s : State) (p : Page) (inst y n : Nat) (parity : Bool) : State :=
  match s.cmps.find? fun c => c.of p.num inst y && c.port == n with
  | some c => if c.full then s.judge p inst y n parity else s
  | none => s

theorem State.sliceFetch_room {s t : State} {mk n inst y : Nat} {f : ReadFault} {p : Page} {data : Bytes}
    (next : s.nextSlice mk (·.fetched) = some (p, n)) (copy : inst = n / p.len) (line : y = n % p.len) (serves : s.underTest (mk / 4) = false)
    (room : (s.lane mk).slices.length < 64) (near : p.instStart inst + y + s.lag mk (p.instStart inst + y) / 64 ≤ s.row + 64)
    (read : data = s.memRead (p.sliceAddr y mk) 2048)
    (taken : t = { (s.updLane mk fun l => { l with slices := l.slices ++ [p.newSlice inst y 0 data] }).updPage p.num
      (fun q => { q with fetched := sset 0 q.fetched mk (n + 1) }) with
        cmps := addCmp s.cmps p.num inst y (mk / 4) (mk % 4) (crc32c data) (f == ReadFault.dose || s.memBadIn (p.sliceAddr y mk) 2048) }) :
    s.sliceFetch mk f = t.judgeFull p inst y (mk / 4) (f == .trailer) := by
  rw [taken, read]
  subst copy line
  unfold State.sliceFetch
  rw [next]
  dsimp only
  rw [if_neg (by simp [serves, room, near]), State.updPage_cmps, State.updLane_cmps]
  rfl

/-! ## Repairs (R204) -/

theorem State.repairStart_first {s : State} {r : Repair} {rest : List Repair} {p : Page} (front : s.store.repairs = r :: rest)
    (idle : (s.store.repairs.any fun q => q.started) = false) (page : s.page r.page = some p) :
    s.repairStart = if s.repairFits p r.line (s.repairLeft p r) then (State.bump { s with
        store := { s.store with repairs := updWhere s.store.repairs (fun q => q.page == r.page && q.line == r.line) fun q => { q with started := true } }
        render := { s.render with jobs := s.rerunJob p [r.line] true :: s.render.jobs } } 0x4813 5) else s.dropRepair r := by
  rw [front] at idle
  cases fits : s.repairFits p r.line (s.repairLeft p r) <;> simp [State.repairStart, front, idle, page, fits]

theorem State.repairDone_rendered {s v : State} {r : Repair} {p : Page} {jb : Job} {g : Gen}
    (started : (s.store.repairs.find? fun r => r.started) = some r) (page : s.page r.page = some p)
    (job : (s.render.jobs.find? fun j => j.repair && j.page == r.page && j.lines == some [r.line]) = some jb) (rendered : jb.done p = true)
    (gen : s.genOf p.gen = some g) (written : v = s.writePortLines g jb r.line (upTo 16)) :
    s.repairDone = ((State.refetchLine { v with
      store := { v.store with repairs := v.store.repairs.filter fun q => !(q.page == r.page && q.line == r.line) }
      render := { v.render with jobs := v.render.jobs.filter fun j => !(j.repair && j.page == r.page && j.lines == some [r.line]) }
      cmps := v.cmps.filter fun c => !(c.page == r.page && c.line == r.line && c.full) } p r.line).count 0x4000 2 64 1).repairEvent r
        (if r.late then 1 else 0) := by
  rw [written]
  unfold State.repairDone
  rw [started]
  dsimp only
  rw [page, job]
  dsimp only
  rw [gen, rendered]

/-! ## Sending (R203, R205, R254) -/

theorem State.sliceSend_good {s : State} {mk n : Nat} {p : Page} {x : Slice} (next : s.nextSlice mk (·.sentN) = some (p, n))
    (here : (s.lane mk).slice p n = some x) (sends : s.sends mk = true) (final : x.refetch = false)
    (room : (s.lane mk).hasSlot (s.link (mk / 4)).depth = true) : s.sliceSend mk false = s.sendSlice mk p n x := by
  simp [State.sliceSend, next, here, sends, final, room]

section SendDeadline
variable {s t : State} {mk n : Nat} {p : Page} {x : Slice} (waited : t = s.trailersDue mk (s.deadlineCome mk))
  (next : t.nextSlice mk (·.sentN) = some (p, n)) (sends : t.sends mk = true) (come : t.nsToDeadline p (n / p.len) (n % p.len) mk = 0)
  (room : (t.lane mk).hasSlot (t.link (mk / 4)).depth = true)
include waited next sends come room

theorem State.sendDeadline_here (here : (t.lane mk).slice p n = some x) (final : x.refetch = false) : s.sendDeadline mk = t.sendSlice mk p n x := by
  subst waited
  simp [State.sendDeadline, next, sends, come, room, here, final]

/-- A slice that is missing at its deadline is sent as a blank one. -/
theorem State.sendDeadline_missing (missing : (t.lane mk).slice p n = none)
    (blank : x = p.newSlice (n / p.len) (n % p.len) (2 ^ (if t.underTest (mk / 4) then 14 else 6)) (zeros 2048)) :
    s.sendDeadline mk = ((t.updLane mk fun l => { l with slices := l.slices ++ [x] }).updPage p.num
      fun q => { q with fetched := sset 0 q.fetched mk (max (sget 0 q.fetched mk) (n + 1)) }).sendSlice mk p n x := by
  subst blank
  unfold State.sendDeadline
  rw [← waited]
  dsimp only
  rw [next]
  dsimp only
  rw [if_neg (by simp [sends, come]), missing, room]
  rfl

end SendDeadline

theorem State.withdrawnFree_oldest {s : State} {mk tag : Nat} {rest : List Nat} (gone : (s.lane mk).gone = tag :: rest) :
    s.withdrawnFree mk = (s.updLane mk fun l => { l with gone := rest }).fireBlock mk tag 0 [] := by
  unfold State.withdrawnFree
  rw [gone]

/-! ## Echoes (R260) -/

theorem State.echo_confirms {s : State} {mk tag crc : Nat} {x : Slice} {p : Page} (active : s.linkState (mk / 4) = 5)
    (sent : ((s.lane mk).slices.find? fun x => x.sent == some tag) = some x) (page : s.page x.page = some p)
    (inTime : s.echoLate p x.inst x.line mk = false) (good : crc = x.sentCrc) (once : x.sends = 1) :
    s.echo mk tag crc = (s.updSlice mk p (x.inst * p.len + x.line) fun x => { x with echo := 1 }).count (portIdx (mk / 4) + 2) 2 64 1 := by
  simp [State.echo, active, sent, page, inTime, good, once]

/-! ## Firing (R226) -/

theorem State.fireInstant_due {s v : State} {mk n tpos l0 out inst y fine : Nat} {p : Page} {x : Slice} {why : List Nat}
    (next : s.nextFire mk = some (p, n, tpos, l0, out)) (ok : s.pos.posOk = true) (goes : s.pos.hold = false) (due : out ≤ 2 * s.clk.now + 1)
    (copy : inst = n / p.len) (line : y = n % p.len) (castOn : inst < p.cast)
    (waited : v = s.trailersDue mk fun q i l => q == p.num && i == inst && l == y) (here : (v.lane mk).slice p n = some x)
    (reasons : why = v.fireReasons mk (decide (n < sget 0 p.sentN mk)) (some x)) (active : s.linkState (mk / 4) = 5)
    (offset : fine = s.fineAt mk (s.target p inst y mk)) :
    s.fireInstant mk = (((((v.fireSpoils p inst y mk (some x) why).consume x).fireSend p (p.instStart inst + y) mk (some x)).fireTaken p inst y mk out
      (some x)).slowCheck p n mk (if out = 2 * tpos + fine then 0 else s.lamAtHalf (out - fine) - l0)).firePassed p n mk := by
  have fires : ¬(s.pos.posOk = false ∨ s.pos.hold = true ∨ 2 * s.clk.now + 1 < out) := by simp [ok, goes, due]
  subst copy line offset reasons
  unfold State.fireInstant
  rw [next]
  dsimp only
  rw [if_neg fires, if_neg (Nat.not_le.mpr castOn), ← waited, here]
  dsimp only
  rw [if_pos active]

/-! ## Re-verification (R211) -/

theorem State.reverify_parity {s t : State} {num line dn i left : Nat} {p : Page} (page : s.page num = some p) (fired : dn = p.firedAll)
    (copy : i = (if dn % p.len > line then dn / p.len else dn / p.len - 1)) (time : left = s.fetchLeft p (i + 1) line)
    (on : s.flag 0x4810 4 = true) (printing : p.st = .printing) (lines : p.len ≠ 0) (inside : line < p.len) (done : line < dn) (more : i + 1 < p.insts)
    (early : ((upTo 64).all fun mk => !bit p.ports (mk / 4) || decide (sget 0 p.fetched mk ≤ (i + 1) * p.len + line)) = true)
    (apart : 64 + s.kMax p (p.instStart (i + 1) + line) < p.len + p.gap) (enough : 2050 ≤ left) (first : p.reverified.contains (i, line) = false)
    (noted : t = s.updPage num fun q => { q with reverified := (i, line) :: q.reverified.filter fun e => decide (i ≤ e.1 + 1) }) :
    s.reverify num line true =
      let v := (t.bump 0x4813 4).lineParity p line true (if t.repairFits p line (some left) then 1 else 2)
      if t.repairFits p line (some left) then
        v.queueRepair num line (lowPort 0xFFFF) 0xFFFF ((v.nsLeft num line).getD left) (some (i + 1))
      else v.storePoison num line 0xFFFF := by
  have fresh : (i, line) ∉ p.reverified := by simpa using first
  have fails : t.lineFails p line true = true := by simp [State.lineFails]
  subst fired time
  unfold State.reverify
  rw [page]
  dsimp only
  rw [← copy, if_neg (by simp [on, printing, lines, inside, done, more, early, apart, enough, fresh]), ← noted, fails]
  rfl

/-- Settles O14: clause by clause, the command's effect in the stated case, under the one end of a command. -/
theorem readoutAndFiring : Obligations.ReadoutAndFiring := by
  unfold Obligations.ReadoutAndFiring
  refine ⟨?_, ?_, ?_, ?_, ?_, ?_, ?_, ?_, ?_, ?_⟩
  -- SLICE_FETCH (R25, R26)
  · intro s pt k f p mk n inst y alive laneKey next copy line serves room near
    subst laneKey
    exact ⟨_, _, _, rfl, rfl, rfl, done_of_eq ((State.awake_alive alive _).trans
      (State.sliceFetch_room next copy line serves room near rfl rfl))⟩
  -- IN_PRINT_REPAIR_START, IN_PRINT_REPAIR_COMPLETE (R204)
  · intro s r rest p alive front idle page
    exact done_of_eq ((State.awake_alive alive _).trans (State.repairStart_first front idle page))
  · intro s v r p jb g alive started page job rendered gen written
    exact ⟨_, rfl, done_of_eq ((State.awake_alive alive _).trans (State.repairDone_rendered started page job rendered gen written))⟩
  -- SLICE_SEND (R254)
  · intro s pt k p n mk x alive laneKey next here sends final room
    subst laneKey
    exact done_of_eq ((State.awake_alive alive _).trans (State.sliceSend_good next here sends final room))
  -- SEND_DEADLINE: a slice in the FIFO, one that is missing (R203)
  · intro s t pt k p n mk x alive laneKey waited next sends come room here final
    subst laneKey
    exact done_of_eq ((State.awake_alive alive _).trans (State.sendDeadline_here waited next sends come room here final))
  · intro s t pt k p n mk x alive laneKey waited next sends come room missing blank
    subst laneKey
    exact done_of_eq ((State.awake_alive alive _).trans (State.sendDeadline_missing waited next sends come room missing blank))
  -- ECHO (R260)
  · intro s pt k tag crc x p mk alive laneKey active sent page inTime good once
    subst laneKey
    exact done_of_eq ((State.awake_alive alive _).trans (State.echo_confirms active sent page inTime good once))
  -- WITHDRAWN_SLICE_FREE (R254)
  · intro s pt k tag rest alive gone
    exact done_of_eq ((State.awake_alive alive _).trans (State.withdrawnFree_oldest gone))
  -- FIRE_INSTANT (R226)
  · intro s v pt k p mk n tpos l0 out inst y fine x why alive laneKey next ok goes due copy line castOn waited here reasons active offset
    subst laneKey
    exact ⟨_, rfl, done_of_eq ((State.awake_alive alive _).trans
      (State.fireInstant_due next ok goes due copy line castOn waited here reasons active offset))⟩
  -- REVERIFY_LINE (R211)
  · intro s t page line p dn i left alive found fired copy time on printing lines inside done more early apart enough first noted
    exact ⟨_, rfl, done_of_eq ((State.awake_alive alive _).trans
      (State.reverify_parity found fired copy time on printing lines inside done more early apart enough first noted))⟩

end Sys2Proof.Machine

/-! PROOFS. What a command leaves alone (R38, R39, R411), what a step leaves owed (R45, R407), and the end of a command where nothing has come about (R56, R62, R157, R202, R375, R443). -/

namespace Sys2Proof.Machine

/-! ## Frames over a step -/

theorem State.flashRead_congr {s t : State} (same : t.flash = s.flash) (a n : Nat) : t.flashRead a n = s.flashRead a n := by
  simp only [State.flashRead, same]

/-- Settles O47: the effect of the row leaves `State.kept` alone, and so does its end, since nothing is owed. -/
theorem onlyUpdatesAndSettingsTouchFlash : Obligations.OnlyUpdatesAndSettingsTouchFlash := by
  unfold Obligations.OnlyUpdatesAndSettingsTouchFlash
  intro c s t noRestart noKeep nothingOwed ran
  obtain ⟨e, answer, outer, kept, -⟩ := exec_concludes_of_not_mayRestart c s noRestart
  have same : t.kept = s.kept := concluded_kept outer (kept noKeep) nothingOwed (answer.symm.trans ran)
  simp only [State.kept, Prod.mk.injEq] at same
  obtain ⟨flash, copyA, copyB, update, recovery⟩ := same
  exact ⟨State.flashRead_congr flash, copyA, copyB, update, recovery⟩

@[simp] theorem State.idleStep_boot (s : State) : s.idleStep.boot = s.boot := by
  unfold State.idleStep
  dsimp only
  split <;> rfl

/-- Settles O51: an idle step leaves the boot record alone, and the end of a command does what is owed. -/
theorem nothingIsOwedBetweenSteps : Obligations.NothingIsOwedBetweenSteps := by
  unfold Obligations.NothingIsOwedBetweenSteps
  intro s t nothingOwed stepped
  cases queue : s.pending with
  | nil =>
    rw [step_of_pending_nil queue] at stepped
    cases stepped
    rw [State.idleStep_boot, nothingOwed]
  | cons c rest =>
    rw [step_of_pending_cons queue] at stepped
    exact (exec_carries stepped).2

/-! ## The quiet end of a command -/

theorem foldl_fixed_of_mem {σ α : Type} {f : σ → α → σ} {s : σ} {l : List α} (fixed : ∀ a ∈ l, f s a = s) : l.foldl f s = s := by
  induction l with
  | nil => rfl
  | cons a l ih =>
    rw [List.foldl_cons, fixed a List.mem_cons_self]
    exact ih fun b mem => fixed b (List.mem_cons_of_mem a mem)

theorem updWhere_none {α : Type} {l : List α} {p : α → Bool} (f : α → α) (none : l.any p = false) : updWhere l p f = l := by
  rw [List.any_eq_false] at none
  exact (List.map_congr_left fun x mem => if_neg (none x mem)).trans (List.map_id' l)

theorem State.barrierClose_none {s : State} (closed : s.board.barrier = none) : s.barrierClose = s := by
  simp [State.barrierClose, closed]

theorem State.checkLate_none {s : State}
    (none : s.starts.any (fun e => !e.1.st.active && !e.1.late && !e.2.2 && decide (e.2.1 ≤ s.row + s.margin)) = false) : s.checkLate = s := by
  rw [List.any_eq_false] at none
  exact foldl_fixed_of_mem fun e mem => if_neg (none e mem)

theorem State.take_quiet {s : State} (quiet : s.ev.occ = []) : s.take = s := by
  have taken : s.ev.takeAll = s.ev := by simp [Ev.takeAll, Ev.takeRounds, quiet]
  simp [State.take, taken]

theorem State.waitingVote_none {s : State} (none : s.board.vote = none) : s.waitingVote = s := by
  simp [State.waitingVote, none]

theorem State.abandonDecodes_idle {s : State} (noneWaits : s.render.decQueue = []) (noneRuns : s.render.decoders = []) : s.abandonDecodes = s := by
  simp [State.abandonDecodes, noneWaits, noneRuns]

theorem State.watchReads_unchanged {s : State}
    (same : s.fop.xfers.any (fun x => !x.isWrite && !x.changed && s.domRead (x.key / 256) (x.key % 256) 0 x.size != x.seen) = false) : s.watchReads = s := by
  simp [State.watchReads, updWhere_none _ same]

/-- Settles O36: each of the parts of the end leaves the state as it is. -/
theorem quietEndChangesNothing : Obligations.QuietEndChangesNothing := by
  unfold Obligations.QuietEndChangesNothing
  intro s quiet noEntry noBarrier noVote noneLate noneWaits noneRuns unchanged nothingOwed
  have settled : s.settle = s := by
    simp only [State.settle, State.barrierClose_none noBarrier, State.checkLate_none noneLate, State.take_quiet quiet, noEntry, if_true,
      State.waitingVote_none noVote, State.abandonDecodes_idle noneWaits noneRuns, State.watchReads_unchanged unchanged]
  rw [State.conclude, settled, if_pos nothingOwed]

end Sys2Proof.Machine

/-! PROOFS. Rings (R69 to R71): what a device producer and a device consumer do with one. -/

namespace Sys2Proof.Machine

theorem Ev.ringPut_room {e : Ev} {q : Nat} (active : Ring.active e q = true) (room : Ring.held e q < Ring.size e q) (now epoch : Nat) (mk : Nat → Bytes) :
    e.ringPut now epoch q mk = (e.ringStore q (mk (e.bank.get (qObj q 2))), true) := by
  simp [Ev.ringPut, active, Nat.not_le.mpr room]

theorem Ev.ringPut_full {e : Ev} {q : Nat} (active : Ring.active e q = true) (full : Ring.size e q ≤ Ring.held e q) (now epoch : Nat) (mk : Nat → Bytes) :
    e.ringPut now epoch q mk =
      (let dropped := { e with bank := e.bank.put (qObj q 6) (satAdd 32 (e.bank.get (qObj q 6)) 1), ringFull := sset false e.ringFull q true }
      if sget false e.ringFull q = true then dropped else dropped.raise (Occ.plain 253 2 q now epoch), false) := by
  simp [Ev.ringPut, active, full]

/-- Objects of one ring differ by their subindexes. -/
theorem qObj_ne {q sub sub' : Nat} (h : sub ≠ sub') : qObj q sub ≠ qObj q sub' := by
  simpa [qObj, obj] using h

theorem dflt_producerIndex {q : Nat} (h : q < 256) : dflt (qObj q 2) = 0 := by
  have row := lookup_ring2 (BitVec.ofNat 8 q)
  rw [BitVec.toNat_ofNat, Nat.mod_eq_of_lt h] at row
  have index : qObj q 2 / 256 = 0x7C00 + q ∧ qObj q 2 % 256 = 2 := by
    simp only [qObj, obj]
    omega
  rw [dflt, index.1, index.2, row]
  rfl

theorem Ev.ringStore_get (e : Ev) (q : Nat) (d : Bytes) {sub : Nat} (other : sub ≠ 2) :
    (e.ringStore q d).bank.get (qObj q sub) = e.bank.get (qObj q sub) :=
  bank_get_put_ne _ _ _ _ (qObj_ne other)

theorem Ev.ringStore_producerIndex {e : Ev} {q : Nat} (d : Bytes) (h : q < 256) (below : e.bank.get (qObj q 2) + 1 < 2 ^ 32) :
    (e.ringStore q d).bank.get (qObj q 2) = e.bank.get (qObj q 2) + 1 := by
  have next : wrapAdd 32 (e.bank.get (qObj q 2)) 1 = e.bank.get (qObj q 2) + 1 := Nat.mod_eq_of_lt below
  have listed : e.bank.get (qObj q 2) + 1 ≠ dflt (qObj q 2) := by
    rw [dflt_producerIndex h]
    exact Nat.succ_ne_zero _
  rw [← next] at listed ⊢
  exact bank_get_put _ _ _ listed

theorem Ev.ringStore_slot (e : Ev) (q : Nat) (d : Bytes) :
    sget Slot.never (e.ringStore q d).slots (Ring.slotKey e q (e.bank.get (qObj q 2))) = Slot.full d :=
  sget_sset_put _ _ _ fun same => absurd (congrArg Slot.good same) (by simp [Slot.full, Slot.never])

theorem fit_of_length {n : Nat} {d : Bytes} (h : d.length = n) : fit n d = d := by
  simp [fit, ← h]

/-- The descriptor at CI is whole, in its queue and in sequence: it is read with no error. -/
theorem Ev.ringHead_good {e : Ev} {q : Nat} {d : Bytes} (active : Ring.active e q = true) (held : Ring.held e q ≠ 0)
    (slot : sget Slot.never e.slots (Ring.slotKey e q (e.bank.get (qObj q 3))) = Slot.full d) (whole : d.length = 32)
    (queue : leAt d 2 2 = q) (sequence : leAt d 4 4 = e.bank.get (qObj q 3)) : e.ringHead q = some (d, 0) := by
  simp [Ev.ringHead, active, held, slot, Slot.full, fit_of_length whole, queue, sequence]

/-- Settles O44: the three cases of the producer's write, and the consumer's read of what was written last. -/
theorem ringsAreFirstInFirstOut : Obligations.RingsAreFirstInFirstOut := by
  unfold Obligations.RingsAreFirstInFirstOut
  refine ⟨?_, ?_, ?_⟩
  · intro e now epoch q mk active room
    exact Ev.ringPut_room active room now epoch mk
  · intro e now epoch q mk active full
    rw [Ev.ringPut_full active full]
    dsimp only
    split
    · exact ⟨rfl, rfl, rfl, rfl⟩
    · exact ⟨rfl, rfl, rfl, rfl⟩
  · intro e q pi d active small index below empty whole queue sequence
    subst index
    have producer := e.ringStore_producerIndex d small below
    have consumer : (e.ringStore q d).bank.get (qObj q 3) = e.bank.get (qObj q 2) := (e.ringStore_get q d (by decide)).trans empty
    have one : Ring.held (e.ringStore q d) q = 1 := by
      rw [Ring.held, producer, consumer]
      omega
    have key : Ring.slotKey (e.ringStore q d) q = Ring.slotKey e q := by
      funext i
      rw [Ring.slotKey, Ring.slotKey, Ring.size, Ring.size, e.ringStore_get q d (by decide)]
    refine Ev.ringHead_good ?_ (by simp [one]) ?_ whole queue (sequence.trans consumer.symm)
    · rw [Ring.active, e.ringStore_get q d (by decide)]
      exact active
    · rw [key, consumer]
      exact e.ringStore_slot q d

end Sys2Proof.Machine

/-! PROOFS. FOP requests on objects (R36, R49, R51, R57): READ and WRITE of a scalar, RANGE_READ and RANGE_WRITE. -/

namespace Sys2Proof.Machine

/-! ## Admitted requests that come to an answer -/

theorem State.request'_answered {s t : State} {m : FopMsg} {op status : Nat} {payload : Bytes} {act : State → Nat → Nat → Bytes → State × Nat × Bytes}
    (admits : s.Admits m.head op (obj m.index.toNat m.sub.toNat))
    (acts : act (s.counted m.head) m.index.toNat m.sub.toNat m.payload = (t, status, payload)) :
    s.request' m op act = t.fopReply m.head (s.ownAddr m.head.peer) op (obj m.index.toNat m.sub.toNat) status payload := by
  rw [State.request'_admits admits, acts]

/-! ## Finding the object (R49 steps 7 to 9) -/

theorem findObject_row {idx sub : Nat} {o : Obj} (row : lookup idx sub = some o) : findObject idx sub = .ok o := by
  simp [findObject, row]

theorem State.reach_read {idx sub : Nat} {o : Obj} {ranged : Bool} (s : State) (row : lookup idx sub = some o) (readable : accessOf idx sub o ≠ .wo)
    (notStaging : idx ≠ 0x8020) (offers : ranged = true → o.ranged = true) : s.reach idx sub ranged false = .ok o := by
  simpa [State.reach, findObject_row row, readable, notStaging] using offers

theorem State.reach_write {idx sub : Nat} {o : Obj} {ranged : Bool} (s : State) (row : lookup idx sub = some o) (writable : accessOf idx sub o ≠ .ro)
    (notStaging : idx ≠ 0x8020) (offers : ranged = true → o.ranged = true) : s.reach idx sub ranged true = .ok o := by
  simpa [State.reach, findObject_row row, writable, notStaging] using offers

/-! ## READ and WRITE of a scalar -/

theorem State.doRead_scalar {idx sub : Nat} {o : Obj} (s : State) (row : lookup idx sub = some o) (scalar : o.ty = .u)
    (readable : accessOf idx sub o ≠ .wo) (notStaging : idx ≠ 0x8020) :
    s.doRead idx sub [] = (s, St.ok, leBytes o.size (if o.acc = .cmd then 0 else s.value idx sub)) := by
  have listed : ¬ (sub = 0 ∧ (lookup idx 0).isNone = true) := by
    rintro ⟨rfl, unlisted⟩
    simp [row] at unlisted
  simp only [State.doRead, s.reach_read row readable notStaging (ranged := false) nofun, listed, scalar, ne_eq, not_true, if_false]

theorem State.writeScalar_put {idx sub v : Nat} {o : Obj} (s : State) (row : lookup idx sub = some o) (range : inRange o v = true)
    (idle : (needsIdle idx sub o && !s.idleFor idx sub) = false) (free : s.crcBusy idx sub = false) (fits : s.fitsState idx sub v = true)
    (noRing : idx < 0x7C00 ∨ 0x7D00 ≤ idx) : s.writeScalar idx sub v = (s.put' idx sub (Machine.kept o v), St.ok) := by
  have outside : ∀ k, ¬ (0x7C00 ≤ idx ∧ idx < 0x7D00 ∧ sub = k) := by omega
  simp only [State.writeScalar, row, range, idle, free, fits, outside, Bool.not_true, Bool.false_eq_true, if_false]

/-! ## Ranged access (R57) -/

theorem State.rangeRead_within {idx sub : Nat} {o : Obj} {payload : Bytes} (s : State) (row : lookup idx sub = some o) (ranged : o.ranged = true)
    (readable : accessOf idx sub o ≠ .wo) (notStaging : idx ≠ 0x8020) (length : payload.length = 6) (nonempty : 0 < leAt payload 4 2)
    (most : leAt payload 4 2 ≤ 1024) (within : leAt payload 0 4 + leAt payload 4 2 ≤ s.domSize idx sub) :
    s.rangeRead idx sub payload = (s.readCheck idx (leAt payload 0 4) (leAt payload 4 2), St.ok, s.domRead idx sub (leAt payload 0 4) (leAt payload 4 2)) := by
  simp [State.rangeRead, s.reach_read row readable notStaging (fun _ => ranged), length, Nat.ne_of_gt nonempty, Nat.not_lt.mpr most, Nat.not_lt.mpr within]

theorem State.writeDomain_idle {idx : Nat} (s : State) (idle : s.domIdle idx = true) (sub off : Nat) (d : Bytes) :
    s.writeDomain idx sub off d = ((s.domWrite idx sub off d).rewatch idx sub, St.ok) := by
  simp [State.writeDomain, idle]

theorem State.rangeWrite_within {idx sub off : Nat} {o : Obj} {d : Bytes} {p : Peer} (s : State) (row : lookup idx sub = some o) (ranged : o.ranged = true)
    (writable : accessOf idx sub o ≠ .ro) (notStaging : idx ≠ 0x8020) (small : off < 2 ^ 32) (nonempty : 0 < d.length) (most : d.length ≤ 1024)
    (within : off + d.length ≤ s.domSize idx sub) (idle : s.domIdle idx = true) (unlocked : s.lockedFor p (obj idx sub) = false) :
    s.rangeWrite p idx sub (leBytes 4 off ++ d) = ((s.domWrite idx sub off d).rewatch idx sub, St.ok, []) := by
  have offset : leAt (leBytes 4 off ++ d) 0 4 = off := leAt_leBytes off d small
  have data : (leBytes 4 off ++ d).drop 4 = d := List.drop_left' (length_leBytes 4 off)
  have length : ¬ (leBytes 4 off ++ d).length < 5 := by
    rw [List.length_append, length_leBytes]
    omega
  simp only [State.rangeWrite, s.reach_write row writable notStaging (fun _ => ranged), offset, data, length, Nat.not_lt.mpr most, Nat.not_lt.mpr within,
    idle, unlocked, s.writeDomain_idle idle, or_self, Bool.not_true, Bool.false_eq_true, if_false]

/-- Settles O1: each request is admitted, so its action runs on the counted state, and comes to its accepting case. -/
theorem fopReadsAndWrites : Obligations.FopReadsAndWrites := by
  unfold Obligations.FopReadsAndWrites
  refine ⟨?_, ?_, ?_, ?_⟩
  -- READ (R51)
  · intro s u m o admits counted row scalar readable notStaging empty
    subst counted
    refine done_of_eq (State.request'_answered admits ?_)
    rw [empty]
    exact State.doRead_scalar _ row scalar readable (BitVec.toNat_ne_iff_ne.mpr notStaging)
  -- WRITE (R36)
  · intro s u m o v admits counted row scalar value writable notStaging noRing length content range idle free fits
    subst counted content
    refine done_of_eq (State.request'_answered admits ?_)
    have stored := State.writeScalar_put _ row range idle free fits noRing
    rw [State.doWrite_scalar _ _ row writable (BitVec.toNat_ne_iff_ne.mpr notStaging) (by simp [scalar]) value length, stored]
  -- RANGE_READ (R57)
  · intro s u m o off n admits counted row ranged readable notStaging length offset count nonempty most within
    subst counted offset count
    exact done_of_eq (State.request'_answered admits
      (State.rangeRead_within _ row ranged readable (BitVec.toNat_ne_iff_ne.mpr notStaging) length nonempty most within))
  -- RANGE_WRITE (R57)
  · intro s u m o off d admits counted row ranged writable notStaging content small nonempty most within idle unlocked
    subst counted
    refine done_of_eq (State.request'_answered admits ?_)
    rw [content]
    exact State.rangeWrite_within _ row ranged writable (BitVec.toNat_ne_iff_ne.mpr notStaging) small nonempty most within idle unlocked

end Sys2Proof.Machine

/-! PROOFS. Segmented transfers (R53 to R56). -/

namespace Sys2Proof.Machine

/-! ## Opening a transfer -/

/-- A ninth transfer and a second one of an object are refused; another opens under a handle not in use (R53). -/
theorem State.segOpen_room {s : State} {idx sub size : Nat} {write : Bool} {data : Bytes} (p : Peer) (reply : Nat → Bytes)
    (room : s.fop.xfers.length < 8) (unlocked : s.locked (obj idx sub) = false) :
    ∃ c : Nat, c ∉ s.fop.xfers.map (·.handle) ∧ s.segOpen p idx sub write size data reply =
      ({ s with free := s.free + 1, fop := ⟨s.fop.clients, s.fop.xfers ++ [⟨c, p, obj idx sub, write, size, data, false, s.clk.now, data⟩]⟩ }, St.ok, reply c) := by
  refine ⟨_, freeHandle_not_mem s.free s.fop.xfers room, ?_⟩
  have may : ¬ (8 ≤ s.fop.xfers.length ∨ s.locked (obj idx sub) = true) := by
    simp [Nat.not_le.mpr room, unlocked]
  rw [State.segOpen, if_neg may]
  rfl

theorem State.segReadInit_opens {s : State} {idx sub : Nat} {o : Obj} (p : Peer) (row : lookup idx sub = some o) (domain : o.ty = .dom)
    (readable : accessOf idx sub o ≠ .wo) (notStaging : idx ≠ 0x8020) :
    s.segReadInit p idx sub [] = s.segOpen p idx sub false (s.domSize idx sub) (s.domRead idx sub 0 (s.domSize idx sub))
      fun h => leBytes 2 h ++ zeros 2 ++ leBytes 4 (s.domSize idx sub) := by
  simp [State.segReadInit, s.reach_read row readable notStaging (ranged := false) nofun, domain]

theorem State.segWriteInit_opens {s : State} {idx sub : Nat} {o : Obj} {payload : Bytes} (p : Peer) (row : lookup idx sub = some o) (domain : o.ty = .dom)
    (writable : accessOf idx sub o ≠ .ro) (notStaging : idx ≠ 0x8020) (length : payload.length = 4) (whole : leAt payload 0 4 = s.domSize idx sub)
    (idle : s.domIdle idx = true) :
    s.segWriteInit p idx sub payload = s.segOpen p idx sub true (s.domSize idx sub) [] fun h => leBytes 2 h ++ zeros 2 := by
  simp [State.segWriteInit, s.reach_write row writable notStaging (ranged := false) nofun, domain, length, whole, idle]

/-! ## Requests on a transfer under way -/

/-- The message keeps its transfer alive (R55). -/
def State.keptAlive (s : State) (x : Xfer) : State := s.updXfer x.handle fun y => { y with last := s.clk.now }

theorem State.onTransfer_open {s : State} {p : Peer} {idx sub : Nat} {payload : Bytes} {fits abort : Bool} {dir : Option Bool} {x : Xfer}
    (act : State → Xfer → State × Nat × Bytes) (listed : lookup idx sub ≠ none) (ready : abort = true ∨ (idx = 0x8020 → s.ready 6 = true))
    (length : fits = true) (opened : s.transfer p (obj idx sub) (leAt payload 0 2) = some x) (direction : dir = none ∨ dir = some x.isWrite) :
    s.onTransfer p idx sub payload fits abort dir act = act (s.keptAlive x) x := by
  obtain ⟨o, row⟩ := Option.ne_none_iff_exists'.mp listed
  have up : ¬ (idx = 0x8020 ∧ s.ready 6 = false ∧ abort = false) := by
    rintro ⟨staging, down, noAbort⟩
    simp [noAbort, staging, down] at ready
  have along : ¬ (dir.any fun w => w != x.isWrite) = true := by
    rcases direction with rfl | rfl <;> simp
  rw [State.onTransfer, findObject_row row]
  simp only [if_neg up, length, opened, if_neg along, Bool.not_true, Bool.false_eq_true, if_false]
  rfl

theorem State.segReadData_fits {s : State} {p : Peer} {idx sub off n : Nat} {payload : Bytes} {x : Xfer} (listed : lookup idx sub ≠ none)
    (ready : idx = 0x8020 → s.ready 6 = true) (length : payload.length = 8) (opened : s.transfer p (obj idx sub) (leAt payload 0 2) = some x)
    (reads : x.isWrite = false) (offset : off = leAt payload 4 4) (count : n = min 1024 (x.size - off)) (fits : segmentFits x.size off n = true) :
    s.segReadData p idx sub payload = (((s.keptAlive x).readCheck idx off n).updXfer x.handle fun y => { y with data := patch y.data off (s.domRead idx sub off n) },
      St.ok, leBytes 4 off ++ s.domRead idx sub off n) := by
  subst offset count
  rw [State.segReadData, State.onTransfer_open _ listed (.inr ready) (by simp [length]) opened (.inr (by rw [reads]))]
  dsimp only
  rw [if_neg (by simp [fits])]
  rfl

theorem State.segWriteData_next {s : State} {p : Peer} {idx sub : Nat} {payload d : Bytes} {x : Xfer} (listed : lookup idx sub ≠ none)
    (ready : idx = 0x8020 → s.ready 6 = true) (length : 8 ≤ payload.length) (opened : s.transfer p (obj idx sub) (leAt payload 0 2) = some x)
    (writes : x.isWrite = true) (offset : leAt payload 4 4 = x.data.length) (data : d = payload.drop 8)
    (fits : segmentFits x.size x.data.length d.length = true) :
    s.segWriteData p idx sub payload =
      ((s.keptAlive x).updXfer x.handle fun y => { y with data := y.data ++ d }, St.ok, leBytes 4 (x.data.length + d.length)) := by
  subst data
  rw [State.segWriteData, State.onTransfer_open _ listed (.inr ready) (by simp [length]) opened (.inr (by rw [writes]))]
  dsimp only
  simp only [offset, fits, Bool.not_true, Bool.false_eq_true, if_false, lt_irrefl]

/-- A whole shadow with the right CRC is committed in one step (R54). -/
theorem State.segEnd_commits {s : State} {p : Peer} {idx sub : Nat} {payload : Bytes} {x : Xfer} {o : Obj} (row : lookup idx sub = some o)
    (writable : accessOf idx sub o ≠ .ro) (notStaging : idx ≠ 0x8020) (length : payload.length = 8)
    (opened : s.transfer p (obj idx sub) (leAt payload 0 2) = some x) (writes : x.isWrite = true) (whole : x.data.length = x.size)
    (crc : crc32c x.data = leAt payload 4 4) (contents : contentsFit idx x.data = true) (idle : s.domIdle idx = true) :
    s.segEnd p idx sub payload = ((((s.keptAlive x).endXfer x.handle).domWrite idx sub 0 x.data).rewatch idx sub, St.ok, leBytes 4 (leAt payload 4 4)) := by
  have reached := (s.keptAlive x).reach_write row writable notStaging (ranged := false) nofun
  have written := ((s.keptAlive x).endXfer x.handle).writeDomain_idle idle sub 0 x.data
  rw [State.segEnd, State.onTransfer_open _ (by simp [row]) (.inr fun staging => absurd staging notStaging) (by simp [length]) opened (.inl rfl)]
  simp only [writes, whole, crc, reached, contents, written, ne_eq, not_true, or_self, Bool.not_true, Bool.false_eq_true, if_true, if_false]

/-- A read whose object did not change ends with its CRC (R56). -/
theorem State.segEnd_unchanged {s : State} {p : Peer} {idx sub : Nat} {payload : Bytes} {x : Xfer} (listed : lookup idx sub ≠ none)
    (ready : idx = 0x8020 → s.ready 6 = true) (length : payload.length = 8) (opened : s.transfer p (obj idx sub) (leAt payload 0 2) = some x)
    (reads : x.isWrite = false) (unmarked : x.changed = false) (same : s.domRead idx sub 0 x.size = x.seen) :
    s.segEnd p idx sub payload = ((s.keptAlive x).endXfer x.handle, St.ok, leBytes 4 (crc32c x.data)) := by
  have stands : (s.keptAlive x).domRead idx sub 0 x.size = x.seen := same
  rw [State.segEnd, State.onTransfer_open _ listed (.inr ready) (by simp [length]) opened (.inl rfl)]
  simp [reads, unmarked, stands]

theorem State.segAbort_ends {s : State} {p : Peer} {idx sub : Nat} {payload : Bytes} {x : Xfer} (listed : lookup idx sub ≠ none)
    (length : payload.length = 4) (opened : s.transfer p (obj idx sub) (leAt payload 0 2) = some x) :
    s.segAbort p idx sub payload = ((s.keptAlive x).endXfer x.handle, St.ok, []) := by
  rw [State.segAbort, State.onTransfer_open _ listed (.inl rfl) (by simp [length]) opened (.inl rfl)]
  rfl

theorem State.segTimeout_over {s : State} {h : Nat} {x : Xfer} (found : s.fop.xfers.find? (fun y => y.handle == h) = some x)
    (late : x.last + 2000000000 ≤ s.clk.now) : s.segTimeout h = s.endXfer h := by
  refine if_pos (List.any_eq_true.mpr ⟨x, List.mem_of_find?_eq_some found, ?_⟩)
  simp [by simpa using List.find?_some found, late]

/-- Settles O2: each request is admitted, so its action runs on the counted state, and comes to its accepting case. -/
theorem segmentedTransfers : Obligations.SegmentedTransfers := by
  unfold Obligations.SegmentedTransfers
  refine ⟨?_, ?_, ?_, ?_, ?_, ?_, ?_, ?_⟩
  -- SEG_READ_INIT (R53)
  · intro s u m o n admits counted row domain readable notStaging empty size room unlocked
    subst counted size
    obtain ⟨c, new, opens⟩ := State.segOpen_room m.head.peer _ room unlocked
    refine ⟨c, new, done_of_eq (State.request'_answered admits ?_)⟩
    rw [empty]
    exact (State.segReadInit_opens _ row domain readable (BitVec.toNat_ne_iff_ne.mpr notStaging)).trans opens
  -- SEG_READ_DATA (R56)
  · intro s u m x off n admits counted listed ready length opened reads offset count fits
    subst counted
    exact done_of_eq (State.request'_answered admits (State.segReadData_fits listed ready length opened reads offset count fits))
  -- SEG_WRITE_INIT (R53)
  · intro s u m o n admits counted row domain writable notStaging length size whole idle room unlocked
    subst counted size
    obtain ⟨c, new, opens⟩ := State.segOpen_room m.head.peer _ room unlocked
    exact ⟨c, new, done_of_eq (State.request'_answered admits
      ((State.segWriteInit_opens _ row domain writable (BitVec.toNat_ne_iff_ne.mpr notStaging) length whole idle).trans opens))⟩
  -- SEG_WRITE_DATA (R54)
  · intro s u m behind x d short admits counted listed ready length opened writes offset data fits
    subst counted
    have queued : ¬ 16 ≤ behind.toNat := by bv_omega
    exact done_of_eq ((if_neg queued).trans
      (State.request'_answered admits (State.segWriteData_next listed ready length opened writes offset data fits)))
  -- SEG_END of a write (R54)
  · intro s u m x o admits counted row writable notStaging length opened writes whole crc contents idle
    subst counted
    exact done_of_eq (State.request'_answered admits
      (State.segEnd_commits row writable (BitVec.toNat_ne_iff_ne.mpr notStaging) length opened writes whole crc contents idle))
  -- SEG_END of a read (R56)
  · intro s u m x admits counted listed ready length opened reads unmarked same
    subst counted
    exact done_of_eq (State.request'_answered admits (State.segEnd_unchanged listed ready length opened reads unmarked same))
  -- SEG_ABORT (R55)
  · intro s u m x admits counted listed length opened
    subst counted
    exact done_of_eq (State.request'_answered admits (State.segAbort_ends listed length opened))
  -- SEG_TRANSFER_TIMEOUT (R55)
  · intro s handle x alive found late
    exact done_of_eq ((State.awake_alive alive _).trans (State.segTimeout_over found late))

end Sys2Proof.Machine

/-! PROOFS. Clients, subscriptions and notifications (R49, R50, R51, R58): each operation in the case that its clause states. -/

namespace Sys2Proof.Machine

/-! ## Slots -/

@[simp] theorem State.count_slot (s : State) (idx sub w n k : Nat) : (s.count idx sub w n).slot k = s.slot k := by
  unfold State.count State.set State.put
  split <;> rfl

theorem State.slot_updSlot_ne {k j : Nat} (s : State) (f : NotifySlot → NotifySlot) (other : j ≠ k) : (s.updSlot k f).slot j = s.slot j :=
  sget_sset_ne _ _ other

theorem State.updSlot_congr {s : State} {k : Nat} {f g : NotifySlot → NotifySlot} (same : f (s.slot k) = g (s.slot k)) : s.updSlot k f = s.updSlot k g := by
  simp only [State.updSlot, same]

/-! ## SUBSCRIBE -/

theorem State.subscribe_takes {idx sub k : Nat} (s : State) (p : Peer) (listed : lookup idx sub ≠ none) (slot : k < 4) :
    s.subscribe p idx sub [BitVec.ofNat 8 k, 1] = ((s.updSlot k fun n => { n with peer := some p }).showTarget k (some p), St.ok, []) := by
  obtain ⟨o, row⟩ := Option.ne_none_iff_exists'.mp listed
  have index : leAt [BitVec.ofNat 8 k, 1] 0 1 = k := by
    simp only [leAt, slice, leVal, List.drop_zero, List.take_succ_cons, List.take_zero, BitVec.toNat_ofNat]
    omega
  have takes : leAt [BitVec.ofNat 8 k, 1] 1 1 = 1 := by rfl
  have inRange : ¬ (3 < k ∨ 1 < 1) := by omega
  simp only [State.subscribe, findObject_row row, index, takes, if_neg inRange]
  rfl

/-! ## Acknowledgement -/

/-- One slot at an acknowledgement: its NOTIFY of that number is done if the sender holds the slot (R58). -/
def ackSlot (p : Peer) (tid : Nat) (s : State) (k : Nat) : State :=
  if (s.slot k).peer = some p then s.updSlot k fun n => { n with out := n.out.filter fun y => y.tid != tid } else s

theorem ackSlot_holder {p : Peer} {s : State} {k : Nat} (holds : (s.slot k).peer = some p) (tid : Nat) :
    ackSlot p tid s k = s.updSlot k fun n => { n with out := n.out.filter fun y => y.tid != tid } := if_pos holds

theorem ackSlot_other {p : Peer} {s : State} {k : Nat} (other : (s.slot k).peer ≠ some p) (tid : Nat) : ackSlot p tid s k = s := if_neg other

theorem State.notifyAck_allowed {s : State} {p : Peer} (up : s.fopUp = true) (reaches : s.reaches p = true) (allowed : s.fopCount.allowed p = true)
    (tid : Nat) : s.notifyAck p tid = [0, 1, 2, 3].foldl (ackSlot p tid) (s.fopCount.updClient p fun c => { c with last := s.clk.now }) := by
  have now : s.fopCount.clk.now = s.clk.now := congrArg Clk.now (State.count_clk ..)
  simp only [State.notifyAck, up, reaches, allowed, now, Bool.not_true, Bool.or_self, Bool.false_eq_true, if_false]
  rfl

theorem ackSlots_first {s : State} {p : Peer} (holds : (s.slot 0).peer = some p) (one : (s.slot 1).peer ≠ some p) (two : (s.slot 2).peer ≠ some p)
    (three : (s.slot 3).peer ≠ some p) (tid : Nat) : [0, 1, 2, 3].foldl (ackSlot p tid) s = ackSlot p tid s 0 := by
  have kept : ∀ k, k ≠ 0 → (s.slot k).peer ≠ some p → ackSlot p tid (ackSlot p tid s 0) k = ackSlot p tid s 0 := fun k later other =>
    ackSlot_other (by rwa [ackSlot_holder holds, State.slot_updSlot_ne _ _ later]) tid
  simp only [List.foldl, kept 1 (by decide) one, kept 2 (by decide) two, kept 3 (by decide) three]

/-! ## Dropped datagrams, timers -/

theorem State.fopOther_unsound {s : State} {p : Peer} {b : Bytes} (up : s.fopUp = true) (reaches : s.reaches p = true) (bad : fopSound b = false) :
    s.fopOther p b = s.fopCount.count 0x1812 2 32 1 := by
  simp [State.fopOther, up, reaches, bad]

theorem State.clientRelease_silent {s : State} {p : Peer} {c : Client} (entry : s.client p = some c) (silent : c.last + 60000000000 ≤ s.clk.now)
    (noTransfer : (s.fop.xfers.any fun x => x.owner == p) = false) (noSlot : ([0, 1, 2, 3].any fun k => (s.slot k).peer == some p) = false) :
    s.clientRelease p = { s with fop := { s.fop with clients := s.fop.clients.filter fun c => c.peer != p } } := by
  rw [State.clientRelease, entry, noTransfer, noSlot]
  exact if_pos (by simpa using silent)

/-! ## Sending notifications -/

/-- What waits first goes out under a number that no unacknowledged NOTIFY has (R58). -/
theorem State.notifySend_waiting {s : State} {k : Nat} {p : Peer} {d : Bytes} {rest : List Bytes} (up : s.fopUp = true) (reaches : s.reaches p = true)
    (target : (s.slot k).peer = some p) (waiting : (s.slot k).waiting = d :: rest) (few : (s.slot k).out.length < 8)
    (used : ([0, 1, 2, 3].flatMap fun j => (s.slot j).out.map (·.tid)).length ≤ 32) :
    ∃ tid, tid ∉ ([0, 1, 2, 3].flatMap fun j => (s.slot j).out.map (·.tid)) ∧
      s.notifySend k = (State.updSlot { s with free := s.free + 1 } k fun _ => ⟨some p, rest, (s.slot k).out ++ [⟨tid, d, s.clk.now, 1⟩]⟩).sendNotice p tid d := by
  refine ⟨_, freeNumber_not_mem 33 s.free _ (Nat.lt_succ_of_le used) (by decide), ?_⟩
  have filled : ∀ out, State.updSlot { s with free := s.free + 1 } k (fun n => { n with waiting := rest, out := n.out ++ out }) =
      State.updSlot { s with free := s.free + 1 } k fun _ => ⟨some p, rest, (s.slot k).out ++ out⟩ := fun out =>
    State.updSlot_congr (congrArg (fun peer => (⟨peer, rest, (s.slot k).out ++ out⟩ : NotifySlot)) target)
  rw [State.notifySend, target, waiting]
  simp only [up, reaches, Nat.not_le.mpr few, decide_false, Bool.not_true, Bool.or_self, Bool.false_eq_true, if_false]
  exact congrArg (State.sendNotice · p _ d) (filled _)

theorem State.notifyResend_due {s : State} {k tid : Nat} {p : Peer} {x : Notice} (up : s.fopUp = true) (reaches : s.reaches p = true)
    (target : (s.slot k).peer = some p) (found : (s.slot k).out.find? (fun y => y.tid == tid) = some x) (due : x.sent + 100000000 ≤ s.clk.now)
    (more : x.sends < 4) :
    s.notifyResend k tid = (s.updSlot k fun n => { n with out := updWhere n.out (fun y => y.tid == tid) fun y => { y with sent := s.clk.now, sends := y.sends + 1 } }).sendNotice p tid x.desc := by
  simp [State.notifyResend, target, found, up, reaches, Nat.not_lt.mpr due, more]

/-- Settles O3: clause by clause, the command's effect in the stated case, under the one end of a command. -/
theorem clientsAndNotifications : Obligations.ClientsAndNotifications := by
  unfold Obligations.ClientsAndNotifications
  refine ⟨?_, ?_, ?_, ?_, ?_, ?_, ?_⟩
  -- SUBSCRIBE (R58)
  · intro s u m k admits counted listed slot content
    subst counted
    refine done_of_eq (State.request'_answered admits ?_)
    rw [content]
    exact State.subscribe_takes _ _ listed slot
  -- NOTIFY_ACKNOWLEDGEMENT (R51, R58)
  · intro s peer tid alive up reaches allowed holds one two three
    have slots : ∀ k, (s.fopCount.updClient peer fun c => { c with last := s.clk.now }).slot k = s.slot k := s.count_slot _ _ _ _
    simp only [← slots] at holds one two three
    refine done_of_eq ?_
    calc s.awake (fun s => s.notifyAck peer tid.toNat) = s.notifyAck peer tid.toNat := State.awake_alive alive _
      _ = _ := State.notifyAck_allowed up reaches allowed _
      _ = _ := ackSlots_first holds one two three _
      _ = _ := ackSlot_holder holds _
  -- FOP_DATAGRAM_DROPPED (R49)
  · intro s src bytes up reaches bad
    exact done_of_eq (State.fopOther_unsound up reaches bad)
  -- CLIENT_ENTRY_RELEASE (R50)
  · intro s src c alive entry silent noTransfer noSlot
    exact done_of_eq ((State.awake_alive alive _).trans (State.clientRelease_silent entry silent noTransfer noSlot))
  -- REPLY_CACHE_EXPIRY (R50)
  · intro s src tid alive
    exact done_of_eq (State.awake_alive alive _)
  -- NOTIFY_SEND (R58)
  · intro s slot n p d rest used alive up reaches this target waiting few numbers room
    subst this numbers
    obtain ⟨tid, new, sends⟩ := State.notifySend_waiting up reaches target waiting few room
    exact ⟨tid, new, done_of_eq ((State.awake_alive alive _).trans sends)⟩
  -- NOTIFY_RESEND (R58)
  · intro s slot tid p x alive up reaches target found due more
    exact done_of_eq ((State.awake_alive alive _).trans (State.notifyResend_due up reaches target found due more))

end Sys2Proof.Machine

/-! PROOFS. Event sources, settings and rings as commands move them (R38, R39, R60, R67, R69, R72): each operation in the case that its clause states. -/

namespace Sys2Proof.Machine

theorem State.serveStatus_answered {s t : State} {h : FopHead} {key status : Nat} {act : State → State × Nat} (admits : s.Admits h 2 key)
    (acts : act (s.counted h) = (t, status)) : s.serveStatus h key act = t.fopReply h (s.ownAddr h.peer) 2 key status [] := by
  rw [State.serveStatus_admits admits, acts]

/-! ## Settings (R38, R39) -/

theorem State.settingsCommand_idle {s : State} (idle : s.reg 0x0040 2 = 0) (erase : Bool) :
    s.settingsCommand erase = (if erase then s.settingsErase else s.settingsSave, St.ok) := by
  simp [State.settingsCommand, State.settingsBusy, idle]

theorem State.settingsDone_saved {s : State} (saving : s.reg 0x0040 2 = 1) :
    s.settingsDone true = ((s.putCopy s.saveTarget { s.settingsCopy s.saveTarget with valid := true }).set 0x0040 2 0).set 0x0040 4 (s.settingsCopy s.saveTarget).count := by
  simp [State.settingsDone, saving]

theorem State.settingsDone_erased {s : State} (erasing : s.reg 0x0040 2 = 2) :
    s.settingsDone true = State.set { s with copyA := Settings.none, copyB := Settings.none } 0x0040 2 0 := by
  simp [State.settingsDone, erasing]

theorem State.settingsDone_failed {s : State} (busy : s.reg 0x0040 2 = 1 ∨ s.reg 0x0040 2 = 2) : s.settingsDone false = s.set 0x0040 2 3 := by
  rcases busy with saving | erasing
  · simp [State.settingsDone, saving]
  · simp [State.settingsDone, erasing]

/-! ## Allocation and release (R67, R72) -/

theorem State.queueAllocate_room {s : State} {q k : Nat} (client : clientQueue q = true) (inactive : Ring.active s.ev q = false)
    (size : k = s.reg (0x7C00 + q) 1) (sized : k ≠ 0) (room : s.ev.ringUsed + 2 ^ k ≤ ringMemory) :
    s.queueAllocate q = (State.set { s with ev := s.ev.ringAllocate q k } (0x7C00 + q) 0x0A 0, St.ok) := by
  subst size
  simp only [State.queueAllocate, client, inactive, sized, Nat.not_lt.mpr room, Bool.not_true, Bool.false_eq_true, if_false]
  rfl

theorem State.queueRelease_empty {s : State} {q : Nat} (client : clientQueue q = true) (active : Ring.active s.ev q = true)
    (empty : Ring.held s.ev q = 0) : s.queueRelease q = (State.set { s with ev := s.ev.ringRelease q } (0x7C00 + q) 0x0A 0, St.ok) := by
  simp [State.queueRelease, client, active, empty, State.queueResult]

/-! ## Index writes (R69) -/

theorem State.producerWrite_ahead {s : State} {q v : Nat} (active : Ring.active s.ev q = true) (notBack : Ring.held s.ev q ≤ s.ahead q v)
    (within : s.ahead q v ≤ Ring.size s.ev q) : s.producerWrite q v = (s.set (0x7C00 + q) 2 v, St.ok) := by
  simp [State.producerWrite, active, notBack, within]

theorem State.consumerWrite_ahead {s : State} {q v : Nat} (active : Ring.active s.ev q = true) (within : s.ahead q v ≤ Ring.held s.ev q) :
    s.consumerWrite q v = (s.set (0x7C00 + q) 3 v, St.ok) := by
  simp [State.consumerWrite, active, within]

/-- The dictionary's row of the indices of the rings, PI in :02 and CI in :03. -/
def ringIndexRow (sub : Nat) : Obj := ⟨0x7C00, 1, 256, sub, 1, .u, 4, .rw, false, false, 0, .any⟩

theorem accessOf_producerIndex {q : BitVec 8} (software : bit (roles q.toNat) 0 = false) : accessOf (0x7C00 + q.toNat) 2 (ringIndexRow 2) = .rw := by
  have inRings : 0x7C00 ≤ 0x7C00 + q.toNat ∧ 0x7C00 + q.toNat ≤ 0x7CFF := by omega
  simp [accessOf, inRings, software]

theorem accessOf_consumerIndex {q : BitVec 8} (software : bit (roles q.toNat) 1 = false) : accessOf (0x7C00 + q.toNat) 3 (ringIndexRow 3) = .rw := by
  have inRings : 0x7C00 ≤ 0x7C00 + q.toNat ∧ 0x7C00 + q.toNat ≤ 0x7CFF := by omega
  simp [accessOf, inRings, software]

/-- No range above the event sources depends on state (R49 step 12). -/
theorem State.fitsState_above (s : State) {idx : Nat} (sub v : Nat) (above : 0x7B00 ≤ idx) : s.fitsState idx sub v = true := by
  unfold State.fitsState
  split <;> try omega
  rw [if_neg (by omega), if_neg (by omega)]

/-- Up to the ring's own check nothing stands against an index that software may write. -/
theorem State.writeScalar_ringIndex {sub v : Nat} {q : BitVec 8} (s : State) (row : lookup (0x7C00 + q.toNat) sub = some (ringIndexRow sub))
    (software : accessOf (0x7C00 + q.toNat) sub (ringIndexRow sub) = .rw) (index : sub = 2 ∨ sub = 3) :
    s.writeScalar (0x7C00 + q.toNat) sub v = if sub = 2 then s.producerWrite q.toNat v else s.consumerWrite q.toNat v := by
  have range : inRange (ringIndexRow sub) v = true := rfl
  have needs : needsIdle (0x7C00 + q.toNat) sub (ringIndexRow sub) = false := by
    simp [needsIdle, software]
    omega
  have free : s.crcBusy (0x7C00 + q.toNat) sub = false := by
    simp [State.crcBusy]
    omega
  have fits : s.fitsState (0x7C00 + q.toNat) sub v = true := s.fitsState_above sub v (by omega)
  have inRings : 0x7C00 ≤ 0x7C00 + q.toNat ∧ 0x7C00 + q.toNat < 0x7D00 := by omega
  rcases index with rfl | rfl <;> simp [State.writeScalar, row, range, needs, free, fits, inRings]

/-- An admitted write of an index that software may write comes to the ring's own check. -/
theorem State.wrote_ringIndex {s t : State} {h : FopHead} {q : BitVec 8} {sub : Nat} {v : BitVec 32}
    (admits : s.Admits h 2 (obj (0x7C00 + q.toNat) sub)) (row : lookup (0x7C00 + q.toNat) sub = some (ringIndexRow sub))
    (software : accessOf (0x7C00 + q.toNat) sub (ringIndexRow sub) = .rw) (index : sub = 2 ∨ sub = 3)
    (accepts : (if sub = 2 then (s.counted h).producerWrite q.toNat v.toNat else (s.counted h).consumerWrite q.toNat v.toNat) = (t, St.ok)) :
    s.wrote h (0x7C00 + q.toNat) sub 4 v.toNat = t.fopReply h (s.ownAddr h.peer) 2 (obj (0x7C00 + q.toNat) sub) St.ok [] := by
  have width : v.toNat < 256 ^ (ringIndexRow sub).size := v.isLt
  have reaches := State.wrote_scalar admits row (by simp [software]) (by omega) (by simp [ringIndexRow]) (by simp [ringIndexRow]) width
  rw [State.writeScalar_ringIndex _ row software index, accepts] at reaches
  exact reaches

/-- Settles O4: clause by clause, the command's effect in the stated case, under the one end of a command. -/
theorem eventsSettingsAndRings : Obligations.EventsSettingsAndRings := by
  unfold Obligations.EventsSettingsAndRings
  refine ⟨?_, ?_, ?_, ?_, ?_, ?_, ?_, ?_, ?_, ?_⟩
  -- EVENT_CLEAR (R60, R61)
  · intro s u h n admits counted
    subst counted
    exact done_of_eq (State.serveCmd_accepted admits rfl)
  -- SETTINGS_SAVE (R38)
  · intro s u h admits counted idle
    subst counted
    exact done_of_eq (State.serveStatus_answered admits (State.settingsCommand_idle idle false))
  -- SETTINGS_ERASE (R39)
  · intro s u h admits counted idle
    subst counted
    exact done_of_eq (State.serveStatus_answered admits (State.settingsCommand_idle idle true))
  -- SETTINGS_OPERATION_COMPLETE of a save, of an erase, and with a flash error (R39)
  · intro s alive saving
    exact done_of_eq ((State.awake_alive alive _).trans (State.settingsDone_saved saving))
  · intro s alive erasing
    exact done_of_eq ((State.awake_alive alive _).trans (State.settingsDone_erased erasing))
  · intro s alive busy
    exact done_of_eq ((State.awake_alive alive _).trans (State.settingsDone_failed busy))
  -- QUEUE_ALLOCATE (R67, R72)
  · intro s u h q k admits counted client inactive size sized room
    subst counted
    exact done_of_eq (State.serveStatus_answered admits (State.queueAllocate_room client inactive size sized room))
  -- QUEUE_RELEASE (R72)
  · intro s u h q admits counted client active empty
    subst counted
    exact done_of_eq (State.serveStatus_answered admits (State.queueRelease_empty client active empty))
  -- PRODUCER_INDEX_WRITE (R69)
  · intro s u h q v admits counted software active notBack within
    subst counted
    exact done_of_eq (State.wrote_ringIndex admits (lookup_ring2 q) (accessOf_producerIndex software) (.inl rfl)
      (State.producerWrite_ahead active notBack within))
  -- CONSUMER_INDEX_WRITE (R69)
  · intro s u h q v admits counted software active within
    subst counted
    exact done_of_eq (State.wrote_ringIndex admits (lookup_ring3 q) (accessOf_consumerIndex software) (.inr rfl)
      (State.consumerWrite_ahead active within))

end Sys2Proof.Machine

/-! PROOFS. Host ports, field ports and the tile codec (R46, R102, R103, R151 to R159, R168): each operation in the case that its clause states. -/

namespace Sys2Proof.Machine

/-! ## Host ports (R102) -/

theorem State.heTo_change {s : State} {he st : Nat} (change : s.heState he ≠ st) :
    s.heTo he st = (((s.set 0x5000 (3 + he) st).raise (72 + he) 0 st).setReady (3 + he) (decide (3 ≤ st))).sessionReady := if_neg change

theorem State.hostLink_reached {s : State} {he st : Nat} (alive : s.alive = true) (reaches : modeReaches (s.reg 0x5000 (1 + he)) st = true) :
    s.hostLink he st = s.heTo he st := if_pos (by simp [alive, reaches])

theorem State.hostMode_change {s : State} {he v : Nat} (alive : s.alive = true) (change : s.reg 0x5000 (1 + he) ≠ v) :
    s.hostMode he v = ((s.set 0x5000 (1 + he) v).heTo he 0).heStart he := if_neg (by simp [alive, change])

/-- The dictionary's row of a host port's mode. -/
def hostModeRow (he : Nat) : Obj := ⟨0x5000, 1, 1, 1 + he, 1, .u, 1, .rw, true, false, 1, .span 0 7⟩

theorem lookup_hostMode (he : Fin 2) : lookup 0x5000 (1 + he.val) = some (hostModeRow he) := by
  fin_cases he <;> rfl

theorem State.put'_hostMode (s : State) (he : Fin 2) (v : Nat) : s.put' 0x5000 (1 + he.val) v = s.hostMode he v := by
  fin_cases he <;> rfl

/-- An admitted write of a mode in range is taken, and the port changes to it (R102). -/
theorem State.wrote_hostMode {s : State} {h : FopHead} {he : Fin 2} {v : BitVec 8} (admits : s.Admits h 2 (obj 0x5000 (1 + he.val))) (range : v.toNat ≤ 7) :
    s.wrote h 0x5000 (1 + he.val) 1 v.toNat = ((s.counted h).hostMode he v.toNat).fopReply h (s.ownAddr h.peer) 2 (obj 0x5000 (1 + he.val)) St.ok [] := by
  have taken : (s.counted h).writeScalar 0x5000 (1 + he.val) v.toNat = ((s.counted h).hostMode he v.toNat, St.ok) := by
    rw [← State.put'_hostMode]
    exact State.writeScalar_put _ (lookup_hostMode he) (by simp [inRange, hostModeRow, range]) rfl rfl (by simp [State.fitsState]) (.inl (by decide))
  have reaches := State.wrote_scalar admits (lookup_hostMode he) (by simp [accessOf, hostModeRow]) (by decide) (by simp [hostModeRow]) (by simp [hostModeRow]) v.isLt
  rwa [taken] at reaches

/-! ## ARP and neighbour discovery (R103) -/

theorem State.arp_own {s : State} {port mac ip target : Nat} (host : port < 2) (up : s.heUp port = true) (own : s.reg 0x5002 (1 + 2 * port) = target)
    (configured : target ≠ 0) : s.arp port mac ip target = s.send (.hostFrame port) (arpReply (Config.macHe port).toNat target mac ip) := by
  simp [State.arp, host, up, own, configured]

theorem State.neighbour_own {s : State} {he mac src target : Nat} (up : s.heUp he = true) (own : beVal (s.bytes 0x5003 (1 + he) 0 16) = target)
    (configured : target ≠ 0) :
    s.neighbour he mac src target = s.send (.hostFrame he) (neighbourAdvert (Config.macHe he).toNat target mac src) := by
  simp [State.neighbour, up, own, configured]

/-! ## Field network (R46) -/

theorem State.fieldLink_alive {s : State} {fn st : Nat} (alive : s.alive = true) (code : st ≤ 4) :
    s.fieldLink fn st = ((s.set 0x1800 (1 + fn) st).fopReady).motCheck := by
  simp [State.fieldLink, alive, Nat.not_lt.mpr code]

theorem State.passThrough_multicast {s : State} {fn dst : Nat} {frame : Bytes} (alive : s.alive = true) (on : s.flag 0x1804 0 = true)
    (here : s.fnUp fn = true) (there : s.fnUp (1 - fn) = true) (group : bit dst 40 = true) :
    s.passThrough fn dst frame = s.send (.frame (1 - fn)) frame := by
  simp [State.passThrough, alive, on, here, there, group]

/-! ## Decoders (R151, R155, R156, R168) -/

theorem State.evict_room {s : State} {need : Nat} (room : s.cacheUsed + need ≤ s.cacheSize) (fuel : Nat) : s.evict need fuel = s := by
  cases fuel with
  | zero => rfl
  | succ fuel => exact if_pos room

/-- A good block whose samples fit the cache as it stands: the tile is resident, and the decoder takes the next (R168). -/
theorem State.decodeDone_fits {s w : State} {d : Nat} {x : Decoder} {o : StashObj} {v : List (List Nat)} (working : s.decoder d = some x)
    (object : s.jobs.obj x.tile.ns x.tile.obj = some o)
    (decoded : Qtc.decodeFrom (o.tileDim x.tile.tile).1 (o.tileDim x.tile.tile).2 o.ch o.depth (sget Tile.none o.tiles x.tile.tile).block x.walk = .inr v)
    (room : s.cacheUsed + s.jobs.tileBytes x.tile ≤ s.cacheSize)
    (filled : w = State.count { s with render := { s.render with cache := s.render.cache ++ [⟨x.tile, s.wantedBy x.tile, 0, s.jobs.tileBytes x.tile⟩] } } 0x5800 1 64 1) :
    s.decodeDone d false = State.feedDecoders { w with render := { w.render with decoders := sset none w.render.decoders d none } } := by
  subst filled
  simp only [State.decodeDone, working, object, decoded, State.evict_room room, if_pos room, Bool.false_eq_true, if_false]

theorem State.decodeDone_deleted {s : State} {d : Nat} {x : Decoder} (working : s.decoder d = some x) (deleted : s.jobs.obj x.tile.ns x.tile.obj = none)
    (bad : Bool) : s.decodeDone d bad = State.feedDecoders { s with render := { s.render with decoders := sset none s.render.decoders d none } } := by
  simp only [State.decodeDone, working, deleted]

theorem State.inputStall_stands {s : State} {d words : Nat} {x : Decoder} {k : Qtc.Block} {w : Qtc.Walk} (working : s.decoder d = some x)
    (block : s.blockOf x.tile = some k) (onward : x.words ≤ words) (more : 64 * words < 8 * k.payload.length)
    (resumed : k.resume (64 * words) k.samples x.walk = .inr w) (unfinished : w.written k < k.samples) :
    s.inputStall d words = s.stalled d 5 x words w := by
  have stands : ¬ (words < x.words ∨ 8 * k.payload.length ≤ 64 * words) := by omega
  simp only [State.inputStall, working, block, if_neg stands, resumed, if_pos unfinished]

theorem State.outputStall_stands {s : State} {d samples words : Nat} {x : Decoder} {k : Qtc.Block} {w : Qtc.Walk} (working : s.decoder d = some x)
    (block : s.blockOf x.tile = some k) (onward : x.words ≤ words) (written : x.walk.written k ≤ samples) (unfinished : samples < k.samples)
    (resumed : k.resume (64 * words) samples x.walk = .inr w) (there : w.written k = samples) (view : 64 * words ≤ w.pos + 128) :
    s.outputStall d samples words = s.stalled d 4 x words w := by
  have stands : ¬ (words < x.words ∨ samples < x.walk.written k ∨ k.samples ≤ samples) := by omega
  simp only [State.outputStall, working, block, if_neg stands, resumed, if_pos (And.intro there view)]

/-! ## Encoders (R125, R159) -/

/-- An encoder with a raw tile of an object that is there: its block stands in the tile, and its session's request goes on (R125). -/
theorem State.encodeDone_raw {s u : State} {e : Nat} {j : Encoder} {t : TileRef} {o : StashObj} {blk : Bytes} (working : sget none s.render.encoders e = some j)
    (raw : j.raw = some t) (freed : u = { s with render := { s.render with encoders := sset none s.render.encoders e none } })
    (object : s.jobs.obj t.ns t.obj = some o)
    (encoded : blk = Qtc.encode ⟨j.t1, j.t2, j.copy, j.minLen, j.stored⟩ (o.tileDim t.tile).1 (o.tileDim t.tile).2 o.depth
      (Qtc.planesOf (o.tileDim t.tile).1 (o.tileDim t.tile).2 o.ch
        (Qtc.samplesOf o.depth ((o.tileDim t.tile).1 * (o.tileDim t.tile).2 * o.ch) (sget Tile.none o.tiles t.tile).bytes))) :
    s.encodeDone e = (((u.updTile t.ns t.obj t.tile fun x => { x with block := blk }).updSess j.sess fun x => { x with codecDone := true }).encoded
      ((o.tileDim t.tile).1 * (o.tileDim t.tile).2 * o.ch) blk.length).feedEncoders := by
  subst freed encoded
  simp only [State.encodeDone, working, raw, object]

/-- Settles O11: clause by clause, the command's effect in the stated case, under the one end of a command. -/
theorem networkPortsAndCodec : Obligations.NetworkPortsAndCodec := by
  unfold Obligations.NetworkPortsAndCodec
  refine ⟨?_, ?_, ?_, ?_, ?_, ?_, ?_, ?_, ?_, ?_, ?_⟩
  -- HOST_MODE_WRITE (R102)
  · intro s u h he v admits counted range alive change
    subst counted
    exact done_of_eq ((State.wrote_hostMode admits range).trans (by rw [State.hostMode_change alive change]))
  -- HOST_LINK_CHANGE (R102)
  · intro s he link alive reaches change
    exact done_of_eq ((State.hostLink_reached alive reaches).trans (State.heTo_change change))
  -- ARP_REQUEST (R103)
  · intro s port mac ip target host up own configured
    exact done_of_eq (State.arp_own host up own (BitVec.toNat_ne_iff_ne.mpr configured))
  -- NEIGHBOUR_DISCOVERY (R103)
  · intro s he mac src target alive up own configured
    exact done_of_eq ((State.awake_alive alive _).trans (State.neighbour_own up own (BitVec.toNat_ne_iff_ne.mpr configured)))
  -- FIELD_LINK_CHANGE (R46)
  · intro s fn link alive code
    exact done_of_eq (State.fieldLink_alive alive code)
  -- PASS_THROUGH_FORWARD (R46)
  · intro s fn dst frame alive on here there group
    exact done_of_eq (State.passThrough_multicast alive on here there group)
  -- DECODE_COMPLETE: the samples fit the cache; the object is gone (R151, R168)
  · intro s w d x t o v alive working tile object decoded room filled
    subst tile
    exact done_of_eq ((State.awake_alive alive _).trans (State.decodeDone_fits working object decoded room filled))
  · intro s d x alive working deleted
    exact done_of_eq ((State.awake_alive alive _).trans (State.decodeDone_deleted working deleted false))
  -- INPUT_STALL_RESUME (R155)
  · intro s d words x k w alive working block onward more resumed unfinished
    exact done_of_eq ((State.awake_alive alive _).trans (State.inputStall_stands working block onward more resumed unfinished))
  -- OUTPUT_STALL_RESUME (R156)
  · intro s d samples words x k w alive working block onward written unfinished resumed there view
    exact done_of_eq ((State.awake_alive alive _).trans
      (State.outputStall_stands working block onward written unfinished resumed there view))
  -- ENCODE_BLOCK_COMPLETE (R125, R159)
  · intro s u e j t o blk alive working raw freed object encoded
    exact done_of_eq ((State.awake_alive alive _).trans (State.encodeDone_raw working raw freed object encoded))

end Sys2Proof.Machine

/-! PROOFS. MSP requests on groups, pages and sessions (R77, R79, R87 to R91, R97, R127, R128, R131): each operation in the case that its clause states. -/

namespace Sys2Proof.Machine

/-- A sound request of a type at the head of a session is served; then the requests behind it that need no execution are (R123). -/
theorem State.request_served {s t : State} {n ty : Nat} {x : Session} {r : Req} {act : State → Session → Req → State} (alive : s.alive = true)
    (head : s.headReq n = some (r, true)) (session : s.sess n = some x) (type : r.ty = ty) (acts : act (s.takeReq n) x r = t) :
    s.awake (fun s => s.request n (ofType ty) act) = t.stockAll n := by
  simp [State.awake_alive alive, State.request, head, session, ofType, type, acts]

section Requests
variable {s : State} {n : Nat} {x : Session} {r : Req}

/-! ## Definitions (R87, R90) -/

theorem State.groupDefine_accepted {g : Group} (ready : s.ready 7 = true) (long : 16 ≤ r.body.length)
    (sized : ¬ (0 < leAt r.body 2 2 ∧ leAt r.body 2 2 ≤ 4096 ∧ r.body.length ≠ 16 + 32 * leAt r.body 2 2))
    (sound : checkGroup r.body (s.jobs.groupUsed x.ns (leAt r.body 0 2)) = none) (parsed : g = parseGroup x.ns r.body) :
    s.groupDefine n x r =
      State.reply { s with jobs := { s.jobs with
        groups := (s.jobs.groups.filter fun (q : Group) => !(q.ns == x.ns && q.id == g.id)) ++ [g] } } n r Rs.ok 0 := by
  subst parsed
  have fits : ¬ (r.body.length < 16 ∨ _) := not_or.mpr ⟨Nat.not_lt.mpr long, sized⟩
  simp only [State.groupDefine, ready, fits, sound, Bool.not_true, Bool.false_eq_true, if_false]

theorem State.pageDefine_accepted {p : Page} (ready : s.ready 7 = true)
    (sized : r.body.length = 48 + 32 * leAt r.body 10 2 + 8 * leAt r.body 28 2) (unused : s.jobs.pageId x.ns (leAt r.body 0 4) = none)
    (sound : checkPage s.jobs x.ns r.body false (decide (s.jobs.pages.countP (fun p => !p.st.final) ≥ 4096)) = none) (made : p = s.newPage n x r.body) :
    s.pageDefine n x r =
      State.reply { s with jobs := { s.jobs with pages := s.jobs.pages ++ [p], next := nextPageNum s.jobs.next } } n r Rs.ok p.num := by
  subst made
  have fits : ¬ (r.body.length < 48 ∨ (leAt r.body 10 2 ≤ 4096 ∧ leAt r.body 28 2 ≤ 4096 ∧
      r.body.length ≠ 48 + 32 * leAt r.body 10 2 + 8 * leAt r.body 28 2)) := by omega
  simp [State.pageDefine, ready, fits, unused, sound]

/-! ## Requests on a page (R91, R127, R128) -/

theorem State.frogPage_waiting {num : Nat} {p : Page} (page : s.page num = some p) (waiting : p.st = .waiting) (origin : Nat) (fromMaster : Bool) :
    s.frogPage num origin fromMaster = (s.froggedBy num origin, true) := by
  simp only [State.frogPage, page, waiting]

section OnPage
variable {p : Page} (found : s.jobs.pageId x.ns (leAt r.body 0 4) = some p)
include found

theorem State.renderRequest_accepted {t : State} (ready : s.ready 7 = true) (sized : r.body.length = 4)
    (quota : s.linesHeld x.ns + p.len ≤ x.pageQuota) (store : chunksOf p.len ≤ s.reg 0x4800 1) (slot : s.unreserved n ≠ 0)
    (defined : p.st = .defined) (room : s.jobs.queue.length < 1024)
    (waits : t = (s.setReserved n (s.reserved n + 1)).updPage p.num fun q => { q with st := .waiting }) :
    s.renderRequest n x r =
      State.reply { t with jobs := { t.jobs with queue := s.jobs.queue ++ [p.num] } } n r Rs.ok (pageDetail p.num 1) := by
  subst waits
  simp only [State.renderRequest, ready, sized, found, Nat.not_lt.mpr quota, Nat.not_lt.mpr store, slot, defined, Nat.not_le.mpr room, Bool.not_true,
    Bool.false_eq_true, ne_eq, not_true, if_false]
  rfl

theorem State.frogRequest_waiting (ready : s.ready 7 = true) (sized : r.body.length = 4) (page : s.page p.num = some p) (waiting : p.st = .waiting) :
    s.frogRequest n x r =
      (s.froggedBy p.num 1).reply n r Rs.ok (pageDetail p.num ((s.froggedBy p.num 1).codeAfter p 10)) := by
  simp [State.frogRequest, ready, sized, found, State.frogPage_waiting page waiting, waiting]

theorem State.query_found (sized : r.body.length = 4) : s.query n x r = s.reply n r Rs.ok (pageDetail p.num p.st.code) := by
  simp [State.query, sized, found]

theorem State.readbackRequest_accepted {v : State} (ready : s.ready 7 = true) (encoders : s.ready 9 = true) (sized : r.body.length = 16)
    (port : leAt r.body 4 1 ≤ 15) (several : 0 < leAt r.body 12 4) (few : leAt r.body 12 4 ≤ 1024) (held : s.readbackHeld p.num = true)
    (inside : leAt r.body 8 4 + leAt r.body 12 4 ≤ p.len)
    (begun : v = s.updSess n fun x => { x with readback := some ⟨r.num, p.num, leAt r.body 4 1, leAt r.body 8 4, leAt r.body 12 4, 0, [], 0, false⟩ }) :
    s.readbackRequest n x r =
      State.feedEncoders { v with render := { v.render with encQueue := v.render.encQueue ++ [(n, none)] } } := by
  subst begun
  have fits : ¬ (r.body.length ≠ 16 ∨ leAt r.body 4 1 > 15 ∨ leAt r.body 12 4 = 0 ∨ leAt r.body 12 4 > 1024) := by omega
  simp only [State.readbackRequest, ready, encoders, fits, found, held, Nat.not_lt.mpr inside, Bool.not_true, Bool.or_false, Bool.false_eq_true,
    if_false, gt_iff_lt]

end OnPage

/-! ## Closing the session (R131) -/

theorem State.closeRequest_accepted (sized : r.body.length = 4) :
    s.closeRequest n x r = ((s.reply n r Rs.ok 0).sendAll n (x.window + 1)).closeSession n 1 :=
  if_neg (not_not.mpr sized)

end Requests

/-- Settles O8: each request is served, so its operation runs on the state without it in the queue, and comes to its accepting case. -/
theorem pageRequests : Obligations.PageRequests := by
  unfold Obligations.PageRequests
  refine ⟨?_, ?_, ?_, ?_, ?_, ?_, ?_⟩
  -- GROUP_DEFINE (R77, R87)
  · intro s u n x r g alive head session type taken ready long sized sound parsed
    subst taken
    exact done_of_eq (State.request_served alive head session type (State.groupDefine_accepted ready long sized sound parsed))
  -- PAGE_DEFINE (R79, R90)
  · intro s u n x r p alive head session type taken ready sized unused sound made
    subst taken
    exact done_of_eq (State.request_served alive head session type (State.pageDefine_accepted ready sized unused sound made))
  -- RENDER (R91, R127)
  · intro s u n x r p alive head session type taken ready sized found quota store slot defined room
    subst taken
    exact done_of_eq (State.request_served alive head session type
      (State.renderRequest_accepted found ready sized quota store slot defined room rfl))
  -- FROG (R91, R97)
  · intro s u n x r p alive head session type taken ready sized found page waiting
    subst taken
    exact done_of_eq (State.request_served alive head session type (State.frogRequest_waiting found ready sized page waiting))
  -- QUERY (R128)
  · intro s u n x r p alive head session type taken sized found
    subst taken
    exact done_of_eq (State.request_served alive head session type (State.query_found found sized))
  -- READBACK (R128)
  · intro s u n x r p v alive head session type taken ready encoders sized port several few found held inside begun
    subst taken
    exact done_of_eq (State.request_served alive head session type
      (State.readbackRequest_accepted found ready encoders sized port several few held inside begun))
  -- CLOSE_REQ (R131)
  · intro s u n x r alive head session type taken sized
    subst taken
    exact done_of_eq (State.request_served alive head session type (State.closeRequest_accepted sized))

end Sys2Proof.Machine

/-! PROOFS. The print queue and the page-store size in press control's hands (R97, R197); the table build, its checks, the swap and reloads (R185 to R190): each operation in the case that its clause states. -/

namespace Sys2Proof.Machine

/-! ## The print queue (R97) -/

theorem State.queueFrog_done {s : State} {p : Page} (page : s.page (s.reg 0x4881 1) = some p)
    (frogged : (s.frogPage (s.reg 0x4881 1) 2 false).2 = true) :
    s.queueFrog = ((s.frogPage (s.reg 0x4881 1) 2 false).1.set 0x4881 4 0, true) := by
  simp [State.queueFrog, page, frogged, State.printResult]

/-- A page that may move moves, before a reference page that may be passed or to the tail. -/
theorem State.queueMove_accepted {s : State} {n : Nat} {p : Page} {ref : Option Nat} (target : n = s.reg 0x4881 1) (page : s.page n = some p)
    (moves : s.movable n = true) (passable : ∀ r, ref = some r → s.movable r = true) :
    s.queueMove ref = (State.set { s with jobs := { s.jobs with queue := movedBefore s.jobs.queue n ref } } 0x4881 4 0, true) := by
  subst target
  cases ref with
  | none => simp [State.queueMove, page, moves, State.printResult]
  | some r => simp [State.queueMove, page, moves, passable r rfl, State.printResult]

/-! ## The size of the page store (R197) -/

/-- The dictionary's row of the page-store size. -/
def storeSizeRow : Obj := ⟨0x4800, 1, 1, 1, 1, .u, 4, .rwi, true, false, 256, .span 16 4294967295⟩

theorem lookup_storeSize : lookup 0x4800 1 = some storeSizeRow := rfl

/-- An admitted write of a size that the DRAM map holds is taken while no page has chunks. -/
theorem State.wrote_storeSize {s : State} {h : FopHead} {v : BitVec 32} (admits : s.Admits h 2 (obj 0x4800 1)) (least : 16 ≤ v.toNat)
    (empty : ((s.counted h).jobs.pages.all fun p => p.chunks.isEmpty) = true) (fits : (s.counted h).storeFits v.toNat = true) :
    s.wrote h 0x4800 1 4 v.toNat = ((s.counted h).storeSize v.toNat).fopReply h (s.ownAddr h.peer) 2 (obj 0x4800 1) St.ok [] := by
  have range : inRange storeSizeRow v.toNat = true := by
    have most : v.toNat ≤ 4294967295 := Nat.le_of_lt_succ v.isLt
    simp [inRange, storeSizeRow, least, most]
  have idle : (needsIdle 0x4800 1 storeSizeRow && !(s.counted h).idleFor 0x4800 1) = false := by
    have idle : (s.counted h).idleFor 0x4800 1 = true := empty
    simp [idle]
  have taken : (s.counted h).writeScalar 0x4800 1 v.toNat = ((s.counted h).storeSize v.toNat, St.ok) :=
    State.writeScalar_put _ lookup_storeSize range idle rfl fits (.inl (by decide))
  have reaches := State.wrote_scalar admits lookup_storeSize (by decide) (by decide) (by decide) (by decide) v.isLt
  rwa [taken] at reaches

/-! ## Build commands (R185) -/

section Commands
variable {s : State} (host : s.render.device = none) (free : s.tablesUnderTest = false)
include host free

theorem State.buildClone_empty (empty : s.render.buildSt = .empty) :
    s.buildClone = (State.set (State.dropUnbound { s with render := { s.render with buildSt := .cloning, device := none, retained := none } }) 0x4010 4 0,
      true) := by
  simp [State.buildClone, State.deviceOwns, host, empty, free, State.buildResult, State.cloneStart]

theorem State.buildCommit_building (building : s.render.buildSt = .building) :
    s.buildCommit = (State.set { s with render := { s.render with buildSt := .checking } } 0x4010 4 0, true) := by
  simp [State.buildCommit, State.deviceOwns, host, building, free, State.buildResult]

theorem State.buildDiscard_building (building : s.render.buildSt = .building) :
    s.buildDiscard = (State.set { s with render := { s.render with buildSt := .empty, retained := none } } 0x4010 4 0, true) := by
  simp [State.buildDiscard, State.deviceOwns, host, building, free, State.buildResult]

end Commands

/-! ## The build's own events (R185 to R188) -/

/-- The state once the active tables stand in the build (R185). -/
def State.cloned (s : State) : State :=
  State.set { s with render := { s.render with build := { s.render.active with bad := [] }, buildSt := .building } } 0x4010 4 0

theorem State.cloneDone_host {s : State} (cloning : s.render.buildSt = .cloning) (host : s.render.device = none) : s.cloneDone = s.cloned := by
  simp [State.cloneDone, State.cloned, cloning, host]

/-- The device's own build is edited and goes on to the checks (R188). -/
theorem State.cloneDone_own {s t : State} {w : BuildWhy} (cloning : s.render.buildSt = .cloning) (own : s.render.device = some w)
    (edited : t = s.cloned.deviceEdit w) : s.cloneDone = { t with render := { t.render with buildSt := .checking } } := by
  subst edited
  simp [State.cloneDone, State.cloned, cloning, own]

theorem State.checksDone_passed {s : State} (checking : s.render.buildSt = .checking) (passed : s.render.build.check s.edPlane = none) :
    s.checksDone = { s with render := { s.render with buildSt := .pending } } := by
  simp only [State.checksDone, checking, passed, ne_eq, not_true, if_false]

theorem State.checksDone_failed {s t : State} {code entry : Nat} (checking : s.render.buildSt = .checking)
    (failed : s.render.build.check s.edPlane = some (code, entry))
    (told : t = (((s.set 0x4010 4 3).set 0x4010 5 code).set 0x4010 6 entry).raise 181 0 (code + entry * 256)) :
    s.checksDone = { t with render := { t.render with buildSt := .building } } := by
  subst told
  simp only [State.checksDone, checking, failed, ne_eq, not_true, if_false]

/-- A swap of a build that is not the device's own (R185, R187, R190). -/
theorem State.swap_pending {s : State} {g : Gen} {left : List Nat} (pending : s.render.buildSt = .pending) (host : s.render.device = none)
    (between : s.render.jobs.any s.renderUnderWay = false) (next : g = { s.render.build with num := nextGen s.render.active.num })
    (stay : left = s.render.pending.filter fun j => g.jetState j == 0 || g.jetState j == 3) :
    s.swap = (State.raise { s with render := { s.render with
        active := g, retained := some s.render.active, buildSt := .empty, pending := left, holdPage := if left.isEmpty then 0 else s.render.holdPage } } 180 0
      (g.num + s.render.active.num * 65536)).dropUnbound := by
  subst next stay
  simp only [State.swap, pending, host, between, ne_eq, not_true, Bool.false_eq_true, or_self, if_false]

theorem State.deviceBuild_starts {s : State} {w : BuildWhy} (empty : s.render.buildSt = .empty) (free : s.tablesUnderTest = false)
    (wanted : s.buildWanted = some w) :
    s.deviceBuild = State.dropUnbound { s with render := { s.render with buildSt := .cloning, device := some w, retained := none } } := by
  simp [State.deviceBuild, empty, free, wanted, State.cloneStart]

/-- The device's own build that failed its checks is discarded (log entry 42). -/
theorem State.deviceBuild_discards {s : State} {w : BuildWhy} (building : s.render.buildSt = .building) (own : s.render.device = some w) :
    s.deviceBuild = { s with render := { s.render with buildSt := .empty, device := none, retained := none } } :=
  if_pos ⟨building, by simp [State.deviceOwns, own]⟩

/-! ## Reloads (R189) -/

/-- Bytes of an entry of tables 1 to 4 (R184). -/
def entryBytes (table : Nat) : Nat := match table with | 1 => 2 | 2 => 4 | _ => 8

/-- A generation with an entry marked bad. -/
def Gen.marked (g : Gen) (e : Nat × Nat) : Gen := if g.bad.contains e then g else { g with bad := g.bad ++ [e] }

section Reloads
variable {s : State} {w : TableWord} (low : 1 ≤ w.table.val) (high : w.table.val ≤ 4)
include low high

theorem table_one_to_four : w.table.val = 1 ∨ w.table.val = 2 ∨ w.table.val = 3 ∨ w.table.val = 4 := by omega

theorem State.tableReload_good :
    s.tableReload w true = s.parityError 4 (if w.retained then 0x0019 else 0xFFFF) 1 1 (entryBytes w.table.val * w.entry.toNat) 0 := by
  rcases table_one_to_four low high with table | table | table | table <;> simp [State.tableReload, entryBytes, table]

/-- An entry of the active generation that cannot be reloaded is marked bad, and E186 told. -/
theorem State.tableReload_lost {t : State} (active : w.retained = false)
    (found : t = s.parityError 4 0xFFFF 2 1 (entryBytes w.table.val * w.entry.toNat) 0) :
    s.tableReload w false = State.raiseAt { t with render := { t.render with active := t.render.active.marked (w.table.val - 1, w.entry.toNat) } } 186 3
      (s.render.active.num + w.table.val * 65536 + w.entry.toNat * 2 ^ 24) 1 1 0 0 := by
  subst found
  rcases table_one_to_four low high with table | table | table | table <;>
    simp [State.tableReload, entryBytes, Gen.marked, table, active]

end Reloads

/-- Settles O13: clause by clause, the command's effect in the stated case, under the one end of a command. -/
theorem buildsAndSwaps : Obligations.BuildsAndSwaps := by
  unfold Obligations.BuildsAndSwaps
  refine ⟨?_, ?_, ?_, ?_, ?_, ?_, ?_, ?_, ?_, ?_, ?_, ?_, ?_, ?_, ?_, ?_⟩
  -- QUEUE_FROG (R97)
  · intro s u h p admits counted page frogged
    subst counted
    exact done_of_eq (State.serveCmd_accepted admits (State.queueFrog_done page frogged))
  -- QUEUE_MOVE_BEFORE, QUEUE_MOVE_TO_TAIL (R97)
  · intro s u h n r p admits counted target reference page moves passable
    subst counted reference
    exact done_of_eq (State.serveCmd_accepted admits
      (State.queueMove_accepted target page moves fun _ same => Option.some.inj same ▸ passable))
  · intro s u h n p admits counted target page moves
    subst counted
    exact done_of_eq (State.serveCmd_accepted admits (State.queueMove_accepted target page moves nofun))
  -- PAGE_STORE_SIZE_WRITE (R197)
  · intro s u h v admits counted least empty fits
    subst counted
    exact done_of_eq (State.wrote_storeSize admits least empty fits)
  -- BUILD_CLONE, BUILD_COMMIT, BUILD_DISCARD (R185)
  · intro s u h admits counted host empty free
    subst counted
    exact done_of_eq (State.serveCmd_accepted admits (State.buildClone_empty host free empty))
  · intro s u h admits counted host building free
    subst counted
    exact done_of_eq (State.serveCmd_accepted admits (State.buildCommit_building host free building))
  · intro s u h admits counted host building free
    subst counted
    exact done_of_eq (State.serveCmd_accepted admits (State.buildDiscard_building host free building))
  -- CLONE_COMPLETE of press control's build and of the device's own (R185, R188)
  · intro s alive cloning host
    exact done_of_eq ((State.awake_alive alive _).trans (State.cloneDone_host cloning host))
  · intro s w alive cloning own
    exact ⟨_, rfl, done_of_eq ((State.awake_alive alive _).trans (State.cloneDone_own cloning own rfl))⟩
  -- COMMIT_CHECKS_COMPLETE (R185, R186)
  · intro s alive checking
    cases verdict : s.render.build.check s.edPlane with
    | none => exact done_of_eq ((State.awake_alive alive _).trans (State.checksDone_passed checking verdict))
    | some fault => exact done_of_eq ((State.awake_alive alive _).trans (State.checksDone_failed checking verdict rfl))
  -- GENERATION_SWAP (R187, R190)
  · intro s g left alive pending host between next stay
    exact done_of_eq ((State.awake_alive alive _).trans (State.swap_pending pending host between next stay))
  -- DEVICE_BUILD that starts, that discards a failed one (R188)
  · intro s w alive empty free wanted
    exact done_of_eq ((State.awake_alive alive _).trans (State.deviceBuild_starts empty free wanted))
  · intro s w alive building own
    exact done_of_eq ((State.awake_alive alive _).trans (State.deviceBuild_discards building own))
  -- CLEAR_PENDING (R190)
  · intro s u h admits counted
    subst counted
    exact done_of_eq (State.serveCmd_accepted admits rfl)
  -- TABLE_RELOAD_COMPLETE: the word is good again, is lost (R189)
  · intro s w alive low high
    exact done_of_eq ((State.awake_alive alive _).trans (State.tableReload_good low high))
  · intro s w alive low high active
    exact ⟨_, rfl, done_of_eq ((State.awake_alive alive _).trans (State.tableReload_lost low high active rfl))⟩

end Sys2Proof.Machine

/-! PROOFS. MSP requests on objects of the stash and the end of a tile's codec (R123 to R126, R159): each operation in the case that its clause states. -/

namespace Sys2Proof.Machine

/-- `State.request_served` for a request that the row wants by another test than its type. -/
theorem State.request_wanted {s t : State} {n : Nat} {x : Session} {r : Req} {want : Req → Bool} {act : State → Session → Req → State}
    (alive : s.alive = true) (head : s.headReq n = some (r, true)) (session : s.sess n = some x) (wanted : want r = true)
    (acts : act (s.takeReq n) x r = t) : s.awake (fun s => s.request n want act) = t.stockAll n := by
  simp [State.awake_alive alive, State.request, head, session, wanted, acts]

section StashRequests
variable {s : State} {n : Nat} {x : Session} {r : Req} {o : StashObj}

/-! ## Objects (R124, R125) -/

theorem State.objectCreate_accepted (ready : s.ready 8 = true) (fields : createOk r.body = true)
    (made : o = parseObject x.ns s.pairsIn (Config.choice s.fresh.1) r.body) (unused : s.jobs.obj x.ns o.id = none)
    (quota : x.charge + o.charge ≤ x.stashQuota) (room : o.charge ≤ s.stashFree) :
    s.objectCreate n x r =
      (State.updSess { s.fresh.2 with jobs := { s.jobs with stash := s.jobs.stash ++ [o] } } n fun y =>
        { y with charge := y.charge + o.charge }).reply n r Rs.ok 0 := by
  subst made
  simp only [State.objectCreate, ready, fields, unused, Nat.not_lt.mpr quota, Nat.not_lt.mpr room, Option.isSome_none, Bool.not_true,
    Bool.false_eq_true, or_self, if_false]

theorem State.objectDelete_unpinned (ready : s.ready 8 = true) (sized : r.body.length = 4) (found : s.jobs.obj x.ns (leAt r.body 0 4) = some o)
    (unpinned : s.jobs.pinned x.ns (leAt r.body 0 4) = false) :
    s.objectDelete n x r =
      (State.updSess { s with
          jobs := { s.jobs with stash := s.jobs.stash.filter fun q => !(q.ns == x.ns && q.id == leAt r.body 0 4) }
          render := { s.render with cache := s.render.cache.filter fun c => !(c.tile.ns == x.ns && c.tile.obj == leAt r.body 0 4)
                                    decQueue := s.render.decQueue.filter fun t => !(t.ns == x.ns && t.obj == leAt r.body 0 4)
                                    decoders := s.render.decoders.filter fun e => match e.2 with | some d => !(d.tile.ns == x.ns && d.tile.obj == leAt r.body 0 4) | none => true } }
        n fun y => { y with charge := y.charge - o.charge }).reply n r Rs.ok 0 := by
  simp only [State.objectDelete, ready, sized, found, unpinned, Bool.not_true, Bool.false_eq_true, ne_eq, not_true, if_false] <;> rfl

/-! ## Bytes of a tile (R125, R126) -/

/-- The state in which a tile takes bytes: EMPTY, or LOST in the REPAIR form. -/
def takesData (repair : Bool) : TileSt := if repair then .lost else .empty

/-- Bytes that leave the tile unfinished are kept, and the request is answered. -/
theorem State.objectData_unfinished {t : Tile} {i len off k : Nat} {repair : Bool} (form : bit (leAt r.body 16 1) 0 = repair)
    (tile : i = leAt r.body 4 4) (length : len = leAt r.body 8 4) (offset : off = leAt r.body 12 4) (count : k = leAt r.body 20 4)
    (ready : s.ready 8 = true) (headed : 24 ≤ r.body.length) (sized : r.body.length = (pad4 (zeros (24 + k))).length)
    (found : s.jobs.obj x.ns (leAt r.body 0 4) = some o) (inside : i < o.tileCount) (stands : t = sget Tile.none o.tiles i)
    (takes : t.st = takesData repair) (fits : o.dataFits i len off k = true) (unfinished : (patchGot off (slice r.body 24 k) t.got).length < len) :
    s.objectData n x r =
      (s.updTile x.ns (leAt r.body 0 4) i fun y =>
        { y with length := len, got := patchGot off (slice r.body 24 k) t.got, repair := repair }).reply n r Rs.ok 0 := by
  subst tile length offset count stands
  have shaped : ¬ (r.body.length < 24 ∨ r.body.length ≠ (pad4 (zeros (24 + leAt r.body 20 4))).length) := by omega
  have state : ¬ ((repair = true ∧ (sget Tile.none o.tiles (leAt r.body 4 4)).st ≠ .lost) ∨
      (repair = false ∧ (sget Tile.none o.tiles (leAt r.body 4 4)).st ≠ .empty)) := by
    cases repair <;> simp [takes, takesData]
  simp only [State.objectData, form, ready, shaped, found, ge_iff_le, Nat.not_le.mpr inside, state, fits, unfinished, Bool.not_true,
    Bool.false_eq_true, if_false, if_true]

/-! ## End of a tile's codec (R125, R126, R159) -/

section Codec
variable {id i num : Nat} {t : Tile} (session : s.sess n = some x) (coding : x.codec = some (id, i, num)) (ready : s.ready 9 = true)
  (found : s.jobs.obj x.ns id = some o) (stands : t = sget Tile.none o.tiles i)
include session coding ready found stands

theorem State.tileCodec_raw (raw : o.raw = true) (encoded : x.codecDone = true) :
    s.tileCodec n = (s.tileDone n x o i t t.block).codecReply n num Rs.ok 0 := by
  subst stands
  simp only [State.tileCodec, session, coding, ready, found, raw, encoded, Bool.true_eq_false, if_false, if_true]

theorem State.tileCodec_broken {e : Qtc.Err} (coded : o.raw = false) (free : s.decoderFree = true)
    (broken : Qtc.decode (o.tileDim i).1 (o.tileDim i).2 o.ch o.depth t.bytes = .inl e) :
    s.tileCodec n =
      (((s.bump 0x5800 2).set 0x5800 3 e.detail).updTile x.ns id i fun t =>
        if t.repair then { t with got := [], repair := false } else Tile.none).codecReply n num Rs.codec e.detail := by
  subst stands
  simp only [State.tileCodec, session, coding, ready, found, coded, free, broken, Bool.true_eq_false, Bool.false_eq_true, Bool.not_true, if_false]

theorem State.tileCodec_decoded {d : List (List Nat)} (coded : o.raw = false) (free : s.decoderFree = true)
    (decoded : Qtc.decode (o.tileDim i).1 (o.tileDim i).2 o.ch o.depth t.bytes = .inr d) :
    s.tileCodec n = ((s.count 0x5800 1 64 1).tileDone n x o i t t.bytes).codecReply n num Rs.ok 0 := by
  subst stands
  simp only [State.tileCodec, session, coding, ready, found, coded, free, decoded, Bool.true_eq_false, Bool.false_eq_true, Bool.not_true, if_false]

end Codec
end StashRequests

/-- Settles O7: each request is served on the state without it in the queue, and each operation comes to its accepting case. -/
theorem stashRequests : Obligations.StashRequests := by
  unfold Obligations.StashRequests
  refine ⟨?_, ?_, ?_, ?_, ?_, ?_, ?_⟩
  -- OBJECT_CREATE (R124)
  · intro s u n x r o alive head session type taken ready fields made unused quota room
    subst taken
    exact done_of_eq (State.request_served alive head session type (State.objectCreate_accepted ready fields made unused quota room))
  -- OBJECT_DATA that leaves its tile unfinished (R125)
  · intro s u n x r o t i len off k alive head session type form taken tile length offset count ready headed sized found inside stands takes fits unfinished
    subst taken
    exact done_of_eq (State.request_wanted alive head session (by simp [ofData, type, form])
      (State.objectData_unfinished form tile length offset count ready headed sized found inside stands takes fits unfinished))
  -- OBJECT_DATA_REPAIR that leaves its tile unfinished (R126)
  · intro s u n x r o t i len off k alive head session type form taken tile length offset count ready headed sized found inside stands takes fits unfinished
    subst taken
    exact done_of_eq (State.request_wanted alive head session (by simp [ofData, type, form])
      (State.objectData_unfinished form tile length offset count ready headed sized found inside stands takes fits unfinished))
  -- OBJECT_DELETE (R125)
  · intro s u n x r o alive head session type taken ready sized found unpinned
    subst taken
    exact done_of_eq (State.request_served alive head session type (State.objectDelete_unpinned ready sized found unpinned))
  -- TILE_CODEC_COMPLETE: the block of a raw tile, bad QTC, good QTC (R125, R126, R159)
  · intro s n x o id i num t alive session coding ready found stands raw encoded
    exact done_of_eq ((State.awake_alive alive _).trans (State.tileCodec_raw session coding ready found stands raw encoded))
  · intro s n x o id i num t e alive session coding ready found stands coded free broken
    exact done_of_eq ((State.awake_alive alive _).trans (State.tileCodec_broken session coding ready found stands coded free broken))
  · intro s n x o id i num t d alive session coding ready found stands coded free decoded
    exact done_of_eq ((State.awake_alive alive _).trans (State.tileCodec_decoded session coding ready found stands coded free decoded))

end Sys2Proof.Machine

/-! PROOFS. Session packets, acknowledgement, retransmission, keep-alive, close and completions (R105 to R114, R118, R120, R130 to R134): each operation in the case that its clause states. -/

namespace Sys2Proof.Machine

/-! ## A packet of an open session (R107, R110) -/

/-- A packet without records of an open session is taken by that session. -/
theorem State.packetIn_session {s : State} {pk : MspPacket} {n : Nat} {x : Session} (heard : s.mspSilent pk = false) (length : pk.payload.length = 40)
    (magic : leAt pk.payload 0 2 = 0x534D) (sum : crc32c (pk.payload.take 36) = leAt pk.payload 36 4) (version : leAt pk.payload 2 1 = 1)
    (unsequenced : leAt pk.payload 5 1 = 0) (number : n = leAt pk.payload 4 1) (noOpen : n ≠ 0xFF) (session : s.sess n = some x) (isOpen : x.st = 1)
    (token : x.token = leAt pk.payload 8 4) :
    s.packetIn pk = s.sessionIn n ⟨pk.he, pk.peer⟩ pk.payload [] (pk.lost.map fun e => (e.1.toNat, e.2)) := by
  subst number
  have noRecords : pk.payload.drop 40 = [] := List.drop_eq_nil_of_le (Nat.le_of_eq length)
  have empty : parseRecords 1 [] = some [] := rfl
  simp [State.packetIn, heard, length, magic, sum, noRecords, empty, unsequenced, noOpen, version, session, isOpen, token]

/-- An unsequenced packet refreshes its session, frees the session's pending entry and gives its acknowledgement. -/
theorem State.sessionIn_unsequenced {s u : State} {n : Nat} {src : HostAddr} {b recs : Bytes} {lost : List (Nat × LostAt)} (unsequenced : leAt b 5 1 = 0)
    (refreshed : u = s.updSess n fun y => { y with lastRx := s.clk.now, peer := src }) :
    s.sessionIn n src b recs lost =
      State.ackIn { u with msp := { u.msp with opening := u.msp.opening.filter fun o => o.sess != some n } } n
        (leAt b 16 4) (leAt b 20 4) (leAt b 24 4) := by
  subst refreshed
  exact if_pos unsequenced

section Sessions
variable {s : State} {n : Nat} {x : Session} (session : s.sess n = some x)
include session

/-! ## Acknowledgement, retransmission (R110, R112) -/

theorem State.ackOnly_session : s.ackOnly n = s.sendToHost n 0 0 x.txNext [] := by
  simp only [State.ackOnly, session]

theorem State.ackTimer_due {t : Nat} (due : x.ackDue = some t) (now : t ≤ s.clk.now) : s.ackTimer n = s.sendToHost n 0 0 x.txNext [] := by
  simp only [State.ackTimer, session, Option.bind_some, due, now, if_true, State.ackOnly_session session]

theorem State.retransmit_due {p : Sent} {psn : Nat} (isOpen : x.st = 1) (flies : x.flight.find? (fun p => p.psn == psn) = some p)
    (unmarked : p.marked = false) (due : p.sent + p.rto ≤ s.clk.now) (again : p.resends < s.reg 0x5020 3) :
    s.retransmit n psn =
      ((s.sendToHost n 1 p.count p.psn p.recs).bump (0x5030 + n) 7).updSess n fun x => x.updSent psn fun q =>
        { q with sent := s.clk.now, resends := q.resends + 1, rto := min 64000000 (2 * q.rto) } := by
  simp [State.retransmit, State.resend, session, flies, isOpen, unmarked, Nat.not_lt.mpr due, Nat.not_le.mpr again]

/-! ## Keep-alive, close (R130 to R132) -/

theorem State.keepAlive_due (isOpen : x.st = 1) (silent : x.lastRx + x.keepMs * 1000000 ≤ s.clk.now) : s.keepAlive n = s.closeSession n 2 := by
  simp only [State.keepAlive, session, isOpen, silent, and_self, if_true]

theorem State.idleAck_due (isOpen : x.st = 1) (quiet : x.quiet + x.keepMs * 250000 ≤ s.clk.now) : s.idleAck n = s.sendToHost n 0 0 x.txNext [] := by
  simp only [State.idleAck, session, isOpen, quiet, and_self, if_true, State.ackOnly_session session]

theorem State.pressClose_session : s.pressClose n = (s.closeSession n 5, true) := by
  simp only [State.pressClose, session]

theorem State.closeResend_due (isClosing : x.st = 2) (owed : x.closing ≠ 0) (due : x.closeAt ≤ s.clk.now) :
    s.closeResend n = ((s.sendClose n).updSess n fun y => { y with closing := y.closing - 1, closeAt := y.closeAt + 1000000 }).closeComplete n := by
  simp only [State.closeResend, session, isClosing, owed, Nat.not_lt.mpr due, ne_eq, not_true, or_self, if_false]

/-! ## Completions (R114) -/

theorem State.completionSend_allowed (allowed : s.maySend n = true) :
    s.completionSend n =
      (s.sendToHost n 0 1 x.txNext (s.completionRecord n x.compSend)).updSess n fun y => { y with
        txNext := wrapAdd 32 y.txNext 1, compSend := wrapAdd 32 x.compSend 1
        flight := y.flight ++ [⟨y.txNext, s.completionRecord n x.compSend, 1, wrapAdd 32 x.compSend 1, s.clk.now, y.rto, 0, false, false⟩] } := by
  simp only [State.completionSend, session, allowed, Bool.not_true, Bool.false_eq_true, if_false]

end Sessions

/-! ## Pending entries, locks, credentials (R118, R120, R134) -/

theorem State.pendingExpiry_unaccepted {s : State} {handle : Nat} {o : Opening} (entry : s.msp.opening.find? (fun o => o.handle == handle) = some o)
    (expired : o.live s.clk.now = false) (unaccepted : o.sess = none) :
    s.pendingExpiry handle = { s with msp := { s.msp with opening := s.msp.opening.filter fun e => e.handle != handle } } := by
  simp only [State.pendingExpiry, entry, expired, unaccepted, Bool.false_eq_true, if_false]

theorem State.lockExpiry_due {s : State} {slot t : Nat} (isLocked : sget none s.msp.locked slot = some t) (due : t ≤ s.clk.now) :
    s.lockExpiry slot = { s with msp := { s.msp with locked := sset none s.msp.locked slot none } } := by
  simp only [State.lockExpiry, isLocked, due, if_true]

/-- The dictionary's row of a credential slot's enable. -/
def credentialEnableRow : Obj := ⟨0x5010, 1, 16, 2, 1, .b, 1, .rw, true, false, 0, .any⟩

theorem lookup_credentialEnable (slot : Fin 16) : lookup (0x5010 + slot.val) 2 = some credentialEnableRow := by
  fin_cases slot <;> rfl

theorem State.put'_credentialEnable (s : State) (slot : Fin 16) (v : Nat) : s.put' (0x5010 + slot.val) 2 v = s.credEnable slot v := by
  fin_cases slot <;> rfl

/-- An admitted write of a slot's enable is taken. -/
theorem State.wrote_credentialEnable {s : State} {h : FopHead} {slot : Fin 16} {v : Nat} (admits : s.Admits h 2 (obj (0x5010 + slot.val) 2))
    (range : v ≤ 1) :
    s.wrote h (0x5010 + slot.val) 2 1 v = ((s.counted h).credEnable slot v).fopReply h (s.ownAddr h.peer) 2 (obj (0x5010 + slot.val) 2) St.ok [] := by
  have row := lookup_credentialEnable slot
  have taken : (s.counted h).writeScalar (0x5010 + slot.val) 2 v = ((s.counted h).credEnable slot v, St.ok) := by
    rw [← State.put'_credentialEnable]
    refine State.writeScalar_put _ row (by simp [inRange, credentialEnableRow, range]) ?_ ?_ ?_ (.inl (by omega))
    all_goals fin_cases slot <;> rfl
  have writable : accessOf (0x5010 + slot.val) 2 credentialEnableRow ≠ .ro := by fin_cases slot <;> decide
  have reaches := State.wrote_scalar admits row writable (by omega) (by decide) (by decide) (show v < 256 ^ 1 by omega)
  rwa [taken] at reaches

/-- Settles O9: clause by clause, the operation in the stated case, under the one end of a command. -/
theorem sessionTimersAndPackets : Obligations.SessionTimersAndPackets := by
  unfold Obligations.SessionTimersAndPackets
  refine ⟨?_, ?_, ?_, ?_, ?_, ?_, ?_, ?_, ?_, ?_, ?_⟩
  -- MSP_PACKET without records (R107, R110)
  · intro s u pk n x b alive heard payload length magic sum version unsequenced number noOpen session isOpen token refreshed
    subst payload
    exact done_of_eq ((State.awake_alive alive _).trans
      ((State.packetIn_session heard length magic sum version unsequenced number noOpen session isOpen token).trans
        (State.sessionIn_unsequenced unsequenced refreshed)))
  -- ACK_TIMER (R112)
  · intro s n x t alive session due now
    exact done_of_eq ((State.awake_alive alive _).trans (State.ackTimer_due session due now))
  -- RETRANSMIT_TIMEOUT (R112)
  · intro s n psn x p alive session isOpen flies unmarked due again
    exact done_of_eq ((State.awake_alive alive _).trans (State.retransmit_due session isOpen flies unmarked due again))
  -- KEEP_ALIVE_TIMEOUT (R130)
  · intro s n x alive session isOpen silent
    exact done_of_eq ((State.awake_alive alive _).trans (State.keepAlive_due session isOpen silent))
  -- IDLE_ACK_SEND (R130)
  · intro s n x alive session isOpen quiet
    exact done_of_eq ((State.awake_alive alive _).trans (State.idleAck_due session isOpen quiet))
  -- PENDING_ENTRY_EXPIRY (R118)
  · intro s handle o alive entry expired unaccepted
    exact done_of_eq ((State.awake_alive alive _).trans (State.pendingExpiry_unaccepted entry expired unaccepted))
  -- SLOT_LOCK_EXPIRY (R120)
  · intro s slot t alive isLocked due
    exact done_of_eq ((State.awake_alive alive _).trans (State.lockExpiry_due isLocked due))
  -- SESSION_CLOSE_COMMAND (R131)
  · intro s u h n x admits counted session
    subst counted
    exact done_of_eq (State.serveCmd_accepted admits (State.pressClose_session session))
  -- CREDENTIAL_ENABLE_WRITE of 1 (R134)
  · intro s u h slot admits counted
    subst counted
    exact done_of_eq (State.wrote_credentialEnable admits (Nat.le_refl 1))
  -- CLOSE_RESEND (R131)
  · intro s n x alive session isClosing owed due
    exact done_of_eq ((State.awake_alive alive _).trans (State.closeResend_due session isClosing owed due))
  -- COMPLETION_SEND (R114)
  · intro s n x alive session allowed
    exact done_of_eq ((State.awake_alive alive _).trans (State.completionSend_allowed session allowed))

end Sys2Proof.Machine

/-! PROOFS. OPEN and PROOF (R105, R109, R118 to R122): the packet's way to its operation, and the operation where nothing refuses. -/

namespace Sys2Proof.Machine

/-- A sound open packet of version 1 with one record is handled by the record's type (R109). -/
theorem State.packetIn_open {s : State} {pk : MspPacket} {r : MspRec} (heard : s.mspSilent pk = false) (long : 40 ≤ pk.payload.length)
    (magic : leAt pk.payload 0 2 = 0x534D) (sum : crc32c (pk.payload.take 36) = leAt pk.payload 36 4) (version : leAt pk.payload 2 1 = 1)
    (noSession : leAt pk.payload 4 1 = 0xFF) (count : leAt pk.payload 5 1 = 1) (noToken : leAt pk.payload 8 4 = 0) (noPsn : leAt pk.payload 12 4 = 0)
    (noAck : leAt pk.payload 16 4 = 0) (parsed : parseRecords ((pk.payload.drop 40).length + 1) (pk.payload.drop 40) = some [r]) :
    s.packetIn pk =
      if r.ty = 1 then s.openIn ⟨pk.he, pk.peer⟩ 1 r.body else if r.ty = 3 then s.proofIn ⟨pk.he, pk.peer⟩ r.body else s.mspDrop := by
  have sound : ¬ (pk.payload.length < 40 ∨ leAt pk.payload 0 2 ≠ 0x534D ∨ crc32c (pk.payload.take 36) ≠ leAt pk.payload 36 4) := by
    simp [long, magic, sum]
  simp only [State.packetIn, heard, sound, parsed, count, noSession, noToken, noPsn, noAck, version, List.length_singleton, Bool.false_eq_true,
    ne_eq, not_true, or_self, and_true, if_false, if_true]

theorem State.openPacket_single {s : State} {pk : MspPacket} {r : MspRec} {ty : Nat} (single : parseRecords 2 (pk.payload.drop 40) = some [r])
    (type : r.ty = ty) : s.openPacket ty pk = s.packetIn pk := by
  simp only [State.openPacket, single, type, if_true]

/-- An OPEN that nothing refuses makes the first pending entry and is answered with its CHALLENGE (R118). -/
theorem State.openIn_accepted {s : State} {src : HostAddr} {b nonce : Bytes} (version : leAt b 1 1 = 1) (noEntry : s.msp.opening = [])
    (accepts : s.openRefused 1 (leAt b 0 1) (leAt b 2 1) (leAt b 3 1) = none) (given : nonce = fit 16 (slice b 8 16)) :
    ∃ (hnd : Nat) (dev : Bytes), dev.length = 16 ∧ s.openIn src 1 b =
      State.sendOpen { s with free := s.free + 2, msp := { s.msp with opening := [⟨hnd, src, leAt b 0 1, leAt b 2 1, leAt b 3 1, nonce, dev, s.clk.now, none, [], none⟩] } }
        src 2 (leBytes 4 hnd ++ zeros 4 ++ nonce ++ dev) := by
  subst given
  refine ⟨freshHandle [] (Config.choice (s.free + 1)), leBytes 16 (Config.random s.free), length_leBytes .., ?_⟩
  simp [State.openIn, State.fresh, noEntry, version, accepts]

/-- A PROOF with the right tag that nothing refuses allocates the session (R118, R120). -/
theorem State.proofIn_accepted {s : State} {src : HostAddr} {b : Bytes} {o : Opening}
    (entry : s.msp.opening.find? (fun o => o.handle == leAt b 0 4 && o.live s.clk.now && o.src.peer == src.peer) = some o) (first : o.proof = none)
    (tag : fit 32 (slice b 8 32) = hmac (s.slotKey o.slot) ([0x4D, 0x53, 0x50, 0x31] ++ o.signed)) (accepts : s.proofRefused o = none) :
    s.proofIn src b = s.accept { o with src := src } b := by
  simp only [State.proofIn, entry, first, tag, accepts, ne_eq, not_true, if_false]

/-- Settles O10: the packet comes to `State.openIn` or `State.proofIn`, in the case in which nothing refuses. -/
theorem openingASession : Obligations.OpeningASession := by
  unfold Obligations.OpeningASession
  refine ⟨?_, ?_⟩
  -- OPEN (R118, R119)
  · intro s pk b r nonce alive heard payload long magic sum version noSession count noToken noPsn noAck single type parsed asked noEntry accepts given
    subst payload
    obtain ⟨hnd, dev, length, opened⟩ := State.openIn_accepted (src := ⟨pk.he, pk.peer⟩) asked noEntry accepts given
    have arrives : s.openPacket 1 pk = s.openIn ⟨pk.he, pk.peer⟩ 1 r.body := by
      rw [State.openPacket_single single type, State.packetIn_open heard long magic sum version noSession count noToken noPsn noAck parsed, if_pos type]
    exact ⟨hnd, dev, length, done_of_eq ((State.awake_alive alive _).trans (arrives.trans opened))⟩
  -- PROOF (R118, R120, R122)
  · intro s pk b r o alive heard payload long magic sum version noSession count noToken noPsn noAck single type parsed entry first tag accepts
    subst payload
    have arrives : s.openPacket 3 pk = s.proofIn ⟨pk.he, pk.peer⟩ r.body := by
      rw [State.openPacket_single single type, State.packetIn_open heard long magic sum version noSession count noToken noPsn noAck parsed,
        if_neg (by simp [type]), if_pos type]
    exact done_of_eq ((State.awake_alive alive _).trans (arrives.trans (State.proofIn_accepted entry first tag accepts)))

end Sys2Proof.Machine

/-! PROOFS. Prediction, residual, mapping and reconstruction of tile coding (R143). -/

namespace Sys2Proof.Machine

/-! ## Prediction -/

theorem Qtc.predict_above {a b c : Nat} (d : Nat) (above : max a b ≤ c) : Qtc.predict (a, b, c, d) = min a b := by
  simp [Qtc.predict, above]

/-- Where this case meets the first one, a, b and c are one value. -/
theorem Qtc.predict_below {a b c : Nat} (d : Nat) (below : c ≤ min a b) : Qtc.predict (a, b, c, d) = max a b := by
  by_cases above : max a b ≤ c
  · rw [Qtc.predict_above d above]
    omega
  · simp [Qtc.predict, above, below]

theorem Qtc.predict_between {a b c : Nat} (d : Nat) (low : min a b < c) (high : c < max a b) : Qtc.predict (a, b, c, d) = (a : Int) + b - c := by
  simp only [Qtc.predict, ge_iff_le, Nat.not_le.mpr low, Nat.not_le.mpr high, if_false]

/-! ## Residual -/

/-- The difference s × (v − P) lies less than 2^B away from 0, so one addition or subtraction of 2^B brings it into range. -/
theorem signed_diff_bounds {n v pr g : Int} (v0 : 0 ≤ v) (v1 : v < n) (pr0 : 0 ≤ pr) (pr1 : pr < n) (sign : g = 1 ∨ g = -1) :
    -n < g * (v - pr) ∧ g * (v - pr) < n := by
  obtain rfl | rfl := sign <;> constructor <;> omega

theorem Qtc.residual_range {p : Qtc.Par} {v : Nat} {pr g : Int} (depth : 1 ≤ p.b) (v1 : v < 2 ^ p.b) (pr0 : 0 ≤ pr) (pr1 : pr < (2 ^ p.b : Nat))
    (sign : g = 1 ∨ g = -1) :
    -((2 ^ (p.b - 1) : Nat) : Int) ≤ Qtc.residual p v pr g ∧ Qtc.residual p v pr g < (2 ^ (p.b - 1) : Nat) := by
  obtain ⟨low, high⟩ := signed_diff_bounds (Int.natCast_nonneg v) (Int.ofNat_lt.mpr v1) pr0 pr1 sign
  rw [← Nat.two_pow_pred_mul_two depth] at low high
  simp only [Qtc.residual]
  generalize g * ((v : Int) - pr) = e at low high ⊢
  generalize 2 ^ (p.b - 1) = half at low high ⊢
  split_ifs <;> omega

/-- The residual differs from s × (v − P) by a multiple of 2^B. -/
theorem Qtc.residual_eq_add_mul {p : Qtc.Par} (v : Nat) (pr g : Int) (depth : 1 ≤ p.b) :
    ∃ k : Int, Qtc.residual p v pr g = g * ((v : Int) - pr) + k * (2 ^ p.b : Nat) := by
  rw [← Nat.two_pow_pred_mul_two depth]
  simp only [Qtc.residual]
  split_ifs
  · exact ⟨1, by push_cast; ring⟩
  · exact ⟨-1, by push_cast; ring⟩
  · exact ⟨0, by ring⟩

/-! ## Mapping -/

theorem Qtc.mapRes_cast (e : Int) : (Qtc.mapRes e : Int) = if 0 ≤ e then 2 * e else -2 * e - 1 := by
  simp only [Qtc.mapRes]
  split_ifs <;> omega

/-- A residual of at least 0 has an even mapping, a negative one an odd one. -/
theorem Qtc.unmapRes_mapRes (e : Int) : Qtc.unmapRes (Qtc.mapRes e) = e := by
  have mapped := Qtc.mapRes_cast e
  simp only [Qtc.unmapRes]
  split_ifs at mapped ⊢ <;> omega

/-! ## Reconstruction -/

/-- A sum that is a value of the word plus a multiple of 2^B is reduced to that value. -/
theorem ofSigned_natCast_add_mul {w v : Nat} (k : Int) (fits : v < 2 ^ w) : ofSigned w (v + k * (2 ^ w : Nat)) = v := by
  rw [ofSigned, Int.add_mul_emod_self_right, ← Int.natCast_mod, Int.toNat_natCast, Nat.mod_eq_of_lt fits]

/-- The sign is its own inverse, so s × e undoes the sign of s × (v − P). -/
theorem Qtc.ofSigned_add_residual {p : Qtc.Par} {v : Nat} {pr g : Int} (depth : 1 ≤ p.b) (fits : v < 2 ^ p.b) (sign : g = 1 ∨ g = -1) :
    ofSigned p.b (pr + g * Qtc.residual p v pr g) = v := by
  obtain ⟨k, split⟩ := Qtc.residual_eq_add_mul v pr g depth
  have square : g * g = 1 := by obtain rfl | rfl := sign <;> rfl
  have sum : pr + g * Qtc.residual p v pr g = v + g * k * (2 ^ p.b : Nat) := by
    rw [split]
    linear_combination ((v : Int) - pr) * square
  rw [sum, ofSigned_natCast_add_mul _ fits]

/-- Settles O40: the predictor by its three cases; the residual by its range, its mapping and its congruence to s × (v − P) modulo 2^B. -/
theorem medianEdgePredictor : Obligations.MedianEdgePredictor := by
  unfold Obligations.MedianEdgePredictor
  refine ⟨fun a b c d => ⟨Qtc.predict_above d, Qtc.predict_below d, Qtc.predict_between d⟩, ?_⟩
  rintro p v pr g e depth fits pr0 pr1 sign rfl
  obtain ⟨low, high⟩ := Qtc.residual_range depth fits pr0 pr1 sign
  exact ⟨low, high, Qtc.mapRes_cast _, Qtc.unmapRes_mapRes _, Qtc.ofSigned_add_residual depth fits sign⟩

end Sys2Proof.Machine

/-! PROOFS. Reads of DRAM: what they depend on, what a write beside them leaves alone, and the commands that store nothing (R183, R317, R340, R418). -/

namespace Sys2Proof.Machine

/-! ## Reads of DRAM -/

theorem State.mem_of_ram {s t : State} (same : t.ram = s.ram) : t.mem = s.mem := congrArg Prod.fst same

theorem State.memRead_congr {s t : State} (same : t.mem = s.mem) (a n : Nat) : t.memRead a n = s.memRead a n := by
  simp only [State.memRead, same]

theorem State.memBadIn_congr {s t : State} (sameMem : t.mem = s.mem) (sameBad : t.memBad = s.memBad) (a n : Nat) : t.memBadIn a n = s.memBadIn a n := by
  simp only [State.memBadIn, sameMem, sameBad]

theorem sfind_spart {α : Type} {lo hi k : Nat} (m : Sparse α) (low : lo ≤ k) (high : k < hi) : sfind k (spart lo hi m) = sfind k m :=
  (sfind_filter_of k (fun a => decide (lo ≤ a) && decide (a < hi)) m).trans (if_pos (by simp [low, high]))

/-- A read takes its bytes one by one; the part of the map it cuts out first holds them all. -/
theorem State.memRead_eq (s : State) (a n : Nat) : s.memRead a n = (upTo n).map fun i => (sfind (a + i) s.mem).getD (Config.unwrittenByte (a + i)) := by
  refine List.map_congr_left fun i mem => ?_
  have below : i < n := List.mem_range.mp mem
  rw [sfind_spart _ (by omega) (by omega)]

theorem State.memRead_memWrite_outside (s : State) {a b n : Nat} {d : Bytes} (outside : b + n ≤ a ∨ a + d.length ≤ b) :
    (s.memWrite a d).memRead b n = s.memRead b n := by
  rw [State.memRead_eq, State.memRead_eq]
  refine List.map_congr_left fun i mem => ?_
  have below : i < n := List.mem_range.mp mem
  rw [State.memWrite, sfind_spatch, if_neg (by omega)]

/-! ## Commands that store nothing -/

/-- Settles O48: the effect of the row leaves `State.ram` alone, and so does its end, since nothing is owed. -/
theorem commandsThatStoreNothing : Obligations.CommandsThatStoreNothing := by
  unfold Obligations.CommandsThatStoreNothing
  intro c s t noRestart noStore nothingOwed ran
  obtain ⟨e, answer, outer, -, ram⟩ := exec_concludes_of_not_mayRestart c s noRestart
  have same : t.ram = s.ram := concluded_ram outer (ram noStore) nothingOwed (answer.symm.trans ran)
  simp only [State.ram, Prod.mk.injEq] at same
  obtain ⟨mem, memBad, staging⟩ := same
  exact ⟨State.memRead_congr mem, State.memBadIn_congr mem memBad, staging⟩

end Sys2Proof.Machine

/-! PROOFS. Render: the dose of the threshold method (R175), and the bytes of DRAM that a pipeline line stores (R163, R183, R198). -/

namespace Sys2Proof.Machine

/-! ## Threshold screen (R175) -/

/-- The dose from the array entry t at the jet's column and line under the phases. -/
theorem Inputs.threshold_of_entry {r : Inputs} {plane x y idx t : Nat}
    (index : idx = r.scr plane 4 + ((y + r.scr plane 8) % 2 ^ r.scr plane 6) * 2 ^ r.scr plane 5 + (x + r.scr plane 7) % 2 ^ r.scr plane 5)
    (entry : t = leVal (r.bank.read (objAddr 0x4038 0 (2 * idx)) 2) % 2 ^ 12) (ys : Nat) :
    r.threshold plane x y ys = if ys / 2 ^ 12 = 15 then 15 else if t < ys % 2 ^ 12 then ys / 2 ^ 12 + 1 else ys / 2 ^ 12 := by
  subst index entry
  rfl

/-- Settles O41: the three cases of `Inputs.threshold_of_entry`. -/
theorem thresholdScreen : Obligations.ThresholdScreen := by
  unfold Obligations.ThresholdScreen
  intro r plane x y ys idx t index entry
  rw [Inputs.threshold_of_entry index entry]
  refine ⟨fun full => if_pos full, fun partly above => ?_, fun partly below => ?_⟩
  · rw [if_neg partly, if_pos above]
  · rw [if_neg partly, if_neg (Nat.not_lt.mpr below)]

/-! ## Lengths of what a port-line stores (R182, R198) -/

theorem Inputs.length_portLine (r : Inputs) (n y : Nat) : (r.portLine n y).length = 8192 := by
  rw [Inputs.portLine, List.length_map, List.length_range]

theorem State.length_stamp (s : State) : s.stamp.length = 8 := rfl

theorem length_trailerBytes (num line gen flags render store : Nat) {crcs : List Nat} {stamp : Bytes} (ports : crcs.length = 16) (stamped : stamp.length = 8) :
    (trailerBytes num line gen flags render store crcs stamp).length = 128 := by
  simp [trailerBytes, length_leBytes, zeros, ports, stamped]

/-! ## Where a page's lines lie (R196) -/

/-- A change that leaves the page numbers alone finds the same record, changed. -/
theorem State.page_updPage (s : State) (k num : Nat) {f : Page → Page} (sameNum : ∀ q, (f q).num = q.num) :
    (s.updPage k f).page num = (s.page num).map fun q => if q.num == k then f q else q := by
  have number : ((fun q : Page => q.num == num) ∘ fun q => if q.num == k then f q else q) = fun q => q.num == num := by
    funext q
    dsimp only [Function.comp]
    split <;> simp [sameNum]
  simp only [State.page, Jobs.page, State.updPage, updWhere, List.find?_map, number]

theorem State.chunks_updPage (s : State) (k num : Nat) {f : Page → Page} (sameNum : ∀ q, (f q).num = q.num) (sameChunks : ∀ q, (f q).chunks = q.chunks) :
    ((s.updPage k f).page num).map Page.chunks = (s.page num).map Page.chunks := by
  rw [State.page_updPage s k num sameNum, Option.map_map]
  congr 1
  funext q
  dsimp only [Function.comp]
  split
  · exact sameChunks q
  · rfl

theorem Page.doseAddr_congr {p q : Page} (same : q.chunks = p.chunks) (y : Nat) : q.doseAddr y = p.doseAddr y := by
  simp only [Page.doseAddr, Page.slot, same]

theorem Page.trailerAddr_congr {p q : Page} (same : q.chunks = p.chunks) (y : Nat) : q.trailerAddr y = p.trailerAddr y := by
  simp only [Page.trailerAddr, Page.slot, same]

/-! ## Port-lines (R183, R198) -/

theorem State.chunks_writePortLine (s : State) (p : Page) (g : Gen) (jb : Job) (n y num : Nat) :
    ((s.writePortLine p g jb n y).page num).map Page.chunks = (s.page num).map Page.chunks := by
  unfold State.writePortLine
  dsimp only
  split
  · exact State.chunks_updPage _ _ _ (fun _ => rfl) fun _ => rfl
  · rw [State.page, State.count_jobs]
    exact State.chunks_updPage _ _ _ (fun _ => rfl) fun _ => rfl

/-- A port-line stores its 8,192 bytes of dose, and the last of a line the trailer of 128. -/
theorem State.memRead_writePortLine (s : State) {p : Page} (g : Gen) (jb : Job) {n y b : Nat}
    (beside : b < p.doseAddr y + 8192 * n ∨ p.doseAddr y + 8192 * n + 8192 ≤ b) (besideTrailer : b < p.trailerAddr y ∨ p.trailerAddr y + 128 ≤ b) :
    (s.writePortLine p g jb n y).memRead b 1 = s.memRead b 1 := by
  have dose : (s.memWrite (p.doseAddr y + 8192 * n) ((s.inputs p g).portLine n y)).memRead b 1 = s.memRead b 1 :=
    State.memRead_memWrite_outside s (by rw [Inputs.length_portLine]; exact beside)
  unfold State.writePortLine
  dsimp only
  split
  · exact dose
  · rw [State.memRead_congr (State.count_mem ..), State.memRead_congr (State.updPage_mem ..), State.memRead_memWrite_outside _ ?_, dose]
    rw [length_trailerBytes _ _ _ _ _ _ (by rw [List.length_map]; exact List.length_range) (State.length_stamp _)]
    exact besideTrailer

/-- The page's record may change while its port-lines are written; its chunks do not. -/
theorem State.memRead_writePortLines {s : State} {p : Page} (g : Gen) {jb : Job} {y b : Nat} {ns : List Nat}
    (place : (s.page jb.page).map Page.chunks = some p.chunks)
    (beside : ∀ m ∈ ns, b < p.doseAddr y + 8192 * m ∨ p.doseAddr y + 8192 * m + 8192 ≤ b) (besideTrailer : b < p.trailerAddr y ∨ p.trailerAddr y + 128 ≤ b) :
    (s.writePortLines g jb y ns).memRead b 1 = s.memRead b 1 := by
  induction ns generalizing s with
  | nil => rfl
  | cons n ns ih =>
    obtain ⟨q, found, chunks⟩ := Option.map_eq_some_iff.mp place
    have first : s.writePortLines g jb y (n :: ns) = (s.writePortLine q g jb n y).writePortLines g jb y ns := by
      rw [State.writePortLines, List.foldl_cons, found]
      rfl
    rw [first, ih ((State.chunks_writePortLine s q g jb n y jb.page).trans place) fun m mem => beside m (List.mem_cons_of_mem n mem)]
    refine State.memRead_writePortLine s g jb ?_ ?_
    · rw [Page.doseAddr_congr chunks]
      exact beside n List.mem_cons_self
    · rw [Page.trailerAddr_congr chunks]
      exact besideTrailer

/-! ## A tile-cache word that is restored (M2, R345) -/

@[simp] theorem State.bucketAdd_jobs (s : State) (c : Nat) : (s.bucketAdd c).jobs = s.jobs := by
  unfold State.bucketAdd
  dsimp only
  split
  · split <;> simp
  · simp

@[simp] theorem State.parityError_jobs (s : State) (c array outcome reader loc page : Nat) : (s.parityError c array outcome reader loc page).jobs = s.jobs := by
  unfold State.parityError
  split <;> simp

@[simp] theorem State.parityIn_jobs (s : State) (c array outcome reader base size page : Nat) : (s.parityIn c array outcome reader base size page).jobs = s.jobs :=
  State.parityError_jobs ..

@[simp] theorem State.parityCache_jobs (s : State) (outcome page : Nat) : (s.parityCache outcome page).jobs = s.jobs :=
  State.parityIn_jobs ..

theorem State.cacheFault_restored (s : State) (jb : Job) (need : List TileRef) {cache : Restored} (restored : cache ≠ .lost) :
    (s.cacheFault jb need cache).jobs = s.jobs ∧ (s.cacheFault jb need cache).ram = s.ram := by
  cases cache with
  | clean => exact ⟨rfl, rfl⟩
  | corrected =>
    cases need with
    | nil => exact ⟨rfl, rfl⟩
    | cons t need => exact ⟨State.parityCache_jobs .., State.parityCache_ram ..⟩
  | lost => exact absurd rfl restored

/-! ## PIPELINE_LINE (R163) -/

theorem State.page_of_stripJob {s : State} {k i : Nat} {jb : Job} {p : Page} (job : s.stripJob k = some (i, jb, p)) : s.page jb.page = some p := by
  obtain ⟨⟨j, b⟩, -, found⟩ := List.exists_of_findSome?_eq_some job
  dsimp only at found
  split at found
  · next q page =>
    split at found
    · cases found
      exact page
    · cases found
  · cases found

/-- A line that ends writes its port-lines; one that stalls writes nothing. -/
theorem State.memRead_pipeLine {s : State} {k i n y b : Nat} {jb : Job} {p : Page} {g : Gen} {cache : Restored} (waited : Nat)
    (job : s.stripJob k = some (i, jb, p)) (gen : s.genOf p.gen = some g) (step : n = jb.stepOf k)
    (line : y = jb.line p n) (whole : ((s.inputs p g).stripTiles k y).any (fun t => s.jobs.tileSt t == .lost) = false) (restored : cache ≠ .lost)
    (beside : ∀ m ∈ g.finishes jb k (sset 0 jb.next k (jb.stepAfter p k n)) n, b < p.doseAddr y + 8192 * m ∨ p.doseAddr y + 8192 * m + 8192 ≤ b)
    (besideTrailer : b < p.trailerAddr y ∨ p.trailerAddr y + 128 ≤ b) :
    (s.pipeLine k waited cache).memRead b 1 = s.memRead b 1 := by
  subst step line
  unfold State.pipeLine
  rw [job]
  dsimp only
  rw [gen]
  dsimp only
  split
  · rfl
  · rw [if_neg (ne_true_of_eq_false whole)]
    split
    · exact State.memRead_congr (State.mem_of_ram (State.askTiles_ram ..)) b 1
    · rw [if_neg fun lost => restored lost.1]
      generalize ended : State.updJob _ i _ = t
      have jobs : t.jobs = s.jobs := by simp [← ended]
      have mem : t.mem = s.mem := by simp [← ended]
      obtain ⟨faultJobs, faultRam⟩ := t.cacheFault_restored jb ((s.inputs p g).stripTiles k (jb.line p (jb.stepOf k))) restored
      have faultMem := State.memRead_congr ((State.mem_of_ram faultRam).trans mem) b 1
      split
      · exact faultMem
      · rw [State.memRead_writePortLines g ?_ beside besideTrailer, faultMem]
        rw [State.page, faultJobs, jobs]
        exact congrArg (Option.map Page.chunks) (State.page_of_stripJob job)

/-- Settles O43: the effect of the row by `State.memRead_pipeLine`, and its end leaves DRAM alone, since nothing is owed. -/
theorem pipelineLineStoresOnlyItsLine : Obligations.PipelineLineStoresOnlyItsLine := by
  unfold Obligations.PipelineLineStoresOnlyItsLine
  intro s t k waited cache i jb p g n y b nothingOwed job gen step line whole restored ran beside besideTrailer
  have answer : exec (.pipelineLine k waited cache) s = .next (s.awake (State.pipeLine · k waited.toNat cache)).conclude := rfl
  have outer : (s.awake (State.pipeLine · k waited.toNat cache)).outer = s.outer := State.awake_outer _ _ (State.pipeLine_outer ..)
  have due := (congrArg Boot.due (State.boot_of_outer outer)).trans nothingOwed
  have ended : t.ram = _ := concluded_ram rfl rfl due (answer.symm.trans ran)
  rw [State.memRead_congr (State.mem_of_ram ended), State.awake]
  split
  · exact State.memRead_pipeLine waited.toNat job gen step line whole restored beside besideTrailer
  · rfl

end Sys2Proof.Machine

/-! PROOFS. SPOIL_N in time, the tension commit and the temperature reports (R209, R210, R231, R232, R257): each operation in the case that its clause states. -/

namespace Sys2Proof.Machine

/-! ## SPOIL_N (R209, R210) -/

theorem State.spoilLow_pulses {s : State} {due : List (Nat × Nat)} (reached : due = s.store.spoil.pulses.filter fun r => decide (r.1 ≤ s.row))
    (pending : due ≠ []) :
    s.spoilLow = { s with store := { s.store with
      spoil := due.foldl (fun q r => q.pulse s.clk.now r.2) { s.store.spoil with pulses := s.store.spoil.pulses.filter fun r => decide (s.row < r.1) } } } := by
  subst reached
  exact if_pos (by simpa using pending)

/-- With no pulse due, a window that the row counter is in takes the pin low. -/
theorem State.spoilLow_window {s : State} (noPulse : (s.store.spoil.pulses.filter fun r => decide (r.1 ≤ s.row)) = [])
    (inside : (s.store.spoil.windows.any fun w => decide (w.1 ≤ s.rowNow) && decide (s.rowNow < w.2)) = true) :
    s.spoilLow = { s with store := { s.store with spoil := { s.store.spoil with low := true } } } := by
  unfold State.spoilLow
  dsimp only
  rw [noPulse, inside]
  rfl

theorem State.spoilHigh_released {s : State} {rest : List (Int × Int)} (left : rest = s.store.spoil.windows.filter fun w => decide (s.rowNow < w.2))
    (noPulse : s.store.spoil.until_ = none) (outside : (rest.any fun w => decide (w.1 ≤ s.rowNow)) = false) :
    s.spoilHigh = { s with store := { s.store with spoil := { s.store.spoil with windows := rest, low := false } } } := by
  subst left
  unfold State.spoilHigh
  dsimp only
  rw [noPulse, outside, Option.isSome_none, Bool.or_false, Bool.and_false]

theorem State.spoilPulseEnd_over {s : State} {t : Nat} (pulse : s.store.spoil.until_ = some t) (ended : t ≤ s.clk.now) :
    s.spoilPulseEnd = { s with store := { s.store with spoil := { s.store.spoil with
      until_ := none, low := s.store.spoil.windows.any fun w => decide (w.1 ≤ s.rowNow) && decide (s.rowNow < w.2) } } } := by
  unfold State.spoilPulseEnd
  dsimp only
  rw [pulse]
  exact if_neg (Nat.not_lt.mpr ended)

/-! ## Tension tables (R232) -/

theorem State.commitTables_sound (s : State) {b : Bytes} (sound : ((upTo 8).any fun t => tensionBad b t) = false) :
    s.commitTables b = (((s.setBytes 0x2862 0 0 b).set 0x2860 2 0).bump 0x2860 5, true) :=
  if_neg (ne_true_of_eq_false sound)

theorem State.tensionCommit_sound {s : State} {b : Bytes} (tables : b = s.bytes 0x2861 0 0 640) (sound : ((upTo 8).any fun t => tensionBad b t) = false) :
    s.tensionCommit = (((s.setBytes 0x2862 0 0 b).set 0x2860 2 0).bump 0x2860 5, true) := by
  rw [State.tensionCommit, ← tables]
  exact s.commitTables_sound sound

/-! ## Temperature reports (R231, R257) -/

theorem lane_div_four (p : Fin 16) (k : Fin 4) : lane p k / 4 = p := by
  unfold lane
  omega

theorem State.temp_active {s : State} {p : Fin 16} (active : s.linkState p = 5) (k : Fin 4) (t : Nat) :
    s.temp (Machine.lane p k) t = (upTo 4).foldl (fun s j => s.segReport (4 * Machine.lane p k + j) (ofSigned 16 (toSigned 12 (field t (12 * j) 12)))) s := by
  rw [State.temp, lane_div_four]
  exact if_neg (not_not.mpr active)

/-- A report that is not the segment's first leaves its bin alone. -/
theorem State.segReport_later {s t : State} {seg v : Nat} (reported : sget 0 s.fire.report seg ≠ 0)
    (stored : t = s.setBytes (portIdx (seg / 16) + 3) 1 (2 * (seg % 16)) (leBytes 2 v)) :
    s.segReport seg v =
      { t with fire := { t.fire with report := sset 0 t.fire.report seg (s.clk.now + 1), stale := sset false t.fire.stale seg false } } := by
  subst stored
  unfold State.segReport
  dsimp only
  rw [if_neg fun first => reported first.1]

theorem State.tempStale_first {s : State} {seg : Nat} (stale : s.segStale seg = true) (untold : sget false s.fire.stale seg = false) :
    s.tempStale seg = State.raiseAt { s with fire := { s.fire with stale := sset false s.fire.stale seg true } } 199 2 seg 9 6 0 0 := by
  rw [State.tempStale, if_neg (by simp [stale, untold])]

/-- Settles O16: clause by clause, the command's effect in the stated case, under the one end of a command. -/
theorem spoilPinAndTension : Obligations.SpoilPinAndTension := by
  unfold Obligations.SpoilPinAndTension
  refine ⟨?_, ?_, ?_, ?_, ?_, ?_, ?_, ?_⟩
  -- SPOIL_N_LOW: pulses that are due, then a window (R209)
  · intro s due alive reached pending
    exact done_of_eq ((State.awake_alive alive _).trans (State.spoilLow_pulses reached pending))
  · intro s w rest alive noPulse windows started running
    have inside : (s.store.spoil.windows.any fun w => decide (w.1 ≤ s.rowNow) && decide (s.rowNow < w.2)) = true := by
      simp [windows, started, running]
    exact done_of_eq ((State.awake_alive alive _).trans (State.spoilLow_window noPulse inside))
  -- SPOIL_N_HIGH (R209)
  · intro s rest alive left noPulse outside
    exact done_of_eq ((State.awake_alive alive _).trans (State.spoilHigh_released left noPulse outside))
  -- SPOIL_N_PULSE_END (R209, R210)
  · intro s t alive pulse ended
    exact done_of_eq ((State.awake_alive alive _).trans (State.spoilPulseEnd_over pulse ended))
  -- TENSION_COMMIT (R232)
  · intro s u h b admits counted tables sound
    subst counted
    exact done_of_eq (State.serveCmd_accepted admits (State.tensionCommit_sound tables sound))
  -- TEMP (R257)
  · intro s p k t alive active
    exact done_of_eq ((State.awake_alive alive _).trans (State.temp_active active k t.toNat))
  -- A report after the segment's first (R231)
  · intro s seg v reported
    exact ⟨_, rfl, State.segReport_later reported rfl⟩
  -- TEMPERATURE_REPORT_STALE (R231)
  · intro s seg alive stale untold
    exact done_of_eq ((State.awake_alive alive _).trans (State.tempStale_first stale untold))

end Sys2Proof.Machine

/-! PROOFS. Head and seam links (R246, R248 to R252, R261): each event of the bring-up table in the state that its clause names. -/

namespace Sys2Proof.Machine

/-! ## Start, detection and training (R248 to R250) -/

theorem State.linkStart_begins {s : State} {l : Nat} (off : s.linkState l = 0) (may : s.linkMayStart l = true) : s.linkStart l = s.linkBegin l :=
  if_pos ⟨off, may⟩

theorem State.rxck_detect {s : State} {l : Nat} (detect : s.linkState l = 1) :
    s.rxck l = ((s.linkTo l 2 0).updLink l fun x => { x with preset := 0, step := 0, stepAt := s.clk.now }).sweepOut l 0 0 := if_pos detect

theorem State.timerRow_expired {s : State} {l st ns : Nat} (state : s.linkState l = st) (late : (s.link l).since + ns ≤ s.clk.now) (cause : Nat) :
    s.timerRow l st ns cause = s.linkWait l cause := if_pos ⟨state, decide_eq_true late⟩

theorem State.trainBlock_port {s : State} {l status : Nat} (port : l < 16) (train : s.linkState l = 2) (finished : bit status 4 = true)
    (lanes : ((upTo 4).all fun i => !bit (s.usedModules l) i || bit status i) = true) (locked : (s.link l).locked = true) (presets : Nat) :
    s.trainBlock l status presets = ((s.set (portIdx l + 1) 5 presets).linkTo l 3 0).lockRow l := by
  unfold State.trainBlock
  dsimp only
  rw [if_pos port, if_pos ⟨train, finished, lanes, locked⟩, if_pos port]

theorem State.presetStep_due {s : State} {l p st : Nat} (train : s.linkState l = 2) (held : (s.link l).stepAt + 100000 ≤ s.clk.now)
    (preset : p = ((s.link l).preset + 1) % 8) (step : st = if p = 0 then wrapAdd 8 (s.link l).step 1 else (s.link l).step) :
    s.presetStep l = (s.updLink l fun y => { y with preset := p, step := st, stepAt := s.clk.now }).sweepOut l p st := by
  subst step preset
  exact if_pos ⟨train, held⟩

theorem State.polarityTrial_port {s : State} {l : Nat} (port : l < 16) (searches : s.linkState l = 1 ∨ s.linkState l = 2 ∨ s.linkState l = 3)
    (unlocked : (s.link l).locked = false) (tried : (s.link l).trial + 1000000 ≤ s.clk.now) :
    s.polarityTrial l = (s.updLink l fun y => { y with trial := s.clk.now, pol := 1 - y.pol }).set (portIdx l + 1) 4 (1 - s.reg (portIdx l + 1) 4) :=
  (if_pos ⟨searches, unlocked, tried⟩).trans (if_pos port)

/-! ## Block lock (R246, R249) -/

theorem State.lockRow_stays {s : State} {l : Nat} (stays : s.linkState l ≠ 3 ∨ (s.link l).locked = false) : s.lockRow l = s := if_pos stays

/-- In LOCK, with its receiver in block lock, a link takes the row of its mode. -/
theorem State.lockRow_locked {s : State} {l : Nat} (lock : s.linkState l = 3) (locked : (s.link l).locked = true) :
    s.lockRow l =
      if (s.link l).trained then (s.linkTo l 4 0).sendCaps l
      else if l < 16 then
        match s.portChecks l 1 ((s.link l).cfg.getD 5 0x0F) ((s.link l).cfg.getD 4 8) none with
        | none => s.portActive l ((s.link l).cfg.getD 5 0x0F) ((s.link l).cfg.getD 4 8)
        | some c => s.linkWait l c
      else (s.linkTo l 5 0).linkUp l :=
  if_neg (by simp [lock, locked])

theorem State.lockRow_trained {s : State} {l : Nat} (lock : s.linkState l = 3) (locked : (s.link l).locked = true) (trained : (s.link l).trained = true) :
    s.lockRow l = (s.linkTo l 4 0).sendCaps l :=
  (State.lockRow_locked lock locked).trans (if_pos trained)

theorem State.lockRow_fixedSeam {s : State} {l : Nat} (lock : s.linkState l = 3) (locked : (s.link l).locked = true) (fixed : (s.link l).trained = false)
    (seam : 16 ≤ l) : s.lockRow l = (s.linkTo l 5 0).linkUp l :=
  (State.lockRow_locked lock locked).trans ((if_neg (ne_true_of_eq_false fixed)).trans (if_neg (Nat.not_lt.mpr seam)))

/-! ## CAPS (R251, R252) -/

/-- CAPS is a block of both uplinks: no receiver discards it as a stray one. -/
theorem State.strayBlock_caps (s : State) (l : Nat) {type : Nat} (kind : type = 0xB4) : s.strayBlock l true type = false := by
  have listed : (uplinkTypes l).contains type = true := by
    subst kind
    unfold uplinkTypes
    split
    · rfl
    · rfl
  simp only [State.strayBlock, if_true, listed, Bool.not_true, Bool.and_false]

/-- CAPS of a head port, in CAPS: ACTIVE if the checks of R252 hold, else WAIT with the first that fails. -/
theorem State.capsIn_port {s : State} {l : Nat} {b : Bytes} (port : l < 16) (caps : s.linkState l = 4) (kind : leAt b 0 1 = 0xB4) :
    s.capsIn l true b =
      match s.portChecks l (leAt b 1 1) (leAt b 2 1 % 16) (leAt b 3 1) (some (leAt b 4 2)) with
      | none => (s.setBytes (portIdx l + 1) 6 0 (capsKept b)).portActive l (leAt b 2 1 % 16) (leAt b 3 1)
      | some c => s.linkWait l c :=
  (if_neg (ne_true_of_eq_false (s.strayBlock_caps l kind))).trans ((if_neg (by simp [caps, kind])).trans (if_pos port))

theorem State.capsIn_port_pass {s : State} {l : Nat} {b : Bytes} (port : l < 16) (caps : s.linkState l = 4) (kind : leAt b 0 1 = 0xB4)
    (checks : s.portChecks l (leAt b 1 1) (leAt b 2 1 % 16) (leAt b 3 1) (some (leAt b 4 2)) = none) :
    s.capsIn l true b = (s.setBytes (portIdx l + 1) 6 0 (capsKept b)).portActive l (leAt b 2 1 % 16) (leAt b 3 1) := by
  rw [State.capsIn_port port caps kind, checks]

theorem State.capsIn_port_fail {s : State} {l c : Nat} {b : Bytes} (port : l < 16) (caps : s.linkState l = 4) (kind : leAt b 0 1 = 0xB4)
    (checks : s.portChecks l (leAt b 1 1) (leAt b 2 1 % 16) (leAt b 3 1) (some (leAt b 4 2)) = some c) : s.capsIn l true b = s.linkWait l c := by
  rw [State.capsIn_port port caps kind, checks]

theorem State.capsSend_due {s : State} {l : Nat} (caps : s.linkState l = 4) (due : (s.link l).capsAt + 10000 ≤ s.clk.now) :
    s.capsSend l = s.sendCaps l := if_pos ⟨caps, due⟩

/-! ## Loss and WAIT (R249, R261) -/

theorem State.linkLost_active {s : State} {l : Nat} (active : s.linkState l = 5) : s.linkLost l = s.linkWait l 9 := if_pos active

/-- WAIT is over after 100 ms: the link starts again where its condition and its setting let it, else it stops. -/
theorem State.waitExpired_over {s : State} {l : Nat} (wait : s.linkState l = 6) (ended : (s.link l).since + 100000000 ≤ s.clk.now) :
    s.waitExpired l =
      if s.linkMayStart l && (decide (16 ≤ l) || (s.flag (portIdx l) 8 && s.unit (portUnit l) != 3)) then s.linkBegin l else s.linkStop l :=
  if_neg (by simp [wait, State.linkTimer, ended])

theorem State.waitExpired_restarts {s : State} {l : Nat} (wait : s.linkState l = 6) (ended : (s.link l).since + 100000000 ≤ s.clk.now)
    (may : s.linkMayStart l = true) (auto : s.flag (portIdx l) 8 = true) (notReturning : s.unit (portUnit l) ≠ 3) : s.waitExpired l = s.linkBegin l :=
  (State.waitExpired_over wait ended).trans (if_pos (by simp [may, auto, notReturning]))

theorem State.waitExpired_stops {s : State} {l : Nat} (port : l < 16) (wait : s.linkState l = 6) (ended : (s.link l).since + 100000000 ≤ s.clk.now)
    (manual : s.flag (portIdx l) 8 = false) : s.waitExpired l = s.linkStop l :=
  (State.waitExpired_over wait ended).trans (if_neg (by simp [port, manual]))

/-- Settles O17: clause by clause, the command's effect in the stated case, under the one end of a command. -/
theorem linkBringUp : Obligations.LinkBringUp := by
  unfold Obligations.LinkBringUp
  refine ⟨?_, ?_, ?_, ?_, ?_, ?_, ?_, ?_, ?_, ?_, ?_, ?_, ?_, ?_, ?_, ?_, ?_, ?_⟩
  -- LINK_START, RXCK_DETECTED (R248, R249)
  · intro s l alive off may
    exact done_of_eq ((State.awake_alive alive _).trans (State.linkStart_begins off may))
  · intro s l alive detect
    exact done_of_eq ((State.awake_alive alive _).trans (State.rxck_detect detect))
  -- The timers of DETECT, TRAIN, LOCK and CAPS (R249)
  · intro s l alive detect late
    exact done_of_eq ((State.awake_alive alive _).trans (State.timerRow_expired detect late 1))
  · intro s l alive train late
    exact done_of_eq ((State.awake_alive alive _).trans (State.timerRow_expired train late 2))
  · intro s l alive lock late
    exact done_of_eq ((State.awake_alive alive _).trans (State.timerRow_expired lock late 3))
  · intro s l alive caps late
    exact done_of_eq ((State.awake_alive alive _).trans (State.timerRow_expired caps late 4))
  -- TRAIN, PRESET_STEP (R250)
  · intro s l status presets alive port train finished lanes locked
    exact done_of_eq ((State.awake_alive alive _).trans (State.trainBlock_port port train finished lanes locked presets.toNat))
  · intro s l alive train held
    exact ⟨_, _, rfl, rfl, done_of_eq ((State.awake_alive alive _).trans (State.presetStep_due train held rfl rfl))⟩
  -- POLARITY_TRIAL_SWITCH (R248)
  · intro s l alive port searches unlocked tried
    exact done_of_eq ((State.awake_alive alive _).trans (State.polarityTrial_port port searches unlocked tried))
  -- UPLINK_BLOCK_LOCK: a trained link, a fixed seam link, no change (R246, R249)
  · intro s v l headers alive heard lock locked trained
    subst heard
    exact done_of_eq ((State.awake_alive alive _).trans (State.lockRow_trained lock locked trained))
  · intro s v l headers alive heard lock locked fixed seam
    subst heard
    exact done_of_eq ((State.awake_alive alive _).trans (State.lockRow_fixedSeam lock locked fixed seam))
  · intro s v l headers alive heard stays
    subst heard
    exact done_of_eq ((State.awake_alive alive _).trans (State.lockRow_stays stays))
  -- CAPS: the checks hold, a check fails (R251, R252)
  · intro s l body b alive port block caps kind locked checks
    subst block
    exact done_of_eq ((State.awake_alive alive _).trans (State.capsIn_port_pass port caps kind checks))
  · intro s l body b cause alive port block caps kind locked checks
    subst block
    exact done_of_eq ((State.awake_alive alive _).trans (State.capsIn_port_fail port caps kind checks))
  -- CAPS_SEND, LINK_LOST (R249, R261)
  · intro s l alive caps due
    exact done_of_eq ((State.awake_alive alive _).trans (State.capsSend_due caps due))
  · intro s l alive active
    exact done_of_eq ((State.awake_alive alive _).trans (State.linkLost_active active))
  -- WAIT_TIMER_EXPIRY: with auto-restart, without (R249)
  · intro s l alive port wait ended may auto notReturning
    exact done_of_eq ((State.awake_alive alive _).trans (State.waitExpired_restarts wait ended may auto notReturning))
  · intro s l alive port wait ended manual
    exact done_of_eq ((State.awake_alive alive _).trans (State.waitExpired_stops port wait ended manual))

end Sys2Proof.Machine

/-! PROOFS. Port commands, heater measurements, jet windows and loopbacks (R263 to R269): each operation in the case that its clause states. -/

namespace Sys2Proof.Machine

/-! ## The command ring (R263, R264) -/

theorem State.ringTake_good {s : State} {q : Nat} {d : Bytes} (head : s.ev.ringHead q = some (d, 0)) :
    s.ringTake q = ({ s with ev := s.ev.ringPop q }, some d) := by
  simp only [State.ringTake, head]

theorem State.portRequest_taken {s : State} {n : Nat} {p : Nat → Bool} {d : Bytes} (head : s.ev.ringHead (160 + n) = some (d, 0))
    (request : leAt d 0 1 = 0x30) (takes : p (leAt d 8 1) = true) :
    s.portRequest n p = some (leAt d 8 1, leAt d 9 1 % 16, leAt d 12 4, slice d 16 8, leAt d 24 4) := by
  simp [State.portRequest, head, request, takes]

/-- A request that nothing refuses, on an ACTIVE port with no command outstanding, leaves the ring and is sent. -/
theorem State.portSubmit_sent {s : State} {n op : Nat} {p : Nat → Bool} {d data : Bytes} (head : s.ev.ringHead (160 + n) = some (d, 0))
    (request : leAt d 0 1 = 0x30) (opcode : op = leAt d 8 1) (takes : p op = true) (known : op = 0x01 ∨ op = 0x10 ∨ 0x80 ≤ op)
    (mayGo : op = 0x01 ∨ s.pagesActive = false) (carried : data = if op = 0x01 then [] else slice d 16 8) (free : (s.port n).cmd = none)
    (active : s.linkState n = 5) :
    s.portSubmit n p false =
      State.portCommand { s with ev := s.ev.ringPop (160 + n) } n op (leAt d 9 1 % 16) (leAt d 12 4) data (leAt d 24 4) false := by
  subst opcode carried
  have quiet : ¬(leAt d 8 1 ≠ 0x01 ∧ s.pagesActive = true) := by
    rintro ⟨guarded, pages⟩
    exact mayGo.elim guarded (ne_true_of_eq_false · pages)
  have good : s.ringRead (160 + n) false = s := rfl
  unfold State.portSubmit
  rw [good]
  simp only [head, State.portRequest_taken head request takes, State.ringTake_good head]
  rw [free, if_neg (by decide), if_neg (not_not.mpr active), if_neg (not_not.mpr known), if_neg quiet]

/-! ## Completion (R264) -/

/-- The RESP that the command outstanding waits for: its status byte and, for WAVE_WRITE, the CRC of its data say the status. -/
theorem State.resp_hit {s : State} {n addr seq : Nat} {c : PortCmd} (outstanding : (s.port n).cmd = some c) (active : s.linkState n = 5)
    (sequence : c.seq = seq) (address : c.addr % 16 = addr % 16) (notMeasure : c.op ≠ 2) (status value : Nat) :
    s.resp n addr seq status value =
      if status ≠ 0 then s.portResult n c 5 status value
      else if c.op = 0x10 ∧ value ≠ crc32c c.data then s.portResult n c 6 0 value
      else s.portResult n c 0 0 value := by
  have hit : (c.op != 2 && c.seq == seq && c.addr % 16 == addr % 16) = true := by simp [sequence, address, notMeasure]
  unfold State.resp
  rw [if_neg (not_not.mpr active)]
  dsimp only
  rw [outstanding, Option.filter_some, if_pos hit]

theorem State.resp_ok {s : State} {n addr seq value : Nat} {c : PortCmd} (outstanding : (s.port n).cmd = some c) (active : s.linkState n = 5)
    (sequence : c.seq = seq) (address : c.addr % 16 = addr % 16) (notMeasure : c.op ≠ 2) (sum : c.op = 0x10 → value = crc32c c.data) :
    s.resp n addr seq 0 value = s.portResult n c 0 0 value := by
  have same : ¬(c.op = 0x10 ∧ value ≠ crc32c c.data) := fun ⟨wave, differs⟩ => differs (sum wave)
  rw [State.resp_hit outstanding active sequence address notMeasure, if_neg (not_not.mpr rfl), if_neg same]

theorem State.resp_failed {s : State} {n addr seq status : Nat} {c : PortCmd} (outstanding : (s.port n).cmd = some c) (active : s.linkState n = 5)
    (sequence : c.seq = seq) (address : c.addr % 16 = addr % 16) (notMeasure : c.op ≠ 2) (failed : status ≠ 0) (value : Nat) :
    s.resp n addr seq status value = s.portResult n c 5 status value :=
  (State.resp_hit outstanding active sequence address notMeasure status value).trans (if_pos failed)

theorem State.cmdTimeout_late {s v : State} {n : Nat} {c : PortCmd}
    (others : v = ((s.port n).alls.filter fun c => c.op != 2 && decide (c.sent + 1000000 ≤ s.clk.now)).foldl (fun s c => s.portOutcome n c 4 0 0)
      (s.updPort n fun x => { x with alls := x.alls.filter fun c => !(c.op != 2 && decide (c.sent + 1000000 ≤ s.clk.now)) }))
    (outstanding : (v.port n).cmd = some c) (notMeasure : c.op ≠ 2) (late : c.sent + 1000000 ≤ s.clk.now) :
    s.cmdTimeout n = v.portResult n c 4 0 0 := by
  have passes : (c.op != 2 && decide (c.sent + 1000000 ≤ s.clk.now)) = true := by simp [notMeasure, late]
  unfold State.cmdTimeout
  dsimp only
  rw [← others, outstanding, Option.filter_some, if_pos passes]

/-! ## Measurements (R265, R266, R268) -/

theorem State.mayMeasure_quiet {s : State} {n : Nat} (quiet : s.pagesActive = false) (active : s.linkState n = 5) : s.mayMeasure n = true := by
  simp [State.mayMeasure, quiet, active]

theorem State.measCommand_starts {s : State} {n : Nat} (idle : (s.port n).meas = none) (quiet : s.pagesActive = false) (active : s.linkState n = 5)
    (capture : Bool) : s.measCommand n capture = (s.measStart n capture, true) := by
  rw [State.measCommand, if_neg (by simp [idle]), if_pos (State.mayMeasure_quiet quiet active)]

theorem State.measAuto_due {s : State} {n : Nat} (on : s.reg (measIdx n) 0x0A ≠ 0)
    (due : (s.port n).measAt + s.reg (measIdx n) 0x0A * 1000000000 ≤ s.clk.now) (idle : (s.port n).meas = none) (quiet : s.pagesActive = false)
    (active : s.linkState n = 5) : s.measAuto n = s.measStart n false :=
  if_pos ⟨on, due, by rw [idle]; rfl, State.mayMeasure_quiet quiet active⟩

/-- A good frame of the segment that MEASURE asked for: its readings are taken, the segment is done, the next one follows. -/
theorem State.measFrame_good {s t : State} {n addr seq crc : Nat} {data : Bytes} {m : Meas} (running : s.measOut n = some m)
    (active : s.linkState n = 5) (sequence : seq = m.seq) (address : addr % 16 = segAddr m.seg)
    (taken : t = (s.set (measIdx n) 3 s.clk.now).updPort n fun x => { x with cmd := none }) (sum : crc = crc32c data) (whole : data.length = 2048) :
    s.measFrame n addr seq 0 crc data =
      (((t.readings n m.seg m.capture data).1.set (measIdx n) 6
        (min 16384 ((t.readings n m.seg m.capture data).1.reg (measIdx n) 6 + (t.readings n m.seg m.capture data).2))).segmentDone n m.seg 0
          (t.readings n m.seg m.capture data).2 ((t.readings n m.seg m.capture data).1.render.pending.length - s.render.pending.length)).measNext n m := by
  unfold State.measFrame
  rw [running]
  dsimp only
  rw [← taken, if_neg (by simp [active, sequence, address]), if_neg (by simp [sum, whole]), if_neg (not_not.mpr rfl)]

theorem State.measTimeout_late {s : State} {n : Nat} {m : Meas} (running : s.measOut n = some m) (late : m.sent + 50000000 ≤ s.clk.now) :
    s.measTimeout n = (s.updPort n fun p => { p with cmd := none }).measFail n m true := by
  unfold State.measTimeout
  rw [running]
  exact if_neg (Nat.not_lt.mpr late)

/-! ## Jet windows (R267) -/

/-- A window that ends undeclared with fewer than N readings was transient. -/
theorem State.jetClose_transient {s : State} {n j t0 k : Nat} (window : sfind j (s.port n).windows = some (t0, k, false))
    (ended : t0 + s.jetWindowNs n ≤ s.clk.now) (few : k < s.reg (measIdx n) 8) :
    s.jetClose n j = (s.updPort n fun x => { x with windows := serase j x.windows }).bump (measIdx n) 0x0B := by
  unfold State.jetClose
  rw [window]
  dsimp only
  rw [if_neg (Nat.not_lt.mpr ended)]
  exact if_pos few

/-! ## Loopbacks (R269) -/

theorem State.loopStart_near {s : State} {n mode : Nat} (out : s.unit (portUnit n) = 2) (chosen : mode = s.reg (0xF100 + n) 1) (named : mode ≠ 0)
    (near : mode ≠ 3) (idle : (s.port n).loop = 0) :
    s.loopStart n = ((State.updPort (((s.fresh.2.set (0xF100 + n) 3 0).set (0xF100 + n) 4 0).set (0xF100 + n) 5 0) n fun x =>
      { x with loop := mode, loopAt := some s.clk.now, loopRun := s.fresh.1 }).linkTo n 7 0, true) := by
  unfold State.loopStart
  rw [← chosen]
  dsimp only
  rw [if_neg (not_not.mpr out), if_neg (by simp [named, idle]), if_neg near, if_neg near]

/-- Settles O18: clause by clause, the command's effect in the stated case, under the one end of a command. -/
theorem portCommands : Obligations.PortCommands := by
  unfold Obligations.PortCommands
  refine ⟨?_, ?_, ?_, ?_, ?_, ?_, ?_, ?_, ?_, ?_, ?_, ?_, ?_, ?_⟩
  -- NOP, WAVE_WRITE, RAW_COMMAND (R263, R264)
  · intro s p d alive head request opcode free active
    exact done_of_eq ((State.awake_alive alive _).trans
      (State.portSubmit_sent head request opcode.symm rfl (.inl rfl) (.inl rfl) rfl free active))
  · intro s p d alive head request opcode free active quiet
    exact done_of_eq ((State.awake_alive alive _).trans
      (State.portSubmit_sent head request opcode.symm rfl (.inr (.inl rfl)) (.inr quiet) rfl free active))
  · intro s p d op alive head request opcode raw free active quiet
    have notNop : op ≠ 0x01 := by omega
    have takes : isRaw op = true := by
      simp only [isRaw, Bool.and_eq_true, bne_iff_ne]
      omega
    exact done_of_eq ((State.awake_alive alive _).trans
      (State.portSubmit_sent head request opcode takes (.inr (.inr raw)) (.inr quiet) (if_neg notNop).symm free active))
  -- RESP (R264)
  · intro s p addr seq value c alive outstanding active sequence address notMeasure sum
    exact done_of_eq ((State.awake_alive alive _).trans (State.resp_ok outstanding active sequence address notMeasure sum))
  · intro s p addr seq status value c alive outstanding active sequence address notMeasure failed
    exact done_of_eq ((State.awake_alive alive _).trans
      (State.resp_failed outstanding active sequence address notMeasure failed value.toNat))
  -- COMMAND_TIMEOUT (R264)
  · intro s v p c alive others outstanding notMeasure late
    exact done_of_eq ((State.awake_alive alive _).trans (State.cmdTimeout_late others outstanding notMeasure late))
  -- MEASURE, MEASURE_AND_CAPTURE_BASELINE, AUTOMATIC_MEASUREMENT (R265, R268)
  · intro s u h p admits counted idle quiet active
    subst counted
    exact done_of_eq (State.serveCmd_accepted admits (State.measCommand_starts idle quiet active false))
  · intro s u h p admits counted idle quiet active
    subst counted
    exact done_of_eq (State.serveCmd_accepted admits (State.measCommand_starts idle quiet active true))
  · intro s p alive on due idle quiet active
    exact done_of_eq ((State.awake_alive alive _).trans (State.measAuto_due on due idle quiet active))
  -- MEAS_FRAME, MEAS_TIMEOUT (R266)
  · intro s t p addr seq crc data m alive running active sequence address taken sum whole
    exact done_of_eq ((State.awake_alive alive _).trans (State.measFrame_good running active sequence address taken sum whole))
  · intro s p m alive running late
    exact done_of_eq ((State.awake_alive alive _).trans (State.measTimeout_late running late))
  -- JET_WINDOW_CLOSE (R267)
  · intro s p j t0 k alive window ended few
    exact done_of_eq ((State.awake_alive alive _).trans (State.jetClose_transient window ended few))
  -- LOOPBACK_START, LOOPBACK_STOP (R269)
  · intro s u h p mode admits counted out chosen named near idle
    subst counted
    exact done_of_eq (State.serveCmd_accepted admits (State.loopStart_near out chosen named near idle))
  · intro s u h p admits counted
    subst counted
    exact done_of_eq (State.serveCmd_accepted admits rfl)

end Sys2Proof.Machine

/-! PROOFS. Axes and drives (R273 to R289): each request in the state that its row of R275 names, as it is accepted and as it acts, and the tick, the ratio queue, the status frame and the loss of a drive. -/

namespace Sys2Proof.Machine

/-! ## What a request does at its tick (R275) -/

theorem State.actAt_enable {s : State} {a : Nat} (disabled : s.axisState a = 0) (mot : s.mot = true) (drive : s.driveOk a = true) (k : Nat) :
    s.actAt a k .enable = ((if s.flag (axisIdx a) 0x16 then s else s.setAxisPos a (s.i64 (axisIdx a) 0x1A * 2 ^ 32)).axisTo a 1 0, 0) := by
  show s.actEnable a = _
  rw [State.actEnable, if_neg (by simp [mot]), if_neg (not_not.mpr disabled), if_neg (by simp [drive])]

theorem State.actAt_disable {s : State} {a : Nat} (standstill : s.axisState a = 1) (k : Nat) : s.actAt a k .disable = (s.axisTo a 0 0, 0) :=
  if_pos standstill

theorem State.actStart_standstill {s : State} {a : Nat} (standstill : s.axisState a = 1) (mot : s.mot = true) (notSafe : s.safe = false)
    (start : State × Nat) : s.actStart a start = start := by
  simp [State.actStart, standstill, mot, notSafe]

theorem State.actStart_stopping {s : State} {a : Nat} (stopping : s.axisState a = 4) (mot : s.mot = true) (start : State × Nat) :
    s.actStart a start = (s, 0) := by
  simp [State.actStart, stopping, mot]

theorem State.actAt_move {s : State} {a k : Nat} (standstill : s.axisState a = 1) (mot : s.mot = true) (notSafe : s.safe = false)
    (checked : (s.startMove a k (s.reg (axisIdx a) 0x0C == 1) (s.i64 (axisIdx a) 0x0B) (s.reg (axisIdx a) 0x0D) false).2 = 0) :
    s.actAt a k .move = ((s.startMove a k (s.reg (axisIdx a) 0x0C == 1) (s.i64 (axisIdx a) 0x0B) (s.reg (axisIdx a) 0x0D) false).1, 0) :=
  (State.actStart_standstill standstill mot notSafe _).trans (Prod.ext rfl checked)

theorem State.actAt_stop_moving {s : State} {a : Nat} (moving : s.axisState a = 2) (k : Nat) (d : List Nat) :
    s.actAt a k (.stop d) = (s.stopGroup a k d 0, 0) := by
  simp only [State.actAt, State.stopAxis, moving]

theorem State.actAt_stop_geared {s : State} {a : Nat} (geared : s.axisState a = 3) (k : Nat) (d : List Nat) :
    s.actAt a k (.stop d) = (s.stopGear a k d 0, 0) := by
  simp only [State.actAt, State.stopAxis, geared]

theorem State.actAt_stop_stopping {s : State} {a : Nat} (stopping : s.axisState a = 4) (k : Nat) (d : List Nat) :
    s.actAt a k (.stop d) = (s, 0) := by
  simp only [State.actAt, stopping]

theorem State.actAt_gear {s : State} {a : Nat} (standstill : s.axisState a = 1) (mot : s.mot = true) (notSafe : s.safe = false)
    (num : s.i32 (axisIdx a) 0x0E ≠ 0) (den : s.reg (axisIdx a) 0x0F ≠ 0) (k : Nat) :
    s.actAt a k .gear = ((s.updAxis a fun x =>
      { x with gear := some ⟨x.pos, s.enc1, s.i32 (axisIdx a) 0x0E, s.reg (axisIdx a) 0x0F, true⟩ }).axisTo a 3 0, 0) :=
  (State.actStart_standstill standstill mot notSafe _).trans (if_neg (not_or.mpr ⟨num, den⟩))

theorem State.actAt_set {s : State} {a : Nat} (standstill : s.axisState a = 1) (k : Nat) :
    s.actAt a k .set = (((s.setAxisPos a (s.i64 (axisIdx a) 0x13 * 2 ^ 32)).set (axisIdx a) 0x16 1).backupAxis a, 0) :=
  if_pos standstill

theorem State.actAt_clear {s : State} {a : Nat} (fault : s.axisState a = 5) (drive : s.driveOk a = true) (mot : s.mot = true) (k : Nat) :
    s.actAt a k .clear = (s.axisTo a 0 0, 0) := by
  show s.actClear a = _
  rw [State.actClear, if_neg (not_not.mpr fault), if_pos (by simp [drive, mot])]

theorem State.actAt_feed {s t : State} {a k : Nat} {f : Int} (standstill : s.axisState a = 1) (mot : s.mot = true) (notSafe : s.safe = false)
    (starts : s.startMove a k true f 0 true = (t, 0)) :
    s.actAt a k (.feed f) = ({ t with pos := { t.pos with feedPath := (t.axis a).path } }, 0) := by
  simp only [State.actAt, State.actStart_standstill standstill mot notSafe, starts, if_true]

/-! ## Acceptance (R274, R275) -/

/-- A request with result 0 waits for the next tick, unless it is a stop at STANDSTILL, which may take the place of a start. -/
theorem State.axisRequest_accepted {s t : State} {a : Nat} {act : AxisAct} (holds : s.actAt a s.nextTick act = (t, 0))
    (notReplacing : s.axisState a ≠ 1 ∨ ∀ d, act ≠ .stop d) :
    s.axisRequest a act = (State.set { s with motion := { s.motion with acts := s.motion.acts ++ [(a, act)] } } (axisIdx a) 3 0, true) := by
  unfold State.axisRequest
  dsimp only
  rw [holds, if_neg ?_, if_pos rfl]
  · rfl
  · cases act with
    | stop d => simp [notReplacing.resolve_right (· d rfl)]
    | _ => simp

theorem State.axisRequest_stop_replaces {s : State} {a : Nat} (standstill : s.axisState a = 1)
    (waits : (s.motion.acts.filter fun e => !(e.1 == a && e.2.starts)).length ≠ s.motion.acts.length) (d : List Nat) :
    s.axisRequest a (.stop d) =
      (State.set { s with motion := { s.motion with acts := s.motion.acts.filter fun e => !(e.1 == a && e.2.starts) } } (axisIdx a) 3 0, true) :=
  if_pos (by simp only [standstill, beq_self_eq_true, Bool.true_and, bne_iff_ne.mpr waits])

/-! ## The ratio queue (R285) -/

theorem State.gearAppend_taken {s : State} {a : Nat} {b : Bytes} {r : Ratio} (entry : b = s.bytes (axisIdx a) 0x10 0 16)
    (read : r = ⟨toSigned 64 (leAt b 0 8), toSigned 32 (leAt b 8 4), leAt b 12 4⟩) (room : (s.axis a).queue.length < 16) (num : r.num ≠ 0)
    (den : r.den ≠ 0) :
    s.gearAppend a = (((s.updAxis a fun x => { x with queue := x.queue ++ [r], side := if x.queue.isEmpty then sideOf s.enc1 r.at_ else x.side }).set
      (axisIdx a) 0x12 ((s.axis a).queue.length + 1)).set (axisIdx a) 3 0, true) := by
  subst read entry
  exact if_neg (not_or.mpr ⟨Nat.not_le.mpr room, not_or.mpr ⟨num, den⟩⟩)

/-! ## The servo tick (R274) -/

theorem State.servoTick_reached {s t u v w : State} {k : Nat} (tick : k = s.clk.now / s.servoNs) (reached : s.reg 0x2000 6 < k)
    (entries : t = [0, 1, 2, 3].foldl State.driveEntry (s.set 0x2000 6 k)) (acts : u = (t.stepCheck k).actsAt k)
    (paths : v = u.motion.paths.foldl (fun s p => s.tickPath k p) u)
    (gears : w = [0, 1, 2, 3].foldl (fun s a => if s.axisState a = 3 then s.tickGear a else s) v) :
    s.servoTick = State.sendSetpoints { w with motion := { w.motion with enc1 := w.enc1 } } k := by
  subst gears paths acts entries tick
  exact if_neg (Nat.not_le.mpr reached)

/-! ## Status frames and the loss of a drive (R289) -/

/-- A good frame of which at least one entry passes is kept entry by entry, and not counted as refused. -/
theorem State.statusFrame_taken {s : State} {src : Peer} {f : Bytes} {takes : Nat → Bool} (length : f.length = 84) (magic : leAt f 0 2 = 0x434D)
    (version : leAt f 2 1 = 1) (kind : leAt f 3 1 = 2) (sum : leAt f 80 4 = crc32c (f.take 80))
    (cycle : s.motion.sentCycles.contains (leAt f 4 2) = true)
    (entries : takes = fun a => bit (leAt f 6 1) a && s.bytes (axisIdx a) 0x19 0 16 == peerBytes src) (passes : ([0, 1, 2, 3].any takes) = true) :
    s.statusFrame src f = [0, 1, 2, 3].foldl (fun s a =>
      if takes a then s.updAxis a fun x => { x with entry := some (toSigned 64 (leAt f (16 + 16 * a) 8), leAt f (28 + 16 * a) 2) } else s) s := by
  have good : (f.length == 84 && leAt f 0 2 == 0x434D && leAt f 2 1 == 1 && leAt f 3 1 == 2 && leAt f 80 4 == crc32c (f.take 80)
      && s.motion.sentCycles.contains (leAt f 4 2)) = true := by
    simp only [length, magic, version, kind, sum, cycle, beq_self_eq_true, Bool.and_self]
  subst entries
  unfold State.statusFrame
  simp only [good, Bool.true_and]
  exact if_pos passes

theorem State.driveLoss_retained {s : State} {a : Nat} (late : s.reg 0x2000 5 ≤ (s.axis a).missed) (atRest : s.axisState a ≤ 1)
    (retention : s.flag (axisIdx a) 0x17 = true) (referenced : s.flag (axisIdx a) 0x16 = true) : s.driveLoss a = s.axisTo a 6 1 := by
  have notFault : s.axisState a ≠ 5 := by omega
  have notRetained : s.axisState a ≠ 6 := by omega
  unfold State.driveLoss
  dsimp only
  rw [if_neg (by simp [late, notFault, notRetained]), if_pos (by simp [retention, referenced, atRest])]

theorem State.driveLoss_moving {s : State} {a : Nat} (late : s.reg 0x2000 5 ≤ (s.axis a).missed) (moves : 2 ≤ s.axisState a)
    (enabled : s.axisState a ≤ 4) :
    s.driveLoss a = (s.groupOf a).foldl (fun s i => ((s.set (axisIdx i) 0x16 0).raiseAt 203 2 i 10 4 0 0).faultAxis i 1) s := by
  have notFault : s.axisState a ≠ 5 := by omega
  have notRetained : s.axisState a ≠ 6 := by omega
  have notAtRest : ¬s.axisState a ≤ 1 := by omega
  unfold State.driveLoss
  dsimp only
  rw [if_neg (by simp [late, notFault, notRetained]), if_neg (by simp [notAtRest])]

/-- Settles O19: clause by clause, the command's effect in the stated case, under the one end of a command; a request is accepted where it would act. -/
theorem axesAndDrives : Obligations.AxesAndDrives := by
  unfold Obligations.AxesAndDrives
  refine ⟨?_, ?_, ?_, ?_, ?_, ?_, ?_, ?_, ?_, ?_, ?_, ?_, ?_, ?_, ?_, ?_, ?_, ?_, ?_, ?_, ?_, ?_, ?_, ?_, ?_, ?_, ?_, ?_⟩
  -- SERVO_TICK (R274, R286)
  · intro s k alive tick reached
    exact ⟨_, _, _, _, rfl, rfl, rfl, rfl, done_of_eq ((State.awake_alive alive _).trans (State.servoTick_reached tick reached rfl rfl rfl rfl))⟩
  -- ENABLE, DISABLE (R275)
  · intro s u h x admits counted disabled mot drive
    subst counted
    exact done_of_eq (State.serveCmd_accepted admits (State.axisRequest_accepted (State.actAt_enable disabled mot drive _) (.inr nofun)))
  · intro s u h x admits counted standstill
    subst counted
    exact done_of_eq (State.serveCmd_accepted admits (State.axisRequest_accepted (State.actAt_disable standstill _) (.inr nofun)))
  -- START_MOVE: at STANDSTILL, while STOPPING (R275, R276)
  · intro s u h x admits counted standstill mot notSafe checked
    subst counted
    exact done_of_eq (State.serveCmd_accepted admits
      (State.axisRequest_accepted (State.actAt_move standstill mot notSafe checked) (.inr nofun)))
  · intro s u h x admits counted stopping mot
    subst counted
    exact done_of_eq (State.serveCmd_accepted admits (State.axisRequest_accepted (State.actStart_stopping stopping mot _) (.inr nofun)))
  -- STOP: moving, geared, stopping, in the place of a start that waits (R275, R283)
  · intro s u h x admits counted moving
    subst counted
    exact done_of_eq (State.serveCmd_accepted admits (State.axisRequest_accepted (State.actAt_stop_moving moving _ _) (.inl (by omega))))
  · intro s u h x admits counted geared
    subst counted
    exact done_of_eq (State.serveCmd_accepted admits (State.axisRequest_accepted (State.actAt_stop_geared geared _ _) (.inl (by omega))))
  · intro s u h x admits counted stopping
    subst counted
    exact done_of_eq (State.serveCmd_accepted admits (State.axisRequest_accepted (State.actAt_stop_stopping stopping _ _) (.inl (by omega))))
  · intro s u h x admits counted standstill waits
    subst counted
    exact done_of_eq (State.serveCmd_accepted admits (State.axisRequest_stop_replaces standstill waits _))
  -- START_GEARING, SET_POSITION, CLEAR_FAULT (R275, R284)
  · intro s u h x admits counted standstill mot notSafe num den
    subst counted
    exact done_of_eq (State.serveCmd_accepted admits
      (State.axisRequest_accepted (State.actAt_gear standstill mot notSafe num den _) (.inr nofun)))
  · intro s u h x admits counted standstill
    subst counted
    exact done_of_eq (State.serveCmd_accepted admits (State.axisRequest_accepted (State.actAt_set standstill _) (.inr nofun)))
  · intro s u h x admits counted fault drive mot
    subst counted
    exact done_of_eq (State.serveCmd_accepted admits (State.axisRequest_accepted (State.actAt_clear fault drive mot _) (.inr nofun)))
  -- The requests at their tick (R275, R283, R284)
  · intro s x k disabled mot drive referenced
    rw [State.actAt_enable disabled mot drive, if_pos referenced]
  · intro s x k disabled mot drive unreferenced
    rw [State.actAt_enable disabled mot drive, if_neg (ne_true_of_eq_false unreferenced)]
  · exact fun s x k standstill => State.actAt_disable standstill k
  · exact fun s x k standstill mot notSafe checked => State.actAt_move standstill mot notSafe checked
  · exact fun s x k d moving => State.actAt_stop_moving moving k d
  · exact fun s x k d geared => State.actAt_stop_geared geared k d
  · exact fun s x k d stopping => State.actAt_stop_stopping stopping k d
  · exact fun s x k standstill mot notSafe num den => State.actAt_gear standstill mot notSafe num den k
  · exact fun s x k standstill => State.actAt_set standstill k
  · exact fun s x k fault drive mot => State.actAt_clear fault drive mot k
  · exact fun s t x k f standstill mot notSafe starts => State.actAt_feed standstill mot notSafe starts
  -- GEAR_QUEUE_APPEND, GEAR_QUEUE_FLUSH (R285)
  · intro s u h x b r admits counted entry read room num den
    subst counted
    exact done_of_eq (State.serveCmd_accepted admits (State.gearAppend_taken entry read room num den))
  · intro s u h x admits counted
    subst counted
    exact done_of_eq (State.serveCmd_accepted admits rfl)
  -- STATUS_FRAME (R289)
  · intro s src f takes alive length magic version kind sum cycle entries passes
    exact done_of_eq ((State.awake_alive alive _).trans (State.statusFrame_taken length magic version kind sum cycle entries passes))
  -- DRIVE_LOSS: a retained axis, a moving one (R289)
  · intro s x alive late atRest retention referenced
    exact done_of_eq ((State.awake_alive alive _).trans (State.driveLoss_retained late atRest retention referenced))
  · intro s x alive late moves enabled
    exact done_of_eq ((State.awake_alive alive _).trans (State.driveLoss_moving late moves enabled))

end Sys2Proof.Machine

/-! PROOFS. Device time (R295, R299, R303): what commands and idle steps do to the clock, and the forerunner view of aligned time. -/

namespace Sys2Proof.Machine

/-! ## The clock over a step (R295, R303) -/

/-- Settles O46: the effect of the row leaves `State.outer` alone, and so does its end, since nothing is owed. -/
theorem onlyRestartsMoveClockAndBoot : Obligations.OnlyRestartsMoveClockAndBoot := by
  unfold Obligations.OnlyRestartsMoveClockAndBoot
  intro c s t noRestart nothingOwed ran
  obtain ⟨e, answer, outer, -⟩ := exec_concludes_of_not_mayRestart c s noRestart
  have same : t.outer = s.outer := concluded_outer outer nothingOwed (answer.symm.trans ran)
  simp only [State.outer, Prod.mk.injEq] at same
  obtain ⟨pending, idle, clk, boot⟩ := same
  exact ⟨clk, boot, idle, pending⟩

theorem State.idleStep_held {s : State} (held : s.boot.phase = .held) (supplied : s.aon.vbat = true) :
    s.idleStep = { s with clk := s.lfAfter s.idle } := by
  simp only [State.idleStep, held, supplied, if_true]

/-- In KEEP and DEEP only whole LFCLK periods count. -/
theorem State.idleStep_asleep {s : State} (asleep : s.boot.phase = .deep ∨ s.boot.phase = .keep) (supplied : s.aon.vbat = true) :
    s.idleStep = { s with clk := { s.lfAfter s.idle with now := s.clk.now + lfNs * ((s.clk.lfRem + s.idle) / lfNs) } } := by
  rcases asleep with deep | keep
  · simp only [State.idleStep, deep, supplied, if_true]
  · simp only [State.idleStep, keep, supplied, if_true]

/-- While the device runs, RTCLK counts with its steering, and what is left of a nanosecond is carried. -/
theorem State.idleStep_run {s : State} (run : s.boot.phase = .run) (supplied : s.aon.vbat = true) :
    s.idleStep = { s with
      clk := { s.lfAfter s.idle with now := s.clk.now + s.steered s.idle / 1000000000, frac := s.steered s.idle % 1000000000 }
      pos := { s.pos with gen := s.pos.gen + s.reg 0x2800 4 * (s.steered s.idle / 1000000000) } }.lanesDue := by
  simp only [State.idleStep, run, supplied, if_true]

/-- Settles O33: the idle step in each of the phases named. -/
theorem idleStepLetsTimePass : Obligations.IdleStepLetsTimePass := by
  unfold Obligations.IdleStepLetsTimePass
  refine ⟨?_, ?_, ?_⟩
  · intro s n empty run supplied elapsed
    have steered : s.steered s.idle = n := elapsed.symm
    rw [step_of_pending_nil empty, State.idleStep_run run supplied, steered]
  · intro s empty held supplied
    rw [step_of_pending_nil empty, State.idleStep_held held supplied]
  · intro s empty asleep supplied
    rw [step_of_pending_nil empty, State.idleStep_asleep asleep supplied]
    rfl

theorem State.now_le_idleStep (s : State) : s.clk.now ≤ s.idleStep.clk.now := by
  have stands : (if s.aon.vbat then s.lfAfter s.idle else s.clk).now = s.clk.now := by
    split
    · rfl
    · rfl
  unfold State.idleStep
  dsimp only
  split
  · exact stands.ge
  · exact stands.ge
  · exact Nat.le_add_right _ _
  · exact Nat.le_add_right _ _
  · exact Nat.le_add_right _ _

/-- Settles O50: a command carries device time over but for a restart of the clock (`exec_carries`), and an idle step only adds to it. -/
theorem deviceTimeNeverGoesBack : Obligations.DeviceTimeNeverGoesBack := by
  unfold Obligations.DeviceTimeNeverGoesBack
  intro s t stepped
  cases queue : s.pending with
  | nil =>
    rw [step_of_pending_nil queue] at stepped
    cases stepped
    exact .inl s.now_le_idleStep
  | cons c rest =>
    rw [step_of_pending_cons queue] at stepped
    obtain ⟨⟨-, -, now⟩, -⟩ := exec_carries stepped
    exact now.imp_left Eq.ge

/-! ## The forerunner view (R299) -/

theorem State.foreSec_cast (s : State) : (s.foreSec : Int) = s.aligned.fdiv 1000000000 % (2 ^ 48 : Int) := by
  rw [Int.fdiv_eq_ediv_of_nonneg _ (by decide)]
  exact Int.toNat_of_nonneg (Int.emod_nonneg _ (by decide))

theorem State.foreNs_cast (s : State) : (s.foreNs : Int) = s.aligned.fmod 1000000000 := by
  rw [Int.fmod_eq_emod_of_nonneg _ (by decide)]
  exact Int.toNat_of_nonneg (Int.emod_nonneg _ (by decide))

theorem State.foreSec_lt (s : State) : s.foreSec < 2 ^ 48 := by
  have below : (s.foreSec : Int) < 2 ^ 48 := by
    rw [s.foreSec_cast]
    exact Int.emod_lt_of_pos _ (by decide)
  exact_mod_cast below

theorem State.foreNs_lt (s : State) : s.foreNs < 1000000000 := by
  have below : (s.foreNs : Int) < 1000000000 := by
    rw [s.foreNs_cast]
    exact Int.fmod_lt_of_pos _ (by decide)
  exact_mod_cast below

/-- A read of exactly a string's bytes gives the string. -/
theorem part_whole {b : Bytes} {n : Nat} (length : b.length = n) : part b 0 n = b := by
  subst length
  simp [part, slice, fit]

theorem State.domRead_forerunner (s : State) : s.domRead 0x1002 3 0 12 = leBytes 6 s.foreSec ++ leBytes 4 s.foreNs ++ leBytes 2 s.epoch :=
  part_whole (by simp [length_leBytes])

/-- Settles O39: floor division and remainder of aligned time, and the objects that show them. -/
theorem forerunnerView : Obligations.ForerunnerView := by
  unfold Obligations.ForerunnerView
  refine ⟨fun s => ?_, fun s => ?_⟩
  · exact ⟨s.foreSec_cast, s.foreNs_cast, s.foreSec_lt, s.foreNs_lt⟩
  · exact ⟨rfl, rfl, s.domRead_forerunner⟩

end Sys2Proof.Machine

/-! PROOFS. Network time (R300 to R311): each message, rebase, trigger and capture in the case that its clause states. -/

namespace Sys2Proof.Machine

/-! ## Messages of a tracked domain (R300, R301, R302) -/

section Tracked
variable {s : State} {domain transport b : Nat} (tracked : s.domOf domain transport = some b)
include tracked

/-- A Sync of the parent: a two-step one waits for its Follow_Up, a one-step one is measured at once. -/
theorem State.ptpSync_parent {fn src : Nat} (parent : s.fromParent b fn src = true) (listens : 2 ≤ s.reg (domIdx b) 5) (seq corr : Nat) (twoStep : Bool)
    (logInterval origin : Nat) :
    s.ptpSync domain transport fn src seq corr twoStep logInterval origin =
      let heard := (s.set (domIdx b) 0x0B logInterval).updDom b fun d => { d with last := s.clk.now }
      let left := (ptpNs origin : Int) + corrNs corr
      if twoStep then heard.updDom b fun d => { d with waiting := some (seq, s.clk.now, corrNs corr) }
      else (heard.measureDom b left s.clk.now).askDelay b fn left s.clk.now := by
  simp only [State.ptpSync, tracked]
  exact if_neg (by simp [parent, Nat.not_lt.mpr listens])

theorem State.followUp_awaited {fn src seq t2 : Nat} {c : Int} (waits : (s.dom b).waiting = some (seq, t2, c)) (parent : s.fromParent b fn src = true)
    (corr origin : Nat) :
    s.followUp domain transport fn src seq corr origin =
      let left := (ptpNs origin : Int) + c + corrNs corr
      ((s.updDom b fun d => { d with waiting := none }).measureDom b left t2).askDelay b fn left t2 := by
  simp only [State.followUp, tracked, waits]
  exact if_neg (by simp [parent])

theorem State.announced_tracked {c p : Cand} {l : List Cand} {u : State}
    (cands : l = c :: (s.dom b).cands.filter fun x => !(x.fn == c.fn && x.src == c.src)) (best : p = l.foldl Cand.pick c)
    (shown : u = ((s.updDom b fun d => { d with
          cands := l
          parent := some p
          waiting := if s.fromParent b p.fn p.src then d.waiting else none
          delayReq := if s.fromParent b p.fn p.src then d.delayReq else none }).set (domIdx b) 9 p.identity).setBytes (domIdx b) 0x0A 0
        (leBytes 1 p.priority1 ++ leBytes 1 p.cls ++ leBytes 1 p.accuracy ++ leBytes 2 p.variance ++ leBytes 1 p.priority2 ++ leBytes 1 p.fn ++ [0])) :
    s.announced domain transport c = (if u.reg (domIdx b) 5 = 1 then u.domTo b 2 else u).qualitySwitch b := by
  subst shown best cands
  simp only [State.announced, tracked]

theorem State.delayResp_asked {fn src seq t3 t2 : Nat} {t1 : Int} (asked : (s.dom b).delayReq = some (seq, t3, t1, t2))
    (parent : s.fromParent b fn src = true) (endToEnd : s.p2p b = false) (corr rx : Nat) :
    s.delayResp domain transport fn src seq corr rx =
      (s.updDom b fun d => { d with delayReq := none }).set (domIdx b) 7
        (clampInt 0 4294967295 ((((t2 : Int) - t1) + ((ptpNs rx : Int) - corrNs corr - t3)) / 2)).toNat := by
  simp only [State.delayResp, tracked, asked]
  exact if_neg (by simp [parent, endToEnd])

theorem State.pdelayAsked_p2p (peerToPeer : s.p2p b = true) (fn src seq corr : Nat) :
    s.pdelayAsked domain transport fn src seq corr =
      s.send (.ptp fn transport) (ptpMessage 3 domain fn seq corr (zeros 10 ++ beBytes 10 src)) := by
  simp only [State.pdelayAsked, tracked, peerToPeer, if_true]

/-- A response on the port of the parent: the link delay is the domain's path delay too. -/
theorem State.pdelayResp_ofParent {fn seq t1 corr rx tx delay : Nat} {p : Cand} (asked : sfind fn (s.dom b).pdelayReq = some (seq, t1))
    (peerToPeer : s.p2p b = true)
    (measured : delay = (clampInt 0 4294967295 (((s.clk.now - t1 : Nat) - ((ptpNs tx : Int) - ptpNs rx) - corrNs corr) / 2)).toNat)
    (parent : (s.dom b).parent = some p) (port : p.fn = fn) :
    s.pdelayResp domain transport fn seq corr rx tx =
      (s.updDom b fun d => { d with pdelayReq := serase fn d.pdelayReq, linkDelay := sset 0 d.linkDelay fn delay }).set (domIdx b) 7 delay := by
  subst measured
  simp only [State.pdelayResp, tracked, asked, peerToPeer, parent, port, ne_eq, not_true, Bool.true_eq_false, or_self, if_false, if_true]

end Tracked

theorem State.syncLost_due {s : State} {b : Nat} (locked : s.reg (domIdx b) 5 = 3)
    (due : (s.dom b).last + syncNs (s.reg (domIdx b) 0x0C) (s.reg (domIdx b) 0x0B) ≤ s.clk.now) :
    s.syncLost b = ((s.updDom b fun d => { d with cands := [], parent := none, good := 0, bad := 0, waiting := none, delayReq := none }).bump
      (domIdx b) 0x0E).domTo b 1 :=
  if_pos ⟨locked, due⟩

/-! ## Enabling a domain (R301) -/

/-- The dictionary's row of a domain's enable: A is enabled by default, B is not. -/
def domainEnableRow (b : Bool) : Obj := ⟨0x1010 + b2n b, 1, 1, 4, 1, .b, 1, .rw, true, false, b2n !b, .any⟩

theorem lookup_domainEnable (b : Bool) : lookup (0x1010 + b2n b) 4 = some (domainEnableRow b) := by
  cases b <;> rfl

theorem State.put'_domainEnable (s : State) (b : Bool) (v : Nat) : s.put' (0x1010 + b2n b) 4 v = s.domainEnable (b2n b) v := by
  cases b <;> rfl

/-- An admitted write of a domain's enable is taken. -/
theorem State.wrote_domainEnable {s : State} {h : FopHead} {b : Bool} {v : Nat} (admits : s.Admits h 2 (obj (0x1010 + b2n b) 4)) (range : v ≤ 1) :
    s.wrote h (0x1010 + b2n b) 4 1 v =
      ((s.counted h).domainEnable (b2n b) v).fopReply h (s.ownAddr h.peer) 2 (obj (0x1010 + b2n b) 4) St.ok [] := by
  have row := lookup_domainEnable b
  have below : 0x1010 + b2n b < 0x7C00 := by cases b <;> decide
  have taken : (s.counted h).writeScalar (0x1010 + b2n b) 4 v = ((s.counted h).domainEnable (b2n b) v, St.ok) := by
    rw [← State.put'_domainEnable]
    refine State.writeScalar_put _ row (by simp [inRange, domainEnableRow, range]) ?_ ?_ ?_ (.inl below)
    all_goals cases b <;> rfl
  have writable : accessOf (0x1010 + b2n b) 4 (domainEnableRow b) ≠ .ro := by cases b <;> decide
  have reaches := State.wrote_scalar admits row writable (by omega) (by simp [domainEnableRow]) (by simp [domainEnableRow]) (show v < 256 ^ 1 by omega)
  rwa [taken] at reaches

/-! ## The transparent clock (R302) -/

section Forward
variable {s : State} {fn transport : Nat} {m : Bytes} (alive : s.alive = true) (through : s.reg 0x1804 0 = 1) (up : s.fnUp fn = true)
  (otherUp : s.fnUp (1 - fn) = true) (header : 34 ≤ m.length) (untracked : s.domOf (leAt m 4 1) transport = none)
include alive through up otherUp header untracked

/-- A one-step Sync of a domain that is not tracked is corrected by its residence alone. -/
theorem State.ptpForward_oneStepSync (sync : leAt m 0 1 % 16 = 0) (oneStep : bit (leAt m 6 1) 1 = false) (residence : Nat) :
    s.ptpForward fn transport m residence = s.send (.ptp (1 - fn) transport) (addCorr m residence) := by
  simp [State.ptpForward, State.flag, alive, through, up, otherUp, header, untracked, sync, oneStep]

/-- A general message other than Follow_Up leaves as it came; here Delay_Resp. -/
theorem State.ptpForward_delayResp (delayResp : leAt m 0 1 % 16 = 9) (residence : Nat) :
    s.ptpForward fn transport m residence = s.send (.ptp (1 - fn) transport) m := by
  simp [State.ptpForward, State.flag, alive, through, up, otherUp, header, untracked, delayResp]

end Forward

/-! ## Rebases (R307, R308) -/

/-- A rebase off the board enters the next epoch at once, its alignment moved by the offset. -/
theorem State.rebaseCommand_accepted {s : State} (free : s.rebaseCheck = 0) (alone : s.onBoard = false) :
    s.rebaseCommand = ((s.set 0x1000 0x0A 0).rebaseTo ((s.epoch + 1) % 2 ^ 16) (s.i64 0x1000 3 + s.i64 0x1000 7), true) := by
  have epoch : (s.set 0x1000 0x0A 0).epoch = s.epoch := reg_set_ne s 0 (by decide)
  have alignment : (s.set 0x1000 0x0A 0).i64 0x1000 3 = s.i64 0x1000 3 := congrArg (toSigned 64) (reg_set_ne s 0 (by decide))
  have offset : (s.set 0x1000 0x0A 0).i64 0x1000 7 = s.i64 0x1000 7 := congrArg (toSigned 64) (reg_set_ne s 0 (by decide))
  have alone' : (s.set 0x1000 0x0A 0).onBoard = false := (onBoard_set s _ _ 0 (by decide)).trans alone
  simp [State.rebaseCommand, State.rebaseStart, free, epoch, alignment, offset, alone']

theorem State.initialRebase_due {s : State} (automatic : s.reg 0x1000 0x0D = 1) (first : s.epoch = 0) (free : s.rebaseCheck = 0)
    (noneTaken : s.board.rebase = none) : s.initialRebase = s.rebaseCommand.1 :=
  if_pos (by simp [State.flag, automatic, first, free, noneTaken])

/-! ## Triggers and captures (R309, R311) -/

theorem State.triggerArm_oneShot {s : State} {t : Nat} {edge : Int} (instant : edge = s.reg (0x1030 + t) 2 - s.i64 0x1000 3)
    (oneShot : s.reg (0x1030 + t) 1 = 1) (unarmed : s.reg (0x1030 + t) 7 ≠ 1) (ahead : s.clk.now + 1000 ≤ edge) (width : s.reg (0x1030 + t) 4 ≠ 0) :
    s.triggerArm t = (((s.set (0x1030 + t) 8 0).set (0x1030 + t) 7 1).setTrig t { s.trig t with due := some edge.toNat }, true) := by
  subst instant
  simp [State.triggerArm, oneShot, unarmed, width, Int.not_lt.mpr ahead]

theorem State.triggerDisarm_armed {s : State} {t : Nat} (armed : s.reg (0x1030 + t) 7 = 1) :
    s.triggerDisarm t = (((s.set (0x1030 + t) 8 0).set (0x1030 + t) 7 0).setTrig t { s.trig t with due := none }, true) :=
  if_neg (not_not.mpr armed)

theorem State.triggerEdge_reached {s : State} {t d : Nat} (due : (s.trig t).due = some d) (reached : d ≤ s.clk.now) :
    s.triggerEdge t =
      let pulse := (s.setTrig t ⟨if s.reg (0x1030 + t) 1 == 1 then none else some (d + s.reg (0x1030 + t) 3), some (d + s.reg (0x1030 + t) 4)⟩).count
        (0x1030 + t) 9 32 1
      (if s.reg (0x1030 + t) 1 == 1 then pulse.set (0x1030 + t) 7 2 else pulse).raise (216 + t) 0 (d % 2 ^ 32) := by
  simp only [State.triggerEdge, due]
  exact if_neg (Nat.not_lt.mpr reached)

theorem State.triggerPulseEnd_reached {s : State} {t d : Nat} (off : (s.trig t).off = some d) (reached : d ≤ s.clk.now) :
    s.triggerPulseEnd t = s.setTrig t { s.trig t with off := none } := by
  simp only [State.triggerPulseEnd, off, reached, if_true]

/-- A capture that reports into no ring. -/
theorem State.captureEdge_noRing {s : State} {c t : Nat} {rising : Bool} (alive : s.alive = true)
    (enabled : bit (s.reg (0x1040 + c) 1) (if rising then 0 else 1) = true) (instant : t = s.clk.now - s.reg (0x1040 + c) 2)
    (noRing : s.reg (0x1040 + c) 3 = 0xFF) :
    s.captureEdge c rising =
      (((s.set (0x1040 + c) 4 t).set (0x1040 + c) 5 (s.epochAt t)).count (0x1040 + c) 6 32 1).raise (220 + c) 0 (t % 2 ^ 32 + b2n rising * 2 ^ 32) := by
  subst instant
  unfold State.captureEdge
  dsimp only
  rw [if_neg (by simp [alive, enabled]), if_pos noRing]

/-- Settles O20: clause by clause, the command's effect in the stated case, under the one end of a command. -/
theorem networkTime : Obligations.NetworkTime := by
  unfold Obligations.NetworkTime
  refine ⟨?_, ?_, ?_, ?_, ?_, ?_, ?_, ?_, ?_, ?_, ?_, ?_, ?_, ?_, ?_, ?_, ?_, ?_⟩
  -- SYNC: one step, two steps (R301)
  · intro s t y b x alive tracked parent listens oneStep left
    subst left
    exact done_of_eq ((State.awake_alive alive _).trans
      ((State.ptpSync_parent tracked parent listens _ _ _ _ _).trans (if_neg (ne_true_of_eq_false oneStep))))
  · intro s t y b alive tracked parent listens twoStep
    exact done_of_eq ((State.awake_alive alive _).trans ((State.ptpSync_parent tracked parent listens _ _ _ _ _).trans (if_pos twoStep)))
  -- FOLLOW_UP (R300)
  · intro s t origin b q t2 c x alive tracked waits sequence parent left
    subst sequence left
    exact done_of_eq ((State.awake_alive alive _).trans (State.followUp_awaited tracked waits parent _ _))
  -- ANNOUNCE (R301, R305)
  · intro s t y b c p l alive tracked announced cands best
    subst announced
    exact ⟨_, rfl, done_of_eq ((State.awake_alive alive _).trans (State.announced_tracked tracked cands best rfl))⟩
  -- DELAY_RESP, PDELAY_REQ, PDELAY_RESP (R300, R302)
  · intro s t rx b q t3 t2 t1 alive tracked asked sequence parent endToEnd
    subst sequence
    exact done_of_eq ((State.awake_alive alive _).trans (State.delayResp_asked tracked asked parent endToEnd _ _))
  · intro s t b alive tracked peerToPeer
    exact done_of_eq ((State.awake_alive alive _).trans (State.pdelayAsked_p2p tracked peerToPeer _ _ _ _))
  · intro s t rx tx b q t1 delay p alive tracked asked sequence peerToPeer measured parent port
    subst sequence
    exact done_of_eq ((State.awake_alive alive _).trans (State.pdelayResp_ofParent tracked asked peerToPeer measured parent port))
  -- TRANSPARENT_CLOCK_FORWARD: a one-step Sync, a Delay_Resp (R302)
  · intro s fn transport m residence alive through up otherUp header untracked sync oneStep
    exact done_of_eq ((State.awake_alive alive _).trans
      (State.ptpForward_oneStepSync alive through up otherUp header untracked sync oneStep _))
  · intro s fn transport m residence alive through up otherUp header untracked delayResp
    exact done_of_eq ((State.awake_alive alive _).trans (State.ptpForward_delayResp alive through up otherUp header untracked delayResp _))
  -- SYNC_LOSS_TIMEOUT (R301)
  · intro s b alive locked due
    exact done_of_eq ((State.awake_alive alive _).trans (State.syncLost_due locked due))
  -- DOMAIN_ENABLE_WRITE (R301)
  · intro s u h b v admits counted range
    subst counted
    exact done_of_eq (State.wrote_domainEnable admits range)
  -- REBASE_COMMAND, INITIAL_REBASE (R307, R308)
  · intro s u h admits counted free alone
    subst counted
    exact done_of_eq (State.serveCmd_accepted admits (State.rebaseCommand_accepted free alone))
  · intro s alive automatic first free noneTaken alone
    refine done_of_eq ?_
    calc s.awake State.initialRebase
        = s.rebaseCommand.1 := (State.awake_alive alive _).trans (State.initialRebase_due automatic first free noneTaken)
      _ = (s.set 0x1000 0x0A 0).rebaseTo 1 (s.i64 0x1000 3 + s.i64 0x1000 7) := by
        simp [State.rebaseCommand_accepted free alone, first]
  -- TRIGGER_ARM, TRIGGER_DISARM (R309)
  · intro s u h t x edge admits counted object instant oneShot unarmed ahead width
    subst object counted
    exact done_of_eq (State.serveCmd_accepted admits (State.triggerArm_oneShot instant oneShot unarmed ahead width))
  · intro s u h t x admits counted object armed
    subst object counted
    exact done_of_eq (State.serveCmd_accepted admits (State.triggerDisarm_armed armed))
  -- TRIGGER_EDGE, TRIGGER_PULSE_END (R309)
  · intro s t x d alive object due reached
    subst object
    exact done_of_eq ((State.awake_alive alive _).trans (State.triggerEdge_reached due reached))
  · intro s t d alive off reached
    exact done_of_eq ((State.awake_alive alive _).trans (State.triggerPulseEnd_reached off reached))
  -- CAPTURE_EDGE (R311)
  · intro s c rising x t alive object enabled instant noRing
    subst object
    exact done_of_eq ((State.awake_alive alive _).trans (State.captureEdge_noRing alive enabled instant noRing))

end Sys2Proof.Machine

/-! PROOFS. The canonical form of the memories over a step (R340, R342, R410): the writes of DRAM, staging and flash keep it, and so does every command made of them. -/

namespace Sys2Proof.Machine

-- One proof after another, so that the whole text is checked within the memory of one process.
set_option Elab.async false

/-! ## The canonical form as a relation between states -/

/-- DRAM, its parity marks, the staging and the flash of a state are in canonical form. -/
abbrev State.storesCanon (s : State) : Prop := storesWf s.mem s.memBad s.staging s.flash = true

/-- From a canonical state an operation comes to a canonical one. -/
def State.KeepsCanon (s t : State) : Prop := s.storesCanon → t.storesCanon

theorem State.KeepsCanon.refl (s : State) : s.KeepsCanon s := id

theorem State.KeepsCanon.trans {s t u : State} (first : s.KeepsCanon t) (second : t.KeepsCanon u) : s.KeepsCanon u := second ∘ first

/-- What leaves flash and DRAM with staging alone keeps their form. -/
theorem State.keepsCanon_of_frames {s t : State} (kept : t.kept = s.kept) (ram : t.ram = s.ram) : s.KeepsCanon t := by
  simp only [State.kept, State.ram, Prod.mk.injEq] at kept ram
  intro canon
  rw [State.storesCanon, ram.1, ram.2.1, ram.2.2, kept.1]
  exact canon

theorem State.keepsCanon_of_still {s t : State} (still : t.still = s.still) : s.KeepsCanon t :=
  State.keepsCanon_of_frames (State.still_kept still) (State.still_ram still)

theorem State.KeepsCanon.still {s t u : State} (first : s.KeepsCanon t) (still : u.still = t.still) : s.KeepsCanon u :=
  first.trans (State.keepsCanon_of_still still)

/-- An operation that leaves the memories alone, then one that keeps their form. -/
theorem State.KeepsCanon.after {s t u : State} (second : t.KeepsCanon u) (still : t.still = s.still) : s.KeepsCanon u :=
  (State.keepsCanon_of_still still).trans second

/-- Then an update of other fields than the memories. -/
theorem State.KeepsCanon.updating {s t u : State} (first : s.KeepsCanon t) (mem : u.mem = t.mem := by rfl) (bad : u.memBad = t.memBad := by rfl)
    (staging : u.staging = t.staging := by rfl) (flash : u.flash = t.flash := by rfl) : s.KeepsCanon u := by
  intro canon
  rw [State.storesCanon, mem, bad, staging, flash]
  exact first canon

/-- After an update of other fields than the memories. -/
theorem State.KeepsCanon.updated {s t u : State} (second : t.KeepsCanon u) (mem : t.mem = s.mem := by rfl) (bad : t.memBad = s.memBad := by rfl)
    (staging : t.staging = s.staging := by rfl) (flash : t.flash = s.flash := by rfl) : s.KeepsCanon u :=
  ((State.KeepsCanon.refl s).updating mem bad staging flash).trans second

theorem State.keepsCanon_ite {c : Prop} [Decidable c] {s t u : State} (yes : c → s.KeepsCanon t) (no : ¬c → s.KeepsCanon u) :
    s.KeepsCanon (if c then t else u) := by
  split
  · exact yes ‹_›
  · exact no ‹_›

theorem State.keepsCanon_foldl {α : Type} {f : State → α → State} (keeps : ∀ (s : State) (a : α), s.KeepsCanon (f s a)) (l : List α) (s : State) :
    s.KeepsCanon (l.foldl f s) := by
  induction l generalizing s with
  | nil => exact .refl s
  | cons a l ih => exact (keeps s a).trans (ih _)

/-! ## Writes of the memories -/

/-- A state with its memories alone: the canonical form of a whole state (`State.canon`) then says that of its memories. -/
def State.bare (s : State) : State := { s with main := State.reset.main, ev := State.reset.ev }

theorem State.bare_canon (s : State) : s.bare.canon = true ↔ s.storesCanon := by
  simp [State.bare, State.canon, show State.reset.main.wf = true from rfl, show State.reset.ev.bank.wf = true from rfl]

theorem State.memWrite_keepsCanon (s : State) (a : Nat) (bs : Bytes) : s.KeepsCanon (s.memWrite a bs) := fun canon =>
  State.canon_stores (s.bare.memWrite a bs) (s.bare.memWrite_canon a bs (s.bare_canon.2 canon))

theorem State.flashWrite_keepsCanon (s : State) (a : Nat) (bs : Bytes) : s.KeepsCanon (s.flashWrite a bs) := fun canon =>
  State.canon_stores (s.bare.flashWrite a bs) (s.bare.flashWrite_canon a bs (s.bare_canon.2 canon))

/-- Bytes written into the staging. -/
theorem State.stage_keepsCanon (s : State) (a : Nat) (bs : Bytes) : s.KeepsCanon { s with staging := spatch a bs s.staging } := by
  intro canon
  obtain ⟨mem, bad, staging, flash⟩ := (storesWf_iff _ _ _ _).1 canon
  exact (storesWf_iff _ _ _ _).2 ⟨mem, bad, srising_spatch a bs staging, flash⟩

theorem sproper_sset {α : Type} [DecidableEq α] (d : α) {m : Sparse α} (k : Nat) (v : α) (h : sproper (fun _ => d) m = true) :
    sproper (fun _ => d) (sset d m k v) = true := by
  unfold sset
  split
  · exact sproper_serase _ k h
  · next other => exact sproper_sinsert _ k v other h

/-- A test window puts a byte of DRAM with its mark (R350). -/
theorem State.windowPut_keepsCanon (s : State) (off : Nat) (v : Byte) (good : Bool) : s.KeepsCanon (s.windowPut off v good) := by
  unfold State.windowPut
  split
  · intro canon
    obtain ⟨mem, bad, rest⟩ := (storesWf_iff _ _ _ _).1 canon
    exact (storesWf_iff _ _ _ _).2 ⟨srising_sinsert _ v mem, ⟨srising_sset _ _ _ bad.1, sproper_sset _ _ _ bad.2⟩, rest⟩
  · exact .refl s

theorem State.windowWrite_keepsCanon (s : State) (off : Nat) (bs : Bytes) : s.KeepsCanon (s.windowWrite off bs) :=
  State.keepsCanon_foldl (fun s _ => s.windowPut_keepsCanon _ _ _) _ s

theorem State.parityWrite_keepsCanon (s : State) (off : Nat) (bs : Bytes) : s.KeepsCanon (s.parityWrite off bs) :=
  State.keepsCanon_foldl (fun s _ => s.windowPut_keepsCanon _ _ _) _ s

theorem State.domWrite_keepsCanon (s : State) (idx sub off : Nat) (bytes : Bytes) : s.KeepsCanon (s.domWrite idx sub off bytes) := by
  unfold State.domWrite
  refine State.keepsCanon_ite (fun _ => .refl s) fun _ => ?_
  refine State.keepsCanon_ite (fun _ => State.keepsCanon_of_still (by simp)) fun _ => ?_
  refine State.keepsCanon_ite (fun _ => State.keepsCanon_of_still (by simp)) fun _ => ?_
  refine State.keepsCanon_ite (fun _ => s.stage_keepsCanon _ _) fun _ => ?_
  refine State.keepsCanon_ite (fun _ => s.windowWrite_keepsCanon _ _) fun _ => ?_
  refine State.keepsCanon_ite (fun _ => s.parityWrite_keepsCanon _ _) fun _ => ?_
  exact State.keepsCanon_ite (fun _ => State.keepsCanon_of_still (by simp)) fun _ => State.keepsCanon_of_still (by simp)

theorem State.writeDomain_keepsCanon (s : State) (idx sub off : Nat) (b : Bytes) : s.KeepsCanon (s.writeDomain idx sub off b).1 := by
  unfold State.writeDomain
  split
  · exact .refl s
  · exact (s.domWrite_keepsCanon idx sub off b).still (by simp)

/-! ## Lines of the page store: renders, repairs, poison (R183, R201, R203, R204, R335) -/

theorem State.writePortLine_keepsCanon (s : State) (p : Page) (g : Gen) (jb : Job) (n y : Nat) : s.KeepsCanon (s.writePortLine p g jb n y) := by
  unfold State.writePortLine
  extract_lets r dose row s1 crcs flags
  have dosed : s.KeepsCanon s1 := s.memWrite_keepsCanon _ _
  clear_value s1
  refine State.keepsCanon_ite (fun _ => dosed.still (by simp)) fun _ => ?_
  exact ((dosed.trans (s1.memWrite_keepsCanon _ _)).still (State.updPage_still ..)).still (State.count_still ..)

theorem State.writePortLines_keepsCanon (s : State) (g : Gen) (jb : Job) (y : Nat) (ns : List Nat) : s.KeepsCanon (s.writePortLines g jb y ns) := by
  refine State.keepsCanon_foldl (fun s n => ?_) ns s
  split
  · exact s.writePortLine_keepsCanon _ _ _ _ _
  · exact .refl s

theorem State.poisonStore_keepsCanon (s : State) (p : Page) (y mask : Nat) : s.KeepsCanon (s.poisonStore p y mask) := s.memWrite_keepsCanon _ _

theorem State.storePoison_keepsCanon (s : State) (num line ports : Nat) : s.KeepsCanon (s.storePoison num line ports) := by
  unfold State.storePoison
  split
  · exact .refl s
  · exact (s.poisonStore_keepsCanon _ _ _).still (State.updSlices_still ..)

theorem State.dropRepair_keepsCanon (s : State) (r : Repair) : s.KeepsCanon (s.dropRepair r) := by
  unfold State.dropRepair
  extract_lets render store s1
  exact (State.KeepsCanon.after (t := s1) (s1.storePoison_keepsCanon _ _ _) (State.still_mk ..)).still (State.repairEvent_still ..)

theorem State.dropUnbound_keepsCanon (s : State) : s.KeepsCanon s.dropUnbound := by
  unfold State.dropUnbound
  refine State.KeepsCanon.trans (State.keepsCanon_foldl (fun s r => ?_) _ s) (State.keepsCanon_foldl (fun s j => ?_) _ _)
  · split
    · exact State.keepsCanon_ite (fun _ => .refl s) fun _ => s.dropRepair_keepsCanon r
    · exact .refl s
  · split
    · exact State.keepsCanon_ite (fun _ => .refl s) fun _ => State.keepsCanon_of_still (by simp)
    · exact .refl s

theorem State.sourceLost_keepsCanon (s : State) (jb : Job) (reason : Nat) : s.KeepsCanon (s.sourceLost jb reason) := by
  unfold State.sourceLost
  split
  · split
    · exact (State.dropRepair_keepsCanon _ _).after (by simp)
    · exact .refl s
  · exact State.keepsCanon_of_still (by simp)

theorem State.cacheFault_keepsCanon (s : State) (jb : Job) (need : List TileRef) (cache : Restored) : s.KeepsCanon (s.cacheFault jb need cache) := by
  unfold State.cacheFault
  split
  · exact .refl s
  · exact .refl s
  · exact State.keepsCanon_of_still (by simp)
  · exact (State.sourceLost_keepsCanon _ _ _).after (by simp)

theorem State.storeError_keepsCanon (s : State) (p : Page) (inst line ports : Nat) : s.KeepsCanon (s.storeError p inst line ports) := by
  unfold State.storeError
  extract_lets n s1 s2 left
  have marked : s1.still = s.still := by
    refine foldl_still _ _ _ fun s mk => ?_
    (repeat' split) <;> simp
  have dropped : s2.still = s.still := (State.dropCmps_still s1 p.num inst line ports).trans marked
  clear_value s2
  refine State.keepsCanon_ite (fun _ => State.keepsCanon_of_still ?_) fun _ => (s2.storePoison_keepsCanon _ _ _).after dropped
  simp [dropped]

theorem State.poisonLines_keepsCanon (s : State) (p : Page) : s.KeepsCanon (s.poisonLines p) :=
  State.keepsCanon_foldl (fun s _ => State.keepsCanon_ite (fun _ => .refl s) fun _ => s.poisonStore_keepsCanon _ _ _) _ s

end Sys2Proof.Machine

namespace Sys2Proof.Machine

-- One proof after another, so that the whole text is checked within the memory of one process.
set_option Elab.async false

/-! ## Renders and repairs (R163, R167, R204) -/

theorem State.walkLine_keepsCanon (s : State) (chart : Restored) : s.KeepsCanon (s.walkLine chart) := by
  unfold State.walkLine
  split
  · exact .refl s
  · refine State.keepsCanon_ite (fun _ => .refl s) fun _ => ?_
    extract_lets s1 d n first ask
    have read : s1.still = s.still := by
      simp only [s1]
      split <;> simp
    clear_value s1
    refine State.keepsCanon_ite (fun _ => (s1.sourceLost_keepsCanon _ _).after read) fun _ => ?_
    refine State.keepsCanon_ite (fun _ => (s1.sourceLost_keepsCanon _ _).after read) fun _ => ?_
    exact State.keepsCanon_of_still (by simp [read])

theorem State.pipeLine_keepsCanon (s : State) (k waited : Nat) (cache : Restored) : s.KeepsCanon (s.pipeLine k waited cache) := by
  unfold State.pipeLine
  split
  · exact .refl s
  · extract_lets at_ y next render
    split
    · exact .refl s
    · extract_lets need used rest s1 s2 s3
      have worked : s2.still = s.still := by simp [s2, s1]
      have faulted : s.KeepsCanon s3 := (s2.cacheFault_keepsCanon _ _ _).after worked
      clear_value s3
      refine State.keepsCanon_ite (fun _ => .refl s) fun _ => ?_
      refine State.keepsCanon_ite (fun _ => s.sourceLost_keepsCanon _ _) fun _ => ?_
      refine State.keepsCanon_ite (fun _ => State.keepsCanon_of_still (by simp)) fun _ => ?_
      refine State.keepsCanon_ite (fun _ => s.cacheFault_keepsCanon _ _ _) fun _ => ?_
      exact State.keepsCanon_ite (fun _ => faulted) fun _ => faulted.trans (s3.writePortLines_keepsCanon _ _ _ _)

theorem State.repairStart_keepsCanon (s : State) : s.KeepsCanon s.repairStart := by
  unfold State.repairStart
  split
  · exact .refl s
  · refine State.keepsCanon_ite (fun _ => .refl s) fun _ => ?_
    split
    · exact .refl s
    · exact State.keepsCanon_ite (fun _ => s.dropRepair_keepsCanon _) fun _ => State.keepsCanon_of_still (by simp)

theorem State.repairDone_keepsCanon (s : State) : s.KeepsCanon s.repairDone := by
  unfold State.repairDone
  split
  · exact .refl s
  · split
    · split
      · extract_lets s0 render store s1 s2
        have written : s.KeepsCanon s0 := s.writePortLines_keepsCanon _ _ _ _
        have same : s2.still = s0.still := (State.still_mk ..).trans (State.still_mk ..)
        exact written.still (by simp [same])
      · exact .refl s
    · exact .refl s

/-! ## Readout (R25, R26, R203, R211, R254) -/

theorem State.trailerFailed_keepsCanon (s : State) (p : Page) (inst line : Nat) (late parity : Bool) :
    s.KeepsCanon (s.trailerFailed p inst line late parity) := by
  unfold State.trailerFailed
  extract_lets s' mine crcOf old t s1 s2 rp sp
  have read : s'.still = s.still := State.readUncarried_still ..
  have noted : (if parity then s'.parityIn 9 0xFFFF 2 2 (p.trailerAddr line) 92 p.num else s').still = s.still := by simp [read]
  have written : s.KeepsCanon s2 := by
    refine ((s'.memWrite_keepsCanon (p.trailerAddr line) t).after read).still ?_
    simp only [s2, s1]
    split <;> simp
  clear_value s' s2
  refine State.keepsCanon_ite (fun _ => (State.storeError_keepsCanon _ _ _ _ _).after noted) fun _ => ?_
  refine State.keepsCanon_ite (fun _ => written.still (by simp)) fun _ => ?_
  exact State.keepsCanon_ite (fun _ => (State.storeError_keepsCanon _ _ _ _ _).after noted) fun _ => State.keepsCanon_of_still read

theorem State.trailersDue_keepsCanon (s : State) (mk : Nat) (due : Nat → Nat → Nat → Bool) : s.KeepsCanon (s.trailersDue mk due) := by
  refine State.keepsCanon_foldl (fun s c => ?_) _ s
  split
  · exact State.keepsCanon_ite (fun _ => s.trailerFailed_keepsCanon _ _ _ _ _) fun _ => .refl s
  · exact .refl s

theorem State.judge_keepsCanon (s : State) (p : Page) (inst line n : Nat) (parity : Bool) : s.KeepsCanon (s.judge p inst line n parity) := by
  unfold State.judge
  split
  · exact .refl s
  · extract_lets t marked left proved read
    refine State.keepsCanon_ite (fun _ => (State.trailerFailed_keepsCanon _ _ _ _ _ _).after (State.still_mk ..)) fun _ => ?_
    refine State.keepsCanon_ite (fun _ => s.storeError_keepsCanon _ _ _ _) fun _ => ?_
    refine State.keepsCanon_ite (fun _ => State.keepsCanon_of_still (by simp [marked])) fun _ => ?_
    refine State.keepsCanon_ite (fun _ => State.keepsCanon_of_still (by simp [proved])) fun _ => ?_
    exact (read.storeError_keepsCanon _ _ _ _).after (by simp [read])

theorem State.sliceFetch_keepsCanon (s : State) (mk : Nat) (f : ReadFault) : s.KeepsCanon (s.sliceFetch mk f) := by
  unfold State.sliceFetch
  split
  · exact .refl s
  · extract_lets inst y data bad sl s1 s2
    have fetched : s2.still = s.still := (State.still_mk ..).trans (by simp [s1])
    clear_value s2
    refine State.keepsCanon_ite (fun _ => .refl s) fun _ => ?_
    split
    · exact State.keepsCanon_ite (fun _ => (s2.judge_keepsCanon _ _ _ _ _).after fetched) fun _ => State.keepsCanon_of_still fetched
    · exact State.keepsCanon_of_still fetched

theorem State.sliceSend_keepsCanon (s : State) (mk : Nat) (bad : Bool) : s.KeepsCanon (s.sliceSend mk bad) := by
  unfold State.sliceSend
  split
  · exact .refl s
  · split
    · exact .refl s
    · extract_lets data s0 unread s1 poisoned s1'
      have read : s1.still = s.still := by simp [s1, s0]
      clear_value s1
      refine State.keepsCanon_ite (fun _ => .refl s) fun _ => ?_
      refine State.keepsCanon_ite (fun _ => State.keepsCanon_of_still (by simp)) fun _ => ?_
      refine State.keepsCanon_ite (fun _ => ?_) fun _ => State.keepsCanon_of_still (by simp [s1'])
      exact State.keepsCanon_ite (fun _ => State.keepsCanon_of_still (by simp [read])) fun _ =>
        (State.storeError_keepsCanon _ _ _ _ _).after ((State.updSlice_still ..).trans read)

theorem State.sendDeadline_keepsCanon (s : State) (mk : Nat) : s.KeepsCanon (s.sendDeadline mk) := by
  unfold State.sendDeadline
  extract_lets s1
  have due : s.KeepsCanon s1 := s.trailersDue_keepsCanon _ _
  clear_value s1
  refine due.trans (State.keepsCanon_of_still ?_)
  split
  · rfl
  · dsimp only
    split
    · rfl
    · split
      · simp
      · simp

theorem State.fireInstant_keepsCanon (s : State) (mk : Nat) : s.KeepsCanon (s.fireInstant mk) := by
  unfold State.fireInstant
  split
  · exact .refl s
  · refine State.keepsCanon_ite (fun _ => .refl s) fun _ => ?_
    extract_lets inst y sub span s1 x why s2 s3 lam s4
    have due : s.KeepsCanon s1 := (State.trailersDue_keepsCanon _ _ _).after (by split <;> simp)
    have spoiled : s2.still = s1.still := State.fireSpoils_still ..
    clear_value s2 x
    have consumed : s3.still = s1.still := by
      simp only [s3]
      (repeat' split) <;> simp [spoiled]
    have fired : s4.still = s1.still := by simp [s4, consumed]
    exact due.still (by simp [fired])

theorem State.reverify_keepsCanon (s : State) (num line : Nat) (bad : Bool) : s.KeepsCanon (s.reverify num line bad) := by
  unfold State.reverify
  split
  · exact .refl s
  · refine State.keepsCanon_ite (fun _ => .refl s) fun _ => ?_
    extract_lets s1 t ports fits s2 s3
    have checked : s3.still = s.still := by simp [s3, s2, s1]
    clear_value s3
    refine State.keepsCanon_ite (fun _ => State.keepsCanon_of_still (by simp [s1])) fun _ => ?_
    exact State.keepsCanon_ite (fun _ => State.keepsCanon_of_still (by simp [checked])) fun _ => (s3.storePoison_keepsCanon _ _ _).after checked

/-! ## Table builds (R166, R185, R188) -/

theorem State.cloneStart_keepsCanon (s : State) (why : Option BuildWhy) : s.KeepsCanon (s.cloneStart why) :=
  (State.dropUnbound_keepsCanon _).after (State.still_mk ..)

theorem State.buildClone_keepsCanon (s : State) : s.KeepsCanon s.buildClone.1 := by
  unfold State.buildClone
  split
  · exact State.keepsCanon_of_still (by simp)
  · split
    · exact State.keepsCanon_of_still (by simp)
    · exact (s.cloneStart_keepsCanon none).still (State.set_still ..)

theorem State.buildCommand_keepsCanon (s : State) (v : Nat) : s.KeepsCanon (s.buildCommand v).1 := by
  unfold State.buildCommand
  split
  · exact s.buildClone_keepsCanon
  · exact State.keepsCanon_of_still (by simp)
  · exact State.keepsCanon_of_still (by simp)

theorem State.deviceBuild_keepsCanon (s : State) : s.KeepsCanon s.deviceBuild := by
  unfold State.deviceBuild
  refine State.keepsCanon_ite (fun _ => .refl s) fun _ => ?_
  refine State.keepsCanon_ite (fun _ => .refl s) fun _ => ?_
  split
  · exact .refl s
  · exact s.cloneStart_keepsCanon _

theorem State.swap_keepsCanon (s : State) : s.KeepsCanon s.swap := by
  unfold State.swap
  refine State.keepsCanon_ite (fun _ => .refl s) fun _ => ?_
  extract_lets build g left why render s1 s2 units s3
  have unbound : s.KeepsCanon s2 := s1.dropUnbound_keepsCanon.after (by simp [s1])
  clear_value s2 why
  refine unbound.trans (State.keepsCanon_of_still ?_)
  split
  · simp only [s3]
    split <;> simp
  · simp
  · rfl

/-! ## Stash (R125, R126) -/

theorem State.stashWrite_keepsCanon (s : State) (a : Nat) (bs : Bytes) : s.KeepsCanon (s.stashWrite a bs) :=
  State.keepsCanon_ite (fun _ => s.memWrite_keepsCanon a bs) fun _ => .refl s

theorem State.tileDone_keepsCanon (s : State) (n : Nat) (x : Session) (o : StashObj) (i : Nat) (t : Tile) (block : Bytes) :
    s.KeepsCanon (s.tileDone n x o i t block) := by
  unfold State.tileDone
  extract_lets place s1 adj
  have stored : s.KeepsCanon s1 := (State.stashWrite_keepsCanon _ _ _).after (State.updTile_still ..)
  exact State.keepsCanon_ite (fun _ => stored) fun _ => (stored.still (State.updObj_still ..)).still (State.updSess_still ..)

theorem State.tileCodec_keepsCanon (s : State) (n : Nat) : s.KeepsCanon (s.tileCodec n) := by
  unfold State.tileCodec
  split
  · exact .refl s
  · split
    · exact .refl s
    · refine State.keepsCanon_ite (fun _ => .refl s) fun _ => ?_
      split
      · exact State.keepsCanon_of_still (by simp)
      · extract_lets t
        refine State.keepsCanon_ite (fun _ => ?_) fun _ => State.keepsCanon_ite (fun _ => .refl s) fun _ => ?_
        · exact State.keepsCanon_ite (fun _ => (s.tileDone_keepsCanon _ _ _ _ _ _).still (State.codecReply_still ..)) fun _ => .refl s
        · simp only
          split
          · exact ((State.tileDone_keepsCanon _ _ _ _ _ _ _).after (State.count_still ..)).still (State.codecReply_still ..)
          · exact State.keepsCanon_of_still (by simp)

/-! ## Pairs of DRAM taken out, training (R330, R334, R335) -/

theorem State.retirePair_keepsCanon (s : State) (p cause : Nat) : s.KeepsCanon (s.retirePair p cause) := by
  unfold State.retirePair
  extract_lets u out third why res s1 s2 s3 s4 s5 dram
  have taken : s1.still = s.still := by simp [s1]
  clear_value res s1
  have shown : s2.still = s.still := by
    simp only [s2]
    split <;> simp [taken]
  have noted : s3.still = s.still := by simp [s3, shown]
  have poisoned : s3.KeepsCanon s4 :=
    State.keepsCanon_foldl (fun s q => State.keepsCanon_ite (fun _ => s.poisonLines_keepsCanon q) fun _ => .refl s) _ s3
  have rerendered : s5.still = s4.still := by simp [s5]
  refine State.keepsCanon_ite (fun _ => State.keepsCanon_of_still (by simp)) fun _ => ?_
  exact ((poisoned.after noted).still rerendered).still (by simp)

theorem State.retrainDone_keepsCanon (s : State) (i : Nat) (t : TrainResult) (oldPasses : Bool) : s.KeepsCanon (s.retrainDone i t oldPasses) := by
  unfold State.retrainDone
  refine State.keepsCanon_ite (fun _ => .refl s) fun _ => ?_
  extract_lets s1 s2
  have ran : s1.still = s.still := by simp [s1]
  clear_value s1
  refine State.keepsCanon_ite (fun _ => ?_) fun _ => State.keepsCanon_ite (fun _ => State.keepsCanon_of_still (by simp [ran])) fun _ => ?_
  · exact State.keepsCanon_ite (fun _ => State.keepsCanon_of_still (by simp [s2, ran])) fun _ => State.keepsCanon_of_still (by simp [s2, ran])
  · exact (State.retirePair_keepsCanon _ _ _).after (by simp [ran])

theorem State.startupTrained_keepsCanon (s : State) (answer rfm : Bool) (results : List TrainResult) :
    s.KeepsCanon (s.startupTrained answer rfm results) := by
  unfold State.startupTrained
  refine State.keepsCanon_ite (fun _ => .refl s) fun _ => ?_
  extract_lets good dram s1 s2 s3 dram' s4
  have trained : s2.still = s.still := by
    refine (foldl_still _ _ _ fun s i => ?_).trans (by simp [s1])
    split <;> simp
  have retired : s2.KeepsCanon s3 :=
    State.keepsCanon_foldl (fun s p => State.keepsCanon_ite (fun _ => .refl s) fun _ => s.retirePair_keepsCanon p 3) _ s2
  have capped : s4.still = s3.still := (State.capNow_still ..).trans (State.still_mk ..)
  refine State.keepsCanon_ite (fun _ => State.keepsCanon_of_still trained) fun _ => ?_
  refine State.keepsCanon_ite (fun _ => retired.after trained) fun _ => ?_
  exact (retired.after trained).still (by simp [capped])

/-! ## Test windows, DMA, ranged and segmented writes (R54, R57, R349, R361) -/

theorem State.windowOpened_keepsCanon (s : State) (a : Nat) : s.KeepsCanon (s.windowOpened a) := by
  unfold State.windowOpened
  refine State.keepsCanon_ite (fun _ => .refl s) fun _ => ?_
  refine State.keepsCanon_ite (fun _ => (State.dropUnbound_keepsCanon _).after (State.still_mk ..)) fun _ => ?_
  exact State.keepsCanon_ite (fun _ => State.keepsCanon_of_still (by simp)) fun _ => .refl s

theorem State.windowOpen_keepsCanon (s : State) : s.KeepsCanon s.windowOpen.1 := by
  unfold State.windowOpen
  dsimp only
  iterate 3
    split
    · exact State.keepsCanon_of_still (by simp)
  exact (State.windowOpened_keepsCanon _ _).after (by simp)

theorem State.windowClosed_keepsCanon (s : State) : s.KeepsCanon s.windowClosed := by
  unfold State.windowClosed
  refine State.keepsCanon_ite (fun _ => .refl s) fun _ => ?_
  extract_lets a c s' integ s1
  have closed : s1.still = s.still := (State.still_mk ..).trans (State.set_still ..)
  clear_value s1
  refine State.keepsCanon_ite (fun _ => State.KeepsCanon.after (State.keepsCanon_foldl (fun s _ => s.memWrite_keepsCanon _ _) _ s1) closed) fun _ => ?_
  exact State.keepsCanon_of_still (by split <;> simp [closed])

theorem State.endWrite_keepsCanon {s t : State} {bs : Bytes} {fixed : Bool} {e : End} (written : s.endWrite bs fixed e = .ok t) :
    s.KeepsCanon t := by
  unfold State.endWrite at written
  split at written
  · (repeat' split at written) <;> cases written
    exact s.memWrite_keepsCanon _ _
  · split at written
    · split at written <;> cases written
      exact State.keepsCanon_of_still (by simp)
    · (repeat' split at written) <;> cases written
      exact s.domWrite_keepsCanon _ _ _ _
  · cases written

theorem State.dmaElement_keepsCanon (s : State) (n : Nat) (read : Restored) : s.KeepsCanon (s.dmaElement n read) := by
  unfold State.dmaElement
  refine State.keepsCanon_ite (fun _ => .refl s) fun _ => ?_
  split
  · exact .refl s
  · extract_lets e integ s0 fs fd src dst sr
    have turned : s0.still = s.still := State.still_mk ..
    clear_value s0
    refine State.KeepsCanon.after ?_ turned
    split
    · exact State.keepsCanon_of_still (by split <;> simp)
    · have found : sr.still = s0.still := by
        simp only [sr]
        split <;> simp
      clear_value sr
      refine State.KeepsCanon.after ?_ found
      split
      · exact State.keepsCanon_of_still (by simp)
      · next s1 written =>
        refine (State.endWrite_keepsCanon written).trans (State.keepsCanon_of_still ?_)
        (repeat' split) <;> simp

theorem State.rangeWrite_keepsCanon (s : State) (p : Peer) (idx sub : Nat) (payload : Bytes) : s.KeepsCanon (s.rangeWrite p idx sub payload).1 := by
  unfold State.rangeWrite
  split
  · exact State.keepsCanon_of_still (by simp)
  · dsimp only
    iterate 4
      split
      · exact State.keepsCanon_of_still (by simp)
    exact s.writeDomain_keepsCanon _ _ _ _

theorem State.onTransfer_keepsCanon (s : State) (p : Peer) (idx sub : Nat) (payload : Bytes) (fits abort : Bool) (dir : Option Bool)
    (act : State → Xfer → State × Nat × Bytes) (keeps : ∀ (s : State) (x : Xfer), s.KeepsCanon (act s x).1) :
    s.KeepsCanon (s.onTransfer p idx sub payload fits abort dir act).1 := by
  unfold State.onTransfer
  split
  · exact State.keepsCanon_of_still (by simp)
  · iterate 2
      split
      · exact State.keepsCanon_of_still (by simp)
    split
    · exact State.keepsCanon_of_still (by simp)
    · split
      · exact State.keepsCanon_of_still (by simp)
      · exact (keeps _ _).after (State.updXfer_still ..)

theorem State.segEnd_keepsCanon (s : State) (p : Peer) (idx sub : Nat) (payload : Bytes) : s.KeepsCanon (s.segEnd p idx sub payload).1 := by
  refine State.onTransfer_keepsCanon _ _ _ _ _ _ _ _ _ fun s x => ?_
  dsimp only
  split
  · split
    · exact State.keepsCanon_of_still (by simp)
    · split
      · exact State.keepsCanon_of_still (by simp)
      · split
        · exact State.keepsCanon_of_still (by simp)
        · exact (State.writeDomain_keepsCanon _ _ _ _ _).after (by simp)
  · split <;> exact State.keepsCanon_of_still (by simp)

end Sys2Proof.Machine

namespace Sys2Proof.Machine

-- One proof after another, so that the whole text is checked within the memory of one process.
set_option Elab.async false

/-! ## Flash: slots and the boot directory (R410, R411, R418) -/

theorem State.dirEdit_keepsCanon (s : State) (c : Nat) (l : List (Nat × Bytes)) : s.KeepsCanon (s.dirEdit c l) := s.flashWrite_keepsCanon _ _

theorem State.slotTo_keepsCanon (s : State) (c slot st reason : Nat) : s.KeepsCanon (s.slotTo c slot st reason) := s.dirEdit_keepsCanon _ _

theorem State.slotFill_keepsCanon (s : State) (c slot st : Nat) (h image : Bytes) : s.KeepsCanon (s.slotFill c slot st h image) :=
  (s.flashWrite_keepsCanon _ _).trans (State.dirEdit_keepsCanon _ _ _)

theorem State.abandonFlash_keepsCanon (s : State) : s.KeepsCanon s.abandonFlash :=
  State.keepsCanon_ite (fun _ => s.slotTo_keepsCanon _ _ _ _) fun _ => .refl s

theorem State.abandonUpdate_keepsCanon (s : State) : s.KeepsCanon s.abandonUpdate :=
  State.keepsCanon_ite
    (fun _ => ((s.abandonFlash_keepsCanon.still (State.set_still ..)).still (State.set_still ..)).still (State.fwEvent_still ..)) fun _ => .refl s

theorem State.putCopy_keepsCanon (s : State) (b : Bool) (c : Settings) : s.KeepsCanon (s.putCopy b c) :=
  State.keepsCanon_ite (fun _ => .refl s) fun _ => .refl s

theorem State.settingsDone_keepsCanon (s : State) (good : Bool) : s.KeepsCanon (s.settingsDone good) := by
  unfold State.settingsDone
  split
  · exact State.keepsCanon_ite (fun _ => ((s.putCopy_keepsCanon _ _).still (State.set_still ..)).still (State.set_still ..)) fun _ =>
      State.keepsCanon_of_still (by simp)
  · exact State.keepsCanon_ite (fun _ => (State.keepsCanon_of_still (State.set_still ..)).updated) fun _ => State.keepsCanon_of_still (by simp)
  · exact .refl s

theorem State.settingsCommand_keepsCanon (s : State) (erase : Bool) : s.KeepsCanon (s.settingsCommand erase).1 := by
  unfold State.settingsCommand
  split
  · exact .refl s
  · exact State.keepsCanon_ite (fun _ => State.keepsCanon_of_still (by simp)) fun _ => (s.putCopy_keepsCanon _ _).still (State.set_still ..)

/-! ## Boot and reset (R405, R413, R414, R423, R461) -/

theorem State.settingsStart_keepsCanon (s : State) (slot : Nat) : s.KeepsCanon (s.settingsStart slot).1 := by
  have confirms (s : State) (trial : Bool) (old : Nat) : s.KeepsCanon (if trial then (s.slotTo 1 slot 4 0).fwEvent 4 1 0 old else s) :=
    State.keepsCanon_ite (fun _ => (s.slotTo_keepsCanon _ _ _ _).still (State.fwEvent_still ..)) fun _ => .refl s
  unfold State.settingsStart
  extract_lets h own trial confirm failed
  have fails : s.KeepsCanon (failed s).1 := by
    simp only [failed]
    split
    · dsimp only
      exact (s.slotTo_keepsCanon _ _ _ _).trans (State.dirEdit_keepsCanon _ _ _)
    · exact State.keepsCanon_of_still (by simp)
  clear_value failed
  split
  · exact fails
  · extract_lets s1 b s2 s3
    have saved : s.KeepsCanon s3 :=
      (((State.putCopy_keepsCanon _ _ _).after (State.loadCopy_still ..)).still (State.set_still ..)).still (State.set_still ..)
    clear_value s3
    split
    · exact (confirms _ trial _).after (State.loadCopy_still ..)
    · split
      · exact fails
      · exact (saved.trans (confirms _ trial _)).still (State.fwEvent_still ..)

theorem State.loadComponent_keepsCanon (s : State) (c : Nat) : s.KeepsCanon (s.loadComponent c) := by
  unfold State.loadComponent
  extract_lets a was s1 ok take
  have rejected : s.KeepsCanon s1 :=
    State.keepsCanon_foldl (fun s n => State.keepsCanon_ite (fun _ => s.slotTo_keepsCanon _ _ _ _) fun _ => .refl s) _ s
  have taken (slot : Nat) : s1.KeepsCanon (take slot) := by
    have moved : s1.KeepsCanon (if slot = a then s1.set 0x8001 c (leAt (s1.slotHeader c slot) 8 4)
        else (s1.set 0x8001 c (leAt (s1.slotHeader c slot) 8 4)).dirEdit c [(1, leBytes 1 slot)]) :=
      State.keepsCanon_ite (fun _ => State.keepsCanon_of_still (State.set_still ..)) fun _ =>
        (State.dirEdit_keepsCanon _ _ _).after (State.set_still ..)
    exact State.keepsCanon_ite (fun _ => moved.trans (State.slotTo_keepsCanon _ _ _ _ _)) fun _ => moved
  refine State.keepsCanon_ite (fun _ => rejected.trans (taken a)) fun _ => ?_
  exact State.keepsCanon_ite (fun _ => rejected.trans (taken (1 - a))) fun _ => rejected.still (State.fwEvent_still ..)

theorem State.startFunctions_keepsCanon (s : State) (cause wake : Nat) : s.KeepsCanon (s.startFunctions cause wake) := by
  unfold State.startFunctions
  extract_lets s0 s1 dram s2 lost b s4 s5 s6 s7 reason s8 s9
  have rings : s0.still = s.still := foldl_still _ _ _ fun s i => State.firmwareRing_still ..
  have loaded : s.KeepsCanon s1 :=
    ((State.keepsCanon_foldl (fun s c => s.loadComponent_keepsCanon c) _ s0).still (State.setReady_still ..)).after rings
  have woken : s4.still = s2.still := by
    simp only [s4]
    split <;> simp
  have domains : s6.still = s2.still := by
    refine (foldl_still _ _ _ fun s i => ?_).trans (by simp [s5, woken])
    split <;> simp
  have noted : s9.still = s2.still := by
    have kept : s8.still = s2.still := by simp [s8, s7, domains]
    clear_value s8
    simp only [s9]
    split <;> simp [kept]
  exact (loaded.updating (u := s2)).still (by split <;> simp [noted])

theorem State.scStart_keepsCanon (s : State) (slot cause shown : Nat) : s.KeepsCanon (s.scStart slot cause shown).1 := by
  unfold State.scStart
  extract_lets h s1 s2 boot ev s3 s4 old s5
  have shows : s2.still = s.still := by simp [s2, s1]
  clear_value s2
  have started : s.KeepsCanon s3 := (State.keepsCanon_of_still shows).updating
  have safe : s4.still = s3.still := by
    simp only [s4]
    split <;> simp
  clear_value s4
  have told : s5.still = s4.still := by
    simp only [s5]
    split <;> simp
  exact ((started.still safe).still told).trans (s5.settingsStart_keepsCanon slot)

theorem State.romChoice_keepsCanon (s : State) : s.KeepsCanon s.romChoice.2.1 := by
  unfold State.romChoice
  dsimp only
  split
  · exact s.slotTo_keepsCanon _ _ _ _
  · dsimp only
    exact (s.slotTo_keepsCanon _ _ _ _).trans (State.dirEdit_keepsCanon _ _ _)
  · split <;> exact .refl s

theorem State.romOnce_keepsCanon (s : State) (cause wake shown : Nat) : s.KeepsCanon (s.romOnce cause wake shown).1 := by
  unfold State.romOnce
  split
  · exact .refl s
  · split
    · exact .refl s
    · extract_lets aon r boot
      have chosen : s.KeepsCanon r.2.1 := by
        simp only [r]
        exact (State.romChoice_keepsCanon _).updated
      clear_value r
      split
      · exact chosen.updating
      · next n other _ =>
        generalize (if r.2.2.2 ≠ 0 then r.2.2.2 else shown) = result
        have started := chosen.trans (r.2.1.scStart_keepsCanon n cause result)
        generalize r.2.1.scStart n cause result = q at started
        dsimp only
        split
        · exact (started.trans (q.1.startFunctions_keepsCanon cause wake)).updating
        · exact started

/-- A reset leaves DRAM and staging empty and the flash as it was. -/
theorem State.cleared_keepsCanon (s : State) (cause : Nat) : s.KeepsCanon (s.cleared cause) := by
  intro canon
  obtain ⟨-, -, -, flash⟩ := (storesWf_iff _ _ _ _).1 canon
  exact (storesWf_iff _ _ _ _).2 ⟨rfl, ⟨rfl, rfl⟩, rfl, flash⟩

theorem State.romBoot_keepsCanon (k : Nat) (s : State) (cause wake shown : Nat) : s.KeepsCanon (State.romBoot k s cause wake shown) := by
  induction k generalizing s cause wake shown with
  | zero => exact .refl s
  | succ k again =>
    have once := (s.cleared_keepsCanon cause).trans (State.romOnce_keepsCanon (s.cleared cause) cause wake shown)
    rw [State.romBoot]
    exact State.keepsCanon_ite (fun _ => once.trans (again _ _ _ _)) fun _ => once

theorem State.restart_keepsCanon (s : State) (cause : Nat) : s.KeepsCanon (s.restart cause) :=
  s.abandonFlash_keepsCanon.trans (State.romBoot_keepsCanon _ _ _ _ _)

theorem State.hold_keepsCanon (s : State) : s.KeepsCanon s.hold := by
  unfold State.hold
  extract_lets s1 boot
  have cleared : s.KeepsCanon s1 := (s.abandonFlash_keepsCanon.trans (State.cleared_keepsCanon _ 2)).still (State.set_still ..)
  exact cleared.updating

theorem State.leaveReset_keepsCanon (s : State) : s.KeepsCanon s.leaveReset := by
  unfold State.leaveReset
  exact State.keepsCanon_ite (fun _ => (State.romBoot_keepsCanon _ _ _ _ _).updated) fun _ => .refl s

theorem State.porHigh_keepsCanon (s : State) (straps : Nat) (testEn : Bool) : s.KeepsCanon (s.porHigh straps testEn) := by
  unfold State.porHigh
  exact State.keepsCanon_ite (fun _ => .refl s) fun _ => (State.leaveReset_keepsCanon _).updated

theorem State.porRelease_keepsCanon (s : State) (pins : ResetPins) (testEn : Bool) : s.KeepsCanon (s.porRelease pins testEn) :=
  (State.porHigh_keepsCanon (s.tapRun pins.low) pins.straps testEn).updated.updating

theorem State.railsGood_keepsCanon (s : State) : s.KeepsCanon s.railsGood := by
  unfold State.railsGood
  exact State.keepsCanon_ite (fun _ => (State.leaveReset_keepsCanon _).updated) fun _ => .refl s

theorem State.porLow_keepsCanon (s : State) : s.KeepsCanon s.porLow := s.hold_keepsCanon.updating

theorem State.railLow_keepsCanon (s : State) : s.KeepsCanon s.railLow := by
  unfold State.railLow
  exact State.keepsCanon_ite (fun _ => .refl s) fun _ => s.hold_keepsCanon.updating

theorem State.vbatRise_keepsCanon (s : State) : s.KeepsCanon s.vbatRise := State.keepsCanon_of_frames (by simp) (by simp)

theorem State.watchdog_keepsCanon (s : State) : s.KeepsCanon s.watchdog :=
  State.keepsCanon_ite (fun _ => s.restart_keepsCanon 3) fun _ => .refl s

theorem State.bootRetry_keepsCanon (s : State) : s.KeepsCanon s.bootRetry :=
  State.keepsCanon_ite (fun _ => s.restart_keepsCanon 3) fun _ => .refl s

theorem State.bootTimeout_keepsCanon (s : State) : s.KeepsCanon s.bootTimeout :=
  State.keepsCanon_ite (fun _ => s.restart_keepsCanon 3) fun _ => .refl s

theorem State.bootDone_keepsCanon (s : State) : s.KeepsCanon s.bootDone := by
  unfold State.bootDone
  refine State.keepsCanon_ite (fun _ => .refl s) fun _ => ?_
  extract_lets n slot boot aon s1 s2
  have ran : s.KeepsCanon s2 :=
    ((State.keepsCanon_of_still (State.set_still ..)).updated).still (State.raise_still ..)
  clear_value s2
  exact State.keepsCanon_ite
    (fun _ => (ran.trans ((s2.slotTo_keepsCanon _ _ _ _).trans (State.dirEdit_keepsCanon _ _ _))).still (State.fwEvent_still ..)) fun _ => ran

/-! ## Power states (R386 to R391) -/

theorem State.sleep_keepsCanon (s : State) (st : Nat) : s.KeepsCanon (s.sleep st) := by
  unfold State.sleep
  extract_lets prev s1 s2 msp s3 s4 s5 s6 render dram s7 aon boot
  have told : s1.still = s.still := by simp [s1]
  have ended : s2.still = s1.still := (State.frogRest_still _).trans (foldl_still _ _ _ fun s n => State.endSession_still ..)
  clear_value s2
  have stopped : s3.still = s2.still := (State.dmaStopAll_still _).trans (State.still_mk ..)
  clear_value s3
  have abandoned : s3.KeepsCanon s4 := (State.abandonUpdate_keepsCanon _).after (by simp)
  clear_value s4
  have stored : s5.still = s4.still := by simp [s5]
  clear_value s5
  have unset : s6.still = s5.still := by
    simp only [s6]
    split <;> simp
  have emptied : s.KeepsCanon s7 := (((abandoned.after stopped).after ended).after told).still ((State.still_mk ..).trans (unset.trans stored))
  clear_value s7
  refine State.keepsCanon_ite (fun _ canon => ?_) fun _ => emptied
  obtain ⟨-, -, staging, flash⟩ := (storesWf_iff _ _ _ _).1 (emptied.still (State.set_still s7 0x8010 3 s.abandonShown) canon)
  exact (storesWf_iff _ _ _ _).2 ⟨rfl, ⟨rfl, rfl⟩, staging, flash⟩

theorem State.keepExit_keepsCanon (s : State) (source : Nat) : s.KeepsCanon (s.keepExit source) :=
  State.keepsCanon_of_frames (by simp) (by simp)

theorem State.deepExit_keepsCanon (s : State) (source : Nat) : s.KeepsCanon (s.deepExit source) :=
  (State.romBoot_keepsCanon _ _ _ _ _).updated

theorem State.wake_keepsCanon (s : State) (source : Nat) : s.KeepsCanon (s.wake source) := by
  unfold State.wake
  refine State.keepsCanon_ite (fun _ => .refl s) fun _ => ?_
  split
  · exact s.keepExit_keepsCanon source
  · exact State.keepsCanon_ite (fun _ => .refl s) fun _ => s.deepExit_keepsCanon source
  · exact .refl s

theorem State.rtcAlarm_keepsCanon (s : State) : s.KeepsCanon s.rtcAlarm :=
  State.keepsCanon_ite (fun _ => s.wake_keepsCanon 2) fun _ => .refl s

theorem State.wakeFrame_keepsCanon (s : State) (p : Peer) : s.KeepsCanon (s.wakeFrame p) :=
  State.keepsCanon_ite (fun _ => s.wake_keepsCanon 3) fun _ => .refl s

theorem State.powerRequest_keepsCanon (s : State) (want : Nat) : s.KeepsCanon (s.powerRequest want).1 :=
  State.keepsCanon_of_frames (by simp) (by simp)

theorem State.resetCommand_keepsCanon (s : State) : s.KeepsCanon s.resetCommand.1 := State.keepsCanon_of_frames (by simp) (by simp)

/-! ## The update service (R416 to R424) -/

theorem State.updVerify_keepsCanon (s : State) : s.KeepsCanon s.updVerify.1 := by
  unfold State.updVerify
  split
  · exact State.keepsCanon_of_still (by simp)
  · exact ((State.keepsCanon_of_still (State.set_still ..)).updated).still (State.updTo_still ..)

theorem State.updChecked_keepsCanon (s : State) : s.KeepsCanon s.updChecked := by
  unfold State.updChecked
  refine State.keepsCanon_ite (fun _ => .refl s) fun _ => ?_
  split
  · exact State.keepsCanon_of_still (by simp)
  · extract_lets h c s1
    exact (State.keepsCanon_of_still (s := s1) (by simp)).updated

theorem State.updInstall_keepsCanon (s : State) : s.KeepsCanon s.updInstall.1 := by
  unfold State.updInstall
  extract_lets c run slot written update s1
  have emptied : s.KeepsCanon s1 := (s.slotTo_keepsCanon c slot 0 0).updating
  clear_value s1
  split
  · exact State.keepsCanon_of_still (by simp)
  · exact (emptied.still (State.set_still ..)).still (State.updTo_still ..)

theorem State.updInstalled_keepsCanon (s : State) (good : Bool) : s.KeepsCanon (s.updInstalled good) := by
  unfold State.updInstalled
  refine State.keepsCanon_ite (fun _ => .refl s) fun _ => ?_
  exact State.keepsCanon_ite (fun _ => ((s.slotFill_keepsCanon _ _ _ _ _).still (State.set_still ..)).still (State.updTo_still ..)) fun _ =>
    State.keepsCanon_of_still (by simp)

theorem State.updGo_keepsCanon (s : State) : s.KeepsCanon s.updGo.1 := by
  unfold State.updGo
  split
  · exact State.keepsCanon_of_still (by simp)
  · split
    · exact State.keepsCanon_of_still (by simp)
    · have active := (s.dirEdit_keepsCanon 1 [(1, leBytes 1 s.update.slot), (2 + s.update.slot, [2]), (20 + s.update.slot, [0])]).still
        (State.set_still _ 0x8010 3 0)
      exact active.updating

theorem State.updActivate_keepsCanon (s : State) : s.KeepsCanon s.updActivate.1 := by
  unfold State.updActivate
  split
  · exact State.keepsCanon_of_still (by simp)
  · exact s.updGo_keepsCanon

theorem State.updRevert_keepsCanon (s : State) : s.KeepsCanon s.updRevert.1 := by
  unfold State.updRevert
  split
  · exact State.keepsCanon_of_still (by simp)
  · dsimp only
    split
    · split
      · exact (State.updGo_keepsCanon _).updated
      · exact State.keepsCanon_of_still (by simp)
    · exact State.keepsCanon_of_still (by simp)

theorem State.updAbort_keepsCanon (s : State) : s.KeepsCanon s.updAbort.1 := by
  unfold State.updAbort
  split
  · exact State.keepsCanon_of_still (by simp)
  · split
    · exact (s.slotTo_keepsCanon _ _ _ _).still (State.updTo_still ..)
    · exact State.keepsCanon_of_still (by simp)

theorem State.updCommand_keepsCanon (s : State) (v : Nat) : s.KeepsCanon (s.updCommand v).1 := by
  unfold State.updCommand
  split
  · exact s.updVerify_keepsCanon
  · exact s.updInstall_keepsCanon
  · exact s.updActivate_keepsCanon
  · exact s.updRevert_keepsCanon
  · exact s.updAbort_keepsCanon

theorem State.updBack_keepsCanon (s : State) : s.KeepsCanon s.updBack :=
  ((((s.slotTo_keepsCanon _ _ _ _).trans (State.dirEdit_keepsCanon _ _ _)).still (State.set_still ..)).still (State.updTo_still ..)).still
    (State.fwEvent_still ..)

theorem State.updBoundary_keepsCanon (s : State) : s.KeepsCanon s.updBoundary := by
  unfold State.updBoundary
  refine State.keepsCanon_ite (fun _ => .refl s) fun _ => ?_
  refine State.keepsCanon_ite (fun _ => s.updBack_keepsCanon) fun _ => ?_
  refine State.keepsCanon_ite (fun _ => .refl s) fun _ => ?_
  extract_lets s1 noted
  have active : s.KeepsCanon noted := (s.dirEdit_keepsCanon _ _).still (State.set_still ..)
  exact active.trans (State.keepsCanon_of_still (State.updTo_still ..)).updated

theorem State.updTrial_keepsCanon (s : State) (good : Bool) : s.KeepsCanon (s.updTrial good) := by
  unfold State.updTrial
  refine State.keepsCanon_ite (fun _ => .refl s) fun _ => ?_
  refine State.keepsCanon_ite (fun _ => (s.slotTo_keepsCanon _ _ _ _).still (State.updTo_still ..)) fun _ => ?_
  exact State.keepsCanon_ite (fun _ => s.updBack_keepsCanon) fun _ => (State.KeepsCanon.refl s).updating

/-! ## Recovery (R425 to R427) -/

theorem State.recoveryWrite_keepsCanon (s : State) (b : Bytes) : s.KeepsCanon (s.recoveryWrite b) :=
  (s.slotFill_keepsCanon _ _ _ _ _).trans (State.dirEdit_keepsCanon _ _ _)

theorem State.tftpAck_keepsCanon (s : State) (p : Peer) (n : Nat) : s.KeepsCanon (s.tftpAck p n) :=
  (State.keepsCanon_of_still (State.send_still ..)).updating

theorem State.tftpClose_keepsCanon (s : State) : s.KeepsCanon s.tftpClose := (State.KeepsCanon.refl s).updating

theorem State.recoveryEnd_keepsCanon (s : State) : s.KeepsCanon s.recoveryEnd := (State.KeepsCanon.refl s).updating

theorem State.tftpEnd_keepsCanon (s : State) (p : Peer) (n : Nat) : s.KeepsCanon (s.tftpEnd p n) := by
  unfold State.tftpEnd
  dsimp only
  refine State.keepsCanon_ite (fun _ => ((s.tftpAck_keepsCanon _ _).trans (State.tftpClose_keepsCanon _)).trans (State.recoveryEnd_keepsCanon _)) fun _ => ?_
  refine State.keepsCanon_ite (fun _ => ?_) fun _ => ?_
  · exact ((s.recoveryWrite_keepsCanon _).trans (State.tftpAck_keepsCanon _ _ _)).trans (State.tftpClose_keepsCanon _)
  · exact (State.keepsCanon_of_still (State.tftpNo_still ..)).trans (State.tftpClose_keepsCanon _)

theorem State.tftpRequest_keepsCanon (s : State) (p : Peer) (name : Bytes) (octet read : Bool) : s.KeepsCanon (s.tftpRequest p name octet read) := by
  unfold State.tftpRequest
  refine State.keepsCanon_ite (fun _ => .refl s) fun _ => ?_
  refine State.keepsCanon_ite (fun _ => State.keepsCanon_of_still (by simp)) fun _ => ?_
  refine State.keepsCanon_ite (fun _ => State.keepsCanon_of_still (by simp)) fun _ => ?_
  split
  · exact State.keepsCanon_of_still (by simp)
  · exact State.keepsCanon_ite (fun _ => State.keepsCanon_of_still (by simp)) fun _ =>
      (State.tftpAck_keepsCanon _ _ _).updated

theorem State.tftpBlock_keepsCanon (s : State) (p : Peer) (n : Nat) (d : Bytes) : s.KeepsCanon (s.tftpBlock p n d) := by
  unfold State.tftpBlock
  refine State.keepsCanon_ite (fun _ => .refl s) fun _ => ?_
  refine State.keepsCanon_ite (fun _ => State.keepsCanon_of_still (by simp)) fun _ => ?_
  refine State.keepsCanon_ite (fun _ => s.tftpAck_keepsCanon _ _) fun _ => ?_
  refine State.keepsCanon_ite (fun _ => .refl s) fun _ => ?_
  refine State.keepsCanon_ite (fun _ => (State.keepsCanon_of_still (State.tftpNo_still ..)).trans (State.tftpClose_keepsCanon _)) fun _ => ?_
  extract_lets recovery s1
  exact State.KeepsCanon.updated (t := s1)
    (State.keepsCanon_ite (fun _ => s1.tftpAck_keepsCanon _ _) fun _ => s1.tftpEnd_keepsCanon _ _)

theorem State.tftpAgain_keepsCanon (s : State) : s.KeepsCanon s.tftpAgain := by
  unfold State.tftpAgain
  split
  · exact .refl s
  · refine State.keepsCanon_ite (fun _ => .refl s) fun _ => ?_
    refine State.keepsCanon_ite (fun _ => s.tftpClose_keepsCanon) fun _ => ?_
    extract_lets k s1 recovery
    have acked : s.KeepsCanon s1 := s.tftpAck_keepsCanon _ _
    exact acked.updating

theorem State.uartOpen_keepsCanon (s : State) (good : Bool) (name : Bytes) : s.KeepsCanon (s.uartOpen good name) := by
  unfold State.uartOpen
  refine State.keepsCanon_ite (fun _ => .refl s) fun _ => ?_
  split
  · exact State.keepsCanon_of_still (by simp)
  · exact (State.keepsCanon_of_still (State.uartAnswer_still ..)).updated

theorem State.uartData_keepsCanon (s : State) (good : Bool) (body : Bytes) : s.KeepsCanon (s.uartData good body) := by
  unfold State.uartData
  refine State.keepsCanon_ite (fun _ => .refl s) fun _ => ?_
  split
  · exact State.keepsCanon_of_still (by simp)
  · dsimp only
    refine State.keepsCanon_ite (fun _ => State.keepsCanon_of_still (by simp)) fun _ => ?_
    refine State.keepsCanon_ite (fun _ => State.keepsCanon_of_still (by simp)) fun _ => ?_
    refine State.keepsCanon_ite (fun _ => State.keepsCanon_of_still (by simp)) fun _ => ?_
    exact (State.keepsCanon_of_still (State.uartAnswer_still ..)).updated

theorem State.uartClose_keepsCanon (s : State) (good : Bool) (body : Bytes) : s.KeepsCanon (s.uartClose good body) := by
  have answered (s : State) (k r e : Nat) : s.KeepsCanon (s.uartAnswer k r e) := State.keepsCanon_of_still (State.uartAnswer_still ..)
  unfold State.uartClose
  refine State.keepsCanon_ite (fun _ => .refl s) fun _ => ?_
  split
  · exact answered _ _ _ _
  · next n _ =>
    refine State.keepsCanon_ite (fun _ => answered _ _ _ _) fun _ => ?_
    dsimp only
    refine State.keepsCanon_ite (fun _ => ?_) fun _ => State.keepsCanon_ite (fun _ => ?_) fun _ => ?_
    · exact (answered s 3 0 0).updating
    · have written := (s.recoveryWrite_keepsCanon s.recovery.data).trans (answered _ 3 0 0)
      generalize (s.recoveryWrite s.recovery.data).uartAnswer 3 0 0 = v at written
      exact written.updating
    · exact (answered s 3 4 (recoveryCode n s.recovery.data)).updating

theorem State.uartReset_keepsCanon (s : State) (good : Bool) : s.KeepsCanon (s.uartReset good) := by
  unfold State.uartReset
  exact State.keepsCanon_ite (fun _ => .refl s) fun _ =>
    (State.keepsCanon_of_still (State.uartAnswer_still ..)).trans (State.recoveryEnd_keepsCanon _)

end Sys2Proof.Machine

namespace Sys2Proof.Machine

-- One proof after another, so that the whole text is checked within the memory of one process.
set_option Elab.async false

/-! ## Requests by FOP (R36, R49) -/

/-- A command object of any kind keeps the form of the memories. -/
theorem State.command_keepsCanon (s : State) (idx sub v : Nat) : s.KeepsCanon (s.command idx sub v).1 := by
  unfold State.command
  by_cases power : idx = 0x0030
  · subst power
    exact s.powerRequest_keepsCanon v
  · by_cases settings : idx = 0x0040
    · subst settings
      exact s.settingsCommand_keepsCanon (v == 2)
    · by_cases build : idx = 0x4010
      · subst build
        exact s.buildCommand_keepsCanon v
      · by_cases reset : idx = 0x8000
        · subst reset
          exact s.resetCommand_keepsCanon
        · by_cases update : idx = 0x8010
          · subst update
            exact s.updCommand_keepsCanon v
          · by_cases window : idx = 0xF000
            · subst window
              show s.KeepsCanon (asStatus (if v = 1 then s.windowOpen else s.windowClose)).1
              split
              · exact s.windowOpen_keepsCanon
              · exact State.keepsCanon_of_still (by simp [asStatus])
            · rw [if_neg power, if_neg settings, if_neg build, if_neg reset, if_neg update, if_neg window]
              exact State.keepsCanon_of_still (by simp [asStatus, accepted])

theorem State.doWrite_keepsCanon (s : State) (p : Peer) (idx sub : Nat) (payload : Bytes) : s.KeepsCanon (s.doWrite p idx sub payload).1 := by
  unfold State.doWrite
  split
  · exact State.keepsCanon_of_still (by simp)
  · split
    · dsimp only
      iterate 4
        split
        · exact State.keepsCanon_of_still (by simp)
      exact s.writeDomain_keepsCanon _ _ _ _
    · split
      · exact State.keepsCanon_of_still (by simp)
      · split
        · split
          · exact s.command_keepsCanon _ _ _
          · exact State.keepsCanon_of_still (by simp)
        · exact State.keepsCanon_of_still (by simp)

theorem State.serve_keepsCanon (s : State) (h : FopHead) (op key : Nat) (act : State → State × Nat × Bytes)
    (keeps : ∀ s : State, s.KeepsCanon (act s).1) : s.KeepsCanon (s.serve h op key act) := by
  unfold State.serve
  split
  · exact .refl s
  · dsimp only
    iterate 3
      split
      · exact State.keepsCanon_of_still (by simp)
    split
    · exact State.keepsCanon_of_still (by simp)
    · exact ((keeps _).after (by simp)).still (State.fopReply_still ..)

theorem State.serveCmd_keepsCanon (s : State) (h : FopHead) (key : Nat) (act : State → State × Bool)
    (keeps : ∀ s : State, s.KeepsCanon (act s).1) : s.KeepsCanon (s.serveCmd h key act) := s.serve_keepsCanon h 2 key _ keeps

theorem State.serveStatus_keepsCanon (s : State) (h : FopHead) (key : Nat) (act : State → State × Nat)
    (keeps : ∀ s : State, s.KeepsCanon (act s).1) : s.KeepsCanon (s.serveStatus h key act) := s.serve_keepsCanon h 2 key _ keeps

theorem State.awake_keepsCanon {s : State} {f : State → State} (keeps : s.KeepsCanon (f s)) : s.KeepsCanon (s.awake f) :=
  State.keepsCanon_ite (fun _ => keeps) fun _ => .refl s

/-! ## The end of a command, a step -/

theorem State.fallDue_keepsCanon (s : State) : s.KeepsCanon s.fallDue := by
  unfold State.fallDue
  extract_lets boot s1
  split
  · exact (State.KeepsCanon.refl s).updating
  · exact (s1.sleep_keepsCanon _).updated
  · exact (s1.restart_keepsCanon _).updated

theorem State.conclude_keepsCanon (s : State) : s.KeepsCanon s.conclude := by
  have settled : s.KeepsCanon s.settle := State.keepsCanon_of_still s.settle_still
  exact State.keepsCanon_ite (fun _ => settled) fun _ => (settled.trans (State.fallDue_keepsCanon _)).still (State.settle_still _)

/-- What a command of `mayStore` does before its end. -/
theorem exec_keepsCanon_of_mayStore (c : Instr) (s : State) (row : mayStore c = true) : ∃ e : State, exec c s = .next e.conclude ∧ s.KeepsCanon e := by
  cases c with
  | buildClone h => exact ⟨_, rfl, s.serveCmd_keepsCanon h _ _ State.buildClone_keepsCanon⟩
  | deviceBuild => exact ⟨_, rfl, State.awake_keepsCanon s.deviceBuild_keepsCanon⟩
  | dmaElement n read => exact ⟨_, rfl, State.awake_keepsCanon (s.dmaElement_keepsCanon _ read)⟩
  | fireInstant p k => exact ⟨_, rfl, State.awake_keepsCanon (s.fireInstant_keepsCanon _)⟩
  | generationSwap => exact ⟨_, rfl, State.awake_keepsCanon s.swap_keepsCanon⟩
  | inPrintRepairComplete => exact ⟨_, rfl, State.awake_keepsCanon s.repairDone_keepsCanon⟩
  | inPrintRepairStart => exact ⟨_, rfl, State.awake_keepsCanon s.repairStart_keepsCanon⟩
  | pipelineLine k waited cache => exact ⟨_, rfl, State.awake_keepsCanon (s.pipeLine_keepsCanon _ _ cache)⟩
  | rangeWrite m => exact ⟨_, rfl, s.serve_keepsCanon _ _ _ _ fun t => t.rangeWrite_keepsCanon _ _ _ _⟩
  | retrainingComplete i result oldPasses => exact ⟨_, rfl, State.awake_keepsCanon (s.retrainDone_keepsCanon _ result oldPasses)⟩
  | reverifyLine page line bad => exact ⟨_, rfl, State.awake_keepsCanon (s.reverify_keepsCanon _ _ bad)⟩
  | segEnd m => exact ⟨_, rfl, s.serve_keepsCanon _ _ _ _ fun t => t.segEnd_keepsCanon _ _ _ _⟩
  | sendDeadline p k => exact ⟨_, rfl, State.awake_keepsCanon (s.sendDeadline_keepsCanon _)⟩
  | sliceFetch p k fault => exact ⟨_, rfl, State.awake_keepsCanon (s.sliceFetch_keepsCanon _ fault)⟩
  | sliceSend p k bad => exact ⟨_, rfl, State.awake_keepsCanon (s.sliceSend_keepsCanon _ bad)⟩
  | startupTrainingComplete answer rfm results => exact ⟨_, rfl, State.awake_keepsCanon (s.startupTrained_keepsCanon answer rfm results)⟩
  | testWindowCloseComplete => exact ⟨_, rfl, State.awake_keepsCanon s.windowClosed_keepsCanon⟩
  | testWindowOpen h => exact ⟨_, rfl, s.serveCmd_keepsCanon h _ _ State.windowOpen_keepsCanon⟩
  | tileCodecComplete n => exact ⟨_, rfl, State.awake_keepsCanon (s.tileCodec_keepsCanon _)⟩
  | walkerLine chart => exact ⟨_, rfl, State.awake_keepsCanon (s.walkLine_keepsCanon chart)⟩
  | windowDataWrite h off data => exact ⟨_, rfl, s.serve_keepsCanon h _ _ _ fun t => t.rangeWrite_keepsCanon _ _ _ _⟩
  | windowParityWrite h off data => exact ⟨_, rfl, s.serve_keepsCanon h _ _ _ fun t => t.rangeWrite_keepsCanon _ _ _ _⟩
  | _ => cases row

/-- What a command of `mayKeep` does before its end. -/
theorem exec_keepsCanon_of_mayKeep (c : Instr) (s : State) (row : mayKeep c = true) : ∃ e : State, exec c s = .next e.conclude ∧ s.KeepsCanon e := by
  cases c with
  | activationBoundary => exact ⟨_, rfl, State.awake_keepsCanon s.updBoundary_keepsCanon⟩
  | installReadbackComplete good => exact ⟨_, rfl, State.awake_keepsCanon (s.updInstalled_keepsCanon good)⟩
  | settingsErase h => exact ⟨_, rfl, s.serveStatus_keepsCanon h _ _ fun t => t.settingsCommand_keepsCanon true⟩
  | settingsOperationComplete good => exact ⟨_, rfl, State.awake_keepsCanon (s.settingsDone_keepsCanon good)⟩
  | settingsSave h => exact ⟨_, rfl, s.serveStatus_keepsCanon h _ _ fun t => t.settingsCommand_keepsCanon false⟩
  | tftpRetransmit => exact ⟨_, rfl, s.tftpAgain_keepsCanon⟩
  | tftpWrq src name octet readReq => exact ⟨_, rfl, s.tftpRequest_keepsCanon src name octet readReq⟩
  | trialSelfCheck good => exact ⟨_, rfl, State.awake_keepsCanon (s.updTrial_keepsCanon good)⟩
  | uartData f => exact ⟨_, rfl, s.uartData_keepsCanon f.good f.body⟩
  | uartOpen f => exact ⟨_, rfl, s.uartOpen_keepsCanon f.good f.body⟩
  | updateAbort h => exact ⟨_, rfl, s.serveCmd_keepsCanon h _ _ State.updAbort_keepsCanon⟩
  | updateChecksComplete => exact ⟨_, rfl, State.awake_keepsCanon s.updChecked_keepsCanon⟩
  | updateInstall h => exact ⟨_, rfl, s.serveCmd_keepsCanon h _ _ State.updInstall_keepsCanon⟩
  | updateVerify h => exact ⟨_, rfl, s.serveCmd_keepsCanon h _ _ State.updVerify_keepsCanon⟩
  | _ => cases row

/-- What a command of `mayRestart` does before its end. -/
theorem exec_keepsCanon_of_mayRestart (c : Instr) (s : State) (row : mayRestart c = true) :
    ∃ e : State, exec c s = .next e.conclude ∧ s.KeepsCanon e := by
  cases c with
  | write m => exact ⟨_, rfl, s.serve_keepsCanon _ _ _ _ fun t => t.doWrite_keepsCanon _ _ _ _⟩
  | powerRequestDeep h => exact ⟨_, rfl, s.serveCmd_keepsCanon h _ _ fun t => t.powerRequest_keepsCanon 1⟩
  | powerRequestKeep h => exact ⟨_, rfl, s.serveCmd_keepsCanon h _ _ fun t => t.powerRequest_keepsCanon 2⟩
  | powerRequestIdle h => exact ⟨_, rfl, s.serveCmd_keepsCanon h _ _ fun t => t.powerRequest_keepsCanon 3⟩
  | powerRequestRun h => exact ⟨_, rfl, s.serveCmd_keepsCanon h _ _ fun t => t.powerRequest_keepsCanon 4⟩
  | wakeN => exact ⟨_, rfl, s.wake_keepsCanon 1⟩
  | rtcAlarm => exact ⟨_, rfl, s.rtcAlarm_keepsCanon⟩
  | wakeFrame h => exact ⟨_, rfl, s.wakeFrame_keepsCanon h.peer⟩
  | railUndervoltage => exact ⟨_, rfl, s.railLow_keepsCanon⟩
  | porNRelease straps testEn => exact ⟨_, rfl, s.porRelease_keepsCanon straps testEn⟩
  | watchdogExpiry => exact ⟨_, rfl, s.watchdog_keepsCanon⟩
  | bootRetry => exact ⟨_, rfl, s.bootRetry_keepsCanon⟩
  | bootComplete => exact ⟨_, rfl, s.bootDone_keepsCanon⟩
  | bootTimeout => exact ⟨_, rfl, s.bootTimeout_keepsCanon⟩
  | resetCommand h => exact ⟨_, rfl, s.serveCmd_keepsCanon h _ _ State.resetCommand_keepsCanon⟩
  | updateActivate h => exact ⟨_, rfl, s.serveCmd_keepsCanon h _ _ State.updActivate_keepsCanon⟩
  | updateRevert h => exact ⟨_, rfl, s.serveCmd_keepsCanon h _ _ State.updRevert_keepsCanon⟩
  | tftpData src block data => exact ⟨_, rfl, s.tftpBlock_keepsCanon src block.toNat data⟩
  | uartClose f => exact ⟨_, rfl, s.uartClose_keepsCanon f.good f.body⟩
  | uartReset f => exact ⟨_, rfl, s.uartReset_keepsCanon f.good⟩
  | porNLow => exact ⟨_, rfl, s.porLow_keepsCanon⟩
  | vbatRise => exact ⟨_, rfl, s.vbatRise_keepsCanon⟩
  | internalResetRelease => exact ⟨_, rfl, s.railsGood_keepsCanon⟩
  | _ => cases row

/-- Any command keeps the form of the memories: a row of none of the three lists leaves them alone. -/
theorem exec_keepsCanon {c : Instr} {s t : State} (ran : exec c s = .next t) : s.KeepsCanon t := by
  have effect : ∃ e : State, exec c s = .next e.conclude ∧ s.KeepsCanon e := by
    cases restarts : mayRestart c with
    | true => exact exec_keepsCanon_of_mayRestart c s restarts
    | false =>
      cases keeps : mayKeep c with
      | true => exact exec_keepsCanon_of_mayKeep c s keeps
      | false =>
        cases stores : mayStore c with
        | true => exact exec_keepsCanon_of_mayStore c s stores
        | false =>
          obtain ⟨e, answer, -, kept, ram⟩ := exec_concludes_of_not_mayRestart c s restarts
          exact ⟨e, answer, State.keepsCanon_of_frames (kept keeps) (ram stores)⟩
  obtain ⟨e, answer, keeps⟩ := effect
  have same : t = e.conclude := Host.Outcome.next.inj (ran.symm.trans answer)
  exact same ▸ keeps.trans e.conclude_keepsCanon

theorem State.idleStep_keepsCanon (s : State) : s.KeepsCanon s.idleStep := by
  unfold State.idleStep
  dsimp only
  split <;> exact (State.KeepsCanon.refl s).updating

/-- Settles O53: a command keeps the form of the memories (`exec_keepsCanon`), and an idle step leaves them alone. -/
theorem memoriesStayCanonical : Obligations.MemoriesStayCanonical := by
  unfold Obligations.MemoriesStayCanonical
  intro s t canon stepped
  cases queue : s.pending with
  | nil =>
    rw [step_of_pending_nil queue] at stepped
    cases stepped
    exact s.idleStep_keepsCanon canon
  | cons c rest =>
    rw [step_of_pending_cons queue] at stepped
    exact exec_keepsCanon stepped canon

/-- Settles O52: after reset nothing is owed, and the memories list nothing. -/
theorem nothingIsOwedAtReset : Obligations.NothingIsOwedAtReset := ⟨rfl, rfl⟩

end Sys2Proof.Machine

/-! PROOFS. Temperatures, refresh, requests and training of the DRAM (R324 to R334): each operation in the case that its clause states. -/

namespace Sys2Proof.Machine

-- One proof after another, so that the whole text is checked within the memory of one process.
set_option Elab.async false

/-! ## Temperatures (R326) -/

theorem State.dramTemps_cool {s v : State} {temps : List (List Int)} {t : Int} {ts : List Int}
    (read : v = (List.zip (upTo 8) temps).foldl (fun s (i, l) => s.subTemps i l) s) (all : (v.dram.subs.flatMap fun e => e.2.temps) = t :: ts)
    (cool : ts.foldl max t ≤ 1488) :
    s.dramTemps temps =
      { v.set 0x6010 6 (ofSigned 16 (ts.foldl max t)) with dram := { (v.set 0x6010 6 (ofSigned 16 (ts.foldl max t))).dram with hot := false } } := by
  unfold State.dramTemps
  dsimp only
  rw [← read, all]
  dsimp only
  rw [if_neg (by omega), if_pos cool]

/-! ## Refresh (R327 to R329) -/

/-- The end of a rank's interval: the refreshes that it forces, and the greatest debt. -/
theorem State.refreshDue_over {s v w : State} {i rank : Nat} (served : s.subIn i = true) (present : rank < s.dramConf 1)
    (ended : sget 0 (s.sub i).refAt rank ≤ s.clk.now) (boundary : v = s.refreshBoundary i)
    (counts : w = v.updSub i fun x =>
      x.interval v.allBank rank ((if sget 0 (s.sub i).refAt rank = 0 then v.clk.now else sget 0 (s.sub i).refAt rank) + v.refreshNs i)) :
    s.refreshDue i rank =
      let x := w.forceRefresh i rank v.allBank ((w.sub i).forcedAt v.allBank rank w.refreshLimit)
      x.set 0x6010 3 (max (x.reg 0x6010 3) ((x.sub i).debtOf rank)) := by
  subst boundary counts
  exact if_neg (by simp [served, present, ended])

theorem State.forceRefresh_nil (s : State) (i rank : Nat) (all : Bool) : s.forceRefresh i rank all [] = s := rfl

/-! ## Requests (R324, R325) -/

/-- With no mitigation due, the oldest real-time read goes first. -/
theorem State.issueNext_real {s : State} {i : Nat} {r : DramReq} (noneDue : (s.sub i).due = []) (oldest : (s.sub i).reads.find? (·.real) = some r) :
    s.issueNext i = (s.updSub i fun x => x.issue (s.reg 0x6020 1) r).set 0x6040 3 (min (max (s.reg 0x6040 3) (s.clk.now - r.at_)) (2 ^ 32 - 1)) := by
  simp only [State.issueNext, noneDue, oldest]

theorem State.dramIssue_served {s : State} {i : Nat} (served : s.subIn i = true) (l : List Arrival) :
    s.dramIssue i l = ((s.accept_ i l).updSub i fun x => x.payRefresh s.allBank).issueNext i :=
  if_pos served

/-! ## Training (R318, R330 to R334) -/

theorem State.startupTrained_unanswered {s : State} (untrained : s.dram.trained = false) (run : s.boot.phase = .run) (rfm : Bool) (l : List TrainResult) :
    s.startupTrained false rfm l =
      (upTo 8).foldl (fun s i => s.trainEvent i 5) (State.set { s with dram := { s.dram with trained := true } } 0x6020 4 (b2n rfm)) := by
  unfold State.startupTrained
  rw [if_neg (by simp [untrained, run])]
  simp only [Bool.false_and, Bool.not_false, if_true]

/-- Every subchannel passes: each keeps its results, no pair is retired, and DRAM, page store and stash are ready. -/
theorem State.startupTrained_passed {s v : State} {rfm : Bool} {t0 t1 t2 t3 t4 t5 t6 t7 : TrainResult} (untrained : s.dram.trained = false)
    (run : s.boot.phase = .run) (pass : ([t0, t1, t2, t3, t4, t5, t6, t7].all fun t => s.passes7 t) = true)
    (kept : v = (List.zip (upTo 8) [t0, t1, t2, t3, t4, t5, t6, t7]).foldl (fun u (i, t) => (u.keepResult i t).trainEvent i 1)
      (State.set { s with dram := { s.dram with trained := true } } 0x6020 4 (b2n rfm)))
    (enough : 2 ≤ pairCount v.pairsIn) :
    s.startupTrained true rfm [t0, t1, t2, t3, t4, t5, t6, t7] =
      (((State.capNow { v with dram := { v.dram with copies := copiesOver v.pairsIn } }).setReady 6 true).setReady 7 true |>.setReady 8 true).sessionReady := by
  simp only [List.all_cons, List.all_nil, Bool.and_true, Bool.and_eq_true] at pass
  obtain ⟨p0, p1, p2, p3, p4, p5, p6, p7⟩ := pass
  unfold State.startupTrained
  rw [if_neg (by simp [untrained, run])]
  extract_lets good dram s1 s2 s3 dram' s4
  have g0 : good 0 = true := p0
  have g1 : good 1 = true := p1
  have g2 : good 2 = true := p2
  have g3 : good 3 = true := p3
  have g4 : good 4 = true := p4
  have g5 : good 5 = true := p5
  have g6 : good 6 = true := p6
  have g7 : good 7 = true := p7
  have keeps : s2 = v := by
    subst kept
    show List.foldl _ _ [0, 1, 2, 3, 4, 5, 6, 7] = List.foldl _ _ [(0, t0), (1, t1), (2, t2), (3, t3), (4, t4), (5, t5), (6, t6), (7, t7)]
    simp only [List.foldl_cons, List.foldl_nil, g0, g1, g2, g3, g4, g5, g6, g7]
    rfl
  have retires : s3 = s2 := by
    show List.foldl _ _ [0, 1, 2, 3] = _
    simp only [List.foldl_cons, List.foldl_nil, Nat.reduceMul, Nat.reduceAdd, g0, g1, g2, g3, g4, g5, g6, g7, Bool.and_self, if_true]
  have all : s3 = v := retires.trans keeps
  clear_value s3
  subst all
  rw [if_neg (by simp), if_neg (Nat.not_lt.mpr enough)]

theorem State.retrainAll_accepted {s : State} (some : (upTo 8).filter s.subIn ≠ []) :
    s.retrainAll = (((upTo 8).filter s.subIn).foldl (fun s i => s.scheduleTraining i) s, true) :=
  if_neg (by simpa using some)

theorem State.retrainOne_accepted {s : State} {i : Nat} (selected : i = s.reg 0x6030 2) (served : s.subIn i = true) :
    s.retrainOne = (s.scheduleTraining i, true) := by
  subst selected
  exact if_pos served

theorem State.driftSample_beyond {s : State} {i drift : Nat} (served : s.subIn i = true) (beyond : s.reg 0x6030 6 < drift)
    (stopped : (s.sub i).run = false) (unscheduled : (s.sub i).sched = false) : s.driftSample i drift = s.scheduleTraining i := by
  unfold State.driftSample
  dsimp only
  rw [if_neg (by simp [served, beyond, stopped]), if_pos (by simp [unscheduled])]

theorem State.retrainStart_scheduled {s : State} {i : Nat} (scheduled : (s.sub i).sched = true) (quiet : s.pagesActive = false)
    (served : s.subIn i = true) : s.retrainStart i = (s.updSub i fun x => { x with sched := false, run := true }).showTraining :=
  if_neg (by simp [scheduled, quiet, served])

section Retraining
variable {s v : State} {i : Nat} {t : TrainResult} (running : (s.sub i).run = true)
  (ended : v = (s.updSub i fun x => { x with run := false }).showTraining)
include running ended

/-- New results that pass are applied. -/
theorem State.retrainDone_applied {w : State} (passes : v.passes7 t = true) (kept : w = ((v.keepResult i t).set 0x6030 4 0).trainEvent i 3)
    (old : Bool) : s.retrainDone i t old = if w.subState i = 1 then w.subTo i 0 0 else w := by
  subst kept ended
  unfold State.retrainDone
  dsimp only
  rw [if_neg (by simp [running]), if_pos passes]

/-- Results that fail leave the old ones in force where these still pass. -/
theorem State.retrainDone_oldKept (fails : v.passes7 t = false) :
    s.retrainDone i t true = ((v.set 0x6030 4 1).trainEvent i 4).subTo i 1 2 := by
  subst ended
  unfold State.retrainDone
  dsimp only
  rw [if_neg (by simp [running]), if_neg (by simp [fails]), if_pos rfl]

end Retraining

/-- Settles O21: clause by clause, the command's effect in the stated case, under the one end of a command. -/
theorem dramServing : Obligations.DramServing := by
  unfold Obligations.DramServing
  refine ⟨?_, ?_, ?_, ?_, ?_, ?_, ?_, ?_, ?_, ?_, ?_, ?_, ?_⟩
  -- DRAM_TEMPERATURE_READ (R326)
  · intro s v temps t ts alive read all cool
    exact done_of_eq ((State.awake_alive alive _).trans (State.dramTemps_cool read all cool))
  -- REFRESH_DUE: postponed or paid, forced (R327, R328)
  · intro s v w i rank at_ alive served present at_eq ended boundary counts none
    subst at_eq
    have due := State.refreshDue_over served present ended boundary counts
    rw [none, State.forceRefresh_nil] at due
    exact done_of_eq ((State.awake_alive alive _).trans due)
  · intro s v w x i rank at_ l alive served present at_eq ended boundary counts forced refreshed
    subst at_eq refreshed forced
    exact done_of_eq ((State.awake_alive alive _).trans (State.refreshDue_over served present ended boundary counts))
  -- DRAM_COMMAND_ISSUE (R324, R325)
  · intro s v i l r alive served accepted noneDue oldest
    subst accepted
    exact done_of_eq ((State.awake_alive alive _).trans ((State.dramIssue_served served l).trans (State.issueNext_real noneDue oldest)))
  -- REFRESH_WINDOW_CLEAR (R329)
  · intro s i alive
    exact done_of_eq (State.awake_alive alive _)
  -- STARTUP_TRAINING_COMPLETE: no answer, all pass (R318, R330)
  · intro s rfm l alive untrained run
    exact done_of_eq ((State.awake_alive alive _).trans (State.startupTrained_unanswered untrained run rfm l))
  · intro s v rfm t0 t1 t2 t3 t4 t5 t6 t7 alive untrained run pass kept enough
    exact done_of_eq ((State.awake_alive alive _).trans (State.startupTrained_passed untrained run pass kept enough))
  -- RETRAIN_ALL, RETRAIN_SUBCHANNEL (R332)
  · intro s u h admits counted some
    subst counted
    exact done_of_eq (State.serveCmd_accepted admits (State.retrainAll_accepted some))
  · intro s u h i admits counted selected served
    subst counted
    exact done_of_eq (State.serveCmd_accepted admits (State.retrainOne_accepted selected served))
  -- DRIFT_SAMPLE (R332)
  · intro s i d alive served beyond stopped unscheduled
    exact done_of_eq ((State.awake_alive alive _).trans (State.driftSample_beyond served beyond stopped unscheduled))
  -- RETRAINING_START, RETRAINING_COMPLETE (R333, R334)
  · intro s i alive scheduled quiet served
    exact done_of_eq ((State.awake_alive alive _).trans (State.retrainStart_scheduled scheduled quiet served))
  · intro s v w i t old alive running ended passes kept
    exact done_of_eq ((State.awake_alive alive _).trans (State.retrainDone_applied running ended passes kept old))
  · intro s v i t alive running ended fails
    exact done_of_eq ((State.awake_alive alive _).trans (State.retrainDone_oldKept running ended fails))

end Sys2Proof.Machine

/-! PROOFS. Leaky buckets, test windows and CRC units (R347 to R357): each operation in the case that its clause states. -/

namespace Sys2Proof.Machine

-- One proof after another, so that the whole text is checked within the memory of one process.
set_option Elab.async false

theorem State.serve_answered {s t : State} {h : FopHead} {op key status : Nat} {payload : Bytes} {act : State → State × Nat × Bytes}
    (admits : s.Admits h op key) (acts : act (s.counted h) = (t, status, payload)) :
    s.serve h op key act = t.fopReply h (s.ownAddr h.peer) op key status payload := by
  rw [State.serve_admits admits, acts]

/-! ## Leaky buckets (R347) -/

theorem State.leak_due {s : State} {c : Nat} (due : s.leakAt c ≤ s.clk.now) :
    s.leak c = State.leakOne { s with integ := { s.integ with leak := sset 0 s.integ.leak c (s.leakAt c) } } c (s.reg (clsIdx c) 3) :=
  if_neg (Nat.not_lt.mpr due)

/-! ## Test windows (R349, R350) -/

theorem State.windowOpen_accepted {s v : State} (idle : s.reg 0xF000 4 = 0) (sized : s.windowSize ≠ 0) (may : s.windowMayOpen (s.reg 0xF000 1) = true)
    (opened : v = (((s.set 0xF000 4 2).set 0xF000 5 0).set 0xF000 6 0).set 0xF000 7 0xFFFFFFFF) :
    s.windowOpen = (State.windowOpened { v with integ := { v.integ with window := [] } } (s.reg 0xF000 1), true) := by
  subst opened
  simp [State.windowOpen, idle, sized, may]

theorem State.windowClose_accepted {s : State} (isOpen : s.reg 0xF000 4 = 2) : s.windowClose = ((s.set 0xF000 4 3).set 0xF000 5 0, true) :=
  if_pos isOpen

/-- The dictionary's row of the data (k = 1) or the parity (k = 2) of the window. -/
def windowRow (k : Fin 2) : Obj := ⟨0xF001 + k, 1, 1, 0, 1, .dom, 0, .rw, false, true, 0, .any⟩

theorem lookup_window (k : Fin 2) : lookup (0xF001 + k) 0 = some (windowRow k) := by
  fin_cases k <;> rfl

/-- An open window takes a write of its data or its parity. -/
theorem State.rangeWrite_window {s : State} {p : Peer} {off : BitVec 32} {d : Bytes} (k : Fin 2) (nonempty : d ≠ []) (most : d.length ≤ 1024)
    (within : off.toNat + d.length ≤ s.domSize (0xF001 + k) 0) (isOpen : s.reg 0xF000 4 = 2) (unlocked : s.lockedFor p (obj (0xF001 + k) 0) = false) :
    s.rangeWrite p (0xF001 + k) 0 (leBytes 4 off.toNat ++ d) = ((s.domWrite (0xF001 + k) 0 off.toNat d).rewatch (0xF001 + k) 0, St.ok, []) := by
  have writable : accessOf (0xF001 + k) 0 (windowRow k) ≠ .ro := by fin_cases k <;> decide
  have idle : s.domIdle (0xF001 + k) = true := by fin_cases k <;> simp [State.domIdle, isOpen]
  exact s.rangeWrite_within (lookup_window k) rfl writable (by omega) off.isLt (List.length_pos_iff.mpr nonempty) most within idle unlocked

/-! ## CRC units (R354 to R357) -/

theorem State.crcCommand_free {s : State} {u : Nat} (free : s.crcOwned u = false) (compare : Bool) :
    s.crcCommand u compare = (if compare then s.crcCompare u else s.crcReset u, St.ok) :=
  if_neg (by simp [free])

section Compare
variable {s : State} {u w r : Nat} (width : w = (s.crcCfg u).1) (result : r = s.crcOut u (s.reg (crcIdx u) 7))
include width result

theorem State.crcCompare_match (same : r = s.reg (crcIdx u) 9 % 2 ^ w) : s.crcCompare u = s.set (crcIdx u) 0x0A 1 := by
  subst width result
  exact if_pos same

theorem State.crcCompare_mismatch (differs : r ≠ s.reg (crcIdx u) 9 % 2 ^ w) :
    s.crcCompare u = (s.set (crcIdx u) 0x0A 2).raise (240 + u) 0 (r + s.reg (crcIdx u) 9 * 2 ^ 32) := by
  subst width result
  exact if_neg differs

end Compare

theorem State.put'_crcFeed (s : State) (c : Fin 8) (w : Fin 4) (v : Nat) :
    s.put' (crcIdx c) (0x0B + w.val) v = s.crcFeed c (leBytes (2 ^ w.val) v) := by
  fin_cases c <;> fin_cases w <;> rfl

theorem State.put'_crcValue (s : State) (c : Fin 8) (v : Nat) : s.put' (crcIdx c) 7 v = s.crcPut c v := by
  fin_cases c <;> rfl

theorem State.crcBusy_free {s : State} {u : Nat} (free : s.crcOwned u = false) (sub : Nat) : s.crcBusy (crcIdx u) sub = false := by
  simp [State.crcBusy, crcIdx, free]

/-- An admitted feed of a unit that no channel owns is taken. -/
theorem State.wrote_crcFeed {s : State} {h : FopHead} {c : Fin 8} {w : Fin 4} {v : Nat} (admits : s.Admits h 2 (obj (crcIdx c) (0x0B + w.val)))
    (free : (s.counted h).crcOwned c = false) (width : v < 256 ^ 2 ^ w.val) :
    s.wrote h (crcIdx c) (0x0B + w.val) (2 ^ w.val) v =
      ((s.counted h).crcFeed c (leBytes (2 ^ w.val) v)).fopReply h (s.ownAddr h.peer) 2 (obj (crcIdx c) (0x0B + w.val)) St.ok [] := by
  have taken : (s.counted h).writeScalar (crcIdx c) (0x0B + w.val) v = ((s.counted h).crcFeed c (leBytes (2 ^ w.val) v), St.ok) := by
    rw [← State.put'_crcFeed]
    refine State.writeScalar_put _ (lookup_feed c w) rfl ?_ (State.crcBusy_free free _) ?_ (.inl (by unfold crcIdx; omega))
    all_goals fin_cases c <;> fin_cases w <;> rfl
  have writable : accessOf (crcIdx c) (0x0B + w.val) ⟨0x6820, 1, 8, 11 + w.val, 1, .u, 2 ^ w.val, .wo, false, false, 0, .any⟩ ≠ .ro := by
    fin_cases c <;> fin_cases w <;> decide
  have reaches := State.wrote_scalar admits (lookup_feed c w) writable (by unfold crcIdx; omega) (by simp) (by simp) width
  rwa [taken] at reaches

/-- An admitted write of the running value of a unit that no channel owns is taken. -/
theorem State.wrote_crcValue {s : State} {h : FopHead} {c : Fin 8} {v : BitVec 32} (admits : s.Admits h 2 (obj (crcIdx c) 7))
    (free : (s.counted h).crcOwned c = false) :
    s.wrote h (crcIdx c) 7 4 v.toNat = ((s.counted h).crcPut c v.toNat).fopReply h (s.ownAddr h.peer) 2 (obj (crcIdx c) 7) St.ok [] := by
  have taken : (s.counted h).writeScalar (crcIdx c) 7 v.toNat = ((s.counted h).crcPut c v.toNat, St.ok) := by
    rw [← State.put'_crcValue]
    refine State.writeScalar_put _ (lookup_crc7 c) rfl ?_ (State.crcBusy_free free _) ?_ (.inl (by unfold crcIdx; omega))
    all_goals fin_cases c <;> rfl
  have writable : accessOf (crcIdx c) 7 ⟨0x6820, 1, 8, 7, 1, .u, 4, .rw, false, false, 4294967295, .any⟩ ≠ .ro := by
    fin_cases c <;> decide
  have reaches := State.wrote_scalar admits (lookup_crc7 c) writable (by unfold crcIdx; omega) (by simp) (by simp) v.isLt
  rwa [taken] at reaches

/-- Settles O22: clause by clause, the command's effect in the stated case, under the one end of a command. -/
theorem windowsBucketsAndCrc : Obligations.WindowsBucketsAndCrc := by
  unfold Obligations.WindowsBucketsAndCrc
  refine ⟨?_, ?_, ?_, ?_, ?_, ?_, ?_, ?_, ?_, ?_⟩
  -- LEAK_INSTANT (R347)
  · intro s c next alive next_eq due
    subst next_eq
    exact done_of_eq ((State.awake_alive alive _).trans (State.leak_due due))
  -- TEST_WINDOW_OPEN, TEST_WINDOW_CLOSE (R349)
  · intro s u h x v admits counted array idle sized may opened
    subst counted array
    exact done_of_eq (State.serveCmd_accepted admits (State.windowOpen_accepted idle sized may opened))
  · intro s u h admits counted isOpen
    subst counted
    exact done_of_eq (State.serveCmd_accepted admits (State.windowClose_accepted isOpen))
  -- WINDOW_DATA_WRITE, WINDOW_PARITY_WRITE (R350)
  · intro s u h off d admits counted nonempty most within isOpen unlocked
    subst counted
    exact done_of_eq (State.serve_answered admits (State.rangeWrite_window 0 nonempty most within isOpen unlocked))
  · intro s u h off d admits counted nonempty most within isOpen unlocked
    subst counted
    exact done_of_eq (State.serve_answered admits (State.rangeWrite_window 1 nonempty most within isOpen unlocked))
  -- CRC_RESET, CRC_COMPARE (R354, R356)
  · intro s u h c admits counted free
    subst counted
    exact done_of_eq (State.serveStatus_answered admits (State.crcCommand_free free false))
  · intro s u h c w r admits counted free width result same
    subst counted
    have acts := State.crcCommand_free free true
    rw [if_pos rfl, State.crcCompare_match width result same] at acts
    exact done_of_eq (State.serveStatus_answered admits acts)
  · intro s u h c w r admits counted free width result differs
    subst counted
    have acts := State.crcCommand_free free true
    rw [if_pos rfl, State.crcCompare_mismatch width result differs] at acts
    exact done_of_eq (State.serveStatus_answered admits acts)
  -- CRC_FEED, RUNNING_VALUE_WRITE (R355)
  · intro s u h c w v admits counted free width
    subst counted
    exact done_of_eq (State.wrote_crcFeed admits free width)
  · intro s u h c v admits counted free
    subst counted
    exact done_of_eq (State.wrote_crcValue admits free)

end Sys2Proof.Machine

/-! PROOFS. The DMA channels (R358 to R365): each operation in the case that its clause states. -/

namespace Sys2Proof.Machine

-- One proof after another, so that the whole text is checked within the memory of one process.
set_option Elab.async false

/-! ## Start, stop, resume, claim, release (R364) -/

section Channel
variable {s : State} {n : Nat}

theorem State.dmaStart_idle (idle : s.dmaState n = 0) (active : Ring.active s.ev (128 + n) = true) :
    s.dmaStart n = ((s.set (dmaIdx n) 6 1).set (dmaIdx n) 8 0, true) := by
  simp [State.dmaStart, idle, active, State.dmaResult]

theorem State.dmaStop_running (running : s.dmaState n = 1) :
    s.dmaStop n = (((if (s.dmaCur n).isSome then s.dmaFinish n 3 else s).set (dmaIdx n) 6 0).set (dmaIdx n) 8 0, true) := by
  simp only [State.dmaStop, running]
  rfl

theorem State.dmaResume_halted (halted : s.dmaState n = 2) : s.dmaResume n = ((s.set (dmaIdx n) 6 1).set (dmaIdx n) 8 0, true) := by
  simp only [State.dmaResume, halted]
  rfl

theorem State.dmaClaim_free (wanting : s.claimsHeld < s.claimsWanted) (free : ((upTo 32).reverse.find? fun n => s.dmaState n == 0) = some n) :
    s.dmaClaim = (s.set (dmaIdx n) 6 3).set (dmaIdx n) 7 1 := by
  simp only [State.dmaClaim, Nat.not_le.mpr wanting, if_false, free]

theorem State.dmaRelease_done (claimed : s.dmaState n = 3) (done : s.claimsWanted < s.claimsHeld) :
    s.dmaRelease n = (s.set (dmaIdx n) 6 0).set (dmaIdx n) 7 0 :=
  if_pos ⟨claimed, done⟩

end Channel

/-! ## A descriptor is taken in (R360) -/

/-- A copy descriptor that meets the rules of R359 and does not go to a feed object. -/
theorem State.dmaDescriptor_copy {s : State} {n src dst len e ix sub off : Nat} {d : Bytes} (running : s.dmaState n = 1) (free : s.dmaCur n = none)
    (head : s.ev.ringHead (128 + n) = some (d, 0)) (unskipped : bit (leAt d 1 1) 0 = false) (copy : leAt d 0 1 = 0x40) (source : src = leAt d 8 8)
    (destination : dst = leAt d 16 8) (length : len = leAt d 24 4) (element : e = s.dmaElem n) (nonempty : len ≠ 0) (whole : len % e = 0)
    (sourceAligned : endAligned e len (s.reg (dmaIdx n) 2 == 1) (endOf src) = true)
    (destAligned : endAligned e len (s.reg (dmaIdx n) 3 == 1) (endOf dst) = true) (object : endOf dst = .object ix sub off)
    (noFeed : feedOf ix sub = none) :
    s.dmaDescriptor n false =
      (s.set (dmaIdx n) 9 0).setCur n (some ⟨src, dst, len, leAt d 4 4, s.ev.bank.get (qObj (128 + n) 3), 0, false, none⟩) := by
  subst source destination length element
  rw [object] at destAligned
  have clean : s.ringRead (128 + n) false = s := rfl
  simp only [State.dmaDescriptor, clean, running, free, head, unskipped, copy, nonempty, whole, sourceAligned, destAligned, object, noFeed,
    Option.isSome_none, ne_eq, not_true, Bool.false_eq_true, Bool.true_eq_false, Bool.not_true, or_self, if_false, OfNat.ofNat_ne_one]

/-! ## An element moves (R361 to R363) -/

section Element
variable {s t : State} {n e : Nat} {c : DmaCur} {bs : Bytes} {from_ into : End} (served : s.dmaServed = some n) (current : s.dmaCur n = some c)
  (element : e = s.dmaElem n) (source : from_ = endOf (if (s.reg (dmaIdx n) 2 == 1) = true then c.src else c.src + c.moved))
  (destination : into = endOf (if (s.reg (dmaIdx n) 3 == 1) = true then c.dst else c.dst + c.moved))
  (reads : State.endRead { s with integ := { s.integ with turn := n + 1 } } e
    (State.endBad { s with integ := { s.integ with turn := n + 1 } } e from_) from_ = .ok bs)
  (writes : State.endWrite { s with integ := { s.integ with turn := n + 1 } } bs (s.reg (dmaIdx n) 3 == 1) into = .ok t)
include served current element source destination reads writes

/-- The element of the channel served is read and written: progress, the half mark, and the end of the descriptor. -/
theorem State.dmaElement_moved :
    s.dmaElement n .clean =
      let half := !c.half && decide (c.len ≤ 2 * (c.moved + e))
      let moved := (t.set (dmaIdx n) 9 (c.moved + e)).setCur n (some { c with moved := c.moved + e, half := c.half || half })
      let told := if half then moved.raise (80 + 3 * n) 0 c.seq else moved
      if c.moved + e ≥ c.len then (told.dmaFinish n 1).raise (81 + 3 * n) 0 c.seq else told := by
  subst element source destination
  have checked : (Restored.clean == .lost) = false := rfl
  have exact_ : ¬ Restored.clean = .corrected := nofun
  simp only [State.dmaElement, served, current, checked, exact_, Bool.false_or, reads, writes, ne_eq, not_true, if_false]
  rfl

theorem State.dmaElement_below (below : 2 * (c.moved + e) < c.len) :
    s.dmaElement n .clean = (t.set (dmaIdx n) 9 (c.moved + e)).setCur n (some { c with moved := c.moved + e }) := by
  have early : decide (c.len ≤ 2 * (c.moved + e)) = false := by simpa using below
  have unfinished : ¬ c.moved + e ≥ c.len := by omega
  rw [State.dmaElement_moved served current element source destination reads writes]
  simp [early, unfinished]

theorem State.dmaElement_last (half : c.half = true) (last : c.len ≤ c.moved + e) :
    s.dmaElement n .clean =
      (((t.set (dmaIdx n) 9 (c.moved + e)).setCur n (some { c with moved := c.moved + e })).dmaFinish n 1).raise (81 + 3 * n) 0 c.seq := by
  rw [State.dmaElement_moved served current element source destination reads writes]
  simp [half, last]

end Element

/-- Settles O23: clause by clause, the command's effect in the stated case, under the one end of a command. -/
theorem dmaChannels : Obligations.DmaChannels := by
  unfold Obligations.DmaChannels
  refine ⟨?_, ?_, ?_, ?_, ?_, ?_, ?_, ?_, ?_⟩
  -- DMA_START, DMA_STOP, DMA_RESUME (R364)
  · intro s u h n admits counted idle active
    subst counted
    exact done_of_eq (State.serveCmd_accepted admits (State.dmaStart_idle idle active))
  · intro s u h n admits counted running free
    subst counted
    have stops := State.dmaStop_running running
    rw [free] at stops
    exact done_of_eq (State.serveCmd_accepted admits stops)
  · intro s u h n admits counted running busy
    subst counted
    have stops := State.dmaStop_running running
    rw [if_pos busy] at stops
    exact done_of_eq (State.serveCmd_accepted admits stops)
  · intro s u h n admits counted halted
    subst counted
    exact done_of_eq (State.serveCmd_accepted admits (State.dmaResume_halted halted))
  -- DMA_CLAIM, DMA_RELEASE (R364)
  · intro s n alive wanting free
    exact done_of_eq ((State.awake_alive alive _).trans (State.dmaClaim_free wanting free))
  · intro s n alive claimed done
    exact done_of_eq ((State.awake_alive alive _).trans (State.dmaRelease_done claimed done))
  -- DMA_DESCRIPTOR (R360)
  · intro s n d src dst len e ix sub off alive running free head unskipped copy source destination length element nonempty whole sourceAligned
      destAligned object noFeed
    exact done_of_eq ((State.awake_alive alive _).trans (State.dmaDescriptor_copy running free head unskipped copy source destination length element
      nonempty whole sourceAligned destAligned object noFeed))
  -- DMA_ELEMENT (R361 to R363)
  · intro s t n c e m bs from_ into alive served current element source destination reads writes moved below
    subst moved
    exact done_of_eq ((State.awake_alive alive _).trans
      (State.dmaElement_below served current element source destination reads writes below))
  · intro s t n c e bs from_ into alive served current element source destination reads writes half last
    exact done_of_eq ((State.awake_alive alive _).trans
      (State.dmaElement_last served current element source destination reads writes half last))

end Sys2Proof.Machine

/-! PROOFS. The fault collector and the safe state (R367 to R383, R468), and the tests of bring-up (R349, R414): each operation in the case that its clause states. -/

namespace Sys2Proof.Machine

-- One proof after another, so that the whole text is checked within the memory of one process.
set_option Elab.async false

/-- A command that refuses: the reply says so. -/
theorem State.serveCmd_refused {s t : State} {h : FopHead} {key : Nat} {act : State → State × Bool} (admits : s.Admits h 2 key)
    (refuses : act (s.counted h) = (t, false)) : s.serveCmd h key act = t.fopReply h (s.ownAddr h.peer) 2 key St.refused [] := by
  rw [State.serveCmd_admits admits, refuses]
  rfl

/-! ## Self-tests and the close of a test window (R349, R414) -/

theorem State.selfTestCodec_passed {s : State} (alive : s.alive = true) (stash : s.ready 8 = true) :
    s.selfTestCodec = (s.setReady 9 true).feedEncoders :=
  if_pos (by simp [alive, stash])

theorem State.selfTestCluster_passed {s : State} {c : Nat} (loaded : s.loaded 2 = true) (store : s.ready 7 = true) (inService : s.unit (clusterUnit c) = 0) :
    s.selfTestCluster c = s.setReady (10 + c) true :=
  if_pos (by simp [loaded, store, inService])

/-- An array whose close asks for nothing more leaves the window IDLE and its copy empty. -/
theorem State.windowClosed_plain {s v : State} (closing : s.reg 0xF000 4 = 3) (noChunk : s.reg 0xF000 1 ≠ 0x0020) (noSessions : s.reg 0xF000 1 ≠ 0x001B)
    (idle : v = s.set 0xF000 4 0) : s.windowClosed = { v with integ := { s.integ with window := [] } } := by
  subst idle
  simp only [State.windowClosed, closing, noChunk, noSessions, ne_eq, not_true, if_false]

/-- Settles O31: clause by clause, the command's effect in the stated case, under the one end of a command. -/
theorem bringUpTests : Obligations.BringUpTests := by
  unfold Obligations.BringUpTests
  refine ⟨?_, ?_, ?_⟩
  -- FUNCTION_SELF_TEST_PASSED (R414)
  · intro s alive stash
    exact done_of_eq ((State.awake_alive alive _).trans (State.selfTestCodec_passed alive stash))
  · intro s c alive loaded store inService
    exact done_of_eq ((State.awake_alive alive _).trans (State.selfTestCluster_passed loaded store inService))
  -- TEST_WINDOW_CLOSE_COMPLETE (R349)
  · intro s v alive closing noChunk noSessions idle
    exact done_of_eq ((State.awake_alive alive _).trans (State.windowClosed_plain closing noChunk noSessions idle))

/-! ## Occurrences by severity (R367, R368) -/

section Collect
variable {e : Ev} {o : Occ} (real : o.test = false) (started : e.started = true) (healthy : e.fstat 10 = false)
include real started healthy

theorem Ev.collect_notice (sev : o.sev = 0) : e.collect o = e.countSev 0 := by
  simp [Ev.collect, real, started, healthy, sev]

theorem Ev.collect_sev1 (sev : o.sev = 1) : e.collect o = (e.countSev 1).windowCount o := by
  simp [Ev.collect, real, started, healthy, sev]

theorem Ev.collect_sev2 (sev : o.sev = 2) : e.collect o = (((e.countSev 2).recordFault o).setFstat 3 true).windowCount o := by
  simp [Ev.collect, real, started, healthy, sev]

theorem Ev.collect_sev3 (sev : o.sev = 3) : e.collect o = (((e.countSev 3).recordFault o).setFstat 2 true).windowCount o := by
  simp [Ev.collect, real, started, healthy, sev]

theorem Ev.collect_sev4 (sev : o.sev = 4) :
    e.collect o = ((((e.countSev 4).recordFault o).setFstat 1 true).windowCount o).dueSafe (if o.lasting = true then 2 else 1) o.src := by
  simp [Ev.collect, real, started, healthy, sev]

end Collect

theorem Ev.collect_test {o : Occ} (e : Ev) (test : o.test = true) : e.collect o = e :=
  if_pos test

/-- Settles O37: the collector's equation at each severity. -/
theorem collectorActsBySeverity : Obligations.CollectorActsBySeverity := by
  unfold Obligations.CollectorActsBySeverity
  exact ⟨fun _ _ => Ev.collect_notice, fun _ _ => Ev.collect_sev1, fun _ _ => Ev.collect_sev2, fun _ _ => Ev.collect_sev3, fun _ _ => Ev.collect_sev4,
    fun e _ => Ev.collect_test e⟩

/-! ## Counting windows (R372 to R374) -/

section CountingWindow
variable {s : State} {n : Nat} (healthy : s.ev.fstat 10 = false) (isOpen : s.ev.bank.get (wObj n 4) = 1)
  (ended : s.ev.bank.get (wObj n 5) + s.ev.windowNs n ≤ s.clk.now)
include healthy isOpen ended

theorem State.countingClose_transient {b : Bank} (below : s.ev.bank.get (wObj n 6) < s.ev.bank.get (wObj n 1)) (bank : b = (s.ev.bump (wObj n 7)).bank) :
    s.countingClose n = { s with ev := { s.ev.bump (wObj n 7) with bank := (b.put (wObj n 4) 0).put (wObj n 6) 0 } } := by
  subst bank
  simp [State.countingClose, Ev.windowClose, healthy, isOpen, ended, below]

theorem State.countingClose_lasting (reached : s.ev.bank.get (wObj n 1) ≤ s.ev.bank.get (wObj n 6)) :
    s.countingClose n = { s with ev := { s.ev with bank := (s.ev.bank.put (wObj n 4) 0).put (wObj n 6) 0 } } := by
  simp [State.countingClose, Ev.windowClose, healthy, isOpen, ended, Nat.not_lt.mpr reached]

end CountingWindow

theorem State.windowConfig_open {s : State} {n sub v : Nat} (isOpen : (s.set (0x7900 + n) sub v).reg (0x7900 + n) 4 = 1) :
    s.windowConfig n sub v = ((s.set (0x7900 + n) sub v).set (0x7900 + n) 4 0).set (0x7900 + n) 6 0 :=
  if_pos isOpen

theorem State.windowConfig_closed {s : State} {n sub v : Nat} (closed : (s.set (0x7900 + n) sub v).reg (0x7900 + n) 4 ≠ 1) :
    s.windowConfig n sub v = s.set (0x7900 + n) sub v :=
  if_neg closed

/-- The dictionary's row of N or W of the counting windows. -/
def countingRow (sub size dflt lo hi : Nat) : Obj := ⟨0x7900, 1, 256, sub, 1, .u, size, .rw, true, false, dflt, .span lo hi⟩

section WindowWrite
variable (n : BitVec 8) {sub : Nat} (config : sub = 1 ∨ sub = 2)
include config

theorem State.put'_countingWindow (s : State) (v : Nat) : s.put' (0x7900 + n.toNat) sub v = s.windowConfig n.toNat sub v := by
  have small := n.isLt
  unfold State.put'
  split
  case h_15 =>
    rw [if_neg (by omega), if_neg (by omega), if_neg (by omega), if_neg (by omega), if_neg (by omega), if_neg (by omega), if_neg (by omega),
      if_pos (by omega), Nat.add_sub_cancel_left]
  all_goals omega

theorem State.fitsState_countingWindow (s : State) (v : Nat) : s.fitsState (0x7900 + n.toNat) sub v = true := by
  have small := n.isLt
  unfold State.fitsState
  split
  case h_11 => rw [if_neg (by omega), if_neg (by omega)]
  all_goals omega

/-- An admitted write of N or W within its range is taken. -/
theorem State.wrote_countingWindow {s : State} {h : FopHead} {size dflt lo hi v : Nat} (admits : s.Admits h 2 (obj (0x7900 + n.toNat) sub))
    (row : lookup (0x7900 + n.toNat) sub = some (countingRow sub size dflt lo hi)) (width : v < 256 ^ size) (low : lo ≤ v) (high : v ≤ hi) :
    s.wrote h (0x7900 + n.toNat) sub size v =
      ((s.counted h).windowConfig n.toNat sub v).fopReply h (s.ownAddr h.peer) 2 (obj (0x7900 + n.toNat) sub) St.ok [] := by
  have small := n.isLt
  have access : accessOf (0x7900 + n.toNat) sub (countingRow sub size dflt lo hi) = .rw := if_neg (by omega)
  have taken : (s.counted h).writeScalar (0x7900 + n.toNat) sub v = ((s.counted h).windowConfig n.toNat sub v, St.ok) := by
    rw [← State.put'_countingWindow n config]
    refine State.writeScalar_put _ row (by simp [inRange, countingRow, low, high]) ?_ ?_ (State.fitsState_countingWindow n config _ v) (.inl (by omega))
    · have settings : ¬ 0x7900 + n.toNat ≤ 0x1033 := by omega
      have build : ¬ 0x7900 + n.toNat = 0x4010 := by omega
      simp [needsIdle, access, settings, build]
    · have above : ¬ 0x7900 + n.toNat ≤ 0x6827 := by omega
      simp [State.crcBusy, above]
  have notStaging : 0x7900 + n.toNat ≠ 0x8020 := by omega
  have reaches := State.wrote_scalar admits row (by simp [access]) notStaging (by simp [countingRow]) (by simp [countingRow]) width
  exact reaches.trans (by rw [taken])

end WindowWrite

/-! ## Clear and safe-state command (R375, R379, R381) -/

theorem State.faultClear_clears {s x y : State} (noCause : s.reg 0x7800 4 = 0) (healthy : s.ev.fstat 10 = false)
    (emptied : x = ((s.setBytes 0x7801 0 0 (zeros 32)).setBytes 0x7802 0 0 (zeros 32)).set 0x7800 7 0)
    (cleared : y = ([1, 2, 3, 8, 9, 11].foldl (fun s i => s.setFstat i false) x).set 0x7800 3 0) :
    s.faultClear = (if y.safe then y.leaveSafe else y, true) := by
  subst cleared emptied
  simp only [State.faultClear, noCause, healthy, ne_eq, not_true, Bool.false_eq_true, if_false]

theorem State.faultClear_present {s : State} (present : s.reg 0x7800 4 ≠ 0) :
    s.faultClear = (((s.set 0x7800 3 1).raise 250 0 (s.reg 0x7800 4)).causesAgain, false) :=
  if_pos present

theorem State.faultClear_self {s : State} (noCause : s.reg 0x7800 4 = 0) (self : s.ev.fstat 10 = true) :
    s.faultClear = (s.set 0x7800 3 2, false) := by
  simp only [State.faultClear, noCause, self, ne_eq, not_true, if_true, if_false]

/-- Settles O24: clause by clause, the command's effect in the stated case, under the one end of a command. -/
theorem faultCollector : Obligations.FaultCollector := by
  unfold Obligations.FaultCollector
  refine ⟨?_, ?_, ?_, ?_, ?_, ?_, ?_, ?_, ?_, ?_⟩
  -- COUNTING_WINDOW_CLOSE (R372, R373)
  · intro s n b alive healthy isOpen ended below bank
    exact done_of_eq ((State.awake_alive alive _).trans (State.countingClose_transient healthy isOpen ended below bank))
  · intro s n alive healthy isOpen ended reached
    exact done_of_eq ((State.awake_alive alive _).trans (State.countingClose_lasting healthy isOpen ended reached))
  -- WINDOW_CONFIGURATION_WRITE (R374)
  · intro s u h n v admits counted range isOpen
    subst counted
    have taken := State.wrote_countingWindow n (.inl rfl) admits (lookup_win1 n) (show v.toNat < 256 ^ 2 by omega) (Nat.zero_le _) range
    exact done_of_eq (taken.trans (by rw [State.windowConfig_open isOpen]))
  · intro s u h n v admits counted range closed
    subst counted
    have taken := State.wrote_countingWindow n (.inl rfl) admits (lookup_win1 n) (show v.toNat < 256 ^ 2 by omega) (Nat.zero_le _) range
    exact done_of_eq (taken.trans (by rw [State.windowConfig_closed closed]))
  · intro s u h n v admits counted low high isOpen
    subst counted
    have taken := State.wrote_countingWindow n (.inr rfl) admits (lookup_win2 n) v.isLt low high
    exact done_of_eq (taken.trans (by rw [State.windowConfig_open isOpen]))
  · intro s u h n v admits counted low high closed
    subst counted
    have taken := State.wrote_countingWindow n (.inr rfl) admits (lookup_win2 n) v.isLt low high
    exact done_of_eq (taken.trans (by rw [State.windowConfig_closed closed]))
  -- FAULT_CLEAR (R379)
  · intro s u h x y admits counted noCause healthy emptied cleared
    subst counted
    exact done_of_eq (State.serveCmd_accepted admits (State.faultClear_clears noCause healthy emptied cleared))
  · intro s u h admits counted present
    subst counted
    exact done_of_eq (State.serveCmd_refused admits (State.faultClear_present present))
  · intro s u h admits counted noCause self
    subst counted
    exact done_of_eq (State.serveCmd_refused admits (State.faultClear_self noCause self))
  -- ENTER_SAFE_STATE (R381)
  · intro s u h v admits counted cleared
    subst counted cleared
    exact done_of_eq (State.serveCmd_accepted admits rfl)

/-! ## Entry to the safe state (R375, R383, R468) -/

theorem bit_setBit_zero {v i : Nat} (high : 0 < i) (b : Bool) : bit (setBit v i b) 0 = bit v 0 := by
  obtain ⟨k, rfl⟩ : ∃ k, i = k + 1 := ⟨i - 1, by omega⟩
  have even : 2 ^ (k + 1) = 2 * 2 ^ k := Nat.pow_succ'
  have parity : setBit v (k + 1) b % 2 = v % 2 := by
    unfold setBit
    split
    · rfl
    · split
      · omega
      · have isSet : bit v (k + 1) = true := by simp_all
        have reached : 2 ^ (k + 1) ≤ v := by
          by_contra less
          simp [bit, Nat.div_eq_of_lt (Nat.lt_of_not_le less)] at isSet
        omega
  simp [bit, parity]

theorem foldl_ev {α : Type} {f : State → α → State} (keeps : ∀ s a, (f s a).ev = s.ev) (l : List α) (s : State) : (l.foldl f s).ev = s.ev := by
  induction l generalizing s with
  | nil => rfl
  | cons a l ih => rw [List.foldl_cons, ih, keeps]

theorem State.seamSend_ev (s : State) (lanes : List Nat) (b : Bytes) : (s.seamSend lanes b).ev = s.ev :=
  foldl_ev (fun s _ => foldl_ev (fun s _ => State.send_ev s _ b) lanes s) _ s

theorem State.surgentNow_ev (s : State) : s.surgentNow.ev = s.ev := by
  unfold State.surgentNow
  split
  · exact State.seamSend_ev s _ _
  · rfl

theorem bit_setBit_self (v : Nat) : bit (setBit v 0 true) 0 = true := by
  unfold setBit
  split
  · next isSet => exact isSet
  · next isClear =>
    simp only [bit, pow_zero, Nat.div_one, beq_iff_eq, if_true] at isClear ⊢
    omega

/-- The bank at the end of an entry: SAFE and COMMANDED of the status word, then cause and time. -/
def Bank.enterSafe (b : Bank) (cause now : Nat) : Bank :=
  let status := setBit (b.get (obj 0x7800 1)) 0 true
  (((b.put (obj 0x7800 1) status).put (obj 0x7800 1)
    (setBit ((b.put (obj 0x7800 1) status).get (obj 0x7800 1)) 11 (cause == 3))).put (obj 0x7803 1) cause).put (obj 0x7803 2) now

theorem State.enterSafe_bank (s : State) : ∃ b : Bank, s.enterSafe.ev.bank = b.enterSafe s.ev.entry s.clk.now := by
  refine ⟨((((s.bump 0x7800 6).safeEvent true s.ev.entry s.ev.entrySrc).safePages.safeAxes).allPorts 4).ev.bank, ?_⟩
  unfold State.enterSafe
  dsimp only
  generalize (((s.bump 0x7800 6).safeEvent true s.ev.entry s.ev.entrySrc).safePages.safeAxes).allPorts 4 = u
  rw [State.surgentNow_ev]
  rfl

theorem State.reg_safeCause (s : State) : s.reg 0x7803 1 = s.ev.bank.get (obj 0x7803 1) := rfl

theorem State.reg_safeTime (s : State) : s.reg 0x7803 2 = s.ev.bank.get (obj 0x7803 2) := rfl

section EnteredBank
variable (b : Bank) {cause now : Nat}

theorem Bank.enterSafe_safe : bit ((b.enterSafe cause now).get (obj 0x7800 1)) 0 = true := by
  have listed : ∀ w, bit w 0 = true → w ≠ dflt (obj 0x7800 1) := by
    rintro w isSet rfl
    exact absurd isSet (by decide +kernel)
  unfold Bank.enterSafe
  dsimp only
  rw [bank_get_put_ne _ _ _ _ (by decide), bank_get_put_ne _ _ _ _ (by decide), bank_get_put _ _ _ (listed _ (bit_setBit_self _))]
  have isSet := (bit_setBit_zero (v := setBit (b.get (obj 0x7800 1)) 0 true) (show 0 < 11 by decide) (cause == 3)).trans (bit_setBit_self _)
  rw [bank_get_put _ _ _ (listed _ isSet), isSet]

theorem Bank.enterSafe_cause (some : cause ≠ 0) : (b.enterSafe cause now).get (obj 0x7803 1) = cause := by
  unfold Bank.enterSafe
  rw [bank_get_put_ne _ _ _ _ (by decide)]
  exact bank_get_put _ _ _ some

theorem Bank.enterSafe_time (some : now ≠ 0) : (b.enterSafe cause now).get (obj 0x7803 2) = now :=
  bank_get_put _ _ _ some

end EnteredBank

/-- Settles O45: the last writes of an entry are those of the status word, the cause and the time, and what follows them leaves the bank alone. -/
theorem safeStateEntryShowsItself : Obligations.SafeStateEntryShowsItself := by
  unfold Obligations.SafeStateEntryShowsItself
  intro s due
  obtain ⟨b, bank⟩ := s.enterSafe_bank
  have safe : s.enterSafe.safe = true := by
    rw [State.safe, Ev.safe, Ev.fstat, bank]
    exact b.enterSafe_safe
  refine ⟨safe, by simp [State.faultN, safe], ?_, fun later => ?_⟩
  · rw [State.reg_safeCause, bank, b.enterSafe_cause due]
  · rw [State.reg_safeTime, bank, b.enterSafe_time later]

end Sys2Proof.Machine

/-! PROOFS. Power requests and wake sources (R386 to R391): each operation in the case that its clause states. -/

namespace Sys2Proof.Machine

-- One proof after another, so that the whole text is checked within the memory of one process.
set_option Elab.async false

/-! ## Requests (R388) -/

section Request
variable {s : State} {want : Nat} (nothingDue : s.boot.due = .none) (other : s.reg 0x0030 2 ≠ want) (quiet : s.pagesActive = false)
include nothingDue other quiet

/-- IDLE and RUN are entered at once, with E003. -/
theorem State.powerRequest_awake (awake : 3 ≤ want) :
    s.powerRequest want = ((((s.set 0x0030 3 0).set 0x0030 2 want).set 0x0030 4 1).raise 3 0 (want + s.reg 0x0030 2 * 16 + 1 * 256), true) := by
  simp [State.powerRequest, nothingDue, Ne.symm other, quiet, awake]

/-- DEEP and KEEP fall due after the reply where nothing blocks them. -/
theorem State.powerRequest_sleep (asleep : want < 3) (still : ([0, 1, 2, 3].any fun a => [2, 3, 4].contains (s.axisState a)) = false)
    (settled : s.settingsBusy = false) (usable : s.wakeUsable want = true) :
    s.powerRequest want = ({ s.set 0x0030 3 0 with boot := { s.boot with due := .sleep want } }, true) := by
  simp only [State.powerRequest, nothingDue, Ne.symm other, quiet, still, settled, usable, ne_eq, not_true, ge_iff_le, Nat.not_le.mpr asleep,
    Bool.false_eq_true, and_false, Bool.or_self, Bool.not_true, if_false]

end Request

/-! ## Wake sources (R390) -/

theorem State.wakePin_keep {s : State} (keep : s.boot.phase = .keep) (enabled : bit (s.reg 0x0031 1) 0 = true) : s.wakePin = s.keepExit 1 := by
  simp [State.wakePin, State.wake, keep, enabled]

theorem State.rtcAlarm_deep {s : State} (deep : s.boot.phase = .deep) (enabled : bit (s.reg 0x0031 1) 1 = true) (on : s.reg 0x0031 2 ≠ 0)
    (reached : s.reg 0x0031 2 ≤ s.clk.lf) : s.rtcAlarm = s.deepExit 2 := by
  simp [State.rtcAlarm, State.wake, deep, enabled, on, reached]

theorem State.wakeFrame_keep {s : State} {p : Peer} (keep : s.boot.phase = .keep) (reaches : s.reaches p = true) (allowed : s.allowed p = true)
    (enabled : bit (s.reg 0x0031 1) 2 = true) : s.wakeFrame p = s.keepExit 3 := by
  simp [State.wakeFrame, State.wake, keep, reaches, allowed, enabled]

/-- Settles O6: clause by clause, the command's effect in the stated case, under the one end of a command. -/
theorem powerStatesChange : Obligations.PowerStatesChange := by
  unfold Obligations.PowerStatesChange
  refine ⟨?_, ?_, ?_, ?_, ?_, ?_, ?_⟩
  -- POWER_REQUEST_DEEP, POWER_REQUEST_KEEP (R388)
  · intro s u h admits counted nothingDue other quiet still settled usable
    subst counted
    exact done_of_eq (State.serveCmd_accepted admits (State.powerRequest_sleep nothingDue other quiet (by decide) still settled usable))
  · intro s u h admits counted nothingDue other quiet still settled usable
    subst counted
    exact done_of_eq (State.serveCmd_accepted admits (State.powerRequest_sleep nothingDue other quiet (by decide) still settled usable))
  -- POWER_REQUEST_IDLE, POWER_REQUEST_RUN (R388)
  · intro s u h admits counted nothingDue other quiet
    subst counted
    exact done_of_eq (State.serveCmd_accepted admits (State.powerRequest_awake nothingDue other quiet (by decide)))
  · intro s u h admits counted nothingDue other quiet
    subst counted
    exact done_of_eq (State.serveCmd_accepted admits (State.powerRequest_awake nothingDue other quiet (by decide)))
  -- WAKE_N, RTC_ALARM, WAKE_FRAME (R390)
  · intro s keep enabled
    exact done_of_eq (State.wakePin_keep keep enabled)
  · intro s deep enabled on reached
    exact done_of_eq (State.rtcAlarm_deep deep enabled on reached)
  · intro s h keep reaches allowed enabled
    exact done_of_eq (State.wakeFrame_keep keep reaches allowed enabled)

end Sys2Proof.Machine

/-! PROOFS. Temperatures, the clock factor and calibration (R394 to R402): each operation in the case that its clause states. -/

namespace Sys2Proof.Machine

-- One proof after another, so that the whole text is checked within the memory of one process.
set_option Elab.async false

/-! ## Samples and the throttle (R395 to R400) -/

/-- A sample is kept, its rates are judged, then its temperatures, then each sensor; it joins the history. -/
theorem State.sensorSample_alive {s u v w : State} {readings l : List Int} {on : List Nat} {rate : Nat → Int} (alive : s.alive = true)
    (clamped : l = (upTo 24).map fun i => clampInt (-32768) 32767 (readings.getD i 0))
    (included : on = (upTo 24).filter fun i => !bit (s.reg 0x0060 5) i) (rates : rate = fun i => s.rateOf l i)
    (kept : u = (s.setBytes 0x0061 0 0 (l.flatMap fun r => leBytes 2 (ofSigned 16 r))).setBytes 0x0060 8 0
      ((upTo 24).flatMap fun i => leBytes 2 (ofSigned 16 (clampInt (-32768) 32767 (rate i)))))
    (judged : v = (upTo 24).foldl (fun t i => t.sensorCheck (s.reg 0x0060 5) l i)
      (((u.set 0x0060 7 (match hottest on l with | some i => ofSigned 16 (l.getD i 0) | none => u.reg 0x0060 7)).rateChecks on rate).criticalCheck on l).bandChecks)
    (joined : w = State.setReady { v with therm := { v.therm with hist := (l :: v.therm.hist).take 100 } } 37
      (decide (16 ≤ ((upTo 24).countP fun i => !bit (v.reg 0x0060 5) i)))) (self : Nat) :
    s.sensorSample readings self = if self = 0 then w else { w with ev := w.ev.selfFault self } := by
  subst joined judged kept rates included clamped
  exact if_neg (by simp [alive])

theorem State.throttleExpiry_over {s : State} {i : Nat} (throttled : s.therm.throttled = true)
    (held : s.therm.lastWarm + s.reg 0x0060 3 * 1000000 ≤ s.clk.now) (first : (upTo 24).find? (fun i => !bit (s.reg 0x0060 5) i) = some i) :
    s.throttleExpiry = State.raiseAt { s with therm := { s.therm with throttled := false, restoring := true, thermAt := s.clk.now } } 8 2
      (i + s.le 0x0060 8 (2 * i) 2 * 2 ^ 16) 7 6 0 0 := by
  simp only [State.throttleExpiry, throttled, held, first, decide_true, Bool.and_self, if_true, Option.getD_some]

/-! ## The clock factor (R394) -/

theorem State.droop_alive {s : State} (alive : s.alive = true) :
    s.droop = (State.bump { s with therm := { s.therm with droopAt := s.clk.now } } 0x0050 4).factorTo 12 (s.reg 0x0060 9) :=
  if_pos alive

theorem State.restoreStep_alive {s u : State} {d r : Bool} {t : Nat} (alive : s.alive = true)
    (droops : d = (decide (s.therm.droop < 16) && s.intervalOver s.therm.droopAt)) (restores : r = (s.therm.restoring && s.intervalOver s.therm.thermAt))
    (thermal : t = if r = true then min 16 (s.reg 0x0060 9 + 1) else s.reg 0x0060 9)
    (timed : u = { s with therm := { s.therm with
      restoring := s.therm.restoring && decide (t < 16), droopAt := if d = true then s.clk.now else s.therm.droopAt,
      thermAt := if r = true then s.clk.now else s.therm.thermAt } }) :
    s.restoreStep = u.factorTo (if d = true then s.therm.droop + 1 else s.therm.droop) t := by
  subst timed thermal restores droops
  exact if_neg (by simp [alive])

/-! ## Calibration (R401, R402) -/

theorem State.calibRun_link {s : State} {n : Nat} (alive : s.alive = true) (idle : (s.unitCalib n).running = false) (link : n < 20)
    (wants : s.linkWants n = true) : s.calibRun n = s.updCalib n fun c => { c with running := true } :=
  if_pos (by simp [alive, idle, link, wants])

theorem State.calibRun_table {s : State} {n : Nat} (alive : s.alive = true) (idle : (s.unitCalib n).running = false) (table : 20 ≤ n)
    (wants : s.tableWants (n - 20) = true) : s.calibRun n = s.updCalib n fun c => { c with running := true } :=
  if_pos (by simp [alive, idle, Nat.not_lt.mpr table, wants])

section LinkRun
variable {s : State} {n margin load i b : Nat} (alive : s.alive = true) (running : (s.unitCalib n).running = true) (link : n < 20)
  (sensor : i = linkSensor n) (band : b = s.sensorBand i)
include alive running link sensor band

theorem State.calibDone_linkApplied (wide : s.reg 0x0070 0x0A ≤ margin) (better : (s.unitCalib n).margin ≤ margin) :
    s.calibDone n margin load = (s.calibTake n b margin).calibEnd n b load 0 (s.sensorTemp i) := by
  subst band sensor
  simp only [State.calibDone, alive, running, link, Nat.not_lt.mpr wide, Nat.not_lt.mpr better, Bool.not_true, Bool.or_self, Bool.false_eq_true,
    if_true, if_false]

theorem State.calibDone_linkNarrow (narrow : margin < s.reg 0x0070 0x0A) : s.calibDone n margin load = s.calibEnd n b load 1 (s.sensorTemp i) := by
  subst band sensor
  simp only [State.calibDone, alive, running, link, narrow, Bool.not_true, Bool.or_self, Bool.false_eq_true, if_true, if_false, one_ne_zero]

end LinkRun

/-- The new base of a tension table that is near enough to the old one is committed. -/
theorem State.calibDone_tableApplied {s : State} {n margin load : Nat} {m new : Int} (alive : s.alive = true) (running : (s.unitCalib n).running = true)
    (table : 20 ≤ n) (temp : s.tableTemp (n - 20) = some m) (base : new = clampInt (-32768) 32767 (m + toSigned 16 (s.le 0x0070 7 (2 * (n - 20)) 2)))
    (near : (new - toSigned 16 (s.tension (n - 20) 0 2)).natAbs ≤ s.reg 0x0070 6) :
    s.calibDone n margin load =
      (s.commitTables ((s.bytes 0x2862 0 0 640).take (48 * (n - 20)) ++ leBytes 2 (ofSigned 16 new) ++
        (s.bytes 0x2862 0 0 640).drop (48 * (n - 20) + 2))).1.calibEnd n 0 load 0 m := by
  subst base
  simp only [State.calibDone, alive, running, Nat.not_lt.mpr table, temp, gt_iff_lt, Nat.not_lt.mpr near, Bool.not_true, Bool.or_self,
    Bool.false_eq_true, if_true, if_false]

/-- Settles O25: clause by clause, the command's effect in the stated case, under the one end of a command. -/
theorem temperatureAndCalibration : Obligations.TemperatureAndCalibration := by
  unfold Obligations.TemperatureAndCalibration
  refine ⟨?_, ?_, ?_, ?_, ?_, ?_, ?_, ?_, ?_⟩
  -- SENSOR_SAMPLE (R395 to R400)
  · intro s u v w readings l c on rate alive clamped included rates kept judged joined
    exact done_of_eq ((State.awake_alive alive _).trans (State.sensorSample_alive alive clamped included rates kept judged joined c))
  -- THROTTLE_HOLD_EXPIRY (R398)
  · intro s i alive throttled held first
    exact done_of_eq ((State.awake_alive alive _).trans (State.throttleExpiry_over throttled held first))
  -- DROOP_DETECTION, RESTORE_INTERVAL (R394)
  · intro s alive
    exact done_of_eq ((State.awake_alive alive _).trans (State.droop_alive alive))
  · intro s u d r t alive droops restores thermal timed
    exact done_of_eq ((State.awake_alive alive _).trans (State.restoreStep_alive alive droops restores thermal timed))
  -- CALIBRATION_RUN (R401)
  · intro s n alive idle link wants
    exact done_of_eq ((State.awake_alive alive _).trans (State.calibRun_link alive idle link wants))
  · intro s n alive idle table wants
    exact done_of_eq ((State.awake_alive alive _).trans (State.calibRun_table alive idle table wants))
  -- CALIBRATION_COMPLETE (R402)
  · intro s n margin load i b alive running link sensor band wide better
    exact done_of_eq ((State.awake_alive alive _).trans (State.calibDone_linkApplied alive running link sensor band wide better))
  · intro s n margin load i b alive running link sensor band narrow
    exact done_of_eq ((State.awake_alive alive _).trans (State.calibDone_linkNarrow alive running link sensor band narrow))
  · intro s n margin load m new alive running table temp base near
    exact done_of_eq ((State.awake_alive alive _).trans (State.calibDone_tableApplied alive running table temp base near))

end Sys2Proof.Machine

/-! PROOFS. Reset pins, rails, watchdog, boot and the reset command (R405 to R415, R457 to R461): each operation in the case that its clause states. -/

namespace Sys2Proof.Machine

-- One proof after another, so that the whole text is checked within the memory of one process.
set_option Elab.async false

/-! ## Pins and rails (R408, R457, R459, R461) -/

theorem State.railLow_supplied {s : State} (supplied : s.boot.phase ≠ .deep) :
    s.railLow = { s.hold with boot := { s.hold.boot with railsOk := false } } :=
  if_neg (by simpa using supplied)

theorem State.leaveReset_held {s : State} (porN : s.boot.porN = true) (rails : s.boot.railsOk = true) (held : s.boot.phase = .held) :
    s.leaveReset = State.romBoot 4 { s with boot := { s.boot with cause := 0 } }
      (if s.backupLost = true ∨ s.boot.cause = 0 then 1 else s.boot.cause) 0 (s.reg 0x8010 3) := by
  simp only [State.leaveReset, porN, rails, held, BEq.rfl, Bool.and_self, if_true]

theorem State.leaveReset_railsLow {s : State} (rails : s.boot.railsOk = false) : s.leaveReset = s :=
  if_neg (by simp [rails])

theorem State.leaveReset_porLow {s : State} (porN : s.boot.porN = false) : s.leaveReset = s :=
  if_neg (by simp [porN])

section PorRelease
variable {s r : State} (pins : ResetPins) (testEn : Bool) (clocked : r = s.tapRun pins.low) (porN : s.boot.porN = false) (vbat : s.aon.vbat = true)
include clocked porN vbat

theorem State.porHigh_low : r.porHigh pins.straps testEn =
    State.leaveReset { r with
      boot := { r.boot with porN := true, straps := pins.straps, testEn := testEn },
      aon := { r.aon with keepEn := true, mainEn := true } } := by
  subst clocked
  exact if_neg (by simp [State.tapRun, porN, vbat])

/-- The rails are still low: POR_N is high, and the device stays held. -/
theorem State.porRelease_railsLow (rails : s.boot.railsOk = false) :
    s.porRelease pins testEn = State.tapRun { r with
      boot := { r.boot with porN := true, straps := pins.straps, testEn := testEn },
      aon := { r.aon with keepEn := true, mainEn := true } } pins.high := by
  have released := State.porHigh_low pins testEn clocked porN vbat
  subst clocked
  exact congrArg (State.tapRun · pins.high) (released.trans (State.leaveReset_railsLow rails))

/-- The rails are good: the ROM starts. -/
theorem State.porRelease_railsGood {t : State} (rails : s.boot.railsOk = true) (held : s.boot.phase = .held)
    (sampled : t = { r with
      boot := { r.boot with porN := true, straps := pins.straps, testEn := testEn, cause := 0 },
      aon := { r.aon with keepEn := true, mainEn := true } }) :
    s.porRelease pins testEn =
      (State.romBoot 4 t (if s.backupLost = true ∨ s.boot.cause = 0 then 1 else s.boot.cause) 0 (s.reg 0x8010 3)).tapRun pins.high := by
  have released := State.porHigh_low pins testEn clocked porN vbat
  subst sampled clocked
  exact congrArg (State.tapRun · pins.high) (released.trans (State.leaveReset_held rfl rails held))

end PorRelease

section RailsGood
variable {s : State} (vbat : s.aon.vbat = true) (enabled : s.aon.mainEn = true) (rails : s.boot.railsOk = false)
include vbat enabled rails

theorem State.railsGood_rise : s.railsGood = State.leaveReset { s with boot := { s.boot with railsOk := true } } :=
  if_pos (by simp [vbat, enabled, rails])

theorem State.railsGood_porHigh {t : State} (porN : s.boot.porN = true) (held : s.boot.phase = .held)
    (risen : t = { s with boot := { s.boot with railsOk := true, cause := 0 } }) :
    s.railsGood = State.romBoot 4 t (if s.backupLost = true ∨ s.boot.cause = 0 then 1 else s.boot.cause) 0 (s.reg 0x8010 3) := by
  subst risen
  exact (State.railsGood_rise vbat enabled rails).trans (State.leaveReset_held porN rfl held)

theorem State.railsGood_porLow (porN : s.boot.porN = false) : s.railsGood = { s with boot := { s.boot with railsOk := true } } :=
  (State.railsGood_rise vbat enabled rails).trans (State.leaveReset_porLow porN)

end RailsGood

theorem State.vbatRise_absent {s : State} (absent : s.aon.vbat = false) :
    s.vbatRise = { s with
      aon := { vbat := true, keepEn := true, mainEn := true, backup := [], failed := 0 }, clk := { s.clk with lf := 0, lfRem := 0 },
      boot := { s.boot with cause := 1 } } :=
  if_neg (by simp [absent])

/-! ## Resets by the device itself (R405, R413, R415) -/

theorem State.watchdog_alive {s : State} (alive : s.alive = true) : s.watchdog = s.restart 3 := if_pos alive

theorem State.bootRetry_due {s : State} (waiting : s.boot.phase = .romWait) (due : s.boot.started + 1000000000 ≤ s.clk.now) : s.bootRetry = s.restart 3 :=
  if_pos (by simp [waiting, due])

theorem State.bootTimeout_due {s : State} (booting : s.boot.phase = .boot) (due : s.boot.started + 20000000000 ≤ s.clk.now) : s.bootTimeout = s.restart 3 :=
  if_pos (by simp [booting, due])

/-! ## Boot complete (R413, R414) -/

section BootDone
variable {s : State} (booting : s.boot.phase = .boot)
include booting

theorem State.bootDone_active {t : State} (active : s.boot.other = false)
    (running : t = { s with boot := { s.boot with phase := .run, other := false }, aon := { s.aon with failed := 0 } }) :
    s.bootDone = (t.set 0x8000 4 s.aon.failed).raise 0 0 (s.reg 0x8001 1 + s.reg 0x8000 3 * 2 ^ 32 + s.aon.failed * 2 ^ 40) := by
  subst running
  unfold State.bootDone
  dsimp only
  rw [if_neg (by simp [booting]), if_neg (by simp [active])]

/-- The other slot was booted: it becomes active. -/
theorem State.bootDone_other {t : State} (other : s.boot.other = true)
    (complete : t = State.raise (State.set { s with boot := { s.boot with phase := .run, other := false }, aon := { s.aon with failed := 0 } } 0x8000 4 s.aon.failed)
      0 0 (s.reg 0x8001 1 + s.reg 0x8000 3 * 2 ^ 32 + s.aon.failed * 2 ^ 40)) :
    s.bootDone = ((t.slotTo 1 (1 - s.reg 0x8000 7) 5 14).dirEdit 1 [(1, leBytes 1 (s.reg 0x8000 7))]).fwEvent 6 1 14 (s.reg 0x8001 1) := by
  subst complete
  unfold State.bootDone
  dsimp only
  rw [if_neg (by simp [booting]), if_pos other]

end BootDone

/-! ## The reset command (R407) -/

theorem State.resetCommand_quiet {s v : State} (quiet : s.pagesActive = false) (accepted : v = s.set 0x8000 6 0) :
    s.resetCommand = ({ v with boot := { v.boot with due := .reset 5 } }, true) := by
  subst accepted
  exact if_neg (by simp [quiet])

theorem State.resetCommand_active {s : State} (active : s.pagesActive = true) : s.resetCommand = (s.set 0x8000 6 1, false) := if_pos active

/-- The end of a command behind which a reset is due: the occurrences of the command, the reset, its occurrences. -/
theorem State.conclude_reset {s : State} {cause : Nat} (due : s.boot.due = .reset cause) :
    s.conclude = (State.restart { s.settle with boot := { s.settle.boot with due := .none } } cause).settle := by
  have stillDue : s.settle.boot.due = .reset cause := (congrArg Boot.due (State.boot_of_outer s.settle_outer)).trans due
  have falls : s.settle.fallDue = State.restart { s.settle with boot := { s.settle.boot with due := .none } } cause := by
    simp only [State.fallDue, stillDue]
  rw [State.conclude, if_neg (by simp [stillDue]), falls]

section Command
variable {s u v : State} {h : FopHead} (admits : s.Admits h 2 (obj 0x8000 5)) (counted : u = s.counted h)
include admits counted

theorem execResetCommand_quiet (quiet : u.pagesActive = false) (accepted : v = u.set 0x8000 6 0) :
    exec (.resetCommand h) s =
      .next (State.fopReply { v with boot := { v.boot with due := .reset 5 } } h (s.ownAddr h.peer) 2 (obj 0x8000 5) St.ok []).conclude := by
  subst counted
  exact done_of_eq (State.serveCmd_accepted admits (State.resetCommand_quiet quiet accepted))

theorem execResetCommand_active (active : u.pagesActive = true) :
    exec (.resetCommand h) s = .next ((u.set 0x8000 6 1).fopReply h (s.ownAddr h.peer) 2 (obj 0x8000 5) St.refused []).conclude := by
  subst counted
  exact done_of_eq (State.serveCmd_refused admits (State.resetCommand_active active))

end Command

/-- Settles O26: clause by clause, the command's effect in the stated case, under the one end of a command. -/
theorem resetAndBoot : Obligations.ResetAndBoot := by
  unfold Obligations.ResetAndBoot
  refine ⟨?_, ?_, ?_, ?_, ?_, ?_, ?_, ?_, ?_, ?_, ?_, ?_, ?_, ?_⟩
  -- POR_N_LOW, RAIL_UNDERVOLTAGE (R457, R461)
  · intro s h held
    subst held
    rfl
  · intro s supplied
    exact done_of_eq (State.railLow_supplied supplied)
  -- POR_N_RELEASE (R408, R459)
  · intro s r pins testEn clocked porN vbat rails
    exact done_of_eq (State.porRelease_railsLow pins testEn clocked porN vbat rails)
  · intro s r t pins testEn clocked porN vbat rails held sampled
    exact done_of_eq (State.porRelease_railsGood pins testEn clocked porN vbat rails held sampled)
  -- INTERNAL_RESET_RELEASE (R457)
  · intro s t vbat enabled rails porN held risen
    exact done_of_eq (State.railsGood_porHigh vbat enabled rails porN held risen)
  · intro s vbat enabled rails porN
    exact done_of_eq (State.railsGood_porLow vbat enabled rails porN)
  -- VBAT_RISE (R459)
  · intro s absent
    exact done_of_eq (State.vbatRise_absent absent)
  -- WATCHDOG_EXPIRY, BOOT_RETRY, BOOT_TIMEOUT (R405, R413, R415)
  · intro s alive
    exact done_of_eq (State.watchdog_alive alive)
  · intro s waiting due
    exact done_of_eq (State.bootRetry_due waiting due)
  · intro s booting due
    exact done_of_eq (State.bootTimeout_due booting due)
  -- BOOT_COMPLETE (R413, R414)
  · intro s t booting active running
    exact done_of_eq (State.bootDone_active booting active running)
  · intro s t booting other complete
    exact done_of_eq (State.bootDone_other booting other complete)
  -- RESET_COMMAND (R407)
  · intro s u h v admits counted quiet accepted
    exact execResetCommand_quiet admits counted quiet accepted
  · intro s u h admits counted active
    exact execResetCommand_active admits counted active

/-- Settles O38: a refusal says why; an accepted command leaves a reset due behind its reply, and the end of the command carries it out. -/
theorem resetCommandAnswersFirst : Obligations.ResetCommandAnswersFirst := by
  unfold Obligations.ResetCommandAnswersFirst
  refine ⟨?_, ?_⟩
  · intro s u h admits counted active
    exact execResetCommand_active admits counted active
  · intro s u h v w admits counted quiet accepted replied
    have due : (State.fopReply { v with boot := { v.boot with due := .reset 5 } } h (s.ownAddr h.peer) 2 (obj 0x8000 5) St.ok []).boot.due = .reset 5 := by
      rw [State.fopReply_boot]
    subst replied
    rw [execResetCommand_quiet admits counted quiet accepted, State.conclude_reset due]

end Sys2Proof.Machine

/-! PROOFS. The update service (R416 to R424): each operation in the case that its clause states. -/

namespace Sys2Proof.Machine

-- One proof after another, so that the whole text is checked within the memory of one process.
set_option Elab.async false

/-! ## Verification (R416, R419) -/

theorem State.updVerify_idle {s : State} (idle : s.updState = 0) :
    s.updVerify = ((State.set { s with update := ⟨[], [], 0, 0, 0, [], false⟩ } 0x8010 7 0).updTo 1 0 0, true) :=
  if_neg (by simp [idle])

section Checked
variable {s : State} (verifying : s.updState = 1)
include verifying

theorem State.updChecked_error {e : Nat} (fails : s.containerCheck s.staged = .error e) : s.updChecked = s.updTo 0 0 e := by
  simp only [State.updChecked, verifying, fails, ne_eq, not_true, if_false]

theorem State.updChecked_ok {image : Bytes} (passes : s.containerCheck s.staged = .ok image) :
    s.updChecked =
      (((State.set { s with update := ⟨s.staged.take 256, image, leAt (s.staged.take 256) 6 1, 0, 0, [], false⟩ } 0x8010 5 (leAt (s.staged.take 256) 6 1)).set
        0x8010 6 (leAt (s.staged.take 256) 8 4)).set 0x8010 7 image.length).updTo 2 1 0 := by
  simp only [State.updChecked, verifying, passes, ne_eq, not_true, if_false]

end Checked

/-! ## Installation (R418) -/

theorem State.updInstall_verified {s v : State} {c slot : Nat} (verified : s.updState = 2) (component : c = s.update.comp)
    (notActivated : s.slotState c (s.runSlot c) ≠ 2) (notTrial : s.slotState c (s.runSlot c) ≠ 3) (inactive : slot = 1 - s.activeSlot c)
    (emptied : v = { s.slotTo c slot 0 0 with update := { s.update with slot := slot } }) :
    s.updInstall = ((v.set 0x8010 7 0).updTo 3 0 0, true) := by
  subst emptied inactive component
  exact if_neg (by simp [verified, notActivated, notTrial])

section Readback
variable {s : State} (installing : s.updState = 3) (claimed : s.dmaClaimed = true)
include installing claimed

theorem State.updInstalled_matches :
    s.updInstalled true =
      ((s.slotFill s.update.comp s.update.slot 1 s.update.header s.update.image).set 0x8010 7 (256 + s.update.image.length)).updTo 4 2 0 :=
  if_neg (by simp [installing, claimed])

theorem State.updInstalled_differs : s.updInstalled false = s.updTo 0 0 12 :=
  if_neg (by simp [installing, claimed])

end Readback

/-! ## Activation (R418, R421, R422) -/

theorem State.updActivate_installed {s : State} (installed : s.updState = 4) : s.updActivate = s.updGo :=
  if_neg (by simp [installed])

theorem State.updGo_notSystem {s : State} (component : s.update.comp ≠ 1) : s.updGo = (s.updTo 5 0 0, true) := if_pos component

/-- The system controller's own image is activated by a reset with cause 4. -/
theorem State.updGo_system {s v w : State} (component : s.update.comp = 1) (quiet : s.pagesActive = false)
    (still : ([0, 1, 2, 3].any fun a => [2, 3, 4].contains (s.axisState a)) = false) (settled : s.settingsBusy = false)
    (marked : v = s.dirEdit 1 [(1, leBytes 1 s.update.slot), (2 + s.update.slot, [2]), (20 + s.update.slot, [0])]) (shown : w = v.set 0x8010 3 0) :
    s.updGo = ({ w with boot := { v.boot with due := .reset 4 } }, true) := by
  subst shown marked
  unfold State.updGo
  rw [if_neg (by simp [component]), if_neg (by rw [quiet, still, settled]; decide)]

theorem State.updBoundary_activating {s v w : State} {n : Update} (activating : s.updState = 5) (boundary : s.atBoundary s.update.comp = true)
    (record : n = s.update) (marked : v = s.dirEdit n.comp [(1, leBytes 1 n.slot), (2 + n.slot, [2]), (20 + n.slot, [0])])
    (versioned : w = v.set 0x8001 n.comp (leAt n.header 8 4)) :
    s.updBoundary = State.updTo { w with update := { n with trial := s.clk.now, served := (servedBits n.comp).filter s.ready } } 6 3 0 := by
  subst versioned marked record
  unfold State.updBoundary
  dsimp only
  rw [if_neg (by simp [boundary]), if_neg (by simp [activating]), if_neg (by simp [activating])]

theorem State.updBoundary_failing {s : State} (trial : s.updState = 6) (failing : s.update.failing = true) (boundary : s.atBoundary s.update.comp = true) :
    s.updBoundary = s.updBack := by
  unfold State.updBoundary
  dsimp only
  rw [if_neg (by simp [boundary]), if_pos ⟨trial, failing⟩]

/-! ## The trial (R418, R421) -/

section Trial
variable {s : State} (trial : s.updState = 6) (sound : s.update.failing = false)
include trial sound

theorem State.updTrial_confirmed (inTime : s.clk.now ≤ s.update.trial + 1000000000) (serves : s.update.served.all s.ready = true) :
    s.updTrial true = (s.slotTo s.update.comp s.update.slot 4 0).updTo 0 4 0 := by
  unfold State.updTrial
  dsimp only
  rw [if_neg (by simp [trial, sound]), if_pos (by rw [serves]; simp [inTime])]

/-- A trial that fails at a boundary is switched back, its slot REJECTED with reason 15. -/
theorem State.updTrial_rejected {old : Nat} {n : Update} (boundary : s.atBoundary s.update.comp = true) (record : n = s.update)
    (version : old = leAt (s.slotHeader n.comp (1 - n.slot)) 8 4) :
    s.updTrial false =
      ((((s.slotTo n.comp n.slot 5 15).dirEdit n.comp [(1, leBytes 1 (1 - n.slot))]).set 0x8001 n.comp old).updTo 0 5 15).fwEvent 6 n.comp 15 old := by
  subst version record
  unfold State.updTrial
  dsimp only
  rw [if_neg (by simp [trial, sound]), if_neg (by simp), if_pos boundary]
  rfl

theorem State.updTrial_failing (inside : s.atBoundary s.update.comp = false) :
    s.updTrial false = { s with update := { s.update with failing := true } } := by
  unfold State.updTrial
  dsimp only
  rw [if_neg (by simp [trial, sound]), if_neg (by simp), if_neg (by simp [inside])]

end Trial

/-! ## Revert and abort (R418, R424) -/

theorem State.updRevert_idle {s v : State} {c slot : Nat} {r : State × Bool} (idle : s.updState = 0) (component : c = s.reg 0x8010 8)
    (otherSlot : slot = 1 - s.activeSlot c) (chosen : v = { s with update := ⟨s.slotHeader c slot, [], c, slot, 0, [], false⟩ })
    (result : r = if (s.slotSound c slot && s.slotVerifies c slot && s.compatibleWith c (s.slotHeader c slot)) = true then
      (if v.updGo.2 = true then v.updGo else s.updResult 2) else s.updResult 17) :
    s.updRevert = r := by
  subst result chosen otherSlot component
  exact if_neg (by simp [idle])

theorem State.updAbort_verified {s : State} (verified : s.updState = 2) : s.updAbort = (s.updTo 0 0 0, true) := if_pos verified

theorem State.updAbort_installed {s : State} (installed : s.updState = 4) :
    s.updAbort = ((s.slotTo s.update.comp s.update.slot 0 0).updTo 0 0 0, true) := by
  simp only [State.updAbort, installed, if_true]
  rfl

/-- Settles O27: clause by clause, the command's effect in the stated case, under the one end of a command. -/
theorem firmwareUpdate : Obligations.FirmwareUpdate := by
  unfold Obligations.FirmwareUpdate
  refine ⟨?_, ?_, ?_, ?_, ?_, ?_, ?_, ?_, ?_, ?_, ?_, ?_, ?_, ?_, ?_, ?_⟩
  -- UPDATE_VERIFY, UPDATE_CHECKS_COMPLETE (R416, R419)
  · intro s u h admits counted idle
    subst counted
    exact done_of_eq (State.serveCmd_accepted admits (State.updVerify_idle idle))
  · intro s e alive verifying fails
    exact done_of_eq ((State.awake_alive alive _).trans (State.updChecked_error verifying fails))
  · intro s alive verifying
    cases result : s.containerCheck s.staged with
    | error e => exact done_of_eq ((State.awake_alive alive _).trans (State.updChecked_error verifying result))
    | ok image => exact done_of_eq ((State.awake_alive alive _).trans (State.updChecked_ok verifying result))
  -- UPDATE_INSTALL, INSTALL_READBACK_COMPLETE (R418)
  · intro s u h c slot v admits counted verified component notActivated notTrial inactive emptied
    subst counted
    exact done_of_eq (State.serveCmd_accepted admits (State.updInstall_verified verified component notActivated notTrial inactive emptied))
  · intro s alive installing claimed
    exact done_of_eq ((State.awake_alive alive _).trans (State.updInstalled_matches installing claimed))
  · intro s alive installing claimed
    exact done_of_eq ((State.awake_alive alive _).trans (State.updInstalled_differs installing claimed))
  -- UPDATE_ACTIVATE (R418, R422)
  · intro s u h admits counted installed component
    subst counted
    exact done_of_eq (State.serveCmd_accepted admits ((State.updActivate_installed installed).trans (State.updGo_notSystem component)))
  · intro s u h v w admits counted installed component quiet still settled marked shown
    subst counted
    exact done_of_eq (State.serveCmd_accepted admits
      ((State.updActivate_installed installed).trans (State.updGo_system component quiet still settled marked shown)))
  -- ACTIVATION_BOUNDARY (R418, R421)
  · intro s v w n alive activating boundary record marked versioned
    exact done_of_eq ((State.awake_alive alive _).trans (State.updBoundary_activating activating boundary record marked versioned))
  · intro s alive trial failing boundary
    exact done_of_eq ((State.awake_alive alive _).trans (State.updBoundary_failing trial failing boundary))
  -- TRIAL_SELF_CHECK (R418, R421)
  · intro s alive trial sound inTime serves
    exact done_of_eq ((State.awake_alive alive _).trans (State.updTrial_confirmed trial sound inTime serves))
  · intro s old n alive trial sound boundary record version
    exact done_of_eq ((State.awake_alive alive _).trans (State.updTrial_rejected trial sound boundary record version))
  · intro s alive trial sound inside
    exact done_of_eq ((State.awake_alive alive _).trans (State.updTrial_failing trial sound inside))
  -- UPDATE_REVERT (R424)
  · intro s u h c slot v r admits counted idle component otherSlot chosen result
    subst counted
    refine done_of_eq ((State.serveCmd_admits admits _).trans ?_)
    rw [State.updRevert_idle idle component otherSlot chosen result]
  -- UPDATE_ABORT (R418)
  · intro s u h admits counted verified
    subst counted
    exact done_of_eq (State.serveCmd_accepted admits (State.updAbort_verified verified))
  · intro s u h admits counted installed
    subst counted
    exact done_of_eq (State.serveCmd_accepted admits (State.updAbort_installed installed))

end Sys2Proof.Machine

/-! PROOFS. Recovery from the ROM over TFTP and over the UART (R425 to R427, RFC 1350): each operation in the case that its clause states. -/

namespace Sys2Proof.Machine

-- One proof after another, so that the whole text is checked within the memory of one process.
set_option Elab.async false

/-! ## TFTP requests (R426) -/

section Tftp
variable {s : State} (recovers : s.recovers false = true)
include recovers

theorem State.tftpRequest_opens {t : State} {p : Peer} {name : Bytes} {n : Nat} (free : s.recovery.peer = none) (known : recoveryName name = some n)
    (opened : t = { s with recovery := { s.recovery with peer := some p, name := n, data := [], block := 1 } }) :
    s.tftpRequest p name true false = t.tftpAck p 0 := by
  subst opened
  simp [State.tftpRequest, recovers, free, known]

theorem State.tftpRequest_read (p : Peer) (name : Bytes) (octet : Bool) : s.tftpRequest p name octet true = s.tftpNo p 2 [] := by
  simp [State.tftpRequest, recovers]

theorem State.tftpRequest_busy {q : Peer} (busy : s.recovery.peer = some q) (p : Peer) (name : Bytes) (octet : Bool) :
    s.tftpRequest p name octet false = s.tftpNo p 0 (ascii "BUSY") := by
  simp [State.tftpRequest, recovers, busy]

/-! ## TFTP blocks -/

section Block
variable {t : State} {p : Peer} {n : Nat} {d : Bytes} (peer : s.recovery.peer = some p) (expected : s.recovery.block = n)
  (fits : s.recovery.data.length + d.length ≤ fileRoom s.recovery.name)
  (kept : t = { s with recovery := { s.recovery with data := s.recovery.data ++ d, block := wrapAdd 16 n 1 } })
include peer expected fits kept

/-- The block expected, where its file has room for it, is kept; the shorter one ends the file. -/
theorem State.tftpBlock_kept (most : d.length ≤ 512) : s.tftpBlock p n d = if d.length = 512 then t.tftpAck p n else t.tftpEnd p n := by
  subst kept
  unfold State.tftpBlock
  rw [if_neg (by simp [recovers]), if_neg (by simp [peer]), if_neg (by omega), if_neg (by omega), if_neg (by omega)]

theorem State.tftpBlock_full (full : d.length = 512) : s.tftpBlock p n d = t.tftpAck p n := by
  rw [State.tftpBlock_kept recovers peer expected fits kept full.le, if_pos full]

theorem State.tftpBlock_last (short : d.length < 512) : s.tftpBlock p n d = t.tftpEnd p n := by
  rw [State.tftpBlock_kept recovers peer expected fits kept short.le, if_neg short.ne]

end Block

/-! ## TFTP answers again -/

section Again
variable {p : Peer} (peer : s.recovery.peer = some p) (due : s.recovery.sent + 1000000000 ≤ s.clk.now)
include peer due

theorem State.tftpAgain_sends {v : State} (few : s.recovery.sends < 5) (again : v = s.tftpAck p ((s.recovery.block + 65535) % 65536)) :
    s.tftpAgain = { v with recovery := { v.recovery with sends := s.recovery.sends + 1 } } := by
  subst again
  simp only [State.tftpAgain, peer, recovers, Nat.not_lt.mpr due, Nat.not_le.mpr few, Bool.not_true, decide_false, Bool.or_self, Bool.false_eq_true,
    if_false]

theorem State.tftpAgain_givesUp (many : 5 ≤ s.recovery.sends) : s.tftpAgain = s.tftpClose := by
  simp only [State.tftpAgain, peer, recovers, Nat.not_lt.mpr due, many, Bool.not_true, decide_false, Bool.or_self, Bool.false_eq_true, if_true,
    if_false]

end Again

end Tftp

/-- A file named "reset" ends recovery. -/
theorem State.tftpEnd_reset {s : State} (reset : s.recovery.name = 5) (p : Peer) (n : Nat) :
    s.tftpEnd p n = (s.tftpAck p n).tftpClose.recoveryEnd :=
  if_pos reset

/-- Any other file is checked, and written where it is good. -/
theorem State.tftpEnd_container {s : State} {code : Nat} (container : s.recovery.name ≠ 5) (checked : code = recoveryCode s.recovery.name s.recovery.data)
    (p : Peer) (n : Nat) :
    s.tftpEnd p n = if code = 0 then ((s.recoveryWrite s.recovery.data).tftpAck p n).tftpClose else (s.tftpNo p 0 (ascii "KYD" ++ decimal code)).tftpClose := by
  subst checked
  exact if_neg container

/-! ## The UART (R427) -/

section Uart
variable {s : State} {good : Bool} {body : Bytes} (recovers : s.recovers true = true) (right : good = true)
include recovers right

theorem State.uartTakes_right : s.uartTakes good = true := by
  simp [State.uartTakes, recovers, right]

theorem State.uartOpen_known {t : State} {n : Nat} (known : recoveryName body = some n)
    (opened : t = { s with recovery := { s.recovery with uart := some n, data := [] } }) : s.uartOpen good body = t.uartAnswer 1 0 0 := by
  subst opened
  simp [State.uartOpen, State.uartTakes_right recovers right, known]

theorem State.uartOpen_unknown (unknown : recoveryName body = none) : s.uartOpen good body = s.uartAnswer 1 1 0 := by
  simp [State.uartOpen, State.uartTakes_right recovers right, unknown]

/-- The bytes next in order are kept where their file has room for them. -/
theorem State.uartData_next {t : State} {n : Nat} {d : Bytes} (isOpen : s.recovery.uart = some n) (next : body = leBytes 4 s.recovery.data.length ++ d)
    (small : s.recovery.data.length < 2 ^ 32) (nonempty : 1 ≤ d.length) (most : d.length ≤ 1024) (fits : s.recovery.data.length + d.length ≤ fileRoom n)
    (kept : t = { s with recovery := { s.recovery with data := s.recovery.data ++ d } }) : s.uartData good body = t.uartAnswer 2 0 0 := by
  subst kept next
  have offset : leAt (leBytes 4 s.recovery.data.length ++ d) 0 4 = s.recovery.data.length := leAt_leBytes _ d small
  have data : (leBytes 4 s.recovery.data.length ++ d).drop 4 = d := List.drop_left' (length_leBytes 4 _)
  have length : (leBytes 4 s.recovery.data.length ++ d).length = 4 + d.length := by
    rw [List.length_append, length_leBytes]
  unfold State.uartData
  rw [State.uartTakes_right recovers right]
  simp only [isOpen, offset, data, length, Bool.not_true, Bool.false_eq_true, if_false]
  rw [if_neg (by omega), if_neg (by omega), if_neg (by omega)]

theorem State.uartData_closed (closed : s.recovery.uart = none) : s.uartData good body = s.uartAnswer 2 2 0 := by
  simp [State.uartData, State.uartTakes_right recovers right, closed]

section Close
variable {v : State} {n : Nat} (isOpen : s.recovery.uart = some n) (length : body.length = 4) (total : leAt body 0 4 = s.recovery.data.length)
include isOpen length total

theorem State.uartClose_reset (reset : n = 5) (answered : v = s.uartAnswer 3 0 0) :
    s.uartClose good body = State.recoveryEnd { v with recovery := { v.recovery with uart := none } } := by
  subst answered reset
  simp [State.uartClose, State.uartTakes_right recovers right, isOpen, length, total]

theorem State.uartClose_container (container : n ≠ 5)
    (answered : v = if recoveryCode n s.recovery.data = 0 then (s.recoveryWrite s.recovery.data).uartAnswer 3 0 0
      else s.uartAnswer 3 4 (recoveryCode n s.recovery.data)) :
    s.uartClose good body = { v with recovery := { v.recovery with uart := none } } := by
  subst answered
  simp only [State.uartClose, State.uartTakes_right recovers right, isOpen, length, total, container, Bool.not_true, Bool.false_eq_true, ne_eq,
    not_true, or_self, if_false]
  split <;> rfl

end Close

theorem State.uartReset_ends : s.uartReset good = (s.uartAnswer 4 0 0).recoveryEnd := by
  simp [State.uartReset, State.uartTakes_right recovers right]

end Uart

/-- Settles O28: clause by clause, the command's effect in the stated case, under the one end of a command. -/
theorem romRecovery : Obligations.RomRecovery := by
  unfold Obligations.RomRecovery
  refine ⟨?_, ?_, ?_, ?_, ?_, ?_, ?_, ?_, ?_, ?_, ?_, ?_, ?_, ?_, ?_⟩
  -- TFTP_WRQ (R426)
  · intro s t p name n recovers free known opened
    exact done_of_eq (State.tftpRequest_opens recovers free known opened)
  · intro s p name octet recovers
    exact done_of_eq (State.tftpRequest_read recovers p name octet)
  · intro s p q name octet recovers busy
    exact done_of_eq (State.tftpRequest_busy recovers busy p name octet)
  -- TFTP_DATA (R425, R426)
  · intro s t p n d recovers peer expected full fits kept
    exact done_of_eq (State.tftpBlock_full recovers peer expected fits kept full)
  · intro s t p n d recovers peer expected short reset fits kept
    have ends := State.tftpBlock_last recovers peer expected fits kept short
    exact done_of_eq (ends.trans (State.tftpEnd_reset (by rw [kept]; exact reset) p n.toNat))
  · intro s t p n d code recovers peer expected short container fits kept checked
    have ends := State.tftpBlock_last recovers peer expected fits kept short
    exact done_of_eq (ends.trans (State.tftpEnd_container (by rw [kept]; exact container) checked p n.toNat))
  -- TFTP_RETRANSMIT
  · intro s v p recovers peer due few again
    exact done_of_eq (State.tftpAgain_sends recovers peer due few again)
  · intro s p recovers peer due many
    exact done_of_eq (State.tftpAgain_givesUp recovers peer due many)
  -- UART_OPEN, UART_DATA, UART_CLOSE, UART_RESET (R427)
  · intro s t f n recovers right known opened
    exact done_of_eq (State.uartOpen_known recovers right known opened)
  · intro s f recovers right unknown
    exact done_of_eq (State.uartOpen_unknown recovers right unknown)
  · intro s t f n d recovers right isOpen next small nonempty most fits kept
    exact done_of_eq (State.uartData_next recovers right isOpen next small nonempty most fits kept)
  · intro s f recovers right closed
    exact done_of_eq (State.uartData_closed recovers right closed)
  · intro s v f recovers right isOpen length total answered
    exact done_of_eq (State.uartClose_reset recovers right isOpen length total rfl answered)
  · intro s v f n recovers right isOpen container length total answered
    exact done_of_eq (State.uartClose_container recovers right isOpen length total container answered)
  · intro s f recovers right
    exact done_of_eq (State.uartReset_ends recovers right)

end Sys2Proof.Machine

/-! PROOFS. The board's ring: urgent state, missing members, board time and position (R434 to R440, R447, R448): each operation in the case that its clause states. -/

namespace Sys2Proof.Machine

-- One proof after another, so that the whole text is checked within the memory of one process.
set_option Elab.async false

/-! ## Urgent state and missing members (R447, R448) -/

theorem State.surgent_taken {s v w x : State} {k d hops : Nat} {safe : Bool} (takes : s.seamTakes k d = true)
    (forwarded : v = s.forward k hops [0, 1, 2, 3] (leBytes 1 0xF0 ++ leBytes 1 (hopByte d hops safe) ++ zeros 6))
    (heard : w = { v with board := { v.board with heard := sset 0 v.board.heard d (v.clk.now + 1), missing := setBit v.board.missing d false } })
    (back : x = if bit v.board.missing d = true then w.raise 71 0 (w.presentMap + 2 * 256) else w) :
    s.surgent k d hops safe =
      let y := { x with board := { x.board with peerSafe := setBit x.board.peerSafe d safe } }
      if (safe && !bit x.board.peerSafe d) = true then y.peerFault d false else y.peerCause := by
  subst back heard forwarded
  exact if_neg (by simp [takes])

theorem State.surgentNow_ring {s : State} (ring : s.ring = true) :
    s.surgentNow = (s.seamSend [0, 1, 2, 3] (leBytes 1 0xF0 ++ leBytes 1 (s.seamByte (s.safe && !s.board.peerOnly)) ++ zeros 6)).sentNow 0 :=
  if_pos ring

theorem State.missingMember_silent {s v w : State} {d h : Nat} (ring : s.ring = true) (member : d < s.members) (other : d ≠ s.own)
    (present : bit s.board.missing d = false) (last : h = sget 0 s.board.heard d) (silent : (if h = 0 then s.boot.started else h - 1) + 100000 ≤ s.clk.now)
    (noted : v = { s with board := { s.board with missing := setBit s.board.missing d true } })
    (told : w = v.raise 71 0 ((if bit v.presentMap d = true then v.presentMap - 2 ^ d else v.presentMap) + 256)) :
    s.missingMember d = if (w.flag 0x8800 6 && !bit w.board.peerSafe d) = true then w.peerFault d true else w.peerCause := by
  subst told noted last
  exact if_neg (by simp [ring, member, other, present, silent])

/-! ## Position (R434, R438 to R440) -/

/-- The first SPOS, in time and valid, on a follower that has heard none. -/
theorem State.sposIn_first {s v w : State} {k d hops count at_ : Nat} {c t c0 t0 : Int} (takes : s.seamTakes k d = true)
    (forwarded : v = s.forward k hops [0] (leBytes 1 0xC3 ++ leBytes 1 (hopByte d hops true) ++ leBytes 3 count ++ leBytes 3 at_))
    (follows : v.follows d = true) (none : v.board.spos = none) (anyPort : v.board.sposPort = 0) (from_ : c0 = v.pos.src) (since : t0 = v.boardTime)
    (counts : c = nearest c0 24 count) (stamp : t = nearest t0 24 at_) (inTime : v.boardTime < t + (v.reg 0x8810 1 : Int))
    (kept : w = { v with
      board := { v.board with spos := some (c, t.toNat), sposPort := k + 1, sposAt := v.clk.now, sposRun := v.board.sposRun + 1 },
      pos := { v.pos with future := v.pos.future ++ spread c0 c (t0 + (v.reg 0x8810 1 : Int) - v.offset) (t + (v.reg 0x8810 1 : Int) - v.offset) } }) :
    s.sposIn k d hops true count at_ = w.posLock := by
  have notLate : ¬ v.boardTime > nearest v.boardTime 24 at_ + (v.reg 0x8810 1 : Int) := by
    rw [← since, ← stamp, since]
    omega
  have early : v.boardTime < nearest v.boardTime 24 at_ + (v.reg 0x8810 1 : Int) := by
    rwa [← since, ← stamp, since]
  subst kept stamp counts since from_
  unfold State.sposIn
  dsimp only
  rw [if_neg (by simp [takes]), ← forwarded, if_neg (by simp [follows])]
  simp only [none, anyPort, notLate, early, BEq.rfl, decide_true, decide_false, Bool.or_true, Bool.true_or, Bool.not_true, Option.isSome_none,
    Bool.false_eq_true, and_false, Bool.or_self, Bool.and_self, if_true, if_false]

theorem State.sposSend_due {s : State} {c : Int} {t : Nat} (master : s.master = true) (due : s.sendDue 1 (16 * s.ringBlock) = true)
    (latest : s.latestCount = (c, t)) :
    s.sposSend = (s.seamSend [0] (leBytes 1 0xC3 ++ leBytes 1 (s.seamByte s.pos.posOk) ++ leBytes 3 (ofSigned 24 c) ++ leBytes 3 t)).sentNow 1 := by
  simp only [State.sposSend, master, due, latest, Bool.and_self, if_true]

theorem State.posFullSend_due {s : State} (master : s.master = true) (due : s.sendDue 3 10000000 = true) :
    s.posFullSend = (s.smsg 1 0xFF 0 s.posFull).sentNow 3 :=
  if_pos (by simp [master, due])

theorem State.sposGap_long {s : State} (follower : s.follower = true) (source : s.reg 0x2800 2 = 2)
    (gap : s.board.sposAt + 128 * s.ringBlock / 10 ≤ s.clk.now) : s.sposGap = s.posUnlock 1 :=
  if_pos (by simp [follower, source, gap])

/-! ## Board time (R434 to R437) -/

theorem State.stimeIn_firstPort {s v : State} {k d hops at_ : Nat} {m : Int} (takes : s.seamTakes k d = true)
    (master : m = nearest s.boardTime 48 at_ + (s.seamLatency k : Int))
    (forwarded : v = s.forward k hops [0] (leBytes 1 0xCC ++ leBytes 1 (hopByte d hops false) ++
      leBytes 6 ((if s.follower && s.flag 0x8810 5 then s.boardTime else m) + (2 * s.ringBlock / 10 : Nat)).toNat))
    (follower : v.follower = true) (fromMaster : d = v.reg 0x8800 4) (source : v.reg 0x1000 5 = 1) (anyPort : v.board.stimePort = 0) :
    s.stimeIn k d hops at_ = State.stimeLock { v with board := { v.board with stimePort := k + 1 } } m := by
  subst master
  unfold State.stimeIn
  dsimp only
  rw [if_neg (by simp [takes]), ← forwarded]
  exact if_neg (by simp [follower, ← fromMaster, source, anyPort])

theorem State.stimeSend_due {s : State} (master : s.master = true) (due : s.sendDue 2 (64 * s.ringBlock) = true) :
    s.stimeSend = (s.seamSend [0] (leBytes 1 0xCC ++ leBytes 1 (s.seamByte false) ++ leBytes 6 s.clk.now)).sentNow 2 :=
  if_pos (by simp [master, due])

theorem State.stimeLoss_gone {s v w : State} {t m : Nat} (locked : s.flag 0x8810 5 = true) (last : s.board.stime = some (t, m))
    (gone : t + 10000 ≤ s.clk.now) (unlocked : v = s.set 0x8810 5 0)
    (forgotten : w = { v with board := { s.board with stimes := 0, stime := none, stimePort := 0 } }) :
    s.stimeLoss = (if w.reg 0x1000 5 = 1 then w.steerTo 0 else w).boardLock 2 1 := by
  subst forgotten unlocked
  simp only [State.stimeLoss, locked, last, gone, decide_true, Bool.and_self, if_true]

theorem State.rebaseApply_due {s : State} {e t : Nat} {b : Int} (scheduled : s.board.rebase = some (e, b, t)) (due : (t : Int) ≤ s.boardTime) :
    s.rebaseApply = State.rebaseTo { s with board := { s.board with rebase := none } } e (if s.isMaster = true then b else b + s.offset) := by
  simp only [State.rebaseApply, scheduled, Int.not_lt.mpr due, if_false]

/-! ## Messages of SMSG (R433, R434, R442) -/

/-- An SMSG frame of a kind goes on as it came, one hop further. -/
def State.smsgForwarded (s : State) (k : Fin 4) (o : SeamHead) (g : SeamMsg) (kind : Nat) : State :=
  s.forward k o.hops [g.lane.val] (smsgFrame (hopByte o.origin o.hops false) g.seq.toNat kind g.target.toNat g.count.toNat g.body)

/-- The message is noted as the newest of its origin. -/
def State.smsgNoted (s : State) (o : SeamHead) (g : SeamMsg) : State :=
  { s with board := { s.board with
    seen := (o.origin.val, g.seq.toNat) :: (s.board.seen.filter fun e => e.1 == o.origin.val).take 63 ++ s.board.seen.filter fun e => e.1 != o.origin.val } }

/-- A good message to all, not seen before, is forwarded, noted and acted on. -/
theorem State.smsgOf_first {s : State} {k : Fin 4} {o : SeamHead} {g : SeamMsg} (takes : s.seamTakes k o.origin = true) (good : g.good = true)
    (unseen : s.board.seen.contains (o.origin.val, g.seq.toNat) = false) (all : g.target = 0xFF) (kind : Nat) (act : State → State) :
    s.smsgOf k o g kind act = act ((s.smsgForwarded k o g kind).smsgNoted o g) := by
  have toAll : g.target.toNat = 0xFF := by rw [all]; rfl
  have stillUnseen : (s.smsgForwarded k o g kind).board.seen.contains (o.origin.val, g.seq.toNat) = false := by
    rw [State.smsgForwarded, forward_board, unseen]
  unfold State.smsgOf State.smsgIn
  rw [if_neg (by simp [takes]), if_neg (by simp [good])]
  exact (if_neg (by rw [Bool.not_eq_true]; exact stillUnseen)).trans (if_pos (.inl toAll))

/-- Settles O29: clause by clause, the command's effect in the stated case, under the one end of a command. -/
theorem boardRing : Obligations.BoardRing := by
  unfold Obligations.BoardRing
  refine ⟨?_, ?_, ?_, ?_, ?_, ?_, ?_, ?_, ?_, ?_, ?_, ?_, ?_⟩
  -- SURGENT, SURGENT_SEND, MISSING_MEMBER (R447, R448)
  · intro s v w x k o alive takes forwarded heard back
    exact done_of_eq ((State.awake_alive alive _).trans (State.surgent_taken takes forwarded heard back))
  · intro s alive due ring
    exact done_of_eq ((State.awake_alive alive _).trans ((if_pos due).trans (State.surgentNow_ring ring)))
  · intro s v w d h alive ring member other present last silent noted told
    exact done_of_eq ((State.awake_alive alive _).trans (State.missingMember_silent ring member other present last silent noted told))
  -- SPOS, SPOS_SEND (R438 to R440)
  · intro s v w x k o count at_ c t c0 t0 alive takes forwarded follows none anyPort from_ since counts stamp inTime valid kept locked
    subst locked
    rw [valid] at forwarded
    have taken := State.sposIn_first takes forwarded follows none anyPort from_ since counts stamp inTime kept
    rw [← valid] at taken
    exact done_of_eq ((State.awake_alive alive _).trans taken)
  · intro s c t alive master due latest
    exact done_of_eq ((State.awake_alive alive _).trans (State.sposSend_due master due latest))
  -- POS_FULL, POS_FULL_SEND (R438, R439)
  · intro s k o g alive takes good unseen all
    exact ⟨_, _, rfl, rfl, done_of_eq ((State.awake_alive alive _).trans (State.smsgOf_first takes good unseen all 1 _))⟩
  · intro s alive master due
    exact done_of_eq ((State.awake_alive alive _).trans (State.posFullSend_due master due))
  -- STIME, STIME_SEND, STIME_LOSS (R434 to R437)
  · intro s v k o at_ m alive takes master forwarded follower fromMaster source anyPort
    exact done_of_eq ((State.awake_alive alive _).trans (State.stimeIn_firstPort takes master forwarded follower fromMaster source anyPort))
  · intro s alive master due
    exact done_of_eq ((State.awake_alive alive _).trans (State.stimeSend_due master due))
  · intro s v w t m alive locked last gone unlocked forgotten
    exact done_of_eq ((State.awake_alive alive _).trans (State.stimeLoss_gone locked last gone unlocked forgotten))
  -- SPOS_GAP (R440)
  · intro s alive follower source gap
    exact done_of_eq ((State.awake_alive alive _).trans (State.sposGap_long follower source gap))
  -- REBASE, REBASE_APPLY (R437)
  · intro s k o g alive takes good unseen all
    exact ⟨_, _, rfl, rfl, done_of_eq ((State.awake_alive alive _).trans (State.smsgOf_first takes good unseen all 7 _))⟩
  · intro s e b t alive scheduled due
    exact done_of_eq ((State.awake_alive alive _).trans (State.rebaseApply_due scheduled due))

end Sys2Proof.Machine

/-! PROOFS. The release barrier and the messages between members (R442 to R446, R450, R451): each operation in the case that its clause states. -/

namespace Sys2Proof.Machine

-- One proof after another, so that the whole text is checked within the memory of one process.
set_option Elab.async false

/-! ## The release barrier (R443) -/

/-- The master opens a barrier for a page that may be released. -/
theorem State.barrierStart_opens {s v : State} {p : Page} {q : Nat} (noReopen : s.board.reopen = none) (master : s.master = true)
    (noBarrier : s.board.barrier = none) (next : s.nextRelease = some p) (may : s.releasable p = true) (start : q = (s.startOf p.num).1)
    (sent : v = s.smsg 2 0xFF 0 (leBytes 4 p.id ++ leBytes 4 p.len ++ leBytes 4 p.reps ++ leBytes 4 p.gap ++ leBytes 8 q)) :
    s.barrierStart =
      State.set { v with board := { v.board with barrier := some ⟨p.id, p.len, p.reps, p.gap, q, p.num, 2 ^ s.own, s.clk.now⟩ } } 0x8830 2 1 := by
  subst sent start
  simp only [State.barrierStart, noReopen, master, noBarrier, next, may, Option.isSome_none, Bool.not_true, Bool.or_self, Bool.false_eq_true, if_false]

theorem State.barrierTimeout_due {s : State} {b : Barrier} (isOpen : s.board.barrier = some b) (due : b.opened + s.reg 0x8830 1 * 1000000 ≤ s.clk.now) :
    s.barrierTimeout = s.barrierFail b 5 0 := by
  simp only [State.barrierTimeout, isOpen, due, if_true]

theorem State.barrierReopen_due {s : State} {t : Nat} (waiting : s.board.reopen = some t) (due : t ≤ s.clk.now) :
    s.barrierReopen = State.barrierStart { s with board := { s.board with reopen := none } } := by
  simp only [State.barrierReopen, waiting, due, if_true]

/-! ## USER (R450) -/

theorem State.userSend_sent {s : State} (several : 1 < s.members) (n : Nat) :
    s.userSend n = (s.smsg 8 (s.reg 0x8840 1) n (s.bytes 0x8840 2 0 n), true) :=
  if_neg (Nat.not_le.mpr several)

/-- Settles O30: clause by clause, the command's effect in the stated case, under the one end of a command. -/
theorem releaseBarrierAndMessages : Obligations.ReleaseBarrierAndMessages := by
  unfold Obligations.ReleaseBarrierAndMessages
  refine ⟨?_, ?_, ?_, ?_, ?_, ?_, ?_, ?_, ?_, ?_⟩
  -- BARRIER_START (R443)
  · intro s v p q alive noReopen master noBarrier next may start sent
    exact done_of_eq ((State.awake_alive alive _).trans (State.barrierStart_opens noReopen master noBarrier next may start sent))
  -- BARRIER_OPEN, VOTE, RELEASE (R443, R444)
  · intro s k o g alive takes good unseen all
    exact ⟨_, _, rfl, rfl, done_of_eq ((State.awake_alive alive _).trans (State.smsgOf_first takes good unseen all 2 _))⟩
  · intro s k o g alive takes good unseen all
    exact ⟨_, _, rfl, rfl, done_of_eq ((State.awake_alive alive _).trans (State.smsgOf_first takes good unseen all 3 _))⟩
  · intro s k o g alive takes good unseen all
    exact ⟨_, _, rfl, rfl, done_of_eq ((State.awake_alive alive _).trans (State.smsgOf_first takes good unseen all 4 _))⟩
  -- FROG, SPOIL, USER (R444 to R446, R451)
  · intro s k o g alive takes good unseen all
    exact ⟨_, _, rfl, rfl, done_of_eq ((State.awake_alive alive _).trans (State.smsgOf_first takes good unseen all 5 _))⟩
  · intro s k o g alive takes good unseen all
    exact ⟨_, _, rfl, rfl, done_of_eq ((State.awake_alive alive _).trans (State.smsgOf_first takes good unseen all 6 _))⟩
  · intro s k o g alive takes good unseen all
    exact ⟨_, _, rfl, rfl, done_of_eq ((State.awake_alive alive _).trans (State.smsgOf_first takes good unseen all 8 _))⟩
  -- BARRIER_TIMEOUT, BARRIER_REOPEN_DELAY (R443)
  · intro s b alive isOpen due
    exact done_of_eq ((State.awake_alive alive _).trans (State.barrierTimeout_due isOpen due))
  · intro s t alive waiting due
    exact done_of_eq ((State.awake_alive alive _).trans (State.barrierReopen_due waiting due))
  -- USER_SEND (R450)
  · intro s u h n admits counted several
    subst counted
    exact done_of_eq (State.serveCmd_accepted admits (State.userSend_sent several n.toNat))

end Sys2Proof.Machine
